-- ==== Sys2Proof/Word.lean ====
section
/-!
DEFINITION. Sys2Proof/Word.lean: the byte type and the plainest arithmetic on byte strings: little-endian fields (R10)
and the two readings of a fixed-width number.
-/

namespace Sys2Proof

/-- One byte of an object, a packet or a binary layout. -/
abbrev Byte := BitVec 8

/-- A byte string, lowest address first. -/
abbrev Bytes := List Byte

/-- `n` bytes of `v`, little-endian (R10). -/
def leBytes : Nat → Nat → Bytes
  | 0, _ => []
  | n + 1, v => BitVec.ofNat 8 v :: leBytes n (v / 256)

/-- The number a little-endian byte string holds (R10). -/
def leNat : Bytes → Nat
  | [] => 0
  | b :: bs => b.toNat + 256 * leNat bs

/-- `n` bytes of `v`, big-endian. -/
def beBytes (n v : Nat) : Bytes := (leBytes n v).reverse

/-- The number a big-endian byte string holds. -/
def beNat (bs : Bytes) : Nat := leNat bs.reverse

/-- The little-endian field of `n` bytes at offset `o` (bytes past the end read as none). -/
def fieldLE (bs : Bytes) (o n : Nat) : Nat := leNat ((bs.drop o).take n)

/-- Byte `o` of a byte string as a number; 0 past its end. -/
def byteAt (bs : Bytes) (o : Nat) : Nat := ((bs[o]?).getD 0).toNat

/-- Bit `n` of a number. -/
def bitOf (v n : Nat) : Bool := v / 2 ^ n % 2 == 1

/-- The two's-complement reading of a `w`-bit number (R9). -/
def signed (w v : Nat) : Int :=
  let m := v % 2 ^ w
  if m < 2 ^ (w - 1) then (m : Int) else (m : Int) - (2 : Int) ^ w

/-- The `w`-bit number that stands for an integer (R9). -/
def unsigned (w : Nat) (v : Int) : Nat := (v % (2 : Int) ^ w).toNat

/-- A number limited to `lo` … `hi`. -/
def clampInt (v lo hi : Int) : Int := max lo (min hi v)

/-- `a` and `b`, both bitmaps, without the bits of `b`: the bits of `a` that `b` leaves clear. -/
def bitsClear (a b : Nat) : Nat := a - (a &&& b)

/-- How many of the lowest `n` bits of a bitmap are set. -/
def popcount : Nat → Nat → Nat
  | 0, _ => 0
  | n + 1, v => v % 2 + popcount n (v / 2)

/-- A list with one place changed; unchanged where there is no such place. -/
def modAt {α : Type} (l : List α) (n : Nat) (f : α → α) : List α := l.modify n f

end Sys2Proof
end

