-- ==== Sys2Proof/Syntax.lean ====
section
/-!
DEFINITION. Sys2Proof/Syntax.lean: the commands of the block, one constructor per row of spec/opcode_table.json, in the
table's order. A command is an access of the host, an event of a pin, a bus or a unit, or the falling due of a time.
The first operand of every command is the instant at which it falls, in nanoseconds of local time since reset (log
entry 3); what the outside world supplies with the event (a frame's bytes, a sensor's reading) stands in the others.
COPY and FILL hold both, the instant and the fetch line at it, in one operand.
-/

namespace Sys2Proof

/-- Where a host access comes from (R35): a CAN port, or UDP from an address in IPv6 form. -/
inductive Path where
  | can (port : Nat)
  | udp (source : Nat)
  | internal
  deriving DecidableEq, Repr

/-- The clock domains of R25 that have a PLL. -/
inductive PllDomain where
  | management | carver | memory | media | panelLanes | twinLanes | flatLanes | ethLanes
  deriving DecidableEq, Repr

/-- One request on a CAN port's SDO or USDO server channel (R35, R40). Toggle bits and CRC results are the carrier's. -/
inductive SdoRequest where
  | initiateDownload (index sub : Nat) (data : Bytes)
  | initiateSegmentedDownload (index sub size : Nat)
  | downloadSegment (toggle : Bool) (data : Bytes) (last : Bool)
  | initiateBlockDownload (index sub size : Nat)
  | blockData (data : Bytes)
  | blockEnd (crc : Nat)
  | initiateUpload (index sub : Nat)
  | uploadSegment (toggle : Bool)
  | initiateBlockUpload (index sub : Nat)
  | blockUploadNext (received blockSize : Nat)
  | blockUploadEnd
  | clientAbort
  | invalid
  deriving DecidableEq, Repr

/-- The header of an upstream packet (R153), with the result of its CRC check. -/
structure UpHeader where
  kind : Nat
  flags : Nat
  sequence : Nat
  hubEpoch : Nat
  ports : Nat
  module : Nat
  tag : Nat
  deriving DecidableEq, Repr

/-- Why a Maelwin lane is retired (R146) or a link retrains (R147). -/
inductive LaneEvent where
  | errorLimit | lockLost | sparePrbs | loopbackFailed
  deriving DecidableEq, Repr

inductive RetrainReason where
  | widthChange | backChannelLost | deskewLost | fourthTransmission
  deriving DecidableEq, Repr

/-- A job that the Groomer's engine completes: the client, 1 the Beacon record or 3 the host as R283 numbers them (2, DOMAIN intake,
completes by DOMAIN_STAGING_CHECK), and the blocks whose comparison failed (R281). -/
structure JobReport where
  client : Nat
  failures : List Nat
  deriving DecidableEq, Repr

/-- What the decoder meets in an access unit (R261): CTUs in raster order, lost ones as first and last. -/
inductive DecodeEvent where
  | clean
  | syntaxError (goodCtus : Nat)
  | lostSlices (lost : List (Nat × Nat))
  deriving DecidableEq, Repr

/-- One access unit as the HEVC decoder core delivers it: its samples and what it signals (R259 to R265). -/
structure AccessUnit where
  /-- Of its SPS: the profile as 0x3A10.03 numbers them (0 another one), and the level, thirty times its number. -/
  profile : Nat
  level : Nat
  /-- A field indication of the picture: ignored (R259). -/
  field : Bool
  /-- The time that decoding takes, in ns (R262). -/
  takes : Nat
  /-- Sample positions, column and row, that decoding would write outside the picture itself (R263). -/
  writes : List (Nat × Nat)
  irap : Bool
  rasl : Bool
  event : DecodeEvent
  width : Nat
  height : Nat
  bitDepth : Nat
  ctu : Nat
  bt601 : Bool
  fullRange : Bool
  /-- References the picture uses: presentation times of pictures in the decoded picture buffer or missing ones. -/
  references : List Nat
  luma : List Nat
  cb : List Nat
  cr : List Nat
  deriving DecidableEq, Repr

/-- The clients that read and write DRAM, with what a block holds that poisoned data can hurt (R17, R329): texels by raster number. -/
inductive DramClient where
  | carverVideo (layer : Nat) (texels : List Nat) | carverDepth (layer : Nat) (texels : List Nat)
  | carverGraphic (surface : Nat) (texels : List Nat)
  | rayMapEntry (lenslet : Nat) | geometryBlock (bank : Nat) | gainMap (block : Nat) | stressCounter (block colour : Nat)
  | stressLevel (block colour : Nat) | expectedChecksum (tile : Nat) | decoder (slot : Nat)
  | encoder (stream : Nat) | cameraRaw (port : Nat) | ispOutput (port : Nat) | flatOutput (output line pixel : Nat)
  | domainStaging (index sub : Nat) | firmware | rinkboardMirror | beaconStaging | liftMap | other
  deriving DecidableEq, Repr

/-- A client's access to one 32-byte block (R311, R317): none for a read, or the first byte it writes and the bytes; and whether another
request to the same row is queued. -/
structure DramOp where
  write : Option (Nat × List Nat)
  queued : Bool
  deriving DecidableEq, Repr

/-- One chunk copied (R323): the instant, and the blocks that did not read clean with the symbols read. -/
structure CopyStep where
  t : Nat
  reads : List (Nat × List Nat)
  deriving DecidableEq, Repr

/-- What a channel's training finds (R309, R320, R321): the densities of mode register 8 and the DQS oscillator counts of its ranks, and the
PHY temperature. -/
structure TrainingReport where
  densities : List Nat
  oscillators : List Nat
  temperature : Nat
  deriving DecidableEq, Repr

/-- One finding of the SRAM scrub or of a self-test: pool (R16 order), macro, row, bit corrections, a double error. -/
structure SramFinding where
  pool : Nat
  macroNo : Nat
  row : Nat
  corrections : Nat
  double : Bool
  deriving DecidableEq, Repr

/-- What the outside world holds ready when a cold start runs (R429): the strap, the record port, the firmware slots
and the self-tests' results. -/
structure BootFacts where
  cause : Nat
  strapB : Bool
  slotOk : List Bool
  slotReadable : Bool
  /-- Macros with a failing column, and the column. -/
  sramColumns : List (Nat × Nat)
  sram : List SramFinding
  carversFailed : Nat
  ispFailed : Nat
  slalomFailed : Nat
  encoderFailed : Nat
  decoderFailed : Nat
  groomerFailed : Bool
  blitterFailed : Bool
  deriving DecidableEq, Repr

/-- The comparison data set of a PTP Announce (R363): lower is better, field by field. -/
structure Announce where
  priority1 : Nat
  clockClass : Nat
  clockAccuracy : Nat
  variance : Nat
  priority2 : Nat
  identity : Nat
  steps : Nat
  deriving DecidableEq, Repr

/-- An item by its number, and the outcome of what was done for it: a read-back, a seal, the fit of a slot's buffers. -/
structure ItemResult where
  item : Nat
  ok : Bool
  deriving DecidableEq, Repr

/-- The result of a job: the item whose job it is, and the placement epoch that it carries (R347). -/
structure JobResult where
  item : Nat
  epoch : Nat
  deriving DecidableEq, Repr

/-- An SDO frame from a host: the COB-ID it bears and the request in it (R40). -/
structure SdoFrame where
  cob : Nat
  request : SdoRequest
  deriving DecidableEq, Repr

/-- An upstream packet as received: its bytes from header to CRC, and whether EDB ended it (R148, R153). -/
structure UpPacket where
  bytes : Bytes
  edb : Bool
  deriving DecidableEq, Repr

/-- Where an Ethernet frame arrives: the MAC, and the destination address it bears (R360). -/
structure Arrival where
  mac : Nat
  dest : Nat
  /-- Bytes from the destination address to the frame check sequence, with the IEEE 802.1Q tag if it has one. -/
  length : Nat
  tagged : Bool
  deriving DecidableEq, Repr

/-- How a UDP datagram arrives: its frame, and its destination port (R45, R377). -/
structure UdpArrival where
  arrival : Arrival
  dport : Nat
  deriving DecidableEq, Repr

/-- A datagram that is offered as a readiness frame (R377). -/
structure ReadinessArrival where
  udp : UdpArrival
  frame : Bytes
  deriving DecidableEq, Repr

/-- How a PTP message arrives: its frame, its carriage in the order in which R363 lists the profiles, and its domain. -/
structure PtpArrival where
  arrival : Arrival
  carriage : Nat
  domain : Nat
  deriving DecidableEq, Repr

/-- A message of the path delay measurement: a request received, a response received, or a request of the device's own that is due (R363). -/
inductive DelayMessage where
  | asked | answered | due
  deriving DecidableEq, Repr

/-- The header of an AVTP packet as far as R370 fixes it: the stream, and what an accepted packet bears. -/
structure AvtpHeader where
  stream : Nat
  subtype : Nat
  format : Nat
  formatSubtype : Nat
  sv : Bool
  tv : Bool
  tu : Bool
  deriving DecidableEq, Repr

/-- The instant of a draw, and the fetch line of the output that it chases at that instant (R294). -/
structure DrawInstant where
  t : Nat
  fetchLine : Nat
  deriving DecidableEq, Repr

/-- A place of a scan: the line and the pixel in it (R300). -/
structure ScanPlace where
  line : Nat
  pixel : Nat
  deriving DecidableEq, Repr

/-- A health report with the sequence number of the twin packet that brings it (R385, R386). -/
structure TwinReport where
  sequence : Nat
  report : Bytes
  deriving DecidableEq, Repr

/-- What has been found on a twin lane (R146, R387, R396): errors counted within one second, of its code on a data lane and of the PRBS on
the spare; none where the lane has lost lock or deskew. -/
structure TwinLaneReport where
  lane : Nat
  errors : Option Nat
  deriving DecidableEq, Repr

/-- The commands, one constructor per row of spec/opcode_table.json. -/
inductive Instr where
  -- the dictionary and its access paths
  | registerWrite (t : Nat) (path : Path) (index sub : Nat) (data : Bytes)
  | domainStagingCheck (t index : Nat) (check : ItemResult)
  | udpRead (t : Nat) (source : Nat) (arrival : UdpArrival) (frame : Bytes)
  | udpWrite (t : Nat) (source : Nat) (arrival : UdpArrival) (frame : Bytes)
  | udpBulkStart (t : Nat) (source : Nat) (arrival : UdpArrival) (frame : Bytes)
  | udpBulkData (t : Nat) (source : Nat) (arrival : UdpArrival) (frame : Bytes)
  | transactionTimeout (t : Nat) (source transaction : Nat)
  | sdoTransfer (t port : Nat) (frame : SdoFrame)
  | sdoTimeout (t : Nat) (port : Nat)
  | nmtStart (t : Nat) (port node : Nat)
  | nmtStop (t : Nat) (port node : Nat)
  | nmtEnterPreOperational (t : Nat) (port node : Nat)
  | nmtResetCommunication (t : Nat) (port node : Nat)
  | nmtResetNode (t : Nat) (port node : Nat)
  | producerHeartbeat (t : Nat) (port : Nat)
  | emcyInhibitExpiry (t : Nat) (port : Nat)
  | eventsLostFrame (t : Nat)
  | eventAcknowledge (t : Nat) (path : Path) (sequence : Nat)
  | fullReset (t : Nat) (path : Path) (value : Nat)
  | fullResetExecute (t : Nat)
  | functionReset (t : Nat) (path : Path) (function : Nat)
  | functionResetComplete (t : Nat) (function : Nat)
  -- power states
  | requestRun (t : Nat) (path : Path)
  | requestHold (t : Nat) (path : Path)
  | requestSleep (t : Nat) (path : Path)
  | requestOff (t : Nat) (path : Path)
  | powerEntryComplete (t : Nat)
  | pllLock (t : Nat) (domain : PllDomain)
  | thermalTripClear (t : Nat)
  | canWake (t : Nat) (port : Nat)
  | wakeTimerExpiry (t : Nat)
  | sleepWake (t : Nat) (digestOk : Bool)
  -- scenes, layers, epochs
  | commitRequest (t : Nat) (path : Path)
  | contentFrameTick (t : Nat)
  | holdLimitExpiry (t : Nat) (layer : Nat)
  | layerStale (t : Nat) (layer : Nat)
  | safetyRerender (t : Nat) (port : Nat)
  | surfaceFormat (t : Nat) (path : Path) (surface format : Nat)
  -- the ray map
  | rayMapSwapRequest (t : Nat) (path : Path)
  | rayMapSwapWithdraw (t : Nat) (path : Path)
  | shadowGeometry (t : Nat) (path : Path) (data : Bytes) (readBackOk : Bool)
  | shadowEntries (t : Nat) (path : Path) (data : Bytes) (readBackOk : Bool)
  | shadowEntryPatch (t : Nat) (path : Path) (data : Bytes) (readBackOk : Bool)
  | shadowCopyRequest (t : Nat) (path : Path)
  -- carving
  | tileBandIssue (t : Nat) (carver : Nat)
  | tileBandComplete (t : Nat) (carver band epoch : Nat)
  | witnessBufferComplete (t : Nat)
  | goldenTile (t : Nat) (carver crc : Nat)
  -- the Maelwin link
  | linkTraining (t : Nat) (locked : Nat) (capabilities : Bytes)
  | trainingStepTimeout (t : Nat) (step : Nat)
  | deskewSet (t : Nat)
  | idleRefresh (t : Nat)
  | laneRetire (t : Nat) (lane : Nat) (event : LaneEvent)
  | retrain (t : Nat) (reason : RetrainReason)
  | rectangleAllocate (t : Nat) (module column row columns rows : Nat)
  | update (t : Nat) (rectangle column row count : Nat)
  | present (t : Nat)
  | claim (t : Nat)
  | readHubCapabilities (t : Nat)
  | readModuleStatus (t : Nat) (module : Nat)
  | readTile (t : Nat) (module column row : Nat)
  | readWindowChecksum (t : Nat) (module slot : Nat)
  | readSenseResult (t : Nat) (module : Nat)
  | readModuleEvent (t : Nat) (module : Nat)
  | discardStaged (t : Nat) (module : Nat)
  | setWindow (t : Nat) (module slot column row columns rows : Nat)
  | driveTableChunk (t : Nat) (table offset length : Nat)
  | driveTableCommit (t : Nat) (table : Nat)
  | presentationMode (t : Nat) (frameAtomic : Bool)
  | startSensing (t : Nat) (module : Nat)
  | ack (t : Nat) (packet : UpPacket)
  | nak (t : Nat) (packet : UpPacket)
  | readResponse (t : Nat) (packet : Bytes) (edb : Bool)
  | status (t : Nat) (packet : UpPacket) (locked : Nat) (errors : List Nat)
  | retryTimeout (t : Nat)
  | readTimeout (t : Nat) (tag : Nat)
  -- panel care
  | checkRequest (t : Nat) (path : Path) (data : Bytes)
  | temperaturePoll (t : Nat) (module : Nat) (status : Bytes)
  | temperatureReportLost (t : Nat) (module : Nat)
  | driveTableWrite (t : Nat) (path : Path) (table : Nat) (data : Bytes)
  | driveTableVerify (t : Nat) (crcs : List Nat)
  | stressCounterUpdate (t : Nat)
  | senseRequest (t : Nat) (path : Path) (module : Nat)
  | senseResultRead (t : Nat) (result : Bytes)
  -- camera intake
  | portEnable (t : Nat) (path : Path) (port value : Nat)
  | frameStart (t : Nat) (port frameNumber : Nat)
  | lineReceive (t : Nat) (port channel dataType headerEcc : Nat) (crcOk : Bool) (samples : List Nat)
  | frameEnd (t : Nat) (port : Nat)
  | frameEndTimeout (t : Nat) (port : Nat)
  | portLost (t : Nat) (port : Nat)
  | ispFrameComplete (t : Nat) (job : JobResult)
  | ispPipelineFail (t : Nat) (pipeline : Nat)
  | cciWriteDeadline (t : Nat) (port : Nat)
  | cciWrite (t : Nat) (path : Path) (port : Nat) (data : Bytes)
  | cciRead (t : Nat) (path : Path) (port : Nat) (data : Bytes)
  | cciTransactionComplete (t : Nat) (master : Nat) (acked : Bool) (data : Bytes)
  | cciBusStuck (t : Nat) (master : Nat)
  | cciBusRecovery (t : Nat) (master : Nat) (busFree : Bool)
  -- Slalom
  | pairEnable (t : Nat) (path : Path) (pair value : Nat)
  | stereoRowSearch (t : Nat) (job : JobResult) (row : Nat)
  | stereoFrameAbandon (t : Nat) (pair : Nat)
  | motionSearch (t : Nat) (job : JobResult) (blockX blockY : Nat)
  | slalomEngineFail (t : Nat) (engine : Nat)
  -- video coding
  | streamEnable (t : Nat) (path : Path) (stream : Nat)
  | streamDisable (t : Nat) (path : Path) (stream : Nat)
  | pictureCode (t : Nat) (stream : Nat) (headerBits : Nat) (ctuBits : List Nat) (slice : Bytes)
  | sealMake (t : Nat) (result : ItemResult)
  | encoderCoreFail (t : Nat) (core : Nat)
  | slotEnable (t : Nat) (path : Path) (slot : ItemResult) (value : Nat)
  | avtpReceive (t : Nat) (arrival : Arrival) (header : AvtpHeader) (sequence timestamp : Nat) (last : Bool) (payload : Bytes)
  | pictureDecode (t : Nat) (slot : Nat) (unit : AccessUnit)
  | slotStarved (t : Nat) (slot : Nat)
  | cycleBudgetOverrun (t : Nat) (slot : Nat) (unit : AccessUnit) (goodCtus : Nat)
  | decoderCoreFail (t : Nat) (core : Nat)
  -- Groomer
  | hostJobCompress (t : Nat) (path : Path) (data : Bytes)
  | hostJobDecompress (t : Nat) (path : Path) (data : Bytes)
  | groomerJobComplete (t : Nat) (verifyFailures : JobReport)
  -- blitter and flat outputs
  | blitList (t : Nat) (path : Path) (data : Bytes)
  | copy (draw : DrawInstant)
  | fill (draw : DrawInstant)
  | waitLine (t : Nat) (line : Nat)
  | blitStep (t : Nat) (fetchLine : Nat)
  | outputEnable (t : Nat) (path : Path) (output value : Nat) (trained : Bool)
  | flatTrainingRetry (t : Nat) (output : Nat) (trained : Bool)
  | hpdChange (t : Nat) (output : Nat) (high : Bool) (trained : Bool)
  | irqHpd (t : Nat) (output : Nat) (linkLost : Bool) (trained : Bool)
  | scanCommit (t : Nat) (path : Path) (output : Nat)
  | scanLatch (t : Nat) (output : Nat)
  | timingCommit (t : Nat) (path : Path) (output : Nat)
  | timingApply (t : Nat) (output : Nat)
  | underrunLine (t output : Nat) (place : ScanPlace)
  -- memory
  | dramAccess (t : Nat) (client : DramClient) (rank chunk block : Nat) (op : DramOp) (symbols : List Nat)
  | migrationChunkCopy (step : CopyStep)
  | mr4Poll (t : Nat) (rank mr4 oscillator : Nat)
  | refresh (t : Nat) (rank : Nat) (class1Waiting : Bool)
  | powerDownEntry (t : Nat) (rank : Nat)
  | patrolScrub (t : Nat) (rank chunk block : Nat) (symbols : List Nat)
  | channelTraining (t : Nat) (channel : Nat) (trained : Bool) (report : TrainingReport)
  | driftRecentre (t : Nat) (channel temperature : Nat) (converged : Bool)
  | recentreRetry (t : Nat) (channel : Nat) (converged : Bool)
  | sramScrub (t : Nat) (findings : List SramFinding)
  -- Lift, the Plough and the housekeeping round
  | housekeepingSlot (t : Nat) (channel reading : Nat)
  | ploughEvaluation (t : Nat)
  | powerLimit (t : Nat) (path : Path) (milliwatts : Nat)
  -- time and network
  | macLinkChange (t : Nat) (mac rate : Nat)
  | syncReceive (t : Nat) (arrival : PtpArrival) (masterTime : Nat)
  | announceReceive (t : Nat) (arrival : PtpArrival) (data : Announce)
  | announceTimeout (t : Nat) (mac : Nat)
  | syncSend (t : Nat) (mac : Nat)
  | frameLockEdge (t : Nat) (input : Nat)
  | frameLockLost (t : Nat)
  | outputMode (t : Nat) (path : Path) (output mode : Nat)
  | timeOutEdge (t : Nat) (output : Nat)
  | captureEdge (t : Nat) (input : Nat) (rising : Bool) (width : Nat)
  | timestampsRead (t : Nat) (path : Path) (input : Nat)
  | readinessDecision (t : Nat)
  | readinessRepeat (t : Nat)
  | readinessFrameReceive (t : Nat) (datagram : ReadinessArrival)
  | readinessDeadline (t : Nat)
  -- the pair
  | hbEdge (t : Nat)
  | twinHeartbeat (t : Nat) (codeOk : Bool) (count state : Nat)
  | twinHeartbeatSend (t : Nat)
  | pathSilent (t : Nat) (twin : Bool)
  | takeover (t : Nat)
  | roleDecision (t : Nat)
  | dualStandbyResolve (t : Nat)
  | health (t : Nat) (packet : TwinReport)
  | healthSend (t : Nat)
  | mirror (t : Nat) (sequence : Nat) (records : Bytes)
  | changed (t : Nat) (sequence offset : Nat) (bitmap : Bytes)
  | commit (t : Nat) (sequence epoch tag tick outcome : Nat)
  | stress (t : Nat) (sequence offset : Nat) (data : Bytes)
  | statistics (t : Nat) (sequence port : Nat) (block : Bytes)
  | handover (t : Nat) (sequence ownershipEpoch mirrorSequence : Nat)
  | hello (t : Nat) (sequence : Nat)
  | twinLaneRetire (t : Nat) (found : TwinLaneReport)
  | roleHandover (t : Nat) (path : Path)
  | handoverTimeout (t : Nat)
  -- faults and the Beacon record
  | faultHandlingSlot (t : Nat)
  | fullResetServe (t : Nat)
  | beaconEntryWrite (t : Nat) (readBackOk : Bool) (rate : Nat)
  | recoveryEntry (t : Nat)
  | hostNote (t : Nat) (path : Path) (note : Bytes)
  | beaconRead (t : Nat) (path : Path)
  -- power failure, reset and start-up
  | pfailGlitch (t : Nat)
  | pfailRecognition (t : Nat)
  | pfailRelease (t : Nat)
  | pfailWaitForReset (t : Nat)
  | resetNAssert (t : Nat) (width : Nat)
  | coldStart (t : Nat) (facts : BootFacts)
  | startupWritesResume (t : Nat)
  | watchdogReset (t : Nat)
  | lockstepMismatch (t : Nat)
  | xtalSwitch (t : Nat)
  -- calibration, one-time settings, firmware
  | calibrateBias (t : Nat) (first second : Nat) (withinBudget : Bool)
  | calibrateOscillators (t : Nat) (rcTap : Nat) (sensorTaps : List Nat) (converged : Bool)
  | calibrateTemperature (t : Nat) (means : List Int) (steady : Bool)
  | calibrateSram (t : Nat) (findings : List SramFinding) (finished : Bool)
  | calibrationRunEnd (t : Nat)
  | otpBurn (t : Nat) (path : Path) (value : Nat)
  | otpBurnComplete (t : Nat) (readBackOk : Bool)
  | firmwareInstall (t : Nat) (path : Path) (image : Bytes) (readBackOk : Bool)
  -- the rest, in the table's order
  | twinLinkTraining (t : Nat) (locked : Nat)
  | twinAck (t : Nat) (isNak : Bool) (sequence : Nat)
  | twinRetryTimeout (t : Nat)
  | blitterFault (t : Nat)
  | carverFault (t : Nat) (carver : Nat)
  | sealDeadline (t : Nat) (stream : Nat)
  | laneLoopback (t : Nat) (lane : Nat) (passed : Bool)
  | announceSend (t : Nat) (mac : Nat)
  | delayRequestResponse (t : Nat) (arrival : PtpArrival) (message : DelayMessage) (requester delay : Nat)
  | arpNeighbourDiscovery (t : Nat) (arrival : Arrival) (v6 : Bool) (request : Bool) (sender senderMac target : Nat)
  | icmpEcho (t : Nat) (arrival : Arrival) (v6 : Bool) (sender target : Nat) (data : Bytes)
  deriving DecidableEq, Repr

end Sys2Proof
end

