-- ==== Sys2Proof/Config.lean ====
section
/-!
DEFINITION. Sys2Proof/Config.lean: what an implementation, a device or a board fixes and the spec does not (constants
without a body: no proof can see their values), and the free values, functions without a body of a plain counter of
State (log entry 1) or of the operands they depend on.
-/

namespace Sys2Proof.Config

/-- A value the spec leaves open: the `k`-th draw, as a number; a reader takes it modulo the width it needs. -/
opaque freeValue : Nat → Nat

/-- How long a function reset shows Resetting before Starting, in ns, by the function (R64 gives the two states no lengths). -/
opaque resettingTime : Nat → Nat

/-- Per device: the factory device identifier 0x3B00.03 (R269); its low 32 bits are the serial number 0x1018.04 (R5). -/
opaque deviceIdentifier : BitVec 64

/-- Per device: the order code 0x2000.01 is NVY9640-FX rather than NVY9640-AG3 (R1, R5). -/
opaque orderCodeFX : Bool

/-- The version of the ROM factory image and of a firmware that no install names (0x1018.03, R5). -/
opaque firmwareVersion : BitVec 32

/-- The text of a firmware version that 0x100A.00 gives (R41 states no format): its characters. -/
opaque versionText : Nat → Bytes

/-- Per device: the addresses of MAC0 and MAC1 (R378). -/
opaque macAddress : Nat → BitVec 48

/-- Per device: the P-256 public key 0x3B00.01 and its attestation 0x3B00.02, 64 bytes each (R269). -/
opaque publicKey : Nat → Byte
opaque keyAttestation : Nat → Byte

/-- ECDSA over P-256 with the device key and the nonce of RFC 6979 (R254): byte `i` of the signature of a hash. -/
opaque signature : Bytes → Nat → Byte

/-- Whether a firmware image's signature verifies under the Naonavos firmware key (R433). -/
opaque firmwareSignatureOk : Bytes → Bool

/-- The blocks of the frame that the Groomer's encoder writes for a block at a level (R280): the search is the implementation's. -/
opaque zstdBlocks : Nat → Bytes → Bytes

/-- The CRC-32C constant of the golden tile held in firmware (R348). -/
opaque goldenTileCrc : Nat

/-- The factory coefficient sets 0 to 3 (R122): set, phase, tap; the spec gives only phase 0 of set 0. -/
opaque factoryTap : Nat → Nat → Nat → Int

/-- The factory tone curve of R223: its 257 points. -/
opaque factoryTone : Nat → Nat

/-- The factory trims of factory OTP: bias code, RC tap and sensor taps, bytes 24 to 87 of R439. -/
opaque factoryTrim : Nat → Byte

/-- The slice a core writes for a P picture of 32 × 32 skip CUs of a size, by the picture's count (R246, R255). -/
opaque skipPicture : Nat → Nat → Nat → Bytes

/-- The coding parameters of a stream (R245): profile 1 Main or 2 Main 10, level (thirty times its number), tier, picture size and period
(as a ratio in ns), and the tools, which are the same for every stream: sizes of a CTU and the least and greatest of a CU and a TU, the
references of a P picture, and the VUI's colour description (1 is BT.709 in ITU-T H.265). -/
structure CodingSet where
  profile : Nat
  level : Nat
  high : Bool
  width : Nat
  height : Nat
  period : Nat × Nat
  ctu : Nat := 32
  leastCu : Nat := 8
  greatestCu : Nat := 32
  leastTu : Nat := 4
  greatestTu : Nat := 32
  slices : Nat := 1
  references : Nat := 2
  frames : Bool := true
  tiles : Bool := false
  wavefront : Bool := false
  bPictures : Bool := false
  deblocking : Bool := true
  sao : Bool := true
  primaries : Nat := 1
  transfer : Nat := 1
  matrix : Nat := 1
  fullRange : Bool := true
  timing : Bool := true
  deriving DecidableEq, Repr

/-- The VPS (0), SPS (1) and PPS (2) NAL units in which ITU-T H.265 writes a stream's coding parameters (R245). -/
opaque parameterSet : Nat → CodingSet → Bytes

/-- What every degraded CTU is (R250): one skip CU with a merge index, or one intra DC CU with no residual; its size, QP and greatest
number of bits. -/
structure DegradedCtu where
  skip : Bool
  merge : Nat
  dc : Bool
  size : Nat
  qp : Nat
  bits : Nat
  deriving DecidableEq, Repr

/-- What a core codes: the coding parameters, whether the picture is IDR, its samples as the profile codes them, those of the pictures it
may refer to, and the QP of every CTU (R245, R249). -/
structure CodingTask where
  set : CodingSet
  idr : Bool
  samples : List Nat
  references : List (List Nat)
  qps : List Nat
  deriving DecidableEq, Repr

/-- The slice a core writes where CTUs from one on are degraded (R250): the task, what a degraded CTU is, the first of them, and the slice
it would else have written. -/
opaque degradedSlice : CodingTask → DegradedCtu → Nat → Bytes → Bytes

/-- Stage 7 of R205, edge-directed demosaic: channel `c` of the pixel at a column and row of a mosaic. -/
opaque demosaic : Nat → List (List Nat) → Nat → Nat → Nat → Nat

/-- Stage 5 of R205: where in a cell of the 33 × 33 grid a column or row lies, by the frame's width or height (whether the last
node is the last sample or its far edge is unstated). -/
opaque gridPlace : Nat → Nat → Nat

/-- Stage 9 of R205: how far a value lies between two points of the tone curve, in 1/65,536, where its logarithm is on neither. -/
opaque toneFraction : Nat → Nat

/-- Stage 9 of R205: the value under the local gain, from the curve's value, the zone means and the position (its formula is
unstated). -/
opaque localTone : Nat → List (List Nat) → Nat → Nat → Nat

/-- Stage 10 of R205: the bicubic sample of a plane at an s20.12 position. -/
opaque bicubic : List (List Nat) → Int → Int → Nat

/-- Whether a quotient that is not whole is rounded up, where the spec states no rounding (log entry 5). -/
opaque roundsUp : Int → Int → Bool

/-- The median of an even count of values whose two middle ones differ, where the spec states none. -/
opaque middleOf : List Nat → Nat

/-- A chroma sample of 4:2:0 output from a plane at a block column and row, where the samples about it differ (R205 and R246 give no
siting). -/
opaque chroma420 : List (List Nat) → Nat → Nat → Nat

/-- The chroma of a pixel of the scene store from a half-size plane, where the samples about it differ (R205). -/
opaque chromaUp : List (List Nat) → Nat → Nat → Nat

/-- Where the spec does not say which DRAM rank holds an item: kind of buffer, item, rank (R349). -/
opaque liesOn : Nat → Nat → Nat → Bool

/-- Of an item that lies on a rank whose migration has copied some chunks, whether its chunk is among them: kind of buffer, item, chunks
copied (R325). -/
opaque copiedItem : Nat → Nat → Nat → Bool

/-- The 32 bytes of the pattern that the patrol scrub writes to a block of a spare rank: rank, chunk, block, byte (R319). -/
opaque sparePattern : Nat → Nat → Nat → Nat → Nat

/-- The shift of the write DQ delays that matches a change of the DQS oscillator's count: before, now (R321). -/
opaque dqShift : Nat → Nat → Int

/-- Lift's placement of scene tiles in the ray cache at a tile band (R344; the spec states no rule): what lay there, layer position and scene
tile, and the band's tiles with their region classes. -/
opaque rayCachePlacement : List (Nat × Nat) → List (Nat × Nat) → List (Nat × Nat)

/-- The seed of a channel's LFSR from the device identifier and the channel number (R316; how it is formed is unstated). -/
opaque lfsrSeed : BitVec 64 → Nat → Nat

/-- How long after a boundary a flat output's video resumes where its pixel clock changes, in ns, within R302's bound. -/
opaque pixelRelock : Nat → Nat

/-- The DPCD of the sink at a flat output reports alternate scrambler seed reset (R297; log entry 90). -/
opaque sinkAssr : Nat → Bool

/-- What a macro's row holds when it is found in double error: the number of the port, slot, pair or claim it serves; a
number beyond their count serves none (R332). -/
opaque sramUser : Nat → Nat → Nat

/-- Which of the blocks that a pair or a stream has in hand such a row holds (R332). -/
opaque sramItem : Nat → Nat → Nat

/-- The SFDP discovery of the record port (R409): the NVM's size in KiB, 0 where none answers. -/
opaque nvmKiB : Nat

end Sys2Proof.Config
end

