-- ==== Sys2Proof/Machine/Arith.lean ====
section
/-!
DEFINITION. Sys2Proof/Machine/Arith.lean: the integer functions the spec's pseudocode shares (round_div of R71,
rshift_round and clamp32 of R102, log2_q8 of R248), the CRC-32C of R152 and the SHA-256 of R253.
-/

namespace Sys2Proof

/-- round_div of R71: the nearest integer, a tie towards +infinity; `den > 0`. -/
def roundDiv (num den : Int) : Int := (2 * num + den) / (2 * den)

/-- A quotient whose rounding the spec leaves open: exact where it is whole, else one of its two neighbours. -/
def looseDiv (num den : Int) : Int :=
  if num % den = 0 then num / den else num / den + (if Config.roundsUp num den then 1 else 0)

/-- The sum of two ratios of natural numbers, and of a list of them: exact, where a rule compares a sum of quotients. -/
def addRatio (a b : Nat × Nat) : Nat × Nat := (a.1 * b.2 + b.1 * a.2, a.2 * b.2)
def sumRatios (l : List (Nat × Nat)) : Nat × Nat := l.foldl addRatio (0, 1)

/-- A ratio is at most a whole number. -/
def ratioLe (a : Nat × Nat) (n : Nat) : Bool := decide (a.1 ≤ n * a.2)

/-- A ratio as a whole number; the spec states no rounding. -/
def ratioOf (a : Nat × Nat) : Nat := (looseDiv (a.1 : Nat) (a.2 : Nat)).toNat

/-- rshift_round of R102: the nearest integer to v ÷ 2^n, a tie towards +infinity; `n > 0`. -/
def rshiftRound (v : Int) (n : Nat) : Int := (v + (2 : Int) ^ (n - 1)) / (2 : Int) ^ n

/-- clamp32 of R102. -/
def clamp32 (v : Int) : Int := clampInt v (-2147483648) 2147483647

/-- The 12-bit field of a number at bit `lo`, sign-extended (sext12 of R102). -/
def sext12 (e lo : Nat) : Int := signed 12 (e / 2 ^ lo % 4096)

/-- log2_q8 of R248: floor(256 × log2 x), from the leading one and the eight bits below it. -/
def log2Q8 (x : Nat) : Nat :=
  let p := Nat.log2 x
  let i := (x * 2 ^ 8 / 2 ^ p) % 256
  256 * p + (Nat.log2 ((256 + i) ^ 256) - 2048)

/-- The least of three numbers above the least: their median. -/
def median3 (a b c : Int) : Int := max (min a b) (min (max a b) c)

/-- Insertion into a rising list. -/
def insertSorted (x : Int) : List Int → List Int
  | [] => [x]
  | y :: ys => if x ≤ y then x :: y :: ys else y :: insertSorted x ys

/-- A list of integers in rising order. -/
def sortInts : List Int → List Int
  | [] => []
  | x :: xs => insertSorted x (sortInts xs)

/-- The median of a list: the lower middle one of its rising order; 0 of none. -/
def median (l : List Int) : Int := ((sortInts l)[(l.length - 1) / 2]?).getD 0

/-! ## CRC-32C (R152) -/

/-- One bit of the reflected CRC register with the reflected polynomial 0x82F6_3B78. -/
def crcBit (c : Nat) : Nat := if c % 2 = 1 then (c / 2) ^^^ 0x82F63B78 else c / 2

/-- `n` bits of the register. -/
def crcBits : Nat → Nat → Nat
  | 0, c => c
  | n + 1, c => crcBits n (crcBit c)

/-- One byte into the register. -/
def crcByte (c : Nat) (b : Byte) : Nat := crcBits 8 (c ^^^ b.toNat)

/-- CRC-32C over a byte string: initial value and final XOR 0xFFFF_FFFF (R152). -/
def crc32c (bs : Bytes) : Nat := (bs.foldl crcByte 0xFFFFFFFF) ^^^ 0xFFFFFFFF

/-! ## SHA-256 (R253: FIPS 180-4) -/

/-- A 32-bit word rotated right. -/
def rotr (x n : Nat) : Nat := (x / 2 ^ n) ||| (x * 2 ^ (32 - n) % 2 ^ 32)

/-- The greatest r with r^k ≤ v that has no bit above `n`, beside those already found: one bit at a time, from the highest. -/
def rootBits (k v : Nat) : Nat → Nat → Nat
  | 0, r => r
  | n + 1, r => rootBits k v n (if (r + 2 ^ n) ^ k ≤ v then r + 2 ^ n else r)

/-- The primes below a bound, by trial division. -/
def primesBelow (bound : Nat) : List Nat :=
  (List.range bound).filter fun p => decide (2 ≤ p) && (List.range (Nat.sqrt p - 1)).all fun d => p % (d + 2) != 0

/-- The first 32 bits of the fractional part of a prime's k-th root. -/
def rootFraction (k p : Nat) : Nat := rootBits k (p * 2 ^ (32 * k)) 37 0 % 2 ^ 32

/-- The round constants of FIPS 180-4: the cube roots of the first 64 primes. -/
def shaK : List Nat := (primesBelow 312).map (rootFraction 3)

/-- The initial hash value of FIPS 180-4: the square roots of the first eight primes. -/
def shaInit : List Nat := (primesBelow 20).map (rootFraction 2)

/-- The message schedule: `n` further words after the last sixteen, the list held newest first. -/
def shaExtend : Nat → List Nat → List Nat
  | 0, w => w
  | n + 1, w =>
    let at' := fun i => (w[i]?).getD 0
    let x := at' 14
    let y := at' 1
    let s0 := rotr x 7 ^^^ rotr x 18 ^^^ (x / 2 ^ 3)
    let s1 := rotr y 17 ^^^ rotr y 19 ^^^ (y / 2 ^ 10)
    shaExtend n (((at' 15 + s0 + at' 6 + s1) % 2 ^ 32) :: w)

/-- One round on the working variables a … h. -/
def shaRound (v : List Nat) (kw : Nat × Nat) : List Nat :=
  match v with
  | [a, b, c, d, e, f, g, h] =>
    let s1 := rotr e 6 ^^^ rotr e 11 ^^^ rotr e 25
    let ch := (e &&& f) ^^^ ((0xFFFFFFFF ^^^ e) &&& g)
    let t1 := h + s1 + ch + kw.1 + kw.2
    let s0 := rotr a 2 ^^^ rotr a 13 ^^^ rotr a 22
    let mj := (a &&& b) ^^^ (a &&& c) ^^^ (b &&& c)
    [(t1 + s0 + mj) % 2 ^ 32, a, b, c, (d + t1) % 2 ^ 32, e, f, g]
  | _ => v

/-- One 64-byte block into the hash value. -/
def shaBlock (hash : List Nat) (block : Bytes) : List Nat :=
  let w0 := (List.range 16).map fun i => beNat ((block.drop (4 * i)).take 4)
  let w := (shaExtend 48 w0.reverse).reverse
  List.zipWith (fun x y => (x + y) % 2 ^ 32) hash ((shaK.zip w).foldl shaRound hash)

/-- `n` blocks of a padded message into the hash value. -/
def shaBlocks : Nat → Bytes → List Nat → List Nat
  | 0, _, h => h
  | n + 1, m, h => shaBlocks n (m.drop 64) (shaBlock h (m.take 64))

/-- SHA-256 over a byte string, as 32 bytes (FIPS 180-4; R253, R254, R433). -/
def sha256 (m : Bytes) : Bytes :=
  let pad := (119 - m.length % 64) % 64
  let padded := m ++ [0x80] ++ List.replicate pad 0 ++ beBytes 8 (8 * m.length)
  (shaBlocks (padded.length / 64) padded shaInit).flatMap (beBytes 4)

end Sys2Proof
end

