-- ==== Sys2Proof/Machine/Depth.lean ====
section
/-!
DEFINITION. Sys2Proof/Machine/Depth.lean: virtual depth in s12.4 vmm: the three depth encodings and the curve of R71,
the curve and metric rules of R72, and the tilted plane of R70.
-/

namespace Sys2Proof

/-- A knot of a depth curve (R80): distance in u8.8 metres, depth in s12.4 vmm. -/
structure Knot where
  m : Nat
  z : Int
  deriving DecidableEq, Repr

/-- A depth code of 8 or 10 bits widened to 12 bits by bit replication (R71). -/
def widenDepth (bits c : Nat) : Nat :=
  if bits = 8 then c * 16 ||| c / 16 else if bits = 10 then c * 4 ||| c / 256 else c

/-- Encoding 0x00 of R71: depth linear in the code. -/
def displayLinear (c : Nat) (d0 d4095 : Int) : Int := d0 + roundDiv ((d4095 - d0) * c) 4095

/-- Encoding 0x01 of R71: the distance, in u8.8 metres, of a code whose inverse distance is linear. -/
def metricInverse (c zn zf : Nat) : Nat :=
  let qn := 2 ^ 32 / zn
  let qf := 2 ^ 32 / zf
  let inv := qf + (qn - qf) * c / 4095
  min ((2 ^ 33 / inv + 1) / 2) 0xFFFF

/-- The curve of R71 past its first knot: the segment whose first knot is the last one at or before `m`. -/
def curveFrom (m : Nat) : List Knot → Int
  | [] => 0
  | [k] => k.z
  | k :: k' :: ks =>
    if m < k'.m then k.z + roundDiv ((k'.z - k.z) * ((m : Int) - k.m)) ((k'.m : Int) - k.m)
    else curveFrom m (k' :: ks)

/-- The curve of R71: distance to virtual depth. -/
def curve (m : Nat) (ks : List Knot) : Int :=
  match ks with
  | [] => 0
  | k :: _ => if m ≤ k.m then k.z else curveFrom m ks

/-- R72: distances rise strictly and depths do not rise from one knot to the next. -/
def knotsOrdered : List Knot → Bool
  | k :: k' :: ks => decide (k.m < k'.m) && decide (k'.z ≤ k.z) && knotsOrdered (k' :: ks)
  | _ => true

/-- R72: 0.25 m ≤ z_near < z_far, in u8.8 metres. -/
def metricOk (zNear zFar : Nat) : Bool := decide (64 ≤ zNear) && decide (zNear < zFar)

/-- The depth conversion of a layer's encoding (R71): 0x00, 0x01 on 12-bit codes, 0x02 on u8.8 metres. -/
def convertDepth (encoding c : Nat) (d0 d4095 : Int) (zNear zFar : Nat) (ks : List Knot) : Int :=
  if encoding = 0 then displayLinear c d0 d4095
  else if encoding = 1 then curve (metricInverse c zNear zFar) ks
  else curve c ks

/-- The depth of a tilted plane at panel coordinate (x, y) in s20.12 pixels (R70): gx and gy are s8.24 vmm per pixel,
so the products carry 36 fraction bits; rounded to s12.4 as R71 rounds. -/
def tiltedDepth (z0 gx gy dx dy x y : Int) : Int :=
  roundDiv (z0 * 2 ^ 32 + gx * (x - dx) + gy * (y - dy)) (2 ^ 32)

/-- The range of s12.4 (R9). -/
def inS12p4 (z : Int) : Bool := decide (-32768 ≤ z) && decide (z ≤ 32767)

end Sys2Proof
end

