-- ==== Sys2Proof/Machine/Ray.lean ====
section
/-!
DEFINITION. Sys2Proof/Machine/Ray.lean: the geometry block and the ray-map entries as bytes (R99 to R101), the checks of
R97 and R108, the ray computation of R102, the ray record of R103, and the values derived from a bank (R120).
-/

namespace Sys2Proof

/-- The fields of a geometry block's header (R99). -/
structure Geometry where
  colourOrder : Nat
  pitchX : Nat
  pitchY : Nat
  moduleColumns : Nat
  moduleRows : Nat
  lensCols : Nat
  lensRows : Nat
  pixelPitch : Nat
  kx : Nat
  ky : Nat
  mapId : Nat
  deadPolicy : Nat
  deriving DecidableEq, Repr

/-- The header fields read from a geometry block's bytes (R99). -/
def Geometry.ofBytes (b : Bytes) : Geometry where
  colourOrder := byteAt b 3
  pitchX := byteAt b 4
  pitchY := byteAt b 5
  moduleColumns := byteAt b 6
  moduleRows := byteAt b 7
  lensCols := fieldLE b 8 2
  lensRows := fieldLE b 10 2
  pixelPitch := fieldLE b 12 4
  kx := fieldLE b 16 4
  ky := fieldLE b 20 4
  mapId := fieldLE b 24 4
  deadPolicy := byteAt b 28

/-- Panel width and height in pixels (R95). -/
def Geometry.width (g : Geometry) : Nat := 1920 * g.moduleColumns
def Geometry.height (g : Geometry) : Nat := 1080 * g.moduleRows

/-- Lenslets of the map. -/
def Geometry.lenslets (g : Geometry) : Nat := g.lensCols * g.lensRows

/-- The nominal tangent of view `v`, subpixel position `s`, s2.14 (R100): axis 0 is x and axis 1 is y. -/
def tangent (b : Bytes) (v s axis : Nat) : Int := signed 16 (fieldLE b (64 + 4 * (3 * v + s) + 2 * axis) 2)

/-- R97 and the ranges of R99: the conditions on a geometry block's header fields. -/
def Geometry.fieldsOk (g : Geometry) : Bool :=
  decide (g.colourOrder ≤ 1) && decide (4 ≤ g.pitchX ∧ g.pitchX ≤ 16) && decide (4 ≤ g.pitchY ∧ g.pitchY ≤ 16) &&
  decide (g.pitchX * g.pitchY ≤ 256) && decide (1 ≤ g.moduleColumns ∧ g.moduleColumns ≤ 8) &&
  decide (1 ≤ g.moduleRows ∧ g.moduleRows ≤ 8) &&
  decide (g.width % g.pitchX = 0 ∧ g.height % g.pitchY = 0) &&
  decide (g.lensCols = g.width / g.pitchX ∧ g.lensRows = g.height / g.pitchY) &&
  decide (g.lenslets ≤ 2097152) && decide (10000 ≤ g.pixelPitch ∧ g.pixelPitch ≤ 1000000) &&
  decide (1 ≤ g.kx ∧ g.kx ≤ 0x1000000) && decide (1 ≤ g.ky ∧ g.ky ≤ 0x1000000) && decide (g.deadPolicy ≤ 1)

/-- The content check of 0x4200.04 (R108): length, magic, version, fields, reserved bytes, unused view entries. -/
def geometryOk (b : Bytes) : Bool :=
  let g := Geometry.ofBytes b
  decide (b.length = 3136) && decide (fieldLE b 0 2 = 0x4752) && decide (byteAt b 2 = 1) && g.fieldsOk &&
  ((b.drop 29).take 35).all (· == 0) && (b.drop (64 + 12 * (g.pitchX * g.pitchY))).all (· == 0)

/-- Reserved bits [62:60] of an entry are zero (R101, R108). -/
def entryOk (e : Nat) : Bool := decide (e / 2 ^ 60 % 8 = 0)

/-- Bit [63] of an entry: the lenslet is dead (R101). -/
def entryDead (e : Nat) : Bool := bitOf e 63

/-- Consecutive numbers of `w` bytes, little-endian; `n` of them. -/
def chop (w : Nat) : Nat → Bytes → List Nat
  | 0, _ => []
  | n + 1, b => leNat (b.take w) :: chop w n (b.drop w)

/-- The entries of an entry array's bytes (R101). -/
def entriesOf (b : Bytes) : List Nat := chop 8 (b.length / 8) b

/-- The ray record of R103. -/
structure RayRec where
  cx : Int
  cy : Int
  sx : Int
  sy : Int
  ax : Nat
  ay : Nat
  v : Nat
  s : Nat
  lens : Nat
  live : Bool
  deriving DecidableEq, Repr

/-- Pixels per vmm, u8.24 (R102). -/
def ppv (g : Geometry) : Int := roundDiv (2 ^ 24 * 1000000) g.pixelPitch

/-- The components of R102 before the record: cx, cy, tx, ty (s2.30) and the aperture terms, from one entry. -/
def makeRayFrom (g : Geometry) (geom : Bytes) (e lx ly v s : Nat) (live : Bool) : RayRec :=
  let ox := sext12 e 0
  let oy := sext12 e 12
  let th := sext12 e 24
  let ps := sext12 e 36
  let gp := sext12 e 48
  let cx := ((lx * g.pitchX : Nat) : Int) * 4096 + (g.pitchX : Int) * 2048 + ox * 16
  let cy := ((ly * g.pitchY : Nat) : Int) * 4096 + (g.pitchY : Int) * 2048 + oy * 16
  let ex := tangent geom v s 0 * 65536 + rshiftRound (g.kx * ox) 2
  let ey := tangent geom v s 1 * 65536 + rshiftRound (g.ky * oy) 2
  let th2 := th * th
  let c30 := (2 : Int) ^ 30 - th2 * 2
  let s30 := th * 65536 - roundDiv (th * th2) (6 * 4096)
  let rx := rshiftRound (c30 * ex - s30 * ey) 30
  let ry := rshiftRound (s30 * ex + c30 * ey) 30
  let tx := clamp32 (rshiftRound (rx * (16384 + gp)) 14)
  let ty := clamp32 (rshiftRound (ry * (16384 + gp)) 14)
  { cx := cx
    cy := cy
    sx := rshiftRound (tx * ppv g) 34
    sy := rshiftRound (ty * ppv g) 34
    ax := (rshiftRound (g.pitchX * (8192 + ps)) 1).toNat
    ay := (rshiftRound (g.pitchY * (8192 + ps)) 1).toNat
    v := v
    s := s
    lens := ly * g.lensCols + lx
    live := live }

/-- make_ray of R102: the ray of subpixel (x, y, s) from a bank's geometry block and entries. Under dead policy black
the record of a dead lenslet is the nominal one with live = 0 (log entry 12; R104 uses no other field of it). -/
def makeRay (geom : Bytes) (entries : List Nat) (x y s : Nat) : RayRec :=
  let g := Geometry.ofBytes geom
  let lx := x / g.pitchX
  let ly := y / g.pitchY
  let v := (y - ly * g.pitchY) * g.pitchX + (x - lx * g.pitchX)
  let e := (entries[ly * g.lensCols + lx]?).getD 0
  if entryDead e then makeRayFrom g geom 0 lx ly v s (decide (g.deadPolicy ≠ 0))
  else makeRayFrom g geom e lx ly v s true

/-- at_depth of R102: the panel position of a ray at virtual depth z. -/
def atDepth (c slope z : Int) : Int := c + rshiftRound (slope * z) 12

/-- The values a verified shadow bank derives (R120). -/
structure Derived where
  dX : Int
  dY : Int
  sMaxX : Nat
  sMaxY : Nat
  oMaxX : Nat
  oMaxY : Nat
  deriving DecidableEq, Repr

/-- The view steps d_x and d_y of R120. -/
def viewStep (geom : Bytes) (axis : Nat) : Int :=
  let g := Geometry.ofBytes geom
  let vx := (g.pitchX - 1) / 2
  let vy := (g.pitchY - 1) / 2
  let v := vy * g.pitchX + vx
  let v' := if axis = 0 then v + 1 else (vy + 1) * g.pitchX + vx
  rshiftRound (((tangent geom v 1 axis - tangent geom v' 1 axis).natAbs : Int) * ppv g) 18

/-- R120: the derived values of a bank, the maxima taken over the live rays and live entries. -/
def derive (geom : Bytes) (entries : List Nat) : Derived :=
  let g := Geometry.ofBytes geom
  let rays : List RayRec := (List.range (g.lensRows * g.pitchY)).flatMap fun y =>
    (List.range (g.lensCols * g.pitchX)).flatMap fun x => (List.range 3).map (makeRay geom entries x y)
  let live := rays.filter (·.live)
  let sound := entries.filter (fun e => !entryDead e)
  { dX := viewStep geom 0
    dY := viewStep geom 1
    sMaxX := live.foldl (fun m r => max m r.sx.natAbs) 0
    sMaxY := live.foldl (fun m r => max m r.sy.natAbs) 0
    oMaxX := sound.foldl (fun m e => max m (sext12 e 0).natAbs) 0
    oMaxY := sound.foldl (fun m e => max m (sext12 e 12).natAbs) 0 }

end Sys2Proof
end

