-- ==== Sys2Proof/Machine/Carve.lean ====
section
/-!
DEFINITION. Sys2Proof/Machine/Carve.lean: one ray through the steps of R114: where it meets a layer (R116 to R118), the
footprint (R121), the video filter (R123), the graphic sampler (R124), compositing (R126), the gain (R128) and the link
transfer curve (R129); and the ray of a witness pixel (R134).
-/

namespace Sys2Proof

/-- A texel reader: colour component and alpha at integer coordinates; the taps outside the crop are transparent. -/
structure Texel where
  c : Nat
  a : Nat
  deriving DecidableEq, Repr

/-- What the carver needs of one contributing layer: its placement and its blending (R79). -/
structure LayerGeom where
  kind : Nat
  geometry : Nat
  z0 : Int
  opacity : Nat
  destX : Int
  destY : Int
  destW : Nat
  destH : Nat
  cropX : Nat
  cropY : Nat
  cropW : Nat
  cropH : Nat
  gx : Int
  gy : Int
  deriving DecidableEq, Repr

/-- tex_u and tex_v of R119: s20.12 texel coordinate of a panel position on one axis. -/
def texCoord (p dest : Int) (crop0 crop : Nat) (destSize : Nat) : Int :=
  (crop0 : Int) * 4096 + ((p - dest) * crop * 4096) / destSize

/-- meet_tilted of R117: the depth at which a ray meets a tilted plane, if it does. -/
def meetTilted (r : RayRec) (l : LayerGeom) : Option Int :=
  let n := l.z0 * 2 ^ 32 + l.gx * (r.cx - l.destX) + l.gy * (r.cy - l.destY)
  let d := (2 : Int) ^ 44 - l.gx * r.sx - l.gy * r.sy
  if d ≤ 2 ^ 40 then none
  else
    let z := roundDiv (n * 4096) d
    if z < -32768 ∨ z > 32767 then none else some z

/-- Integer texel coordinates lie inside the crop rectangle. -/
def insideCrop (l : LayerGeom) (u v : Int) : Bool :=
  decide ((l.cropX : Int) ≤ u ∧ u < l.cropX + l.cropW) && decide ((l.cropY : Int) ≤ v ∧ v < l.cropY + l.cropH)

/-- meet_depth_map of R118: four fixed-point steps from z0; `depth u v` is none outside the depth picture. -/
def meetDepthMap (r : RayRec) (l : LayerGeom) (depth : Int → Int → Option Int) : Nat → Int → Int
  | 0, z => z
  | n + 1, z =>
    let u := texCoord (atDepth r.cx r.sx z) l.destX l.cropX l.cropW l.destW / 4096
    let v := texCoord (atDepth r.cy r.sy z) l.destY l.cropY l.cropH l.destH / 4096
    let z' := if insideCrop l u v then (depth u v).getD l.z0 else l.z0
    meetDepthMap r l depth n z'

/-- foot_px of R121, u8.12 pixels. -/
def footPx (a : Nat) (z d : Int) (gain : Nat) : Nat :=
  min (max a (rshiftRound ((z.natAbs : Int) * d * gain) 24).toNat) 0xFFFFF

/-- foot_tex of R121, u8.8 texels. -/
def footTex (f cropSize destSize : Nat) : Nat := min (f * cropSize * 256 / destSize) 0xFFFF

/-- The coefficient set and tap stride of a texel footprint (the table of R121). -/
def setAndStride (f t0 t1 t2 : Nat) : Nat × Nat :=
  if f ≤ t0 then (0, 1) else if f ≤ t1 then (1, 1) else if f ≤ t2 then (2, 1)
  else if f ≤ 2 * t2 then (3, 1) else if f ≤ 4 * t2 then (3, 2) else if f ≤ 8 * t2 then (3, 4) else (3, 8)

/-- tap_base of R123: the integer texel and the phase of a filter at coordinate u. -/
def tapBase (u : Int) (k : Nat) : Int × Nat :=
  let w := u - 2048
  let i0 := w / ((k : Int) * 4096) * k
  let ph := ((w - i0 * 4096) * 64 + (k : Int) * 2048) / ((k : Int) * 4096)
  if ph = 64 then (i0 + k, 0) else (i0, ph.toNat)

/-- One 8-tap sum of R123, rounded from s2.14 and clamped. -/
def tapSum (taps : List Int) (samples : List Int) (top : Int) : Int :=
  clampInt (((List.zipWith (· * ·) taps samples).foldl (· + ·) 0 + 8192) / 16384) 0 top

/-- filter of R123 on one channel: rows first, then the column; cx and cy give the eight taps of a phase. -/
def polyphase (texel : Int → Int → Int) (u v : Int) (cx cy : Nat → List Int) (kx ky : Nat) (top : Int) : Int :=
  let bx := tapBase u kx
  let b := tapBase v ky
  let off : List Int := [-3, -2, -1, 0, 1, 2, 3, 4]
  let rows := off.map fun j => tapSum (cx bx.2) (off.map fun i => texel (bx.1 + kx * i) (b.1 + ky * j)) top
  tapSum (cy b.2) rows top

/-- The video sample of R123: colour and alpha, the colour clamped to the alpha after the vertical pass. -/
def sampleVideo (texel : Int → Int → Texel) (u v : Int) (cx cy : Nat → List Int) (kx ky : Nat) : Texel :=
  let a := polyphase (fun i j => (texel i j).a) u v cx cy kx ky 65536
  let c := polyphase (fun i j => (texel i j).c) u v cx cy kx ky 65535
  ⟨(min c a).toNat, a.toNat⟩

/-- bilinear of R124 on one channel. -/
def bilinear (t : Int → Int → Nat) (u v : Int) : Nat :=
  let wu := u - 2048
  let wv := v - 2048
  let ix := wu / 4096
  let iy := wv / 4096
  let fx := ((wu % 4096 + 8) / 16).toNat
  let fy := ((wv % 4096 + 8) / 16).toNat
  let top := t ix iy * (256 - fx) + t (ix + 1) iy * fx
  let bot := t ix (iy + 1) * (256 - fx) + t (ix + 1) (iy + 1) * fx
  (top * (256 - fy) + bot * fy + 32768) / 65536

/-- The graphic sample of R124. -/
def sampleGraphic (texel : Int → Int → Texel) (u v : Int) : Texel :=
  ⟨bilinear (fun i j => (texel i j).c) u v, bilinear (fun i j => (texel i j).a) u v⟩

/-- A component of `n` bits widened to 16 bits by repeating its bits from the most significant end (R74). -/
def widen16 (n v : Nat) : Nat :=
  if n = 0 then 0xFFFF
  else (List.range 16).foldl (fun acc i => acc * 2 + (v / 2 ^ (n - 1 - i % n)) % 2) 0

/-- Premultiplication of a widened component (R74, R124): alpha 0xFFFF counts as 65,536. -/
def premultiply (c a : Nat) : Nat := (c * a + 32768) / 65536

/-- The alpha of a widened texel: 0xFFFF, a format without alpha and layer flag [2] give 65,536 (R124). -/
def fullAlpha (a : Nat) (opaqueTexel : Bool) : Nat := if opaqueTexel || a == 0xFFFF then 65536 else a

/-- A graphic texel as the sampler takes it (R124): colour clamped to alpha when premultiplied. -/
def graphicTexel (c a : Nat) (hasAlpha premultiplied ignoreAlpha : Bool) : Texel :=
  let al := fullAlpha a (!hasAlpha || ignoreAlpha)
  ⟨if premultiplied then min c al else premultiply c al, al⟩

/-- One sampled layer on its way into the compositor: depth, stack rank, colour, alpha, opacity. -/
structure Sample where
  z : Int
  rank : Nat
  c : Nat
  a : Nat
  o : Nat
  deriving DecidableEq, Repr

/-- Nearer first (R69): greater depth, then the lower stack rank. -/
def nearer (x y : Sample) : Bool := decide (y.z < x.z) || (decide (x.z = y.z) && decide (x.rank < y.rank))

/-- Insertion of a sample into a front-to-back list. -/
def insertSample (x : Sample) : List Sample → List Sample
  | [] => [x]
  | y :: ys => if nearer x y then x :: y :: ys else y :: insertSample x ys

/-- The front-to-back order of R69. -/
def frontToBack : List Sample → List Sample
  | [] => []
  | x :: xs => insertSample x (frontToBack xs)

/-- The loop of composite (R126): accumulated colour and transmittance. -/
def compositeLoop : List Sample → Nat → Nat → Nat × Nat
  | [], c, t => (c, t)
  | s :: ss, c, t =>
    if t = 0 then (c, t)
    else
      let ae := (s.a * s.o + 32768) / 65536
      let ce := min ((s.c * s.o + 32768) / 65536) ae
      compositeLoop ss (c + (t * ce + 32768) / 65536) ((t * (65536 - ae) + 32768) / 65536)

/-- composite of R126. -/
def composite (samples : List Sample) (bg : Nat) : Nat :=
  let r := compositeLoop samples 0 65536
  min (if r.2 > 0 then r.1 + (r.2 * bg + 32768) / 65536 else r.1) 65535

/-- The ageing gain of R128. -/
def applyGain (c g : Nat) : Nat := min 65535 ((c * g + 16384) / 32768)

/-- link_code of R129 through the table of one colour. -/
def linkCode (v : Nat) (e : List Nat) : Nat :=
  let at' := fun i => (e[i]?).getD 0
  let out := at' (v / 64) + ((at' (v / 64 + 1) - at' (v / 64)) * (v % 64) + 32) / 64
  min 1023 ((out + 32) / 64)

/-- The zero-light code of a colour (R104, R129). -/
def zeroLight (e : List Nat) : Nat := ((e[0]?).getD 0 + 32) / 64

/-- The factory link transfer curve (R129). -/
def factoryCurve : List Nat := (List.range 1025).map fun i => (roundDiv ((i : Int) * 65472) 1024).toNat

/-- The content check of the link transfer curve (R129): three non-decreasing tables, every entry at most 0xFFC0. -/
def nonDecreasing : List Nat → Bool
  | a :: b :: rest => decide (a ≤ b) && nonDecreasing (b :: rest)
  | _ => true

def linkCurveOk (b : Bytes) : Bool :=
  let es := chop 2 3075 b
  decide (b.length = 6150) && es.all (fun e => decide (e ≤ 0xFFC0)) && nonDecreasing (es.take 1025) &&
  nonDecreasing ((es.drop 1025).take 1025) && nonDecreasing (es.drop 2050)

/-- The taps of phase `p` in a coefficient set's bytes (R122). -/
def tapsOf (b : Bytes) (p : Nat) : List Int := (List.range 8).map fun j => signed 16 (fieldLE b (16 * p + 2 * j) 2)

/-- The content check of a coefficient set (R122): the taps of every phase sum to 16,384. -/
def coefSetOk (b : Bytes) : Bool :=
  decide (b.length = 1024) && (List.range 64).all fun p => decide ((tapsOf b p).foldl (· + ·) 0 = 16384)

/-- The colour of a subpixel position under a colour order (R96): 0 red, 1 green, 2 blue. -/
def colourOf (order s : Nat) : Nat := if order = 0 then s else 2 - s

/-- kw of R134. -/
def witnessFactor (g : Geometry) : Nat := max g.moduleColumns g.moduleRows

/-- The ray of witness pixel (i, j) (R134); the eye point is given in s20.12 pixels, `none` for the panel centre. DESIGN CHOICE (log entry
85): a slope beyond s12.20 neither wraps nor saturates, since R134 states neither. -/
def witnessRay (g : Geometry) (eyeX eyeY : Option Int) (eyeZ i j : Nat) : RayRec :=
  let kw := witnessFactor g
  let px : Int := ((2 * i + 1) * kw * 2048 : Nat)
  let py : Int := ((2 * j + 1) * kw * 2048 : Nat)
  let ex := eyeX.getD ((g.width : Int) * 2048)
  let ey := eyeY.getD ((g.height : Int) * 2048)
  { cx := px, cy := py
    sx := roundDiv ((ex - px) * 256) eyeZ
    sy := roundDiv ((ey - py) * 256) eyeZ
    ax := kw * 4096, ay := kw * 4096, v := 0, s := 0, lens := 0, live := true }

/-- A witness component as stored (R134). -/
def witnessComponent (c : Nat) : Nat := min 1023 ((c + 32) / 64)

end Sys2Proof
end

