-- ==== Sys2Proof/Machine/Descriptor.lean ====
section
/-!
DEFINITION. Sys2Proof/Machine/Descriptor.lean: the scene descriptor: its records as fields (R78 to R81), the encoding checks
of a write (R78, R80), and the tiles and classes that its regions give (R81, R94).
-/

namespace Sys2Proof

/-- A layer record (R79). -/
structure Layer where
  kind : Nat
  geometry : Nat
  rank : Nat
  policy : Nat
  colour : Nat
  depth : Nat
  encoding : Nat
  curve : Nat
  substitute : Nat
  flags : Nat
  ageMs : Nat
  holdMs : Nat
  z0 : Int
  opacity : Nat
  destX : Int
  destY : Int
  destW : Nat
  destH : Nat
  cropX : Nat
  cropY : Nat
  cropW : Nat
  cropH : Nat
  gx : Int
  gy : Int
  d0 : Int
  d4095 : Int
  zNear : Nat
  zFar : Nat
  fill : Nat
  deriving DecidableEq, Repr

/-- A region record (R81). -/
structure Region where
  x0 : Nat
  y0 : Nat
  x1 : Nat
  y1 : Nat
  cls : Nat
  bound : Nat
  staleMs : Nat
  deriving DecidableEq, Repr

/-- Layer record `n`'s bytes. -/
def layerBytes (d : Bytes) (n : Nat) : Bytes := (d.drop (32 + 64 * n)).take 64

/-- Layer record `n` of a descriptor. -/
def layerOf (d : Bytes) (n : Nat) : Layer :=
  let b := layerBytes d n
  { kind := byteAt b 0, geometry := byteAt b 1, rank := byteAt b 2, policy := byteAt b 3, colour := byteAt b 4,
    depth := byteAt b 5, encoding := byteAt b 6, curve := byteAt b 7, substitute := byteAt b 8, flags := byteAt b 9,
    ageMs := fieldLE b 10 2, holdMs := fieldLE b 12 2, z0 := signed 16 (fieldLE b 14 2), opacity := fieldLE b 16 4,
    destX := signed 32 (fieldLE b 20 4), destY := signed 32 (fieldLE b 24 4), destW := fieldLE b 28 4,
    destH := fieldLE b 32 4, cropX := fieldLE b 36 2, cropY := fieldLE b 38 2, cropW := fieldLE b 40 2,
    cropH := fieldLE b 42 2, gx := signed 32 (fieldLE b 44 4), gy := signed 32 (fieldLE b 48 4),
    d0 := signed 16 (fieldLE b 52 2), d4095 := signed 16 (fieldLE b 54 2), zNear := fieldLE b 56 2,
    zFar := fieldLE b 58 2, fill := fieldLE b 60 4 }

/-- Header fields (R78). -/
def defaultClass (d : Bytes) : Nat := byteAt d 4
def regionCount (d : Bytes) : Nat := byteAt d 5
def curveCount (d : Bytes) : Nat := byteAt d 6
def sceneTag (d : Bytes) : Nat := fieldLE d 12 4

/-- The background colour of channel 0 red, 1 green, 2 blue, 8 bits (R78). -/
def background (d : Bytes) (c : Nat) : Nat := byteAt d (10 - c)

/-- Curve record `n`'s bytes and its knots (R80). -/
def curveBytes (d : Bytes) (n : Nat) : Bytes := (d.drop (1056 + 72 * n)).take 72
def knotsOf (d : Bytes) (n : Nat) : List Knot :=
  let b := curveBytes d n
  (List.range (byteAt b 0)).map fun i => { m := fieldLE b (4 + 4 * i) 2, z := signed 16 (fieldLE b (6 + 4 * i) 2) }

/-- Region record `n`'s bytes and fields (R81). -/
def regionBytes (d : Bytes) (n : Nat) : Bytes := (d.drop (1344 + 16 * n)).take 16
def regionOf (d : Bytes) (n : Nat) : Region :=
  let b := regionBytes d n
  { x0 := fieldLE b 0 2, y0 := fieldLE b 2 2, x1 := fieldLE b 4 2, y1 := fieldLE b 6 2, cls := byteAt b 8,
    bound := byteAt b 9, staleMs := fieldLE b 10 2 }

/-- The regions of a descriptor; none where there is no descriptor (R83). -/
def regionsOf (d : Bytes) : List Region := if d.isEmpty then [] else (List.range (regionCount d)).map (regionOf d)

/-- Bytes that are all zero. -/
def zeroBytes (b : Bytes) : Bool := b.all (· == 0)

/-- The encodings of a layer record's fields (R78, R79); a record of kind 0x00 is zero. -/
def layerEncoded (d : Bytes) (n : Nat) : Bool :=
  let b := layerBytes d n
  let l := layerOf d n
  if l.kind = 0 then zeroBytes b
  else
    decide (l.kind ≤ 3) && decide (l.geometry ≤ 2) && decide (l.rank ≤ 15) && decide (l.policy ≤ 2)
    && (if l.kind = 1 then decide (l.colour ≤ 31) && (l.depth == 0xFF || decide (l.depth ≤ 31))
        else if l.kind = 2 then decide (l.colour ≤ 7) && (l.depth == 0xFF || decide (l.depth ≤ 3))
        else decide (l.colour ≤ 63) && l.depth == 0xFF)
    && decide (l.encoding ≤ 2) && decide (l.curve ≤ 3)
    && (l.substitute == 0x80 || l.substitute == 0xFF || (decide (8 ≤ l.substitute) && decide (l.substitute ≤ 15)))
    && decide (l.flags < 8)
    && (if l.kind = 3 then l.ageMs == 0 else decide (1 ≤ l.ageMs) && decide (l.ageMs ≤ 1000))
    && decide (l.holdMs ≤ 60000) && decide (l.opacity < 0x20000) && decide (1 ≤ l.cropW) && decide (1 ≤ l.cropH)

/-- The encodings of a region record's fields (R81); that it lies in the panel is a check at commit. -/
def regionEncoded (d : Bytes) (n : Nat) : Bool :=
  let r := regionOf d n
  decide (r.cls ≤ 2) && (r.bound == 0xFF || decide (r.bound ≤ 7))
    && (if r.cls = 0 then decide (20 ≤ r.staleMs) && decide (r.staleMs ≤ 1000) else r.staleMs == 0)
    && decide (r.x0 < r.x1) && decide (r.y0 < r.y1) && zeroBytes ((regionBytes d n).drop 12)

/-- The encodings of a curve record (R80). -/
def curveEncoded (d : Bytes) (n : Nat) : Bool :=
  let b := curveBytes d n
  decide (2 ≤ byteAt b 0) && decide (byteAt b 0 ≤ 17) && zeroBytes ((b.drop 1).take 3)
    && zeroBytes (b.drop (4 + 4 * byteAt b 0))

/-- The content check of 0x4000.01 (R78, R80): a write that breaks it is aborted with 0x0800_0020. -/
def descriptorOk (d : Bytes) : Bool :=
  d.length == 1600 && fieldLE d 0 2 == 0x5344 && byteAt d 2 == 1 && byteAt d 3 == 0
    && (defaultClass d == 1 || defaultClass d == 2) && decide (regionCount d ≤ 16) && decide (curveCount d ≤ 4)
    && byteAt d 7 == 0 && byteAt d 11 == 0 && zeroBytes ((d.drop 16).take 16)
    && (List.range 16).all (layerEncoded d)
    && (List.range 4).all (fun n => if n < curveCount d then curveEncoded d n else zeroBytes (curveBytes d n))
    && (List.range 16).all (fun n => if n < regionCount d then regionEncoded d n else zeroBytes (regionBytes d n))

/-- A region covers a tile column and row. -/
def Region.covers (r : Region) (tx ty : Nat) : Bool :=
  decide (r.x0 ≤ tx) && decide (tx < r.x1) && decide (r.y0 ≤ ty) && decide (ty < r.y1)

/-- A tile's class: the highest of the regions that cover it, else the default (R94); 0 is safety. -/
def tileClass (d : Bytes) (tx ty : Nat) : Nat :=
  if d.isEmpty then 1
  else
    let cs := ((regionsOf d).filter fun r => r.covers tx ty).map (·.cls)
    match cs with
    | [] => defaultClass d
    | c :: rest => rest.foldl min c

/-- The tiles of a region as column and row pairs. -/
def Region.tiles (r : Region) : List (Nat × Nat) :=
  (List.range (r.y1 - r.y0)).flatMap fun j => (List.range (r.x1 - r.x0)).map fun i => (r.x0 + i, r.y0 + j)

/-- A region holds a tile. -/
def Region.holdsTile (r : Region) (x y : Nat) : Bool := decide (r.x0 ≤ x ∧ x < r.x1 ∧ r.y0 ≤ y ∧ y < r.y1)

/-- The depth of a code under a layer's encoding, curve and metric parameters (R71). -/
def layerDepth (d : Bytes) (l : Layer) (code : Nat) : Int :=
  convertDepth l.encoding code l.d0 l.d4095 l.zNear l.zFar (knotsOf d l.curve)

end Sys2Proof
end

