-- ==== Sys2Proof/Machine/Objects.lean ====
section
/-!
DEFINITION. Sys2Proof/Machine/Objects.lean: the object dictionary as the chapters' tables give it: every object's type,
access code (R8), default and range, the contents of DOMAIN objects at reset, and how an index and a subindex make a key.
-/

namespace Sys2Proof

/-- The types of R8. -/
inductive Ty where
  | u8 | u16 | u32 | u64 | i16 | i32 | bool | str | dom
  deriving DecidableEq, Repr

/-- The access codes of R8. -/
inductive Acc where
  | ro | wo | const | rwI | rwE | rwO
  deriving DecidableEq, Repr

/-- What a value may be: a span, a span or some values beside it, a list of values, a span in steps, a mask of the bits
that are not reserved; for a DOMAIN the lengths from a least to a greatest in multiples, or a list of lengths. -/
inductive Rng where
  | any
  | span (lo hi : Int)
  | spanOr (lo hi : Int) (others : List Int)
  | oneOf (vs : List Int)
  | step (lo hi by_ : Int)
  | mask (m : Nat)
  | len (lo hi mult : Nat)
  | lens (ls : List Nat)
  deriving DecidableEq, Repr

/-- One object: type, access, default value and range. -/
structure Obj where
  ty : Ty
  acc : Acc
  dflt : Int
  rng : Rng
  deriving DecidableEq, Repr

/-- A row of the tables: the first object's key, how many objects follow the same row, the key step between them. -/
structure ObjRow where
  key : Nat
  count : Nat
  stepKey : Nat
  obj : Obj
  deriving DecidableEq, Repr

/-- The key of an object: index and subindex in one number. -/
def keyOf (index sub : Nat) : Nat := index * 256 + sub

/-- A row for one object. -/
def row (index sub : Nat) (ty : Ty) (acc : Acc) (dflt : Int) (rng : Rng) : ObjRow :=
  { key := keyOf index sub, count := 1, stepKey := 1, obj := { ty, acc, dflt, rng } }

/-- A row for `n` objects, `istep` indexes and `sstep` subindexes apart. -/
def arr (index sub n istep sstep : Nat) (ty : Ty) (acc : Acc) (dflt : Int) (rng : Rng) : ObjRow :=
  { key := keyOf index sub, count := n, stepKey := keyOf istep sstep, obj := { ty, acc, dflt, rng } }

/-- The objects of 0x1000 to 0x10FF. -/
def rows10 : List ObjRow := [
  row 0x1018 0x01 .u32 .const 0x004E_5659 .any,  -- Vendor ID (R5)
  row 0x1018 0x02 .u32 .const 0x0000_9640 .any,  -- Product Code (R5)
  row 0x1018 0x03 .u32 .ro 0 .any,  -- Revision Number (R5)
  row 0x1018 0x04 .u32 .const 0 .any,  -- Serial Number (R5)
  row 0x1000 0x00 .u32 .const 0x0000_0000 .any,  -- Device Type (R41)
  row 0x1001 0x00 .u8 .ro 0x00 .any,  -- Error Register (R41)
  row 0x1003 0x00 .u8 .rwI 0 (.oneOf [0]),  -- Number of Errors (R41)
  arr 0x1003 0x01 16 0 1 .u32 .ro 0 .any,  -- Error Field (R41)
  row 0x1008 0x00 .str .const 0 .any,  -- Manufacturer Device Name (R41)
  row 0x100A 0x00 .str .ro 0 .any,  -- Manufacturer Software Version (R41)
  row 0x1014 0x00 .u32 .rwI 0 (.mask 0x8000_07FF),  -- COB-ID EMCY (R41)
  row 0x1015 0x00 .u16 .rwI 10 (.span 0 65535),  -- Inhibit Time EMCY (R41)
  row 0x1017 0x00 .u16 .rwI 100 (.span 0 65535)]  -- Producer Heartbeat Time (R41)

/-- The objects of 0x2000 to 0x20FF. -/
def rows20 : List ObjRow := [
  row 0x2000 0x01 .str .const 0 .any,  -- Order Code (R5)
  row 0x2000 0x02 .u8 .const 0xB1 .any,  -- Silicon Stepping (R5)
  row 0x2000 0x03 .u8 .rwO 0x20 (.span 0x01 0x7E),  -- Node-ID Base (R39)
  row 0x2000 0x04 .u8 .ro 0 .any,  -- Node-ID (R39)
  row 0x2030 0x01 .u8 .rwO 0x01 (.span 0x00 0x02),  -- CAN0 Mode (R39)
  row 0x2030 0x02 .u8 .rwO 0x01 (.span 0x00 0x02),  -- CAN1 Mode (R39)
  row 0x2030 0x03 .u16 .rwO 500 (.oneOf [125, 250, 500, 1000]),  -- Arbitration Bit Rate (R39)
  row 0x2030 0x04 .u16 .rwO 2000 (.oneOf [1000, 2000, 4000, 5000, 8000]),  -- Data Bit Rate (R39)
  row 0x2031 0x01 .bool .rwI 0 (.span 0 1),  -- UDP Control Enable (R45)
  row 0x2031 0x02 .u16 .rwI 49640 (.span 1024 65535),  -- Dictionary Port (R45)
  row 0x2031 0x03 .dom .rwI 0 (.len 0 64 16),  -- Allowed Sources (R45)
  row 0x2031 0x04 .dom .rwI 0 (.lens [0, 18]),  -- Event Destination (R45)
  row 0x2031 0x05 .u16 .rwI 500 (.span 10 10000),  -- Transaction Timeout (R45)
  row 0x2031 0x06 .u32 .ro 0 .any,  -- Rejected Frames (R45)
  row 0x2040 0x01 .u8 .rwI 0x01 (.span 0x00 0x03),  -- EVT0 Source (R54)
  row 0x2040 0x02 .u8 .rwI 0x02 (.span 0x00 0x03),  -- EVT1 Source (R54)
  row 0x2040 0x03 .u16 .rwI 0xFFFF .any,  -- Fault Class Mask (R54)
  row 0x2040 0x04 .u32 .wo 0 .any,  -- Event Acknowledge (R54)
  row 0x2040 0x05 .u32 .ro 0 .any,  -- Last Event Sequence (R54)
  row 0x2010 0x01 .u16 .ro 0x0000 .any,  -- Ready Bitmap (R59)
  row 0x2010 0x02 .u16 .ro 0x0000 .any,  -- Failed Bitmap (R59)
  row 0x2010 0x03 .u16 .ro 0x0000 .any,  -- Degraded Bitmap (R59)
  row 0x2010 0x04 .u16 .rwI 0xFFFF .any,  -- Required Functions (R59)
  row 0x2010 0x05 .u32 .ro 0 .any,  -- All Required Ready Time (R59)
  arr 0x2011 0x01 16 0 1 .u8 .ro 0x00 .any,  -- Function State (R59)
  row 0x2020 0x01 .u32 .wo 0 (.oneOf [0x9640]),  -- Full Reset (R62)
  row 0x2020 0x02 .u8 .wo 0 (.span 0x04 0x0C),  -- Function Reset (R62)
  row 0x2020 0x03 .u8 .ro 0 .any]  -- Last Reset Cause (R62)

/-- The objects of 0x2100 to 0x21FF. -/
def rows21 : List ObjRow := [
  row 0x2100 0x01 .u8 .ro 0x00 .any,  -- Power State (R31)
  row 0x2100 0x02 .u8 .rwI 0x00 (.span 0x00 0x03),  -- Power State Request (R31)
  row 0x2100 0x03 .u8 .ro 0x00 .any,  -- Hold Causes (R31)
  row 0x2100 0x04 .u8 .rwI 0x03 (.mask 0x07),  -- Wake Sources (R31)
  row 0x2100 0x05 .u32 .rwI 0 .any,  -- Wake Timer (R31)
  row 0x2110 0x01 .u16 .rwI 24000 (.step 6000 28000 500),  -- Power Limit (R355)
  row 0x2110 0x02 .u16 .ro 24000 .any,  -- Effective Limit (R355)
  row 0x2110 0x03 .i16 .rwI 0x6E00 (.span 0x3C00 0x7800),  -- Throttle Threshold (R355)
  row 0x2110 0x04 .u16 .ro 0 .any,  -- Measured Power (R355)
  row 0x2110 0x05 .u8 .ro 32 .any,  -- Active Carver Cap (R355)
  row 0x2110 0x06 .u16 .ro 1000 .any,  -- Carver Clock (R355)
  row 0x2110 0x07 .u8 .ro 0x00 .any,  -- DRAM Power State (R355)
  row 0x2110 0x08 .u8 .ro 0x00 .any,  -- Throttle Causes (R355)
  row 0x2110 0x09 .u32 .ro 0 .any,  -- Step-Downs (R355)
  row 0x2110 0x0A .u32 .ro 0 .any,  -- Trips (R355)
  row 0x2110 0x0B .i16 .ro 0x8000 .any,  -- Hottest Sensor (R355)
  row 0x2110 0x0C .i16 .ro 0x8000 .any,  -- Hottest Since Reset (R355)
  row 0x2120 0x01 .dom .ro 0 .any,  -- Sensor Temperatures (R356)
  row 0x2120 0x02 .dom .ro 0 .any,  -- Supply Readings (R356)
  row 0x2120 0x03 .dom .rwI 0 (.len 40 40 1),  -- Supply Windows (R356)
  row 0x2120 0x04 .u16 .ro 0x0FFF .any,  -- Sensors Valid (R356)
  row 0x2120 0x05 .u32 .ro 0 .any,  -- Rounds (R356)
  row 0x2130 0x01 .u8 .ro 0x00 .any,  -- PFAIL State (R444)
  row 0x2130 0x02 .u32 .ro 0 .any,  -- PFAIL Recognitions (R444)
  row 0x2130 0x03 .u32 .ro 0 .any,  -- PFAIL Glitches (R444)
  row 0x2130 0x04 .u32 .ro 0 .any,  -- Ride-Throughs (R444)
  row 0x2130 0x05 .u32 .ro 0 .any,  -- Last PFAIL Duration (R444)
  row 0x2130 0x06 .u8 .ro 0x00 .any]  -- Always-On Clock (R444)

/-- The objects of 0x2200 to 0x22FF. -/
def rows22 : List ObjRow := [
  row 0x2200 0x01 .u8 .ro 0 .any,  -- Fault Queue Count (R418)
  row 0x2200 0x02 .dom .ro 0 .any,  -- Fault Queue (R418)
  row 0x2200 0x03 .u32 .ro 0 .any,  -- Faults Raised (R418)
  row 0x2200 0x04 .u32 .ro 0 .any,  -- Escalations (R418)
  row 0x2200 0x05 .u32 .ro 0 .any,  -- Queue Overflows (R418)
  row 0x2200 0x06 .u16 .ro 0x0000 .any,  -- Last Fault Code (R418)
  row 0x2200 0x07 .u8 .rwI 0x00 (.span 0x00 0x01),  -- Single Reset Policy (R418)
  row 0x2200 0x08 .dom .ro 0 .any,  -- Last Escalation (R418)
  row 0x2210 0x01 .u8 .ro 0x00 .any,  -- Beacon State (R419)
  row 0x2210 0x02 .u32 .ro 0 .any,  -- Journal Size (R419)
  row 0x2210 0x03 .u64 .ro 0 .any,  -- Next Sequence (R419)
  row 0x2210 0x04 .u64 .ro 0 .any,  -- Oldest Sequence (R419)
  row 0x2210 0x05 .u32 .ro 0 .any,  -- Pending Bytes (R419)
  row 0x2210 0x06 .u32 .ro 0 .any,  -- NVM Write Rate (R419)
  row 0x2210 0x07 .u32 .ro 0 .any,  -- Records Dropped (R419)
  row 0x2210 0x08 .u32 .ro 0 .any,  -- Torn Entries (R419)
  row 0x2210 0x09 .u8 .rwI 60 (.span 1 120),  -- Check Batch Frames (R419)
  row 0x2210 0x0A .u8 .rwI 1 (.span 1 9),  -- Payload Level (R419)
  row 0x2210 0x0B .u64 .rwI 0 .any,  -- Read Start (R419)
  row 0x2210 0x0C .dom .ro 0 .any,  -- Read Data (R419)
  row 0x2210 0x0D .dom .wo 0 (.len 1 4096 1),  -- Host Note (R419)
  row 0x2210 0x0E .u32 .ro 0 .any]  -- Last Flush Time (R419)

/-- The objects of 0x2300 to 0x23FF. -/
def rows23 : List ObjRow := [
  row 0x2300 0x01 .u8 .rwO 0x00 (.span 0x00 0x01),  -- Pair Mode (R420)
  row 0x2300 0x02 .u8 .const 0 .any,  -- Strap (R420)
  row 0x2300 0x03 .u8 .ro 0x04 .any,  -- Role (R420)
  row 0x2300 0x04 .u8 .ro 0x00 .any,  -- Pair Paths (R420)
  row 0x2300 0x05 .u8 .wo 0 (.oneOf [0x01]),  -- Role Handover (R420)
  row 0x2300 0x06 .u32 .ro 0 .any,  -- Takeovers (R420)
  row 0x2300 0x07 .u64 .ro 0 .any,  -- Last Takeover (R420)
  row 0x2300 0x08 .u32 .ro 0 .any,  -- Last Update Gap (R420)
  row 0x2300 0x09 .dom .ro 0 .any,  -- Partner Health (R420)
  row 0x2300 0x0A .u8 .ro 0x00 .any,  -- Twin Lanes In Use (R420)
  row 0x2300 0x0B .u8 .ro 0x00 .any,  -- Twin Lanes Retired (R420)
  row 0x2300 0x0C .u16 .rwI 100 (.span 1 65535),  -- Twin Lane Error Limit (R420)
  row 0x2300 0x0D .u32 .ro 0 .any,  -- Heartbeat Chatter (R420)
  row 0x2300 0x0E .u8 .ro 0x00 .any]  -- Mismatch Items (R420)

/-- The objects of 0x2400 to 0x24FF. -/
def rows24 : List ObjRow := [
  row 0x2400 0x01 .u8 .rwO 4 (.oneOf [4, 6, 8, 12, 16]),  -- DRAM Density (R333)
  row 0x2400 0x02 .u8 .rwO 2 (.span 1 2),  -- Ranks Per Channel (R333)
  row 0x2400 0x03 .u32 .ro 0 .any,  -- Data Capacity (R333)
  row 0x2400 0x04 .u16 .ro 0x0000 .any,  -- Channels Trained (R333)
  row 0x2400 0x05 .dom .ro 0 .any,  -- Rank States (R333)
  row 0x2400 0x06 .u8 .rwI 12 (.span 10 16),  -- Neighbour Refresh Exponent (R333)
  row 0x2400 0x07 .u16 .rwI 256 (.spanOr 16 4096 [0]),  -- Power-Down Timer (R333)
  row 0x2400 0x08 .dom .ro 0 .any,  -- Refresh Rates (R333)
  row 0x2400 0x09 .u8 .rwI 20 (.span 5 40),  -- Retrain Drift (R333)
  row 0x2400 0x0A .u8 .rwI 4 (.span 1 20),  -- Oscillator Drift (R333)
  row 0x2400 0x0B .u16 .rwI 24 (.span 1 168),  -- Scrub Period (R333)
  row 0x2400 0x0C .u32 .ro 0 .any,  -- Corrected Blocks (R333)
  row 0x2400 0x0D .u32 .ro 0 .any,  -- Uncorrectable Blocks (R333)
  row 0x2400 0x0E .u32 .ro 0 .any,  -- Poisoned Deliveries (R333)
  row 0x2400 0x0F .u32 .ro 0 .any,  -- Replayed Reads (R333)
  row 0x2400 0x10 .u32 .ro 0 .any,  -- Copy Reads (R333)
  row 0x2400 0x11 .dom .ro 0 .any,  -- Marked Pins (R333)
  row 0x2400 0x12 .u32 .ro 0xFFFF_0000 .any,  -- Migration State (R333)
  row 0x2400 0x13 .u32 .ro 0 .any,  -- Retrains (R333)
  row 0x2400 0x14 .dom .ro 0 .any,  -- PHY Temperatures (R333)
  row 0x2400 0x15 .u32 .ro 0 .any,  -- Neighbour Refreshes (R333)
  row 0x2400 0x20 .dom .ro 0 .any,  -- SRAM Corrections (R333)
  row 0x2400 0x21 .dom .ro 0 .any,  -- SRAM Spare Rows Left (R333)
  row 0x2400 0x22 .dom .ro 0 .any,  -- SRAM Spare Columns Left (R333)
  row 0x2400 0x23 .u8 .rwI 4 (.span 2 255),  -- SRAM Row Repair Threshold (R333)
  row 0x2400 0x24 .u32 .ro 0 .any]  -- SRAM Double Errors (R333)

/-- The objects of 0x2500 to 0x25FF. -/
def rows25 : List ObjRow := [
  row 0x2500 0x01 .u8 .rwO 2 (.span 0 4),  -- Spare Rank Count (R357)
  row 0x2500 0x02 .u8 .ro 0 .any,  -- Spare Ranks Left (R357)
  row 0x2500 0x03 .u64 .ro 0 .any,  -- Carvers Working (R357)
  row 0x2500 0x04 .u64 .ro 0 .any,  -- Carvers Active (R357)
  row 0x2500 0x05 .u8 .ro 4 .any,  -- Carver Spares Left (R357)
  row 0x2500 0x06 .u32 .ro 32000 .any,  -- Ray Rate Capacity (R357)
  row 0x2500 0x07 .u32 .ro 1 .any,  -- Placement Epoch (R357)
  row 0x2500 0x08 .u32 .ro 0 .any,  -- Stale Results (R357)
  row 0x2500 0x09 .u32 .ro 0 .any,  -- Re-Issued Jobs (R357)
  row 0x2500 0x0A .u16 .rwI 256 (.span 16 4096),  -- Golden Tile Interval (R357)
  row 0x2500 0x0B .u32 .ro 0 .any,  -- Golden Tile Failures (R357)
  row 0x2500 0x0C .u32 .ro 0 .any,  -- Frame Budget (R357)
  row 0x2500 0x0D .u32 .ro 0 .any,  -- Frame Budget Spent (R357)
  row 0x2500 0x0E .u32 .ro 0 .any,  -- Safety Reserve (R357)
  row 0x2500 0x0F .u32 .ro 0 .any,  -- Deferred Normal Tiles (R357)
  row 0x2500 0x10 .u32 .ro 0 .any,  -- Deferred Background Tiles (R357)
  row 0x2500 0x11 .u32 .ro 0 .any,  -- Oldest Deferral (R357)
  row 0x2500 0x12 .dom .ro 0 .any,  -- Chunks Per Rank (R357)
  row 0x2500 0x13 .dom .ro 0 .any]  -- Pipeline Assignment (R357)

/-- The objects of 0x2600 to 0x26FF. -/
def rows26 : List ObjRow := [
  row 0x2600 0x01 .u8 .wo 0 (.span 0x01 0x0F),  -- Calibration Request (R445)
  row 0x2600 0x02 .i16 .rwI 0x8000 (.spanOr (-10240) 32000 [-32768]),  -- Board Reference Temperature (R445)
  row 0x2600 0x03 .u16 .rwI 0x1800 (.span 0 0x8000),  -- Board-To-Junction Rise (R445)
  row 0x2600 0x04 .u8 .ro 0x00 .any,  -- Calibration State (R445)
  row 0x2600 0x05 .u8 .ro 0x00 .any,  -- Failed Step (R445)
  row 0x2600 0x06 .u8 .ro 0x00 .any,  -- Trim Source (R445)
  row 0x2600 0x07 .dom .ro 0 .any,  -- Trims In Force (R445)
  row 0x2600 0x08 .u8 .ro 0x00 .any,  -- Trim Copies Valid (R445)
  row 0x2600 0x09 .dom .ro 0 .any,  -- Repair List (R445)
  row 0x2610 0x01 .u8 .ro 0xFF .any,  -- OTP Generation In Use (R445)
  row 0x2610 0x02 .dom .rwO 0 (.len 0 500 1),  -- Start-Up Writes (R445)
  row 0x2610 0x03 .u32 .wo 0 (.oneOf [0x4255_524E]),  -- OTP Burn Request (R445)
  row 0x2610 0x04 .u8 .ro 0x00 .any,  -- OTP Burn State (R445)
  row 0x2610 0x05 .u8 .ro 0 .any,  -- OTP Generations Blank (R445)
  row 0x2610 0x06 .u8 .ro 0 .any,  -- Start-Up Writes Skipped (R445)
  row 0x2620 0x01 .u8 .ro 0 .any,  -- Running Image (R445)
  row 0x2620 0x02 .dom .wo 0 (.len 256 4194304 1),  -- Firmware Image (R445)
  row 0x2620 0x03 .dom .ro 0 .any,  -- Slot Versions (R445)
  row 0x2620 0x04 .dom .ro 0 .any]  -- Partition Table (R445)

/-- The objects of 0x2800 to 0x28FF, part 0. -/
def rows28_0 : List ObjRow := [
  row 0x2800 0x01 .bool .rwI 1 (.span 0 1),  -- MAC0 Enable, MAC1 Enable (R378)
  row 0x2800 0x02 .bool .rwI 1 (.span 0 1),  -- MAC0 Enable, MAC1 Enable (R378)
  row 0x2800 0x03 .u64 .const 0 .any,  -- MAC0 Address, MAC1 Address (R378)
  row 0x2800 0x04 .u64 .const 0 .any,  -- MAC0 Address, MAC1 Address (R378)
  row 0x2800 0x05 .u32 .rwI 0 .any,  -- IPv4 Address (R378)
  row 0x2800 0x06 .u8 .rwI 24 (.span 1 30),  -- IPv4 Prefix Length (R378)
  row 0x2800 0x07 .dom .rwI 0 (.lens [0, 16]),  -- IPv6 Address (R378)
  row 0x2800 0x08 .u16 .rwI 0 (.span 0 4094),  -- Control VLAN (R378)
  row 0x2800 0x09 .u8 .ro 0x00 .any,  -- Link Rates (R378)
  row 0x2800 0x0A .u32 .ro 0 .any,  -- Frames Dropped (R378)
  row 0x2810 0x01 .u8 .rwI 0x03 (.mask 0x03),  -- PTP Ports (R378)
  row 0x2810 0x02 .u8 .rwI 0x00 (.span 0x00 0x02),  -- PTP Profile (R378)
  row 0x2810 0x03 .u8 .rwI 0 (.span 0 127),  -- PTP Domain (R378)
  row 0x2810 0x04 .u8 .rwI 255 (.span 0 255),  -- Priority1 (R378)
  row 0x2810 0x05 .u8 .ro 0x00 .any,  -- Clock State (R378)
  row 0x2810 0x06 .i32 .ro 0 .any,  -- Offset From Master (R378)
  row 0x2810 0x07 .u32 .ro 0 .any,  -- Mean Path Delay (R378)
  row 0x2810 0x08 .u64 .ro 0 .any,  -- Grandmaster Identity (R378)
  row 0x2810 0x09 .u8 .ro 0xFF .any,  -- Slave Port (R378)
  row 0x2810 0x0A .u64 .ro 0 .any,  -- Current Time (R378)
  row 0x2810 0x0B .u32 .ro 0 .any,  -- Time Steps (R378)
  row 0x2810 0x0C .i16 .rwI (-3) (.span (-7) 0),  -- Sync Interval (R378)
  arr 0x2820 0x01 8 1 0 .u8 .rwI 0x00 (.span 0x00 0x03),  -- Output Mode (R379)
  arr 0x2820 0x02 8 1 0 .u64 .rwI 0 .any,  -- Start Time (R379)
  arr 0x2820 0x03 8 1 0 .u32 .rwI 16666667 (.span 1000 1000000000),  -- Period (R379)
  arr 0x2820 0x04 8 1 0 .u32 .rwI 10000 (.span 100 1000000000),  -- Pulse Width (R379)
  arr 0x2820 0x05 8 1 0 .u8 .rwI 0x00 (.span 0x00 0x01),  -- Polarity (R379)
  arr 0x2820 0x06 8 1 0 .u64 .ro 0 .any,  -- Last Edge (R379)
  arr 0x2830 0x01 4 1 0 .u8 .rwI 0x00 (.span 0x00 0x03),  -- Capture Edges (R379)
  arr 0x2830 0x02 4 1 0 .u16 .rwI 100 (.span 20 10000),  -- Minimum Width (R379)
  arr 0x2830 0x03 4 1 0 .u32 .rwI 10000 (.span 1000 1000000000),  -- Minimum Spacing (R379)
  arr 0x2830 0x04 4 1 0 .dom .ro 0 .any,  -- Timestamps (R379)
  arr 0x2830 0x05 4 1 0 .u32 .ro 0 .any,  -- Glitches (R379)
  arr 0x2830 0x06 4 1 0 .u32 .ro 0 .any,  -- Overruns (R379)
  row 0x2840 0x01 .u8 .rwI 0x03 (.span 0x00 0xFF),  -- H.265 Format Subtype (R379)
  row 0x2840 0x02 .dom .rwI 0 (.len 0 192 6),  -- Listener Multicast (R379)
  row 0x2840 0x03 .dom .rwI 0 (.len 384 384 1),  -- Talker Parameters (R379)
  row 0x2840 0x04 .u32 .ro 20000 .any,  -- Idle Slope MAC0, MAC1 (R379)
  row 0x2840 0x05 .u32 .ro 20000 .any,  -- Idle Slope MAC0, MAC1 (R379)
  row 0x2840 0x06 .u32 .ro 0 .any]  -- Transmit Drops (R379)

/-- The objects of 0x2800 to 0x28FF, part 1. -/
def rows28_1 : List ObjRow := [
  row 0x2840 0x07 .u32 .ro 0 .any,  -- Duplicates Discarded (R379)
  row 0x2850 0x01 .dom .rwI 0 (.len 8 8 1),  -- Frame Rate (R379)
  row 0x2850 0x02 .i32 .rwI 0 (.span (-500000000) 500000000),  -- Frame Phase (R379)
  row 0x2850 0x03 .u8 .rwI 0x00 (.span 0x00 0x04),  -- Tick Source (R379)
  row 0x2850 0x04 .u32 .ro 0 .any,  -- Frame Number (R379)
  row 0x2850 0x05 .u64 .ro 0 .any,  -- Last Tick (R379)
  row 0x2860 0x01 .bool .rwI 0 (.span 0 1),  -- Group Enable (R379)
  row 0x2860 0x02 .u32 .rwI 0 .any,  -- Group Identifier (R379)
  row 0x2860 0x03 .u16 .rwI 0 (.span 0 1023),  -- Member Number (R379)
  row 0x2860 0x04 .u16 .rwI 1 (.span 1 1024),  -- Member Count (R379)
  row 0x2860 0x05 .u8 .rwI 0x00 (.span 0x00 0x01),  -- Group Policy (R379)
  row 0x2860 0x06 .u16 .rwI 4000 (.span 2000 60000),  -- Readiness Lead (R379)
  row 0x2860 0x07 .dom .rwI 0 (.len 18 18 1),  -- Readiness Destination (R379)
  row 0x2860 0x08 .u32 .rwI 0 .any,  -- Group Commit Number (R379)
  row 0x2860 0x09 .u32 .ro 0 .any,  -- Last Group Commit (R379)
  row 0x2860 0x0A .u8 .ro 0x00 .any,  -- Group Commit Outcome (R379)
  row 0x2860 0x0B .dom .ro 0 .any]  -- Members Not Ready (R379)

/-- The objects of 0x2800 to 0x28FF. -/
def rows28 : List ObjRow := rows28_0 ++ rows28_1

/-- The objects of 0x3000 to 0x30FF, part 0. -/
def rows30_0 : List ObjRow := [
  arr 0x3000 0x01 8 0x100 0 .bool .rwI 0 (.span 0 1),  -- Port Enable (R222)
  arr 0x3000 0x02 8 0x100 0 .u8 .rwI 4 (.oneOf [1, 2, 4]),  -- Data Lanes (R222)
  arr 0x3000 0x03 8 0x100 0 .u16 .rwI 1500 (.span 80 4500),  -- Lane Rate (R222)
  arr 0x3000 0x04 8 0x100 0 .u16 .rwI 0x00E4 (.mask 0x1FFF),  -- Lane Map (R222)
  arr 0x3000 0x05 8 0x100 0 .dom .rwI 0 (.len 8 8 1),  -- Stream Select (R222)
  arr 0x3000 0x06 8 0x100 0 .u16 .rwI 1920 (.span 64 8192),  -- Input Width (R222)
  arr 0x3000 0x07 8 0x100 0 .u16 .rwI 1080 (.span 64 8192),  -- Input Height (R222)
  arr 0x3000 0x08 8 0x100 0 .u32 .rwI 16667 (.span 1000 1000000),  -- Frame Period (R222)
  arr 0x3000 0x09 8 0x100 0 .u8 .rwI 2 (.span 1 4),  -- Sensor Latency (R222)
  arr 0x3000 0x0A 8 0x100 0 .u8 .rwI 0 (.span 0 3),  -- CCI Master (R222)
  arr 0x3000 0x0B 8 0x100 0 .u8 .rwI 0x10 (.span 0x08 0x77),  -- CCI Device Address (R222)
  arr 0x3000 0x0C 8 0x100 0 .u8 .rwI 0xFF (.spanOr 0 7 [0xFF]),  -- Trigger Output (R222)
  arr 0x3000 0x0D 8 0x100 0 .u32 .rwI 0 .any,  -- Trigger Delay Min (R222)
  arr 0x3000 0x0E 8 0x100 0 .u32 .rwI 100000 .any,  -- Trigger Delay Max (R222)
  arr 0x3000 0x0F 8 0x100 0 .u8 .rwE 0x04 (.span 0x01 0x04),  -- Camera Role (R222)
  arr 0x3000 0x10 8 0x100 0 .u16 .rwE 8 (.span 0 1024),  -- Replaced Line Limit (R222)
  arr 0x3000 0x11 8 0x100 0 .u8 .ro 0x00 .any,  -- Port State (R222)
  arr 0x3000 0x12 8 0x100 0 .u8 .ro 0xFF .any,  -- Pipeline (R222)
  arr 0x3000 0x13 8 0x100 0 .u32 .ro 0 .any,  -- Frame Counter (R222)
  arr 0x3000 0x14 8 0x100 0 .u16 .rwI 1920 (.step 64 3840 2),  -- Output Width (R222)
  arr 0x3000 0x15 8 0x100 0 .u16 .rwI 1080 (.step 64 2160 2),  -- Output Height (R222)
  arr 0x3010 0x01 8 0x100 0 .u8 .rwE 0x00 (.span 0x00 0x04),  -- CFA Pattern (R223)
  arr 0x3010 0x02 8 0x100 0 .dom .rwE 0 (.len 16 16 1),  -- Black Levels (R223)
  arr 0x3010 0x03 8 0x100 0 .dom .rwE 0 (.len 1028 1028 1),  -- Linearisation Curve (R223)
  arr 0x3010 0x04 8 0x100 0 .u8 .rwE 0x00 (.span 0x00 0x03),  -- Merge Mode (R223)
  arr 0x3010 0x05 8 0x100 0 .u32 .rwE 0x000E_0000 (.span 0 0xF_FFFF),  -- Merge Threshold (R223)
  arr 0x3010 0x06 8 0x100 0 .dom .rwE 0 (.len 1028 1028 1),  -- Decompanding Curve (R223)
  arr 0x3010 0x07 8 0x100 0 .u32 .rwE 0x0001_0000 (.span 0 0xF_FFFF),  -- Defect Threshold (R223)
  arr 0x3010 0x08 8 0x100 0 .dom .rwE 0 (.len 0 16384 1),  -- Defect List (R223)
  arr 0x3010 0x09 8 0x100 0 .dom .rwE 0 (.len 8712 8712 1),  -- Shading Grid (R223)
  arr 0x3010 0x0A 8 0x100 0 .dom .rwE 0 (.len 6 6 1),  -- White Balance Gains (R223)
  arr 0x3010 0x0B 8 0x100 0 .dom .rwE 0 (.len 30 30 1),  -- Colour Matrix (R223)
  arr 0x3010 0x0C 8 0x100 0 .dom .rwE 0 (.len 514 514 1),  -- Tone Curve (R223)
  arr 0x3010 0x0D 8 0x100 0 .u8 .rwE 0 (.span 0 255),  -- Local Tone Strength (R223)
  arr 0x3010 0x0E 8 0x100 0 .dom .rwE 0 (.len 8 1073741824 8),  -- Warp Grid (R223)
  arr 0x3010 0x11 8 0x100 0 .u32 .ro 0 .any,  -- ISP Configuration CRC (R223)
  arr 0x3020 0x01 8 0x100 0 .dom .rwE 0 (.len 20 20 1),  -- Exposure Set (R224)
  arr 0x3020 0x02 8 0x100 0 .dom .rwI 0 (.len 0 96 6),  -- Exposure Register Map (R224)
  arr 0x3020 0x03 8 0x100 0 .u16 .rwI 4000 (.span 100 65535),  -- CCI Write Deadline (R224)
  arr 0x3020 0x04 8 0x100 0 .u16 .ro 0 .any]  -- Exposure Set In Force (R224)

/-- The objects of 0x3000 to 0x30FF, part 1. -/
def rows30_1 : List ObjRow := [
  arr 0x3020 0x05 8 0x100 0 .u32 .ro 0 .any,  -- Late Exposure Writes (R224)
  arr 0x3030 0x01 8 0x100 0 .dom .wo 0 (.len 6 70 1),  -- CCI Transaction (R224)
  arr 0x3030 0x02 8 0x100 0 .dom .ro 0 .any,  -- CCI Read Data (R224)
  arr 0x3030 0x03 8 0x100 0 .u8 .ro 0x00 .any,  -- CCI Status (R224)
  arr 0x3030 0x04 4 0x100 0 .u16 .rwI 1000 (.oneOf [100, 400, 1000]),  -- CCI Master Speed (R224)
  arr 0x3040 0x01 8 0x100 0 .dom .ro 0 .any,  -- Latest Statistics (R225)
  arr 0x3040 0x02 8 0x100 0 .dom .ro 0 .any,  -- Latest Embedded Data (R225)
  arr 0x3040 0x03 8 0x100 0 .u32 .ro 0 .any,  -- Mirror Latency Last (R225)
  arr 0x3040 0x04 8 0x100 0 .u32 .ro 0 .any,  -- Mirror Latency Max (R225)
  arr 0x3040 0x05 8 0x100 0 .dom .ro 0 .any,  -- Frame Error Counts (R225)
  arr 0x3040 0x06 8 0x100 0 .dom .ro 0 .any]  -- Packet Error Counts (R225)

/-- The objects of 0x3000 to 0x30FF. -/
def rows30 : List ObjRow := rows30_0 ++ rows30_1

/-- The objects of 0x3800 to 0x38FF. -/
def rows38 : List ObjRow := [
  row 0x3800 0x01 .u8 .ro 0x03 .any,  -- Engines In Service (R241)
  row 0x3800 0x02 .u32 .ro 0 .any,  -- Stereo Load (R241)
  row 0x3800 0x03 .u32 .ro 0 .any,  -- Motion Load (R241)
  row 0x3800 0x04 .u32 .ro 25600 .any,  -- Capacity (R241)
  row 0x3800 0x05 .u32 .ro 0 .any,  -- Unpaired Frames (R241)
  row 0x3800 0x06 .u32 .ro 0 .any,  -- Abandoned Frames (R241)
  row 0x3800 0x07 .u32 .ro 0 .any,  -- Unrefined Motion Blocks (R241)
  row 0x3800 0x08 .u16 .rwI 64 (.span 0 4096),  -- Stereo Lambda (R241)
  row 0x3800 0x09 .u16 .rwI 64 (.span 0 4096),  -- Motion Lambda (R241)
  row 0x3800 0x0A .u8 .rwI 32 (.span 0 255),  -- Confidence Threshold (R241)
  row 0x3800 0x0B .u16 .rwI 48 (.span 0 65535),  -- Texture Threshold (R241)
  row 0x3800 0x0C .dom .rwI 0 (.len 64 64 1),  -- Range Weights (R241)
  row 0x3800 0x0D .u32 .rwI 500000 (.span 0 8000000),  -- Pairing Window (R241)
  row 0x3800 0x0E .u8 .rwI 2 (.span 0 60),  -- Depth Hold Frames (R241)
  arr 0x3810 0x01 4 1 0 .bool .rwI 0 (.span 0 1),  -- Pair Enable (R242)
  arr 0x3810 0x02 4 1 0 .u8 .rwI 0 (.span 0 7),  -- Reference Port (R242)
  arr 0x3810 0x03 4 1 0 .u8 .rwI 0 (.span 0 7),  -- Partner Port (R242)
  arr 0x3810 0x04 4 1 0 .u8 .rwI 0x00 (.span 0x00 0x01),  -- Partner Side (R242)
  arr 0x3810 0x05 4 1 0 .u32 .rwE 0x0003_E800 (.span 0x4000 0x20_0000),  -- Focal Length (R242)
  arr 0x3810 0x06 4 1 0 .u16 .rwE 200 (.span 20 2000),  -- Baseline (R242)
  arr 0x3810 0x07 4 1 0 .i16 .rwE 0 (.span (-512) 512),  -- Disparity Offset (R242)
  arr 0x3810 0x08 4 1 0 .i16 .rwE 540 (.span (-8192) 8191),  -- Horizon Row (R242)
  arr 0x3810 0x09 4 1 0 .u16 .rwE 0 .any,  -- Ground Slope (R242)
  arr 0x3810 0x0A 4 1 0 .u8 .rwE 0xFF .any,  -- Gate Mask (R242)
  arr 0x3810 0x0B 4 1 0 .u32 .ro 0 .any,  -- Latest Depth Frame (R242)
  arr 0x3810 0x0C 4 1 0 .dom .ro 0 .any]  -- Pair Statistics (R242)

/-- The objects of 0x3900 to 0x39FF. -/
def rows39 : List ObjRow := [
  row 0x3900 0x01 .u8 .ro 0x03 .any,  -- Encoder Cores In Service (R267)
  row 0x3900 0x02 .u32 .ro 0 .any,  -- Encoder Load (R267)
  row 0x3900 0x03 .u32 .ro 0 .any,  -- Streams Enabled (R267)
  arr 0x3910 0x01 24 1 0 .bool .rwI 0 (.span 0 1),  -- Stream Enable (R268)
  arr 0x3910 0x02 24 1 0 .u8 .rwI 0x01 (.span 0x01 0x02),  -- Stream Class (R268)
  arr 0x3910 0x03 24 1 0 .u8 .rwI 0x00 (.spanOr 0 7 [0x10]),  -- Source (R268)
  arr 0x3910 0x04 24 1 0 .u8 .rwI 0x02 (.span 0x01 0x02),  -- Profile (R268)
  arr 0x3910 0x05 24 1 0 .u8 .rwI 1 (.span 1 8),  -- Picture Divider (R268)
  arr 0x3910 0x06 24 1 0 .u8 .rwE 0x00 (.span 0x00 0x03),  -- Rate Mode (R268)
  arr 0x3910 0x07 24 1 0 .u32 .rwE 8000 (.span 100 240000),  -- Bit Rate (R268)
  arr 0x3910 0x08 24 1 0 .u16 .rwE 1000 (.span 100 4000),  -- Buffer Size (R268)
  arr 0x3910 0x09 24 1 0 .u8 .rwE 30 (.span 0 51),  -- Base QP (R268)
  arr 0x3910 0x0A 24 1 0 .u8 .rwE 10 (.span 0 51),  -- QP Min (R268)
  arr 0x3910 0x0B 24 1 0 .u8 .rwE 48 (.span 0 51),  -- QP Max (R268)
  arr 0x3910 0x0C 24 1 0 .u32 .rwE 262144 .any,  -- Max Picture Size (R268)
  arr 0x3910 0x0D 24 1 0 .u16 .rwI 1000 (.span 500 10000),  -- Segment Length (R268)
  arr 0x3910 0x0E 24 1 0 .dom .rwE 0 (.len 0 192 12),  -- Regions Of Interest (R268)
  arr 0x3910 0x0F 24 1 0 .u64 .rwI 0 .any,  -- Stream Identifier (R268)
  arr 0x3910 0x10 24 1 0 .u8 .ro 0x00 .any,  -- Stream State (R268)
  arr 0x3910 0x11 24 1 0 .u32 .ro 0 .any,  -- Pictures Coded (R268)
  arr 0x3910 0x12 24 1 0 .u32 .ro 0 .any,  -- Capped Pictures (R268)
  arr 0x3910 0x13 24 1 0 .u32 .ro 0 .any,  -- Last Picture Bits (R268)
  arr 0x3910 0x14 24 1 0 .dom .ro 0 .any]  -- Analysis Statistics (R268)

/-- The objects of 0x3A00 to 0x3AFF. -/
def rows3A : List ObjRow := [
  row 0x3A00 0x01 .u8 .ro 0x03 .any,  -- Decoder Cores In Service (R267)
  row 0x3A00 0x02 .u32 .ro 0 .any,  -- Decoder Declared Load (R267)
  row 0x3A00 0x03 .u32 .ro 0 .any,  -- Slots Enabled (R267)
  arr 0x3A10 0x01 32 1 0 .bool .rwI 0 (.span 0 1),  -- Slot Enable (R270)
  arr 0x3A10 0x02 32 1 0 .u64 .rwI 0 .any,  -- Stream Identifier (R270)
  arr 0x3A10 0x03 32 1 0 .u8 .rwI 0x01 (.span 0x01 0x03),  -- Expected Profile (R270)
  arr 0x3A10 0x04 32 1 0 .u16 .rwI 1920 (.span 64 8192),  -- Max Width (R270)
  arr 0x3A10 0x05 32 1 0 .u16 .rwI 1080 (.span 64 4320),  -- Max Height (R270)
  arr 0x3A10 0x06 32 1 0 .u16 .rwI 60 (.span 1 240),  -- Max Picture Rate (R270)
  arr 0x3A10 0x07 32 1 0 .u32 .rwI 0 (.spanOr 100 1000000 [0]),  -- Cycle Budget (R270)
  arr 0x3A10 0x08 32 1 0 .u8 .ro 0x00 .any,  -- Slot State (R270)
  arr 0x3A10 0x09 32 1 0 .u32 .ro 0 .any,  -- Pictures Decoded (R270)
  arr 0x3A10 0x0A 32 1 0 .u32 .ro 0 .any,  -- Pictures Damaged (R270)
  arr 0x3A10 0x0B 32 1 0 .u32 .ro 0 .any,  -- Pictures Concealed (R270)
  arr 0x3A10 0x0C 32 1 0 .u32 .ro 0 .any,  -- Pictures Discarded (R270)
  arr 0x3A10 0x0D 32 1 0 .u32 .ro 0 .any,  -- References Generated (R270)
  arr 0x3A10 0x0E 32 1 0 .u64 .ro 0 .any]  -- Latest Presentation Time (R270)

/-- The objects of 0x3B00 to 0x3BFF. -/
def rows3B : List ObjRow := [
  row 0x3B00 0x01 .dom .const 0 .any,  -- Device Public Key (R269)
  row 0x3B00 0x02 .dom .const 0 .any,  -- Key Attestation (R269)
  row 0x3B00 0x03 .u64 .const 0 .any,  -- Device Identifier (R269)
  row 0x3B00 0x04 .u32 .ro 0 .any,  -- Seals Made (R269)
  row 0x3B00 0x05 .u16 .ro 0 .any,  -- Seal Latency Max (R269)
  arr 0x3B10 0x01 24 1 0 .dom .ro 0 .any,  -- Latest Seal (R269)
  arr 0x3B10 0x02 24 1 0 .u32 .ro 0 .any,  -- Segment Number (R269)
  arr 0x3B10 0x03 24 1 0 .u32 .ro 0 .any]  -- Chain Identifier (R269)

/-- The objects of 0x3C00 to 0x3CFF. -/
def rows3C : List ObjRow := [
  row 0x3C00 0x01 .u8 .ro 0x00 .any,  -- Engine State (R285)
  row 0x3C00 0x02 .u8 .rwE 0x01 (.oneOf [0, 1, 3]),  -- Scene Colour Format (R285)
  row 0x3C00 0x03 .u8 .rwE 0x01 (.oneOf [0, 1, 3]),  -- Scene Depth Format (R285)
  row 0x3C00 0x04 .u8 .rwI 0x01 (.span 0x01 0x02),  -- Host Job Mode (R285)
  row 0x3C00 0x05 .u8 .rwI 1 (.span 1 9),  -- Host Job Level (R285)
  row 0x3C00 0x06 .u8 .rwI 0x01 (.span 0x00 0x01),  -- Host Job Block Size (R285)
  row 0x3C00 0x07 .u8 .ro 0x00 .any,  -- Host Job Status (R285)
  row 0x3C00 0x08 .dom .wo 0 (.len 1 67108864 1),  -- Host Job Input (R285)
  row 0x3C00 0x09 .dom .ro 0 .any,  -- Host Job Output (R285)
  row 0x3C00 0x0A .u32 .ro 0 .any,  -- Jobs Completed (R285)
  row 0x3C00 0x0B .u32 .ro 0 .any,  -- No-Gain Jobs (R285)
  row 0x3C00 0x0C .u32 .ro 0 .any,  -- Malformed Inputs (R285)
  row 0x3C00 0x0D .u32 .ro 0 .any,  -- Verify Failures (R285)
  row 0x3C00 0x0E .u64 .ro 0 .any,  -- Bytes In (R285)
  row 0x3C00 0x0F .u64 .ro 0 .any]  -- Bytes Out (R285)

/-- The objects of 0x4000 to 0x40FF. -/
def rows40 : List ObjRow := [
  arr 0x4080 0x01 64 1 0 .u8 .rwI 0x00 (.span 0x00 0x05),  -- Surface Format (R75)
  arr 0x4080 0x02 64 1 0 .u16 .rwI 0 (.span 1 16384),  -- Surface Width (R75)
  arr 0x4080 0x03 64 1 0 .u16 .rwI 0 (.span 1 16384),  -- Surface Height (R75)
  arr 0x4080 0x04 64 1 0 .dom .rwI 0 (.len 1 1073741824 1),  -- Surface Content (R75)
  arr 0x4080 0x05 64 1 0 .bool .ro 0 .any,  -- Surface Written (R75)
  row 0x4000 0x0C .u16 .rwO 1024 (.span 64 8192),  -- Surface Pool Size (R75)
  row 0x4000 0x0D .u16 .ro 1024 .any,  -- Surface Pool Free (R75)
  row 0x4000 0x01 .dom .rwE 0 (.len 1600 1600 1),  -- Scene Descriptor (R87)
  row 0x4000 0x02 .u16 .rwE 0x0000 .any,  -- Layer Enable Mask (R87)
  row 0x4000 0x03 .u8 .wo 0 (.oneOf [0x01]),  -- Commit Request (R87)
  row 0x4000 0x04 .u64 .rwI 0 .any,  -- Commit Time (R87)
  row 0x4000 0x05 .u32 .ro 0 .any,  -- Current Epoch (R87)
  row 0x4000 0x06 .u8 .ro 0x00 .any,  -- Pending State (R87)
  row 0x4000 0x07 .u8 .ro 0x00 .any,  -- Refusal Reason (R87)
  row 0x4000 0x08 .u8 .ro 0xFF .any,  -- Refusal Item (R87)
  row 0x4000 0x09 .u64 .ro 0 .any,  -- Epoch Commit Time (R87)
  row 0x4000 0x0A .u32 .ro 0 .any,  -- Late Commits (R87)
  row 0x4000 0x0B .u32 .ro 0 .any,  -- Scene Tag (R87)
  arr 0x4001 0x01 16 0 1 .u8 .ro 0x00 .any,  -- Layer State (R87)
  arr 0x4002 0x01 16 0 1 .u32 .ro 0 .any,  -- Not-Ready Ticks (R87)
  arr 0x4003 0x01 16 0 1 .u32 .ro 0 .any]  -- Shown Sequence (R87)

/-- The objects of 0x4100 to 0x41FF. -/
def rows41 : List ObjRow := [
  arr 0x4100 0x01 4 0 1 .dom .rwE 0 (.len 1024 1024 1),  -- Coefficient Set 0–3 (R136)
  row 0x4100 0x05 .u16 .rwE 0x0180 .any,  -- Set Threshold 0 (R136)
  row 0x4100 0x06 .u16 .rwE 0x0300 .any,  -- Set Threshold 1 (R136)
  row 0x4100 0x07 .u16 .rwE 0x0600 .any,  -- Set Threshold 2 (R136)
  row 0x4100 0x08 .u16 .rwE 0x1000 (.span 0x0800 0x4000),  -- Prefilter Gain (R136)
  row 0x4100 0x09 .dom .rwE 0 (.len 6150 6150 1),  -- Link Transfer Curve (R136)
  row 0x4100 0x0A .bool .rwE 1 .any,  -- Occlusion Skip Enable (R136)
  row 0x4100 0x0B .i32 .ro 0 .any,  -- View Step X, Y (R136)
  row 0x4100 0x0C .i32 .ro 0 .any,  -- View Step X, Y (R136)
  row 0x4100 0x0D .i32 .ro 0 .any,  -- Slope Max X, Y (R136)
  row 0x4100 0x0E .i32 .ro 0 .any,  -- Slope Max X, Y (R136)
  row 0x4100 0x0F .u16 .ro 0 .any,  -- Offset Max X, Y (R136)
  row 0x4100 0x10 .u16 .ro 0 .any,  -- Offset Max X, Y (R136)
  row 0x4100 0x11 .bool .rwE 0 .any,  -- Witness Enable (R136)
  row 0x4100 0x12 .i32 .rwE 0x7FFF_FFFF .any,  -- Witness Eye X, Y (R136)
  row 0x4100 0x13 .i32 .rwE 0x7FFF_FFFF .any,  -- Witness Eye X, Y (R136)
  row 0x4100 0x14 .u16 .rwE 750 (.span 100 4000),  -- Witness Eye Distance (R136)
  row 0x4100 0x15 .u32 .ro 0 .any,  -- Witness Frames (R136)
  row 0x4100 0x16 .u32 .ro 0 .any,  -- Skipped Blocks (R136)
  row 0x4100 0x17 .u32 .ro 0 .any,  -- Half-Rate Tiles (R136)
  row 0x4100 0x18 .u64 .ro 0 .any,  -- Rays Delivered (R136)
  row 0x4100 0x19 .u32 .ro 0 .any]  -- Render Configuration CRC (R136)

/-- The objects of 0x4200 to 0x42FF. -/
def rows42 : List ObjRow := [
  row 0x4200 0x01 .u8 .rwE 0x00 (.span 0x00 0x01),  -- Ray Map Swap Request (R107)
  row 0x4200 0x02 .u8 .ro 0xFF .any,  -- Ray Map Active Bank (R107)
  row 0x4200 0x03 .u8 .ro 0x00 .any,  -- Shadow Bank State (R107)
  row 0x4200 0x04 .dom .rwI 0 (.len 3136 3136 1),  -- Shadow Geometry (R107)
  row 0x4200 0x05 .dom .rwI 0 (.len 8 16777216 8),  -- Shadow Entries (R107)
  row 0x4200 0x06 .dom .wo 0 (.len 12 49152 12),  -- Shadow Entry Patch (R107)
  row 0x4200 0x07 .u8 .wo 0 (.oneOf [0x01]),  -- Shadow Copy Request (R107)
  row 0x4200 0x08 .dom .ro 0 .any,  -- Active Geometry (R107)
  row 0x4200 0x09 .dom .ro 0 .any,  -- Active Entries (R107)
  row 0x4200 0x0A .u32 .ro 0 .any,  -- Active Map Identifier (R107)
  row 0x4200 0x0B .u32 .ro 0 .any,  -- Active Map CRC (R107)
  row 0x4200 0x0C .u32 .ro 0 .any,  -- Dead Lenslets (R107)
  row 0x4200 0x0D .u32 .rwI 1000 (.span 0 2097152),  -- Dead Lenslet Limit (R107)
  row 0x4200 0x0E .u32 .ro 0 .any,  -- Swap Epoch (R107)
  row 0x4200 0x0F .u32 .ro 0 .any]  -- Shadow Map Identifier (R107)

/-- The objects of 0x4300 to 0x43FF. -/
def rows43 : List ObjRow := [
  row 0x4300 0x01 .dom .wo 0 (.len 40 8200 1),  -- Blit List (R305)
  row 0x4300 0x02 .u8 .ro 0x00 .any,  -- Blit State (R305)
  row 0x4300 0x03 .u16 .ro 0 .any,  -- Current Command (R305)
  row 0x4300 0x04 .dom .ro 0 .any,  -- Blit Results (R305)
  row 0x4300 0x05 .u32 .ro 0 .any,  -- Blit Progress (R305)
  row 0x4300 0x06 .u32 .ro 0 .any,  -- Lists Completed (R305)
  row 0x4300 0x07 .bool .ro 1 .any,  -- Blitter In Service (R305)
  row 0x4300 0x08 .u32 .ro 0 .any]  -- Steps Waited (R305)

/-- The objects of 0x4800 to 0x48FF. -/
def rows48 : List ObjRow := [
  row 0x4800 0x01 .u8 .ro 0x00 .any,  -- Link State (R169)
  row 0x4800 0x02 .u8 .ro 0 .any,  -- Link Width (R169)
  row 0x4800 0x03 .u32 .ro 0 .any,  -- Lanes In Use (R169)
  row 0x4800 0x04 .u32 .ro 0 .any,  -- Lanes Retired (R169)
  row 0x4800 0x05 .u16 .rwI 100 (.span 1 65535),  -- Lane Error Limit (R169)
  row 0x4800 0x06 .u8 .rwE 0x00 (.span 0x00 0x03),  -- Payload Format Safety (R169)
  row 0x4800 0x07 .u8 .rwE 0x01 (.span 0x00 0x03),  -- Payload Format Normal (R169)
  row 0x4800 0x08 .u8 .rwE 0x01 (.span 0x00 0x03),  -- Payload Format Background (R169)
  row 0x4800 0x09 .u8 .rwE 0x03 (.span 0x01 0x03),  -- Pressure Format (R169)
  row 0x4800 0x0A .u8 .rwI 75 (.span 10 95),  -- Pressure Threshold (R169)
  row 0x4800 0x0B .u8 .rwI 3 (.span 0 7),  -- Transmit De-emphasis (R169)
  row 0x4800 0x0C .u32 .ro 0 .any,  -- Ownership Epoch (R169)
  row 0x4800 0x0D .u32 .ro 0 .any,  -- Hub Epoch (R169)
  row 0x4800 0x0E .u8 .ro 0x00 .any,  -- Port States (R169)
  row 0x4800 0x0F .u8 .ro 0x00 .any,  -- Module Arrangement (R169)
  row 0x4800 0x10 .u32 .ro 0 .any,  -- Retransmitted Packets (R169)
  row 0x4800 0x11 .u32 .ro 0 .any,  -- Upstream CRC Errors (R169)
  row 0x4800 0x12 .u32 .ro 0 .any,  -- Stale Reports (R169)
  row 0x4800 0x13 .u32 .ro 0 .any,  -- Retrains (R169)
  row 0x4800 0x14 .dom .ro 0 .any,  -- Lane Error Counts (R169)
  row 0x4800 0x15 .u64 .ro 0 .any,  -- Bytes Sent (R169)
  row 0x4800 0x16 .u32 .ro 0 .any,  -- Retry Buffer Peak (R169)
  row 0x4800 0x17 .u8 .ro 0 .any]  -- Link Utilisation (R169)

/-- The objects of 0x4900 to 0x49FF. -/
def rows49 : List ObjRow := [
  row 0x4900 0x01 .bool .rwE 0 .any,  -- Frame-Atomic Enable (R196)
  row 0x4900 0x02 .u32 .ro 0 .any,  -- Staging Fall-Backs (R196)
  row 0x4900 0x03 .bool .rwI 1 .any,  -- Check Enable (R196)
  row 0x4900 0x04 .dom .ro 0 .any,  -- Check Results (R196)
  row 0x4900 0x05 .u32 .ro 0 .any,  -- Mismatches (R196)
  row 0x4900 0x06 .u32 .ro 0 .any,  -- Unverified Checks (R196)
  row 0x4900 0x07 .dom .wo 0 (.len 9 9 1),  -- Check Request (R196)
  row 0x4900 0x08 .dom .ro 0 .any,  -- Check Result (R196)
  row 0x4900 0x10 .dom .rwI 0 (.len 14 14 1),  -- Band Thresholds (R196)
  row 0x4900 0x11 .u16 .rwI 0x0200 (.span 0x0040 0x0A00),  -- Band Hysteresis (R196)
  row 0x4900 0x12 .u16 .rwI 100 (.span 20 1000),  -- Temperature Poll Period (R196)
  row 0x4900 0x13 .u8 .rwI 0xFF (.spanOr 0 7 [0xFF]),  -- Lost Temperature Band (R196)
  row 0x4900 0x14 .dom .ro 0 .any,  -- Module Temperatures (R196)
  row 0x4900 0x15 .dom .ro 0 .any,  -- Module Bands (R196)
  row 0x4900 0x16 .u32 .ro 0 .any,  -- Band Changes (R196)
  arr 0x4900 0x18 8 0 1 .dom .rwI 0 (.len 16 65536 1),  -- Drive Table 0–7 (R196)
  row 0x4900 0x20 .dom .ro 0 .any,  -- Drive Table CRCs (R196)
  row 0x4900 0x30 .dom .rwI 0 (.len 6144 6144 1),  -- Stress Weight Table (R196)
  row 0x4900 0x31 .dom .rwI 0 (.len 198 198 1),  -- Decay Table (R196)
  row 0x4900 0x32 .u16 .rwI 0x6000 (.span 0x4000 0x8000),  -- Efficiency Floor (R196)
  row 0x4900 0x33 .u16 .rwI 16 (.span 1 1024),  -- Gain Update Step (R196)
  row 0x4900 0x34 .bool .rwI 1 .any,  -- Ageing Enable (R196)
  row 0x4900 0x35 .dom .rwI 0 (.len 12 99532800 12),  -- Stress Counters (R196)
  row 0x4900 0x36 .dom .ro 0 .any,  -- Reference Efficiency (R196)
  row 0x4900 0x37 .u32 .ro 0 .any,  -- Blocks Beyond Compensation (R196)
  row 0x4900 0x38 .u32 .rwI 1000 (.span 0 25000000),  -- Compensation Limit (R196)
  row 0x4900 0x39 .u8 .wo 0 (.span 0 63),  -- Sense Request (R196)
  row 0x4900 0x3A .dom .rwI 0 (.len 55296 55296 1),  -- Sense Corrections (R196)
  row 0x4900 0x3B .u8 .ro 0x00 .any,  -- Sense State (R196)
  row 0x4900 0x3C .u32 .ro 0 .any]  -- Saturated Counters (R196)

/-- The objects of 0x4A00 to 0x4AFF. -/
def rows4A : List ObjRow := [
  row 0x4A00 0x01 .u16 .ro 0 .any,  -- Rectangles Open (R170)
  row 0x4A00 0x02 .u16 .rwI 32 (.span 0 128),  -- Safety Reserve (R170)
  row 0x4A00 0x03 .u32 .ro 0 .any,  -- Tiles Claimed (R170)
  row 0x4A00 0x04 .u32 .ro 0 .any,  -- Superseded Tiles (R170)
  row 0x4A00 0x05 .u32 .ro 0 .any,  -- Waited Tiles (R170)
  row 0x4A00 0x06 .u32 .ro 0 .any,  -- Allocation Stalls (R170)
  row 0x4A00 0x07 .u32 .ro 0 .any,  -- Resent Tiles (R170)
  row 0x4A00 0x08 .u32 .ro 0 .any]  -- Oldest Claim Age (R170)

/-- The objects of 0x4C00 to 0x4CFF. -/
def rows4C : List ObjRow := [
  arr 0x4C10 0x01 2 1 0 .bool .rwI 0 (.span 0 1),  -- Output Enable (R306)
  arr 0x4C10 0x02 2 1 0 .u16 .rwI 8100 (.oneOf [2700, 5400, 8100]),  -- Lane Rate (R306)
  arr 0x4C10 0x03 2 1 0 .u8 .rwI 8 (.oneOf [8, 10]),  -- Bits Per Component (R306)
  arr 0x4C10 0x04 2 1 0 .dom .rwE 0 (.len 24 24 1),  -- Timing (R306)
  arr 0x4C10 0x05 2 1 0 .u8 .wo 0 (.oneOf [0x01]),  -- Timing Commit (R306)
  arr 0x4C10 0x06 2 1 0 .u8 .rwE 0x00 (.span 0x00 0x01),  -- Source (R306)
  arr 0x4C10 0x07 2 1 0 .u8 .rwE 0 (.span 0 63),  -- Source Surface (R306)
  arr 0x4C10 0x08 2 1 0 .u16 .rwE 0 .any,  -- Origin X, Y (R306)
  arr 0x4C10 0x09 2 1 0 .u16 .rwE 0 .any,  -- Origin X, Y (R306)
  arr 0x4C10 0x0A 2 1 0 .u8 .wo 0 (.oneOf [0x01]),  -- Scan Commit (R306)
  arr 0x4C10 0x0B 2 1 0 .u32 .rwI 0 (.mask 0x3FFF_FFFF),  -- Background Colour (R306)
  arr 0x4C10 0x0C 2 1 0 .u8 .ro 0x00 .any,  -- Output State (R306)
  arr 0x4C10 0x0D 2 1 0 .u16 .ro 0 .any,  -- Scan Line (R306)
  arr 0x4C10 0x0E 2 1 0 .u32 .ro 0 .any,  -- Frame Count (R306)
  arr 0x4C10 0x0F 2 1 0 .u8 .ro 0x00 .any,  -- Commits Pending (R306)
  arr 0x4C10 0x10 2 1 0 .u32 .ro 0 .any]  -- Underrun Lines (R306)

/-- The rows among which an index stands (R66); the camera ports share the rows of 0x30. -/
def rowsOf (index : Nat) : List ObjRow :=
  match index / 256 with
  | 0x10 => rows10
  | 0x20 => rows20
  | 0x21 => rows21
  | 0x22 => rows22
  | 0x23 => rows23
  | 0x24 => rows24
  | 0x25 => rows25
  | 0x26 => rows26
  | 0x28 => rows28
  | 0x30 => rows30
  | 0x38 => rows38
  | 0x39 => rows39
  | 0x3A => rows3A
  | 0x3B => rows3B
  | 0x3C => rows3C
  | 0x40 => rows40
  | 0x41 => rows41
  | 0x42 => rows42
  | 0x43 => rows43
  | 0x48 => rows48
  | 0x49 => rows49
  | 0x4A => rows4A
  | 0x4C => rows4C
  | 0x31 => rows30
  | 0x32 => rows30
  | 0x33 => rows30
  | 0x34 => rows30
  | 0x35 => rows30
  | 0x36 => rows30
  | 0x37 => rows30
  | _ => []

/-- Whether a row holds an object's key, and as its how-manyeth object. -/
def ObjRow.at? (r : ObjRow) (k : Nat) : Option Nat :=
  if r.key ≤ k ∧ (k - r.key) % r.stepKey = 0 ∧ (k - r.key) / r.stepKey < r.count then some ((k - r.key) / r.stepKey) else none

/-- The object of a key, if the dictionary has one. -/
def objOf (k : Nat) : Option Obj := ((rowsOf (k / 256)).find? fun r => (r.at? k).isSome).map (·.obj)

/-- Whether an index holds any object (R65). -/
def indexExists (index : Nat) : Bool :=
  (rowsOf index).any fun r => (List.range r.count).any fun j => decide ((r.key + j * r.stepKey) / 256 = index)

/-- The bits of a type's value; 0 for the types that hold byte strings. -/
def Ty.width : Ty → Nat
  | .u8 => 8 | .u16 => 16 | .u32 => 32 | .u64 => 64 | .i16 => 16 | .i32 => 32 | .bool => 8 | .str => 0 | .dom => 0

/-- The bits an object's value takes. -/
def widthOf (k : Nat) : Nat := ((objOf k).map (·.ty.width)).getD 0

/-- The defaults that the tables give by a formula in the port or pair number. -/
def formulaDefault (k : Nat) : Option Nat :=
  if k % 256 = 0x0A ∧ 0x30 ≤ k / 65536 ∧ k / 65536 < 0x38 ∧ k / 256 % 256 = 0 then some ((k / 65536 - 0x30) / 2)
  else if 0x381002 ≤ k ∧ k < 0x381402 ∧ k % 256 = 2 then some (2 * (k / 256 - 0x3810))
  else if 0x381003 ≤ k ∧ k < 0x381403 ∧ k % 256 = 3 then some (2 * (k / 256 - 0x3810) + 1)
  else none

/-- The value an object holds where nothing has been stored for it: its default, as an unsigned number of its width. -/
def defaultOf (k : Nat) : Nat :=
  match formulaDefault k with
  | some v => v
  | none => ((objOf k).map fun o => unsigned o.ty.width o.dflt).getD 0

/-- The voltage rails in the order of R335, nominal in mV (R458). -/
def railNominal : List Nat := [750, 750, 800, 750, 600, 900, 750, 750, 800, 1800]

/-- Default supply windows: ±5 % of nominal (R356, R458); 712.5 mV and 787.5 mV lie between steps (log entry 20). -/
def defaultWindows : Bytes :=
  (railNominal.map fun n => leBytes 2 ((n * 950 + 999) / 1000) ++ leBytes 2 (n * 1050 / 1000)).flatten

/-- A UNSIGNED16 table as bytes. -/
def bytes16 (l : List Nat) : Bytes := (l.map fun v => leBytes 2 v).flatten

/-- A UNSIGNED32 table as bytes. -/
def bytes32 (l : List Nat) : Bytes := (l.map fun v => leBytes 4 v).flatten

/-- The default timing of R299; it names no sync polarity (byte 20), which stands at 0 (DESIGN CHOICE, log entry 21). -/
def defaultTiming : Bytes :=
  leBytes 4 594000 ++ bytes16 [3840, 176, 88, 296, 2160, 8, 10, 72] ++ [0, 0, 0, 0]

/-- Stress weights W_c[k] of R196. -/
def defaultWeights : List Nat := (List.range 1024).map fun k => (roundDiv ((k : Int) * 65535) 1023).toNat

/-- The factory contents of a camera port's pipeline objects (R222, R223), by subindex of 0x3n10. -/
def defaultPipeline : Nat → Bytes
  | 0x02 => List.replicate 16 0
  | 0x03 => bytes32 ((List.range 257).map fun i => min 0xFFFFF (i * 4096))
  | 0x06 => bytes32 ((List.range 257).map fun i => min 0xFFFFFF (i * 65536))
  | 0x09 => bytes16 (List.replicate 4356 0x1000)
  | 0x0A => bytes16 [0x1000, 0x1000, 0x1000]
  | 0x0B => bytes16 [0x1000, 0, 0, 0, 0x1000, 0, 0, 0, 0x1000] ++ List.replicate 12 0
  | 0x0C => bytes16 ((List.range 257).map Config.factoryTone)
  | _ => []

/-- The taps of a phase of a factory set (R122): phase 0 of set 0 as the rule gives it; of any other phase the rule gives only the sum,
16,384, so seven taps are free and the eighth completes it (where it fits 16 bits). -/
def factoryPhase (set phase : Nat) : List Int :=
  let t := (List.range 7).map fun j => signed 16 ((Config.factoryTap set phase j).toNat % 65536)
  let rest := 16384 - t.foldl (· + ·) 0
  if (set = 0 ∧ phase = 0) ∨ rest < -32768 ∨ 32767 < rest then [0, 0, 0, 16384, 0, 0, 0, 0] else t ++ [rest]

/-- A factory coefficient set (R122). -/
def factorySet (set : Nat) : Bytes := bytes16 ((List.range 64).flatMap fun p => (factoryPhase set p).map (unsigned 16))

/-- The content a DOMAIN object holds at reset (the tables' defaults; the factory's where they say so). -/
def defaultContent (k : Nat) : Bytes :=
  if 0x30 ≤ k / 65536 ∧ k / 65536 < 0x38 then
    if k / 256 % 256 = 0x10 then defaultPipeline (k % 256)
    else if k / 256 % 256 = 0 ∧ k % 256 = 5 then [0x00, 0x2C, 0xFF, 0xFF, 0xFF, 0xFF, 0xFF, 0xFF]
    else []
  else match k with
  | 0x212003 => defaultWindows
  | 0x284003 => List.replicate 384 0
  | 0x285001 => bytes32 [60, 1]
  | 0x38000C => (List.range 64).map fun i => BitVec.ofNat 8 (min 255 (256 - 16 * i))
  | 0x3B0001 => (List.range 64).map Config.publicKey
  | 0x3B0002 => (List.range 64).map Config.keyAttestation
  | 0x410001 => factorySet 0
  | 0x410002 => factorySet 1
  | 0x410003 => factorySet 2
  | 0x410004 => factorySet 3
  | 0x410009 => bytes16 (factoryCurve ++ factoryCurve ++ factoryCurve)
  | 0x490010 => bytes16 ([-20, 0, 15, 30, 45, 60, 75].map fun (t : Int) => unsigned 16 (t * 256))
  | 0x490030 => bytes16 (defaultWeights ++ defaultWeights ++ defaultWeights)
  | 0x490031 => bytes16 (((List.range 33).map fun i => 32768 - 256 * i) ++ ((List.range 33).map fun i => 32768 - 256 * i)
      ++ (List.range 33).map fun i => 32768 - 256 * i)
  | 0x49003A => bytes16 (List.replicate 27648 0x4000)
  | 0x4C1004 => defaultTiming
  | 0x4C1104 => defaultTiming
  | _ => []

end Sys2Proof
end

