-- ==== Sys2Proof/Machine/Zstd.lean ====
section
/-!
DEFINITION. Sys2Proof/Machine/Zstd.lean: the Zstandard blocks of Loose frames, decoded as RFC 8878 lays them out (R279; log entry 68): bit
streams, FSE tables, Huffman codes, literals, sequences and their execution; and the content checksum.
-/

namespace Sys2Proof

/-- Item `n` of a list of numbers, or 0. -/
def itemAt (l : List Nat) (n : Nat) : Nat := (l[n]?).getD 0

/-! ### Bit streams -/

/-- A bit stream that is read from its end: its bytes as a number, and how many bits are left. -/
structure BackBits where
  value : Nat
  left : Nat
  deriving DecidableEq, Repr

/-- The stream of some bytes: the highest set bit of the last byte marks its end, and a last byte of 0 is no stream. -/
def backBits (b : Bytes) : Option BackBits :=
  if b.isEmpty ∨ byteAt b (b.length - 1) = 0 then none else some { value := leNat b, left := Nat.log2 (leNat b) }

/-- The next bits, those past the beginning being 0. -/
def BackBits.peek (s : BackBits) (n : Nat) : Nat := (s.value * 2 ^ n / 2 ^ s.left) % 2 ^ n

/-- Bits are taken, where there are so many. -/
def BackBits.read (s : BackBits) (n : Nat) : Option (Nat × BackBits) :=
  if s.left < n then none else some (s.peek n, { s with left := s.left - n })

/-! ### FSE tables -/

/-- A cell of a decoding table: the symbol, and the next state as a base and a number of bits. -/
structure FseCell where
  symbol : Nat
  bits : Nat
  base : Nat
  deriving DecidableEq, Repr

structure FseTable where
  log : Nat
  cells : List FseCell
  deriving DecidableEq, Repr

def FseTable.cell (t : FseTable) (state : Nat) : FseCell := (t.cells[state]?).getD ⟨0, 0, 0⟩

/-- The next position of the spread, past the cells of symbols less probable than one. -/
def spreadNext (size high : Nat) : Nat → Nat → Nat
  | 0, p => p
  | f + 1, p =>
    let q := (p + size / 2 + size / 8 + 3) % size
    if high ≤ q then spreadNext size high f q else q

/-- The symbols are spread over the cells in turn, each as often as its probability. -/
def spreadSymbols (size high : Nat) : List Nat → Nat → List Nat → List Nat
  | [], _, cells => cells
  | s :: rest, p, cells => spreadSymbols size high rest (spreadNext size high size p) (cells.set p s)

/-- The cells of a spread: a symbol's cells, in order, take the states from its probability upwards. -/
def fseCells (log : Nat) (symbols : List Nat) (counts : List Nat) : List FseCell :=
  (symbols.foldl (fun (x : List FseCell × List Nat) s =>
    let next := itemAt x.2 s
    let bits := log - Nat.log2 next
    ({ symbol := s, bits, base := next * 2 ^ bits - 2 ^ log } :: x.1, x.2.set s (next + 1))) ([], counts)).1.reverse

/-- The decoding table of a distribution: a probability of -1 is one less than one. -/
def fseTable (log : Nat) (probabilities : List Int) : FseTable :=
  let size := 2 ^ log
  let rare := (probabilities.zipIdx.filter fun p => p.1 == -1).map (·.2)
  let high := size - rare.length
  let start := List.replicate high 0 ++ rare.reverse
  let spread := probabilities.zipIdx.flatMap fun p => List.replicate p.1.toNat p.2
  { log, cells := fseCells log (spreadSymbols size high spread 0 start) (probabilities.map Int.natAbs) }

/-- The table of a single symbol. -/
def fseSingle (symbol : Nat) : FseTable := { log := 0, cells := [{ symbol, bits := 0, base := 0 }] }

/-- Runs of symbols of probability 0: two bits each, 3 being followed by another run. The symbols, and the position after. -/
def zeroRuns (v : Nat) : Nat → Nat → Nat × Nat
  | 0, at_ => (0, at_)
  | f + 1, at_ =>
    let n := v / 2 ^ at_ % 4
    if n < 3 then (n, at_ + 2)
    else
      let more := zeroRuns v f (at_ + 2)
      (n + more.1, more.2)

/-- The probabilities of a table description from a bit position, while some of the whole remains. -/
def fseProbabilities (v bits : Nat) : Nat → Nat → Nat → List Int → Option (List Int × Nat)
  | 0, _, _, _ => none
  | f + 1, remaining, at_, done =>
    if remaining = 0 then some (done, at_)
    else if bits < at_ then none
    else
      let width := Nat.log2 (remaining + 1) + 1
      let value := v / 2 ^ at_ % 2 ^ width
      let low := value % 2 ^ (width - 1)
      let threshold := 2 ^ width - 1 - (remaining + 1)
      let short := decide (low < threshold)
      let coded := if short then low else if 2 ^ (width - 1) ≤ value then value - threshold else value
      let next := at_ + (if short then width - 1 else width)
      let p : Int := (coded : Int) - 1
      if remaining < p.natAbs then none
      else if p = 0 then
        let zeros := zeroRuns v bits next
        fseProbabilities v bits f remaining zeros.2 (done ++ List.replicate (1 + zeros.1) 0)
      else fseProbabilities v bits f (remaining - p.natAbs) next (done ++ [p])

/-- A table description: the table, and the bytes it takes. The accuracy and the number of symbols have limits. -/
def fseRead (maxLog maxSymbols : Nat) (b : Bytes) : Option (FseTable × Nat) :=
  let log := byteAt b 0 % 16 + 5
  if b.isEmpty ∨ maxLog < log then none
  else match fseProbabilities (leNat b) (8 * b.length) (8 * b.length + 2) (2 ^ log) 4 [] with
    | none => none
    | some (p, bits) =>
      if maxSymbols < p.length ∨ 8 * b.length < bits then none else some (fseTable log p, (bits + 7) / 8)

/-! ### Huffman codes -/

/-- A Huffman code: its longest length, and for each value of so many bits the symbol and the length of its code. -/
structure HuffTable where
  bits : Nat
  cells : List (Nat × Nat)
  deriving DecidableEq, Repr

/-- The code of a list of weights; the weight of one more symbol completes it to a power of two. -/
def huffTable (weights : List Nat) : Option HuffTable :=
  let sum := weights.foldl (fun a w => if w = 0 then a else a + 2 ^ (w - 1)) 0
  let bits := Nat.log2 sum + 1
  let rest := 2 ^ bits - sum
  if sum = 0 ∨ 11 < bits ∨ 255 < weights.length ∨ 2 ^ Nat.log2 rest ≠ rest then none
  else
    let all := (weights ++ [Nat.log2 rest + 1]).zipIdx
    some { bits, cells := (List.range bits).flatMap fun w =>
      (all.filter fun p => p.1 == w + 1).flatMap fun p => List.replicate (2 ^ w) (p.2, bits - w) }

/-- The weights behind an FSE table: two states take turns until a state has too few bits to go on. -/
def huffWeights (t : FseTable) : Nat → BackBits → Nat → Nat → List Nat → Option (List Nat)
  | 0, _, _, _, _ => none
  | f + 1, s, one, two, done =>
    let c := t.cell one
    let done := done ++ [c.symbol]
    match s.read c.bits with
    | none => some (done ++ [(t.cell two).symbol])
    | some (v, s) => huffWeights t f s two (c.base + v) done

/-- A Huffman tree description: the code, and the bytes that it takes. -/
def huffRead (b : Bytes) : Option (HuffTable × Nat) :=
  let head := byteAt b 0
  if b.isEmpty then none
  else if 128 ≤ head then
    let n := head - 127
    let size := 1 + (n + 1) / 2
    if b.length < size then none
    else (huffTable ((List.range n).map fun i =>
      if i % 2 = 0 then byteAt b (1 + i / 2) / 16 else byteAt b (1 + i / 2) % 16)).map fun t => (t, size)
  else
    let coded := (b.drop 1).take head
    if coded.length ≠ head then none
    else do
      let (t, used) ← fseRead 6 256 coded
      let s ← backBits (coded.drop used)
      let (one, s) ← s.read t.log
      let (two, s) ← s.read t.log
      let weights ← huffWeights t 256 s one two []
      let code ← huffTable weights
      return (code, 1 + head)

/-- The literals of one stream: so many symbols, and not a bit left. -/
def huffStream (t : HuffTable) : Nat → BackBits → Bytes → Option Bytes
  | 0, s, done => if s.left = 0 then some done.reverse else none
  | n + 1, s, done =>
    let c := (t.cells[s.peek t.bits]?).getD (0, 0)
    if s.left < c.2 then none else huffStream t n { s with left := s.left - c.2 } (BitVec.ofNat 8 c.1 :: done)

/-- The literals of a block's one or four streams. -/
def huffLiterals (t : HuffTable) (four : Bool) (size : Nat) (b : Bytes) : Option Bytes :=
  if !four then (backBits b).bind fun s => huffStream t size s []
  else
    let a := fieldLE b 0 2
    let c := fieldLE b 2 2
    let d := fieldLE b 4 2
    let quarter := (size + 3) / 4
    if b.length < 6 + a + c + d ∨ size < 3 * quarter then none
    else do
      let w ← (backBits ((b.drop 6).take a)).bind fun s => huffStream t quarter s []
      let x ← (backBits ((b.drop (6 + a)).take c)).bind fun s => huffStream t quarter s []
      let y ← (backBits ((b.drop (6 + a + c)).take d)).bind fun s => huffStream t quarter s []
      let z ← (backBits (b.drop (6 + a + c + d))).bind fun s => huffStream t (size - 3 * quarter) s []
      return w ++ x ++ y ++ z

/-! ### Literals and sequences -/

/-- What compressed blocks of a frame hand on: the Huffman code, the tables of literal lengths, offsets and match lengths, and the three
latest offsets. -/
structure ZstdState where
  huff : Option HuffTable := none
  lengths : Option FseTable := none
  offsets : Option FseTable := none
  matches_ : Option FseTable := none
  latest : Nat × Nat × Nat := (1, 4, 8)
  deriving DecidableEq, Repr

/-- The literals section: the literals, the code then in force, and the bytes that it takes. -/
def zstdLiterals (limit : Nat) (z : ZstdState) (b : Bytes) : Option (Bytes × ZstdState × Nat) :=
  let head := fieldLE b 0 5
  let kind := head % 4
  let form := head / 4 % 4
  if kind < 2 then
    let n := if form % 2 = 0 then 1 else if form = 1 then 2 else 3
    let size := if form % 2 = 0 then byteAt b 0 / 8 else fieldLE b 0 n / 16
    let used := n + (if kind = 0 then size else 1)
    if b.length < used ∨ limit < size then none
    else some (if kind = 0 then (b.drop n).take size else List.replicate size ((b.drop n).headD 0), z, used)
  else
    let n := if form ≤ 1 then 3 else form + 2
    let width := if form ≤ 1 then 10 else 4 * form + 6
    let size := head / 16 % 2 ^ width
    let coded := head / 2 ^ (4 + width) % 2 ^ width
    let body := (b.drop n).take coded
    if b.length < n + coded ∨ limit < size then none
    else do
      let (t, used) ← if kind = 2 then huffRead body else z.huff.map fun t => (t, 0)
      let lits ← huffLiterals t (form != 0) size (body.drop used)
      return (lits, { z with huff := some t }, n + coded)

/-- The default distributions of literal lengths, match lengths and offsets. -/
def defaultLengths : List Int :=
  [4, 3] ++ List.replicate 11 2 ++ [1, 1, 1] ++ List.replicate 9 2 ++ [3, 2] ++ List.replicate 5 1 ++ List.replicate 4 (-1)
def defaultMatches : List Int := [1, 4, 3] ++ List.replicate 6 2 ++ List.replicate 37 1 ++ List.replicate 7 (-1)
def defaultOffsets : List Int := List.replicate 6 1 ++ [2, 2, 2] ++ List.replicate 15 1 ++ List.replicate 5 (-1)

/-- A code of a literal length: its least value and the number of bits added to it. -/
def lengthCode (c : Nat) : Nat × Nat :=
  if c < 16 then (c, 0) else if c < 20 then (16 + 2 * (c - 16), 1) else if c < 22 then (24 + 4 * (c - 20), 2)
  else if c < 24 then (32 + 8 * (c - 22), 3) else if c = 24 then (48, 4) else (2 ^ (c - 19), c - 19)

/-- A code of a match length likewise. -/
def matchCode (c : Nat) : Nat × Nat :=
  if c < 32 then (c + 3, 0) else if c < 36 then (35 + 2 * (c - 32), 1) else if c < 38 then (43 + 4 * (c - 36), 2)
  else if c < 40 then (51 + 8 * (c - 38), 3) else if c < 42 then (67 + 16 * (c - 40), 4) else if c = 42 then (99, 5)
  else (2 ^ (c - 36) + 3, c - 36)

/-- The table of one kind of code by its mode: default, a single symbol, described, or the one before. With the bytes that it takes. -/
def sequenceTable (mode maxLog maxCode : Nat) (defaults : FseTable) (before : Option FseTable) (b : Bytes) : Option (FseTable × Nat) :=
  match mode with
  | 0 => some (defaults, 0)
  | 1 => if b.isEmpty ∨ maxCode < byteAt b 0 then none else some (fseSingle (byteAt b 0), 1)
  | 2 => fseRead maxLog (maxCode + 1) b
  | _ => before.map fun t => (t, 0)

/-- A sequence: literals to copy, and then a match by its offset value and length. -/
structure Sequence where
  literals : Nat
  offset : Nat
  length : Nat
  deriving DecidableEq, Repr

/-- The sequences of a block; after the last one not a bit is left. -/
def readSequences (ll of_ ml : FseTable) : Nat → BackBits → Nat → Nat → Nat → Option (List Sequence)
  | 0, _, _, _, _ => none
  | n + 1, s, x, y, z => do
    let a := ll.cell x
    let o := of_.cell y
    let m := ml.cell z
    let (offset, s) ← s.read o.symbol
    let (more, s) ← s.read (matchCode m.symbol).2
    let (extra, s) ← s.read (lengthCode a.symbol).2
    let q : Sequence :=
      { literals := (lengthCode a.symbol).1 + extra, offset := 2 ^ o.symbol + offset, length := (matchCode m.symbol).1 + more }
    if n = 0 then if s.left = 0 then some [q] else none
    else
      let (p, s) ← s.read a.bits
      let (r, s) ← s.read m.bits
      let (w, s) ← s.read o.bits
      let rest ← readSequences ll of_ ml n s (a.base + p) (o.base + w) (m.base + r)
      return q :: rest

/-- The offset that an offset value means, with the three latest offsets after it. -/
def offsetOf (latest : Nat × Nat × Nat) (value literals : Nat) : Nat × (Nat × Nat × Nat) :=
  let (a, b, c) := latest
  if 3 < value then (value - 3, value - 3, a, b)
  else match value + (if literals = 0 then 1 else 0) with
    | 1 => (a, latest)
    | 2 => (b, b, a, c)
    | 3 => (c, c, a, b)
    | _ => (a - 1, a - 1, a, b)

/-- A match copied byte by byte; the content stands latest byte first. -/
def copyMatch (offset : Nat) : Nat → Bytes → Bytes
  | 0, out => out
  | n + 1, out => copyMatch offset n ((out[offset - 1]?).getD 0 :: out)

/-- Sequences executed: the content, latest byte first, and the latest offsets. -/
def runSequences : List Sequence → Bytes → (Nat × Nat × Nat) → Bytes → Option (Bytes × (Nat × Nat × Nat))
  | [], lits, latest, out => some (lits.reverse ++ out, latest)
  | q :: rest, lits, latest, out =>
    let (offset, latest) := offsetOf latest q.offset q.literals
    let out := (lits.take q.literals).reverse ++ out
    if lits.length < q.literals ∨ offset = 0 ∨ out.length < offset then none
    else runSequences rest (lits.drop q.literals) latest (copyMatch offset q.length out)

/-- The sequences section: the sequences, and what the block hands on. -/
def zstdSequences (z : ZstdState) (b : Bytes) : Option (List Sequence × ZstdState) :=
  let first := byteAt b 0
  let (n, used) :=
    if first < 128 then (first, 1) else if first < 255 then ((first - 128) * 256 + byteAt b 1, 2) else (fieldLE b 1 2 + 0x7F00, 3)
  if b.isEmpty then none
  else if n = 0 then if b.length = used then some ([], z) else none
  else
    let modes := byteAt b used
    if b.length ≤ used ∨ modes % 4 ≠ 0 then none
    else do
      let b := b.drop (used + 1)
      let (ll, u) ← sequenceTable (modes / 64) 9 35 (fseTable 6 defaultLengths) z.lengths b
      let b := b.drop u
      let (of_, u) ← sequenceTable (modes / 16 % 4) 8 31 (fseTable 5 defaultOffsets) z.offsets b
      let b := b.drop u
      let (ml, u) ← sequenceTable (modes / 4 % 4) 9 52 (fseTable 6 defaultMatches) z.matches_ b
      let s ← backBits (b.drop u)
      let (x, s) ← s.read ll.log
      let (y, s) ← s.read of_.log
      let (w, s) ← s.read ml.log
      let q ← readSequences ll of_ ml n s x y w
      return (q, { z with lengths := some ll, offsets := some of_, matches_ := some ml })

/-- A compressed block decoded: the content of the frame with it, and what it hands on; at most `limit` bytes come of it. -/
def zstdBlock (limit : Nat) (z : ZstdState) (done b : Bytes) : Option (Bytes × ZstdState) := do
  let (lits, z, used) ← zstdLiterals limit z b
  let (q, z) ← zstdSequences z (b.drop used)
  if limit < lits.length + q.foldl (fun a s => a + s.length) 0 then none
  let (out, latest) ← runSequences q lits z.latest done.reverse
  return (out.reverse, { z with latest })

/-! ### The content checksum -/

/-- Arithmetic of XXH64, modulo 2^64. -/
def xxPrime : Nat → Nat
  | 1 => 0x9E3779B185EBCA87 | 2 => 0xC2B2AE3D27D4EB4F | 3 => 0x165667B19E3779F9 | 4 => 0x85EBCA77C2B2AE63 | _ => 0x27D4EB2F165667C5
def xxTurn (v n : Nat) : Nat := (v * 2 ^ n + v / 2 ^ (64 - n)) % 2 ^ 64
def xxRound (acc lane : Nat) : Nat := xxTurn ((acc + lane * xxPrime 2) % 2 ^ 64) 31 * xxPrime 1 % 2 ^ 64
def xxMerge (h acc : Nat) : Nat := ((h ^^^ xxRound 0 acc) * xxPrime 1 + xxPrime 4) % 2 ^ 64

/-- The stripes of 32 bytes over four accumulators, and what is left of the bytes. -/
def xxStripes : Nat → List Nat → Bytes → List Nat × Bytes
  | 0, acc, b => (acc, b)
  | f + 1, acc, b =>
    if b.length < 32 then (acc, b) else xxStripes f (acc.zipIdx.map fun p => xxRound p.1 (fieldLE b (8 * p.2) 8)) (b.drop 32)

/-- The last bytes: eight at a time, four, and one by one. -/
def xxTail : Nat → Nat → Bytes → Nat
  | 0, h, _ => h
  | f + 1, h, b =>
    if 8 ≤ b.length then xxTail f ((xxTurn (h ^^^ xxRound 0 (leNat (b.take 8))) 27 * xxPrime 1 + xxPrime 4) % 2 ^ 64) (b.drop 8)
    else if 4 ≤ b.length then
      xxTail f ((xxTurn (h ^^^ (leNat (b.take 4) * xxPrime 1 % 2 ^ 64)) 23 * xxPrime 2 + xxPrime 3) % 2 ^ 64) (b.drop 4)
    else match b with
      | [] => h
      | x :: rest => xxTail f (xxTurn (h ^^^ (x.toNat * xxPrime 5 % 2 ^ 64)) 11 * xxPrime 1 % 2 ^ 64) rest

/-- XXH64 with seed 0. -/
def xxh64 (b : Bytes) : Nat :=
  let start := [(xxPrime 1 + xxPrime 2) % 2 ^ 64, xxPrime 2, 0, 2 ^ 64 - xxPrime 1]
  let (acc, rest) := xxStripes b.length start b
  let h := if b.length < 32 then xxPrime 5
    else
      let sum := (xxTurn (itemAt acc 0) 1 + xxTurn (itemAt acc 1) 7 + xxTurn (itemAt acc 2) 12 + xxTurn (itemAt acc 3) 18) % 2 ^ 64
      acc.foldl xxMerge sum
  let h := xxTail (rest.length + 1) ((h + b.length) % 2 ^ 64) rest
  let h := (h ^^^ (h / 2 ^ 33)) * xxPrime 2 % 2 ^ 64
  let h := (h ^^^ (h / 2 ^ 29)) * xxPrime 3 % 2 ^ 64
  h ^^^ (h / 2 ^ 32)

/-- The Content_Checksum of a frame: the low 32 bits of its content's XXH64. -/
def zstdChecksum (b : Bytes) : Nat := xxh64 b % 2 ^ 32

end Sys2Proof
end

