-- ==== Sys2Proof/Machine/Packed.lean ====
section
/-!
DEFINITION. Sys2Proof/Machine/Packed.lean: the Groomer's arithmetic: Packed colour blocks (R156 to R158) and word blocks
(R273 to R275), tiles and bit streams (R151), and the Loose container (R278 to R282). The Zstandard frames themselves are
read and written as R279 limits RFC 8878; the blocks that the encoder writes are a constant of Config (R280).
-/

namespace Sys2Proof

/-- The parameters of a Packed format: sample bits, w_hi, mask, greatest shift of the search, how the decoder clamps. -/
structure PackForm where
  bits : Nat
  wHi : Nat
  mask : Nat
  maxShift : Nat
  top : Nat
  deriving DecidableEq, Repr

/-- Colour formats 0x01 to 0x03 (R156). -/
def colourForm (fmt : Nat) : PackForm :=
  if fmt = 1 then { bits := 10, wHi := 5, mask := 0x1008, maxShift := 9, top := 1023 }
  else if fmt = 2 then { bits := 10, wHi := 3, mask := 0x2A55, maxShift := 9, top := 1023 }
  else { bits := 10, wHi := 2, mask := 0xEA57, maxShift := 9, top := 1023 }

/-- Word formats: 0x01 is 2:1, 0x03 is 4:1 (R273, R274). -/
def wordForm (fmt : Nat) : PackForm :=
  { bits := 16, wHi := if fmt = 1 then 7 else 3, mask := 0x7777, maxShift := 15, top := 0xFFFF }

/-- Width and shift of sample `i` (R156). -/
def PackForm.width (f : PackForm) (i : Nat) : Nat := if bitOf f.mask i then f.wHi else f.wHi - 1
def PackForm.shift (f : PackForm) (sh i : Nat) : Nat := if bitOf f.mask i then sh else sh + 1

/-- half(s) of R158. -/
def halfOf (s : Nat) : Nat := if s = 0 then 0 else 2 ^ (s - 1)

/-- The residual of a sample at a shift (R158). -/
def residual (x base s : Nat) : Nat := (x - base + halfOf s) / 2 ^ s

/-- Whether every sample of a channel fits at a shift. -/
def PackForm.fits (f : PackForm) (xs : List Nat) (base sh : Nat) : Bool :=
  xs.zipIdx.all fun p => decide (residual p.1 base (f.shift sh p.2) ≤ 2 ^ f.width p.2 - 1)

/-- The smallest shift at which every sample fits, from `sh` on (R158). -/
def PackForm.search (f : PackForm) (xs : List Nat) (base : Nat) : Nat → Nat → Nat
  | 0, sh => sh
  | n + 1, sh => if f.fits xs base sh then sh else f.search xs base n (sh + 1)

/-- The least of a list of samples. -/
def leastOf : List Nat → Nat
  | [] => 0
  | x :: xs => xs.foldl min x

/-- A channel coded: the fields in order with their widths (R156, R158). -/
def PackForm.encode (f : PackForm) (xs : List Nat) : List (Nat × Nat) :=
  let base := leastOf xs
  let sh := f.search xs base f.maxShift 0
  [(base, f.bits), (sh, 4)] ++ xs.zipIdx.map fun p => (residual p.1 base (f.shift sh p.2), f.width p.2)

/-- Fields placed in the bit order of R151, as one number: the first at the lowest bits. -/
def packBits : List (Nat × Nat) → Nat
  | [] => 0
  | (v, w) :: rest => v % 2 ^ w + 2 ^ w * packBits rest

/-- The bits a list of fields takes. -/
def bitsTaken (fs : List (Nat × Nat)) : Nat := fs.foldl (fun n p => n + p.2) 0

/-- The decoder's reading of the residuals from bit `pos` on (R157). -/
def PackForm.residuals (f : PackForm) (stream base sh : Nat) : Nat → Nat → Nat → List Nat
  | 0, _, _ => []
  | n + 1, i, pos =>
    let q := stream / 2 ^ pos % 2 ^ f.width i
    min f.top (base + q * 2 ^ f.shift sh i) :: f.residuals stream base sh n (i + 1) (pos + f.width i)

/-- Bits of a channel. -/
def PackForm.channelBits (f : PackForm) : Nat := (List.range 16).foldl (fun n i => n + f.width i) (f.bits + 4)

/-- The 16 samples of the channel that starts at bit `pos` of a block (R157, R274). -/
def PackForm.decode (f : PackForm) (stream pos : Nat) : List Nat :=
  let base := stream / 2 ^ pos % 2 ^ f.bits
  let sh0 := stream / 2 ^ (pos + f.bits) % 16
  let sh := if f.bits = 10 then min sh0 9 else sh0
  f.residuals stream base sh 16 0 (pos + f.bits + 4)

/-- The bytes of a Packed colour block (R156). -/
def colourBytes (fmt : Nat) : Nat := if fmt = 1 then 30 else if fmt = 2 then 20 else 15

/-- A colour block of three channels of 16 samples, coded (R158). -/
def encodeColour (fmt : Nat) (channels : List (List Nat)) : Bytes :=
  leBytes (colourBytes fmt) (packBits ((channels.map (colourForm fmt).encode).flatten))

/-- A colour block decoded (R157). -/
def decodeColour (fmt : Nat) (b : Bytes) : List (List Nat) :=
  (List.range 3).map fun ch => (colourForm fmt).decode (leNat b) (ch * (colourForm fmt).channelBits)

/-- A word block coded and decoded (R273, R274). -/
def encodeWord (fmt : Nat) (xs : List Nat) : Bytes := leBytes (if fmt = 1 then 16 else 8) (packBits ((wordForm fmt).encode xs))
def decodeWord (fmt : Nat) (b : Bytes) : List Nat := (wordForm fmt).decode (leNat b) 0

/-- What 16 samples read as once stored in a word format: unchanged at 0, decoded otherwise (R276, R277). -/
def throughWord (fmt : Nat) (xs : List Nat) : List Nat := if fmt = 0 then xs else decodeWord fmt (encodeWord fmt xs)

/-- A signed plane's samples through a word format, with the bias of R274. -/
def throughWordSigned (fmt : Nat) (xs : List Int) : List Int :=
  (throughWord fmt (xs.map fun x => (x + 32768).toNat)).map fun u => (u : Int) - 32768

/-- Cut a list into runs of 16, the last padded by repeating its last sample (R275). -/
def runs16 {α : Type} : Nat → List α → List (List α)
  | 0, _ => []
  | n + 1, l =>
    match l.getLast? with
    | none => []
    | some _ =>
      let head := l.take 16
      match head.getLast? with
      | none => []
      | some x => (head ++ List.replicate (16 - head.length) x) :: runs16 n (l.drop 16)

/-- A row of a signed plane as the scene store gives it back. -/
def rowThroughWord (fmt : Nat) (r : List Int) : List Int :=
  ((runs16 (r.length / 16 + 1) r).map (throughWordSigned fmt)).flatten.take r.length

/-- The three channels of the 8 × 2 block at block column `bx`, block row `by_` of a tile's 384 codes (R151, R156). A
tile's codes stand pixel by pixel in raster order, three positions a pixel. -/
def tileBlock (codes : List Nat) (bx by_ : Nat) : List (List Nat) :=
  (List.range 3).map fun ch => (List.range 16).map fun i =>
    (codes[((2 * by_ + i / 8) * 16 + 8 * bx + i % 8) * 3 + ch]?).getD 0

/-- A tile's payload in a format (R151). -/
def tilePayload (fmt : Nat) (codes : List Nat) : Bytes :=
  if fmt = 0 then leBytes 480 (packBits (codes.map fun c => (c, 10)))
  else ((List.range 8).map fun b => encodeColour fmt (tileBlock codes (b % 2) (b / 2))).flatten

/-- The codes a module holds after writing a tile's payload (R151, R178). -/
def tileHeld (fmt : Nat) (codes : List Nat) : List Nat :=
  if fmt = 0 then codes
  else
    let blocks := (List.range 8).map fun b => decodeColour fmt (encodeColour fmt (tileBlock codes (b % 2) (b / 2)))
    (List.range 128).map (fun p =>
      let x := p % 16
      let y := p / 16
      let blk := (blocks[2 * (y / 2) + x / 8]?).getD []
      (List.range 3).map fun ch => (((blk[ch]?).getD [])[(y % 2) * 8 + x % 8]?).getD 0) |>.flatten

/-- The bytes of one tile in each format (R151). -/
def tileSize (fmt : Nat) : Nat := if fmt = 0 then 480 else if fmt = 1 then 240 else if fmt = 2 then 160 else 120

/-! ### Loose containers -/

/-- Block size of R278. -/
def looseBlock (code : Nat) : Nat := if code = 0 then 4096 else 65536

/-- A byte string cut into blocks of `n`. -/
def cutBlocks (n : Nat) : Nat → Bytes → List Bytes
  | 0, _ => []
  | k + 1, b => if b.isEmpty then [] else b.take n :: cutBlocks n k (b.drop n)

/-- The blocks of a Zstandard frame decoded in turn (RFC 8878; log entry 89), with what follows the last one: raw, run-length and
compressed blocks; at most min(window, 128 KiB) bytes each, the window being the content size of a single segment. -/
def zstdContent (limit : Nat) : Nat → ZstdState → Bytes → Bytes → Option (Bytes × Bytes)
  | 0, _, _, _ => none
  | f + 1, z, done, b =>
    let head := fieldLE b 0 3
    let size := head / 8
    let kind := head / 2 % 4
    let body := (b.drop 3).take (if kind = 1 then 1 else size)
    let rest := (b.drop 3).drop body.length
    let out := if kind = 0 then some (done ++ body, z) else if kind = 1 then some (done ++ List.replicate size (body.headD 0), z)
      else if kind = 2 then zstdBlock limit z done body else none
    if b.length < 3 ∨ body.length ≠ (if kind = 1 then 1 else size) ∨ limit < size then none
    else match out with
      | none => none
      | some (o, z) => if head % 2 = 1 then some (o, rest) else zstdContent limit f z o rest

/-- The bytes of Frame_Content_Size at a flag, in a single segment (RFC 8878). -/
def zstdSizeBytes (flag : Nat) : Nat := if flag = 0 then 1 else 2 ^ flag

/-- A frame decoded (R279): Single_Segment_flag set, no dictionary, no skippable frame, the content size that of the block, with the
checksum or without. -/
def zstdDecode (want : Nat) (b : Bytes) : Option Bytes :=
  let d := byteAt b 4
  let flag := d / 64
  let n := zstdSizeBytes flag
  let size := fieldLE b 5 n + (if flag = 1 then 256 else 0)
  if fieldLE b 0 4 ≠ 0xFD2FB528 ∨ b.length < 5 + n ∨ !bitOf d 5 ∨ bitOf d 3 ∨ d % 4 ≠ 0 ∨ size ≠ want then none
  else match zstdContent (min size 131072) b.length {} [] (b.drop (5 + n)) with
    | none => none
    | some (out, rest) =>
      let sound := if bitOf d 2 then rest.length == 4 && leNat rest == zstdChecksum out else rest.isEmpty
      if out.length = want ∧ sound then some out else none

/-- The frame that the Groomer writes for a block (R279): no checksum. -/
def zstdEncode (level : Nat) (b : Bytes) : Bytes :=
  let flag := if b.length < 256 then 0 else if b.length < 65792 then 1 else 2
  leBytes 4 0xFD2FB528 ++ leBytes 1 (64 * flag + 32) ++ leBytes (zstdSizeBytes flag) (b.length - (if flag = 1 then 256 else 0))
    ++ Config.zstdBlocks level b

/-- A block that does not decode to itself fails the comparison (R281). -/
def looseMismatch (level : Nat) (b : Bytes) : Bool := zstdDecode b.length (zstdEncode level b) != some b

/-- One block as the container holds it: its length field and its bytes (R278, R279, R281). -/
def looseCoded (level : Nat) (b : Bytes) : Nat × Bytes :=
  let z := zstdEncode level b
  if z.length < b.length ∧ !looseMismatch level b then (z.length, z) else (2 ^ 31 + b.length, b)

/-- The blocks of an input. -/
def looseCut (sizeCode : Nat) (b : Bytes) : List Bytes := cutBlocks (looseBlock sizeCode) (b.length / looseBlock sizeCode + 1) b

/-- The blocks that fail their comparison (R281): those named, and those that do not decode to themselves. -/
def looseFailures (level sizeCode : Nat) (named : List Nat) (b : Bytes) : List Nat :=
  ((looseCut sizeCode b).zipIdx.filter fun p => named.contains p.2 || looseMismatch level p.1).map (·.2)

/-- The container of an input (R278); the blocks of a list, by number, failed their comparison and stand raw (R281). -/
def looseEncodeWith (level sizeCode : Nat) (failed : List Nat) (b : Bytes) : Bytes :=
  let blocks := (looseCut sizeCode b).zipIdx.map fun p =>
    if failed.contains p.2 then (2 ^ 31 + p.1.length, p.1) else looseCoded level p.1
  leBytes 2 0x4C5A ++ leBytes 1 1 ++ leBytes 1 sizeCode ++ leBytes 8 b.length ++ leBytes 4 blocks.length
    ++ (blocks.map fun p => leBytes 4 p.1).flatten ++ (blocks.map (·.2)).flatten

/-- The coded blocks of a container decoded in turn: lengths from the table, original lengths from the size (R279). -/
def looseBlocks (size : Nat) : List Nat → Nat → Bytes → Option Bytes
  | [], left, rest => if left = 0 ∧ rest.isEmpty then some [] else none
  | l :: ls, left, rest =>
    let n := l % 2 ^ 31
    let want := min size left
    let coded := rest.take n
    if coded.length ≠ n then none
    else
      let block := if bitOf l 31 then some coded else zstdDecode want coded
      match block with
      | none => none
      | some d =>
        if d.length ≠ want then none
        else match looseBlocks size ls (left - want) (rest.drop n) with
          | none => none
          | some more => some (d ++ more)

/-- A container decoded, or none where R279 calls it malformed. -/
def looseDecode (c : Bytes) : Option Bytes :=
  let original := fieldLE c 4 8
  let size := looseBlock (byteAt c 3)
  let count := fieldLE c 12 4
  if fieldLE c 0 2 ≠ 0x4C5A ∨ byteAt c 2 ≠ 1 ∨ 1 < byteAt c 3 ∨ original = 0 ∨ 2 ^ 30 < original
      ∨ count ≠ (original + size - 1) / size ∨ c.length < 16 + 4 * count then none
  else looseBlocks size ((List.range count).map fun i => fieldLE c (16 + 4 * i) 4) original (c.drop (16 + 4 * count))

end Sys2Proof
end

