-- ==== Sys2Proof/Machine/Isp.lean ====
section
/-!
DEFINITION. Sys2Proof/Machine/Isp.lean: the image pipeline's stages (R205, R206) on one frame, and the histogram and
zone content of its statistics block (R215). Where the spec states no rounding or filter, the value is a Config constant.
-/

namespace Sys2Proof

/-- A plane by rows. -/
abbrev Plane := List (List Nat)

/-- The sample of a plane at a column and row, 0 outside. -/
def Plane.at (p : Plane) (x y : Nat) : Nat := (((p[y]?).getD [])[x]?).getD 0

/-- A plane of a width and height from a function. -/
def plane (w h : Nat) (f : Nat → Nat → Nat) : Plane := (List.range h).map fun y => (List.range w).map fun x => f x y

/-- `n` numbers of `w` bytes from an object's content. -/
def wordsOf (w : Nat) : Nat → Bytes → List Nat
  | 0, _ => []
  | n + 1, b => leNat (b.take w) :: wordsOf w n (b.drop w)

/-- What a pipeline works with: the parameters in force for a frame (0x3n10) and what the frame brings. -/
structure IspSet where
  cfa : Nat
  black : List Nat
  lin : List Nat
  merge : Nat
  mergeThreshold : Nat
  decompand : List Nat
  defectThreshold : Nat
  defects : List (Nat × Nat)
  shading : List Nat
  white : List Nat
  matrix : List Int
  offsets : List Int
  toneCurve : List Nat
  toneStrength : Nat
  warp : List Int
  outW : Nat
  outH : Nat
  inW : Nat
  inH : Nat
  /-- Ratios of exposure 0 to exposures 1 and 2, u8.8. -/
  ratios : Nat × Nat
  deriving DecidableEq, Repr

/-- The left shift of a data type to u20 (R205). -/
def rawShift (dataType : Nat) : Nat :=
  if dataType = 0x2B then 10 else if dataType = 0x2C then 8 else if dataType = 0x2D then 6 else if dataType = 0x2E then 4 else 0

/-- The bits of a data type's samples. -/
def rawBits (dataType : Nat) : Nat := 20 - rawShift dataType

/-- The colour of a mosaic position: 0 red, 1 green, 2 blue; a monochrome pattern has only colour 1 (0x3n10.01). -/
def cfaColour (cfa x y : Nat) : Nat :=
  if cfa = 4 then 1
  else
    let p := x % 2 + 2 * (y % 2)
    let l : List Nat := if cfa = 0 then [0, 1, 1, 2] else if cfa = 1 then [1, 0, 2, 1] else if cfa = 2 then [1, 2, 0, 1] else [2, 1, 1, 0]
    (l[p]?).getD 0

/-- A piecewise-linear curve of 257 points over u20 (stages 2 and 3). -/
def curve257 (points : List Nat) (x : Nat) : Nat :=
  let i := x / 4096
  let a := (points[i]?).getD 0
  let b := (points[i + 1]?).getD a
  a + (looseDiv (((b : Int) - a) * (x % 4096 : Nat)) 4096).toNat

/-- The default linearisation curve, the identity, and the default decompanding curve, x × 16 (R223): their last points are the greatest
values of u20 and u24. -/
def linIdentity : List Nat := (List.range 257).map fun i => min 0xFFFFF (i * 4096)
def decompandIdentity : List Nat := (List.range 257).map fun i => min 0xFFFFFF (i * 65536)

/-- Stages 1 and 2 on one u20 sample; a stage set to identity passes the last segment unchanged too. -/
def blackAndLinear (p : IspSet) (v x y : Nat) : Nat :=
  let v := v - (p.black[x % 2 + 2 * (y % 2)]?).getD 0
  if 0xFF000 ≤ v ∧ p.lin = linIdentity then v else curve257 p.lin v

/-- Stage 3: merge, decompand or widen to u24. The exposures stand with their numbers, the longest first; the ratio of each is its
own (R212). -/
def mergeStage (p : IspSet) (exposures : List (Nat × Nat)) : Nat :=
  let e0 := (exposures.headD (0, 0)).2
  if p.merge = 0 then e0 * 16
  else if p.merge = 3 then (if 0xFF000 ≤ e0 ∧ p.decompand = decompandIdentity then e0 * 16 else curve257 p.decompand e0)
  else
    let used := exposures.take (p.merge + 1)
    let ratio := fun (k : Nat) => if k = 0 then 256 else if k = 1 then p.ratios.1 else p.ratios.2
    let pick := (used.find? fun e => decide (e.2 < p.mergeThreshold)).getD (used.getLast?.getD (0, 0))
    min 0xFFFFFF (looseDiv ((pick.2 * ratio pick.1 : Nat)) 256).toNat

/-- The places of a square lattice, nearest first, those as far in raster order. -/
def latticeNear : List (Int × Int) :=
  [(0, -1), (-1, 0), (1, 0), (0, 1), (-1, -1), (1, -1), (-1, 1), (1, 1), (0, -2), (-2, 0), (2, 0), (0, 2),
    (-1, -2), (1, -2), (-2, -1), (2, -1), (-2, 1), (2, 1), (-1, 2), (1, 2), (-2, -2), (2, -2), (-2, 2), (2, 2)]

/-- The places of green in a mosaic, nearest first, those as far in raster order. -/
def greenNear : List (Int × Int) :=
  [(-1, -1), (1, -1), (-1, 1), (1, 1), (0, -2), (-2, 0), (2, 0), (0, 2), (-2, -2), (2, -2), (-2, 2), (2, 2),
    (-1, -3), (1, -3), (-3, -1), (3, -1), (-3, 1), (3, 1), (-1, 3), (1, 3), (0, -4), (-4, 0), (4, 0), (0, 4)]

/-- Places of a position's own colour, nearest first (stage 4). -/
def sameColourNear (cfa x y : Nat) : List (Int × Int) :=
  if cfa = 4 then latticeNear
  else if cfaColour cfa x y = 1 then greenNear
  else latticeNear.map fun d => (2 * d.1, 2 * d.2)

/-- The median of the samples near a defective one; an even count whose middle two differ has no stated median. -/
def nearMedian (l : List Nat) : Nat :=
  let s := (sortInts (l.map Int.ofNat)).map Int.toNat
  let a := (s[(s.length - 1) / 2]?).getD 0
  let b := (s[s.length / 2]?).getD 0
  if a = b then a else Config.middleOf s

/-- Stage 4 on one u24 sample of a mosaic, against the eight nearest of its colour in the frame (log entry 85). -/
def defectStage (p : IspSet) (m : Plane) (h x y : Nat) : Nat :=
  let v := m.at x y
  let near := ((sameColourNear p.cfa x y).filterMap fun d =>
    let nx := (x : Int) + d.1
    let ny := (y : Int) + d.2
    if 0 ≤ nx ∧ nx < p.inW ∧ 0 ≤ ny ∧ ny < h then some (m.at nx.toNat ny.toNat) else none).take 8
  let t := p.defectThreshold * 16
  let dynamic := decide (p.defectThreshold ≠ 0) && !near.isEmpty
    && (near.all (fun n => decide (n + t < v)) || near.all (fun n => decide (v + t < n)))
  if (p.defects.contains (x, y) || dynamic) && !near.isEmpty then nearMedian near else v

/-- The place of a column or row in the 33 nodes spread over a frame of `n` (stage 5), in 1/65,536 of a cell: between that of its near
edge and that of its far edge. -/
def gridPlace (n x : Nat) : Nat := (x * 2097152 + Config.gridPlace n x % 2097153) / max 1 n

/-- Bilinear interpolation of four values at fractions of 1/65,536. -/
def nodeBlend (a b c d fx fy : Nat) : Nat :=
  (looseDiv (((a * (65536 - fx) + b * fx) * (65536 - fy) + (c * (65536 - fx) + d * fx) * fy : Nat)) 4294967296).toNat

/-- The shading gain of a sample, u4.12: the grid's gains of its colour-filter position, by rows of nodes (stage 5). -/
def shadingGain (p : IspSet) (x y : Nat) : Nat :=
  let u := gridPlace p.inW x
  let v := gridPlace p.inH y
  let node := fun (i j : Nat) => (p.shading[4 * (min 32 j * 33 + min 32 i) + (x % 2 + 2 * (y % 2))]?).getD 4096
  let i := u / 65536
  let j := v / 65536
  nodeBlend (node i j) (node (i + 1) j) (node i (j + 1)) (node (i + 1) (j + 1)) (u % 65536) (v % 65536)

/-- Stages 5 and 6: shading and white-balance gains, clamped to u24. -/
def gainStage (p : IspSet) (v x y : Nat) : Nat :=
  let v := min 0xFFFFFF (looseDiv ((v * shadingGain p x y : Nat)) 4096).toNat
  min 0xFFFFFF (looseDiv ((v * ((p.white[cfaColour p.cfa x y]?).getD 4096) : Nat)) 4096).toNat

/-- Stage 8 on one pixel. -/
def matrixStage (p : IspSet) (rgb : List Nat) (c : Nat) : Nat :=
  let term := fun (j : Nat) => (p.matrix[3 * c + j]?).getD 0 * ((rgb[j]?).getD 0 : Nat)
  let v := looseDiv (term 0 + term 1 + term 2) 4096 + (p.offsets[c]?).getD 0
  (clampInt v 0 0xFFFFFF).toNat

/-- What stages 1 to 9 leave: the mosaic after stage 6, and the three u10.6 planes after stage 9. -/
structure Developed where
  mosaic : Plane
  tones : List Plane
  deriving DecidableEq, Repr

/-- The mean of the after-stage-6 samples over a zone of an n × m division of the frame. -/
def zoneMean (p : IspSet) (m : Plane) (n k zx zy colour : Nat) : Nat :=
  let h := m.length
  let px := (List.range h).flatMap fun y => (List.range p.inW).filterMap fun x =>
    if x * n / p.inW = zx ∧ y * k / p.inH = zy ∧ (p.cfa = 4 ∨ cfaColour p.cfa x y = colour) then some (m.at x y) else none
  if px.isEmpty then 0 else (looseDiv ((px.foldl (· + ·) 0 : Nat)) px.length).toNat

/-- The global curve of stage 9 on a u24 value: 257 points equally spaced in log2(1 + x) from 0 to 24. -/
def toneCurveAt (points : List Nat) (x : Nat) : Nat :=
  let power := (1 + x) ^ 256
  let i := Nat.log2 power / 24
  let a := (points[i]?).getD 0
  let b := (points[i + 1]?).getD a
  let f := if power = 2 ^ (24 * i) then 0 else Config.toneFraction x % 65536
  (looseDiv ((a * (65536 - f) + b * f : Nat)) 65536).toNat

/-- Stage 9 on one u24 value: the global curve, then the local gain blended by strength ÷ 256, u10.6. -/
def toneStage (p : IspSet) (means : List (List Nat)) (v x y : Nat) : Nat :=
  let g := toneCurveAt p.toneCurve v
  (looseDiv ((g * (256 - p.toneStrength) + Config.localTone g means x y % 65536 * p.toneStrength : Nat)) 256).toNat

/-- Stages 1 to 9 of a RAW frame, by the planes of u20 samples of the exposures with their numbers. -/
def develop (p : IspSet) (exposures : List (Nat × Plane)) : Developed :=
  let h := (exposures.map (·.2.length)).foldl max 0
  let merged := plane p.inW h fun x y => mergeStage p (exposures.map fun e => (e.1, blackAndLinear p (e.2.at x y) x y))
  let sound := plane p.inW h fun x y => defectStage p merged h x y
  let m := plane p.inW h fun x y => gainStage p (sound.at x y) x y
  let colour := fun (c x y : Nat) => if p.cfa = 4 then m.at x y else Config.demosaic p.cfa m c x y
  let means := (List.range 18).map fun zy => (List.range 32).map fun zx => zoneMean p m 32 18 zx zy 1
  let tones := (List.range 3).map fun c => plane p.inW h fun x y =>
    toneStage p means (matrixStage p [colour 0 x y, colour 1 x y, colour 2 x y] c) x y
  { mosaic := m, tones }

/-- Stage 10: the source position of an output pixel on one axis (0 x, 1 y), s20.12. -/
def warpAt (p : IspSet) (axis x y : Nat) : Int :=
  let cols := (p.outW + 31) / 32 + 1
  let node := fun (i j : Nat) => (p.warp[2 * (j * cols + i) + axis]?).getD 0
  let i := x / 32
  let j := y / 32
  let fx : Int := (x % 32 : Nat)
  let fy : Int := (y % 32 : Nat)
  looseDiv ((node i j * (32 - fx) + node (i + 1) j * fx) * (32 - fy)
    + (node i (j + 1) * (32 - fx) + node (i + 1) (j + 1) * fx) * fy) 1024

/-- The identity warp grid of an output size as its numbers: each node at its own output pixel (0x3n10.0E). -/
def identityNodes (w h : Nat) : List Nat :=
  let cols := (w + 31) / 32 + 1
  (List.range (cols * ((h + 31) / 32 + 1))).flatMap fun i => [i % cols * 32 * 4096, i / cols * 32 * 4096]

/-- Stage 10 on one plane: positions outside the frame sample black; the identity grid passes the samples through (R205). -/
def warpStage (p : IspSet) (black : Nat) (m : Plane) : Plane :=
  let same := p.warp == (identityNodes p.outW p.outH).map Int.ofNat
  plane p.outW p.outH fun x y =>
    let u := warpAt p 0 x y
    let v := warpAt p 1 x y
    if 0 ≤ u ∧ u < (p.inW : Int) * 4096 ∧ 0 ≤ v ∧ v < (m.length : Int) * 4096 then
      if same then m.at x y else Config.bicubic m u v
    else black

/-- A stage-11 output: the 10-bit luma plane and the two chroma planes of half size (R205). -/
structure Yuv where
  y : Plane
  cb : Plane
  cr : Plane
  deriving DecidableEq, Repr

/-- BT.709 at full range (R205, R246): 10-bit Y (0), Cb (1) or Cr (2) of R, G, B in units of 1 ÷ `unit`, before rounding, as a ratio. -/
def yuvRatio (unit k r g b : Nat) : Int × Int :=
  let luma : Int := 2126 * (r : Int) + 7152 * g + 722 * b
  if k = 0 then (luma, 10000 * unit)
  else if k = 1 then (10000 * (b : Int) - luma + 512 * 18556 * unit, 18556 * unit)
  else (10000 * (r : Int) - luma + 512 * 15748 * unit, 15748 * unit)

/-- The 10-bit component that ratio rounds to; the spec states no rounding. -/
def yuvOfRgb (unit k r g b : Nat) : Nat :=
  let q := yuvRatio unit k r g b
  (clampInt (looseDiv q.1 q.2) 0 1023).toNat

/-- The luma plane of three planes of a size. -/
def lumaPlane (unit w h : Nat) (rgb : List Plane) : Plane :=
  let c := fun (k x y : Nat) => Plane.at ((rgb[k]?).getD []) x y
  plane w h fun x y => yuvOfRgb unit 0 (c 0 x y) (c 1 x y) (c 2 x y)

/-- A chroma plane halved on both axes: the sample about which all samples are alike, else one the siting decides. -/
def halfChroma (w h : Nat) (full : Plane) : Plane :=
  plane (w / 2) (h / 2) fun x y =>
    let near := (List.range 16).map fun i =>
      full.at (min (w - 1) (2 * x + i % 4 - 1)) (min (h - 1) (2 * y + i / 4 - 1))
    let a := full.at (2 * x) (2 * y)
    if near.all (· == a) then a else Config.chroma420 full x y % 1024

/-- A 4:2:0 chroma plane of three planes of a size. -/
def chromaPlane (unit k w h : Nat) (rgb : List Plane) : Plane :=
  let c := fun (k x y : Nat) => Plane.at ((rgb[k]?).getD []) x y
  halfChroma w h (plane w h fun x y => yuvOfRgb unit k (c 0 x y) (c 1 x y) (c 2 x y))

/-- Stages 10 and 11 of a RAW frame; a monochrome pattern gives Cb = Cr = 512 (R206). -/
def outputStage (p : IspSet) (tones : List Plane) : Yuv :=
  let w := tones.map (warpStage p 0)
  let half := fun (k : Nat) => if p.cfa = 4 then plane (p.outW / 2) (p.outH / 2) (fun _ _ => 512) else chromaPlane 64 k p.outW p.outH w
  { y := lumaPlane 64 p.outW p.outH w, cb := half 1, cr := half 2 }

/-- A component of a YUV422 frame widened to 10 bits, by the place of its sample for a pixel column (R206); samples stand U Y V Y in
a line. -/
def yuvComponent (w : Nat) (rows : Plane) (place : Nat → Nat) : Plane :=
  plane w rows.length fun x y => let v := rows.at (place x) y; v * 4 ||| v / 64

/-- The luma of a YUV422 frame at the end of the stages it bypasses (R206). -/
def yuvLuma (w : Nat) (rows : Plane) : Plane := yuvComponent w rows fun x => 2 * x + 1

/-- R206: stages 10 and 11 of a YUV422 frame. -/
def outputYuv (p : IspSet) (rows : Plane) : Yuv :=
  let half := fun (o : Nat) => halfChroma p.outW p.outH (warpStage p 512 (yuvComponent p.inW rows fun x => 4 * (x / 2) + o))
  { y := warpStage p 0 (yuvLuma p.inW rows), cb := half 0, cr := half 2 }

/-- 10-bit R (0), G (1) or B (2) of Y and of chroma in eighths, before rounding, as a ratio (R205, R265). -/
def rgbRatio (bt601 full : Bool) (k : Nat) (y : Nat) (cb8 cr8 : Int) : Int × Int :=
  let kr : Int := if bt601 then 2990 else 2126
  let kb : Int := if bt601 then 1140 else 722
  let kg : Int := 10000 - kr - kb
  let ry : Int := if full then 1023 else 876
  let rc : Int := if full then 1023 else 896
  let yy : Int := 8 * ((y : Int) - (if full then 0 else 64))
  let cb := cb8 - 4096
  let cr := cr8 - 4096
  let base := yy * rc * 10000 * kg
  let num :=
    if k = 0 then base + 2 * (10000 - kr) * cr * ry * kg
    else if k = 2 then base + 2 * (10000 - kb) * cb * ry * kg
    else base - ry * (kb * (2 * (10000 - kb)) * cb + kr * (2 * (10000 - kr)) * cr)
  (1023 * num, 8 * ry * rc * 10000 * kg)

/-- The chroma of a pixel from a half-size plane: the sample about which all are alike, else one the siting decides. -/
def chromaAt (m : Plane) (w h x y : Nat) : Nat :=
  let near := (List.range 9).map fun i => m.at (min (w / 2 - 1) (x / 2 + i % 3 - 1)) (min (h / 2 - 1) (y / 2 + i / 3 - 1))
  let a := m.at (x / 2) (y / 2)
  if near.all (· == a) then a else Config.chromaUp m x y % 1024

/-- The 10-bit R, G, B texels of a stage-11 output as the scene store takes it in: BT.709, full range (R205). -/
def Yuv.texels (o : Yuv) (w h : Nat) : List Nat :=
  (List.range (w * h)).map fun i =>
    let x := i % w
    let y := i / w
    let c := fun (k : Nat) =>
      let q := rgbRatio false true k (o.y.at x y) (8 * chromaAt o.cb w h x y) (8 * chromaAt o.cr w h x y)
      (clampInt (looseDiv q.1 q.2) 0 1023).toNat
    c 2 + 1024 * c 1 + 1048576 * c 0

/-- The histogram of R215: 256 bins of output luma. -/
def histogram (luma : Plane) : Bytes :=
  let all := luma.flatten
  (List.range 256).flatMap fun i => leBytes 4 (all.filter fun v => decide (v / 4 = i)).length

/-- The zones of R215: 16 × 16 means of R, G, B after stage 6 as u24 >> 8, and the count of clipped samples. -/
def zones (p : IspSet) (m : Plane) (exposures : List (Nat × Plane)) : Bytes :=
  (List.range 16).flatMap fun zy => (List.range 16).flatMap fun zx =>
    let clipped := (List.range m.length).flatMap fun y => (List.range p.inW).filter fun x =>
      decide (x * 16 / p.inW = zx) && decide (y * 16 / p.inH = zy)
        && exposures.all fun e => decide (p.mergeThreshold ≤ blackAndLinear p (e.2.at x y) x y)
    ((List.range 3).flatMap fun c => leBytes 2 (zoneMean p m 16 16 zx zy c / 256))
      ++ leBytes 2 (min 65535 clipped.length)

end Sys2Proof
end

