-- ==== Sys2Proof/Machine/Units.lean ====
section
/-!
DEFINITION. Sys2Proof/Machine/Units.lean: the state of each unit of the 9640 that stands beside its dictionary objects:
queues, timers, transfers, buffers and the non-volatile stores. Plain data; counts and times are natural numbers, times in
nanoseconds of local time unless a field says otherwise.
-/

namespace Sys2Proof.Machine

/-! ### Control: CAN ports, UDP transactions, events (02_dictionary.md) -/

/-- The CiA 301 NMT states of a port (R42). -/
inductive Nmt where
  | preOperational | operational | stopped
  deriving DecidableEq, Repr

/-- An emergency message waiting on a port (R43). -/
structure Emcy where
  code : Nat
  register : Nat
  fault : Nat
  seq : Nat
  deriving DecidableEq, Repr

/-- The transfer open on a port's server channel (R40): its object, how much it is to carry, and the bytes so far (for a
download) or still to be sent (for an upload). -/
structure SdoOpen where
  upload : Bool
  block : Bool
  key : Nat
  size : Nat
  data : Bytes
  toggle : Bool
  last : Nat
  /-- For a block upload: the content's CRC, and the bytes of the block sent and not yet confirmed. -/
  crc : Nat := 0
  sent : Nat := 0
  deriving DecidableEq, Repr

/-- One CAN port (R39, R40, R42, R44). -/
structure CanPort where
  nmt : Nmt := .preOperational
  emcy : List Emcy := []
  lastEmcy : Option Nat := none
  overflowing : Bool := false
  sdo : Option SdoOpen := none
  heartbeatAt : Nat := 0
  deriving DecidableEq, Repr

/-- An open UDP bulk write (R48, R49). -/
structure Transaction where
  source : Nat
  dport : Nat
  id : Nat
  key : Nat
  total : Nat
  data : Bytes := []
  chunks : Nat := 0
  last : Nat
  deriving DecidableEq, Repr

/-- A DOMAIN write that has fully arrived and awaits its check and commit (R55, R57). -/
structure Staged where
  key : Nat
  path : Path
  /-- Over UDP, the transaction that the answer echoes. -/
  id : Option Nat
  data : Bytes
  deriving DecidableEq, Repr

/-- The control path's own state. -/
structure Ctl where
  ports : List CanPort := [{}, {}]
  transactions : List Transaction := []
  staged : List Staged := []
  eventFrames : List Bytes := []
  eventsLost : Nat := 0
  lostSeq : Nat := 0
  lostTime : Nat := 0
  lastReady : Nat := 0
  lastFailed : Nat := 0
  lastPower : Nat := 0
  /-- Whether each EVT_N pin is driven low; both are in reset (R54). -/
  lastEvt : List Bool := [true, true]
  /-- The instant at which a full reset was acknowledged (R63). -/
  fullResetAt : Option Nat := none
  /-- The instant of RESET_N release, and whether 0x2010.05 has been latched since (R59). -/
  releasedAt : Option Nat := none
  readyLatched : Bool := false
  /-- The instant of the latest function reset (R64). -/
  functionResetAt : Nat := 0
  deriving DecidableEq, Repr

/-! ### Function states, power (01_system.md, 17_startup.md) -/

/-- A function's own stage; Stopped in Hold and Degraded follow from other state (R60, R470, R471). -/
inductive Stage where
  | off | starting | up | failed | resetting
  deriving DecidableEq, Repr

/-- Where the device stands between reset, its power states and Off (R27, R31, R427, R429). -/
inductive Phase where
  | reset | startup | run | hold | enteringSleep | enteringOff | sleep | off
  deriving DecidableEq, Repr

/-- Power states, hold causes, wakes and PFAIL_N (R28 to R31, R425, R426, R428). -/
structure Power where
  phase : Phase := .reset
  hostHold : Bool := false
  tripHold : Bool := false
  pfailHold : Bool := false
  /-- Whether Run was the state before the trip, and before PFAIL_N, arose (R28, R426). -/
  tripFromRun : Bool := false
  /-- A trip has occurred since Run was last entered: the next entry starts L_eff at 6.0 W (R342). -/
  slowStart : Bool := false
  pfailFromRun : Bool := false
  /-- The return to Run has begun: PLLs lock, then the next content-frame tick enters Run. -/
  leavingHold : Bool := false
  /-- PLLs that have started, and those of them that have not yet locked (R26). -/
  plls : List PllDomain := []
  locking : List PllDomain := []
  /-- A later host request kept until an entry completes (R30), and a wake held during one. -/
  later : Option Nat := none
  wakeHeld : Bool := false
  /-- A wake has started and its start-up is to run (R28, R430). -/
  waking : Bool := false
  wakeTimerArmed : Option Nat := none
  entryFrom : Phase := .run
  pfailAt : Option Nat := none
  /-- A recognition in Sleep: whether DRAM content was marked lost, and whether the start after it owes an entry (R428). -/
  dramLost : Bool := false
  sleepPfail : Bool := false
  /-- PFAIL_N is low or not yet released, whatever the phase (R428). -/
  pfailLow : Bool := false
  /-- What RESET_N's last assertion or a wake set aside for the next cold start: its reset cause (R62). -/
  nextCause : Option Nat := none
  /-- Sensors have all read below the throttle threshold since this instant (R29). -/
  coolSince : Option Nat := none
  deriving DecidableEq, Repr

/-! ### Faults (16_pair_faults.md) -/

/-- One entry of the fault queue (R407). -/
structure FaultEntry where
  fn : Nat
  cause : Nat
  cls : Nat
  handled : Bool := false
  cleared : Bool := false
  escalated : Bool := false
  consequence : Bool := false
  acked : Bool := false
  fnState : Nat := 0
  seq : Nat
  nested : Nat := 0
  repeats : Nat := 0
  raised : Nat := 0
  detail : Nat := 0
  epoch : Nat := 0
  deriving DecidableEq, Repr

/-- The fault manager (R403 to R408). -/
structure Faults where
  queue : List FaultEntry := []
  /-- Event sequence and slot start of the faults raised, newest last; a slot lasts 2 ms (R403). -/
  slots : List (Nat × Nat) := []
  /-- Entries that have left the queue: a fault nested under one of them is still judged against it (R405). -/
  left : List FaultEntry := []
  /-- Class and event sequence of every fault raised since reset, for the EVT_N pins (R54). -/
  raised : List (Nat × Nat) := []
  /-- Causes in their condition: function, cause, item (R404). -/
  standing : List (Nat × Nat × Nat) := []
  /-- Causes that make their function Degraded (R471). -/
  degraded : List (Nat × Nat) := []
  overflowOwed : Bool := false
  /-- A full reset of the fault manager waits to be served or judged (R408). -/
  resetRequested : Bool := false
  deriving DecidableEq, Repr

/-! ### Beacon and the non-volatile stores (16_pair_faults.md, 17_startup.md) -/

/-- One Beacon entry: its header's fields (R411) and its stored payload. -/
structure Entry where
  kind : Nat
  flags : Nat
  seq : Nat
  time : Nat
  epoch : Nat
  frame : Nat
  body : Bytes
  payload : Bytes
  /-- Its payload waits for the Groomer to compress it (R283, R411). -/
  job : Bool := false
  deriving DecidableEq, Repr

/-- The Beacon front end (R410 to R416). -/
structure Beacon where
  nextSeq : Nat := 0
  pending : List Entry := []
  /-- The last entries, held in staging DRAM, newest last (R414). -/
  staging : List Entry := []
  dropped : Option (Nat × Nat) := none
  sinceCheckpoint : Nat := 0
  /-- Panel checks of frames not yet batched: 16 bytes per frame (R413). -/
  batch : List Bytes := []
  batchFirst : Nat := 0
  present : Bool := false
  stagingOnly : Bool := false
  rateMeasured : Bool := false
  deriving DecidableEq, Repr

/-- A checkpoint's fields (R410). -/
structure Checkpoint where
  head : Nat
  nextSeq : Nat
  flushed : Bool
  deriving DecidableEq, Repr

/-- What survives reset and loss of power: user OTP, the record port's NVM, and the always-on domain's own record. -/
structure Nv where
  otp : List Bytes := [List.replicate 512 0, List.replicate 512 0, List.replicate 512 0, List.replicate 512 0]
  /-- The two copies of the partition table (R431) and of the trim partition (R439). -/
  tables : List Bytes := [[], []]
  trims : List Bytes := [[], []]
  slots : List Bytes := [[], []]
  checkpoints : List (Option Checkpoint) := [none, none]
  nextCheckpoint : Nat := 0
  /-- Journal entries by their offset in the partition, oldest first, and the head where the next is written. -/
  journal : List (Nat × Entry) := []
  head : Nat := 8192
  /-- An entry whose second header copy is missing, and its sequence (R415). -/
  torn : Option (Nat × Nat) := none
  /-- Times of the fault manager's resets served (R408), and the firmware slot last tried (R434). -/
  resets : List Nat := []
  triedSlot : Option Nat := none
  deriving DecidableEq, Repr

/-- A calibration run (R437, R438). -/
structure CalRun where
  mask : Nat
  next : Nat
  /-- The 64 bytes of new trims under way: bytes 24 to 87 of R439. -/
  trims : Bytes
  deriving DecidableEq, Repr

/-- Calibration, OTP and start-up. -/
structure Cal where
  trims : Bytes := []
  repairs : List Bytes := []
  run : Option CalRun := none
  calibrated : Bool := false
  burning : Option (Nat × Bytes) := none
  /-- Start-up writes not yet applied: the records from the paused one onward (R442). -/
  paused : List (Nat × Bytes) := []
  deriving DecidableEq, Repr

/-! ### Lift, the Plough, the housekeeping round (14_lift_plough.md) -/

/-- A tile band on a carver (R346, R347): its tiles with the rectangle each was rendered for and its codes. -/
structure Band where
  module : Nat
  row : Nat
  tiles : List (Nat × Nat × List Nat)
  placement : Nat
  deriving DecidableEq, Repr

/-- One carver. -/
structure Carver where
  working : Bool := true
  active : Bool := false
  stopping : Bool := false
  band : Option Band := none
  bands : Nat := 0
  /-- Tiles delivered since its last passed golden tile (R348). -/
  since : List Nat := []
  deriving DecidableEq, Repr

/-- A 64 KiB chunk of DRAM: its rank, and its number on it (R310). -/
structure Place where
  rank : Nat
  chunk : Nat
  deriving DecidableEq, Repr

/-- The housekeeping round, the Plough and Lift. -/
structure Lift where
  readings : List (Option Nat) := List.replicate 32 none
  outliers : List Nat := List.replicate 12 0
  invalid : List Bool := List.replicate 12 false
  windowOut : List Nat := List.replicate 10 0
  windowIn : List Nat := List.replicate 10 0
  clearSince : Nat := 0
  overSince : Option Nat := none
  carvers : List Carver := List.replicate 36 {}
  /-- Sum of measured power over the evaluations of the present frame, and their number; the frame's estimated pJ. -/
  powerSum : Nat := 0
  powerCount : Nat := 0
  framePj : Nat := 0
  frameBudgetPj : Nat := 0
  frameClocks : Nat := 0
  haveFrame : Bool := false
  /-- The scene tiles placed in the ray cache: layer position, scene tile (R344). -/
  rayCache : List (Nat × Nat) := []
  /-- DRAM chunk placement: the channel last used, the chunks of each rank that have been in use, and those given back since (R345). -/
  lastChannel : Nat := 15
  rankTurn : Nat := 0
  tops : List Nat := List.replicate 32 0
  freed : List Place := []
  /-- The chunks of the privileged regions, each with its two copies; rank 32 where a copy could not be placed (R98, R327, R345). -/
  privileged : List (Place × Place) := []
  deriving DecidableEq, Repr

/-! ### Scene (03_scene.md, 04_ray_map.md, 05_carving.md) -/

/-- What a layer position shows (R88 to R93). -/
structure LayerRun where
  state : Nat := 0
  /-- The tick, in PTP ns, at which it first was not ready. -/
  notReadySince : Option Nat := none
  /-- For a graphic layer: the allocation of its surface that it last showed while ready, counted from 1 (R89). -/
  heldAlloc : Nat := 0
  /-- At the latest tick, for a graphic layer: its surface had been written since allocation (R88). -/
  written : Bool := false
  stale : Bool := false
  deriving DecidableEq, Repr

/-- One graphic surface: its size was written since reset, its DRAM chunks, how often it was allocated (R75, R76). -/
structure Surface where
  widthSet : Bool := false
  heightSet : Bool := false
  /-- The chunks in which it lies. -/
  places : List Place := []
  allocations : Nat := 0
  /-- Blocks that arrived poisoned and have not been rewritten: not opaque (R329). -/
  notOpaque : List Nat := []
  /-- Texels that arrived poisoned and have not been rewritten: transparent black (R329). -/
  holes : List Nat := []
  deriving DecidableEq, Repr

/-- The scene's own state beside its objects. -/
structure Scene where
  requested : Bool := false
  requestAt : Nat := 0
  lastWrite : Nat := 0
  refused : Bool := false
  layers : List LayerRun := List.replicate 16 {}
  surfaces : List Surface := List.replicate 64 {}
  /-- The witness view was enabled since its last complete buffer: the next one is rendered in full (R135). -/
  witnessFull : Bool := false
  /-- Tiles marked changed and not yet claimed: tile number and the time marked (R350, R353). -/
  changed : List (Nat × Nat) := []
  /-- Tiles taken for the present frame, in the order in which Lift took them. -/
  taken : List Nat := []
  /-- Tiles outside a re-rendered region that its layers' new frame reaches: marked at the next tick (R88, R91). -/
  later : List Nat := []
  rendered : List Nat := []
  /-- Tiles of half rate rendered in this frame (R133), and scene blocks left unfetched: layer, block column and row. -/
  halfRate : List Nat := []
  skips : List (Nat × Nat × Nat) := []
  /-- Witness pixels rendered for the buffer being filled: pixel number and texel (R135). -/
  witness : List (Nat × Nat) := []
  deriving DecidableEq, Repr

/-- The two ray-map banks (R98, R109). -/
structure RayBanks where
  geometry : List Bytes := [[], []]
  entries : List Bytes := [[], []]
  /-- The bank that renders, if any; the shadow is the other, bank 0 while none is active. -/
  active : Option Nat := none
  /-- Lenslets of the active bank whose entries are poisoned in both copies: dead until the bank is reloaded (R329). -/
  poisoned : List Nat := []
  deriving DecidableEq, Repr

/-! ### Maelwin link and Rinkboard (06_maelwin_link.md) -/

/-- A downstream or twin packet that has been given its sequence number and is not yet acknowledged (R154). -/
structure Packet where
  kind : Nat
  flags : Nat
  seq : Nat
  epoch : Nat
  module : Nat
  format : Nat
  spec : Nat
  payload : Bytes
  sentAt : Nat
  sends : Nat
  rect : Nat := 0
  tiles : List Nat := []
  /-- Its retry copy arrived poisoned: its tiles are rendered again for the retransmission (R332). -/
  lost : Bool := false
  deriving DecidableEq, Repr

/-- A READ sent and not answered (R153). -/
structure OpenRead where
  code : Nat
  tag : Nat
  module : Nat
  argument : Nat
  at_ : Nat
  tries : Nat
  /-- For a window checksum: the slot's expected W, whether every tile was known, and the frame (R179, R180). -/
  expected : Nat := 0
  known : Bool := false
  frame : Nat := 0
  deriving DecidableEq, Repr

/-- An Open update rectangle (R160, R162). -/
structure Rect where
  no : Nat
  module : Nat
  cls : Nat
  format : Nat
  column : Nat
  row : Nat
  columns : Nat
  rows : Nat
  frame : Nat
  supersede : Bool
  reopened : Bool := false
  deriving DecidableEq, Repr

/-- The states of a claim (R161). -/
inductive ClaimState where
  | waiting | queued | sent | staged
  deriving DecidableEq, Repr

/-- One rectangle's claim on a tile; codes are the tile's rendered 384 codes, none before it is rendered. -/
structure Claim where
  tile : Nat
  rect : Nat
  state : ClaimState
  at_ : Nat
  codes : List Nat := []
  /-- The instant at which the codes were rendered. -/
  drawn : Nat := 0
  /-- Sent to be staged, and the PRESENT that shows it has been sent (R178, R182). -/
  atomic : Bool := false
  shown : Bool := false
  deriving DecidableEq, Repr

/-- The Maelwin port and the Rinkboard. -/
structure Link where
  locked : Nat := 0
  fails : List Nat := []
  trained : Bool := false
  /-- The step of R145 under way: 1 until the hub has reported the lanes' lock, 6 from then on; 0 while the link does not train. -/
  step : Nat := 0
  deskew : Nat := 0
  generation : Nat := 0
  nextSeq : Nat := 0
  retry : List Packet := []
  reads : List OpenRead := []
  nextTag : Nat := 0
  /-- A CLAIM of this epoch is out and not yet acknowledged. -/
  claiming : Option Nat := none
  /-- A CLAIM waits for room in the retry buffer (R154). -/
  claimOwed : Bool := false
  /-- The physical lane of each logical lane. -/
  map : List Nat := []
  atomic : Bool := false
  modules : Nat := 0
  capabilityAtomic : Bool := false
  fallenBack : List Nat := []
  lastHeader : Option Nat := none
  /-- Symbol times taken by packets in the present content frame (0x4800.17). -/
  frameSymbols : Nat := 0
  /-- Symbol times taken by packets since the last deskew set, and deskew sets that packets have already been paused for, ahead of
  their DESKEW_SET (R141). -/
  setSymbols : Nat := 0
  setsAhead : Nat := 0
  /-- Physical lanes that are driven (R144), and each lane's running disparity, true while positive (R140). -/
  driven : List Nat := []
  disparity : List Bool := List.replicate 18 false
  /-- A lane map sent that takes effect at the next deskew set (R141). -/
  nextMap : Option (List Nat) := none
  /-- The register of the PRBS31 generator of the spare lanes (R141). -/
  prbs : Nat := 0x7FFFFFFF
  /-- This port's CLAIM has been accepted and its ownership not lost since (R164, R166). -/
  owned : Bool := false
  /-- The frame number from which a change of presentation mode holds (R182). -/
  modeFrom : Nat := 0
  /-- Tiles of a safety re-render whose PRESENT follows at once under frame-atomic presentation (R183). -/
  rerendered : List Nat := []
  /-- Packets that wait for room in the retry buffer or for the link (R154); they have no sequence number yet. -/
  waiting : List Packet := []
  /-- The errors per physical lane that STATUS packets reported, with their instants (R146). -/
  laneReports : List (Nat × List Nat) := []
  rects : List Rect := []
  /-- All claims in the order of their allocation: the first on a tile is its owner (R161). -/
  claims : List Claim := []
  /-- Frames whose PRESENT has not been sent yet, oldest first (R163). -/
  toPresent : List Nat := []
  deriving DecidableEq, Repr

/-! ### Panel care (07_panel_care.md) -/

/-- What the 9640 knows of one module. -/
structure ModuleCare where
  temperature : Nat := 0x8000
  reportedAt : Option Nat := none
  lost : Bool := false
  band : Nat := 0xFF
  /-- The band in force as its status or a BAND shows it (0x4900.15). -/
  inForce : Nat := 0xFF
  /-- A band change since the last tick, and those that the BAND of a frame is to carry, oldest first: frame, band (R187). -/
  change : Option Nat := none
  due : List (Nat × Nat) := []
  /-- The scan count of the latest slot-0 response, and when a response first showed it (R181). -/
  scanCount : Nat := 0
  scanAt : Option Nat := none
  /-- Its entry of 0x4900.04: expected W, reported W, frame number, outcome. -/
  check : Nat × Nat × Nat × Nat := (0, 0, 0, 0xFF)
  deriving DecidableEq, Repr

/-- A drive table under way to the modules (R185). -/
structure DriveLoad where
  table : Nat
  offset : Nat
  committedAt : Option Nat := none
  retried : Bool := false
  deriving DecidableEq, Repr

/-- The outcome of a window check: its frame, module and slot, the W reported, and the outcome as in 0x4900.04 (R180). -/
structure CheckOutcome where
  frame : Nat
  module : Nat
  slot : Nat
  reported : Nat
  outcome : Nat
  deriving DecidableEq, Repr

/-- Panel care's own state. -/
structure Care where
  modules : List ModuleCare := List.replicate 64 {}
  /-- Expected checksums of tiles, known entries only (R178). -/
  expected : List (Nat × Nat) := []
  /-- The windows of the epoch's safety regions have been set; frames whose checks wait for the PRESENT of the frame before (R179). -/
  windowsSet : Bool := false
  dueChecks : List Nat := []
  /-- The checks not yet closed, and the PTP time of each frame's READs. -/
  checks : List CheckOutcome := []
  checkTimes : List (Nat × Nat) := []
  /-- Window READs whose tag was used again for the module before an answer, and modules, each with the frame, whose slot 0 differed
  while safety windows were still to answer (R180). -/
  lostReads : List OpenRead := []
  slot0Held : List (Nat × Nat) := []
  /-- The host's open check: module, column, row, columns, rows; whether its READ has been sent; the last result. -/
  hostCheck : Option (Nat × Nat × Nat × Nat × Nat) := none
  hostCheckSent : Bool := false
  hostResult : Bytes := List.replicate 16 0
  /-- Modules whose drive tables have not been compared since the link trained (R185). -/
  unchecked : List Nat := []
  loads : List DriveLoad := []
  sensing : Option (Nat × Nat) := none
  /-- Levels and stress counters by block × 3 + colour, entries other than 0; gains by the same key, other than 32,768. -/
  levels : List (Nat × Nat) := []
  counters : List (Nat × Nat) := []
  gains : List (Nat × Nat) := []
  lastUpdate : Nat := 0
  /-- The reference efficiencies 0x4900.36. -/
  eRef : List Nat := [32768, 32768, 32768]
  bandAll : Bool := false
  deriving DecidableEq, Repr

/-! ### Time (15_time_network.md) -/

/-- The clock (R363 to R366). -/
structure Clock where
  /-- PTP time less local time, ns. -/
  offset : Int := 0
  /-- PTP time has been established since reset. -/
  established : Bool := false
  /-- What the servo adds to the counter's rate, in steps of 2^-32, and the local time from which it does (R366). -/
  rate : Int := 0
  rateFrom : Nat := 0
  deriving DecidableEq, Repr

/-! ### The pair (16_pair_faults.md) -/

/-- What goes over the twin lanes: the rules of R140, R141, R144 and R146 for five lanes (R384). -/
structure TwinWire where
  /-- The running disparity of each physical lane, true while positive (R140). -/
  disparity : List Bool := List.replicate 5 false
  /-- The physical lane of each logical lane, and a lane map sent that takes effect at the next deskew set (R141, R146). -/
  map : List Nat := []
  nextMap : Option (List Nat) := none
  generation : Nat := 0
  /-- Physical lanes that are driven (R144). -/
  driven : List Nat := []
  /-- The number of the next deskew set, and the symbol times since the latest. -/
  deskew : Nat := 0
  phase : Nat := 0
  /-- Symbol times of packets that the intervals between heartbeat sets have not yet made up. -/
  taken : Nat := 0
  /-- The register of the PRBS31 generator of the spare lane (R141). -/
  prbs : Nat := 0x7FFFFFFF
  deriving DecidableEq, Repr

/-- The pair: roles, heartbeats, the twin link, the mirror of the partner's Rinkboard (R381 to R399). -/
structure Pair where
  strapB : Bool := false
  /-- As 0x2300.03: 0 single, 1 active, 2 standby ready, 3 standby not ready, 4 starting; standby-ready is derived. -/
  role : Nat := 4
  lastTwin : Option Nat := none
  lastPin : Option Nat := none
  twinCount : Option Nat := none
  twinValidSince : Option Nat := none
  pinValidSince : Option Nat := none
  partnerState : Nat := 0
  partnerActiveAt : Option Nat := none
  partnerFailed : Bool := false
  bothStandbySince : Option Nat := none
  sendCount : Nat := 0
  wire : TwinWire := {}
  twinUp : Bool := false
  twinFailed : Bool := false
  twinLocked : Nat := 0
  twinFails : List Nat := []
  twinSeq : Nat := 0
  twinRetry : List Packet := []
  twinWaiting : List Packet := []
  mirrorCurrent : Bool := false
  /-- The parts of the partner's answer to HELLO taken since the training (R385): 1 its own HELLO, 2 MIRROR, 3 CHANGED. -/
  snapshotStep : Nat := 0
  /-- The latest report on the twin spare lane's PRBS showed no error (R396, R397). -/
  prbsClean : Bool := true
  mirror : List Rect := []
  /-- Tiles of mirrored rectangles not yet delivered: tile and rectangle. -/
  mirrorTiles : List (Nat × Nat) := []
  mirrorSeq : Nat := 0
  mirrorEpoch : Nat := 0
  changedMirror : List Nat := []
  /-- A COMMIT received: epoch, tag, tick, outcome. -/
  commitFor : Option (Nat × Nat × Nat × Nat) := none
  lastDiffers : Nat := 0
  yieldingSince : Option Nat := none
  /-- A handover that was to precede a requested full reset has failed (R394, R408). -/
  handoverFailed : Bool := false
  /-- Strapped B and standby at start-up: it may still become active (R382). -/
  waitingB : Bool := false
  /-- The next twin sequence to accept; none until the first packet after a training. -/
  twinExpected : Option Nat := none
  gapFrom : Option Nat := none
  /-- A role entry not yet written: old role, new role, cause (R391 step 9, R412). -/
  roleEntry : Option (Nat × Nat × Nat) := none
  goldenAll : Bool := true
  loopbackClean : Bool := true
  scrubClean : Bool := true
  deriving DecidableEq, Repr

/-! ### What a command sends out of the device -/

/-- The pins a command may drive (18_pins.md). -/
inductive Pin where
  | hbTx | timeOut (n : Nat) | pwrEnDdr | pwrEnCore | evt (n : Nat) | xspiResetN
  deriving DecidableEq, Repr

/-- One thing sent: a dictionary answer (on a CAN port under the server's COB-ID, R40; 0 on another path), a CAN message, a UDP or Ethernet frame, a packet or ordered set of a link, the
10-bit codes of a physical Maelwin or twin lane in order (R140, R384), the idle sets that fill one (R141), a CCI transfer, a pin's level, an AVTP payload. -/
inductive Out where
  | answer (path : Path) (cob code : Nat) (data : Bytes)
  | can (port cob : Nat) (data : Bytes)
  | udp (vlan sport dest dport : Nat) (payload : Bytes)
  | eth (mac kind : Nat) (data : Bytes)
  | maelwin (packet : Bytes)
  | orderedSet (twin : Bool) (kind a b : Nat)
  | lane (lane : Nat) (codes : List Nat)
  | idle (lane sets : Nat)
  | twinLane (lane : Nat) (codes : List Nat)
  | twinIdle (lane sets : Nat)
  | twin (packet : Bytes)
  | cci (master device : Nat) (data : Bytes)
  | avtp (mac stream sequence : Nat) (data : Bytes)
  | pin (p : Pin) (high : Bool)
  | aux (output : Nat) (what : Nat)
  | dram (channel rank what : Nat)
  | activate (channel rank bank row : Nat)
  | dramWrite (rank chunk block : Nat) (data : List Nat)
  | dramChecks (rank bank row burst : Nat) (symbols : List (Nat × Nat))
  deriving DecidableEq, Repr

end Sys2Proof.Machine
end

