-- ==== Sys2Proof/Machine/UnitsMedia.lean ====
section
/-!
DEFINITION. Sys2Proof/Machine/UnitsMedia.lean: the state of the camera ports, Slalom, the encoder and decoder, the Groomer,
the blitter and the flat outputs. Plain data; PTP times are named so, other times are local nanoseconds.
-/

namespace Sys2Proof.Machine

/-! ### Pictures -/

/-- A colour picture in the scene store or at the encoder: 10-bit R, G, B texels in raster order, its luma, and its 4:2:0 chroma, the
Cb plane and then the Cr plane. -/
structure Picture where
  seq : Nat
  time : Nat
  endTime : Nat
  width : Nat
  height : Nat
  damaged : Bool := false
  concealed : Bool := false
  rgb : List Nat
  luma : List Nat
  chroma : List Nat := []
  flags : Nat := 0
  context : Nat := 0
  /-- The rig values in force at the frame's Frame Start (R242), six for each pair: F, B, D_off, horizon row, ground slope, gate mask;
  under search those of its own pair alone. -/
  rig : List Int := []
  /-- Texels that arrived poisoned as it was shown: transparent black (R329). -/
  holes : List Nat := []
  deriving DecidableEq, Repr

/-- A depth picture as one layer holds it, converted to s12.4 (R71). -/
structure DepthPicture where
  seq : Nat
  time : Nat
  width : Nat
  height : Nat
  damaged : Bool := false
  concealed : Bool := false
  z : List Int
  /-- Samples that arrived poisoned as it was shown: they read as the layer's z0 (R329). -/
  holes : List Nat := []
  deriving DecidableEq, Repr

/-! ### Camera intake (08_camera_intake.md) -/

/-- A frame being received or processed at a port (R202 to R215). -/
structure CamFrame where
  counter : Nat
  setId : Nat := 0
  ratios : Nat × Nat := (256, 256)
  flags : Nat := 0
  startTime : Nat
  endTime : Nat := 0
  /-- INTEGER32 trigger offset as 32 bits; 0x8000_0000 for none (R215, R219). -/
  trigger : Nat := 0x80000000
  replaced : Nat := 0
  /-- Rows received by exposure: line number and samples; a lost line is listed without samples. -/
  rows : List (Nat × Nat × Option (List Nat)) := []
  /-- Lines seen so far by exposure. -/
  seen : List Nat := [0, 0, 0]
  embedded : Bytes := []
  yuv : Bool := false
  /-- In-line pipeline, 0x10 through memory, 0xFF none (0x3n00.12). -/
  pipeline : Nat := 0xFF
  /-- A through-memory frame's job: the pipeline that processes it, the placement epoch of its latest issue, and whether it waits to be
  issued again (R347). -/
  worker : Nat := 0xFF
  placement : Nat := 0
  reissued : Bool := false
  /-- The parameters in force at its Frame Start with their CRC (R207), and the rig values of the pairs (R242). -/
  params : Option IspSet := none
  ispCrc : Nat := 0
  rig : List Int := []
  frameStartLocal : Nat := 0
  pipelineFailed : Bool := false
  deriving DecidableEq, Repr

/-- An exposure set latched at a frame, and from which frame on it is in force (R212 to R214). -/
structure LatchedSet where
  id : Nat
  fromFrame : Nat
  ratios : Nat × Nat
  uncertain : Bool := false
  /-- The counter of the first frame tagged with it. -/
  first : Option Nat := none
  deriving DecidableEq, Repr

/-- The CCI writes of a latched set, under way (R213). -/
structure ExposureJob where
  setId : Nat
  set : Bytes
  frame : Nat
  deadline : Nat
  /-- The register map entries not yet written; whether the first has been retried. -/
  left : List Bytes
  retried : Bool := false
  late : Bool := false
  deriving DecidableEq, Repr

/-- A mirror frame on its way to the panel (R221): its end time, the local instant at which its re-render began, the region's tiles not
yet delivered, and the PTP time of the latest delivery. -/
structure Latency where
  endTime : Nat
  since : Nat
  tiles : List Nat
  last : Option Nat := none
  deriving DecidableEq, Repr

/-- One camera port. -/
structure Cam where
  enabledAt : Nat := 0
  frame : Option CamFrame := none
  /-- The first Frame Start after enable has been accepted; the last frame number and its Frame Start's PTP time. -/
  started : Bool := false
  lastNumber : Nat := 0
  lastStart : Nat := 0
  lastSeenLocal : Nat := 0
  /-- The local instant at which the frame counter last advanced (R92). -/
  advancedAt : Nat := 0
  latched : List LatchedSet := []
  jobs : List ExposureJob := []
  /-- On a standby: frame-start times and set identifiers of the active's statistics blocks, oldest first (R395). -/
  partnerTags : List (Nat × Nat) := []
  /-- The most lines by which exposure streams on separate virtual channels lay apart (R208). -/
  apart : Nat := 0
  /-- 0x3n10.11 as it was in force for the frame of the latest statistics block (R207). -/
  statsCrc : Nat := 0
  /-- 0x3n40.05 and .06. -/
  errors : List Nat := List.replicate 11 0
  packets : List Nat := List.replicate 4 0
  /-- The frames waiting in the raw buffers, oldest first; the first may be in processing (R208, R210). -/
  raw : List CamFrame := []
  processing : Bool := false
  replacedRun : Nat := 0
  /-- Delivered pictures, newest last; the port's delivered frames still unpaired by Slalom. -/
  pictures : List Picture := []
  /-- Mirror frames whose region's tiles are on their way, oldest first (R221). -/
  measuring : List Latency := []
  deriving DecidableEq, Repr

/-- A transaction on a CCI master: the port it is for, whether it is an exposure write, its bytes (R217). -/
structure CciJob where
  port : Nat
  exposure : Bool
  read : Bool
  device : Nat
  addressBytes : Nat
  address : Nat
  length : Nat
  data : Bytes
  deriving DecidableEq, Repr

/-- A CCI master. -/
structure CciMaster where
  running : Option CciJob := none
  queue : List CciJob := []
  stuck : Bool := false
  deriving DecidableEq, Repr

/-! ### Slalom (09_slalom.md) -/

/-- One searched block: its disparity, its confidence (R234 to R236). -/
structure Block where
  d : Nat
  confidence : Nat
  deriving DecidableEq, Repr

/-- A search of frames still coming in (R232): their counters, the rows searched, and the engine and placement epoch of its issue (R347). -/
structure EarlySearch where
  ref : Nat
  partner : Nat
  rows : Nat
  engine : Nat
  placement : Nat
  deriving DecidableEq, Repr

/-- One stereo pair. -/
structure StereoPair where
  /-- The paired frames under search: reference and partner luma with their counters and times. -/
  ref : Option Picture := none
  partner : Option Picture := none
  blocks : List Block := []
  rowsDone : Nat := 0
  /-- Results of the previous paired frame; whether gates 3, 4 and 6 of the search under way use them, and whether the next paired frame
  comes first after the enable, or after an unpaired or abandoned frame (R235). -/
  previous : List Block := []
  usePrevious : Bool := false
  fresh : Bool := true
  unpairedRun : Nat := 0
  /-- The last depth picture (u8.8 metres) and how many paired frames ago each value was formed from valid blocks. -/
  depth : List Nat := []
  ages : List Nat := []
  /-- Delivered frames not yet paired, oldest first. -/
  waitingRef : List Picture := []
  waitingPartner : List Picture := []
  /-- A paired frame that waits for the search under way to be abandoned, with its `usePrevious` (R232). -/
  next : Option (Picture × Picture × Bool) := none
  early : Option EarlySearch := none
  engine : Nat := 0
  /-- The placement epoch at which the search was last issued (R230, R347). -/
  placement : Nat := 0
  deriving DecidableEq, Repr

/-- The motion vectors of one stream's search: block position, vector, cost, refined. -/
structure MotionResult where
  bx : Nat
  by_ : Nat
  mvx : Int
  mvy : Int
  cost : Nat
  refined : Bool := true
  deriving DecidableEq, Repr

/-! ### Encoder and decoder (10_video_coding.md) -/

/-- One encoder stream. -/
structure Stream where
  core : Nat := 0
  suspended : Bool := false
  fill : Int := 0
  lastQp : Nat := 0
  cplxAvg : Nat := 0
  lastBits : Nat := 0
  lastCplx : Nat := 0
  lastIdr : Bool := true
  first : Bool := true
  /-- Chain and segment (R252 to R256). -/
  chainId : Nat := 0
  chainT0 : Option Nat := none
  segment : Nat := 0
  /-- m of R252 for the open segment. -/
  segIndex : Nat := 0
  segFirst : Nat := 0
  segLast : Nat := 0
  segPictures : Nat := 0
  segMissing : Nat := 0
  segRepeats : Nat := 0
  segCapped : Bool := false
  segFirstSeq : Nat := 0
  /-- The bytes that the segment's digest is taken over (R253). -/
  segData : Bytes := []
  prevChain : Bytes := List.replicate 32 0
  open_ : Bool := false
  lastSeq : Option Nat := none
  /-- A source picture that arrived poisoned: it is not coded, and the next picture carries flag frames missing (R329). -/
  lostSeq : Option Nat := none
  /-- Segments ended and not yet sealed, oldest first: bytes 0 to 87 of the record, the instant of the end. -/
  unsealed : List (Bytes × Nat) := []
  /-- Seals made and not yet carried in-band, oldest first (R255). -/
  sealInBand : List Bytes := []
  closing : Bool := false
  /-- The motion search under way: source sequences of the picture and of its reference, and the results so far; the engine and the
  placement epoch of its latest issue (R239, R347). -/
  motionFor : Option (Nat × Nat) := none
  motionEngine : Nat := 0
  motionPlacement : Nat := 0
  motion : List MotionResult := []
  motionPrev : List MotionResult := []
  /-- The picture last coded, which the next P picture names as its reference. -/
  reference : Option Picture := none
  /-- The samples coded of the up to two latest pictures of the segment, newest first, to which a P picture may refer (R245). -/
  codedRefs : List (List Nat) := []
  /-- The QP of every CTU of the picture last coded (R249, R250). -/
  ctuQps : List Nat := []
  /-- The missing witness buffer that the stream last coded a repeat for (R246). -/
  repeatedAt : Option Nat := none
  avtpSeq : Nat := 0
  pictures : Nat := 0
  deriving DecidableEq, Repr

/-- A picture in the decoded picture buffer (R264): its presentation time, whether it is generated, damaged or concealed, its planes. -/
structure Reference where
  time : Nat
  flawed : Bool
  luma : List Nat
  cb : List Nat
  cr : List Nat
  deriving DecidableEq, Repr

/-- A whole access unit not yet decoded: presentation time, whether a packet was missing, its NAL units' bytes (R259, R261). -/
structure GatheredUnit where
  time : Nat
  gap : Bool
  bytes : Bytes
  deriving DecidableEq, Repr

/-- One decoder slot. -/
structure Slot where
  core : Nat := 0
  suspended : Bool := false
  enabledAt : Nat := 0
  resync : Bool := true
  rasl : Bool := false
  overruns : Nat := 0
  overrunsRaised : Bool := false
  lastUnit : Nat := 0
  starved : Bool := false
  /-- The last 128 sequence numbers received, newest last (R372). -/
  lastSeqs : List Nat := []
  /-- AVTP payloads gathered of the access unit under way, whether a packet was missing, its presentation time. -/
  gathered : Bytes := []
  gap : Bool := false
  timestamp : Nat := 0
  /-- Whole access units not yet decoded, oldest first. -/
  units : List GatheredUnit := []
  dpb : List Reference := []
  /-- Writes outside the bounds windows that were suppressed (R263). -/
  suppressed : Nat := 0
  pictures : List Picture := []
  /-- Pictures decoded with a new presentation time, and the instant of the latest (R92). -/
  newTimes : Nat := 0
  advancedAt : Nat := 0
  deriving DecidableEq, Repr

/-- Encoder and decoder. -/
structure Codec where
  streams : List Stream := List.replicate 24 {}
  slots : List Slot := List.replicate 32 {}
  encCores : List Bool := [true, true]
  decCores : List Bool := [true, true]
  deriving DecidableEq, Repr

/-! ### Groomer, blitter, flat outputs (11, 12) -/

/-- The host job of the Groomer: compression, level, block size, input (R283, R285). -/
structure GroomerJob where
  compress : Bool
  level : Nat
  size : Nat
  input : Bytes
  deriving DecidableEq, Repr

structure Groomer where
  job : Option GroomerJob := none
  /-- The client whose block is under way, as R283 numbers them, where one began while no client before it waited: at its next block
  boundary it gives way, unless that block is its job's last. -/
  current : Option Nat := none
  lastMismatch : Option Nat := none
  deriving DecidableEq, Repr

/-- The blit list that runs or is paused (R287 to R296). -/
structure Blitter where
  list : List Bytes := []
  current : Nat := 0
  /-- Destination texels of the current command already written. -/
  done : Nat := 0
  /-- The PTP time at which the current command's watermark was reached; 0 before. -/
  watermark : Nat := 0
  /-- The current command found its chase output not running (R295). -/
  chaseFlag : Bool := false
  /-- The wait of the next step for a tile has been counted (R293). -/
  waited : Bool := false
  /-- The current WAIT LINE was reached while its output ran (R289). -/
  reached : Bool := false
  deriving DecidableEq, Repr

/-- One flat output (R297 to R304). -/
structure FlatOut where
  hpd : Bool := false
  trained : Bool := false
  /-- The latched set: source, surface, origin X and Y, format. -/
  latched : Option (Nat × Nat × Nat × Nat × Nat) := none
  scanCommit : Bool := false
  timingCommit : Bool := false
  /-- The timing commit was acknowledged before the latest start of vertical blanking (R302). -/
  timingReady : Bool := false
  /-- The latest instant a line of video was known to begin at, and that line; the scan is reckoned from it. -/
  scanAt : Option (Nat × Nat) := none
  /-- In a timing blank, when video resumes (R302). -/
  resumeAt : Nat := 0
  underrunInFrame : Bool := false
  underrunFrames : Nat := 0
  /-- The latest underrun line and its first pixel that was replaced (R300). -/
  late : Option (Nat × Nat) := none
  /-- The background colour before the latest write, in force up to an instant (R300). -/
  backBefore : Nat := 0
  backFrom : Nat := 0
  /-- The witness buffer taken at the latest latch (R303). -/
  witness : Option Picture := none
  retryAt : Option Nat := none
  deriving DecidableEq, Repr

/-- The media functions. -/
structure Media where
  cams : List Cam := List.replicate 8 {}
  masters : List CciMaster := List.replicate 4 {}
  pipelines : List Bool := List.replicate 4 true
  pairs : List StereoPair := List.replicate 4 {}
  engines : List Bool := [true, true]
  /-- Streams with motion search under way, in the order of the encoder's requests (R229). -/
  motionQueue : List Nat := []
  /-- The depth pictures each layer position holds, newest last (R71). -/
  layerDepth : List (List DepthPicture) := List.replicate 16 []
  /-- The picture, and the depth picture, that each layer position shows or holds (R88, R89). -/
  shown : List (Option Picture) := List.replicate 16 none
  shownDepth : List (Option DepthPicture) := List.replicate 16 none
  /-- What a position showed at the latest tick, where a re-render has put a newer frame in the safety regions that bind it; tiles outside
  them show it until the next tick (R88, R91). -/
  tickShown : List (Option (Option Picture × Option DepthPicture)) := List.replicate 16 none
  codec : Codec := {}
  groomer : Groomer := {}
  blitter : Blitter := {}
  flats : List FlatOut := List.replicate 2 {}
  /-- The last edge of each timed output, as a trigger (R219): PTP ns. -/
  triggers : List (Option Nat) := List.replicate 8 none
  /-- The complete witness buffer: its frame count, tick and texels (R135). -/
  witness : Option Picture := none
  /-- The tick whose witness buffer was last found missing at the tick after it (R246). -/
  witnessMissed : Option Nat := none
  deriving DecidableEq, Repr

end Sys2Proof.Machine
end

