-- ==== Sys2Proof/Machine/UnitsMem.lean ====
section
/-!
DEFINITION. Sys2Proof/Machine/UnitsMem.lean: the state of DRAM and on-chip SRAM (13_memory.md) and of time and network
(15_time_network.md). Plain data.
-/

namespace Sys2Proof.Machine

/-! ### Memory -/

/-- A migration of a rank's content: source, target, chunks copied (R323). -/
structure Migration where
  source : Nat
  target : Nat
  chunk : Nat
  deriving DecidableEq, Repr

/-- A check burst in a controller's cache: its rank, bank and number, and its check symbols by their places (R311). -/
structure CheckBurst where
  rank : Nat
  bank : Nat
  burst : Nat
  symbols : List (Nat × Nat)
  deriving DecidableEq, Repr

/-- A command in a channel's retry buffer (R328). -/
structure DramCommand where
  rank : Nat
  chunk : Nat
  block : Nat
  write : Bool
  deriving DecidableEq, Repr

/-- A chunk whose content was lost, and the blocks of it that have been rewritten since (R324). -/
structure VoidChunk where
  place : Place
  rewritten : List Nat
  deriving DecidableEq, Repr

/-- One DRAM channel's training and drift (R320, R321), its check cache and its retry buffer (R311, R328). -/
structure Channel where
  trained : Bool := false
  excluded : Bool := false
  attempts : Nat := 0
  baseline : Nat := 0x8000
  temperature : Nat := 0x8000
  /-- Times of the centrings that did not converge, within the last minute (R321). -/
  failures : List Nat := []
  retryAt : Option Nat := none
  /-- The LFSR of neighbour refresh once it has stepped; before, it holds its seed (R316). -/
  lfsr : Option Nat := none
  /-- Check bursts in the write-back cache, oldest first. -/
  checks : List CheckBurst := []
  /-- The last 64 commands, newest last. -/
  retry : List DramCommand := []
  deriving DecidableEq, Repr

/-- One rank: its state as 0x2400.05, its refresh and its marked pins (R313, R315, R318, R333). -/
structure Rank where
  state : Nat := 0
  mr4 : Nat := 0
  rate : Nat := 0xFF
  postponed : Nat := 0
  oscillator : Nat := 0
  /-- What its write DQ delays have been shifted by since training; and whether R321's update has to be run, after a wake from Sleep. -/
  dqShift : Int := 0
  updateDue : Bool := false
  marked : Nat := 0
  poweredDown : Bool := false
  derated : Bool := false
  /-- Pin decodes of the last second: pin and block, time (R313). -/
  decodes : List (Nat × Nat) := []
  /-- Chunks whose content was lost and not rewritten (R324). -/
  lost : Bool := false
  /-- Open rows: bank, row, and the instant of the last access. -/
  open_ : List (Nat × Nat × Nat) := []
  /-- The latest request or refresh (R318). -/
  lastUse : Nat := 0
  /-- Neighbours of selected rows, to be activated in the next refresh interval: bank, row (R316). -/
  victims : List (Nat × Nat) := []
  /-- Two-bit row predictors of its eight banks (R317). -/
  predictor : List Nat := List.replicate 8 2
  deriving DecidableEq, Repr

/-- One SRAM macro: spares left, and corrections: row, number, time (R330, R331). -/
structure Macro where
  rowsLeft : Nat := 4
  columnsLeft : Nat := 2
  counts : List (Nat × Nat × Nat) := []
  deriving DecidableEq, Repr

structure Memory where
  channels : List Channel := List.replicate 16 {}
  ranks : List Rank := List.replicate 32 {}
  migration : Option Migration := none
  /-- Ranks whose migration waits for the running one, with the cause to raise (R325). -/
  queued : List (Nat × Nat) := []
  /-- Blocks that hold poisoned data: rank, chunk, block (R314); and chunks whose content was lost (R324). -/
  poison : List (Nat × Nat × Nat) := []
  voids : List VoidChunk := []
  /-- Where the patrol scrub goes on, rank, chunk and block, and when its pass began (R319). -/
  scrubAt : Nat × Nat × Nat := (0, 0, 0)
  scrubSince : Option Nat := none
  macros : List Macro := List.replicate 320 {}
  corrections : List Nat := List.replicate 6 0
  deriving DecidableEq, Repr

/-! ### Time and network -/

/-- A timed output: its settings in force, the instant from which its edges count, its pulse (R373). -/
structure TimeOut where
  mode : Nat := 0
  start : Nat := 0
  period : Nat := 16666667
  width : Nat := 10000
  polarity : Nat := 0
  /-- PTP time of the latest edge, of the settings, or of a step: edges at or before it are past. -/
  last : Nat := 0
  /-- PTP time of the settings or of the latest clock step, and the spans of PTP time before it in which the series' edges have fired:
  after the first instant, to the second (R373). -/
  base : Nat := 0
  covered : List (Nat × Nat) := []
  /-- In mode 0x01: its one edge has fired. -/
  fired : Bool := false
  active : Bool := false
  pulseEnd : Nat := 0
  /-- A mode was written while the function was not usable: it is applied when it is (R61). -/
  owed : Bool := false
  deriving DecidableEq, Repr

/-- A capture input (R374). -/
structure Capture where
  queue : List (Nat × Bool) := []
  lastStamped : Option Nat := none
  lastRaise : Option Nat := none
  /-- The level at present is that of a glitch: the edge that ends it is not stamped. -/
  inGlitch : Bool := false
  deriving DecidableEq, Repr

/-- A frame-group commit under way (R376, R377). -/
structure Group where
  /-- Whether it decided ready at T less the lead; and whether a write has since turned it not ready. -/
  decided : Option Bool := none
  turned : Bool := false
  sends : Nat := 0
  nextSend : Nat := 0
  /-- Members from which a ready frame, and a not-ready frame, has come in time. -/
  ready : List Nat := []
  notReady : List Nat := []
  deriving DecidableEq, Repr

/-- What a MAC transmits (R361). -/
structure MacTx where
  /-- The waiting frames, oldest first: PTP messages, AVTP stream packets, all other traffic. -/
  queues : List (List Out) := [[], [], []]
  /-- In tenths of a nanosecond of local time: the instant at which the line is free again, or to which it has been served. -/
  freeAt : Nat := 0
  /-- The credit of the AVTP queue's shaper at that instant, in bits × 10^7. -/
  credit : Int := 0
  deriving DecidableEq, Repr

/-- What both MACs transmit (R361, R362). -/
structure Tx where
  macs : List MacTx := [{}, {}]
  /-- The model's own field: the frames that left on the line since the command before, with MAC and local time in ns (log entry 2). -/
  wire : List (Nat × Nat × Out) := []
  /-- UDP frames that found their queue full, and the MACs of those whose drop no fault has told yet. -/
  dropped : Nat := 0
  untold : List Nat := []
  deriving DecidableEq, Repr

structure Net where
  /-- The latest Announce received on each port (R363). -/
  announces : List (Option Announce) := [none, none]
  goodSyncs : Nat := 0
  lastPathDelay : List Nat := [0, 0]
  /-- Local time of the latest tick, and frame-lock (R367 to R369). -/
  lastTickLocal : Option Nat := none
  /-- PTP time after which the next tick is sought: of the latest tick, or the current time of a step, of the timer's start or of a write of
  the rate or phase (R368). -/
  tickAfter : Option Nat := none
  /-- PTP times of the latest ticks on frame-lock pulses, latest first (R373); the place, in local time, of an edge accepted after its tick
  had fallen at the expected instant (R369). -/
  lockTicks : List Nat := []
  lateEdge : Option Nat := none
  /-- Local time of the latest accepted edge, or of the choice of the input. -/
  lastEdge : Nat := 0
  ignoredEdges : Nat := 0
  outs : List TimeOut := List.replicate 8 {}
  captures : List Capture := List.replicate 4 {}
  group : Group := {}
  /-- Neighbours resolved by ARP or neighbour discovery: address, MAC address (R360). -/
  neighbours : List (Nat × Nat) := []
  unmatched : Nat := 0
  ignoredReadiness : Nat := 0
  syncSeq : Nat := 0
  /-- When each port last sent a Sync as master. -/
  syncSent : List (Option Nat) := [none, none]
  deriving DecidableEq, Repr

end Sys2Proof.Machine
end

