-- ==== Sys2Proof/Machine/State.lean ====
section
/-!
DEFINITION. Sys2Proof/Machine/State.lean: the state of the block, all of it plain data, and the state in reset. The
dictionary's scalar objects and DOMAIN contents stand in two stores keyed by index × 256 + subindex, in canonical form
(keys strictly rising; a scalar equal to its object's default is not listed); each unit's own state stands beside them.
-/

namespace Sys2Proof.Machine

/-- The named ways in which a command stops. -/
inductive Fault where
  /-- Raised by a command whose operand names an item the spec does not have (a port, stream, slot, module, table or
  lane beyond its count): no such event exists on the device. Safe: nothing can be proved of what follows. -/
  | operandOutOfRange
  deriving DecidableEq, Repr

/-- The named ways in which the model refuses a command. -/
inductive Refusal where
  /-- A command whose meaning is not written; raised by the arm of exec that names it. Safe: it claims no effect. -/
  | notModelled (mnemonic : String)
  deriving DecidableEq, Repr

/-- The whole block. -/
structure State where
  /-- Commands waiting, first in, first out. -/
  pending : List Instr := []
  /-- The model's own field: local time of the latest command, ns (log entry 3). -/
  now : Nat := 0
  /-- The model's own field: how many free values have been drawn (log entry 1). -/
  free : Nat := 0
  /-- The model's own field: what the latest command sent, oldest first (log entry 2). -/
  out : List Out := []
  /-- Scalar objects in effect, and DOMAIN contents in effect. -/
  regs : List (Nat × Nat) := []
  doms : List (Nat × Bytes) := []
  /-- RW-E values written and not yet in effect (R50). -/
  pendR : List (Nat × Nat) := []
  pendD : List (Nat × Bytes) := []
  /-- RW-O values written since the last reset (R50). -/
  burnR : List (Nat × Nat) := []
  burnD : List (Nat × Bytes) := []
  stages : List Stage := List.replicate 16 .off
  ctl : Ctl := {}
  power : Power := {}
  faults : Faults := {}
  beacon : Beacon := {}
  nv : Nv := {}
  cal : Cal := {}
  lift : Lift := {}
  scene : Scene := {}
  banks : RayBanks := {}
  link : Link := {}
  care : Care := {}
  pair : Pair := {}
  clock : Clock := {}
  media : Media := {}
  memory : Memory := {}
  net : Net := {}
  tx : Tx := {}
  deriving DecidableEq, Repr

/-- The machine held in reset, before its first cold start: nothing listed, nothing running (R59 default states). -/
def State.reset : State := {}

end Sys2Proof.Machine
end

