-- ==== Sys2Proof/Machine/Ops.lean ====
section
/-!
DEFINITION. Sys2Proof/Machine/Ops.lean: the named operations over the block: the object stores and their canonical form,
reading and writing objects, counters, free values, what a command sends, function states (R60, R470, R471), event numbers
and event frames (R52, R53), and how every command's meaning begins and ends.
-/

namespace Sys2Proof.Machine

/-! ### Stores keyed by object -/

/-- The value listed first for a key. -/
def lookup {α : Type} (k : Nat) : List (Nat × α) → Option α
  | [] => none
  | (k', v) :: l => if k' = k then some v else lookup k l

/-- A sorted store with one key's value set. -/
def insertKey {α : Type} (k : Nat) (v : α) : List (Nat × α) → List (Nat × α)
  | [] => [(k, v)]
  | (k', v') :: l => if k < k' then (k, v) :: (k', v') :: l else if k = k' then (k, v) :: l else (k', v') :: insertKey k v l

/-- A store without a key. -/
def eraseKey {α : Type} (k : Nat) (l : List (Nat × α)) : List (Nat × α) := l.filter fun p => p.1 != k

/-- A scalar store with a value set in the canonical form: a value equal to its default is not listed. -/
def setKey (k v : Nat) (l : List (Nat × Nat)) : List (Nat × Nat) :=
  if v = defaultOf k then eraseKey k l else insertKey k v l

/-- The canonical form of a scalar store: keys strictly rising, no default listed. -/
def canonR : List (Nat × Nat) → List (Nat × Nat)
  | [] => []
  | (k, v) :: l => setKey k v (canonR l)

/-- The canonical form of any other store: keys strictly rising. -/
def canonK {α : Type} : List (Nat × α) → List (Nat × α)
  | [] => []
  | (k, v) :: l => insertKey k v (canonK l)

/-- Keys strictly rise. -/
def keysRise {α : Type} : List (Nat × α) → Bool
  | [] => true
  | p :: l => l.all (fun q => decide (p.1 < q.1)) && keysRise l

/-- Every command leaves the stores in this form. -/
def State.wf (s : State) : Bool :=
  keysRise s.regs && s.regs.all (fun p => p.2 != defaultOf p.1) && keysRise s.doms && keysRise s.pendR
    && keysRise s.pendD && keysRise s.burnR && keysRise s.burnD

/-! ### Reading and writing objects in effect -/

/-- The value in effect of a scalar object. -/
def State.get (s : State) (k : Nat) : Nat := (lookup k s.regs).getD (defaultOf k)

/-- The value in effect read as a two's-complement number of `w` bits. -/
def State.geti (s : State) (w k : Nat) : Int := signed w (s.get k)

/-- A scalar object with a value in effect, taken modulo its width. -/
def State.put (s : State) (k v : Nat) : State := { s with regs := setKey k (v % 2 ^ widthOf k) s.regs }

/-- A counter object counted up by `n`; it wraps to 0 at its width. -/
def State.bump (s : State) (k : Nat) (n : Nat := 1) : State := s.put k (s.get k + n)

/-- The content in effect of a DOMAIN object. -/
def State.dom (s : State) (k : Nat) : Bytes := (lookup k s.doms).getD (defaultContent k)

/-- A DOMAIN object with a content in effect. -/
def State.putDom (s : State) (k : Nat) (b : Bytes) : State := { s with doms := insertKey k b s.doms }

/-- What a host reads of a scalar object that is stored: a written value not yet in effect first (R50). -/
def State.readBack (s : State) (k : Nat) : Nat :=
  match lookup k s.burnR with
  | some v => v
  | none => (lookup k s.pendR).getD (s.get k)

/-- What a host reads of a DOMAIN object that is stored (R50). -/
def State.readBackDom (s : State) (k : Nat) : Bytes :=
  match lookup k s.burnD with
  | some v => v
  | none => (lookup k s.pendD).getD (s.dom k)

/-- The pending RW-E values whose keys a test picks take effect, all together (R50, R51). -/
def State.applyPending (s : State) (p : Nat → Bool) : State :=
  { s with
    regs := (s.pendR.filter fun e => p e.1).foldl (fun l e => setKey e.1 e.2 l) s.regs
    doms := (s.pendD.filter fun e => p e.1).foldl (fun l e => insertKey e.1 e.2 l) s.doms
    pendR := s.pendR.filter fun e => !p e.1
    pendD := s.pendD.filter fun e => !p e.1 }

/-! ### Sending, free values, list places -/

/-- The command sends one thing more. -/
def State.send (s : State) (o : Out) : State := { s with out := s.out ++ [o] }

/-- A free value (log entry 1), and the state that has drawn it. -/
def State.draw (s : State) : State × Nat := ({ s with free := s.free + 1 }, Config.freeValue s.free)

/-- Item `n` of a list, or the value named. -/
def nth {α : Type} (l : List α) (n : Nat) (d : α) : α := (l[n]?).getD d

/-- A list with item `n` replaced. -/
def setNth {α : Type} (l : List α) (n : Nat) (v : α) : List α := l.set n v

/-- A bitmap of the places of a list that pass a test. -/
def bitmapOf {α : Type} (p : α → Bool) : List α → Nat
  | [] => 0
  | a :: l => (if p a then 1 else 0) + 2 * bitmapOf p l

/-- The bitmap of the numbers below `n` that pass a test. -/
def bitmapBelow (n : Nat) (p : Nat → Bool) : Nat := bitmapOf p (List.range n)

/-! ### Time -/

/-- PTP time in nanoseconds at an instant of local time: the clock's offset, and what its servo's rate has added since it was set (R365,
R366; log entry 4). Before PTP time is established it counts from 0 at reset. -/
def State.ptpAt (s : State) (x : Nat) : Nat :=
  ((x : Int) + s.clock.offset + s.clock.rate * ((x : Int) - s.clock.rateFrom) / 4294967296).toNat

/-- PTP time. -/
def State.ptp (s : State) : Nat := s.ptpAt s.now

/-- A 32-bit time in ns extended against a reference (R365). -/
def extendTime (t32 ref : Nat) : Nat := (((ref : Int) + signed 32 (((t32 : Int) - ref) % 4294967296).toNat) % 18446744073709551616).toNat

/-- The 32-bit counter of nanoseconds against which the MACs and the capture inputs stamp, which wraps. -/
def State.counter32 (s : State) : Nat := s.ptp % 4294967296

/-- The 64-bit time of an event that is stamped now, extended against PTP time. -/
def State.eventTime (s : State) : Nat := extendTime s.counter32 s.ptp

/-- PTP time for events: 0 while PTP time is not established (R53). -/
def State.stamp (s : State) : Nat := if s.clock.established then s.ptp else 0

/-! ### Function states -/

/-- Functions whose clock domains Hold stops (R470): Ethernet is not among them, though R25 lets only the panel and twin lane
groups run in Hold; R27 and R470 keep it there (log entry 83). -/
def stopsInHold (n : Nat) : Bool := (4 ≤ n && n ≤ 9) || n == 0xC

/-- A function has a cause standing that makes it Degraded (R471). -/
def State.degradedBy (s : State) (n : Nat) : Bool := s.faults.degraded.any fun d => d.1 == n

/-- The clock domains that a function needs besides the management domain (R25). -/
def domainsOf : Nat → List PllDomain
  | 2 => [.memory]
  | 4 | 5 | 6 | 7 | 8 => [.media]
  | 9 => [.carver]
  | 0xA => [.panelLanes]
  | 0xC => [.media, .flatLanes]
  | 0xD => [.ethLanes]
  | 0xE => [.twinLanes]
  | _ => []

/-- A PLL of the function's domains is still locking: the function is not ready (R26). -/
def State.awaitsLock (s : State) (n : Nat) : Bool := (domainsOf n).any fun d => s.power.locking.contains d

/-- The power state lets the function run: it is not Stopped (R27, R60, R470). -/
def State.clocked (s : State) (n : Nat) : Bool :=
  match s.power.phase with
  | .reset | .startup | .sleep | .off => false
  | ph => !stopsInHold n || ph == .run

/-- Usable: Ready or Degraded. -/
def State.usable (s : State) (n : Nat) : Bool := s.clocked n && nth s.stages n .off == .up && !s.awaitsLock n

/-- Failed, as a function that Hold has Stopped is not (R470). -/
def State.hasFailed (s : State) (n : Nat) : Bool := s.clocked n && nth s.stages n .off == .failed

/-- The state of a function as 0x2011 gives it (R26, R60, R470, R471): Hold's Stopped comes before every standing cause. A function
reset shows Resetting, then Starting (R64; log entry 83). -/
def State.fnState (s : State) (n : Nat) : Nat :=
  if !s.clocked n then 0
  else match nth s.stages n .off with
    | .failed => 4
    | .resetting => if s.now < s.ctl.functionResetAt + Config.resettingTime n then 5 else 1
    | .starting => 1
    | .up => if s.awaitsLock n then 1 else if s.degradedBy n then 3 else 2
    | .off => 0

/-- Usable, or Stopped only because Hold stops its clock domain (R61, R85). -/
def State.usableOrHeld (s : State) (n : Nat) : Bool :=
  s.usable n || (stopsInHold n && !s.clocked n && nth s.stages n .off == .up)

/-- 0x2010.01 to .03 (R59). -/
def State.readyBits (s : State) : Nat := bitmapBelow 16 fun n => s.usable n
def State.failedBits (s : State) : Nat := bitmapBelow 16 fun n => s.hasFailed n
def State.degradedBits (s : State) : Nat := bitmapBelow 16 fun n => s.usable n && s.degradedBy n

/-- 0x2100.01 (R31). -/
def State.powerState (s : State) : Nat :=
  match s.power.phase with
  | .hold => 1 | .enteringSleep => 2 | .enteringOff => 3 | _ => 0

/-- 0x2100.03 (R31). -/
def State.holdCauses (s : State) : Nat :=
  (if s.power.hostHold then 1 else 0) + (if s.power.tripHold then 2 else 0) + (if s.power.pfailHold then 4 else 0)

/-- The dictionary is served (R38). -/
def State.served (s : State) : Bool :=
  match s.power.phase with
  | .run | .hold | .enteringSleep | .enteringOff => true
  | _ => false

/-- A function's stage set. -/
def State.stage (s : State) (n : Nat) (st : Stage) : State := { s with stages := setNth s.stages n st }

/-- A PLL starts where something in its domain is first needed, and stops when the last such need ends (R26). -/
def State.needPll (s : State) (d : PllDomain) (needed : Bool) : State :=
  if needed then
    if s.power.plls.contains d then s
    else { s with power := { s.power with plls := s.power.plls ++ [d], locking := s.power.locking ++ [d] } }
  else { s with power := { s.power with
      plls := s.power.plls.filter fun x => x != d, locking := s.power.locking.filter fun x => x != d } }

/-- A PLL locks: the functions of its domain no longer wait for it (R26). -/
def State.pllLocked (s : State) (d : PllDomain) : State :=
  { s with power := { s.power with locking := s.power.locking.filter fun x => x != d } }

/-- What a unit that stands still in Sleep, in Off and while the dictionary is not served does with its event (R25, R27). -/
def State.awake (s : State) (f : State → State) : State := if s.served then f s else s

/-! ### Events (R52, R53) -/

/-- The next event sequence number: it wraps from 0xFFFF_FFFF to 1 (R52). -/
def nextEventSeq (v : Nat) : Nat := if v = 0xFFFFFFFF then 1 else v + 1

/-- Sequence `a` is at or below sequence `b` (R52). -/
def seqAtOrBelow (a b : Nat) : Bool := decide ((b + 2 ^ 32 - a) % 2 ^ 32 < 2 ^ 31)

/-- A dictionary frame (R46): opcode, transaction, index and subindex, flags, offset or code, payload. -/
def dictFrame (opcode tx key flags offset : Nat) (payload : Bytes) : Bytes :=
  let body := leBytes 2 0x4E59 ++ leBytes 1 1 ++ leBytes 1 opcode ++ leBytes 4 tx ++ leBytes 2 (key / 256)
    ++ leBytes 1 (key % 256) ++ leBytes 1 flags ++ leBytes 4 offset ++ leBytes 2 payload.length ++ leBytes 2 0 ++ payload
  body ++ leBytes 4 (crc32c body)

/-- Whether event frames are enabled: UDP control and a destination (R45, R53). -/
def State.eventsOn (s : State) : Bool := s.get 0x203101 == 1 && !(s.dom 0x203104).isEmpty

/-- An event frame's payload (R53). -/
def State.eventPayload (s : State) (kind code seq time : Nat) : Bytes :=
  leBytes 2 kind ++ leBytes 2 code ++ leBytes 4 seq ++ leBytes 8 time ++ leBytes 2 s.readyBits
    ++ leBytes 2 s.failedBits ++ leBytes 1 s.powerState ++ leBytes 3 0

/-- A frame to the event destination. -/
def State.toEventDest (s : State) (payload : Bytes) : State :=
  s.send (.udp (s.get 0x280008) (s.get 0x203102) (leNat ((s.dom 0x203104).take 16)) (fieldLE (s.dom 0x203104) 16 2) (dictFrame 0xE0 0 0 0 0 payload))

/-- An event frame leaves at once while a MAC link is up; otherwise it waits among at most 64, and one that finds no
room is discarded and counted (R53; log entry 6). -/
def State.eventFrame (s : State) (payload : Bytes) : State :=
  if !s.eventsOn then s
  else if s.get 0x280009 ≠ 0 then s.toEventDest payload
  else if s.ctl.eventFrames.length < 64 ∧ s.ctl.eventsLost = 0 then
    { s with ctl := { s.ctl with eventFrames := s.ctl.eventFrames ++ [payload] } }
  else if s.ctl.eventsLost = 0 then
    -- the overflow is itself an event: it takes a number (R52)
    let n := nextEventSeq (s.get 0x204005)
    { s.put 0x204005 n with ctl := { s.ctl with eventsLost := 1, lostSeq := n, lostTime := s.stamp } }
  else { s with ctl := { s.ctl with eventsLost := s.ctl.eventsLost + 1 } }

/-- A numbered event of a type with its frame (R52, R53). -/
def State.event (s : State) (kind : Nat) : State :=
  let n := nextEventSeq (s.get 0x204005)
  let s := s.put 0x204005 n
  s.eventFrame (s.eventPayload kind 0 n s.stamp)

/-! ### Dictionary answers -/

/-- The node-ID of both ports (R39). -/
def State.nodeId (s : State) : Nat := s.get 0x200003 + if s.pair.strapB then 1 else 0

/-- The COB-IDs of a CAN port's server channel (R40). -/
def State.clientCob (s : State) : Nat := 0x600 + s.nodeId
def State.serverCob (s : State) : Path → Nat
  | .can _ => 0x580 + s.nodeId
  | _ => 0

/-- The answer to a host access that did not arrive as a protocol frame: code 0 acknowledges (R47, R65). -/
def State.answer (s : State) (p : Path) (code : Nat) (data : Bytes := []) : State :=
  match p with
  | .internal => s
  | _ => s.send (.answer p (s.serverCob p) code data)

/-- The answer to a write: to a UDP transaction a frame 0x82 or 0xEE from the dictionary port (R45, R47). -/
def State.reply (s : State) (p : Path) (id : Option Nat) (k code : Nat) : State :=
  match p, id with
  | .udp source, some tx => s.send (.udp (s.get 0x280008) (s.get 0x203102) source (s.get 0x203102) (dictFrame (if code = 0 then 0x82 else 0xEE) tx k 0 code []))
  | p, _ => s.answer p code

/-! ### Beginning and end of every command -/

/-! ### Transmission (R361, R362) -/

/-- A MAC's link rate in kbit/s, 0 while down. -/
def State.macRate (s : State) (mac : Nat) : Nat :=
  match s.get 0x280009 / 16 ^ mac % 8 with
  | 1 => 1000000 | 2 => 2500000 | 3 => 5000000 | 4 => 10000000 | _ => 0
def State.macUp (s : State) (mac : Nat) : Bool := s.macRate mac != 0

/-- A MAC receives and transmits: enabled, with a link, in a power state that runs it (R27, R360). -/
def State.macHears (s : State) (mac : Nat) : Bool := s.served && s.get (0x280001 + mac) == 1 && s.macUp mac

/-- An address held in IPv6 form is IPv4-mapped (R45). -/
def ipv4Mapped (a : Nat) : Bool := a % 2 ^ 80 == 0 && a / 2 ^ 80 % 65536 == 0xFFFF

/-- The bytes of a frame from its destination address to its check sequence, at least 64. PRESUMED: IEEE 802.3, 802.1AS, 1588, RFC 826,
792 and 4861 (log entry 31). -/
def frameBytes : Out → Nat
  | .avtp _ _ _ data => max 64 (data.length + 4)
  | .udp vlan _ dest _ payload => max 64 (payload.length + (if ipv4Mapped dest then 46 else 66) + (if vlan = 0 then 0 else 4))
  | .eth _ kind data => match kind with
    | 1 => 82 | 2 => 72 | 3 => 72 | 5 => 90 | 6 => max 64 (data.length + 50) | _ => 64
  | _ => 0

/-- The queue of a frame: 0 PTP, 1 AVTP, 2 all other traffic. -/
def txClass : Out → Option Nat
  | .avtp .. => some 1
  | .udp .. => some 2
  | .eth _ kind _ => some (if kind ≤ 3 then 0 else 2)
  | _ => none

/-- The MAC on which a frame leaves: a datagram's is the first with a link. DESIGN CHOICE (log entry 31). -/
def State.txMac (s : State) : Out → Nat
  | .avtp mac _ _ _ => mac
  | .eth mac _ _ => mac
  | _ => if s.macHears 0 || !s.macHears 1 then 0 else 1

def queueBytes (l : List Out) : Nat := l.foldl (fun a o => a + frameBytes o) 0

/-- A frame finds room in a queue that holds up to 4 MiB. -/
def roomIn (l : List Out) (o : Out) : Bool := decide (queueBytes l + frameBytes o ≤ 4194304)

/-- A frame finds room in its queue, with what this command has already handed to it. -/
def State.txRoom (s : State) (o : Out) : Bool :=
  match txClass o with
  | none => true
  | some c =>
    let mac := s.txMac o
    roomIn (nth (nth s.tx.macs mac {}).queues c [] ++ s.out.filter fun x => txClass x == some c && s.txMac x == mac) o

/-- One frame leaves a queue: its time on the line, with preamble and gap, moves the credit of the shaper. -/
def MacTx.take (m : MacTx) (rate slope c : Nat) (o : Out) (rest : List Out) : MacTx :=
  let d := (frameBytes o + 20) * (80000000 / rate)
  let waits := !(nth m.queues 1 []).isEmpty
  let gained := m.credit + (slope * d : Nat)
  { queues := setNth m.queues c rest, freeAt := m.freeAt + d
    credit := if c = 1 then gained - (rate * d : Nat) else if waits then gained else min 0 gained }

/-- A queue's line is served up to an instant: PTP first, then AVTP while its credit is not negative, then the rest (R361; the shaper is that
of IEEE 802.1Qav). Each frame comes with the instant, in ns, at which it begins to leave. -/
def MacTx.serve (rate slope until_ : Nat) : Nat → MacTx → MacTx × List (Nat × Out)
  | 0, m => (m, [])
  | fuel + 1, m =>
    if until_ < m.freeAt then (m, [])
    else
      let go := fun (c : Nat) (o : Out) (rest : List Out) =>
        let r := MacTx.serve rate slope until_ fuel (m.take rate slope c o rest)
        (r.1, (m.freeAt / 10, o) :: r.2)
      let idle := until_ - m.freeAt
      match nth m.queues 0 [], nth m.queues 1 [], nth m.queues 2 [] with
      | o :: rest, _, _ => go 0 o rest
      | [], o :: rest, [] =>
        if 0 ≤ m.credit then go 1 o rest
        else if slope = 0 then ({ m with freeAt := until_ }, [])
        else
          let wait := (m.credit.natAbs + slope - 1) / slope
          if idle < wait then ({ m with freeAt := until_, credit := m.credit + (slope * idle : Nat) }, [])
          else MacTx.serve rate slope until_ fuel { m with freeAt := m.freeAt + wait, credit := m.credit + (slope * wait : Nat) }
      | [], o :: rest, p :: more => if 0 ≤ m.credit then go 1 o rest else go 2 p more
      | [], [], p :: more => go 2 p more
      | [], [], [] => ({ m with freeAt := until_, credit := min 0 (m.credit + (slope * idle : Nat)) }, [])

/-- A one-step Sync bears the time at which it leaves (R363). -/
def State.stampSync (s : State) (x : Nat) : Out → Out
  | .eth mac 0 data => .eth mac 0 (data.take (data.length - 8) ++ leBytes 8 (s.ptpAt x))
  | o => o

/-- Both lines served up to the current instant; the frames of a MAC that does not run, or has no link, wait (R361, R362). -/
def State.serveMacs (s : State) : Tx :=
  (List.range 2).foldl (fun (x : Tx) mac =>
    let m := nth x.macs mac {}
    if s.macHears mac then
      let fuel := 2 * (m.queues.foldl (fun a q => a + q.length) 0) + 2
      let r := MacTx.serve (s.macRate mac) (s.get (0x284004 + mac)) (10 * s.now) fuel m
      { x with macs := setNth x.macs mac r.1, wire := x.wire ++ r.2.map fun e => (mac, e.1, s.stampSync e.1 e.2) }
    else { x with macs := setNth x.macs mac { m with freeAt := max m.freeAt (10 * s.now) } }) s.tx

/-- A frame joins its queue; a datagram that finds it full is dropped and counted (R361). -/
def State.queueFrame (s : State) (x : Tx) (o : Out) : Tx :=
  match txClass o with
  | none => x
  | some c =>
    let mac := s.txMac o
    let m := nth x.macs mac {}
    let q := nth m.queues c []
    if roomIn q o then { x with macs := setNth x.macs mac { m with queues := setNth m.queues c (q ++ [o]) } }
    else { x with dropped := x.dropped + 1, untold := x.untold.filter (· != mac) ++ [mac] }

/-- The frames that a command hands to the MACs join their queues, and leave as far as the lines are free. -/
def State.transmit (s : State) : State :=
  let s : State := { s with tx := s.out.foldl s.queueFrame s.tx }
  { s with tx := s.serveMacs }

/-- A command falls at an instant: local time does not run backwards, the MACs have sent what they could until then, and nothing is handed
out yet. -/
def State.begin (s : State) (t : Nat) : State :=
  { s with now := max s.now t, out := [], tx := State.serveMacs { s with now := max s.now t, tx := { s.tx with wire := [] } } }

/-- The stores of the state in canonical form. -/
def State.canon (s : State) : State :=
  { s with
    regs := canonR s.regs, doms := canonK s.doms, pendR := canonK s.pendR, pendD := canonK s.pendD,
    burnR := canonK s.burnR, burnD := canonK s.burnD }

/-- The function and power states as last told. -/
def State.note (s : State) : State :=
  { s with ctl := { s.ctl with lastReady := s.readyBits, lastFailed := s.failedBits, lastPower := s.powerState } }

/-- An event where something has changed. -/
def State.eventIf (s : State) (changed : Bool) (kind : Nat) : State := if changed then s.event kind else s

/-- 0x2010.05: the first instant at which every required function was ready together (R59). -/
def State.latchReady (s : State) (ready : Nat) : State :=
  if !s.ctl.readyLatched && ready &&& s.get 0x201004 == s.get 0x201004 then
    { s.put 0x201005 (looseDiv ((s.now - s.ctl.releasedAt.getD 0 : Nat)) 1000000).toNat with ctl := { s.ctl with readyLatched := true } }
  else s

/-- Whether an EVT_N pin is asserted (R54). -/
def State.evtAsserted (s : State) (n : Nat) : Bool :=
  if !s.served then (match s.power.phase with | .reset | .startup => true | _ => false)
  else match s.get (0x204001 + n) with
    | 1 => s.faults.raised.any fun r => bitOf (s.get 0x204003) r.1 && !seqAtOrBelow r.2 (s.get 0x204004)
    | 2 => s.get 0x201004 &&& s.readyBits != s.get 0x201004
    | 3 => s.pair.role == 1
    | _ => false

/-- An EVT_N pin follows its source: driven low while asserted, released otherwise (R54). -/
def State.evtPin (s : State) (n : Nat) : State :=
  if s.evtAsserted n == nth s.ctl.lastEvt n true then s
  else { s.send (.pin (.evt n) (!s.evtAsserted n)) with ctl := { s.ctl with lastEvt := setNth s.ctl.lastEvt n (s.evtAsserted n) } }

/-- Changes of 0x2010.01 or 0x2010.02 and of the power state are events (R52): they are told once, after the command,
the power state first (log entry 83). Then the EVT_N pins follow. -/
def State.tell (s : State) : State :=
  let told := if !s.served then s.note
    else
      let told := s.note.eventIf (s.powerState != s.ctl.lastPower) 4
      let told := told.eventIf (s.readyBits != s.ctl.lastReady || s.failedBits != s.ctl.lastFailed) 3
      told.latchReady s.readyBits
  (told.evtPin 0).evtPin 1

/-- A command's meaning: it begins, acts on everything but the queue, and ends with the stores canonical. -/
def act (t : Nat) (s : State) (f : State → State) : Host.Outcome State Fault Refusal :=
  .next { (f (s.begin t)).tell.transmit.canon with pending := s.pending }

/-- A meaning whose operand names an item of a counted kind: no item beyond the count exists. -/
def actIf (ok : Bool) (t : Nat) (s : State) (f : State → State) : Host.Outcome State Fault Refusal :=
  if ok then act t s f else .fault .operandOutOfRange

end Sys2Proof.Machine
end

