-- ==== Sys2Proof/Machine/Beacon.lean ====
section
/-!
DEFINITION. Sys2Proof/Machine/Beacon.lean: making Beacon entries (R411 to R414, R472): their bytes, the pending limit and
its drop order, staging; writing them to the journal with its checkpoints (R410); and the recovery walk (R415).
-/

namespace Sys2Proof.Machine

/-! ### Entries as bytes -/

/-- Payload units of an entry (R411). -/
def Entry.units (e : Entry) : Nat := (e.payload.length + 63) / 64

/-- The bytes an entry takes: two headers and its payload units (R411). -/
def Entry.size (e : Entry) : Nat := (2 + e.units) * 64

/-- An entry's header (R411). -/
def Entry.header (e : Entry) : Bytes :=
  let h := leBytes 2 0x424E ++ leBytes 1 1 ++ leBytes 1 e.kind ++ leBytes 2 e.flags ++ leBytes 2 e.units
    ++ leBytes 8 e.seq ++ leBytes 8 e.time ++ leBytes 4 e.epoch ++ leBytes 4 e.frame
    ++ leBytes 4 (if e.payload.isEmpty then 0 else crc32c e.payload) ++ leBytes 4 e.payload.length
    ++ (e.body ++ List.replicate 20 0).take 20
  h ++ leBytes 4 (crc32c h)

/-- A whole entry: header, padded payload, the second copy of the header (R411). -/
def Entry.bytes (e : Entry) : Bytes :=
  e.header ++ e.payload ++ List.replicate (64 * e.units - e.payload.length) 0 ++ e.header

/-- Entries that the ordinary limit never drops or counts: the power-fail entry and the flush's seals (R414). -/
def Entry.aboveLimit (e : Entry) : Bool := e.kind == 0x0A || (e.kind == 6 && bitOf e.flags 1)

/-- Entries that the second drop step spares: faults, roles, seals, power and recovery entries (R414). -/
def Entry.kept (e : Entry) : Bool := [2, 3, 4, 6, 9, 0x0A, 0x0D].contains e.kind

/-- The bytes of ordinary pending (R414). -/
def ordinaryBytes (l : List Entry) : Nat := l.foldl (fun n e => if e.aboveLimit then n else n + e.size) 0

/-- All pending bytes, 0x2210.05. -/
def pendingBytes (l : List Entry) : Nat := l.foldl (fun n e => n + e.size) 0

/-- The first entry that a test picks is taken out. -/
def takeFirst (p : Entry → Bool) : List Entry → Option (Entry × List Entry)
  | [] => none
  | e :: l => if p e then some (e, l) else (takeFirst p l).map fun r => (r.1, e :: r.2)

/-- Make room for an entry of `size` bytes in the order of R414: what is kept and what is dropped, and whether it fits. -/
def dropFor (size : Nat) : Nat → List Entry → List Entry → List Entry × List Entry × Bool
  | 0, l, dropped => (l, dropped, decide (ordinaryBytes l + size ≤ 57344))
  | n + 1, l, dropped =>
    if ordinaryBytes l + size ≤ 57344 then (l, dropped, true)
    else match takeFirst (fun e => e.kind == 5) l with
      | some (e, rest) => dropFor size n rest (dropped ++ [e])
      | none =>
        match takeFirst (fun e => !e.kept) l with
        | some (e, rest) => dropFor size n rest (dropped ++ [e])
        | none => (l, dropped, false)

/-- Keep the newest entries whose sizes stay within 4 MiB (R414). -/
def keepNewest (limit : Nat) : List Entry → List Entry
  | [] => []
  | e :: l => let r := keepNewest limit l; if pendingBytes r + e.size ≤ limit ∧ r.length = l.length then e :: r else r

/-- The Groomer runs jobs (R284). -/
def State.groomerRuns (s : State) : Bool := s.power.phase == .run && s.usable 8

/-- A span of dropped sequences widened by one more (R414). -/
def widenSpan (d : Option (Nat × Nat)) (n : Nat) : Option (Nat × Nat) :=
  match d with
  | none => some (n, n)
  | some (lo, hi) => some (min lo n, max hi n)

/-- Put an entry with its sequence number among pending and in staging; the answer is whether any entry was dropped. -/
def State.beaconPut (s : State) (e : Entry) : State × Bool :=
  let b := s.beacon
  let b := { b with staging := keepNewest 4194304 (b.staging ++ [e]) }
  if !b.present || b.stagingOnly then ({ s with beacon := b }, false)
  else if e.aboveLimit then
    -- the power-fail entry goes first among pending, before entries of its priority (R416 step 1)
    ({ s with beacon := { b with pending := if e.kind = 0x0A then e :: b.pending else b.pending ++ [e] } }, false)
  else
    let (kept, dropped, fits) := dropFor e.size (b.pending.length + 1) b.pending []
    let lost := if fits then dropped else dropped ++ [e]
    let b := { b with
      pending := if fits then kept ++ [e] else kept
      dropped := lost.foldl (fun d x => widenSpan d x.seq) b.dropped }
    ({ s with beacon := b }.bump 0x221007 lost.length, !lost.isEmpty)

/-- The Groomer's counters of one job: bytes of the uncompressed and compressed sides, and whether it gained (R285). -/
def State.jobDone (s : State) (plain coded : Nat) (gain : Bool) : State :=
  let s := ((s.bump 0x3C000A).bump 0x3C000E plain).bump 0x3C000F coded
  if gain then s else s.bump 0x3C000B

/-- The oldest entry whose payload waits for the Groomer. -/
def State.beaconJob (s : State) : Option Entry := s.beacon.staging.find? (·.job)

/-- The engine compresses for the record now. -/
def State.beaconFirst (s : State) : Bool := s.groomerRuns && s.beaconJob.isSome

/-- A DOMAIN write of format 0x01: its content is a Loose container (R55). -/
def looseBulk (data : Bytes) : Bool := decide (1024 < data.length) && byteAt data 2 == 1

/-- A DOMAIN write waits whose content the engine must decompress (R55, R283). -/
def State.intakeWaits (s : State) : Bool := s.ctl.staged.any fun w => looseBulk w.data

/-- At a block boundary the engine turns to the first client with a job (R283). -/
def State.nextClient (s : State) : State :=
  let now := if s.beaconFirst then some 1 else if s.intakeWaits then some 2 else if s.media.groomer.job.isSome then some 3 else none
  { s with media := { s.media with groomer := { s.media.groomer with current := now } } }

/-- A client's job has arrived: it starts where no other client has a job. -/
def State.jobArrives (s : State) (client : Nat) : State :=
  let others := (client != 1 && s.beaconFirst) || (client != 2 && s.intakeWaits) || (client != 3 && s.media.groomer.job.isSome)
  if others then s else { s with media := { s.media with groomer := { s.media.groomer with current := some client } } }

/-- A client's job can end now: no client before it waits, or its last block was under way when one came (R283). -/
def State.mayFinish (s : State) (client : Nat) : Bool :=
  s.media.groomer.current == some client || ((client == 1 || !s.beaconFirst) && (client != 3 || !s.intakeWaits))

/-- An entry is not written while its job is in hand, nor while a reset of the Groomer holds the job up: it is issued again after the
reset (R284). At any other time the payload is written uncompressed. -/
def State.jobWaits (s : State) (e : Entry) : Bool := e.job && (s.groomerRuns || nth s.stages 8 .off == .resetting)

/-- A change to one entry, wherever it stands. -/
def Beacon.change (b : Beacon) (seq : Nat) (f : Entry → Entry) : Beacon :=
  let one := fun (e : Entry) => if e.seq = seq then f e else e
  { b with pending := b.pending.map one, staging := b.staging.map one }

/-- A new entry of the present instant (R411): the next sequence number is its own, and is never used again. Its payload, if it has one,
is a job for the Groomer where that runs (R283, R284). -/
def State.newEntry (s : State) (kind flags : Nat) (body payload : Bytes) : State × Entry :=
  let e : Entry := { kind, flags, seq := s.beacon.nextSeq, time := s.ptp, epoch := s.get 0x400005, frame := s.get 0x285004, body, payload
                     job := !payload.isEmpty && s.groomerRuns }
  ({ s with beacon := { s.beacon with nextSeq := s.beacon.nextSeq + 1 } }, e)

/-- Body of a fault entry (R472). -/
def faultBody (f : FaultEntry) (owner : Nat) : Bytes :=
  leBytes 2 (f.cls * 4096 + f.fn * 256 + f.cause) ++ leBytes 1 f.fnState
    ++ leBytes 1 ((if f.handled then 1 else 0) + (if f.cleared then 2 else 0) + (if f.escalated then 4 else 0)
        + (if f.consequence then 8 else 0) + (if f.acked then 16 else 0))
    ++ leBytes 4 f.seq ++ leBytes 4 f.nested ++ leBytes 4 f.detail ++ leBytes 4 owner

/-- A queue entry as 0x2200.02 shows it (R407). -/
def FaultEntry.bytes (f : FaultEntry) : Bytes :=
  leBytes 2 (f.cls * 4096 + f.fn * 256 + f.cause)
    ++ leBytes 1 ((if f.handled then 1 else 0) + (if f.cleared then 2 else 0) + (if f.escalated then 4 else 0)
        + (if f.consequence then 8 else 0) + (if f.acked then 16 else 0))
    ++ leBytes 1 f.fnState ++ leBytes 4 f.seq ++ leBytes 4 f.nested ++ leBytes 4 f.repeats ++ leBytes 8 f.raised
    ++ leBytes 4 f.detail ++ leBytes 4 f.epoch

/-! ### The journal -/

/-- The journal partition's size in bytes, from the partition table in use (R431). -/
def journalSize (table : Bytes) : Nat := fieldLE table 32 4 * 1024

/-- The partition table copy in use: the valid one with the higher generation (R431). -/
def tableValid (b : Bytes) : Bool :=
  b.length == 64 && fieldLE b 0 2 == 0x5054 && byteAt b 2 == 1 && fieldLE b 60 4 == crc32c (b.take 60)

def Nv.table (n : Nv) : Option Bytes :=
  let a := nth n.tables 0 []
  let b := nth n.tables 1 []
  if tableValid a && (!tableValid b || decide (fieldLE b 4 4 ≤ fieldLE a 4 4)) then some a
  else if tableValid b then some b else none

/-- Where an entry of a size goes: at the head, or at byte 8,192 where it would straddle the partition's end (R410). -/
def placeAt (head size limit : Nat) : Nat := if head + size ≤ limit then head else 8192

/-- Journal entries that an entry written over `at_` to `at_ + size` leaves whole (R410). -/
def surviving (at_ size : Nat) (j : List (Nat × Entry)) : List (Nat × Entry) :=
  j.filter fun p => decide (p.1 + p.2.size ≤ at_) || decide (at_ + size ≤ p.1)

/-- A checkpoint is written to the two copies in turn (R410). -/
def Nv.checkpoint (n : Nv) (nextSeq : Nat) (flushed : Bool) : Nv :=
  { n with
    checkpoints := setNth n.checkpoints n.nextCheckpoint (some { head := n.head, nextSeq, flushed })
    nextCheckpoint := 1 - n.nextCheckpoint }

/-- The order in which a flush writes pending entries: the power-fail entry first (R416 step 1, step 4). -/
def flushOrder (l : List Entry) : List Entry :=
  l.filter (fun e => e.kind == 0x0A) ++ l.filter (fun e => e.kind != 0x0A && e.kept) ++ l.filter (fun e => e.kind != 0x0A && !e.kept)

/-- One entry is written to the journal whole; a checkpoint follows every 256 entries (R410, R411). -/
def State.writeEntry (s : State) (e : Entry) : State :=
  let limit := match s.nv.table with | some t => journalSize t | none => 0
  let at_ := placeAt s.nv.head e.size limit
  let nv : Nv := { s.nv with journal := surviving at_ e.size s.nv.journal ++ [(at_, { e with job := false })], head := at_ + e.size }
  let b := s.beacon.change e.seq fun x => { x with job := false }
  let b : Beacon := { b with pending := b.pending.filter fun x => x.seq != e.seq }
  if b.sinceCheckpoint + 1 < 256 then { s with nv, beacon := { b with sinceCheckpoint := b.sinceCheckpoint + 1 } }
  else { s with nv := nv.checkpoint (e.seq + 1) false, beacon := { b with sinceCheckpoint := 0 } }

/-- Every pending entry is written, highest priority first, then a checkpoint (R416 steps 4 and 5; R28). -/
def State.flush (s : State) : State :=
  if !s.beacon.present || s.beacon.stagingOnly then s
  else
    let s := (flushOrder s.beacon.pending).foldl State.writeEntry s
    { s with nv := s.nv.checkpoint s.beacon.nextSeq true, beacon := { s.beacon with sinceCheckpoint := 0 } }

/-- The valid checkpoint with the higher next sequence (R415). -/
def Nv.latestCheckpoint (n : Nv) : Option Checkpoint :=
  match nth n.checkpoints 0 none, nth n.checkpoints 1 none with
  | some a, some b => if b.nextSeq ≤ a.nextSeq then some a else some b
  | some a, none => some a
  | none, some b => some b
  | none, none => none

/-- The next sequence after the newest entry of the journal, or a checkpoint's (R415). -/
def Nv.nextSeq (n : Nv) : Nat :=
  max (n.journal.foldl (fun m p => max m (p.2.seq + 1)) 0) ((n.latestCheckpoint.map (·.nextSeq)).getD 0)

end Sys2Proof.Machine
end

