-- ==== Sys2Proof/Machine/Faults.lean ====
section
/-!
DEFINITION. Sys2Proof/Machine/Faults.lean: raising and clearing causes (R400 to R406), the emergency queues (R43, R44), the
0x1001 error register (R469), the handling slot with its escalation (R403, R405), and how an entry leaves the queue.
-/

namespace Sys2Proof.Machine

/-- What a cause's table gives for its function's state (R401). -/
inductive Effect where
  | unchanged | degraded | failed
  deriving DecidableEq, Repr

/-- The causes whose tables give Degraded for every raise. -/
def degradedCauses : List (Nat × Nat) :=
  [(2, 0x03), (2, 0x06), (2, 0x09), (3, 0x02), (4, 0x07), (4, 0x08), (5, 0x01), (6, 0x01), (6, 0x02), (7, 0x01), (7, 0x02),
   (9, 0x02), (0xA, 0x02), (0xB, 0x07), (0xB, 0x08), (0xC, 0x01), (0xC, 0x03), (0xD, 0x01), (0xD, 0x02), (0xD, 0x07),
   (0xE, 0x04), (0xE, 0x0A), (0xF, 0x01), (0xF, 0x02), (0xF, 0x06), (0xF, 0x20), (0xF, 0x23), (0xF, 0x27)]

/-- The causes whose tables give Failed for every raise. -/
def failedCauses : List (Nat × Nat) := [(8, 0x02), (0xA, 0x04)]

/-- A cause's effect where its table gives one without condition. -/
def effectOf (fn cause : Nat) : Effect :=
  if failedCauses.contains (fn, cause) then .failed
  else if degradedCauses.contains (fn, cause) then .degraded else .unchanged

/-- The causes with a clearing rule (R404); the others leave the queue by the host's acknowledgement (R406). -/
def clearingCauses : List (Nat × Nat) :=
  [(1, 0x01), (1, 0x02), (1, 0x04), (1, 0x05), (2, 0x07), (3, 0x03), (4, 0x03), (4, 0x05), (4, 0x06), (5, 0x02), (6, 0x03),
   (7, 0x05), (9, 0x01), (9, 0x02), (0xB, 0x01), (0xB, 0x02), (0xB, 0x03), (0xB, 0x05), (0xB, 0x08), (0xC, 0x02),
   (0xC, 0x03), (0xC, 0x04), (0xD, 0x01), (0xD, 0x02), (0xD, 0x05), (0xD, 0x06), (0xD, 0x07), (0xE, 0x01), (0xE, 0x02),
   (0xE, 0x04), (0xE, 0x05), (0xF, 0x20)]
def clears (fn cause : Nat) : Bool := clearingCauses.contains (fn, cause)

/-- The class of a raise: the first rule that matches (R401). -/
def classOf (fn cause : Nat) (e : Effect) : Nat :=
  if fn = 0 then 0xF
  else if e = .failed then 4
  else if [(0xB, 1), (0xB, 2), (0xB, 6), (4, 6), (4, 7), (3, 3)].contains (fn, cause) then 5
  else if fn = 1 then 7
  else if fn = 0xE ∧ cause ≠ 3 then 6
  else if [(2, 2), (2, 8), (2, 0xC), (3, 1), (0xA, 1), (0xE, 3), (0xF, 0x22), (0xF, 0x24), (0xF, 0x26)].contains (fn, cause) then 2
  else if e = .degraded then 3
  else 1

/-- The consequences of R405: function, fault in handling, later fault. -/
def consequences : List (Nat × Nat × Nat) :=
  [(2, 1, 2), (2, 1, 3), (2, 4, 2), (2, 8, 9), (2, 6, 3), (2, 6, 0xC), (3, 1, 2), (3, 4, 5), (4, 8, 7), (6, 1, 2), (7, 1, 2),
   (0xA, 1, 2), (0xA, 1, 3), (0xA, 2, 3), (0xE, 3, 4)]

def FaultEntry.code (f : FaultEntry) : Nat := f.cls * 4096 + f.fn * 256 + f.cause

/-- The group bit of a fault in 0x1001 (R469). -/
def groupBit (fn cause : Nat) : Nat :=
  if fn = 1 ∧ cause = 4 then 4
  else if fn = 1 ∧ [1, 2, 3, 5].contains cause then 8
  else if fn = 0xA ∨ (fn = 0xE ∧ [1, 2, 3, 4, 6].contains cause) ∨ (fn = 0xD ∧ [1, 8].contains cause) then 16
  else 128

/-- 0x1001.00 (R469). -/
def State.errorRegister (s : State) : Nat :=
  s.faults.queue.foldl (fun r f => r ||| 1 ||| groupBit f.fn f.cause) 0

/-! ### Emergencies (R43, R44) -/

/-- The port is enabled (R39). -/
def State.portOn (s : State) (p : Nat) : Bool := s.get (0x203001 + p) != 0

/-- A CAN port that serves its channel (R38, R42). -/
def State.canServes (s : State) (p : Nat) : Bool :=
  s.served && s.portOn p && match s.ctl.ports[p]? with | some q => q.nmt != .stopped | none => false

/-- The answer to a write that was staged: a port stopped meanwhile sends none (R42). -/
def State.replyStaged (s : State) (w : Staged) (code : Nat) : State :=
  match w.path with
  | .can q => if s.canServes q then s.reply w.path w.id w.key code else s
  | _ => s.reply w.path w.id w.key code

/-- An emergency message's bytes (R43). -/
def Emcy.bytes (e : Emcy) : Bytes := leBytes 2 e.code ++ leBytes 1 e.register ++ leBytes 2 e.fault ++ leBytes 3 e.seq

/-- A port sends its next queued emergency if the inhibit time since its previous one has passed (R44) and 0x1014 does not disable
emergencies (R41): DESIGN CHOICE (log entry 84), what waits meanwhile is kept. -/
def State.sendEmcy (s : State) (p : Nat) : State :=
  match s.ctl.ports[p]? with
  | none => s
  | some port =>
    match port.emcy with
    | [] => s
    | e :: rest =>
      let due := match port.lastEmcy with | none => true | some l => decide (l + s.get 0x101500 * 100000 ≤ s.now)
      if s.portOn p && !bitOf (s.get 0x101400) 31 && port.nmt != .stopped && due then
        let s := s.send (.can p (s.get 0x101400 % 2048) e.bytes)
        { s with ctl := { s.ctl with ports := setNth s.ctl.ports p { port with emcy := rest, lastEmcy := some s.now, overflowing := false } } }
      else s

/-- An emergency is queued on a port: on a full queue the newest becomes the overflow message (R44). DESIGN CHOICE (log entry 84): a
queue-empty message that meets a full queue is treated alike, though the rule speaks of a fault raised; the overflow message keeps the
register and the sequence of what met the full queue. -/
def queueEmcy (port : CanPort) (e : Emcy) : CanPort :=
  if port.emcy.length < 16 then { port with emcy := port.emcy ++ [e], overflowing := false }
  else if port.overflowing then port
  else { port with emcy := port.emcy.take 15 ++ [{ e with code := 0xFF0F, fault := 0xF0FF }], overflowing := true }

/-- An emergency on one enabled port: queued, and sent if its turn has come. -/
def State.emergencyOn (s : State) (e : Emcy) (p : Nat) : State :=
  match s.ctl.ports[p]? with
  | none => s
  | some port =>
    if s.portOn p then ({ s with ctl := { s.ctl with ports := setNth s.ctl.ports p (queueEmcy port e) } }).sendEmcy p else s

/-- An emergency to both ports, unless 0x1014 disables emergencies (R41, R44). -/
def State.emergency (s : State) (e : Emcy) : State :=
  if bitOf (s.get 0x101400) 31 then s else (s.emergencyOn e 0).emergencyOn e 1

/-! ### Raising (R403 to R406) -/

/-- The fault in handling: the one whose 2 ms slot holds the present instant (R403). -/
def State.inHandling (s : State) : Option Nat :=
  (s.faults.slots.find? fun p => decide (p.2 ≤ s.now) && decide (s.now < p.2 + 2000000)).map (·.1)

/-- The start of the slot of a fault raised now (R403). -/
def State.slotStart (s : State) : Nat := s.faults.slots.foldl (fun m p => max m (p.2 + 2000000)) s.now

/-- Containment: the function's state changes at once; a Failed function requests a full reset (R403, R408). -/
def State.contain (s : State) (fn cause : Nat) (e : Effect) : State :=
  match e with
  | .unchanged => s
  | .degraded =>
    if s.faults.degraded.contains (fn, cause) then s
    else { s with faults := { s.faults with degraded := s.faults.degraded ++ [(fn, cause)] } }
  | .failed => { s.stage fn .failed with faults := { s.faults with resetRequested := true } }

/-- The fault of an event sequence, whether or not its entry is still in the queue (R405, R406); 0 names none. -/
def State.faultOf (s : State) (seq : Nat) : Option FaultEntry :=
  if seq = 0 then none else (s.faults.queue ++ s.faults.left).find? fun g => g.seq == seq

/-- The oldest handled entry is taken out of a queue (R406). -/
def removeHandled : List FaultEntry → Option (List FaultEntry)
  | [] => none
  | f :: l => if f.handled then some l else (removeHandled l).map (f :: ·)

/-- The entry of a fault raised now: its number, whether it arrives while another is handled, and whether it is a consequence
of that one (R403 to R405). -/
def State.newFault (s : State) (fn cause detail : Nat) (e : Effect) : FaultEntry :=
  let nested := s.inHandling.getD 0
  let consequence := match s.faultOf nested with
    | some b => b.fn == fn && consequences.contains (fn, b.cause, cause)
    | none => false
  { fn, cause, cls := classOf fn cause e, seq := nextEventSeq (s.get 0x204005), nested, consequence, raised := s.ptp, detail
    epoch := s.get 0x400005 }

/-- The counts and the latest code of 0x2200 follow a new fault (R418). -/
def State.countFault (s : State) (f : FaultEntry) : State :=
  let s := ((s.put 0x204005 f.seq).bump 0x220003).put 0x220006 f.code
  { s with faults := { s.faults with raised := s.faults.raised ++ [(f.cls, f.seq)] } }

/-- A new fault joins the queue; a full queue gives up its oldest handled entry, or asks for a full reset (R406). -/
def State.queueFault (s : State) (f : FaultEntry) (start : Nat) : State :=
  let slots := s.faults.slots ++ [(f.seq, start)]
  if s.faults.queue.length < 32 then { s with faults := { s.faults with queue := s.faults.queue ++ [f], slots } }
  else match removeHandled s.faults.queue with
    | some q =>
      let left := s.faults.left ++ s.faults.queue.filter fun g => !q.contains g
      ({ s with faults := { s.faults with queue := q ++ [f], slots, left, overflowOwed := true } }).bump 0x220005
    | none => ({ s with faults := { s.faults with resetRequested := true } }).bump 0x220005

/-- A repeat of a fault that has not cleared: it is counted, and has a Beacon entry of its own (R404). -/
def State.repeatFault (s : State) (f : FaultEntry) (detail : Nat) : State :=
  let q := s.faults.queue.map fun g => if g.seq = f.seq then { g with repeats := g.repeats + 1 } else g
  let s := { s with faults := { s.faults with queue := q } }
  let (s, en) := s.newEntry 2 0 (faultBody { f with detail, fnState := s.fnState f.fn } (s.get 0x48000C)) []
  (s.beaconPut en).1

/-- A raise with its effect given (R403 to R406). -/
def State.raiseCore (s : State) (fn cause detail : Nat) (e : Effect) : State :=
  let s := s.contain fn cause e
  match s.faults.queue.find? fun f => f.fn == fn && f.cause == cause && !f.cleared with
  | some f => s.repeatFault f detail
  | none =>
    let f := s.newFault fn cause detail e
    (s.countFault f).queueFault f s.slotStart

/-- An entry for the Beacon; what it drops raises cause 0xF/0x03 (R414). -/
def State.beaconAdd (s : State) (kind flags : Nat) (body payload : Bytes) : State :=
  let (s, e) := s.newEntry kind flags body payload
  let (s, dropped) := s.beaconPut e
  if dropped then s.raiseCore 0xF 0x03 0 .unchanged else s

/-- A raise with the effect its table gives (R401, R403). -/
def State.raise (s : State) (fn cause : Nat) (detail : Nat := 0) : State := s.raiseCore fn cause detail (effectOf fn cause)

/-- The onset of a cause for an item: it stands until the item leaves its condition, and is raised once (R404). -/
def State.onset (s : State) (fn cause : Nat) (item : Nat := 0) : State :=
  if s.faults.standing.contains (fn, cause, item) then s
  else ({ s with faults := { s.faults with standing := s.faults.standing ++ [(fn, cause, item)] } }).raise fn cause item

/-- An entry leaves the queue once handled and either cleared, or acknowledged where its cause has no clearing rule. -/
def FaultEntry.leaves (f : FaultEntry) : Bool := f.handled && (if clears f.fn f.cause then f.cleared else f.acked)

/-- Entries that may leave do; the queue becoming empty is an event with its emergency, and an overflow owed is raised
once there is room (R43, R52, R406). -/
def State.sweep (s : State) : State :=
  let q := s.faults.queue.filter fun f => !f.leaves
  let emptied := !s.faults.queue.isEmpty && q.isEmpty
  let s := { s with faults := { s.faults with queue := q, left := s.faults.left ++ s.faults.queue.filter FaultEntry.leaves } }
  let s := if emptied then
      let s := s.event 2
      s.emergency { code := 0, register := s.errorRegister, fault := 0, seq := s.get 0x204005 }
    else s
  if s.faults.overflowOwed && q.length < 32 then
    ({ s with faults := { s.faults with overflowOwed := false } }).raise 0 4
  else s

/-- An item leaves a cause's condition; with no item left the cause clears, which is written to the Beacon (R404, R412). -/
def State.settle (s : State) (fn cause : Nat) (item : Nat := 0) : State :=
  if !s.faults.standing.contains (fn, cause, item) then s
  else
    let st := s.faults.standing.filter fun x => x != (fn, cause, item)
    let s := { s with faults := { s.faults with standing := st } }
    if st.any (fun x => x.1 == fn && x.2.1 == cause) || !clears fn cause then s
    else
      let s := { s with faults := { s.faults with degraded := s.faults.degraded.filter fun d => d != (fn, cause) } }
      match s.faults.queue.find? fun f => f.fn == fn && f.cause == cause && !f.cleared with
      | none => s
      | some f =>
        let q := s.faults.queue.map fun (g : FaultEntry) => if g.seq = f.seq then { g with cleared := true } else g
        let s := { s with faults := { s.faults with queue := q } }
        (s.beaconAdd 3 0 (leBytes 2 f.code ++ leBytes 2 0 ++ leBytes 4 f.seq) []).sweep

/-- Every item of a cause leaves its condition. -/
def State.settleAll (s : State) (fn cause : Nat) : State :=
  (s.faults.standing.filter fun x => x.1 == fn && x.2.1 == cause).foldl (fun s x => s.settle fn cause x.2.2) s

/-- Whether a cause stands for an item. -/
def State.stands (s : State) (fn cause item : Nat) : Bool := s.faults.standing.contains (fn, cause, item)

/-- A condition followed: its onset or its end, as a test says. -/
def State.follow (s : State) (b : Bool) (fn cause : Nat) (item : Nat := 0) : State :=
  if b then s.onset fn cause item else s.settle fn cause item

/-- The classes that escalate (R405). -/
def escalates (c : Nat) : Bool := 2 ≤ c && c ≤ 4

/-- The error history 0x1003 with a new field at .01 (R41). -/
def State.history (s : State) (code : Nat) : State :=
  let old := s
  let s := (List.range 15).foldl (fun (st : State) i => st.put (0x100302 + i) (old.get (0x100301 + i))) s
  (s.put 0x100301 (code * 65536 + (0xFF00 + code / 4096))).put 0x100300 (min 16 (s.get 0x100300 + 1))

/-- The handling of the fault at the head of the waiting faults, whose slot has begun (R403, R405). -/
def State.handleFault (s : State) : State :=
  match s.faults.queue.find? fun f => !f.handled with
  | none => s
  | some f =>
    let begun := s.faults.slots.any fun p => p.1 == f.seq && decide (p.2 ≤ s.now)
    if !begun then s
    else
      let outer := s.faultOf f.nested
      let esc := match outer with
        | some g => g.fn == f.fn && escalates g.cls && escalates f.cls && !f.consequence
        | none => false
      -- an escalation sets the function Failed and requests a full reset
      let s := if esc then
          let s := (s.contain f.fn f.cause .failed).bump 0x220004
          s.putDom 0x220008 ((outer.map FaultEntry.bytes).getD [] ++ { f with escalated := true }.bytes)
        else s
      let g := { f with handled := true, escalated := f.escalated || esc, fnState := s.fnState f.fn }
      let q := s.faults.queue.map fun h =>
        if h.seq = f.seq then g else if esc && h.seq == f.nested then { h with escalated := true } else h
      let s := { s with faults := { s.faults with queue := q } }
      let s := s.history f.code
      let s := s.beaconAdd 2 0 (faultBody g (s.get 0x48000C)) []
      let s := s.emergency { code := 0xFF00 + f.cls, register := s.errorRegister, fault := f.code, seq := f.seq }
      let s := s.eventFrame (s.eventPayload 1 f.code f.seq f.raised)
      s.sweep

/-- A host's acknowledgement of every fault at or below a sequence (R54, R406). -/
def State.ackEvents (s : State) (v : Nat) : State :=
  let q := s.faults.queue.map fun f => if seqAtOrBelow f.seq v then { f with acked := true } else f
  ({ (s.put 0x204004 v) with faults := { s.faults with queue := q } }).sweep

end Sys2Proof.Machine
end

