-- ==== Sys2Proof/Machine/Symbols.lean ====
section
/-!
DEFINITION. Sys2Proof/Machine/Symbols.lean: the line code of the Maelwin lanes (R140): the 8b/10b symbols with their running
disparity, the symbols of the ordered sets (R141, R144), the deal of a packet's bytes to its lanes (R148), and the PRBS31 bytes of
the spare lanes (R141). PRESUMED: IEEE 802.3 Clause 36, to which R140 refers, gives the code tables (log entry 86).
-/

namespace Sys2Proof.Machine

/-- A symbol: a data byte D or a special symbol K, each by its byte. -/
inductive Symbol where
  | d (b : Nat)
  | k (b : Nat)
  deriving DecidableEq, Repr

/-! ### The special symbols of R140 -/

def symCom : Symbol := .k 0xBC
def symIdl : Symbol := .k 0x1C
def symDsk : Symbol := .k 0x3C
def symLmap : Symbol := .k 0x5C
def symEios : Symbol := .k 0x7C
def symSop : Symbol := .k 0xFB
def symEop : Symbol := .k 0xFD
def symEdb : Symbol := .k 0xFE
def symPad : Symbol := .k 0xF7
def symHbt : Symbol := .k 0xDC

/-! ### 8b/10b: a code is abcdei fghj as ten bits, bit a, the first on the wire, highest -/

/-- Codes a to i of the low five bits at negative running disparity. -/
def sixBits : List Nat :=
  [0b100111, 0b011101, 0b101101, 0b110001, 0b110101, 0b101001, 0b011001, 0b111000,
   0b111001, 0b100101, 0b010101, 0b110100, 0b001101, 0b101100, 0b011100, 0b010111] ++
  [0b011011, 0b100011, 0b010011, 0b110010, 0b001011, 0b101010, 0b011010, 0b111010,
   0b110011, 0b100110, 0b010110, 0b110110, 0b001110, 0b101110, 0b011110, 0b101011]

/-- Codes f to j of the high three bits at negative running disparity. -/
def fourBits : List Nat := [0b1011, 0b1001, 0b0101, 0b1100, 0b1101, 0b1010, 0b0110, 0b1110]

/-- A special symbol at negative running disparity. -/
def specialBits (b : Nat) : Nat :=
  match b with
  | 0x1C => 0b0011110100
  | 0x3C => 0b0011111001
  | 0x5C => 0b0011110101
  | 0x7C => 0b0011110011
  | 0xDC => 0b0011110110
  | 0xF7 => 0b1110101000
  | 0xFB => 0b1101101000
  | 0xFD => 0b1011101000
  | 0xFE => 0b0111101000
  | _ => 0b0011111010

/-- Ones among the low `n` bits. -/
def ones : Nat → Nat → Nat
  | 0, _ => 0
  | n + 1, v => v % 2 + ones n (v / 2)

/-- A symbol's code at a running disparity (true: positive), and the disparity after it. -/
def encodeSymbol (rd : Bool) : Symbol → Nat × Bool
  | .k b =>
    let c := specialBits b
    (if rd then 1023 - c else c, if ones 10 c = 5 then rd else !rd)
  | .d b =>
    let x := b % 32
    let y := b / 32 % 8
    let c6 := (sixBits[x]?).getD 0
    let odd6 := ones 6 c6 != 3
    let rd6 := if odd6 then !rd else rd
    let alternate := (!rd6 && (x == 17 || x == 18 || x == 20)) || (rd6 && (x == 11 || x == 13 || x == 14))
    let c4 := if y = 7 ∧ alternate then 0b0111 else (fourBits[y]?).getD 0
    let odd4 := ones 4 c4 != 2
    ((if rd && (odd6 || x == 7) then 63 - c6 else c6) * 16 + (if rd6 && (odd4 || y == 3) then 15 - c4 else c4),
      if odd4 then !rd6 else rd6)

/-- Symbols of one lane in order: their codes, and the disparity after them. -/
def encodeRun : Bool → List Symbol → List Nat × Bool
  | rd, [] => ([], rd)
  | rd, x :: xs =>
    let e := encodeSymbol rd x
    let r := encodeRun e.2 xs
    (e.1 :: r.1, r.2)

/-! ### Ordered sets (R141, R144, R384) -/

def idleSet : List Symbol := [symCom, symIdl, symIdl, symIdl]
def deskewSet (n : Nat) : List Symbol := [symCom, symDsk, .d n, .d n]
def mapSet (logical generation : Nat) : List Symbol := [symCom, symLmap, .d logical, .d generation]
def heartbeatSet (count state : Nat) : List Symbol := [symCom, symHbt, .d count, .d state]
def eiosSet : List Symbol := [symCom, symEios, symEios, symEios]

/-- A training burst (R144): 28 symbols of D21.5 and one deskew set. -/
def trainingBurst (n : Nat) : List Symbol := List.replicate 28 (.d 0xB5) ++ deskewSet n

/-- The disparity of a lane after a number of idle sets: each turns it. -/
def afterIdle (sets : Nat) (rd : Bool) : Bool := if sets % 2 = 0 then rd else (encodeRun rd idleSet).2

/-! ### Packets on lanes (R148) -/

/-- A list in rows of `w`, at most `n` of them. -/
def rowsBy {α : Type} (w : Nat) : Nat → List α → List (List α)
  | 0, _ => []
  | n + 1, l => if l.isEmpty then [] else l.take w :: rowsBy w n (l.drop w)

/-- The symbols of each of `w` logical lanes: item k of a row-filled list travels on lane k mod w. -/
def dealLanes {α : Type} (w : Nat) (l : List α) : List (List α) :=
  (rowsBy w l.length l).foldr (fun row acc => List.zipWith List.cons row acc) (List.replicate w [])

/-- A framed packet's symbols (R148): SOP, the bytes, EOP, and PAD to the end of the symbol time. -/
def framedSymbols (w : Nat) (bytes : Bytes) : List Symbol :=
  symSop :: bytes.map (fun b => .d b.toNat) ++ [symEop] ++ List.replicate ((w - (bytes.length + 2) % w) % w) symPad

/-! ### PRBS31 (R141) -/

/-- The next byte of the generator x³¹ + x²⁸ + 1, its first bit highest, and the register after it. -/
def prbsByte (r : Nat) : Nat × Nat :=
  let b := ((r / 2 ^ 23) ^^^ (r / 2 ^ 20)) % 256
  (b, (r * 256 + b) % 2 ^ 31)

/-- `n` bytes of the generator, and the register after them. -/
def prbsRun : Nat → Nat → List Symbol × Nat
  | 0, r => ([], r)
  | n + 1, r =>
    let e := prbsByte r
    let t := prbsRun n e.2
    (.d e.1 :: t.1, t.2)

end Sys2Proof.Machine
end

