-- ==== Sys2Proof/Machine/Packets.lean ====
section
/-!
DEFINITION. Sys2Proof/Machine/Packets.lean: downstream Maelwin packets and twin packets as bytes (R148, R149, R385), and
sending them through their retry buffers (R154, R386).
-/

namespace Sys2Proof.Machine

/-! ### Roles -/

/-- The member is of a pair (R381). -/
def State.paired (s : State) : Bool := s.get 0x230001 == 1

/-- The member acts as owner: single, or active (R381, R382). -/
def State.acting (s : State) : Bool := !s.paired || s.pair.role == 1

/-- The member stands by (R395). -/
def State.standby (s : State) : Bool := s.paired && s.pair.role != 1

/-! ### Packets as bytes -/

/-- A framed packet's length: SOP, header, payload, CRC and EOP (R148). -/
def Packet.framed (p : Packet) : Nat := p.payload.length + 22

/-- A downstream packet from its header to its CRC (R149, R152). -/
def Packet.bytes (p : Packet) : Bytes :=
  let b := leBytes 1 p.kind ++ leBytes 1 p.flags ++ leBytes 2 p.seq ++ leBytes 4 p.epoch ++ leBytes 1 p.module
    ++ leBytes 1 p.format ++ leBytes 2 p.payload.length ++ leBytes 4 p.spec ++ p.payload
  b ++ leBytes 4 (crc32c b)

/-- A twin packet from its header to its CRC (R385); `spec` holds bytes 10 to 15. -/
def Packet.twinBytes (p : Packet) : Bytes :=
  let b := leBytes 1 p.kind ++ leBytes 1 0 ++ leBytes 2 p.seq ++ leBytes 4 p.epoch ++ leBytes 2 p.payload.length
    ++ leBytes 6 p.spec ++ p.payload
  b ++ leBytes 4 (crc32c b)

/-- Bytes that a retry buffer holds. -/
def heldBytes (l : List Packet) : Nat := l.foldl (fun n p => n + p.framed) 0

/-! ### The Maelwin port -/

/-- The port sends new packets: trained, not Failed or retraining, and owner of the panel (R145, R165). -/
def State.linkUp (s : State) : Bool := s.link.trained && s.usable 0xA && s.get 0x480001 == 2

/-- Room for one more packet (R154): 2 MiB and 16,384 packets. -/
def State.linkRoom (s : State) (p : Packet) : Bool :=
  decide (heldBytes s.link.retry + p.framed ≤ 2097152) && decide (s.link.retry.length < 16384)

/-- A packet's symbol times at the link's width (R148). -/
def symbolTimes (width framed : Nat) : Nat := if width = 0 then 0 else (framed + width - 1) / width

/-- Symbols go out on physical lanes, each coded at its lane's running disparity (R140). -/
def State.drive (s : State) (l : List (Nat × List Symbol)) : State :=
  let codes := l.map fun p => (p.1, encodeRun (nth s.link.disparity p.1 false) p.2)
  { s with
    out := s.out ++ codes.map fun c => .lane c.1 c.2.1
    link := { s.link with disparity := codes.foldl (fun d c => setNth d c.1 c.2.2) s.link.disparity } }

/-- The same symbols on several lanes. -/
def State.driveAll (s : State) (lanes : List Nat) (l : List Symbol) : State := s.drive (lanes.map fun n => (n, l))

/-- Physical lanes that are good: locked and not retired. -/
def State.goodLanes (s : State) : List Nat := (List.range 18).filter fun l => bitOf s.link.locked l && !bitOf (s.get 0x480004) l

/-- The spares beside a lane map: the next two good lanes (R146). -/
def State.sparesOf (s : State) (map : List Nat) : List Nat := (s.goodLanes.filter fun l => !map.contains l).take 2
def State.spareLanes (s : State) : List Nat := s.sparesOf s.link.map

/-- The lanes that an owner port drives: those of the map, one sent and not yet in effect before it, and spares (R144). -/
def State.lanesWanted (s : State) : List Nat := let map := s.link.nextMap.getD s.link.map; map ++ s.sparesOf map

/-- The lanes driven from now on: an electrical-idle set goes out on each lane that stops (R141, R144). -/
def State.driveOnly (s : State) (lanes : List Nat) : State :=
  let s := s.driveAll (s.link.driven.filter fun l => !lanes.contains l) eiosSet
  { s with link := { s.link with driven := lanes } }

/-- The panel lanes stop, in Sleep and Off (R25, R27) and where their function is reset (R64): the link is to train anew. -/
def State.stopPanel (s : State) : State :=
  let s := s.driveOnly []
  { s with link := { s.link with trained := false, step := 0, map := [], nextMap := none } }

/-- The count n of deskew sets advances and wraps (R141). -/
def State.countSet (s : State) : State := { s with link := { s.link with deskew := (s.link.deskew + 1) % 256 } }

/-- A training burst on lanes (R144). DESIGN CHOICE (log entry 86): the deskew set that ends a burst takes the next number n, as one on
schedule does. -/
def State.burstOut (s : State) (lanes : List Nat) : State :=
  ((s.send (.orderedSet false 4 0 0)).driveAll lanes (trainingBurst s.link.deskew)).countSet

/-- A lane map that was sent takes effect (R141): on a driven port a lane left without a place is driven no longer, and an unused lane
that becomes a spare exits electrical idle by a burst (R144, R146). -/
def State.applyMap (s : State) : State :=
  match s.link.nextMap with
  | none => s
  | some m =>
    let s := { s with link := { s.link with map := m, nextMap := none } }
    if s.link.driven.isEmpty then s
    else
      let new := s.lanesWanted.filter fun l => !s.link.driven.contains l
      (if new.isEmpty then s else s.burstOut new).driveOnly s.lanesWanted

/-- A training burst whose deskew set brings a lane map into effect. -/
def State.burst (s : State) (lanes : List Nat) : State := (s.burstOut lanes).applyMap

/-- The end of an interval of 1,024 symbol times (R141): idle sets have filled what packets left of it on the data lanes, spares have
carried PRBS31 bytes, and a deskew set follows on every driven lane, at which a lane map sent before takes effect. -/
def State.endInterval (s : State) : State :=
  let sets := (1020 - s.link.setSymbols) / 4
  let s := { s with
    out := s.out ++ s.link.map.map fun l => Out.idle l sets
    link := { s.link with
      setSymbols := 0
      disparity := s.link.map.foldl (fun d l => setNth d l (afterIdle sets (nth d l false))) s.link.disparity } }
  let p := prbsRun 1020 s.link.prbs
  let s := ({ s with link := { s.link with prbs := p.2 } }).driveAll (s.link.driven.filter fun l => !s.link.map.contains l) p.1
  let s := (s.send (.orderedSet false 1 s.link.deskew s.link.deskew)).driveAll s.link.driven (deskewSet s.link.deskew)
  s.countSet.applyMap

/-- The symbols of a packet on the logical lanes: a deskew set that falls into it pauses it for four symbol times (R141). A packet takes
at most 966 symbol times, so one set at most does. -/
def State.dealOut (s : State) (l : List (List Symbol)) : State :=
  let n := (l.headD []).length
  let room := 1020 - s.link.setSymbols
  if n ≤ room then
    let s := s.drive (s.link.map.zip l)
    { s with link := { s.link with setSymbols := s.link.setSymbols + n } }
  else
    let s := s.drive (s.link.map.zip (l.map fun x => x.take room))
    let s := ({ s with link := { s.link with setSymbols := 1020, setsAhead := s.link.setsAhead + 1 } }).endInterval
    let s := s.drive (s.link.map.zip (l.map fun x => x.drop room))
    { s with link := { s.link with setSymbols := n - room } }

/-- The packet goes onto the link: its bytes are dealt to the lanes of the map, sent and counted (R148). -/
def State.onLink (s : State) (p : Packet) : State :=
  let n := symbolTimes (s.get 0x480002) p.framed
  let s := s.dealOut (dealLanes s.link.map.length (framedSymbols s.link.map.length p.bytes))
  let s := (s.send (.maelwin p.bytes)).bump 0x480015 p.framed
  { s with link := { s.link with frameSymbols := s.link.frameSymbols + n } }

/-- A packet of an ownership epoch takes the next sequence number, is sent, and stays in the retry buffer until acknowledged (R154);
the time of a READ counts from here (R153). -/
def State.linkEmitAs (s : State) (epoch : Nat) (p : Packet) : State :=
  let p := { p with seq := s.link.nextSeq, epoch, sentAt := s.now, sends := 1 }
  let s := s.onLink p
  let s := { s with link := { s.link with
      nextSeq := (s.link.nextSeq + 1) % 65536, retry := s.link.retry ++ [p]
      reads := if p.kind = 4 then s.link.reads.map fun (o : OpenRead) =>
          if o.tag = p.spec / 256 % 256 ∧ o.module = p.module then { o with at_ := s.now } else o
        else s.link.reads } }
  s.put 0x480016 (max (s.get 0x480016) (heldBytes s.link.retry))

def State.linkEmit (s : State) (p : Packet) : State := s.linkEmitAs (s.get 0x48000C) p

/-- The port takes packets to send: the acting member's port as owner, or in training (R144, R145, R395). -/
def State.linkSends (s : State) : Bool := s.acting && [1, 2, 4].contains (s.get 0x480001)

/-- A packet is sent, or waits for the link and for room (R154); a port in electrical idle or Failed sends none. -/
def State.linkSend (s : State) (p : Packet) : State :=
  if !s.linkSends then s
  else if s.linkUp && s.link.waiting.isEmpty && s.linkRoom p then s.linkEmit p
  else { s with link := { s.link with waiting := s.link.waiting ++ [p] } }

/-- Waiting packets are sent in order while there is room. -/
def drainLink : Nat → State → State
  | 0, s => s
  | n + 1, s =>
    match s.link.waiting with
    | [] => s
    | p :: rest =>
      if s.linkUp && s.linkRoom p then drainLink n (({ s with link := { s.link with waiting := rest } }).linkEmit p) else s

/-- A downstream packet to be sent: kind, module, bytes 12 to 15, payload. -/
def packetOf (kind module spec : Nat) (payload : Bytes) : Packet :=
  { kind, flags := 0, seq := 0, epoch := 0, module, format := 0, spec, payload, sentAt := 0, sends := 0 }

/-- A READ with a new tag is open (R150) until its response (R153), which names tag and module; one that is open with both has no answer
of its own any more. -/
def State.openRead (s : State) (code module argument : Nat) (expected : Nat := 0) (known : Bool := false) (frame : Option Nat := none) :
    State :=
  let tag := s.link.nextTag
  let same := fun (r : OpenRead) => r.tag == tag && r.module == module
  let o : OpenRead := { code, tag, module, argument, at_ := s.now, tries := 1, expected, known, frame := frame.getD (s.get 0x285004) }
  { s with
    link := { s.link with nextTag := (tag + 1) % 256, reads := s.link.reads.filter (fun (r : OpenRead) => !same r) ++ [o] }
    care := { s.care with
      lostReads := s.care.lostReads ++ s.link.reads.filter fun (r : OpenRead) => same r && r.code == 0x10 } }

/-- A READ with a new tag is sent (R150). -/
def State.linkRead (s : State) (code module argument : Nat) (expected : Nat := 0) (known : Bool := false) (frame : Option Nat := none) :
    State :=
  (s.openRead code module argument expected known frame).linkSend (packetOf 4 module (code + 256 * s.link.nextTag + 65536 * argument) [])

/-- A CONTROL command (R150). -/
def State.linkControl (s : State) (command module argument : Nat) (payload : Bytes) : State :=
  s.linkSend (packetOf 5 module (command + 256 * argument) payload)

/-- A packet is sent again with its old number and counted (R154). -/
def State.linkResend (s : State) (p : Packet) : State := (s.onLink p).bump 0x480010

/-! ### The twin link -/

/-- Symbols go out on twin lanes, each coded at its lane's running disparity (R140, R384). -/
def State.driveTwin (s : State) (l : List (Nat × List Symbol)) : State :=
  let codes := l.map fun p => (p.1, encodeRun (nth s.pair.wire.disparity p.1 false) p.2)
  let disparity := codes.foldl (fun d c => setNth d c.1 c.2.2) s.pair.wire.disparity
  { s with
    out := s.out ++ codes.map fun c => .twinLane c.1 c.2.1
    pair := { s.pair with wire := { s.pair.wire with disparity } } }

/-- The twin lanes driven from now on: an electrical-idle set goes out on each lane that stops (R141, R144, R384). -/
def State.twinOnly (s : State) (lanes : List Nat) : State :=
  let s := s.driveTwin ((s.pair.wire.driven.filter fun l => !lanes.contains l).map fun l => (l, eiosSet))
  { s with pair := { s.pair with wire := { s.pair.wire with driven := lanes } } }

/-- The twin lanes stop in Sleep and Off (R25, R27): the link is down, and the mirror no longer current. -/
def State.stopTwin (s : State) : State :=
  let s := s.twinOnly []
  { s with pair := { s.pair with twinUp := false, mirrorCurrent := false, snapshotStep := 0, wire := { s.pair.wire with map := [], nextMap := none } } }

/-- Twin lanes that lock and are not retired. -/
def State.twinGood (s : State) : List Nat := (List.range 5).filter fun l => bitOf s.pair.twinLocked l && !bitOf (s.get 0x23000B) l

/-- Good twin lanes outside a lane map: the spare (R146, R384). -/
def State.twinBeside (s : State) (map : List Nat) : List Nat := s.twinGood.filter fun l => !map.contains l

/-- The bytes of a twin packet go out, dealt to the logical lanes as R148 states (R384). -/
def State.putTwin (s : State) (b : Bytes) : State :=
  let w := s.pair.wire.map.length
  let s := (s.driveTwin (s.pair.wire.map.zip (dealLanes w (framedSymbols w b)))).send (.twin b)
  { s with pair := { s.pair with wire := { s.pair.wire with taken := s.pair.wire.taken + symbolTimes w (b.length + 2) } } }

/-- A twin packet is sent and stays in the retry buffer until acknowledged; HANDOVER names the last that carried MIRROR records (R385,
R386). -/
def State.twinEmit (s : State) (p : Packet) : State :=
  let p := { p with seq := s.pair.twinSeq, epoch := s.get 0x48000C, sentAt := s.now, sends := 1 }
  let s := s.putTwin p.twinBytes
  { s with pair := { s.pair with
      twinSeq := (s.pair.twinSeq + 1) % 65536, twinRetry := s.pair.twinRetry ++ [p]
      mirrorSeq := if p.kind = 2 then p.seq else s.pair.mirrorSeq } }

def State.twinRoom (s : State) (p : Packet) : Bool := decide (heldBytes s.pair.twinRetry + p.framed ≤ 262144)

/-- A twin packet of a kind, with bytes 10 to 15 and a payload (R385): sent, or waiting for room in the 256 KiB retry buffer (R386); a twin
link that is down sends none. -/
def State.twinSend (s : State) (kind tail : Nat) (payload : Bytes) : State :=
  if !s.paired || !s.pair.twinUp then s
  else
    let p := packetOf kind 0 tail payload
    if s.pair.twinWaiting.isEmpty && s.twinRoom p then s.twinEmit p
    else { s with pair := { s.pair with twinWaiting := s.pair.twinWaiting ++ [p] } }

def drainTwin : Nat → State → State
  | 0, s => s
  | n + 1, s =>
    match s.pair.twinWaiting with
    | [] => s
    | p :: rest =>
      if s.pair.twinUp && s.twinRoom p then drainTwin n (({ s with pair := { s.pair with twinWaiting := rest } }).twinEmit p) else s

/-- A payload of any length in twin packets of at most 3,840 bytes, the byte offset in bytes 10 to 13 (R385). -/
def State.twinChunks (s : State) (kind : Nat) : Nat → Nat → Bytes → State
  | 0, _, _ => s
  | n + 1, offset, b =>
    if b.isEmpty then s
    else (s.twinSend kind offset (b.take 3840)).twinChunks kind n (offset + 3840) (b.drop 3840)

/-- A MIRROR record (R385): 16 bytes. -/
def mirrorRecord (type : Nat) (r : Rect) : Bytes :=
  leBytes 1 type ++ leBytes 1 r.no ++ leBytes 1 r.module
    ++ leBytes 1 (r.cls + 4 * r.format + (if r.supersede then 16 else 0))
    ++ leBytes 2 r.column ++ leBytes 2 r.row ++ leBytes 2 r.columns ++ leBytes 2 r.rows ++ leBytes 4 r.frame

/-- The active member sends MIRROR records (R385). -/
def State.mirrorSend (s : State) (records : Bytes) : State := if s.pair.role == 1 then s.twinSend 2 0 records else s

end Sys2Proof.Machine
end

