-- ==== Sys2Proof/Machine/MediaOps.lean ====
section
/-!
DEFINITION. Sys2Proof/Machine/MediaOps.lean: the objects and state of camera ports, pairs, streams and slots by number; the
layers in force; and how colour and depth pictures enter the scene store (R71, R276, R277).
-/

namespace Sys2Proof.Machine

/-! ### Objects of numbered items -/

/-- Camera object 0x3n`ix`.`sub` of port `p` (R222 to R225). -/
def camK (p ix sub : Nat) : Nat := keyOf (0x3000 + 0x100 * p + ix) sub
/-- Pair, stream, seal, slot and flat output objects (R242, R268, R269, R270, R306). -/
def pairK (k sub : Nat) : Nat := keyOf (0x3810 + k) sub
def streamK (n sub : Nat) : Nat := keyOf (0x3910 + n) sub
def sealK (n sub : Nat) : Nat := keyOf (0x3B10 + n) sub
def slotK (k sub : Nat) : Nat := keyOf (0x3A10 + k) sub
def flatK (k sub : Nat) : Nat := keyOf (0x4C10 + k) sub
def surfaceK (n sub : Nat) : Nat := keyOf (0x4080 + n) sub

/-! ### State of numbered items -/

def State.cam (s : State) (p : Nat) : Cam := nth s.media.cams p {}
def State.setCam (s : State) (p : Nat) (c : Cam) : State := { s with media := { s.media with cams := setNth s.media.cams p c } }
def State.stereo (s : State) (k : Nat) : StereoPair := nth s.media.pairs k {}
def State.setStereo (s : State) (k : Nat) (c : StereoPair) : State := { s with media := { s.media with pairs := setNth s.media.pairs k c } }
def State.stream (s : State) (n : Nat) : Stream := nth s.media.codec.streams n {}
def State.setStream (s : State) (n : Nat) (c : Stream) : State :=
  { s with media := { s.media with codec := { s.media.codec with streams := setNth s.media.codec.streams n c } } }
def State.slot (s : State) (k : Nat) : Slot := nth s.media.codec.slots k {}
def State.setSlot (s : State) (k : Nat) (c : Slot) : State :=
  { s with media := { s.media with codec := { s.media.codec with slots := setNth s.media.codec.slots k c } } }

def State.rank (s : State) (r : Nat) : Rank := nth s.memory.ranks r {}

/-- Data chunks of a rank: floor(2 × rows ÷ 9), with 8,192 rows per gigabit (R310). -/
def chunksPerRank (gigabit : Nat) : Nat := 2 * (gigabit * 8192) / 9

/-- Chunks placed on a rank (0x2500.12). -/
def State.chunksOn (s : State) (r : Nat) : Nat := nth s.lift.tops r 0 - (s.lift.freed.filter fun p => p.rank == r).length

/-- Ranks that hold data: in use, or being migrated from. -/
def State.holdsData (s : State) (r : Nat) : Bool := (s.rank r).state == 2 || (s.rank r).state == 4

def State.camOn (s : State) (p : Nat) : Bool := s.get (camK p 0 1) == 1
def State.pairOn (s : State) (k : Nat) : Bool := s.get (pairK k 1) == 1
def State.streamOn (s : State) (n : Nat) : Bool := s.get (streamK n 1) == 1
def State.slotOn (s : State) (k : Nat) : Bool := s.get (slotK k 1) == 1
def State.flatOn (s : State) (k : Nat) : Bool := s.get (flatK k 1) == 1

/-- Camera roles in order: mirror first (R208, R210). -/
def State.roleOf (s : State) (p : Nat) : Nat := s.get (camK p 0 0x0F)

/-! ### The scene in force -/

/-- The descriptor in force; empty where there is none (R83). -/
def State.descriptor (s : State) : Bytes := s.dom 0x400001

/-- Layer record `n` in force; kind 0 where there is no descriptor. -/
def State.layer (s : State) (n : Nat) : Layer := layerOf s.descriptor n

/-- Position `n` is enabled in force: used, and set in 0x4000.02 (R67). -/
def State.layerOn (s : State) (n : Nat) : Bool := (s.layer n).kind != 0 && bitOf (s.get 0x400002) n

/-! ### The scene store -/

/-- 10-bit texels as the scene store gives them back: through the colour format, block by block (R276, R277, R275). -/
def throughColour (fmt w h : Nat) (px : List Nat) : List Nat :=
  if fmt = 0 then px
  else
    let at' := fun (x y ch : Nat) => (px[min y (h - 1) * w + min x (w - 1)]?).getD 0 / 1024 ^ (2 - ch) % 1024
    let block := fun (bx by_ : Nat) =>
      decodeColour fmt (encodeColour fmt ((List.range 3).map fun ch =>
        (List.range 16).map fun i => at' (8 * bx + i % 8) (2 * by_ + i / 8) ch))
    let cols := (w + 7) / 8
    let blocks := (List.range (cols * ((h + 1) / 2))).map fun b => block (b % cols) (b / cols)
    (List.range (w * h)).map fun i =>
      let x := i % w
      let y := i / w
      let b := (blocks[y / 2 * cols + x / 8]?).getD []
      let ch := fun (k : Nat) => (((b[k]?).getD [])[y % 2 * 8 + x % 8]?).getD 0
      ch 2 + 1024 * ch 1 + 1048576 * ch 0

/-- A list cut into rows of `w`. -/
def rowsOfPlane {α : Type} (w : Nat) : Nat → List α → List (List α)
  | 0, _ => []
  | n + 1, l => l.take w :: rowsOfPlane w n (l.drop w)

/-- What a store of pictures keeps: the newest four, and every other one that an age limit (at most 1,000 ms, R79) could
still admit at an instant of PTP time (log entry 56). -/
def keepRecent {α : Type} (time : α → Nat) (now : Nat) (l : List α) : List α :=
  (l.take (l.length - 4)).filter (fun p => decide (now ≤ time p + 1000000000)) ++ l.drop (l.length - 4)
def keepPictures (now : Nat) (l : List Picture) : List Picture := keepRecent (·.endTime) now l

/-- A depth picture of codes is converted and stored for every used depth-map layer in force of a kind that names its
source (R71), through the depth format (R276). -/
def State.storeDepth (s : State) (kind source seq time w h : Nat) (damaged concealed : Bool) (codes : List Nat) : State :=
  let fmt := s.get 0x3C0003
  let d := s.descriptor
  let one := fun (old : List DepthPicture) (n : Nat) =>
    let l := s.layer n
    if l.kind = kind ∧ l.geometry = 2 ∧ l.depth = source then
      let z := codes.map (layerDepth d l)
      let z' := ((rowsOfPlane w h z).map (rowThroughWord fmt)).flatten
      keepRecent (·.time) s.ptp (old ++ [{ seq, time, width := w, height := h, damaged, concealed, z := z' }])
    else old
  { s with media := { s.media with layerDepth := s.media.layerDepth.zipIdx.map fun p => one p.1 p.2 } }

/-- Sequence `a` comes after `b`, modulo 2^32. -/
def seqAfter (a b : Nat) : Bool := decide ((a + 2 ^ 32 - b) % 2 ^ 32 < 2 ^ 31) && a != b

/-- The picture a stream codes next, and whether it is a repeat (R246): the oldest source picture not yet coded whose
sequence the divider takes; for the witness view, else the picture it last coded again where that is the latest complete buffer and
the buffer of a later tick was missing (log entry 88). -/
def State.nextSource (s : State) (n : Nat) : Option (Picture × Bool) :=
  let st := s.stream n
  let src := s.get (streamK n 3)
  let fresh := fun (p : Picture) => p.seq % s.get (streamK n 5) == 0 && (match st.lastSeq with | none => true | some q => seqAfter p.seq q)
    && (match st.lostSeq with | none => true | some q => seqAfter p.seq q)
  if src = 0x10 then
    match s.media.witness with
    | none => none
    | some w =>
      if fresh w then some (w, false)
      else if st.lastSeq == some w.seq && s.media.witnessMissed.isSome && s.media.witnessMissed != st.repeatedAt then some (w, true)
      else none
  else ((s.cam src).pictures.find? fresh).map fun p => (p, false)

/-- The placement epoch, and its advance: it wraps from 0xFFFF_FFFF to 1 (R347). -/
def State.placement (s : State) : Nat := s.get 0x250007
def State.nextPlacement (s : State) : State := s.put 0x250007 (if s.placement = 0xFFFFFFFF then 1 else s.placement + 1)

/-- A result whose epoch is not that of its job's latest issue, or whose job is done: discarded and counted (R347). -/
def State.staleResult (s : State) : State := s.bump 0x250008

/-! ### Reception by a MAC (R360, R377) -/

/-- A frame longer than a MAC takes. -/
def oversize (a : Arrival) : Bool := decide ((if a.tagged then 1522 else 1518) < a.length)

/-- The Ethernet address that the frames to the readiness destination bear. PRESUMED: RFC 1112, RFC 2464 (log entry 31). -/
def State.readinessMac (s : State) : Nat :=
  let d := s.dom 0x286007
  if ipv4Mapped (leNat (d.take 16)) then
    if byteAt d 12 / 16 = 14 then 0x01005E000000 + byteAt d 13 % 128 * 65536 + byteAt d 14 * 256 + byteAt d 15 else 2 ^ 48 - 1
  else 0x333300000000 + beNat ((d.take 16).drop 12)

/-- The multicast addresses of PTP on a port that runs it, and the solicited-node address of IPv6 neighbour discovery: without them R363 and
R360 could not work. PRESUMED: IEEE 802.1AS, IEEE 1588, RFC 4861 (log entry 31). -/
def State.protocolMac (s : State) (mac dest : Nat) : Bool :=
  (bitOf (s.get 0x281001) mac && [0x0180C200000E, 0x011B19000000, 0x01005E000181].contains dest)
    || (!(s.dom 0x280007).isEmpty && dest == 0x3333FF000000 + beNat (((s.dom 0x280007).take 16).drop 13))

/-- The receive filter of a MAC passes a destination: its own address, broadcast, an address of 0x2840.02, or, while 0x2860.01 is TRUE, the
readiness destination's. -/
def State.addressed (s : State) (mac dest : Nat) : Bool :=
  let own := s.dom 0x284002
  dest == 2 ^ 48 - 1 || ((List.range (own.length / 6)).any fun i => beNat ((own.drop (6 * i)).take 6) == dest)
    || dest == (Config.macAddress mac).toNat || (s.get 0x286001 == 1 && dest == s.readinessMac) || s.protocolMac mac dest

/-- A frame reaches the device past its MAC's limit and filter. -/
def State.receives (s : State) (a : Arrival) : Bool := s.macHears a.mac && !oversize a && s.addressed a.mac a.dest

/-- What is done with a frame that a MAC receives; one that is too long, or that the filter does not pass, is dropped and counted. -/
def State.arrives (s : State) (a : Arrival) (f : State → State) : State :=
  if s.receives a then f s else if s.macHears a.mac then s.bump 0x28000A else s

/-- A datagram is a readiness frame: at the destination's port while 0x2860.01 is TRUE, by its magic and version (R377). -/
def State.readinessForm (s : State) (dport : Nat) (b : Bytes) : Bool :=
  s.get 0x286001 == 1 && dport == fieldLE (s.dom 0x286007) 16 2 && fieldLE b 0 2 == 0x4752 && byteAt b 2 == 1

/-- A tick is sought after the current time (R368). -/
def State.seekTick (s : State) : State := { s with net := { s.net with tickAfter := some s.ptp } }

/-! ### Slalom's engines (R227, R230) -/

/-- Engines in service. -/
def State.enginesUp (s : State) : Nat := (s.media.engines.filter id).length

/-- The engine that takes a job of an item: its own number's, or the other. -/
def State.engineFor (s : State) (k : Nat) : Nat := if nth s.media.engines (k % 2) false then k % 2 else 1 - k % 2

/-- The encoder requests motion search for a stream's next picture against the picture it last coded (R239): a new job, after those
requested before it. -/
def State.requestMotion (s : State) (n : Nat) : State :=
  let st := s.stream n
  let job := match s.nextSource n, st.reference with
    | some (cur, false), some ref => if s.streamOn n && !st.suspended then some (cur.seq, ref.seq) else none
    | _, _ => none
  if job = st.motionFor then s
  else
    let queue := s.media.motionQueue.filter (· != n)
    let s := s.setStream n { st with motionFor := job, motion := [], motionEngine := s.engineFor n, motionPlacement := s.placement }
    { s with media := { s.media with motionQueue := if job.isSome then queue ++ [n] else queue } }

/-- A pair's search, and a stream's motion search, issued again from their start on an engine, at the epoch in force (R230, R347). -/
def State.stereoAgain (s : State) (k e : Nat) : State :=
  (s.setStereo k { s.stereo k with blocks := [], rowsDone := 0, engine := e, placement := s.placement }).bump 0x250009
def State.motionAgain (s : State) (n e : Nat) : State :=
  (s.setStream n { s.stream n with motion := [], motionEngine := e, motionPlacement := s.placement }).bump 0x250009

/-- The requests of every stream that codes a source. -/
def State.requestMotions (s : State) (source : Nat) : State :=
  ((List.range 24).filter fun n => s.get (streamK n 3) == source).foldl State.requestMotion s

end Sys2Proof.Machine
end

