-- ==== Sys2Proof/Machine/Decoder.lean ====
section
/-!
DEFINITION. Sys2Proof/Machine/Decoder.lean: the decoder's slots: admission (R260), reception of AVTP packets (R365, R372),
what becomes of a picture (R261 to R265), cycle budgets, starved slots and cores taken out of use (R266).
-/

namespace Sys2Proof.Machine

/-! ### Declared load (R260) -/

/-- A slot's declared load in pixels per second. -/
def State.slotLoad (s : State) (k : Nat) : Nat := s.get (slotK k 4) * s.get (slotK k 5) * s.get (slotK k 6)

def State.slotRuns (s : State) (k : Nat) : Bool := s.slotOn k && !(s.slot k).suspended
def State.slotCoreLoad (s : State) (core : Nat) : Nat :=
  ((List.range 32).filter fun k => s.slotRuns k && (s.slot k).core == core).foldl (fun a k => a + s.slotLoad k) 0

/-- The decoder core with more remaining declared capacity that a load fits (R260). -/
def State.decoderFor (s : State) (load : Nat) : Option Nat :=
  let room := fun (c : Nat) => nth s.media.codec.decCores c false && decide (s.slotCoreLoad c + load ≤ 1000000000)
  match room 0, room 1 with
  | true, true => if s.slotCoreLoad 1 < s.slotCoreLoad 0 then some 1 else some 0
  | true, false => some 0
  | false, true => some 1
  | false, false => none

/-- The decoder's shared objects (R267). -/
def State.decoderObjects (s : State) : State :=
  (s.put 0x3A0001 (bitmapOf id s.media.codec.decCores)).put 0x3A0003 (bitmapBelow 32 s.slotOn)

/-- 0x3A00.02: the declared load, in millions of pixels per second. -/
def State.slotLoadView (s : State) : Nat := ratioOf (s.slotCoreLoad 0 + s.slotCoreLoad 1, 1000000)

/-- Bytes that the picture buffers of a slot take at least: one picture of its largest size, a byte a sample (log entry 66). -/
def State.slotBytes (s : State) (k : Nat) : Nat :=
  let px := s.get (slotK k 4) * s.get (slotK k 5)
  if s.get (slotK k 3) = 3 then 2 * px else px * 3 / 2

/-- The buffers of the slots in use and of one more cannot fit in DRAM (R260). -/
def State.slotLacksRoom (s : State) (k : Nat) : Bool :=
  let chunks := ((List.range 32).filter s.holdsData).length * chunksPerRank (s.get 0x240001)
  decide (65536 * chunks < s.slotBytes k + ((List.range 32).filter s.slotOn).foldl (fun a j => a + s.slotBytes j) 0)

/-- R260: a slot that is disabled fits neither core, or its buffers cannot fit. -/
def State.slotRefused (s : State) (k : Nat) : Bool := (s.decoderFor (s.slotLoad k)).isNone || s.slotLacksRoom k

/-- While its function is usable a slot follows its enable: a value stored before then is applied when it is (R61). -/
def State.settleSlot (s : State) (k : Nat) : State :=
  if !s.usable 7 then s
  else if s.slotOn k then
    if s.get (slotK k 8) = 0 then
      (s.put (slotK k 8) 1).setSlot k { core := (s.slot k).core, enabledAt := s.now, lastUnit := s.now }
    else s
  else if s.get (slotK k 8) = 0 then s
  else ((s.put (slotK k 8) 0).setSlot k {}).settle 7 5 k

/-- A slot is enabled or disabled once admitted; it is placed on its core at once (R260, R261, R270). -/
def State.enableSlot (s : State) (k v : Nat) : State :=
  if v = 1 ∧ !s.slotOn k then
    let core := (s.decoderFor (s.slotLoad k)).getD 0
    (((s.put (slotK k 1) 1).setSlot k { s.slot k with core := core, suspended := false }).settleSlot k).decoderObjects
  else if v = 0 ∧ s.slotOn k then ((s.put (slotK k 1) 0).settleSlot k).decoderObjects
  else s

/-! ### Packets (R365, R372) -/

/-- nuh_layer_id of a NAL unit, or of a payload of RFC 7798 (log entry 31). -/
def layerId (b : Bytes) : Nat := byteAt b 0 % 2 * 32 + byteAt b 1 / 8

/-- What a packet brings of the base layer (R261): a NAL unit, or a fragment of one, of layer 0. -/
def baseLayer (payload : Bytes) : Bytes := if layerId payload = 0 then payload else []

/-- A packet of a slot's stream that is no duplicate: it joins its access unit; the unit is whole at its last packet, or
broken off by the next unit's first one. A unit of higher layers alone is none. -/
def State.gather (s : State) (k sequence timestamp : Nat) (last : Bool) (payload : Bytes) : State :=
  let st := s.slot k
  let gap := match st.lastSeqs.getLast? with
    | some q => (q + 1) % 256 != sequence
    | none => false
  let seqs := st.lastSeqs.drop (st.lastSeqs.length - 127) ++ [sequence]
  let time := extendTime timestamp s.ptp
  let broken := !st.gathered.isEmpty && st.timestamp != time
  let units := if broken then st.units ++ [{ time := st.timestamp, gap := true, bytes := st.gathered }] else st.units
  let gathered := if broken then baseLayer payload else st.gathered ++ baseLayer payload
  let lost := if broken then gap else st.gap || gap
  if last then s.setSlot k { st with lastSeqs := seqs, gathered := [], gap := false, timestamp := time, units := if gathered.isEmpty then units else units ++ [{ time, gap := lost, bytes := gathered }] }
  else s.setSlot k { st with lastSeqs := seqs, gathered := gathered, gap := lost, timestamp := time, units := units }

/-- The packets that the 9640 accepts: the compressed video format with the subtypes of R370, tv and sv set and tu clear, at most 1,476
bytes, a single NAL unit or a fragmentation unit (RFC 7798: no aggregation packet and no PACI packet). -/
def State.avtpAccepted (s : State) (h : AvtpHeader) (payload : Bytes) : Bool :=
  let type := byteAt payload 0 / 2 % 64
  h.subtype == 0x03 && h.format == 0x02 && h.formatSubtype == s.get 0x284001 && h.sv && h.tv && !h.tu
    && decide (payload.length ≤ 1476) && decide (type < 48 ∨ type = 49)

/-- A received AVTP packet: one that is not accepted is discarded, another is matched to its slot, or counted and discarded (R370, R372). -/
def State.receiveAvtp (s : State) (a : Arrival) (h : AvtpHeader) (sequence timestamp : Nat) (last : Bool) (payload : Bytes) : State :=
  s.arrives a fun s =>
    if !s.avtpAccepted h payload then s
    else match (List.range 32).find? fun k => s.slotOn k && s.get (slotK k 2) == h.stream with
      | none => { s with net := { s.net with unmatched := s.net.unmatched + 1 } }
      | some k =>
        if (s.slot k).lastSeqs.contains sequence then s.bump 0x284007
        else if s.usable 7 then s.gather k sequence timestamp last payload else s

/-! ### Samples (R261, R265) -/

/-- Whether a CTU, by its index in raster order, was decoded; `upTo` bounds those decoded where decoding was stopped. -/
def ctuDecoded (event : DecodeEvent) (upTo : Option Nat) (i : Nat) : Bool :=
  (match upTo with | some n => decide (i < n) | none => true)
    && (match event with
        | .syntaxError good => decide (i < good)
        | .lostSlices lost => !(lost.any fun r => decide (r.1 ≤ i) && decide (i ≤ r.2))
        | _ => true)

/-- Mid-grey at a bit depth (R261). -/
def midGrey (bits : Nat) : Nat := 2 ^ (bits - 1)

/-- A plane's samples with those of undecoded CTUs mid-grey (R261); `sub` is the plane's subsampling. -/
def greyPlane (u : AccessUnit) (upTo : Option Nat) (sub : Nat) (p : List Nat) : List Nat :=
  let w := (u.width + sub - 1) / sub
  let cols := (u.width + u.ctu - 1) / u.ctu
  p.zipIdx.map fun e =>
    let i := e.2 / w * sub / u.ctu * cols + e.2 % w * sub / u.ctu
    if ctuDecoded u.event upTo i then e.1 else midGrey u.bitDepth

/-- A sample widened to 10 bits (R265). -/
def widen10 (bits v : Nat) : Nat := if bits = 8 then v * 4 ||| v / 64 else if bits = 9 then v * 2 ||| v / 256 else v

/-- Eight times a chroma value at a luma position: bilinear from chroma location type 0 (R265). -/
def chroma8 (cw ch : Nat) (p : List Nat) (x y : Nat) : Int :=
  let at' := fun (i j : Int) =>
    let cx := (clampInt i 0 ((cw : Int) - 1)).toNat
    let cy := (clampInt j 0 ((ch : Int) - 1)).toNat
    ((p[cy * cw + cx]?).getD 0 : Int)
  let i : Int := (x / 2 : Nat)
  let j : Int := (y / 2 : Nat)
  let row := fun (jj : Int) => if x % 2 = 0 then 2 * at' i jj else at' i jj + at' (i + 1) jj
  if y % 2 = 0 then 3 * row j + row (j - 1) else 3 * row j + row (j + 1)

/-- One component of a 10-bit Y, Cb, Cr sample as 10-bit R (0), G (1) or B (2), chroma eightfold, rounded to nearest (R265). -/
def rgbComponent (bt601 full : Bool) (k : Nat) (y : Nat) (cb8 cr8 : Int) : Nat :=
  let q := rgbRatio bt601 full k y cb8 cr8
  (clampInt (roundDiv q.1 q.2) 0 1023).toNat

/-- A unit's texels as the scene store takes them in (R265). -/
def unitTexels (u : AccessUnit) (upTo : Option Nat) : List Nat :=
  let wide := fun (l : List Nat) => l.map (widen10 u.bitDepth)
  let luma := wide (greyPlane u upTo 1 u.luma)
  let cb := wide (greyPlane u upTo 2 u.cb)
  let cr := wide (greyPlane u upTo 2 u.cr)
  let cw := (u.width + 1) / 2
  let ch := (u.height + 1) / 2
  (List.range (u.width * u.height)).map fun i =>
    let x := i % u.width
    let y := i / u.width
    let c := fun (k : Nat) => rgbComponent u.bt601 u.fullRange k ((luma[i]?).getD 0) (chroma8 cw ch cb x y) (chroma8 cw ch cr x y)
    c 2 + 1024 * c 1 + 1048576 * c 0

/-! ### Pictures (R261 to R264) -/

/-- Writes of a unit outside the bounds windows of the slot's picture buffers: outside the size declared (R263). -/
def State.outside (s : State) (k : Nat) (u : AccessUnit) : List (Nat × Nat) :=
  u.writes.filter fun w => decide (s.get (slotK k 4) ≤ w.1) || decide (s.get (slotK k 5) ≤ w.2)

/-- A reference picture generated for one that is missing: every sample mid-grey (R264). -/
def generatedPicture (u : AccessUnit) (time : Nat) : Reference :=
  let grey := fun (l : List Nat) => l.map fun _ => midGrey u.bitDepth
  { time, flawed := true, luma := grey u.luma, cb := grey u.cb, cr := grey u.cr }

/-- An access unit's picture is decoded; `upTo` is the CTU at which a cycle budget stopped it. -/
def State.storePicture (s : State) (k : Nat) (u : AccessUnit) (upTo : Option Nat) (time : Nat) (gap : Bool) : State :=
  let st := s.slot k
  let wild := s.outside k u
  let damaged := gap || upTo.isSome || !wild.isEmpty || u.event != .clean
  let known := fun (r : Nat) => st.dpb.find? fun p => p.time == r
  let generated := u.references.filter fun r => (known r).isNone
  let concealed := u.references.any fun r => match known r with | some p => p.flawed | none => true
  let dpb := st.dpb ++ generated.map (generatedPicture u)
    ++ [{ time, flawed := damaged || concealed, luma := greyPlane u upTo 1 u.luma, cb := greyPlane u upTo 2 u.cb, cr := greyPlane u upTo 2 u.cr }]
  let fresh := (known time).isNone
  let s := (s.bump (slotK k 9)).bump (slotK k 0x0D) generated.length
  let seq := s.get (slotK k 9)
  let s := if damaged then s.bump (slotK k 0x0A) else s
  let s := if concealed then s.bump (slotK k 0x0B) else s
  let s := (s.put (slotK k 0x0E) time).put (slotK k 8) (if concealed then 3 else 2)
  let s := if wild.isEmpty then s else s.raise 7 3 k
  let st := { st with
    suppressed := st.suppressed + wild.length
    dpb := dpb.drop (dpb.length - 16), newTimes := if fresh then st.newTimes + 1 else st.newTimes
    advancedAt := if fresh then s.now else st.advancedAt }
  if s.get (slotK k 3) = 3 then
    (s.setSlot k st).storeDepth 1 k seq time u.width u.height damaged concealed ((greyPlane u upTo 1 u.luma).map (widenDepth u.bitDepth))
  else
    let pic : Picture :=
      { seq, time, endTime := time, width := u.width, height := u.height, damaged, concealed
        rgb := throughColour (s.get 0x3C0002) u.width u.height (unitTexels u upTo), luma := [] }
    s.setSlot k { st with pictures := keepPictures s.ptp (st.pictures ++ [pic]) }

/-- An SPS outside the slot's profile or declared size, or above level 6.1 (R259, R261). -/
def State.badSps (s : State) (k : Nat) (u : AccessUnit) : Bool :=
  u.profile != s.get (slotK k 3) || decide (183 < u.level) || decide (s.get (slotK k 4) < u.width) || decide (s.get (slotK k 5) < u.height)

/-- The cycle budget of a slot's pictures in ns: the one set, or the automatic one, max(1,000 µs, 2 × max width × max height ÷
1.0 Gpx/s) (R262). -/
def State.cycleBudget (s : State) (k : Nat) : Nat :=
  let set := s.get (slotK k 7)
  if set = 0 then max 1000000 (2 * s.get (slotK k 4) * s.get (slotK k 5)) else 1000 * set

/-- A slot has a whole access unit for its core, and a core to decode it. -/
def State.unitReady (s : State) (k : Nat) : Bool := s.usable 7 && s.slotRuns k && !(s.slot k).units.isEmpty

/-- The next access unit of a slot comes to its core (R261). -/
def State.decodeUnit (s : State) (k : Nat) (u : AccessUnit) (upTo : Option Nat) : State :=
  match (s.slot k).units with
  | [] => s
  | unit :: rest =>
    let time := unit.time
    let gap := unit.gap
    let st := s.slot k
    let bad := s.badSps k u
    let s := (s.setSlot k { st with units := rest, lastUnit := s.now, starved := false }).settle 7 5 k
    let st := s.slot k
    if bad then ((s.setSlot k { st with resync := true }).put (slotK k 8) 1 |>.bump (slotK k 0x0C)).raise 7 6 k
    else if st.resync && !u.irap then (s.put (slotK k 8) 1).bump (slotK k 0x0C)
    else if u.irap then
      (s.setSlot k { st with resync := false, rasl := st.resync }).storePicture k u upTo time gap
    else if u.rasl && st.rasl then (if s.get (slotK k 8) = 4 then s.put (slotK k 8) 2 else s).bump (slotK k 0x0C)
    else s.storePicture k u upTo time gap

/-- A picture that keeps its budget is decoded, which ends a run of overruns (R261, R262). -/
def State.decodePicture (s : State) (k : Nat) (u : AccessUnit) : State :=
  if s.unitReady k && decide (u.takes ≤ s.cycleBudget k) then
    (s.setSlot k { s.slot k with overruns := 0 }).decodeUnit k u none
  else s

/-- A picture stopped at its cycle budget: ten in succession raise cause 0x04 (R262). -/
def State.overrun (s : State) (k : Nat) (u : AccessUnit) (good : Nat) : State :=
  if !s.unitReady k || decide (u.takes ≤ s.cycleBudget k) then s
  else
    let s := s.decodeUnit k u (some good)
    let n := (s.slot k).overruns + 1
    let s := s.setSlot k { s.slot k with overruns := n }
    if n = 10 then s.raise 7 4 k else s

/-- No access unit for ten declared periods (R261). -/
def State.starve (s : State) (k : Nat) : State :=
  if s.usable 7 && s.slotRuns k && decide (10000000000 ≤ s.get (slotK k 6) * (s.now - (s.slot k).lastUnit)) then
    ((s.setSlot k { s.slot k with starved := true }).put (slotK k 8) 4).onset 7 5 k
  else s

/-! ### Cores (R266) -/

/-- Slots that a safety region's layer uses in the scene in force (R266). -/
def State.safetySlots (s : State) : List Nat :=
  ((regionsOf s.descriptor).filter fun r => r.cls == 0 && decide (r.bound < 16)).flatMap fun r =>
    let l := s.layer r.bound
    if l.kind = 1 then [l.colour, l.depth] else []

def State.moveSlot (s : State) (k : Nat) : State :=
  let load := s.slotLoad k
  let s := s.setSlot k { s.slot k with suspended := true, resync := true }
  match s.decoderFor load with
  | some c => (s.setSlot k { s.slot k with suspended := false, core := c }).put (slotK k 8) 1
  | none => (s.put (slotK k 8) 5).raise 7 2 k

/-- A decoder core is taken out of use (R266). -/
def State.failDecoder (s : State) (core : Nat) : State :=
  if !nth s.media.codec.decCores core false then s
  else
    let hit := (List.range 32).filter fun k => s.slotRuns k && (s.slot k).core == core
    let safe := s.safetySlots
    let order := hit.filter (fun k => safe.contains k) ++ hit.filter fun k => !safe.contains k
    let cores := setNth s.media.codec.decCores core false
    let s := { s with media := { s.media with codec := { s.media.codec with decCores := cores } } }
    let s := s.raiseCore 7 1 core (if cores.any id then .degraded else .failed)
    (order.foldl State.moveSlot s).decoderObjects

/-! ### The commands' meanings: slots are 0 to 31 -/

/-- AVTP_RECEIVE (R372): MACs are 0 and 1. -/
def execAvtpReceive (t : Nat) (arrival : Arrival) (header : AvtpHeader) (sequence timestamp : Nat) (last : Bool) (payload : Bytes) (s : State) :
    Host.Outcome State Fault Refusal :=
  actIf (arrival.mac < 2) t s fun s => s.receiveAvtp arrival header sequence timestamp last payload

/-- SLOT_STARVED (R261). -/
def execSlotStarved (t slot : Nat) (s : State) : Host.Outcome State Fault Refusal :=
  actIf (slot < 32) t s fun s => s.starve slot

/-- DECODER_CORE_FAIL (R266): cores are 0 and 1. -/
def execDecoderCoreFail (t core : Nat) (s : State) : Host.Outcome State Fault Refusal :=
  actIf (core < 2) t s fun s => s.failDecoder core

end Sys2Proof.Machine
end

