-- ==== Sys2Proof/Machine/Slalom.lean ====
section
/-!
DEFINITION. Sys2Proof/Machine/Slalom.lean: stereo pairing (R231, R232), the stereo block search with its gates, refinement
and confidence (R234 to R236), the depth picture (R238), motion search (R239), statistics (R240), load (R228) and faults.
-/

namespace Sys2Proof.Machine

/-! ### Samples -/

/-- A luma sample of a picture with its edges repeated outside (R234, R239). -/
def edgeLuma (pic : Picture) (x y : Int) : Int :=
  let cx := (clampInt x 0 ((pic.width : Int) - 1)).toNat
  let cy := (clampInt y 0 ((pic.height : Int) - 1)).toNat
  ((pic.luma[cy * pic.width + cx]?).getD 0 : Nat)

/-- The HEVC luma filter taps at a quarter position, from three samples before on (ITU-T H.265; log entry 7). -/
def lumaTaps (q : Nat) : List Int :=
  if q = 1 then [-1, 4, -10, 58, 17, -5, 1, 0]
  else if q = 2 then [-1, 4, -11, 40, 40, -11, 4, -1]
  else if q = 3 then [0, 1, -5, 17, 58, -10, 4, -1]
  else [0, 0, 0, 64, 0, 0, 0, 0]

/-- One dimension interpolated from eight samples, not yet rounded. -/
def interp8 (q : Nat) (f : Int → Int) (i : Int) : Int :=
  ((lumaTaps q).zipIdx.map fun t => t.1 * f (i + (t.2 : Int) - 3)).foldl (· + ·) 0

/-- A luma sample at a position in quarter samples on both axes: the intermediate sample of 14 bits of ITU-T H.265, the horizontal
stage before the vertical one, then rounded and clipped to 10 bits (log entry 7). -/
def quarterLuma (pic : Picture) (qx qy : Int) : Int :=
  let column := fun (y : Int) => interp8 (qx % 4).toNat (fun x => edgeLuma pic x y) (qx / 4) / 4
  let v := if qy % 4 = 0 then column (qy / 4) else interp8 (qy % 4).toNat column (qy / 4) / 64
  clampInt ((v + 8) / 16) 0 1023

/-! ### Choosing among candidates -/

/-- The candidate of least cost, the smaller one on equal cost (R235). -/
def bestOf (cost : Nat → Nat) : List Nat → Option Nat
  | [] => none
  | d :: ds =>
    match bestOf cost ds with
    | none => some d
    | some e => if cost d < cost e ∨ (cost d = cost e ∧ d ≤ e) then some d else some e

/-! ### Stereo search -/

/-- The rig values of a paired frame (R242): F, B, D_off, horizon row, ground slope, gate mask. -/
def rigAt (pic : Picture) (i : Nat) : Int := (pic.rig[i]?).getD 0

/-- Blocks across and down a picture. -/
def blocksX (pic : Picture) : Nat := pic.width / 4
def blocksY (pic : Picture) : Nat := pic.height / 4

/-- What a block search reads of the pair's set-up. -/
structure SearchSet where
  ref : Picture
  partner : Picture
  left : Bool
  lambda : Nat
  threshold : Nat
  texture : Nat
  previous : List Block
  havePrevious : Bool
  /-- The global gate: the most frequent valid integer disparity of the previous paired frame, × 4. -/
  global : Option Nat
  deriving DecidableEq, Repr

/-- The partner position, in quarters, that a reference column matches at a disparity (R234). -/
def matchX (c : SearchSet) (x : Int) (d : Nat) : Int := if c.left then 4 * x + d else 4 * x - d

/-- The rig gate's value (gate 5 of R235). -/
def rigGate (c : SearchSet) (by_ : Nat) : Nat :=
  let v := (4 * (by_ : Int) + 2 - rigAt c.ref 3) * rigAt c.ref 4
  min 4095 (max 0 ((v + 128) / 256)).toNat

/-- The disparity of a block already searched, if it is inside the frame. -/
def blockD (c : SearchSet) (done : List Block) (bx by_ : Int) : Option Nat :=
  if bx < 0 ∨ (blocksX c.ref : Int) ≤ bx ∨ by_ < 0 ∨ (blocksY c.ref : Int) ≤ by_ then none
  else (done[(by_ * blocksX c.ref + bx).toNat]?).map (·.d)

/-- The 8 × 8 sum of absolute differences at a disparity (R234). -/
def stereoSad (c : SearchSet) (bx by_ d : Nat) : Nat :=
  let offs := (List.range 8).map fun i => (i : Int) - 2
  (offs.flatMap fun j => offs.map fun i =>
    let x := 4 * (bx : Int) + i
    let y := 4 * (by_ : Int) + j
    (edgeLuma c.ref x y - quarterLuma c.partner (matchX c x d) (4 * y)).natAbs).foldl (· + ·) 0

/-- The predictor of R234: the median of the left, above and above-right disparities, the rig gate standing in. -/
def predictor (c : SearchSet) (done : List Block) (bx by_ : Nat) : Nat :=
  let g := fun (i j : Int) => ((blockD c done (bx + i) (by_ + j)).getD (rigGate c by_) : Int)
  (median3 (g (-1) 0) (g 0 (-1)) (g 1 (-1))).toNat

/-- The cost of a disparity (R234). -/
def stereoCost (c : SearchSet) (pred bx by_ d : Nat) : Nat :=
  stereoSad c bx by_ d + c.lambda * ((d : Int) - pred).natAbs / 16

/-- The gates that are enabled and available, as disparities (R235). -/
def stereoGates (c : SearchSet) (done : List Block) (bx by_ : Nat) : List Nat :=
  let prevAt := fun (i j : Int) =>
    let x := (clampInt ((bx : Int) + i) 0 ((blocksX c.ref : Int) - 1)).toNat
    let y := (clampInt ((by_ : Int) + j) 0 ((blocksY c.ref : Int) - 1)).toNat
    ((c.previous[y * blocksX c.ref + x]?).map (·.d)).getD 0
  let near := (List.range 9).map fun k => ((prevAt (((k % 3 : Nat) : Int) - 1) (((k / 3 : Nat) : Int) - 1) : Nat) : Int)
  let all : List (Option Nat) :=
    [blockD c done ((bx : Int) - 1) by_, blockD c done bx ((by_ : Int) - 1), blockD c done ((bx : Int) + 1) ((by_ : Int) - 1),
     if c.havePrevious then some (prevAt 0 0) else none,
     if c.havePrevious then some (median near).toNat else none,
     some (rigGate c by_), if c.havePrevious then c.global else none, some 0]
  all.zipIdx.filterMap fun g => if bitOf (rigAt c.ref 5).toNat g.2 then g.1 else none

/-- The integer positions of step 2 around a gate position (R235). -/
def windowOf (g : Nat) : List Nat := (List.range 33).filterMap fun i => if 16 ≤ g + i ∧ g + i ≤ 1039 then some (g + i - 16) else none

/-- One block searched (R235, R236). With no gate enabled and available, the start is the free value given. -/
def searchBlock (c : SearchSet) (free : Nat) (done : List Block) (bx by_ : Nat) : Block :=
  let pred := predictor c done bx by_
  let cost := stereoCost c pred bx by_
  let at4 := fun (i : Nat) => cost (4 * i)
  let starts := (stereoGates c done bx by_).map fun d => min 1023 ((d + 2) / 4)
  let g := (bestOf at4 starts).getD (free % 1024)
  let window := windowOf g
  let best := (bestOf at4 window).getD g
  let half := (bestOf cost ([4 * best - 2, 4 * best, 4 * best + 2].filter fun d => decide (d ≤ 4095 ∧ (d + 2 = 4 * best ∨ 4 * best ≤ d)))).getD (4 * best)
  let d := (bestOf cost ([half - 1, half, half + 1].filter fun d => decide (d ≤ 4095 ∧ (d + 1 = half ∨ half ≤ d)))).getD half
  let c1 := at4 best
  let far := window.filter fun i => decide (best + 2 ≤ i ∨ i + 2 ≤ best)
  let c2 := match bestOf at4 far with | some i => at4 i | none => 0
  let texture := ((List.range 4).flatMap fun j => (List.range 3).map fun i =>
    (edgeLuma c.ref ((4 * bx + i + 1 : Nat) : Int) ((4 * by_ + j : Nat) : Int) - edgeLuma c.ref ((4 * bx + i : Nat) : Int) ((4 * by_ + j : Nat) : Int)).natAbs).foldl (· + ·) 0
  let lo := min (matchX c (4 * bx) d) (matchX c (4 * bx + 3) d)
  let hi := max (matchX c (4 * bx) d) (matchX c (4 * bx + 3) d)
  let outside := decide (lo < 0) || decide (4 * ((c.partner.width : Int) - 1) < hi)
  let conf := if c2 = 0 ∨ texture < c.texture ∨ outside then 0 else min 255 ((c2 - c1) * 256 / c2)
  { d, confidence := conf }

/-- A row of blocks from left to right. -/
def searchRow (c : SearchSet) (free by_ : Nat) : Nat → Nat → List Block → List Block
  | 0, _, done => done
  | n + 1, bx, done => searchRow c free by_ n (bx + 1) (done ++ [searchBlock c free done bx by_])

/-! ### Depth -/

/-- A block's validity (R236). -/
def Block.valid (threshold : Nat) (b : Block) : Bool := decide (threshold ≤ b.confidence)

/-- The mean luma of a block's 16 samples, rounded (R238). -/
def blockMean (pic : Picture) (bx by_ : Nat) : Int :=
  ((List.range 16).map fun i => edgeLuma pic ((4 * bx + i % 4 : Nat) : Int) ((4 * by_ + i / 4 : Nat) : Int)).foldl (· + ·) 8 / 16

/-- depth_at of R238: the value formed from valid blocks, or none where no block gives weight. -/
def depthAt (pic : Picture) (blocks : List Block) (threshold : Nat) (weights : Bytes) (x y : Nat) : Option Nat :=
  let nx := blocksX pic
  let ny := blocksY pic
  let terms : List (Nat × Int) := (List.range 9).map fun k =>
    let cx := (clampInt (((x / 4 + k % 3 : Nat) : Int) - 1) 0 ((nx : Int) - 1)).toNat
    let cy := (clampInt (((y / 4 + k / 3 : Nat) : Int) - 1) 0 ((ny : Int) - 1)).toNat
    let b := (blocks[cy * nx + cx]?).getD { d := 0, confidence := 0 }
    if !b.valid threshold then (0, 0)
    else
      let ws := (12 - (((2 * x + 1 : Nat) : Int) - 8 * cx - 4).natAbs) * (12 - (((2 * y + 1 : Nat) : Int) - 8 * cy - 4).natAbs)
      let w := ws * byteAt weights (min 63 ((edgeLuma pic x y - blockMean pic cx cy).natAbs / 16))
      (w, (w : Int) * ((b.d : Int) - rigAt pic 2))
  let sw : Nat := (terms.map (·.1)).foldl (· + ·) 0
  let swd : Int := (terms.map (·.2)).foldl (· + ·) 0
  if sw = 0 then none
  else
    let d := roundDiv swd sw
    if d ≤ 0 then some 0xFFFF
    else some (min 0xFFFF (roundDiv (rigAt pic 0 * rigAt pic 1 * 4) (1000 * d)).toNat)

/-- A region's 16 bytes of stereo statistics (R240). -/
def stereoRegion (pic : Picture) (blocks : List Block) (threshold rx ry : Nat) : Bytes :=
  let inside := (List.range (blocksX pic * blocksY pic)).filter fun i =>
    decide (i % blocksX pic / 16 = rx) && decide (i / blocksX pic / 16 = ry)
  let bs := inside.map fun i => (blocks[i]?).getD { d := 0, confidence := 0 }
  let ok := bs.filter (Block.valid threshold)
  let ds := ok.map fun b => (b.d : Int) - rigAt pic 2
  let head := match ds with
    | [] => List.replicate 8 0
    | d :: rest =>
      leBytes 2 (unsigned 16 (looseDiv ((d :: rest).foldl (· + ·) 0) (rest.length + 1)))
        ++ leBytes 2 (unsigned 16 (rest.foldl min d)) ++ leBytes 2 (unsigned 16 (rest.foldl max d))
        ++ leBytes 1 (looseDiv ((bs.map fun b => (b.confidence : Int)).foldl (· + ·) 0) bs.length).toNat ++ [0]
  let past := decide (pic.width < 64 * (rx + 1)) || decide (pic.height < 64 * (ry + 1))
  head ++ leBytes 2 (bs.length - ok.length) ++ leBytes 2 0 ++ leBytes 2 0 ++ [0] ++ leBytes 1 (if past then 1 else 0)

/-- Region columns and rows of a picture size. -/
def regionCols (w : Nat) : Nat := (w + 63) / 64

/-- The pair's statistics object (R240). -/
def stereoStats (ref partner : Picture) (blocks : List Block) (threshold : Nat) : Bytes :=
  let rc := regionCols ref.width
  let rr := regionCols ref.height
  leBytes 4 ref.seq ++ leBytes 4 partner.seq ++ leBytes 4 (unsigned 32 ((partner.time : Int) - ref.time)) ++ leBytes 2 rc
    ++ leBytes 2 rr ++ (List.range (rc * rr)).flatMap fun i => stereoRegion ref blocks threshold (i % rc) (i / rc)

/-- The most frequent integer disparity of valid blocks, the smaller on a tie, × 4 (gate 6). -/
def globalGate (blocks : List Block) (threshold : Nat) : Option Nat :=
  let ds := (blocks.filter (Block.valid threshold)).map fun b => (b.d + 2) / 4
  let count := fun (d : Nat) => (ds.filter (· == d)).length
  (bestOf (fun d => ds.length - count d) ds).map (4 * ·)

/-! ### Pairs -/

/-- A paired frame's search is issued, with the rig values of its own pair (R230, R242). -/
def State.beginSearch (s : State) (k : Nat) (ref partner : Picture) (usePrevious : Bool) : State :=
  s.setStereo k { s.stereo k with
    ref := some { ref with rig := (ref.rig.drop (6 * k)).take 6 }, partner := some partner, blocks := [], rowsDone := 0, next := none
    usePrevious, engine := s.engineFor k, placement := s.placement }

/-- A search that will give no depth picture is counted (R232): its frame was paired, so every held value is one paired frame older
(R238), and the next frame goes without gates 3, 4 and 6. -/
def State.countAbandoned (s : State) (k : Nat) : State :=
  let st := s.stereo k
  ((s.bump 0x380006).setStereo k { st with ages := st.ages.map (· + 1) }).raise 5 3 k

/-- A reference frame without a partner (R232). -/
def State.unpairedFrame (s : State) (k : Nat) : State :=
  let s := s.bump 0x380005
  let run := (s.stereo k).unpairedRun + 1
  let s := s.setStereo k { s.stereo k with unpairedRun := run, fresh := true }
  if run = 10 then s.onset 5 2 k else s

/-- What the search of the next block row reads: the set-up of the pair and the results so far (R234, R235). -/
def State.searchSet (s : State) (k : Nat) (ref partner : Picture) : SearchSet :=
  let st := s.stereo k
  { ref, partner, left := s.get (pairK k 4) == 1, lambda := s.get 0x380008, threshold := s.get 0x38000A
    texture := s.get 0x38000B, previous := st.previous, havePrevious := st.usePrevious
    global := globalGate st.previous (s.get 0x38000A) }

/-- A finished search: the depth picture, its statistics, and what the next paired frame uses of it (R238, R240). -/
def State.finishSearch (s : State) (k : Nat) (ref partner : Picture) : State :=
  let st := s.stereo k
  let threshold := s.get 0x38000A
  let old := st.depth
  let hold := s.get 0x38000E
  let values := (List.range (ref.width * ref.height)).map fun i =>
    match depthAt ref st.blocks threshold (s.dom 0x38000C) (i % ref.width) (i / ref.width) with
    | some v => (v, 0)
    | none =>
      let age := (st.ages[i]?).getD hold + 1
      if age ≤ hold then ((old[i]?).getD 0xFFFF, age) else (0xFFFF, hold)
  let s := s.setStereo k { st with
    ref := none, partner := none, blocks := [], rowsDone := 0, previous := st.blocks, depth := values.map (·.1), ages := values.map (·.2) }
  let s := (s.put (pairK k 0x0B) ref.seq).putDom (pairK k 0x0C) (stereoStats ref partner st.blocks threshold)
  s.storeDepth 2 k ref.seq ref.time ref.width ref.height false false (values.map (·.1))

/-- The next block row of a pair's search (R235); after the last one the depth picture is formed. -/
def State.searchRowOf (s : State) (k : Nat) (ref partner : Picture) : State :=
  let st := s.stereo k
  let (s, free) := s.draw
  let s := s.setStereo k { st with
    blocks := searchRow (s.searchSet k ref partner) free st.rowsDone (blocksX ref) 0 st.blocks, rowsDone := st.rowsDone + 1 }
  if st.rowsDone + 1 = blocksY ref then s.finishSearch k ref partner else s

/-- `n` block rows in order. -/
def searchRows (k : Nat) : Nat → State → State
  | 0, s => s
  | n + 1, s =>
    match (s.stereo k).ref, (s.stereo k).partner with
    | some ref, some partner => searchRows k n (s.searchRowOf k ref partner)
    | _, _ => s

/-- A paired frame of a pair is ready: it is searched, the rows searched while it came in first, or waits for the search under way to be
abandoned (R232). -/
def State.pairedFrame (s : State) (k : Nat) (ref partner : Picture) : State :=
  let s := s.settle 5 2 k
  let st := s.stereo k
  let s := s.setStereo k { st with unpairedRun := 0, fresh := false, early := none }
  match st.ref with
  | some _ =>
    -- a paired frame that already waited is never searched
    let s := if st.next.isSome then s.countAbandoned k else s
    s.setStereo k { s.stereo k with next := some (ref, partner, !st.fresh && st.next.isNone) }
  | none =>
    let s := s.beginSearch k ref partner (!st.fresh)
    match st.early with
    | some e =>
      if e.ref = ref.seq ∧ e.partner = partner.seq then
        searchRows k e.rows (s.setStereo k { s.stereo k with engine := e.engine, placement := e.placement })
      else s
    | none => s

/-- The distance in time of two frames. -/
def apart (a b : Nat) : Nat := ((a : Int) - b).natAbs

/-- Frames that a port has begun and neither delivered nor given up: their frame-start times (R203, R210). -/
def State.coming (s : State) (p : Nat) : List Nat :=
  let c := s.cam p
  (c.raw ++ c.frame.toList).map (·.startTime)

/-- The nearest of the pairs of a reference and a partner frame within the window; of pairs as near the one with the earlier reference
frame, then the one with the earlier partner (R231). -/
def nearestPair (window : Nat) (refs partners : List Picture) : Option (Picture × Picture) :=
  (refs.flatMap fun r => (partners.filter fun p => decide (apart p.time r.time ≤ window)).map fun p => (r, p)).foldl
    (fun (best : Option (Picture × Picture)) x =>
      match best with
      | none => some x
      | some b => if apart x.2.time x.1.time < apart b.2.time b.1.time then some x else some b) none

/-- The pairing of delivered frames, nearest first: a partner frame goes to the reference frame nearest to it that has no nearer partner of
its own (R231). -/
def pairsOf (window : Nat) : Nat → List Picture → List Picture → List (Picture × Picture)
  | 0, _, _ => []
  | n + 1, refs, partners =>
    match nearestPair window refs partners with
    | none => []
    | some x => x :: pairsOf window n (refs.filter fun r => r.seq != x.1.seq) (partners.filter fun p => p.seq != x.2.seq)

/-- A pair is certain once no frame under way, and none still to start, can come between its frames, and the pairs that keep nearer frames
from them are certain too (R231, log entry 8). -/
def State.pairSure (s : State) (k : Nat) (all : List (Picture × Picture)) : Nat → Picture × Picture → Bool
  | 0, _ => false
  | n + 1, (r, p) =>
    let g := apart p.time r.time
    let refs := s.coming (s.get (pairK k 2))
    let partners := s.coming (s.get (pairK k 3))
    partners.all (fun t => decide (g ≤ apart t r.time))
      && refs.all (fun t => if r.time ≤ t then decide (g ≤ apart t p.time) else decide (g < apart t p.time))
      && decide (r.time + g ≤ s.ptp) && decide (p.time + g ≤ s.ptp)
      && all.all fun x =>
        let nearer := apart p.time x.1.time < g ∨ (apart p.time x.1.time = g ∧ x.1.time < r.time) ∨ apart x.2.time r.time < g
        x.1.seq == r.seq || !nearer || s.pairSure k all n x

/-- What a reference frame's pairing stands on: the partner found, or none, is certain (R231, log entry 8). -/
def State.pairingSure (s : State) (k : Nat) (all : List (Picture × Picture)) (r : Picture) (best : Option Picture) : Bool :=
  let window := s.get 0x38000D
  match best with
  | some p => s.pairSure k all (all.length + 1) (r, p)
  | none =>
    (s.coming (s.get (pairK k 3))).all (fun t => decide (window < apart t r.time)) && decide (r.time + window < s.ptp)
      && all.all fun x => decide (window < apart x.2.time r.time) || s.pairSure k all (all.length + 1) x

/-- Waiting reference frames are settled, the oldest first, as far as their pairing is certain (R231, log entry 8). -/
def settlePairs (k : Nat) : Nat → State → State
  | 0, s => s
  | n + 1, s =>
    let st := s.stereo k
    match st.waitingRef with
    | [] => s
    | r :: rest =>
      let all := pairsOf (s.get 0x38000D) (rest.length + 1) st.waitingRef st.waitingPartner
      let best := (all.find? fun x => x.1.seq == r.seq).map (·.2)
      if !s.pairingSure k all r best then s
      else
        match best with
        | some p =>
          let s := s.setStereo k { st with waitingRef := rest, waitingPartner := st.waitingPartner.filter fun q => q.seq != p.seq }
          settlePairs k n (s.pairedFrame k r p)
        | none => settlePairs k n ((s.setStereo k { st with waitingRef := rest }).unpairedFrame k)

/-- Partner frames that no reference frame can pair with any more are let go (R231). -/
def State.dropPartners (s : State) (k : Nat) : State :=
  let st := s.stereo k
  let window := s.get 0x38000D
  let refs := st.waitingRef.map (·.time) ++ s.coming (s.get (pairK k 2))
  let keep := fun (p : Picture) => decide (s.ptp ≤ p.time + window) || refs.any fun t => decide (apart p.time t ≤ window)
  s.setStereo k { st with waitingPartner := st.waitingPartner.filter keep }

/-- Pairing runs on whenever a frame of a port starts, is delivered or is given up (R231). -/
def State.settleFrames (s : State) : State :=
  ([0, 1, 2, 3].filter s.pairOn).foldl (fun s k => (settlePairs k (s.stereo k).waitingRef.length s).dropPartners k) s

/-- A frame that a port delivers comes to the pairs that name the port (R231). -/
def State.offerFrame (s : State) (port : Nat) (pic : Picture) : State :=
  let one (s : State) (k : Nat) : State :=
    let st := s.stereo k
    if s.get (pairK k 2) = port then s.setStereo k { st with waitingRef := st.waitingRef ++ [pic] }
    else if s.get (pairK k 3) = port then s.setStereo k { st with waitingPartner := st.waitingPartner ++ [pic] }
    else s
  ([0, 1, 2, 3].filter s.pairOn).foldl one s

/-! ### The order of service (R229, R232) -/

/-- The in-line frame of a port whose stage-11 output covers a line: the lines received reach the source rows of that output line, and two
below them for the filter (log entry 88); delivered frames cover every line. -/
def State.covers (s : State) (p line : Nat) : Option Nat :=
  match (s.cam p).frame with
  | none => none
  | some f =>
    match f.params with
    | none => none
    | some set =>
      let y := min line (set.outH - 1)
      let reach := (List.range set.outW).foldl (fun (m : Int) x => max m (warpAt set 1 x y)) 0
      if f.pipeline < 4 ∧ min (set.inH : Int) (reach / 4096 + 3) ≤ nth f.seen 0 0 then some f.counter else none

/-- The frame of a port that a pair would search before its delivery: the one coming in, or the one that waits for its partner. -/
def State.earlyFrame (s : State) (p line : Nat) (waiting : List Picture) : Option (Nat × Nat) :=
  match (s.cam p).frame with
  | some f => (s.covers p line).map fun n => (n, f.startTime)
  | none => waiting.getLast?.map fun q => (q.seq, q.time)

/-- The row that a pair may search before both frames are delivered: their counters and the row (R232). -/
def State.earlyRow (s : State) (k : Nat) : Option (Nat × Nat × Nat) :=
  let st := s.stereo k
  let a := s.get (pairK k 2)
  let b := s.get (pairK k 3)
  let rows := match st.early with | some e => e.rows | none => 0
  if st.ref.isSome || ((s.cam a).frame.isNone && (s.cam b).frame.isNone) then none
  else
    match s.earlyFrame a (4 * rows + 5) st.waitingRef, s.earlyFrame b (4 * rows + 5) st.waitingPartner with
    | some (r, tr), some (p, tp) =>
      let same := match st.early with | some e => e.ref == r && e.partner == p | none => true
      if same && decide (apart tr tp ≤ s.get 0x38000D) && decide (rows < s.get (camK a 0 0x15) / 4) then some (r, p, rows) else none
    | _, _ => none

/-- A pair has a block row to search on its engine now. -/
def State.stereoReady (s : State) (k : Nat) : Bool :=
  let st := s.stereo k
  s.pairOn k && ((st.ref.isSome && st.next.isNone) || (s.earlyRow k).isSome)

/-- The engine of a pair's search: that of its issue, or the one the next search is issued on. -/
def State.pairEngine (s : State) (k : Nat) : Nat :=
  let st := s.stereo k
  if st.ref.isSome then st.engine else match st.early with | some e => e.engine | none => s.engineFor k

/-- Stereo work of one engine: a pair whose reference port has role mirror goes first, then the lower number (R229). -/
def State.stereoFirst (s : State) (k : Nat) : Bool :=
  let mirror := fun (q : Nat) => s.roleOf (s.get (pairK q 2)) == 1
  [0, 1, 2, 3].all fun q =>
    q == k || !s.stereoReady q || s.pairEngine q != s.pairEngine k
      || (if mirror q == mirror k then decide (k < q) else mirror k)

/-- The engine has no stereo work, and no earlier request for motion search (R229). -/
def State.motionFirst (s : State) (n : Nat) : Bool :=
  let e := (s.stream n).motionEngine
  [0, 1, 2, 3].all (fun q => !s.stereoReady q || s.pairEngine q != e)
    && (s.media.motionQueue.find? fun q => (s.stream q).motionEngine == e) == some n

/-- One block row of a pair is searched, in order from the top (R232, R235). A result of another epoch than the search's, of a row already
done or of no search is stale (R347); a row of frames still coming in is counted, and its result formed with them. -/
def State.searchStereoRow (s : State) (k row epoch : Nat) : State :=
  let st := s.stereo k
  if !s.usable 5 || !s.pairOn k || s.enginesUp == 0 then s
  else match st.ref, st.partner with
    | some ref, some partner =>
      if epoch ≠ st.placement ∨ row ≠ st.rowsDone then s.staleResult
      else if decide (row < blocksY ref) && st.next.isNone && s.stereoFirst k then s.searchRowOf k ref partner
      else s
    | _, _ =>
      match s.earlyRow k with
      | some (r, p, rows) =>
        let e := st.early.getD { ref := r, partner := p, rows := 0, engine := s.engineFor k, placement := s.placement }
        if epoch ≠ e.placement ∨ row ≠ rows then s.staleResult
        else if s.stereoFirst k then s.setStereo k { st with early := some { e with rows := rows + 1 } }
        else s
      | none => s.staleResult

/-- An incomplete search is abandoned for the newer paired frame (R232). -/
def State.abandonSearch (s : State) (k : Nat) : State :=
  match (s.stereo k).next with
  | some (r, p, _) => (s.countAbandoned k).beginSearch k r p false
  | none => s

/-- A Slalom engine is taken out of use: its jobs are issued again on the other engine from their start (R230, R347). -/
def State.failEngine (s : State) (e : Nat) : State :=
  if !nth s.media.engines e false then s
  else
    let s := { s with media := { s.media with engines := setNth s.media.engines e false } }
    let up := s.enginesUp
    let s := ((s.put 0x380001 (bitmapOf id s.media.engines)).put 0x380004 (12800 * up)).nextPlacement
    let again (s : State) (k : Nat) : State :=
      let st := s.stereo k
      if st.ref.isSome && st.engine == e && decide (0 < up) then s.stereoAgain k (1 - e)
      else match st.early with
        | some x =>
          if x.engine = e ∧ 0 < up then
            (s.setStereo k { st with early := some { x with rows := 0, engine := 1 - e, placement := s.placement } }).bump 0x250009
          else s
        | none => s
    let motion (s : State) (n : Nat) : State :=
      let st := s.stream n
      if st.motionFor.isSome && st.motionEngine == e && decide (0 < up) then s.motionAgain n (1 - e) else s
    let s := s.media.motionQueue.foldl motion ([0, 1, 2, 3].foldl again s)
    s.raiseCore 5 1 e (if up = 0 then .failed else .degraded)

/-! ### Load (R228) -/

/-- The load of a stereo pair in evaluations per second: width ÷ 4 × height ÷ 4 × 45 ÷ period, as a ratio. -/
def stereoLoad (w h periodUs : Nat) : Nat × Nat := (w * h * 45 * 1000000, 16 * max 1 periodUs)

/-- The stereo load of the enabled pairs. -/
def State.stereoTotal (s : State) : Nat × Nat :=
  sumRatios (([0, 1, 2, 3].filter s.pairOn).map fun k =>
    let p := s.get (pairK k 2)
    stereoLoad (s.get (camK p 0 0x14)) (s.get (camK p 0 0x15)) (s.get (camK p 0 8)))

/-- 90 % of the capacity of the engines in service (R228). -/
def State.loadLimit (s : State) : Nat := 11520000000 * s.enginesUp

/-! ### Motion search (R239) -/

/-- The 16 × 16 sum of absolute differences of a vector in quarter samples. -/
def motionSad (cur ref : Picture) (bx by_ : Nat) (mx my : Int) : Nat :=
  ((List.range 256).map fun i =>
    let x : Int := ((16 * bx + i % 16 : Nat) : Int)
    let y : Int := ((16 * by_ + i / 16 : Nat) : Int)
    (edgeLuma cur x y - quarterLuma ref (4 * x + mx) (4 * y + my)).natAbs).foldl (· + ·) 0

/-- The better of two vectors with their costs: lower cost, then smaller |mvx| + |mvy|, then smaller mvy (R239). -/
def betterVector (a b : (Int × Int) × Nat) : Bool :=
  let m := fun (v : Int × Int) => v.1.natAbs + v.2.natAbs
  decide (a.2 < b.2) || (a.2 == b.2 && (decide (m a.1 < m b.1) || (m a.1 == m b.1 && decide (a.1.2 ≤ b.1.2))))

def bestVector (cost : Int × Int → Nat) : List (Int × Int) → Option ((Int × Int) × Nat)
  | [] => none
  | v :: vs =>
    match bestVector cost vs with
    | none => some (v, cost v)
    | some b => if betterVector (v, cost v) b then some (v, cost v) else some b

/-- The vector found for a block position in a list of results. -/
def vectorAt (l : List MotionResult) (bx by_ : Int) : Option (Int × Int) :=
  (l.find? fun r => decide ((r.bx : Int) = bx) && decide ((r.by_ : Int) = by_)).map fun r => (r.mvx, r.mvy)

/-- The mean vector of a picture's results (gate 6). -/
def meanVector (l : List MotionResult) : Option (Int × Int) :=
  if l.isEmpty then none
  else some (looseDiv ((l.map (·.mvx)).foldl (· + ·) 0) l.length, looseDiv ((l.map (·.mvy)).foldl (· + ·) 0) l.length)

/-- The motion gates of a block that are available (R235). -/
def motionGates (now prev : List MotionResult) (bx by_ : Nat) : List (Option (Int × Int)) :=
  let x : Int := bx
  let y : Int := by_
  [vectorAt now (x - 1) y, vectorAt now (x - 1) (y - 1), vectorAt now x (y - 1), vectorAt now (x + 1) (y - 1),
   vectorAt prev x y, vectorAt prev (x + 1) (y + 1), meanVector prev, some (0, 0)]

/-- The result of one block: refined, or at the best gate's position alone (R229, R239). -/
def motionBlock (cur ref : Picture) (lambda : Nat) (now prev : List MotionResult) (refined : Bool) (bx by_ : Nat) : MotionResult :=
  let gates := motionGates now prev bx by_
  let g := fun (i : Nat) => ((nth gates i none).getD (0, 0))
  let px := median3 (g 0).1 (g 2).1 (g 3).1
  let py := median3 (g 0).2 (g 2).2 (g 3).2
  let cost := fun (v : Int × Int) =>
    motionSad cur ref bx by_ v.1 v.2 + lambda * ((v.1 - px).natAbs + (v.2 - py).natAbs) / 16
  let snap := fun (v : Int × Int) => ((v.1 + 2) / 4 * 4, (v.2 + 2) / 4 * 4)
  let start := ((bestVector cost ((gates.filterMap id).map snap)).getD ((0, 0), 0))
  let ring := fun (c : Int × Int) (step : Int) => ([-1, 0, 1] : List Int).flatMap fun j => ([-1, 0, 1] : List Int).map fun i => (c.1 + i * step, c.2 + j * step)
  let out := if !refined then start
    else
      let whole := (List.range 33).flatMap fun j => (List.range 33).map fun i =>
        (start.1.1 + 4 * ((i : Int) - 16), start.1.2 + 4 * ((j : Int) - 16))
      let a := (bestVector cost whole).getD start
      let b := (bestVector cost (ring a.1 2)).getD a
      (bestVector cost (ring b.1 1)).getD b
  { bx, by_, mvx := out.1.1, mvy := out.1.2, cost := out.2, refined }

/-- Blocks of 16 × 16 across and down a picture, in raster order. -/
def motionBlocks (pic : Picture) : List (Nat × Nat) :=
  let cols := (pic.width + 15) / 16
  (List.range (cols * ((pic.height + 15) / 16))).map fun i => (i % cols, i / cols)

/-- One block of a stream's motion search, in raster order (R229, R239); a result of another epoch than the search's, of a block already
done or of no search is stale (R347). -/
def State.searchMotion (s : State) (n bx by_ epoch : Nat) : State :=
  let st := s.stream n
  match s.nextSource n, st.reference with
  | some (cur, _), some ref =>
    if !s.usable 5 || s.enginesUp == 0 then s
    else if st.motionFor ≠ some (cur.seq, ref.seq) ∨ epoch ≠ st.motionPlacement ∨ (motionBlocks cur)[st.motion.length]? ≠ some (bx, by_) then
      s.staleResult
    else if s.motionFirst n then
      let r := motionBlock cur ref (s.get 0x380009) st.motion st.motionPrev true bx by_
      let s := s.setStream n { st with motion := st.motion ++ [r] }
      if st.motion.length + 1 = (motionBlocks cur).length then
        { s with media := { s.media with motionQueue := s.media.motionQueue.filter (· != n) } }
      else s
    else s
  | _, _ => if s.usable 5 ∧ 0 < s.enginesUp then s.staleResult else s

/-! ### The commands' meanings -/

/-- STEREO_ROW_SEARCH (R235): pairs are 0 to 3. -/
def execStereoRowSearch (t : Nat) (job : JobResult) (row : Nat) (s : State) : Host.Outcome State Fault Refusal :=
  actIf (job.item < 4) t s fun s => s.searchStereoRow job.item row job.epoch

/-- STEREO_FRAME_ABANDON (R232). -/
def execStereoFrameAbandon (t pair : Nat) (s : State) : Host.Outcome State Fault Refusal :=
  actIf (pair < 4) t s fun s => s.abandonSearch pair

/-- SLALOM_ENGINE_FAIL (R230): engines are 0 and 1. -/
def execSlalomEngineFail (t engine : Nat) (s : State) : Host.Outcome State Fault Refusal :=
  actIf (engine < 2) t s fun s => s.failEngine engine

/-- MOTION_SEARCH (R239): a block of the motion search that a stream has requested; streams are 0 to 23. -/
def execMotionSearch (t : Nat) (job : JobResult) (blockX blockY : Nat) (s : State) : Host.Outcome State Fault Refusal :=
  actIf (job.item < 24) t s fun s => s.searchMotion job.item blockX blockY job.epoch

end Sys2Proof.Machine
end

