-- ==== Sys2Proof/Machine/Camera.lean ====
section
/-!
DEFINITION. Sys2Proof/Machine/Camera.lean: the camera ports: frames and their shape (R200 to R204), the set in force (R207),
in-line and through-memory processing (R208, R210, R211), exposure sets (R212 to R214), statistics (R215), the CCI masters
(R216 to R218) and triggers (R219).
-/

namespace Sys2Proof.Machine

/-! ### Port objects as numbers -/

def State.inWidth (s : State) (p : Nat) : Nat := s.get (camK p 0 6)
def State.inHeight (s : State) (p : Nat) : Nat := s.get (camK p 0 7)
/-- Frame period in nanoseconds. -/
def State.period (s : State) (p : Nat) : Nat := s.get (camK p 0 8) * 1000

/-- Virtual channel and data type of exposure `e` (0 to 2) or of embedded data (3) (0x3n00.05). -/
def State.selected (s : State) (p e : Nat) : Nat × Nat := (byteAt (s.dom (camK p 0 5)) (2 * e), byteAt (s.dom (camK p 0 5)) (2 * e + 1))

/-- An entry of Stream Select that selects nothing. -/
def noStream (v : Nat × Nat) : Bool := v.1 == 0xFF || v.2 == 0xFF

/-- The exposure streams that Stream Select selects (R209). -/
def State.exposures (s : State) (p : Nat) : Nat := ([0, 1, 2].filter fun e => !noStream (s.selected p e)).length

/-- The data types of R198 with image data. -/
def imageTypes : List Nat := [0x2B, 0x2C, 0x2D, 0x2E, 0x2F, 0x1E]

/-- The load of an enabled port in pixels per second, as a ratio (R209). -/
def State.pixelRate (s : State) (p : Nat) : Nat × Nat :=
  (s.inWidth p * s.inHeight p * s.exposures p * 1000000, max 1 (s.get (camK p 0 8)))

/-- One of the frame error counts of 0x3n40.05, counted up. -/
def State.camError (s : State) (p i : Nat) (n : Nat := 1) : State :=
  let c := s.cam p
  s.setCam p { c with errors := setNth c.errors i ((nth c.errors i 0 + n) % 2 ^ 32) }

/-- One of the packet error counts of 0x3n40.06, counted up. -/
def State.camPacket (s : State) (p i : Nat) : State :=
  let c := s.cam p
  s.setCam p { c with packets := setNth c.packets i ((nth c.packets i 0 + 1) % 2 ^ 32) }

/-! ### The set in force (R207) -/

/-- The identity warp grid of an output size (0x3n10.0E). -/
def identityWarp (w h : Nat) : Bytes := (identityNodes w h).flatMap (leBytes 4)

/-- A port's warp grid: the one written, or the identity while none of its output size is (R223). -/
def State.warpGrid (s : State) (p : Nat) : Bytes :=
  let w := s.get (camK p 0 0x14)
  let h := s.get (camK p 0 0x15)
  let b := s.dom (camK p 0x10 0x0E)
  if b.length = 8 * (((w + 31) / 32 + 1) * ((h + 31) / 32 + 1)) then b else identityWarp w h

/-- The pipeline parameters in force for a port, with the ratios of an exposure set (R205, R207). -/
def State.ispSet (s : State) (p : Nat) (ratios : Nat × Nat) : IspSet :=
  let d := fun (sub : Nat) => s.dom (camK p 0x10 sub)
  let r := fun (sub : Nat) => s.get (camK p 0x10 sub)
  { cfa := r 1, black := wordsOf 4 4 (d 2), lin := wordsOf 4 257 (d 3), merge := r 4, mergeThreshold := r 5
    decompand := wordsOf 4 257 (d 6), defectThreshold := r 7
    defects := (List.range ((d 8).length / 4)).map fun i => (fieldLE (d 8) (4 * i) 2, fieldLE (d 8) (4 * i + 2) 2)
    shading := wordsOf 2 4356 (d 9), white := wordsOf 2 3 (d 0x0A)
    matrix := (wordsOf 2 9 (d 0x0B)).map (signed 16), offsets := (wordsOf 4 3 ((d 0x0B).drop 18)).map (signed 32)
    toneCurve := wordsOf 2 257 (d 0x0C), toneStrength := r 0x0D
    warp := (wordsOf 4 ((s.warpGrid p).length / 4) (s.warpGrid p)).map (signed 32)
    outW := s.get (camK p 0 0x14), outH := s.get (camK p 0 0x15), inW := s.inWidth p, inH := s.inHeight p, ratios }

/-- 0x3n10.11: the CRC-32C over .01 to .0E in force, in order of subindex. -/
def State.ispCrc (s : State) (p : Nat) : Nat :=
  let d := fun (sub : Nat) => s.dom (camK p 0x10 sub)
  let r := fun (n sub : Nat) => leBytes n (s.get (camK p 0x10 sub))
  crc32c (r 1 1 ++ d 2 ++ d 3 ++ r 1 4 ++ r 4 5 ++ d 6 ++ r 4 7 ++ d 8 ++ d 9 ++ d 0x0A ++ d 0x0B ++ d 0x0C ++ r 1 0x0D ++ s.warpGrid p)

/-- The rig values in force for every pair, whether it is enabled yet or not (R242). -/
def State.rigs (s : State) : List Int :=
  [0, 1, 2, 3].flatMap fun k => [(s.get (pairK k 5) : Int), (s.get (pairK k 6) : Int), s.geti 16 (pairK k 7), s.geti 16 (pairK k 8),
    (s.get (pairK k 9) : Int), (s.get (pairK k 0x0A) : Int)]

/-- The keys that a port's Frame Start puts in force: its pipeline objects and exposure set, and the rig objects of a pair
whose reference it is (R207, R212, R242). -/
def State.shadowKey (s : State) (p k : Nat) : Bool :=
  k / 256 == 0x3010 + 0x100 * p || k == camK p 0x20 1
    || [0, 1, 2, 3].any fun q => k / 256 == 0x3810 + q && s.get (pairK q 2) == p

/-- The shadow commit of a port: a merge mode of more exposures than are selected is refused and dropped (0x3n10.04). -/
def State.shadowCommit (s : State) (p : Nat) : State :=
  let k := camK p 0x10 4
  let bad := match lookup k s.pendR with
    | some v => (v == 1 && decide (s.exposures p < 2)) || (v == 2 && decide (s.exposures p < 3))
    | none => false
  let s := if bad then { s with pendR := eraseKey k s.pendR } else s
  s.applyPending (s.shadowKey p)

/-! ### CCI masters (R213, R216 to R218) -/

def State.master (s : State) (m : Nat) : CciMaster := nth s.media.masters m {}
def State.setMaster (s : State) (m : Nat) (c : CciMaster) : State := { s with media := { s.media with masters := setNth s.media.masters m c } }

/-- The time a transaction takes at a master's speed, ns: start, address, register, data and stop bits. -/
def State.cciTime (s : State) (m : Nat) (j : CciJob) : Nat :=
  let bits := if j.read then 2 + 9 + 9 * j.addressBytes + 1 + 9 + 9 * j.length else 2 + 9 + 9 * j.addressBytes + 9 * j.length
  bits * 1000000 / s.get (camK m 0x30 4)

/-- The value an entry of the exposure register map writes, from the set latched (R213). -/
def entryValue (set entry : Bytes) : Nat :=
  match byteAt entry 3 with
  | 0 => fieldLE entry 4 2
  | 1 => fieldLE set 2 2
  | 2 => fieldLE set 4 2
  | 3 => fieldLE set 6 2
  | 4 => fieldLE set 8 2
  | _ => fieldLE set 10 2

/-- An exposure set is late: counted once, the exposure is uncertain, cause 0x04 is raised (R214). -/
def State.lateSet (s : State) (p setId frame : Nat) : State :=
  let c := s.cam p
  let c := { c with latched := c.latched.map fun (l : LatchedSet) => if l.id = setId ∧ l.fromFrame = frame then { l with uncertain := true } else l }
  ((s.setCam p c).bump (camK p 0x20 5)).raise 4 4 p

/-- The first job of a port's exposure writes is marked late, once. -/
def State.lateJob (s : State) (p : Nat) : State :=
  match (s.cam p).jobs with
  | [] => s
  | j :: rest => if j.late then s else (s.setCam p { s.cam p with jobs := { j with late := true } :: rest }).lateSet p j.setId j.frame

/-- Ports that name a master. -/
def State.portsOn (s : State) (m : Nat) : List Nat := (List.range 8).filter fun p => s.get (camK p 0 0x0A) == m

/-- The exposure entry to be written next on a master: the port with the earliest deadline. -/
def State.nextExposure (s : State) (m : Nat) : Option (Nat × ExposureJob) :=
  (s.portsOn m).foldl (fun best p =>
    match (s.cam p).jobs, best with
    | [], b => b
    | j :: _, none => some (p, j)
    | j :: _, some b => if j.deadline < b.2.deadline then some (p, j) else some b) none

/-- A host transaction may start: it completes before the earliest expected Frame Start whose exposure writes are due
(R217); a port that is lost expects none (R204). -/
def State.hostMayStart (s : State) (m : Nat) (j : CciJob) : Bool :=
  (s.portsOn m).all fun p =>
    !(s.camOn p && s.get (camK p 0 0x11) != 3 && (lookup (camK p 0x20 1) s.pendD).isSome)
      || decide (s.now + s.cciTime m j ≤ (s.cam p).lastSeenLocal + s.period p)

/-- A master that is idle and not stuck starts its next transaction: exposure writes before host transactions (R217); a standby performs
none (R395). -/
def State.cciRun (s : State) (m : Nat) : State :=
  let c := s.master m
  if c.stuck || c.running.isSome || !s.usable 4 || s.standby then s
  else match s.nextExposure m with
    | some (p, j) =>
      match j.left with
      | [] => s
      | e :: _ =>
        let n := byteAt e 2
        let data := beBytes n (entryValue j.set e)
        let job : CciJob := { port := p, exposure := true, read := false, device := s.get (camK p 0 0x0B), addressBytes := 2,
                              address := fieldLE e 0 2, length := n, data := data }
        (s.setMaster m { c with running := some job }).send (.cci m job.device (beBytes 2 job.address ++ data))
    | none =>
      match c.queue with
      | [] => s
      | j :: rest =>
        if s.hostMayStart m j then
          (s.setMaster m { c with running := some j, queue := rest }).send (.cci m j.device (beBytes j.addressBytes j.address ++ j.data))
        else s

/-- Every master goes on with what waits for it, once a bar to it may have gone (R217, R395). -/
def State.cciAll (s : State) : State := (List.range 4).foldl State.cciRun s

/-- A master's running transaction completes (R213, R217). -/
def State.cciComplete (s : State) (m : Nat) (acked : Bool) (data : Bytes) : State :=
  let c := s.master m
  match c.running with
  | none => s
  | some j =>
    let s := s.setMaster m { c with running := none }
    if !j.exposure then
      let s := s.put (camK j.port 0x30 3) (if acked then 2 else 3)
      let s := if acked && j.read then s.putDom (camK j.port 0x30 2) (data.take j.length) else s
      s.cciRun m
    else
      match (s.cam j.port).jobs with
      | [] => s.cciRun m
      | x :: rest =>
        if !acked && !x.retried then (s.setCam j.port { s.cam j.port with jobs := { x with retried := true } :: rest }).cciRun m
        else
          -- a second NAK, or completion after the deadline, makes the set late
          let s := if !acked || decide (x.deadline < s.now) then s.lateJob j.port else s
          let x := ((s.cam j.port).jobs.headD x)
          let x := { x with left := x.left.drop 1, retried := false }
          (s.setCam j.port { s.cam j.port with jobs := if x.left.isEmpty then rest else x :: rest }).cciRun m

/-- A stuck bus: the transaction is aborted with status 0x04, and the master drives nine clocks and a stop (R218). -/
def State.cciStuck (s : State) (m : Nat) : State :=
  let c := s.master m
  if !s.usable 4 then s
  else
    let s := s.setMaster m { c with running := none, stuck := true }
    let s := match c.running with
      | none => s
      | some j =>
        if !j.exposure then s.put (camK j.port 0x30 3) 4
        else
          let s := s.lateJob j.port
          match (s.cam j.port).jobs with
          | [] => s
          | x :: rest =>
            let left := x.left.drop 1
            s.setCam j.port { s.cam j.port with jobs := if left.isEmpty then rest else { x with left } :: rest }
    (s.send (.cci m 0xFF [])).onset 4 5 m

/-- The repeated recovery of a stuck bus (R218); the masters are stopped in Sleep and Off (R27). -/
def State.cciRecover (s : State) (m : Nat) (busFree : Bool) : State :=
  let c := s.master m
  if !c.stuck || !s.served then s
  else
    let s := s.send (.cci m 0xFF [])
    if busFree then ((s.setMaster m { c with stuck := false }).settle 4 5 m).cciRun m else s

/-- A deadline passes with writes of the set still to be made (R213, R214). -/
def State.cciDeadline (s : State) (p : Nat) : State :=
  match (s.cam p).jobs with
  | [] => s
  | j :: _ => if j.deadline ≤ s.now then s.lateJob p else s

/-- The checks on a host transaction's bytes (R217). -/
def cciOk (d : Bytes) : Bool :=
  (byteAt d 0 == 1 || byteAt d 0 == 2) && decide (byteAt d 1 < 0x80) && (byteAt d 2 == 1 || byteAt d 2 == 2)
    && decide (1 ≤ byteAt d 5) && decide (byteAt d 5 ≤ 64)
    && d.length == (if byteAt d 0 == 1 then 6 + byteAt d 5 else 6)

/-- A host transaction is queued on the port's master; on a standby it is not performed (R217, R395). -/
def State.cciHost (s : State) (p : Nat) (d : Bytes) : State :=
  if s.standby then s
  else
    let m := s.get (camK p 0 0x0A)
    let w := byteAt d 2
    let addr := fieldLE d 3 2
    let j : CciJob :=
      { port := p, exposure := false, read := byteAt d 0 == 2
        device := if byteAt d 1 = 0 then s.get (camK p 0 0x0B) else byteAt d 1
        addressBytes := w, address := addr, length := byteAt d 5, data := d.drop 6 }
    let c := s.master m
    ((s.put (camK p 0x30 3) 1).setMaster m { c with queue := c.queue ++ [j] }).cciRun m

/-! ### Statistics and processing (R205, R210, R215) -/

/-- A frame's flags word for its block (R215), the exposure-uncertain flag included where its set's writes were late. -/
def State.frameFlags (s : State) (p : Nat) (f : CamFrame) : Nat :=
  let unsure := (s.cam p).latched.any fun l => l.uncertain && l.first == some f.counter && l.id == f.setId
  f.flags ||| (if unsure then 32 else 0)

/-- A statistics block (R215). -/
def statsBytes (f : CamFrame) (flags lines : Nat) (content : Bytes) : Bytes :=
  leBytes 4 f.counter ++ leBytes 2 f.setId ++ leBytes 2 flags ++ leBytes 8 f.startTime ++ leBytes 8 f.endTime
    ++ leBytes 4 f.trigger ++ leBytes 2 lines ++ leBytes 2 f.replaced ++ content

/-- A frame's block becomes the latest, its configuration CRC beside it (R207), and the active member carries the block to its partner
(R215, R385). -/
def State.postStats (s : State) (p : Nat) (f : CamFrame) (block : Bytes) : State :=
  let s := ((s.setCam p { s.cam p with statsCrc := f.ispCrc }).putDom (camK p 0x40 1) block).putDom (camK p 0x40 2) f.embedded
  if s.pair.role == 1 then s.twinSend 6 p block else s

/-- Line `l` of an exposure as received, else the nearest received line of its phase above, else the nearest below (R201). -/
def lineFor (rows : List (Nat × Nat × Option (List Nat))) (e l h : Nat) : List Nat :=
  let got := fun (n : Nat) => (rows.find? fun r => r.1 == e && r.2.1 == n && r.2.2.isSome).bind (·.2.2)
  let above := (List.range (l / 2)).map fun i => l - 2 * (i + 1)
  let below := (List.range (h - l)).map fun i => l + i + 1
  ((l :: above ++ below).findSome? got).getD []

/-- An exposure's received lines as a plane of u20 samples; a frame through memory stands there as 16-bit samples (R208). -/
def State.exposurePlane (s : State) (p e : Nat) (f : CamFrame) : Plane :=
  let h := min (s.inHeight p) (nth f.seen e 0)
  let shift := if f.yuv then 0 else rawShift (s.selected p e).2
  let stored := fun (v : Nat) => if f.yuv then v else if f.pipeline = 0x10 then v * 2 ^ shift / 16 * 16 else v * 2 ^ shift
  (List.range h).map fun l => (lineFor f.rows e l h).map stored

/-- A frame has no flag that bars its delivery: short, damaged or dropped (R203). -/
def delivered (flags : Nat) : Bool := !bitOf flags 0 && !bitOf flags 4 && !bitOf flags 9

/-- A frame goes through its pipeline: its statistics block, and its picture where it is delivered (R205, R215). -/
def State.processFrame (s : State) (p : Nat) (f : CamFrame) : State :=
  let flags := s.frameFlags p f
  let set := f.params.getD (s.ispSet p f.ratios)
  let planes := (List.range 3).filterMap fun e => if noStream (s.selected p e) then none else some (e, s.exposurePlane p e f)
  let first := (planes.headD (0, [])).2
  let dev := if f.yuv then { mosaic := [], tones := [] } else develop set planes
  let out := if f.yuv then outputYuv set first else outputStage set dev.tones
  let luma := if f.yuv then yuvLuma set.inW first else lumaPlane 64 set.inW first.length dev.tones
  let lines := min (s.inHeight p) (nth f.seen 0 0)
  let s := s.postStats p f (statsBytes f flags lines (histogram luma ++ zones set dev.mosaic planes))
  if !delivered flags then s.settleFrames
  else
    let pic : Picture :=
      { seq := f.counter, time := f.startTime, endTime := f.endTime, width := set.outW, height := set.outH
        rgb := throughColour (s.get 0x3C0002) set.outW set.outH (out.texels set.outW set.outH), luma := out.y.flatten
        chroma := out.cb.flatten ++ out.cr.flatten, flags := flags, context := f.setId, rig := f.rig }
    let c := s.cam p
    let s := (s.setCam p { c with pictures := keepPictures s.ptp (c.pictures ++ [pic]) }).offerFrame p pic
    s.settleFrames.requestMotions p

/-- Pipelines in service. -/
def State.pipesUp (s : State) : Nat := (s.media.pipelines.filter id).length

/-- A frame waiting in the raw buffers is before another: one that is issued again, then by role, then by frame-end time (R210, R347). -/
def State.rawFirst (s : State) : Option Nat :=
  ((List.range 8).filter fun p => !(s.cam p).processing && !(s.cam p).raw.isEmpty).foldl (fun best p =>
    let endOf := fun (q : Nat) => ((s.cam q).raw.head?.map (·.endTime)).getD 0
    let again := fun (q : Nat) => ((s.cam q).raw.head?.map (·.reissued)).getD false
    match best with
    | none => some p
    | some b =>
      let before := if again p == again b then decide (s.roleOf p < s.roleOf b ∨ (s.roleOf p = s.roleOf b ∧ endOf p < endOf b)) else again p
      if before then some p else some b) none

/-- A pipeline in service has no through-memory frame in hand. -/
def State.workerFree (s : State) (n : Nat) : Bool :=
  nth s.media.pipelines n false && (List.range 8).all fun p => !((s.cam p).processing && ((s.cam p).raw.headD { counter := 0, startTime := 0 }).worker == n)

/-- Pipelines with spare time take waiting frames, one each, under the present placement epoch (R208, R210, R347). -/
def startProcessing : Nat → State → State
  | 0, s => s
  | n + 1, s =>
    match (List.range 4).find? s.workerFree, s.rawFirst with
    | some w, some p =>
      let c := s.cam p
      match c.raw with
      | f :: rest =>
        let s := if f.reissued then s.bump 0x250009 else s
        startProcessing n (s.setCam p { c with raw := { f with worker := w, placement := s.placement, reissued := false } :: rest, processing := true })
      | [] => s
    | _, _ => s

/-- The through-memory frames that a pipeline has in hand are to be issued again at the next free slot of another (R347). -/
def State.reissueRaw (s : State) (n : Nat) : State :=
  let one (s : State) (p : Nat) : State :=
    let c := s.cam p
    match c.raw with
    | f :: rest => if c.processing && f.worker == n then s.setCam p { c with raw := { f with reissued := true } :: rest, processing := false } else s
    | [] => s
  (List.range 8).foldl one s

/-- A through-memory frame ends into a raw buffer; the older waiting frame is dropped where both are taken (R210). -/
def State.pushRaw (s : State) (p : Nat) (f : CamFrame) : State :=
  let c := s.cam p
  let s :=
    if c.raw.length < 2 then s.setCam p { c with raw := c.raw ++ [f] }
    else
      let i := if c.processing || ((c.raw.head?.map (·.reissued)).getD false) then 1 else 0
      match c.raw[i]? with
      | none => s
      | some g =>
        let kept := c.raw.take i ++ c.raw.drop (i + 1)
        let s := (s.setCam p { c with raw := kept ++ [f] }).camError p 8
        s.postStats p g (statsBytes g (s.frameFlags p g ||| 512) (min (s.inHeight p) (nth g.seen 0 0)) (List.replicate 3072 0))
  startProcessing 8 s.settleFrames

/-- A port's frame ends (R203): by its Frame End or the next Frame Start (0), at the timeout (1), or at a line beyond its
height (2). -/
def State.endFrame (s : State) (p how : Nat) : State :=
  let c := s.cam p
  match c.frame with
  | none => s
  | some f =>
    let short := how == 1 || decide (nth f.seen 0 0 < s.inHeight p)
    let long := how == 2
    let damaged := decide (s.get (camK p 0 0x10) < f.replaced) || f.pipelineFailed
    let flags := f.flags ||| (if short && !long then 1 else 0) ||| (if long then 2 else 0) ||| (if damaged then 16 else 0)
    let f := { f with flags := flags, endTime := if long then f.endTime else s.ptp }
    let tooMany := decide (s.get (camK p 0 0x10) < f.replaced)
    let run := if tooMany then c.replacedRun + 1 else 0
    let s := s.setCam p { c with frame := none, replacedRun := run }
    let s := if short && !long then s.camError p 0 else s
    let s := if long then s.camError p 1 else s
    let s := if damaged then s.camError p 6 else s
    let s := if run = 10 then s.raise 4 1 p else s
    if f.pipeline = 0x10 then s.pushRaw p f else s.processFrame p f

/-! ### Lines (R200, R201, R203) -/

/-- A line completed or cut to the input width (R203): what it becomes, and whether it was narrow or wide. -/
def fitLine (w : Nat) (yuv : Bool) (cfa : Nat) (l : List Nat) : List Nat × Bool × Bool :=
  let n := if yuv then 2 * w else w
  if n < l.length then (l.take n, false, true)
  else if l.length < n then
    let phase := if yuv then 4 else if cfa = 4 then 1 else 2
    let fill := (List.range (n - l.length)).map fun i =>
      let x := l.length + i
      -- the last pixel of the same colour-filter phase that was received
      let back := (List.range l.length).reverse.find? fun j => j % phase == x % phase
      match back with
      | some j => (l[j]?).getD 0
      | none => l.getLast?.getD 0
    (l ++ fill, true, false)
  else (l, false, false)

/-- A line of exposure `e` enters the frame; `none` is a line lost (R201). -/
def State.addLine (s : State) (p e : Nat) (samples : Option (List Nat)) : State :=
  let c := s.cam p
  match c.frame with
  | none => s.camError p 5
  | some f =>
    let line := nth f.seen e 0
    if s.inHeight p ≤ line then
      -- a line beyond the height; one of exposure 0 ends the frame as long
      let s := s.camError p 5
      if e = 0 then s.endFrame p 2 else s
    else
      let cfa := match f.params with | some q => q.cfa | none => 0
      let fit := samples.map (fitLine (s.inWidth p) f.yuv cfa)
      let narrow := match fit with | some (_, n, _) => n | none => false
      let wide := match fit with | some (_, _, w) => w | none => false
      let seen := setNth f.seen e (line + 1)
      let others := [0, 1, 2].filter fun q => q != e && !noStream (s.selected p q) && (s.selected p q).1 != (s.selected p e).1
      let apart := others.foldl (fun m q => max m ((nth seen q 0 : Int) - nth seen e 0).natAbs) c.apart
      let f := { f with
        rows := f.rows ++ [(e, line, fit.map (·.1))], seen := seen
        replaced := f.replaced + (if samples.isNone then 1 else 0)
        flags := f.flags ||| (if narrow then 4 else 0) ||| (if wide then 8 else 0)
        endTime := if e = 0 then s.ptp else f.endTime }
      let s := s.setCam p { c with frame := some f, apart := apart }
      let s := if narrow then s.camError p 2 else s
      let s := if wide then s.camError p 3 else s
      if samples.isNone then s.camError p 4 else s

/-- A line packet arrives at a port (R199 to R201): ECC 0 good, 1 corrected, 2 uncorrectable; 3 a start-of-transmission error, of which
nothing is received but the error itself (R225). -/
def State.receiveLine (s : State) (p channel dataType ecc : Nat) (crcOk : Bool) (samples : List Nat) : State :=
  if !s.camOn p || !s.usable 4 then s
  else if ecc = 3 then s.camPacket p 0
  else
    let s := if ecc = 1 then s.camPacket p 1 else if ecc = 2 then s.camPacket p 2 else s
    let s := if ecc < 2 && !crcOk then s.camPacket p 3 else s
    match [0, 1, 2].find? fun e => imageTypes.contains dataType && s.selected p e == (channel, dataType) with
    | some e => s.addLine p e (if ecc < 2 ∧ crcOk ∧ !samples.isEmpty then some samples else none)
    | none =>
      if dataType = 0x12 ∧ s.selected p 3 = (channel, dataType) then
        if ecc < 2 && crcOk then
          let c := s.cam p
          match c.frame with
          | none => s
          | some f => s.setCam p { c with frame := some { f with embedded := (f.embedded ++ samples.map (BitVec.ofNat 8)).take 4096 } }
        else s
      else if ecc = 2 then s else s.camError p 9

/-! ### Placement (R208, R211) -/

/-- The reach of a warp grid, in lines: the most by which a node's source row lies from its output row (R208). -/
def State.warpReach (s : State) (p : Nat) : Nat :=
  let g := s.warpGrid p
  let cols := (s.get (camK p 0 0x14) + 31) / 32 + 1
  (List.range (g.length / 8)).foldl (fun m i =>
    max m ((signed 32 (fieldLE g (8 * i + 4) 4) - (i / cols * 32 * 4096 : Nat)).natAbs)) 0

/-- A camera is eligible for in-line processing (R208). -/
def State.eligible (s : State) (p : Nat) : Bool :=
  ratioLe (s.pixelRate p) 1200000000 && decide (s.warpReach p ≤ 96 * 4096) && decide ((s.cam p).apart ≤ 64)

/-- A port goes before another for an in-line pipeline: by role, then by number. -/
def State.beforeInLine (s : State) (q p : Nat) : Bool :=
  s.camOn q && s.eligible q && (decide (s.roleOf q < s.roleOf p) || (s.roleOf q == s.roleOf p && decide (q < p)))

/-- The pipeline granted to a port at its Frame Start: its own, or the lowest one free; 0x10 through memory (R208). One is taken while
it carries a frame in-line, and between frames by a port that goes before this one. -/
def State.grantPipeline (s : State) (p : Nat) : Nat :=
  let ahead := ((List.range 8).filter fun q => s.beforeInLine q p).length
  if s.eligible p && decide (ahead < s.pipesUp) then
    let own := s.get (camK p 0 0x12)
    let taken := fun (n : Nat) => (List.range 8).any fun q =>
      q != p && s.camOn q && s.get (camK q 0 0x12) == n && ((s.cam q).frame.isSome || s.beforeInLine q p)
    if own < 4 && nth s.media.pipelines own false && !taken own then own
    else ((List.range 4).find? fun n => nth s.media.pipelines n false && !taken n).getD 0x10
  else 0x10

/-! ### Frame Start (R202, R207, R212, R219) -/

/-- How far a Frame Start advances the frame counter (R202). -/
def State.frameAdvance (s : State) (p number : Nat) : Nat :=
  let c := s.cam p
  if !c.started then 1
  else if number ≠ 0 then (number + 65536 - c.lastNumber % 65536) % 65536
  else
    let interval := s.ptp - c.lastStart
    max 1 ((2 * interval + s.period p) / (2 * s.period p))

/-- A pipeline granted to a port is no longer another's, which is placed anew at its own next Frame Start (R208, R347). -/
def State.leavePipeline (s : State) (p n : Nat) : State :=
  let others := (List.range 8).filter fun q => q != p && s.get (camK q 0 0x12) == n
  if n < 4 ∧ others ≠ [] then (others.foldl (fun s q => s.put (camK q 0 0x12) 0xFF) s).nextPlacement else s

/-- The latched exposure set in force at a frame: the last one whose first frame has come (R214). -/
def State.setInForce (s : State) (p counter : Nat) : Option LatchedSet :=
  ((s.cam p).latched.filter fun l => decide ((counter + 2 ^ 32 - l.fromFrame) % 2 ^ 32 < 2 ^ 31)).getLast?

/-- The exposure set of a frame: the one in force (R214), or on a standby the identifier of the active's block nearest in frame-start
time (R395). -/
def State.setFor (s : State) (p counter : Nat) : Nat × (Nat × Nat) :=
  let c := s.cam p
  if s.standby then
    let gap := fun (a : Nat × Nat) => ((a.1 : Int) - s.ptp).natAbs
    match c.partnerTags.foldl (fun (b : Option (Nat × Nat)) a =>
      match b with | none => some a | some x => if gap a < gap x then some a else some x) none with
    | some a => (a.2, ((c.latched.find? fun l => l.id == a.2).map (·.ratios)).getD (256, 256))
    | none => (0, (256, 256))
  else match s.setInForce p counter with
    | some l => (l.id, l.ratios)
    | none => (0, (256, 256))

/-- The latest written exposure set is latched at frame `counter`, and its writes begin (R212 to R214). -/
def State.latchSet (s : State) (p counter : Nat) : State :=
  let set := s.dom (camK p 0x20 1)
  let id := fieldLE set 0 2
  let k := s.get (camK p 0 9)
  let l : LatchedSet := { id, fromFrame := (counter + k) % 2 ^ 32, ratios := (fieldLE set 12 2, fieldLE set 14 2) }
  let c := s.cam p
  let map := s.dom (camK p 0x20 2)
  let j : ExposureJob :=
    { setId := id, set := set, frame := l.fromFrame, deadline := s.now + s.get (camK p 0x20 3) * 1000
      left := (List.range (map.length / 6)).map fun i => (map.drop (6 * i)).take 6 }
  let c := { c with latched := c.latched.drop (c.latched.length - 7) ++ [l] }
  let write := s.acting && !j.left.isEmpty
  (s.setCam p (if write then { c with jobs := c.jobs ++ [j] } else c)).cciRun (s.get (camK p 0 0x0A))

/-- A trigger output's latest edge as the frame sees it: offset as 32 bits, none where that edge is not after the previous Frame Start, and
whether the frame slipped, that edge lying outside the window (R219). -/
def State.triggerOf (s : State) (p : Nat) (started : Bool) (lastStart : Nat) : Nat × Bool :=
  let o := s.get (camK p 0 0x0C)
  match (if o < 8 then nth s.media.triggers o none else none) with
  | none => (0x80000000, false)
  | some edge =>
    let off : Int := (s.ptp : Int) - edge
    (if started && decide (edge ≤ lastStart) then 0x80000000 else unsigned 32 off,
      decide (off < s.get (camK p 0 0x0D)) || decide ((s.get (camK p 0 0x0E) : Int) < off))

/-- An accepted Frame Start (R202). -/
def State.startFrame (s : State) (p number : Nat) : State :=
  if !s.camOn p || !s.usable 4 then s
  else
    -- a Frame Start before the Frame End ends the earlier frame
    let s := s.endFrame p 0
    let c := s.cam p
    let adv := s.frameAdvance p number
    let counter := (s.get (camK p 0 0x13) + adv) % 2 ^ 32
    let missing := if c.started then adv - 1 else 0
    let s := s.put (camK p 0 0x13) counter
    let s := if 0 < missing then s.camError p 7 missing else s
    let latch := (lookup (camK p 0x20 1) s.pendD).isSome
    let s := s.shadowCommit p
    let s := if latch then s.latchSet p counter else s
    let (id, ratios) := s.setFor p counter
    let c := s.cam p
    let now := s.setInForce p counter
    let c := { c with latched := c.latched.map fun (l : LatchedSet) => if some l = now ∧ l.first = none then { l with first := some counter } else l }
    let s := (s.setCam p c).put (camK p 0x20 4) id
    let (offset, slip) := s.triggerOf p c.started c.lastStart
    let s := if slip then s.camError p 10 else s
    let s := if slip && s.roleOf p == 2 then s.raise 4 9 p else s
    let was := s.get (camK p 0 0x12)
    let pipe := s.grantPipeline p
    -- a pipeline reassigned (R347)
    let s := if was ≠ 0xFF ∧ was ≠ pipe then s.nextPlacement.reissueRaw was else s
    let s := s.leavePipeline p pipe
    let s := (s.put (camK p 0 0x12) pipe).follow (s.roleOf p == 1 && pipe == 0x10) 4 7 p
    let f : CamFrame :=
      { counter, setId := id, ratios, startTime := s.ptp, trigger := offset, pipeline := pipe
        flags := (if slip then 64 else 0) ||| (if 0 < missing then 128 else 0) ||| (if pipe = 0x10 then 256 else 0)
        yuv := (s.selected p 0).2 == 0x1E, params := some (s.ispSet p ratios), ispCrc := s.ispCrc p, rig := s.rigs, frameStartLocal := s.now }
    let s := s.setCam p { s.cam p with
      frame := some f, started := true, lastNumber := number, lastStart := s.ptp, lastSeenLocal := s.now
      advancedAt := if 0 < adv then s.now else (s.cam p).advancedAt }
    ((startProcessing 8 (s.put (camK p 0 0x11) 2).settleFrames).settle 4 3 p).cciRun (s.get (camK p 0 0x0A))

/-- An enabled port begins to await frames (R202). -/
def State.startPort (s : State) (p : Nat) : State :=
  let s := (s.put (camK p 0 0x13) 0).put (camK p 0 0x11) 1
  s.setCam p { s.cam p with
    enabledAt := s.now, lastSeenLocal := s.now, advancedAt := s.now, started := false, frame := none, latched := [], jobs := [], raw := []
    processing := false, pictures := [], replacedRun := 0, apart := 0 }

/-- A disabled port gives up what it holds, and holds up no transaction on its master (R217). -/
def State.stopPort (s : State) (p : Nat) : State :=
  let s := (s.put (camK p 0 0x12) 0xFF).put (camK p 0 0x11) 0
  (s.setCam p { s.cam p with frame := none, jobs := [], raw := [], processing := false }).cciAll

/-- While its function is usable a port follows its enable: a value stored before then is applied when it is (R61). -/
def State.settlePort (s : State) (p : Nat) : State :=
  if !s.usable 4 then s
  else if s.camOn p then (if s.get (camK p 0 0x11) = 0 then s.startPort p else s)
  else if s.get (camK p 0 0x11) = 0 then s else s.stopPort p

/-- Enabling or disabling a port once it is admitted (R202, R209, R222). -/
def State.enablePort (s : State) (p v : Nat) : State := (s.put (camK p 0 1) v).settlePort p

/-- R209: the port's admission fails when the enabled ports and it would exceed 4.32 Gpx/s. -/
def State.admitted (s : State) (p : Nat) : Bool :=
  ratioLe (sumRatios (((List.range 8).filter fun q => s.camOn q || q == p).map s.pixelRate)) 4320000000

/-- No Frame Start for three periods (R204). -/
def State.losePort (s : State) (p : Nat) : State :=
  if s.camOn p && s.usable 4 && decide ((s.cam p).lastSeenLocal + 3 * s.period p ≤ s.now) then
    ((s.put (camK p 0 0x11) 3).cciRun (s.get (camK p 0 0x0A))).onset 4 3 p
  else s

/-- A through-memory frame finishes (R210, R215), where its result carries the epoch of the frame's latest issue (R347). -/
def State.finishRaw (s : State) (p epoch : Nat) : State :=
  let c := s.cam p
  if !s.usable 4 then s
  else match c.raw with
    | f :: rest =>
      if c.processing && f.placement == epoch then
        startProcessing 8 ((s.setCam p { c with raw := rest, processing := false }).processFrame p f)
      else s.staleResult
    | [] => s.staleResult

/-- An ISP pipeline is taken out of use (R211). -/
def State.failPipeline (s : State) (n : Nat) : State :=
  if !nth s.media.pipelines n false then s
  else
    let s := { s with media := { s.media with pipelines := setNth s.media.pipelines n false } }
    let hit (s : State) (p : Nat) : State :=
      if s.get (camK p 0 0x12) = n then
        let c := s.cam p
        s.setCam p { c with frame := c.frame.map fun f => { f with pipelineFailed := true } }
      else s
    let s := startProcessing 8 (((List.range 8).foldl hit s).nextPlacement.reissueRaw n)
    s.raiseCore 4 8 n (if s.pipesUp = 0 then .failed else .degraded)

/-- On entry to Hold the camera ports' frames under way are given up with their clocks (R27, R470). -/
def State.haltCameras (s : State) : State :=
  { s with media := { s.media with cams := s.media.cams.map fun c => { c with frame := none } } }

/-! ### The commands' meanings -/

/-- LINE_RECEIVE (R201): ports are 0 to 7. -/
def execLineReceive (t port channel dataType headerEcc : Nat) (crcOk : Bool) (samples : List Nat) (s : State) :
    Host.Outcome State Fault Refusal :=
  actIf (port < 8) t s fun s => s.receiveLine port channel dataType headerEcc crcOk samples

/-- FRAME_END (R203). -/
def execFrameEnd (t port : Nat) (s : State) : Host.Outcome State Fault Refusal :=
  actIf (port < 8) t s fun s => if s.camOn port && s.usable 4 then s.endFrame port 0 else s

/-- FRAME_END_TIMEOUT (R203): 1.5 frame periods since the Frame Start. -/
def execFrameEndTimeout (t port : Nat) (s : State) : Host.Outcome State Fault Refusal :=
  actIf (port < 8) t s fun s =>
    match (s.cam port).frame with
    | some f => if s.camOn port && s.usable 4 && decide (2 * f.frameStartLocal + 3 * s.period port ≤ 2 * s.now) then s.endFrame port 1 else s
    | none => s

/-- PORT_LOST (R204). -/
def execPortLost (t port : Nat) (s : State) : Host.Outcome State Fault Refusal :=
  actIf (port < 8) t s fun s => s.losePort port

/-- ISP_FRAME_COMPLETE (R210). -/
def execIspFrameComplete (t : Nat) (job : JobResult) (s : State) : Host.Outcome State Fault Refusal :=
  actIf (job.item < 8) t s fun s => s.finishRaw job.item job.epoch

/-- ISP_PIPELINE_FAIL (R211): pipelines are 0 to 3. -/
def execIspPipelineFail (t pipeline : Nat) (s : State) : Host.Outcome State Fault Refusal :=
  actIf (pipeline < 4) t s fun s => s.failPipeline pipeline

/-- CCI_WRITE_DEADLINE (R213). -/
def execCciWriteDeadline (t port : Nat) (s : State) : Host.Outcome State Fault Refusal :=
  actIf (port < 8) t s fun s => s.cciDeadline port

/-- CCI_TRANSACTION_COMPLETE (R217): masters are 0 to 3. -/
def execCciTransactionComplete (t master : Nat) (acked : Bool) (data : Bytes) (s : State) : Host.Outcome State Fault Refusal :=
  actIf (master < 4) t s fun s => s.cciComplete master acked data

/-- CCI_BUS_STUCK (R218). -/
def execCciBusStuck (t master : Nat) (s : State) : Host.Outcome State Fault Refusal :=
  actIf (master < 4) t s fun s => s.cciStuck master

/-- CCI_BUS_RECOVERY (R218). -/
def execCciBusRecovery (t master : Nat) (busFree : Bool) (s : State) : Host.Outcome State Fault Refusal :=
  actIf (master < 4) t s fun s => s.cciRecover master busFree

end Sys2Proof.Machine
end

