-- ==== Sys2Proof/Machine/Encoder.lean ====
section
/-!
DEFINITION. Sys2Proof/Machine/Encoder.lean: the encoder's streams: admission and load (R244), rate control (R248 to R251),
picture information and analysis SEI (R247, R258), segments, seals and chains (R252 to R257), talker streams (R361, R370,
R371) and cores taken out of use (R266).
-/

namespace Sys2Proof.Machine

/-! ### Sources and load (R244, R246) -/

/-- The size of the witness view of the active bank (R134); none while no bank is active. -/
def State.witnessSize (s : State) : Nat × Nat :=
  match s.banks.active with
  | none => (0, 0)
  | some b =>
    let g := Geometry.ofBytes (nth s.banks.geometry b [])
    let k := max g.moduleColumns g.moduleRows
    if k = 0 then (0, 0) else (g.width / k, g.height / k)

/-- A stream's picture size. -/
def State.streamSize (s : State) (n : Nat) : Nat × Nat :=
  let src := s.get (streamK n 3)
  if src = 0x10 then s.witnessSize else (s.get (camK src 0 0x14), s.get (camK src 0 0x15))

/-- A stream's pictures per second as a ratio: its source's rate over its divider. -/
def State.streamRate (s : State) (n : Nat) : Nat × Nat :=
  let src := s.get (streamK n 3)
  let rate := s.dom 0x285001
  let one := if src = 0x10 then (fieldLE rate 0 4, fieldLE rate 4 4) else (1000000, s.get (camK src 0 8))
  (one.1, max 1 (one.2 * s.get (streamK n 5)))

/-- A stream's picture period in ns, before rounding and rounded (R248). -/
def State.periodRatio (s : State) (n : Nat) : Nat × Nat := let r := s.streamRate n; (1000000000 * r.2, max 1 r.1)
def State.streamPeriod (s : State) (n : Nat) : Nat := ratioOf (s.periodRatio n)

/-- The load of a stream in pixels per second (R244). -/
def State.streamLoad (s : State) (n : Nat) : Nat × Nat :=
  let z := s.streamSize n
  let r := s.streamRate n
  (z.1 * z.2 * r.1, r.2)

/-- The motion-search load of a stream in evaluations per second (R228). -/
def State.streamMotion (s : State) (n : Nat) : Nat × Nat :=
  let z := s.streamSize n
  let r := s.streamRate n
  (z.1 * z.2 * 4452 * r.1, 256 * r.2)

/-- Enabled streams that are not suspended, on a core or on either. -/
def State.streamsOn (s : State) : List Nat := (List.range 24).filter s.streamOn
def State.running (s : State) (n : Nat) : Bool := s.streamOn n && !(s.stream n).suspended
def State.coreLoad (s : State) (core : Nat) : Nat × Nat :=
  sumRatios (((List.range 24).filter fun n => s.running n && (s.stream n).core == core).map s.streamLoad)

/-- The motion load of all running streams. -/
def State.motionTotal (s : State) : Nat × Nat := sumRatios (((List.range 24).filter s.running).map s.streamMotion)

/-- Encoder cores with room for a load, the one with more remaining capacity first (R244). -/
def State.encoderFor (s : State) (load : Nat × Nat) : Option Nat :=
  let room := fun (c : Nat) => nth s.media.codec.encCores c false && ratioLe (addRatio (s.coreLoad c) load) 500000000
  match room 0, room 1 with
  | true, true => if (s.coreLoad 1).1 * (s.coreLoad 0).2 < (s.coreLoad 0).1 * (s.coreLoad 1).2 then some 1 else some 0
  | true, false => some 0
  | false, true => some 1
  | false, false => none

/-- The talker record of a stream in 0x2840.03 (R371), and whether it sends on a MAC. -/
def State.talker (s : State) (n : Nat) : Bytes := ((s.dom 0x284003).drop (16 * n)).take 16
def State.talksOn (s : State) (n mac : Nat) : Bool := byteAt (s.talker n) 9 == mac || byteAt (s.talker n) 9 == 2

/-- The idle slopes, recomputed at each stream enable and disable (R361). -/
def State.idleSlopes (s : State) : State :=
  let slope := fun (mac : Nat) =>
    let rates := (s.streamsOn.filter fun n => s.talksOn n mac).foldl (fun a n => a + s.readBack (streamK n 7)) 0
    min (s.macRate mac * 3 / 4) (rates * 5 / 4 + 20000)
  (s.put 0x284004 (slope 0)).put 0x284005 (slope 1)

/-- The encoder's shared objects (R267). -/
def State.encoderObjects (s : State) : State :=
  (s.put 0x390001 (bitmapOf id s.media.codec.encCores)).put 0x390003 (bitmapBelow 24 s.streamOn)

/-- The loads that 0x3800.02, 0x3800.03 and 0x3900.02 show (R228, R244), in millions per second. -/
def State.loadView (s : State) (k : Nat) : Nat :=
  let m := fun (a : Nat × Nat) => ratioOf (a.1, a.2 * 1000000)
  if k = 0x380002 then m s.stereoTotal else if k = 0x380003 then m s.motionTotal else m (addRatio (s.coreLoad 0) (s.coreLoad 1))

/-! ### Coding parameters (R245) -/

/-- A level of ITU-T H.265: thirty times its number, luma picture size, luma samples per second, and the Main-tier and High-tier bit
rates in kbit/s (log entry 88). -/
structure Level where
  code : Nat
  size : Nat
  samples : Nat
  main : Nat
  high : Nat
  deriving DecidableEq, Repr

/-- The levels up to 5.2. -/
def levels : List Level :=
  [⟨30, 36864, 552960, 128, 128⟩, ⟨60, 122880, 3686400, 1500, 1500⟩, ⟨63, 245760, 7372800, 3000, 3000⟩,
   ⟨90, 552960, 16588800, 6000, 6000⟩, ⟨93, 983040, 33177600, 10000, 10000⟩, ⟨120, 2228224, 66846720, 12000, 30000⟩]
  ++ [⟨123, 2228224, 133693440, 20000, 50000⟩, ⟨150, 8912896, 267386880, 25000, 100000⟩,
   ⟨153, 8912896, 534773760, 40000, 160000⟩, ⟨156, 8912896, 1069547520, 60000, 240000⟩]

/-- A level covers a picture size, a load in samples per second and a bit rate. -/
def Level.covers (l : Level) (w h : Nat) (load : Nat × Nat) (rate : Nat) : Bool :=
  decide (w * h ≤ l.size) && decide (w * w ≤ 8 * l.size) && decide (h * h ≤ 8 * l.size) && ratioLe load l.samples && decide (rate ≤ l.high)

/-- The lowest level that covers the stream, at most 5.2; the tier is High where the bit rate exceeds its Main-tier limit (R245). -/
def State.codingSet (s : State) (n : Nat) : Config.CodingSet :=
  let z := s.streamSize n
  let rate := s.get (streamK n 7)
  let l := ((levels.find? fun l => l.covers z.1 z.2 (s.streamLoad n) rate).orElse fun _ => levels.getLast?).getD ⟨156, 0, 0, 0, 0⟩
  { profile := s.get (streamK n 4), level := l.code, high := decide (l.main < rate), width := z.1, height := z.2, period := s.periodRatio n }

/-- The VPS, SPS and PPS before an IDR picture (R245). DESIGN CHOICE (log entry 65): each takes at most 128 bytes, so that with the picture
information and a slice header they stay within the 4,096 bits that R251 keeps for them. -/
def State.parameterSets (s : State) (n : Nat) : List Bytes := [0, 1, 2].map fun k => (Config.parameterSet k (s.codingSet n)).take 128

/-- A 10-bit sample as the stream's profile codes it (R245). -/
def codedSample (profile v : Nat) : Nat := if profile = 1 then min 255 ((v + 2) / 4) else v

/-- What the core codes of a source picture: luma, then the two chroma planes (R245, R246). -/
def codedSamples (profile : Nat) (pic : Picture) : List Nat := (pic.luma ++ pic.chroma).map (codedSample profile)

/-! ### Rate control (R248, R250, R251) -/

/-- CTUs of a picture, and the minimum picture size in bytes (R251). -/
def ctuCount (w h : Nat) : Nat := (w + 31) / 32 * ((h + 31) / 32)
def minPicture (w h : Nat) : Nat := (4096 + 24 * ctuCount w h + 64 + 7) / 8

/-- R248's numbers of a stream at a moment: mode, bit rate, buffer, base, least and greatest QP, greatest picture. -/
structure RateSet where
  mode : Nat
  rate : Nat
  buffer : Nat
  base : Nat
  lo : Nat
  hi : Nat
  maxBytes : Nat
  deriving DecidableEq, Repr

/-- The values in effect, or (at the enable) those written (R268). -/
def rateSet (n : Nat) (read : Nat → Nat) : RateSet :=
  let r := fun (sub : Nat) => read (streamK n sub)
  { mode := r 6, rate := r 7, buffer := r 8, base := r 9, lo := r 0x0A, hi := r 0x0B, maxBytes := r 0x0C }

def RateSet.avg (r : RateSet) (period : Nat) : Nat := r.rate * period / 1000000
def RateSet.buf (r : RateSet) : Nat := r.rate * r.buffer
def RateSet.drain (r : RateSet) (period : Nat) : Nat := if r.mode = 1 then 2 * r.avg period else r.avg period

/-- A planned picture. -/
structure Plan where
  qp : Nat
  hard : Nat
  drain : Nat
  deriving DecidableEq, Repr

/-- plan of R248; the first picture of a stream is planned at the base QP. -/
def planPicture (r : RateSet) (st : Stream) (period cplx : Nat) (idr : Bool) : Plan :=
  let avg := r.avg period
  let buf := r.buf
  let drain := r.drain period
  let tgt0 : Int := if r.mode = 0 then (avg : Int) + ((buf / 2 : Nat) - st.fill).tdiv 8
    else ((avg * cplx / max 1 st.cplxAvg : Nat) : Int)
  let tgt1 := if idr then tgt0 * 4 else tgt0
  let tgt := (clampInt tgt1 ((avg / 4 : Nat) : Int) ((if idr then avg * 8 else avg * 4 : Nat) : Int)).toNat
  let est0 := st.lastBits * cplx / max 1 st.lastCplx
  let est := if idr != st.lastIdr then (if idr then est0 * 4 else est0 / 4) else est0
  let d : Int := 6 * ((log2Q8 (max 1 est) : Int) - log2Q8 tgt)
  let qp : Int :=
    if st.first then r.base
    else if r.mode ≤ 1 then clampInt ((st.lastQp : Int) + clampInt ((d + 128) / 256) (-4) 4) r.lo r.hi
    else if r.mode = 2 then
      (if ((buf * 3 / 4 : Nat) : Int) < st.fill then min ((st.lastQp : Int) + 1) 51
       else if st.fill < ((buf / 2 : Nat) : Int) then max ((st.lastQp : Int) - 1) r.base
       else st.lastQp)
    else r.base
  let room := if r.mode = 3 then 2 ^ 64 - 1 else (((buf : Int) - st.fill + drain) % (2 : Int) ^ 64).toNat
  { qp := qp.toNat, hard := min (r.maxBytes * 8) room, drain }

/-- The record of a region of interest that covers a CTU (R249): the one of lowest index. -/
def regionFor (records : Bytes) (x y : Nat) : Option Bytes :=
  ((List.range (records.length / 12)).map fun i => (records.drop (12 * i)).take 12).find? fun r =>
    decide (fieldLE r 0 2 ≤ x) && decide (x < fieldLE r 4 2) && decide (fieldLE r 2 2 ≤ y) && decide (y < fieldLE r 6 2)

/-- The QP of a CTU under a base QP (R249). -/
def ctuQp (r : RateSet) (records : Bytes) (base x y : Nat) : Nat :=
  match regionFor records x y with
  | none => base
  | some b =>
    let v := signed 8 (byteAt b 9)
    if byteAt b 8 = 0 then (clampInt ((base : Int) + v) r.lo r.hi).toNat else v.toNat

/-- The QPs of a picture's CTUs in raster order: degraded CTUs are coded at QP 51 (R249, R250). -/
def ctuQpsOf (r : RateSet) (records : Bytes) (base w h : Nat) (degraded : Option Nat) : List Nat :=
  let cols := (w + 31) / 32
  (List.range (ctuCount w h)).map fun i =>
    match degraded with
    | some d => if d ≤ i then 51 else ctuQp r records base (i % cols) (i / cols)
    | none => ctuQp r records base (i % cols) (i / cols)

/-- A degraded CTU of a P or an IDR picture (R250). -/
def degradedCtu (idr : Bool) : Config.DegradedCtu :=
  { skip := !idr, merge := 0, dc := idr, size := 32, qp := 51, bits := if idr then 24 else 8 }

/-- The first CTU to be degraded (R250): CTU `i` with `used` bits before it, of `left` CTUs still to come after the list's
head. -/
def degradedFrom (hard k : Nat) : List Nat → Nat → Nat → Option Nat
  | [], _, _ => none
  | b :: bs, used, i => if hard < used + b + k * bs.length + 64 then some i else degradedFrom hard k bs (used + b) (i + 1)

/-! ### SEI NAL units (R247, R255, R258) -/

/-- The UUID "NVY9640-EVID-V01". -/
def evidUuid : Bytes :=
  [0x4E, 0x56, 0x59, 0x39, 0x36, 0x34, 0x30, 0x2D, 0x45, 0x56, 0x49, 0x44, 0x2D, 0x56, 0x30, 0x31]

/-- Emulation prevention of a NAL unit's payload (ITU-T H.265; log entry 30). -/
def preventEmulation : Nat → Bytes → Bytes
  | _, [] => []
  | zeros, b :: bs =>
    if zeros = 2 ∧ b.toNat ≤ 3 then 3 :: b :: preventEmulation (if b = 0 then 1 else 0) bs
    else b :: preventEmulation (if b = 0 then zeros + 1 else 0) bs

/-- A payload size as runs of 0xFF and a rest. -/
def seiSize : Nat → Nat → Bytes
  | 0, _ => []
  | f + 1, n => if n < 255 then leBytes 1 n else 0xFF :: seiSize f (n - 255)

/-- A prefix SEI NAL unit with one user-data-unregistered message of the UUID (R247; log entry 30). -/
def seiNal (data : Bytes) : Bytes :=
  let body := evidUuid ++ data
  [0x4E, 0x01] ++ preventEmulation 0 ([5] ++ seiSize (body.length + 1) body.length ++ body ++ [0x80])

/-- The picture-info payload (R247). -/
def pictureInfo (flags stream seq time context segment : Nat) : Bytes :=
  leBytes 1 1 ++ leBytes 1 flags ++ leBytes 2 stream ++ leBytes 4 seq ++ leBytes 8 time ++ leBytes 4 context ++ leBytes 4 segment

/-! ### Motion statistics (R240) -/

/-- The horizontal and vertical luma differences of the samples of a region, inside the picture (R240). -/
def regionComplexity (pic : Picture) (rx ry : Nat) : Nat :=
  let at' := fun (x y : Nat) => edgeLuma pic (x : Int) (y : Int)
  (List.range 4096).foldl (fun (a : Nat) i =>
    let x := 64 * rx + i % 64
    let y := 64 * ry + i / 64
    if x < pic.width ∧ y < pic.height then
      a + (if x + 1 < pic.width then (at' (x + 1) y - at' x y).natAbs else 0)
        + (if y + 1 < pic.height then (at' x (y + 1) - at' x y).natAbs else 0)
    else a) 0

/-- The complexity of a whole picture: the sum over its regions, which R248 uses for an IDR picture. -/
def pictureComplexity (pic : Picture) : Nat :=
  let rc := regionCols pic.width
  (List.range (rc * regionCols pic.height)).foldl (fun a i => a + regionComplexity pic (i % rc) (i / rc)) 0

/-- A motion region's 16 bytes (R240). -/
def motionRegion (pic : Picture) (rs : List MotionResult) (rx ry : Nat) : Bytes :=
  let bs := rs.filter fun r => r.bx / 4 == rx && r.by_ / 4 == ry
  let sum := fun (f : MotionResult → Int) => (bs.map f).foldl (· + ·) 0
  let mean := fun (f : MotionResult → Int) => if bs.isEmpty then 0 else looseDiv (sum f) bs.length
  let big := bs.foldl (fun a r => max a (max r.mvx.natAbs r.mvy.natAbs)) 0
  let past := decide (pic.width < 64 * (rx + 1)) || decide (pic.height < 64 * (ry + 1))
  leBytes 2 (unsigned 16 (mean (·.mvx))) ++ leBytes 2 (unsigned 16 (mean (·.mvy)))
    ++ leBytes 2 (min 65535 (mean fun r => (r.cost : Int)).toNat) ++ leBytes 2 big
    ++ leBytes 4 (regionComplexity pic rx ry) ++ leBytes 2 (bs.filter fun r => r.mvx == 0 && r.mvy == 0).length
    ++ leBytes 1 (bs.filter fun r => !r.refined).length ++ leBytes 1 (if past then 1 else 0)

/-- The analysis payload of a picture: count, region columns and rows, regions (R258). -/
def analysisPayload (count : Nat) (pic : Picture) (rs : List MotionResult) : Bytes :=
  let rc := regionCols pic.width
  let rr := regionCols pic.height
  leBytes 4 count ++ leBytes 2 rc ++ leBytes 2 rr
    ++ (List.range (rc * rr)).flatMap fun i => motionRegion pic rs (i % rc) (i / rc)

/-- The blocks of a P picture: those searched, and for the others the best gate's position (R229, R239). -/
def fillMotion (cur ref : Picture) (lambda : Nat) (prev : List MotionResult) : List (Nat × Nat) → List MotionResult → List MotionResult
  | [], now => now
  | b :: bs, now =>
    if now.any (fun r => r.bx == b.1 && r.by_ == b.2) then fillMotion cur ref lambda prev bs now
    else fillMotion cur ref lambda prev bs (now ++ [motionBlock cur ref lambda now prev false b.1 b.2])

/-! ### Talker packets (R361, R362, R370, R371) -/

/-- A NAL unit as payloads of RFC 7798: whole, or in fragmentation units of at most 1,476 bytes. -/
def fuParts (type : Nat) (head : Bytes) : Nat → Bool → Bytes → List Bytes
  | 0, _, _ => []
  | f + 1, first, rest =>
    let part := rest.take 1473
    let more := rest.drop 1473
    let fu := type + (if first then 128 else 0) + (if more.isEmpty then 64 else 0)
    (head ++ leBytes 1 fu ++ part) :: (if more.isEmpty then [] else fuParts type head f false more)

def nalPayloads (nal : Bytes) : List Bytes :=
  if nal.length ≤ 1476 then [nal]
  else
    let type := byteAt nal 0 / 2 % 64
    let head := leBytes 1 (byteAt nal 0 % 2 + 2 * 49 + 128 * (byteAt nal 0 / 128)) ++ (nal.drop 1).take 1
    fuParts type head nal.length true (nal.drop 2)

/-- An Ethernet frame of a talker stream: destination, source, tag, and the AVTP data unit (R370, R371; log entry 31). -/
def State.avtpFrame (s : State) (n mac seq time : Nat) (last : Bool) (payload : Bytes) : Bytes :=
  let r := s.talker n
  let vlan := fieldLE r 6 2
  r.take 6 ++ beBytes 6 (Config.macAddress mac).toNat
    ++ (if vlan = 0 then [] else beBytes 2 0x8100 ++ beBytes 2 (byteAt r 8 % 8 * 8192 + vlan % 4096))
    ++ beBytes 2 0x22F0 ++ [0x03, 0x81] ++ leBytes 1 seq ++ [0] ++ beBytes 8 (s.get (streamK n 0x0F)) ++ beBytes 4 time
    ++ [0x02] ++ leBytes 1 (s.get 0x284001) ++ [0, 0] ++ beBytes 2 payload.length
    ++ leBytes 1 (if last then 0x10 else 0) ++ [0] ++ payload

/-- A packet on one MAC: handed to the AVTP queue, where it waits while the link is down, or dropped where that is full (R361, R362). -/
def State.avtpOn (s : State) (n mac seq : Nat) (frame : Bytes) : State :=
  if s.txRoom (.avtp mac n seq frame) then s.send (.avtp mac n seq frame) else (s.bump 0x284006).raise 0xD 8 mac

/-- The payloads of an access unit as packets, numbered per stream, M set on the last (R370). -/
def sendPackets (n time : Nat) : List Bytes → State → State
  | [], s => s
  | p :: ps, s =>
    let st := s.stream n
    let seq := st.avtpSeq
    let s := s.setStream n { st with avtpSeq := (seq + 1) % 256 }
    let one (s : State) (mac : Nat) : State :=
      if s.talksOn n mac && s.get (0x280001 + mac) == 1 then s.avtpOn n mac seq (s.avtpFrame n mac seq time ps.isEmpty p) else s
    sendPackets n time ps (one (one s 0) 1)

/-- An access unit leaves as the stream's packets (R247). -/
def State.sendUnit (s : State) (n time : Nat) (nals : List Bytes) : State := sendPackets n time (nals.flatMap nalPayloads) s

/-! ### Segments, seals and chains (R252 to R257) -/

/-- NAL units as the digest takes them (R253). -/
def digestBytes (nals : List Bytes) : Bytes := nals.flatMap fun n => beBytes 4 n.length ++ n

/-- Bytes 0 to 87 of a segment's seal (R254). -/
def sealHead (n source device chain : Nat) (st : Stream) (flags : Nat) (lastTime : Nat) : Bytes :=
  let f := flags ||| (if st.segment = 0 then 2 else 0) ||| (if 0 < st.segMissing then 4 else 0)
    ||| (if 0 < st.segRepeats then 8 else 0) ||| (if st.segCapped then 16 else 0)
  leBytes 2 0x534C ++ leBytes 1 1 ++ leBytes 1 f ++ leBytes 1 n ++ leBytes 1 source ++ [0, 0] ++ leBytes 8 device
    ++ leBytes 4 chain ++ leBytes 4 st.segment ++ leBytes 8 st.segFirst ++ leBytes 8 lastTime ++ leBytes 4 st.segPictures
    ++ leBytes 4 st.segMissing ++ leBytes 4 st.segRepeats ++ leBytes 4 st.segFirstSeq ++ sha256 st.segData

/-- The open segment ends, with the flags given; its seal is to be made (R252, R255). -/
def State.endSegment (s : State) (n flags : Nat) : State :=
  let st := s.stream n
  if !st.open_ then s
  else
    let head := sealHead n (s.get (streamK n 3)) Config.deviceIdentifier.toNat st.chainId st flags st.segLast
    s.setStream n { st with
      open_ := false, segment := st.segment + 1, unsealed := st.unsealed ++ [(head, s.now)], segData := [], segPictures := 0
      segMissing := 0, segRepeats := 0, segCapped := false }

/-- A new chain: the open segment ends (R252), the identifier is drawn at random, and segment 0 begins with an IDR picture (R256). -/
def State.newChain (s : State) (n : Nat) : State :=
  let s := s.endSegment n 0
  let s := s.setStream n { s.stream n with reference := none, motion := [], motionPrev := [], motionFor := none }
  if s.get (streamK n 2) ≠ 1 then s
  else
    let (s, r) := s.draw
    let s := s.put (sealK n 3) r
    s.setStream n { s.stream n with chainId := r % 2 ^ 32, chainT0 := none, segment := 0 }

/-- The oldest segment that waits for its seal is sealed (R254, R255): the record, the chain value, the object, the
counters, the Beacon record, and the copy to be carried in-band; `flush` marks a seal of the power-fail flush (R257). -/
def State.makeSeal (s : State) (n : Nat) (flush : Bool) : State :=
  let st := s.stream n
  match st.unsealed with
  | [] => s
  | (head, ended) :: rest =>
    let prev := if bitOf (byteAt head 3) 1 then List.replicate 32 0 else st.prevChain
    let record := head ++ prev
    let value := sha256 record
    let sealed := record ++ (List.range 64).map (Config.signature value)
    let segment := fieldLE head 20 4
    let s := (s.putDom (sealK n 1) sealed).put (sealK n 2) segment
    let ms := (looseDiv ((s.now - ended : Nat)) 1000000).toNat
    let s := (s.bump 0x3B0004).put 0x3B0005 (min 65535 (max (s.get 0x3B0005) ms))
    let s := s.setStream n { st with unsealed := rest, prevChain := value, sealInBand := st.sealInBand ++ [sealed] }
    let s := s.beaconAdd 6 (if flush then 2 else 0) (leBytes 1 n ++ [0, 0, 0] ++ leBytes 4 segment) sealed
    if rest.all (fun u => decide (s.now < u.2 + 20000000)) then s.settle 6 3 n else s

/-- The oldest segment that waits for its seal cannot be sealed at all: its chain ends with the seal before, and the stream starts a new
chain at its next segment, the open one ending too, so that no segment is left unsealed inside a chain (R271). -/
def State.loseSeal (s : State) (n : Nat) : State :=
  let st := s.stream n
  match st.unsealed with
  | [] => s
  | (head, _) :: _ =>
    -- what waits of that chain cannot be chained to it any more
    let rest := st.unsealed.filter fun u => fieldLE u.1 16 4 != fieldLE head 16 4
    let s := s.setStream n { st with unsealed := rest, open_ := st.open_ && st.chainId != fieldLE head 16 4 }
    let s := if rest.all (fun u => decide (s.now < u.2 + 20000000)) then s.settle 6 3 n else s
    if st.chainId = fieldLE head 16 4 ∧ s.streamOn n then
      (s.setStream n { s.stream n with segData := [], segPictures := 0, segMissing := 0, segRepeats := 0, segCapped := false }).newChain n
    else s

/-- On recognition of PFAIL_N every open segment ends at its last coded picture and is sealed, in stream order (R257). -/
def State.sealAtPfail (s : State) : State :=
  let one (s : State) (n : Nat) : State :=
    if (s.streamOn n || (s.stream n).open_) && s.get (streamK n 2) == 1 then
      let s := s.endSegment n 32
      (List.range (s.stream n).unsealed.length).foldl (fun s _ => s.makeSeal n true) s
    else s
  (List.range 24).foldl one s

/-! ### Coding -/

/-- The shadow commit of a stream at its next planned picture: QP bounds out of order are dropped (R268). -/
def State.streamCommit (s : State) (n : Nat) : State :=
  let lo := streamK n 0x0A
  let hi := streamK n 0x0B
  let s := if s.readBack lo ≤ s.readBack hi then s else { s with pendR := eraseKey lo (eraseKey hi s.pendR) }
  s.applyPending fun k => k / 256 == 0x3910 + n

/-- The SEI NAL units of the seals that wait to be carried in-band, each alone in its own (R253, R255). -/
def sealNal (st : Stream) : List Bytes := st.sealInBand.map fun b => seiNal ([2, 0, 0, 0] ++ b)

/-- The closing picture of a disabled evidence stream: P skip CUs with flag repeat and the last seal (R255). -/
def State.closingPicture (s : State) (n : Nat) : State :=
  let st := s.stream n
  let z := s.streamSize n
  let info := pictureInfo 1 n (st.lastSeq.getD 0) st.segLast ((st.reference.map (·.context)).getD 0) (st.segment - 1)
  let nals := sealNal st ++ [seiNal info, Config.skipPicture z.1 z.2 0]
  let s := (s.sendUnit n st.segLast nals).bump (streamK n 0x11)
  let s := s.put (streamK n 0x13) (8 * (nals.foldl (fun a b => a + b.length) 0))
  (s.put (streamK n 0x10) 0).setStream n { s.stream n with closing := false, sealInBand := [] }

/-- What a coded picture brings with it. -/
structure Coded where
  pic : Picture
  repeated : Bool
  idr : Bool
  missing : Nat
  capped : Bool
  nals : List Bytes
  deriving DecidableEq, Repr

/-- A coded picture enters the open segment, or opens one (R252, R253). -/
def State.enterSegment (s : State) (n time : Nat) (c : Coded) (fed : List Bytes) : State :=
  let st := s.stream n
  let t0 := st.chainT0.getD time
  let m := (time - t0) / (s.get (streamK n 0x0D) * 1000000)
  let st := if st.open_ then st else { st with open_ := true, chainT0 := some t0, segIndex := m, segFirst := time, segFirstSeq := c.pic.seq }
  s.setStream n { st with
    segLast := time, segPictures := st.segPictures + 1, segMissing := st.segMissing + c.missing
    segRepeats := st.segRepeats + (if c.repeated then 1 else 0), segCapped := st.segCapped || c.capped
    segData := st.segData ++ digestBytes fed }

/-- What a core takes of a picture: the bits of its slice header and of each CTU as they would be without the cap, and the slice it would
write. -/
structure Core where
  header : Nat
  ctus : List Nat
  slice : Bytes
  deriving DecidableEq, Repr

/-- The bits agree with the slice and with the picture: a CTU has its own count, the slice end takes at most 64 bits (R250), and the header
stays within what R251 keeps for it (log entry 65). -/
def Core.fits (c : Core) (pic : Picture) : Bool :=
  decide (c.header ≤ 512) && c.ctus.length == ctuCount pic.width pic.height && decide (8 * c.slice.length ≤ c.header + c.ctus.foldl (· + ·) 0 + 64)

/-- Bits of the slice of a picture whose CTUs from `cut` on are degraded: the header, the CTUs committed, each degraded CTU at its most,
and the slice end (R250). -/
def Core.cutBits (c : Core) (k cut : Nat) : Nat := c.header + (c.ctus.take cut).foldl (· + ·) 0 + k * (c.ctus.length - cut) + 64

/-- Bytes of NAL units. -/
def unitBytes (l : List Bytes) : Nat := l.foldl (fun a b => a + b.length) 0

/-- One picture of a stream is planned, coded and sent (R245 to R258). -/
def State.codePicture (s : State) (n : Nat) (core : Core) : State :=
  match s.nextSource n with
  | none => s
  | some (pic, repeated) =>
    let s0 := s
    let s := s.streamCommit n
    let evidence := s.get (streamK n 2) == 1
    let st := s.stream n
    let time := if repeated then s.media.witnessMissed.getD pic.time else pic.time
    let divider := s.get (streamK n 5)
    let missing := match st.lastSeq with
      | some q => if repeated then 0 else (pic.seq + 2 ^ 32 - q) % 2 ^ 32 - divider
      | none => 0
    -- a segment boundary ends the open segment (R252)
    let boundary := evidence && st.open_
      && decide (st.segIndex < (time - st.chainT0.getD time) / (s.get (streamK n 0x0D) * 1000000))
    let s := if boundary then s.endSegment n 0 else s
    let st := s.stream n
    -- an IDR picture begins a stream, a chain and a segment (R252, R256)
    let idr := st.reference.isNone || (evidence && !st.open_)
    -- motion results, the unsearched blocks taking the best gate's position (R229)
    let searched := if st.motionFor == st.reference.map (fun r => (pic.seq, r.seq)) then st.motion else []
    let motion := match st.reference with
      | some ref => if idr || repeated then [] else fillMotion pic ref (s.get 0x380009) st.motionPrev (motionBlocks pic) searched
      | none => []
    let cplx := if idr then pictureComplexity pic else (motion.map (·.cost)).foldl (· + ·) 0
    let period := s.streamPeriod n
    let r := rateSet n s.get
    let st := if st.first then { st with cplxAvg := cplx } else st
    let p := planPicture r st period cplx idr
    let skips := repeated && !idr
    if !skips && !core.fits pic then s0
    else
      let s := s.bump 0x380007 (motion.filter fun r => !r.refined).length
      let count := (s.get (streamK n 0x11) + 1) % 2 ^ 32
      let stats := analysisPayload count pic motion
      let sets := if idr then s.parameterSets n else []
      let info := fun (capped : Bool) =>
        let flags := (if repeated then 1 else 0) + (if bitOf pic.flags 5 then 2 else 0) + (if capped then 4 else 0)
          + (if 0 < missing || st.lostSeq.isSome then 8 else 0)
        let context := if s.get (streamK n 3) = 0x10 then pic.context else pic.context % 65536
        seiNal (pictureInfo flags n pic.seq time context (if evidence then st.segment else 0))
      let k := (degradedCtu idr).bits
      -- seals, then the statistics, wait for or stay out of a picture in which they leave no room for its CTUs, all degraded (R250)
      let least := (if skips then 0 else core.header) + k * ctuCount pic.width pic.height + 64
      let room := fun (l : List Bytes) => decide (8 * unitBytes (sets ++ [info false] ++ l) + least ≤ p.hard)
      let extra := if evidence then [] else [seiNal ([3, 0, 0, 0] ++ stats)].filter fun x => room [x]
      let seals := if room (sealNal st ++ extra) then sealNal st else []
      let head := fun (capped : Bool) => sets ++ seals ++ [info capped] ++ extra
      -- the bits committed before the CTUs: parameter sets, SEI and slice header (R250)
      let before := 8 * unitBytes (head false)
      let cut := if skips then none else degradedFrom p.hard k core.ctus (before + core.header) 0
      let records := if evidence then s.dom (streamK n 0x0E) else []
      let qps := if skips then [] else ctuQpsOf r records p.qp pic.width pic.height cut
      let samples := codedSamples (s.get (streamK n 4)) pic
      let task : Config.CodingTask :=
        { set := s.codingSet n, idr, samples, references := if idr then [] else st.codedRefs, qps }
      let slice := match cut with
        | some i => (Config.degradedSlice task (degradedCtu idr) i core.slice).take (core.cutBits k i / 8)
        | none => if skips then Config.skipPicture pic.width pic.height count else core.slice
      let slice := slice.take ((p.hard - before) / 8)
      let sent := head cut.isSome ++ [slice]
      let bits := 8 * unitBytes sent
      let fed := sets ++ [info cut.isSome] ++ extra ++ [slice]
      let c : Coded := { pic, repeated, idr, missing, capped := cut.isSome, nals := fed }
      let s := if seals.isEmpty then s else s.setStream n { st with sealInBand := [] }
      let s := if evidence then s.enterSegment n time c fed else s.putDom (streamK n 0x14) stats
      let st := s.stream n
      let s := s.setStream n { st with
        fill := max 0 (st.fill + bits - p.drain), cplxAvg := (7 * st.cplxAvg + cplx) / 8, lastBits := bits, lastCplx := cplx
        lastQp := p.qp, lastIdr := idr, first := false, lastSeq := some pic.seq, lostSeq := none, reference := some pic
        repeatedAt := if repeated then s.media.witnessMissed else st.repeatedAt
        codedRefs := samples :: (if idr then [] else st.codedRefs.take 1), ctuQps := qps
        motionPrev := motion, segLast := time, pictures := st.pictures + 1 }
      let s := (s.put (streamK n 0x11) count).put (streamK n 0x13) bits
      let s := if cut.isSome then s.bump (streamK n 0x12) else s
      ((s.put (streamK n 0x10) 2).sendUnit n time sent).requestMotion n

/-! ### Enable and disable (R244, R252, R255) -/

/-- Why R244 refuses to enable a stream that is disabled: 0x0800_0022. -/
def State.streamRefused (s : State) (n : Nat) : Bool :=
  let z := s.streamSize n
  let r := rateSet n s.readBack
  let least := minPicture z.1 z.2
  (s.encoderFor (s.streamLoad n)).isNone
    || decide (24 ≤ s.streamsOn.length)
    || !ratioLe (sumRatios [s.stereoTotal, s.motionTotal, s.streamMotion n]) s.loadLimit
    || (s.get (streamK n 3) == 0x10 && s.get 0x410011 == 0)
    || decide (r.drain (s.streamPeriod n) < 8 * least) || decide (r.maxBytes < least)

/-- An enabled stream starts: its rate control and its chain (R248, R255). -/
def State.startStream (s : State) (n : Nat) : State :=
  let r := rateSet n s.readBack
  let s := s.put (streamK n 0x10) 1
  let s := s.setStream n { s.stream n with
    fill := ((r.buf / 2 : Nat) : Int), lastQp := r.base, first := true, lastIdr := true
    lastBits := 0, lastCplx := 0, lastSeq := none, closing := false }
  (s.newChain n).requestMotion n

/-- A disabled stream stops: its segment ends with the closing seal, and the closing picture carries it (R252, R254,
R255). -/
def State.stopStream (s : State) (n : Nat) : State :=
  let st := s.stream n
  if s.get (streamK n 2) = 1 ∧ st.open_ then
    (s.setStream n { st with closing := true, suspended := false }).endSegment n 1 |>.put (streamK n 0x10) 3
  else (s.setStream n { st with suspended := false }).put (streamK n 0x10) 0

/-- While its function is usable a stream follows its enable: a value stored before then is applied when it is (R61). -/
def State.settleStream (s : State) (n : Nat) : State :=
  let state := s.get (streamK n 0x10)
  if !s.usable 6 then s
  else if s.streamOn n then (if state = 0 ∨ state = 3 then s.startStream n else s)
  else if state = 0 ∨ state = 3 then s else s.stopStream n

/-- A stream is enabled: it is placed on its core at once (R244). -/
def State.enableStream (s : State) (n : Nat) : State :=
  if s.streamOn n then s
  else
    let core := (s.encoderFor (s.streamLoad n)).getD 0
    let s := (s.put (streamK n 1) 1).setStream n { s.stream n with core := core, suspended := false }
    (s.settleStream n).encoderObjects.idleSlopes

/-- A stream is disabled. -/
def State.disableStream (s : State) (n : Nat) : State :=
  if !s.streamOn n then s else ((s.put (streamK n 1) 0).settleStream n).encoderObjects.idleSlopes

/-! ### Cores (R266) -/

/-- Running streams by priority: evidence before analysis, then by number. -/
def State.streamOrder (s : State) (l : List Nat) : List Nat :=
  l.filter (fun n => s.get (streamK n 2) == 1) ++ l.filter fun n => s.get (streamK n 2) != 1

/-- A stream moves to a core, or is suspended where none has room (R256, R266). -/
def State.moveStream (s : State) (n : Nat) : State :=
  let load := s.streamLoad n
  let s := s.endSegment n 0
  -- while it moves its load counts on no core
  let s := s.setStream n { s.stream n with suspended := true }
  match s.encoderFor load with
  | some c => (s.setStream n { s.stream n with suspended := false, core := c }).newChain n
  | none => (s.put (streamK n 0x10) 4).raise 6 2 n

/-- An encoder core is taken out of use (R266). -/
def State.failEncoder (s : State) (core : Nat) : State :=
  if !nth s.media.codec.encCores core false then s
  else
    let hit := (List.range 24).filter fun n => s.running n && (s.stream n).core == core
    let cores := setNth s.media.codec.encCores core false
    let s := { s with media := { s.media with codec := { s.media.codec with encCores := cores } } }
    let s := s.raiseCore 6 1 core (if cores.any id then .degraded else .failed)
    ((s.streamOrder hit).foldl State.moveStream s).encoderObjects

/-! ### The commands' meanings: streams are 0 to 23 -/

/-- PICTURE_CODE (R246 to R253): a standby's streams code nothing (R395), nor does a suspended or disabled one. -/
def execPictureCode (t stream headerBits : Nat) (ctuBits : List Nat) (slice : Bytes) (s : State) :
    Host.Outcome State Fault Refusal :=
  actIf (stream < 24) t s fun s =>
    if s.usable 6 && s.running stream && !s.standby then s.codePicture stream { header := headerBits, ctus := ctuBits, slice } else s

/-- SEAL_MAKE (R254, R255), or its failure for good (R271): after the last seal of a stream that closes, its closing picture is coded. -/
def execSealMake (t : Nat) (result : ItemResult) (s : State) : Host.Outcome State Fault Refusal :=
  actIf (result.item < 24) t s fun s =>
    let stream := result.item
    let some_ := !(s.stream stream).unsealed.isEmpty
    let s := if result.ok then s.makeSeal stream false else s.loseSeal stream
    if some_ && (s.stream stream).closing && (s.stream stream).unsealed.isEmpty && s.usable 6 then s.closingPicture stream else s

/-- SEAL_DEADLINE (R255, R271): a seal not made 20 ms after its segment's end. -/
def execSealDeadline (t stream : Nat) (s : State) : Host.Outcome State Fault Refusal :=
  actIf (stream < 24) t s fun s =>
    if (s.stream stream).unsealed.any fun u => decide (u.2 + 20000000 ≤ s.now) then s.onset 6 3 stream else s

/-- ENCODER_CORE_FAIL (R266): cores are 0 and 1. -/
def execEncoderCoreFail (t core : Nat) (s : State) : Host.Outcome State Fault Refusal :=
  actIf (core < 2) t s fun s => s.failEncoder core

end Sys2Proof.Machine
end

