-- ==== Sys2Proof/Machine/BlitList.lean ====
section
/-!
DEFINITION. Sys2Proof/Machine/BlitList.lean: the commands of a blit list (R288), the one under way and its completion (R287,
R289, R295, R296).
-/

namespace Sys2Proof.Machine

/-! ### A command's fields (R288) -/

structure Blit where
  op : Nat
  rot : Nat
  mirror : Bool
  xDir : Bool
  yDir : Bool
  src : Nat
  dst : Nat
  srcX : Nat
  srcY : Nat
  w : Nat
  h : Nat
  dstX : Nat
  dstY : Nat
  colour : Nat
  chase : Nat
  wait : Nat
  mark : Nat
  deriving DecidableEq, Repr

def blitOf (b : Bytes) : Blit :=
  let t := byteAt b 1
  { op := byteAt b 0, rot := t % 4, mirror := bitOf t 2, xDir := bitOf t 3, yDir := bitOf t 4, src := byteAt b 2, dst := byteAt b 3
    srcX := fieldLE b 4 2, srcY := fieldLE b 6 2, w := fieldLE b 8 2, h := fieldLE b 10 2, dstX := fieldLE b 12 2
    dstY := fieldLE b 14 2, colour := fieldLE b 16 4, chase := byteAt b 20, wait := byteAt b 21, mark := fieldLE b 22 2 }

/-- The destination rectangle's size (R289). -/
def Blit.dstW (c : Blit) : Nat := if c.op = 1 ∧ c.rot % 2 = 1 then c.h else c.w
def Blit.dstH (c : Blit) : Nat := if c.op = 1 ∧ c.rot % 2 = 1 then c.w else c.h

/-- 0x4C10.0C + k. -/
def State.flatState (s : State) (k : Nat) : Nat :=
  let v := s.get (flatK k 0x0C)
  if v = 4 ∧ (nth s.media.flats k {}).resumeAt ≤ s.now then 3 else v
def State.flatRuns (s : State) (k : Nat) : Bool := s.flatState k == 3

/-! ### The command under way -/

/-- The current command, if a list runs. -/
def State.blit (s : State) : Option Blit :=
  if s.get 0x430002 = 1 ∧ s.power.phase = .run ∧ s.usable 0xC ∧ s.get 0x430007 = 1 then
    (s.media.blitter.list[s.media.blitter.current]?).map blitOf
  else none

/-- The current command completes with its result; the last one ends the list (R287, R295). -/
def State.completeBlit (s : State) (skipped : Bool) : State :=
  let b := s.media.blitter
  let flags := (if skipped then 1 else 0) + (if b.chaseFlag then 2 else 0)
  let s := s.putDom 0x430004 (s.dom 0x430004 ++ leBytes 8 s.ptp ++ leBytes 8 b.watermark ++ leBytes 1 flags ++ List.replicate 7 0)
  if b.current + 1 < b.list.length then
    let s := (s.put 0x430003 (b.current + 1)).put 0x430005 (65536 * (b.current + 1))
    { s with media := { s.media with blitter := { list := b.list, current := b.current + 1 } } }
  else
    let s := (s.put 0x430002 3).bump 0x430006
    { s with media := { s.media with blitter := {} } }

/-- A WAIT LINE is reached: it completes at once where its output is not running, and else waits for its line (R289). -/
def reachWaits : Nat → State → State
  | 0, s => s
  | n + 1, s =>
    match s.blit with
    | none => s
    | some c =>
      if c.op != 3 || s.media.blitter.reached then s
      else if s.flatRuns c.wait then { s with media := { s.media with blitter := { s.media.blitter with reached := true } } }
      else reachWaits n (s.completeBlit true)

/-- The list goes on with the command that is now current. -/
def State.reachBlit (s : State) : State := reachWaits (s.media.blitter.list.length - s.media.blitter.current) s

/-- The current command ends and the next one is reached. -/
def State.endBlit (s : State) (skipped : Bool) : State := (s.completeBlit skipped).reachBlit

/-- A list that is paused, or was written while function 0xC was not usable, goes on (R61, R296). -/
def State.resumeList (s : State) : State :=
  if s.get 0x430002 = 2 ∧ s.usable 0xC then (s.put 0x430002 1).reachBlit else s

end Sys2Proof.Machine
end

