-- ==== Sys2Proof/Machine/Groomer.lean ====
section
/-!
DEFINITION. Sys2Proof/Machine/Groomer.lean: the Groomer's job engine (R281 to R286): host jobs, their completion, their end
by a reset or a power failure.
-/

namespace Sys2Proof.Machine

/-- The write of 0x3C00.08 starts a host job in the mode of 0x3C00.04 (R285). -/
def State.startHostJob (s : State) (input : Bytes) : State :=
  let j : GroomerJob := { compress := s.get 0x3C0004 == 1, level := s.get 0x3C0005, size := s.get 0x3C0006, input }
  let s := (s.put 0x3C0007 1).putDom 0x3C0009 []
  { s with media := { s.media with groomer := { s.media.groomer with job := some j } } }.jobArrives 3

/-- A host job ends with status 0x05 (R284). -/
def State.endHostJob (s : State) : State :=
  match s.media.groomer.job with
  | none => s
  | some _ => (({ s with media := { s.media with groomer := { s.media.groomer with job := none } } }).put 0x3C0007 5).nextClient

/-- A reset of the Groomer, or PFAIL_N, aborts the DOMAIN writes that it was to decompress (R284). -/
def State.abortIntake (s : State) : State :=
  let loose := fun (w : Staged) => looseBulk w.data
  let gone := s.ctl.staged.filter loose
  let s : State := { s with ctl := { s.ctl with staged := s.ctl.staged.filter fun w => !loose w } }
  (gone.foldl (fun s w => s.replyStaged w 0x08000022) s).nextClient

/-- One block's comparison fails: counted, cause 0x01, Failed at a second within 1 s (R281, R286). -/
def State.verifyFails (s : State) : State :=
  let again := match s.media.groomer.lastMismatch with | some l => decide (s.now < l + 1000000000) | none => false
  let s := s.bump 0x3C000D
  let s := { s with media := { s.media with groomer := { s.media.groomer with lastMismatch := some s.now } } }
  s.raiseCore 8 1 0 (if again then .failed else .unchanged)

/-- The host job finishes (R279, R281, R282); the blocks named failed their comparison. -/
def State.finishHostJob (s : State) (failed : List Nat) : State :=
  match s.media.groomer.job with
  | none => s
  | some j =>
    let s := { s with media := { s.media with groomer := { s.media.groomer with job := none } } }
    if j.compress then
      let here := looseFailures j.level j.size failed j.input
      let c := looseEncodeWith j.level j.size here j.input
      let gain := decide (c.length < j.input.length)
      let s := s.jobDone j.input.length c.length gain
      let s := if gain then (s.put 0x3C0007 2).putDom 0x3C0009 c else s.put 0x3C0007 3
      here.foldl (fun s _ => s.verifyFails) s
    else match looseDecode j.input with
      | some d => ((s.jobDone d.length j.input.length true).put 0x3C0007 2).putDom 0x3C0009 d
      | none => ((s.bump 0x3C000A).bump 0x3C000C).put 0x3C0007 4

/-- The record's oldest job finishes: the payload becomes its Loose container of 4 KiB blocks where that is smaller (R281, R282, R411). -/
def State.finishBeaconJob (s : State) (e : Entry) (failed : List Nat) : State :=
  let level := s.get 0x22100A
  let here := looseFailures level 0 failed e.payload
  let c := looseEncodeWith level 0 here e.payload
  let gain := decide (c.length < e.payload.length)
  let s := s.jobDone e.payload.length c.length gain
  let done := fun (x : Entry) => if gain then { x with job := false, flags := x.flags ||| 1, payload := c } else { x with job := false }
  let s := { s with beacon := s.beacon.change e.seq done }
  here.foldl (fun s _ => s.verifyFails) s

/-- 0x3C00.01: idle, running, stopped (R284, R285). -/
def State.groomerState (s : State) : Nat :=
  if !s.groomerRuns then 2 else if s.media.groomer.job.isSome || s.beaconFirst || s.intakeWaits then 1 else 0

/-- A job of the engine finishes: the record's jobs go before DOMAIN intake, and that before the host's (R283), which wait in DRAM state D2
(R340). -/
def State.finishJob (s : State) (report : JobReport) : State :=
  if !s.groomerRuns || !s.mayFinish report.client then s
  else if report.client = 1 then
    match s.beaconJob with
    | some e => (s.finishBeaconJob e report.failures).nextClient
    | none => s
  else if report.client = 3 ∧ s.get 0x211007 ≠ 2 ∧ s.media.groomer.job.isSome then (s.finishHostJob report.failures).nextClient
  else s

/-- GROOMER_JOB_COMPLETE (R282): the engine runs only while its function is Ready or Degraded (R284). -/
def execGroomerJobComplete (t : Nat) (verifyFailures : JobReport) (s : State) : Host.Outcome State Fault Refusal :=
  act t s fun s => s.finishJob verifyFailures

end Sys2Proof.Machine
end

