-- ==== Sys2Proof/Machine/Flat.lean ====
section
/-!
DEFINITION. Sys2Proof/Machine/Flat.lean: the flat outputs (R297 to R304, R306, R307): training and HPD, scan and timing
commits, underruns, and what Hold does to the media functions (R27, R296, R304).
-/

namespace Sys2Proof.Machine

def State.flat (s : State) (k : Nat) : FlatOut := nth s.media.flats k {}
def State.setFlat (s : State) (k : Nat) (f : FlatOut) : State := { s with media := { s.media with flats := setNth s.media.flats k f } }

/-! ### Timing (R299) -/

/-- A timing's fields: pixel clock in kHz, then the eight sizes. -/
def timingClock (b : Bytes) : Nat := fieldLE b 0 4
def timingField (b : Bytes) (i : Nat) : Nat := fieldLE b (4 + 2 * i) 2
def timingHTotal (b : Bytes) : Nat := timingField b 0 + timingField b 1 + timingField b 2 + timingField b 3
def timingVTotal (b : Bytes) : Nat := timingField b 4 + timingField b 5 + timingField b 6 + timingField b 7

/-- The content check of R299 at a lane rate in Mbit/s and bits per component. -/
def timingOk (b : Bytes) (laneRate bpc : Nat) : Bool :=
  b.length == 24 && decide (25000 ≤ timingClock b) && decide (timingClock b ≤ 600000)
    && decide (64 ≤ timingField b 0) && decide (timingField b 0 ≤ 3840) && decide (64 ≤ timingField b 4)
    && decide (timingField b 4 ≤ 2160) && [1, 2, 3, 5, 6, 7].all (fun i => decide (1 ≤ timingField b i))
    && decide (timingHTotal b ≤ 8192) && decide (timingVTotal b ≤ 4096)
    && decide (10 ≤ timingField b 5 + timingField b 6 + timingField b 7)
    && decide (byteAt b 20 < 4) && zeroBytes (b.drop 21)
    && decide (timingClock b * 3 * bpc * 10 ≤ 4 * laneRate * 1000 * 8)

/-- Lines of an output's timing from an instant until now. -/
def State.linesSince (s : State) (k at_ : Nat) : Nat :=
  (s.now - at_) * timingClock (s.dom (flatK k 4)) / (timingHTotal (s.dom (flatK k 4)) * 1000000)

/-- The line an output scans: the lines of its timing since a line was known to begin (0x4C10.0D). -/
def State.scanLine (s : State) (k : Nat) : Nat :=
  match (s.flat k).scanAt with
  | some (at_, line) =>
    if s.flatRuns k then (line + s.linesSince k at_) % max (timingVTotal (s.dom (flatK k 4))) 1 else 0
  | none => 0

/-- An output's video begins at a line now. -/
def State.scansFrom (s : State) (k line : Nat) : State := s.setFlat k { s.flat k with scanAt := some (s.now, line) }

/-- A background colour written now takes effect from the output's next line (R300). -/
def State.setBackground (s : State) (k v : Nat) : State :=
  let f := s.flat k
  let b := s.dom (flatK k 4)
  let next := match f.scanAt with
    | some (at_, _) =>
      if s.flatRuns k then at_ + ((s.linesSince k at_ + 1) * (timingHTotal b * 1000000) + timingClock b - 1) / timingClock b else s.now
    | none => s.now
  let shown := if s.now < f.backFrom then f.backBefore else s.get (flatK k 0x0B)
  (s.put (flatK k 0x0B) v).setFlat k { f with backBefore := shown, backFrom := next }

/-! ### Training and HPD (R297, R298) -/

/-- A training over AUX (R297): clock recovery with TPS1, channel equalisation with the lane rate's pattern, TPS2 to TPS4, and
ASSR, step 0x10, where the sink's DPCD reports it. -/
def State.trainingSteps (s : State) (k : Nat) : List Nat :=
  let rate := s.get (flatK k 2)
  [1, if rate = 2700 then 2 else if rate = 5400 then 3 else 4] ++ if Config.sinkAssr k then [0x10] else []

/-- A trained output sends video from a frame start now, after a timing blank from that blank's end (R302). -/
def State.startVideo (s : State) (k : Nat) : State :=
  if s.flatState k = 4 then s else (s.put (flatK k 0x0C) 3).scansFrom k 0

/-- An output trains: it runs if training completes, else it is retried every second and cause 0x03 stands. A timing blank
lasts to its frame start (R302). -/
def State.trainFlat (s : State) (k : Nat) (ok : Bool) : State :=
  let f := s.flat k
  let s := { s with out := s.out ++ (s.trainingSteps k).map fun n => Out.aux k n }
  if ok then ((s.setFlat k { f with trained := true, retryAt := none }).startVideo k).settle 0xC 3 k
  else
    ((s.setFlat k { f with trained := false, retryAt := some (s.now + 1000000000) }).put (flatK k 0x0C) 5).onset 0xC 3 k

/-- The latch of the staged set with the surface's format, and of the newest witness buffer (R301, R303). -/
def State.latchScan (s : State) (k : Nat) : State :=
  let f := s.flat k
  let s := if f.scanCommit then
      let s := s.applyPending fun key => [6, 7, 8, 9].any fun sub => key == flatK k sub
      let src := s.get (flatK k 6)
      let surface := s.get (flatK k 7)
      s.setFlat k { f with
        scanCommit := false
        latched := some (src, surface, s.get (flatK k 8), s.get (flatK k 9), s.get (surfaceK surface 1)) }
    else s
  let f := s.flat k
  match f.latched with
  | some (1, _) => s.setFlat k { f with witness := if s.get 0x410011 = 1 ∧ !s.standby then s.media.witness else none }
  | _ => s

/-- 0x4C10.0F + k. -/
def State.commitsPending (s : State) (k : Nat) : Nat :=
  (if (s.flat k).scanCommit then 1 else 0) + (if (s.flat k).timingCommit then 2 else 0)

/-- An output that sends video or a timing blank scans frames. -/
def State.flatScans (s : State) (k : Nat) : Bool := s.flatState k == 3 || s.flatState k == 4

/-- A scan commit: refused with 0x0800_0022 where it stages the witness view while the witness is disabled (R303). -/
def State.scanRefused (s : State) (k : Nat) : Bool := s.readBack (flatK k 6) == 1 && s.get 0x410011 == 0

/-- A scan commit latches at the next line v_active, at once while no frame is scanned (log entry 40); so one requested in a
timing blank applies to the first new frame (R302). -/
def State.commitScan (s : State) (k : Nat) : State :=
  let s := s.setFlat k { s.flat k with scanCommit := true }
  if s.flatRuns k then s else s.latchScan k

/-- A frame period of a timing, in ns. -/
def timingPeriod (b : Bytes) : Nat := timingHTotal b * timingVTotal b * 1000000 / timingClock b

/-- A new timing takes effect (R302): a change of pixel clock blanks the output until a frame start of the new timing, within two
frame periods of the old one (Config.pixelRelock); else the new timing's first frame starts now. -/
def State.applyTiming (s : State) (k : Nat) : State :=
  let old := s.dom (flatK k 4)
  let s := s.applyPending fun key => key == flatK k 4
  let s := s.setFlat k { s.flat k with timingCommit := false, timingReady := false }
  if !s.flatRuns k then s
  else if timingClock (s.dom (flatK k 4)) = timingClock old then s.scansFrom k 0
  else
    let at_ := s.now + min (Config.pixelRelock k) (2 * timingPeriod old)
    (s.put (flatK k 0x0C) 4).setFlat k { s.flat k with scanAt := some (at_, 0), resumeAt := at_ }

/-- A timing commit applies at a frame's end, at once while no frame is scanned (log entry 40). -/
def State.commitTiming (s : State) (k : Nat) : State :=
  let s := s.setFlat k { s.flat k with timingCommit := true }
  if s.flatScans k then s else s.applyTiming k

/-- An output starts again: at a frame start with its latched set if it is trained, else it trains; outside Run it stays stopped
(R27, R304). -/
def State.restartFlat (s : State) (k : Nat) (retrain : Bool) : State :=
  if !s.flatOn k then s
  else
    let f := s.flat k
    if s.power.phase != .run then s.put (flatK k 0x0C) 6
    else if !f.hpd then s.put (flatK k 0x0C) 1
    else if f.trained && !retrain then s.startVideo k
    else (s.put (flatK k 0x0C) 2).setFlat k { f with trained := false, retryAt := some s.now }

/-- While its function is usable an output follows its enable, and a value stored before then, or a sink that came meanwhile,
is served when it is (R61, R298); an output that Sleep stopped restarts (R304). Where the result of a training is not given, FLAT_TRAINING_RETRY gives it. -/
def State.settleFlat (s : State) (k : Nat) (trained : Option Bool) : State :=
  let state := s.flatState k
  if !s.usable 0xC then s
  else if s.flatOn k then
    if state = 6 then s.restartFlat k false
    else if state = 1 ∧ (s.flat k).hpd then s.restartFlat k true
    else if state ≠ 0 then s
    else
      let s := s.setFlat k { s.flat k with underrunFrames := 0, underrunInFrame := false, scanAt := none }
      match trained with
      | some ok => if (s.flat k).hpd then s.trainFlat k ok else s.put (flatK k 0x0C) 1
      | none => s.restartFlat k true
  else if state = 0 then s
  else
    (s.setFlat k { s.flat k with trained := false, retryAt := none, scanAt := none }).put (flatK k 0x0C) 0

/-- In Run the PLL of the flat lanes is on while an output is enabled (R26). -/
def State.flatPll (s : State) : State :=
  if s.power.phase == .run then s.needPll .flatLanes (s.flatOn 0 || s.flatOn 1) else s

/-- A write of the output's enable (R298, R306). The first enabled output waits for the lanes' PLL (R26), and a disabled one
keeps its causes, each of which ends by its own rule alone (R307). -/
def State.enableFlat (s : State) (k v : Nat) (trained : Option Bool) : State :=
  ((s.put (flatK k 1) v).flatPll).settleFlat k trained

/-- HPD changes: rising starts training; low for more than 2 ms means that the sink is absent (R298). In Sleep and Off the
level is only followed (R27). -/
def State.changeHpd (s : State) (k : Nat) (high trained : Bool) : State :=
  (s.setFlat k { s.flat k with hpd := high }).awake fun s =>
  if high then
    let s := s.settle 0xC 4 k
    if s.flatOn k ∧ s.flatState k = 1 ∧ s.usable 0xC then s.trainFlat k trained else s
  else if !s.flatOn k || s.flatState k == 0 then s
  else
    let s := s.setFlat k { s.flat k with trained := false, retryAt := none, scanAt := none }
    (if s.power.phase == .run then s.put (flatK k 0x0C) 1 else s).onset 0xC 4 k

/-- An IRQ_HPD that reports lost link status causes a retrain (R298). -/
def State.irqHpd (s : State) (k : Nat) (lost trained : Bool) : State :=
  if s.flatOn k && s.usable 0xC && lost && s.flatScans k then s.trainFlat k trained else s

/-- The retry of a training that has not completed, every second (R298). -/
def State.retryFlat (s : State) (k : Nat) (trained : Bool) : State :=
  match (s.flat k).retryAt with
  | some at_ => if s.flatOn k && s.usable 0xC && decide (at_ ≤ s.now) then s.trainFlat k trained else s
  | none => s

/-! ### Frames (R300 to R303) -/

/-- The start of line v_active: the latch, the frame count, and the run of frames with underruns (R301, R307). In a timing blank no
frame is sent and none latches. DESIGN CHOICE (log entry 40): a frame is counted here, where its last active line has been sent. -/
def State.latchFrame (s : State) (k : Nat) : State :=
  if !s.flatRuns k || !s.usable 0xC then s
  else
    let s := s.latchScan k
    let f := s.flat k
    let run := if f.underrunInFrame then f.underrunFrames + 1 else 0
    let s := s.setFlat k { f with underrunInFrame := false, late := none, underrunFrames := run, timingReady := f.timingCommit, scanAt := some (s.now, timingField (s.dom (flatK k 4)) 4) }
    let s := (s.bump (flatK k 0x0E)).put (flatK k 0x0C) 3
    if run = 0 then s.settle 0xC 2 k else if 16 ≤ run then s.onset 0xC 2 k else s

/-- A line replaced by the background colour from its first late pixel on (R300). -/
def State.underrun (s : State) (k line pixel : Nat) : State :=
  if s.flatRuns k && s.usable 0xC then
    (s.bump (flatK k 0x10)).setFlat k { s.flat k with underrunInFrame := true, late := some (line, pixel) }
  else s

/-! ### Hold (R27, R296, R304) -/

/-- Entry to Hold: frames under way at the ports are given up, a running blit list pauses, the main links idle. -/
def State.haltMedia (s : State) : State :=
  let s := s.haltCameras
  let s := if s.get 0x430002 = 1 then s.put 0x430002 2 else s
  let one (s : State) (k : Nat) : State := if s.flatOn k then (s.put (flatK k 0x0C) 6).setFlat k { s.flat k with scanAt := none } else s
  [0, 1].foldl one s

/-- The return to Run: a paused list goes on, the outputs restart, and the CCI masters go on with what waits (R217). -/
def State.resumeMedia (s : State) : State :=
  ([0, 1].foldl (fun (s : State) k => s.restartFlat k false) s).resumeList.cciAll

/-- A function reset of 0xC: a list ends with state 0x04, and both outputs retrain with every value kept (R296, R304). -/
def State.resetFlats (s : State) : State :=
  let s := if s.get 0x430002 = 1 ∨ s.get 0x430002 = 2 then s.put 0x430002 4 else s
  let s := { s with media := { s.media with blitter := {} } }
  [0, 1].foldl (fun (s : State) k => s.restartFlat k true) s

/-! ### The commands' meanings: outputs are 0 and 1 -/

/-- FLAT_TRAINING_RETRY (R298). -/
def execFlatTrainingRetry (t output : Nat) (trained : Bool) (s : State) : Host.Outcome State Fault Refusal :=
  actIf (output < 2) t s fun s => s.retryFlat output trained

/-- HPD_CHANGE (R298). -/
def execHpdChange (t output : Nat) (high trained : Bool) (s : State) : Host.Outcome State Fault Refusal :=
  actIf (output < 2) t s fun s => s.changeHpd output high trained

/-- IRQ_HPD (R298). -/
def execIrqHpd (t output : Nat) (linkLost trained : Bool) (s : State) : Host.Outcome State Fault Refusal :=
  actIf (output < 2) t s fun s => s.irqHpd output linkLost trained

/-- SCAN_LATCH (R301). -/
def execScanLatch (t output : Nat) (s : State) : Host.Outcome State Fault Refusal :=
  actIf (output < 2) t s fun s => s.latchFrame output

/-- TIMING_APPLY (R302): a commit acknowledged before the start of line v_active applies at that frame's end. -/
def execTimingApply (t output : Nat) (s : State) : Host.Outcome State Fault Refusal :=
  actIf (output < 2) t s fun s =>
    if (s.flat output).timingReady && s.flatRuns output && s.usable 0xC then s.applyTiming output else s

/-- UNDERRUN_LINE (R300): lines are below the vertical total of any timing, 4,096, and the line's first late pixel below the
greatest active width, 3,840. -/
def execUnderrunLine (t output : Nat) (place : ScanPlace) (s : State) : Host.Outcome State Fault Refusal :=
  actIf (output < 2 && place.line < 4096 && place.pixel < 3840) t s fun s => s.underrun output place.line place.pixel

end Sys2Proof.Machine
end

