-- ==== Sys2Proof/Machine/Power.lean ====
section
/-!
DEFINITION. Sys2Proof/Machine/Power.lean: power states and their transitions (R25 to R31): entering Hold, leaving it once no
cause remains, Sleep and Off, wakes, collisions (R30).
-/

namespace Sys2Proof.Machine

/-- A change of power state with its Beacon entry (R28, R412, R472); the event follows at the command's end (R52). -/
def State.setPhase (s : State) (ph : Phase) : State :=
  let old := s.powerState
  let s := { s with power := { s.power with phase := ph } }
  if s.powerState = old then s
  else s.beaconAdd 9 0 (leBytes 1 old ++ leBytes 1 s.powerState ++ leBytes 1 s.holdCauses) []

/-- Carvers stop: a band in hand stays claimed and Queued (R20, R343). -/
def State.stopCarvers (s : State) : State :=
  { s with lift := { s.lift with carvers := s.lift.carvers.map fun c => { c with active := false, stopping := false, band := none } } }

/-- The domains that Hold stops (R25, R27). -/
def heldDomains : List PllDomain := [.carver, .media, .flatLanes]

/-- The PLLs of the domains that Hold stops are off (R26). -/
def State.stopPlls (s : State) : State :=
  heldDomains.foldl (fun (s : State) d => s.needPll d false) { s with power := { s.power with leavingHold := false } }

/-- Something in a clock domain is needed in Run (R26; log entry 14): the carvers and the media functions throughout, the flat lanes while an
output is enabled, the Ethernet lanes while a MAC is, the twin lanes of a pair. -/
def State.pllWanted (s : State) : PllDomain → Bool
  | .flatLanes => s.flatOn 0 || s.flatOn 1
  | .ethLanes => s.get 0x280001 == 1 || s.get 0x280002 == 1
  | .twinLanes => s.paired
  | _ => true

/-- PLLs of some domains start where they are needed. -/
def State.startPlls (s : State) (l : List PllDomain) : State :=
  (l.filter s.pllWanted).foldl (fun (s : State) d => s.needPll d true) s

/-- Hold is entered from Run, or what a Sleep or Off entry had begun is abandoned into it (R28, R30). DESIGN CHOICE (log entry 14): a
wake held during an entry that is abandoned, or that a later request replaces, stays held and is served at the end of the next entry. -/
def State.enterHold (s : State) : State :=
  match s.power.phase with
  | .run => ((s.stopCarvers.haltMedia).stopPlls).setPhase .hold
  | .enteringSleep | .enteringOff => ({ s with power := { s.power with later := none } }).setPhase .hold
  | _ => s.stopPlls

/-- Run is the state before a cause that arises now: an entry to Sleep or Off that began in Run has not left Run's place
(R28, R426; log entry 14). -/
def State.fromRun (s : State) : Bool :=
  match s.power.phase with
  | .run => true
  | .enteringSleep | .enteringOff => s.power.entryFrom == .run
  | _ => false

/-- With no cause left the return to Run begins: the stopped domains' PLLs lock, then a content-frame tick enters Run
(R28). -/
def State.tryLeaveHold (s : State) : State :=
  if s.power.phase == .hold && s.holdCauses == 0 && !s.power.leavingHold && s.get 0x213001 != 2 then
    ({ s with power := { s.power with leavingHold := true } }).startPlls heldDomains
  else s

/-- L_eff has returned to L_cfg: bits 0, 1 and 3 of the causes fall and cause 0x01 clears (R355, R358). -/
def State.atConfigured (s : State) : State :=
  if s.get 0x211002 = s.get 0x211001 then (s.put 0x211008 (s.get 0x211008 &&& 4)).settleAll 1 1 else s

/-- L_eff climbs from 6.0 W after a trip or a power failure, unless it stands at L_cfg (R342, R355). -/
def State.climbing (s : State) : State :=
  if s.get 0x211002 = s.get 0x211001 then s.atConfigured else s.put 0x211008 (s.get 0x211008 ||| 8)

/-- What Run starts with: no frame of tile work before its first tick (R351), and after a trip L_eff at 6.0 W, to climb by the step-up
rule (R342). -/
def State.startRun (s : State) : State :=
  let s : State := { s with lift := { s.lift with haveFrame := false } }
  if s.power.slowStart then
    let s := (s.put 0x211002 6000).climbing
    { s with lift := { s.lift with clearSince := s.now }, power := { s.power with slowStart := false } }
  else s

/-- At a content-frame tick after lock, Run is entered (R28). -/
def State.enterRun (s : State) : State :=
  if s.power.phase == .hold && s.power.leavingHold && heldDomains.all (fun d => !s.power.locking.contains d) && s.holdCauses == 0 then
    let s := ({ s with power := { s.power with leavingHold := false } }).setPhase .run
    s.resumeMedia.startRun
  else s

/-- A host request for Sleep or Off begins an entry (R28). -/
def State.beginEntry (s : State) (ph : Phase) : State :=
  let from_ := s.power.phase
  let s := if from_ == .run then s.stopCarvers.haltMedia else s
  ({ s with power := { s.power with leavingHold := false, entryFrom := from_, later := none } }).setPhase ph

/-- R30, R437, R394: why a power-state request is refused: PFAIL_N asserted, waiting for reset, a calibration run, or
Sleep or Off of a pair's active member. -/
def State.powerRefused (s : State) (v : Nat) : Bool :=
  s.power.pfailHold || s.get 0x213001 != 0 || s.cal.run.isSome || ((v == 2 || v == 3) && (s.pair.role == 1 || s.memory.migration.isSome))

/-- A host request through 0x2100.02 that R30 does not refuse: 0 Run, 1 Hold, 2 Sleep, 3 Off. A request during an entry
that has stopped a domain waits for its completion; otherwise it replaces the entry (R30). -/
def State.powerRequest (s : State) (v : Nat) : State :=
  let s := s.put 0x210002 v
  let entering := s.power.phase == .enteringSleep || s.power.phase == .enteringOff
  if entering && s.power.entryFrom == .run then { s with power := { s.power with later := some v } }
  else
    let s := if entering then s.setPhase .hold else s
    match v with
    | 0 => ({ s with power := { s.power with hostHold := false } }).tryLeaveHold
    | 1 => ({ s with power := { s.power with hostHold := true } }).enterHold
    | 2 => s.beginEntry .enteringSleep
    | _ => s.beginEntry .enteringOff

/-- A wake starts: it is held while PFAIL_N is recognised or low, or while an entry is under way (R28, R30, R428). -/
def State.wake (s : State) : State :=
  match s.power.phase with
  | .enteringSleep | .enteringOff => { s with power := { s.power with wakeHeld := true } }
  | .sleep | .off =>
    if s.power.pfailLow then { s with power := { s.power with wakeHeld := true } }
    else
      let off := s.power.phase == .off
      let s := (s.send (.pin .pwrEnCore true)).send (.pin .pwrEnDdr true)
      { s with power := { s.power with
          wakeHeld := false, waking := true
          nextCause := if off then some 6 else if s.power.dramLost then some 7 else s.power.nextCause } }
  | _ => s

/-- A wake that waited is served (R30, R428). -/
def State.serveHeldWake (s : State) : State := if s.power.wakeHeld then s.wake else s

/-- The timed outputs are held inactive in Sleep and Off (R373, R454). -/
def State.quietOutputs (s : State) : State :=
  (List.range 8).foldl (fun (s : State) n =>
    let o : TimeOut := nth s.net.outs n {}
    if o.active then
      ({ s with net := { s.net with outs := setNth s.net.outs n { o with active := false } } }).send (.pin (.timeOut n) (o.polarity == 1))
    else s) s

/-- The MACs stop, and what waits in their queues is lost. DESIGN CHOICE (log entry 31). -/
def State.quietMacs (s : State) : State := { s with tx := { s.tx with macs := [{}, {}] } }

/-- A trip with no valid sensor left clears only at a full reset (R337), whatever R29 says of entries. -/
def State.tripStays (s : State) : Bool := s.power.tripHold && s.lift.invalid.all id

/-- Entry to Sleep or Off completes: the Beacon is flushed, the host-request and trip causes end, the enables fall, and a
held wake or a later request is served (R28, R29, R30, R388, R422). DESIGN CHOICE (log entry 14): the wake timer counts from here,
the completion of the entry; and a Sleep request that waited for an Off entry is dropped, since R28 has no transition from Off to
Sleep. -/
def State.completeEntry (s : State) : State :=
  match s.power.phase with
  | .enteringSleep | .enteringOff =>
    let off := s.power.phase == .enteringOff
    let s := if s.tripStays then s.flush else (s.flush).settleAll 1 2
    let s := { s with power := { s.power with
        phase := if off then .off else .sleep, hostHold := false, tripHold := s.tripStays, plls := [], locking := []
        wakeTimerArmed := if s.get 0x210005 = 0 then none else some (s.now + s.get 0x210005 * 1000000000) } }
    let s := s.send (.pin .pwrEnCore false)
    let s := if off then (s.send (.pin .pwrEnDdr false)).send (.pin .xspiResetN false) else s.send (.dram 16 2 1)
    let s := (((s.send (.pin .hbTx false)).stopPanel).stopTwin).quietOutputs.quietMacs
    match s.power.later with
    | some 3 =>
      let s := if off then s else (s.send (.pin .pwrEnDdr false)).send (.pin .xspiResetN false)
      ({ s with power := { s.power with phase := .off, later := none } }).serveHeldWake
    | some 2 => ({ s with power := { s.power with later := none } }).serveHeldWake
    | some v => ({ s with power := { s.power with later := none, hostHold := v == 1 } }).wake
    | none => s.serveHeldWake
  | _ => s

/-- The last cause has cleared: the return to Run begins if Run was the state before that cause arose (R28). -/
def State.causeCleared (s : State) (fromRun : Bool) : State := if fromRun then s.tryLeaveHold else s

/-- The thermal trip clears: every sensor has read below the throttle threshold for 16 ms (R29). With no valid sensor left
it clears only at a full reset (R337). -/
def State.clearTrip (s : State) : State :=
  match s.power.coolSince with
  | some c =>
    if s.power.tripHold && decide (c + 16000000 ≤ s.now) && s.lift.invalid.any (fun b => !b) then
      let s := ({ s with power := { s.power with tripHold := false } }).settleAll 1 2
      let s := { s.climbing with lift := { s.lift with clearSince := s.now } }
      s.causeCleared s.power.tripFromRun
    else s
  | none => s

/-! ### The commands' meanings -/

/-- POWER_ENTRY_COMPLETE (R28). -/
def execPowerEntryComplete (t : Nat) (s : State) : Host.Outcome State Fault Refusal := act t s State.completeEntry

/-- THERMAL_TRIP_CLEAR (R29). -/
def execThermalTripClear (t : Nat) (s : State) : Host.Outcome State Fault Refusal := act t s State.clearTrip

/-- CAN_WAKE (R31): a frame addressed to the node on an enabled wake port; ports are 0 and 1. -/
def execCanWake (t port : Nat) (s : State) : Host.Outcome State Fault Refusal :=
  actIf (port < 2) t s fun s => if bitOf (s.get 0x210004) port then s.wake else s

/-- WAKE_TIMER_EXPIRY (R31): the timer runs from the entry to Sleep or Off, and 0 disables it. -/
def execWakeTimerExpiry (t : Nat) (s : State) : Host.Outcome State Fault Refusal :=
  act t s fun s =>
    match s.power.wakeTimerArmed with
    | some at_ =>
      if bitOf (s.get 0x210004) 2 && decide (at_ ≤ s.now) then
        ({ s with power := { s.power with wakeTimerArmed := none } }).wake
      else s
    | none => s

end Sys2Proof.Machine
end

