-- ==== Sys2Proof/Machine/Scene.lean ====
section
/-!
DEFINITION. Sys2Proof/Machine/Scene.lean: what contributes to the rays: the views that layers, substitutes and fill planes
give (R67, R89, R90), their reach over the panel (R132), occlusion (R130, R131), and the tiles marked changed.
-/

namespace Sys2Proof.Machine

/-! ### The panel -/

/-- The geometry block and the entries of the active bank (R98). -/
def State.activeGeometry (s : State) : Bytes := match s.banks.active with | some b => nth s.banks.geometry b [] | none => []
def State.activeEntries (s : State) : Bytes := match s.banks.active with | some b => nth s.banks.entries b [] | none => []

/-- A ray is live, unless its lenslet's entry is poisoned in both copies (R104, R329). -/
def State.rayLive (s : State) (r : RayRec) : Bool := r.live && !s.banks.poisoned.contains r.lens

/-- The active bank's geometry, if a bank is active. -/
def State.geometry (s : State) : Option Geometry := s.banks.active.map fun b => Geometry.ofBytes (nth s.banks.geometry b [])

/-- Tile columns and rows of the panel (R95); none without an active bank. -/
def State.tileColumns (s : State) : Nat := match s.geometry with | some g => 120 * g.moduleColumns | none => 0
def State.tileRows (s : State) : Nat := match s.geometry with | some g => 135 * g.moduleRows | none => 0
def State.tileTotal (s : State) : Nat := s.tileColumns * s.tileRows

/-- Column, row, module and class of a tile number. -/
def State.tileX (s : State) (t : Nat) : Nat := t % s.tileColumns
def State.tileY (s : State) (t : Nat) : Nat := t / s.tileColumns
def State.tileModule (s : State) (t : Nat) : Nat := s.tileY t / 135 * 8 + s.tileX t / 120
def State.tileNo (s : State) (x y : Nat) : Nat := y * s.tileColumns + x
def State.classOf (s : State) (t : Nat) : Nat := tileClass s.descriptor (s.tileX t) (s.tileY t)

/-- The tiles of a rectangle of a module, row by row. -/
def State.moduleTiles (s : State) (module column row columns rows : Nat) : List Nat :=
  let x0 := module % 8 * 120 + column
  let y0 := module / 8 * 135 + row
  (List.range rows).flatMap fun j => (List.range columns).map fun i => s.tileNo (x0 + i) (y0 + j)

/-- The tiles of a region inside the panel. -/
def State.regionTiles (s : State) (r : Region) : List Nat :=
  (r.tiles.filter fun p => decide (p.1 < s.tileColumns) && decide (p.2 < s.tileRows)).map fun p => s.tileNo p.1 p.2

/-! ### Views -/

/-- One contributor to the rays: a layer's content, or the fill plane that stands for it. -/
structure View where
  pos : Nat
  l : Layer
  fill : Bool
  width : Nat
  height : Nat
  texels : List Nat
  content : Bytes
  format : Nat
  depth : Option DepthPicture
  /-- Scene blocks of a surface flagged not opaque (R329), by raster number. -/
  cloudy : List Nat := []
  /-- Texels that read transparent black for want of good data (R329), by raster number. -/
  holes : List Nat := []
  deriving DecidableEq, Repr

/-- A layer's run state. -/
def State.run (s : State) (n : Nat) : LayerRun := nth s.scene.layers n {}
def State.setRun (s : State) (n : Nat) (r : LayerRun) : State := { s with scene := { s.scene with layers := setNth s.scene.layers n r } }

/-- A video layer's view with a picture and its depth. -/
def videoView (n : Nat) (l : Layer) (pic : Option Picture) (depth : Option DepthPicture) : View :=
  { pos := n, l, fill := false, width := (pic.map (·.width)).getD 0, height := (pic.map (·.height)).getD 0
    texels := (pic.map (·.rgb)).getD [], content := [], format := 0, holes := (pic.map (·.holes)).getD []
    depth := if l.geometry = 2 then depth else none }

/-- A layer's own content as a view: its shown picture, or its surface as it stands. -/
def State.viewOf (s : State) (n : Nat) : View :=
  let l := s.layer n
  if l.kind = 3 then
    { pos := n, l, fill := false, width := s.get (surfaceK l.colour 2), height := s.get (surfaceK l.colour 3)
      texels := [], content := s.dom (surfaceK l.colour 4), format := s.get (surfaceK l.colour 1), depth := none
      cloudy := (nth s.scene.surfaces l.colour {}).notOpaque, holes := (nth s.scene.surfaces l.colour {}).holes }
  else videoView n l (nth s.media.shown n none) (nth s.media.shownDepth n none)

def State.fillView (s : State) (n : Nat) : View :=
  { pos := n, l := { s.layer n with geometry := 0 }, fill := true, width := 0, height := 0, texels := [], content := []
    format := 0, depth := none }

/-- A graphic layer's surface has been written since allocation (R88). -/
def State.graphicReady (s : State) (n : Nat) : Bool := s.get (surfaceK (s.layer n).colour 5) == 1

/-- A graphic layer can be shown as a substitute target: its surface was written at the latest tick, and is allocated still (R88, R90). -/
def State.targetReady (s : State) (n : Nat) : Bool := (s.run n).written && s.graphicReady n

/-- Positions whose layer is shown as a substitute target by some enabled layer (R90). -/
def State.substituteOf (s : State) (n : Nat) : Bool :=
  (List.range 16).any fun m => m != n && s.layerOn m && (s.run m).state == 4 && (s.layer m).substitute == n

/-- What contributes to the rays of the moment, by position (R67, R89, R90). -/
def State.views (s : State) : List View :=
  (List.range 16).filterMap fun n =>
    let st := (s.run n).state
    if s.layerOn n && (st == 1 || st == 2) then some (s.viewOf n)
    else if s.layerOn n && st == 4 && (s.layer n).substitute == 0x80 then some (s.fillView n)
    else if (s.layer n).kind == 3 && s.substituteOf n && s.targetReady n then some (s.viewOf n)
    else none

/-- What contributes to the rays of a tile: outside the safety regions that bind it, a layer with a frame newer than the tick's shows the
tick's (R88, R91). -/
def State.viewsAt (s : State) (t : Nat) : List View :=
  s.views.map fun v =>
    match nth s.media.tickShown v.pos none with
    | none => v
    | some old =>
      let bound := (regionsOf s.descriptor).any fun r => r.cls == 0 && r.bound == v.pos && r.holdsTile (s.tileX t) (s.tileY t)
      if v.fill || v.l.kind == 3 || bound then v else videoView v.pos v.l old.1 old.2

/-! ### Reach (R130, R132): lengths in units of 2^-24 pixel -/

/-- The depth range of a view, s12.4 (R130). -/
def View.depthRange (v : View) : Int × Int :=
  let l := v.l
  if l.geometry = 1 then
    let w : Int := l.destX + l.destW
    let h : Int := l.destY + l.destH
    let c := fun (x y : Int) => tiltedDepth l.z0 l.gx l.gy l.destX l.destY x y
    let zs := [c l.destX l.destY, c w l.destY, c l.destX h, c w h]
    (zs.foldl min (c w h) - 1, zs.foldl max (c w h) + 1)
  else match v.depth with
    | some d =>
      match d.z with
      | [] => (l.z0, l.z0)
      | z :: zs => (zs.foldl min z, zs.foldl max z)
    | none => (l.z0, l.z0)

def View.zMax (v : View) : Nat := max v.depthRange.1.natAbs v.depthRange.2.natAbs

/-- Destination, crop and picture sizes of a view on an axis. -/
def View.dest (v : View) (axis : Nat) : Int := if axis = 0 then v.l.destX else v.l.destY
def View.destSize (v : View) (axis : Nat) : Nat := if axis = 0 then v.l.destW else v.l.destH
def View.cropAt (v : View) (axis : Nat) : Nat := if axis = 0 then v.l.cropX else v.l.cropY
def View.cropSize (v : View) (axis : Nat) : Nat := if axis = 0 then v.l.cropW else v.l.cropH

/-- What the active bank gives the rays on an axis: pitch, view step, greatest slope and offset, and the settings of R121. -/
structure Optics where
  pitch : Nat
  d : Int
  sMax : Nat
  oMax : Nat
  gain : Nat
  t0 : Nat
  t1 : Nat
  t2 : Nat
  deriving DecidableEq, Repr

def State.optics (s : State) (axis : Nat) : Optics :=
  { pitch := byteAt s.activeGeometry (4 + axis), d := s.geti 32 (0x41000B + axis), sMax := (s.geti 32 (0x41000D + axis)).natAbs
    oMax := s.get (0x41000F + axis), gain := s.get 0x410008, t0 := s.get 0x410005, t1 := s.get 0x410006, t2 := s.get 0x410007 }

/-- The largest tap stride that a ray can use on a view (R130). -/
def View.strideMax (v : View) (o : Optics) (axis : Nat) : Nat :=
  let f := footPx (o.pitch * 5120) (v.zMax : Int) o.d o.gain
  (setAndStride (footTex f (v.cropSize axis) (v.destSize axis)) o.t0 o.t1 o.t2).2

/-- The filter half-support (R130, R132). -/
def View.half (v : View) (o : Optics) (axis : Nat) : Nat :=
  if v.fill then 0
  else if v.l.kind = 3 then 2 ^ 24
  else (4 * v.strideMax o axis * v.destSize axis * 4096 + v.cropSize axis - 1) / v.cropSize axis

/-- How far a tile is grown for a view on an axis (R132). -/
def View.grow (v : View) (o : Optics) : Nat := o.pitch * 2 ^ 23 + o.oMax * 2 ^ 16 + v.zMax * o.sMax

/-- A view's crop rectangle on the panel, grown by its half-support, meets a span of pixels grown on one axis (R132). -/
def View.meets (v : View) (o : Optics) (axis lo hi : Nat) : Bool :=
  let a : Int := v.dest axis * 4096
  let b : Int := (v.dest axis + v.destSize axis) * 4096
  let h : Int := v.half o axis
  let g : Int := v.grow o
  decide (a - h < (hi : Int) * 2 ^ 24 + g) && decide ((lo : Int) * 2 ^ 24 - g < b + h)

/-- The tiles to which a view contributes, occlusion apart (R132). -/
def State.reach (s : State) (v : View) : List Nat :=
  let xs := (List.range s.tileColumns).filter fun x => v.meets (s.optics 0) 0 (16 * x) (16 * x + 16)
  let ys := (List.range s.tileRows).filter fun y => v.meets (s.optics 1) 1 (8 * y) (8 * y + 8)
  ys.flatMap fun y => xs.map fun x => s.tileNo x y

def State.reaches (s : State) (v : View) (t : Nat) : Bool :=
  v.meets (s.optics 0) 0 (16 * s.tileX t) (16 * s.tileX t + 16) && v.meets (s.optics 1) 1 (8 * s.tileY t) (8 * s.tileY t + 8)

/-! ### Texels (R73, R74, R119, R123, R124) -/

/-- Bytes per texel of a surface format (R73). -/
def texelBytes (format : Nat) : Nat := if format = 1 ∨ format = 2 then 2 else if format = 3 then 3 else 4

/-- A texel's component (0 red, 1 green, 2 blue, 3 alpha) widened to 16 bits, from its little-endian word (R73, R74). -/
def surfaceComponent (format word k : Nat) : Nat :=
  match format with
  | 1 => if k = 0 then widen16 5 (word / 2048 % 32) else if k = 1 then widen16 6 (word / 32 % 64) else if k = 2 then widen16 5 (word % 32) else 0xFFFF
  | 2 => widen16 4 (word / (if k = 3 then 4096 else if k = 0 then 256 else if k = 1 then 16 else 1) % 16)
  | 3 => if k = 3 then 0xFFFF else widen16 8 (word / 256 ^ (2 - k) % 256)
  | 4 => widen16 8 (word / (if k = 3 then 2 ^ 24 else 256 ^ (2 - k)) % 256)
  | _ => if k = 3 then widen16 2 (word / 2 ^ 30 % 4) else widen16 10 (word / 1024 ^ (2 - k) % 1024)

/-- The word of texel (x, y) of a surface's content. -/
def surfaceWord (content : Bytes) (format width x y : Nat) : Nat :=
  fieldLE content ((y * width + x) * texelBytes format) (texelBytes format)

/-- A format carries alpha (R73). -/
def hasAlpha (format : Nat) : Bool := format == 2 || format == 4 || format == 5

/-- The texel of a view at integer coordinates for one component; transparent outside crop and picture, and where it arrives poisoned
(R68, R119, R329). -/
def View.texel (v : View) (comp : Nat) (i j : Int) : Texel :=
  let l := v.l
  let inCrop := decide ((l.cropX : Int) ≤ i ∧ i < l.cropX + l.cropW) && decide ((l.cropY : Int) ≤ j ∧ j < l.cropY + l.cropH)
  if !inCrop || decide ((v.width : Int) ≤ i) || decide ((v.height : Int) ≤ j) || v.holes.contains (j.toNat * v.width + i.toNat) then ⟨0, 0⟩
  else if l.kind = 3 then
    let w := surfaceWord v.content v.format v.width i.toNat j.toNat
    graphicTexel (surfaceComponent v.format w comp) (surfaceComponent v.format w 3) (hasAlpha v.format) (bitOf l.flags 0) (bitOf l.flags 2)
  else
    let px := (v.texels[j.toNat * v.width + i.toNat]?).getD 0
    ⟨widen16 10 (px / 1024 ^ (2 - comp) % 1024), 65536⟩

/-! ### Occlusion (R130, R131) -/

/-- The scene block of a texel of a surface of a width, by raster number (R130). -/
def blockOfTexel (w n : Nat) : Nat := n / w / 16 * ((w + 15) / 16) + n % w / 16

/-- A scene block of a near view is opaque (R130). DESIGN CHOICE (log entry 85): a video block inside its picture stays opaque where a texel
arrives poisoned, since R329 takes the flag only from graphic blocks. -/
def View.blockOpaque (v : View) (bx by_ : Nat) : Bool :=
  if v.l.kind = 3 then
    !v.cloudy.contains (by_ * ((v.width + 15) / 16) + bx) && (List.range 256).all fun i =>
      let x := 16 * bx + i % 16
      let y := 16 * by_ + i / 16
      decide (v.width ≤ x) || decide (v.height ≤ y)
        || decide (fullAlpha (surfaceComponent v.format (surfaceWord v.content v.format v.width x y) 3) (!hasAlpha v.format || bitOf v.l.flags 2) = 65536)
  else decide (16 * bx + 16 ≤ v.width) && decide (16 * by_ + 16 ≤ v.height)

/-- The greatest slope of the witness rays on an axis (R130, R134). -/
def State.witnessSlope (s : State) (axis : Nat) : Nat :=
  match s.geometry with
  | none => 0
  | some g =>
    let eye := fun (k : Nat) => if s.get k = 0x7FFFFFFF then none else some (s.geti 32 k)
    let z := s.witnessSize
    let ray := fun (i j : Nat) => witnessRay g (eye 0x410012) (eye 0x410013) (s.get 0x410014) i j
    let a := ray 0 0
    let b := ray (z.1 - 1) (z.2 - 1)
    if axis = 0 then max a.sx.natAbs b.sx.natAbs else max a.sy.natAbs b.sy.natAbs

/-- The slope of R130's parallax margin on an axis. -/
def State.marginSlope (s : State) (axis : Nat) : Nat :=
  let m := (s.optics axis).sMax
  if s.get 0x410011 = 1 then max m (s.witnessSlope axis) else m

/-- Whole pixels, rounded up, of a length in units of 2^-24 pixel. -/
def ceilPx (x : Nat) : Nat := (x + 2 ^ 24 - 1) / 2 ^ 24

/-- The grown region of a far view's block on an axis, in s20.12 pixels (R130). -/
def State.grownSpan (s : State) (f n : View) (axis b : Nat) : Int × Int :=
  let o := s.optics axis
  let c : Int := f.cropSize axis
  let p0 := f.dest axis + ((16 * b : Nat) - (f.cropAt axis : Int)) * f.destSize axis / c
  let p1 := f.dest axis - ((f.cropAt axis : Int) - (16 * b + 16 : Nat)) * f.destSize axis / c
  let m := ((n.depthRange.2 - f.depthRange.1).toNat * s.marginSlope axis)
  let g : Int := ((ceilPx (f.half o axis) + ceilPx m + ceilPx (n.half o axis) : Nat) : Int) * 4096
  (p0 - g, p1 + g)

/-- The scene blocks of a near view that a span on an axis overlaps: first and last. -/
def View.blocksUnder (v : View) (axis : Nat) (span : Int × Int) : Nat × Nat :=
  let c : Int := v.cropSize axis
  let d : Int := v.destSize axis
  let u0 := ((v.cropAt axis : Int) * d + (span.1 - v.dest axis) * c) / d
  let u1 := -((-((v.cropAt axis : Int) * d + (span.2 - v.dest axis) * c)) / d) - 1
  (u0.toNat / 16, u1.toNat / 16)

/-- A near view hides a block of a far view (R130). -/
def State.hides (s : State) (n f : View) (bx by_ : Nat) : Bool :=
  let st := if (s.run n.pos).stale then 5 else (s.run n.pos).state
  if n.fill || n.pos == f.pos || !(st == 1 || st == 2) || n.l.opacity != 65536 || decide (n.depthRange.1 ≤ f.depthRange.2) then false
  else
    let sx := s.grownSpan f n 0 bx
    let sy := s.grownSpan f n 1 by_
    let inside := fun (axis : Nat) (sp : Int × Int) => decide (n.dest axis ≤ sp.1) && decide (sp.2 ≤ n.dest axis + n.destSize axis)
    if inside 0 sx && inside 1 sy then
      let bxs := n.blocksUnder 0 sx
      let bys := n.blocksUnder 1 sy
      (List.range (bys.2 + 1 - bys.1)).all fun j => (List.range (bxs.2 + 1 - bxs.1)).all fun i => n.blockOpaque (bxs.1 + i) (bys.1 + j)
    else false

/-- A block of a far view is not fetched (R130); a fill plane has no blocks. -/
def State.skipped (s : State) (vs : List View) (f : View) (bx by_ : Nat) : Bool :=
  s.get 0x41000A == 1 && !f.fill && vs.any fun n => s.hides n f bx by_

/-- The blocks of a view that a tile's rays can reach, on one axis: first and how many (R131). -/
def View.reachable (v : View) (o : Optics) (axis lo hi : Nat) : Nat × Nat :=
  let g : Int := ((v.grow o + v.half o axis : Nat) : Int)
  let p0 := max (v.dest axis) (((lo : Int) * 2 ^ 24 - g) / 4096)
  let p1 := min (v.dest axis + v.destSize axis) (((hi : Int) * 2 ^ 24 + g + 4095) / 4096)
  let u := fun (p : Int) => texCoord p (v.dest axis) (v.cropAt axis) (v.cropSize axis) (v.destSize axis)
  let b0 := (u p0 / 4096).toNat / 16
  let b1 := max b0 (((u p1 - 1) / 4096).toNat / 16)
  (b0, b1 + 1 - b0)

/-- The blocks of a view that a tile's rays can reach. -/
def State.blocksOf (s : State) (v : View) (t : Nat) : List (Nat × Nat) :=
  let xs := v.reachable (s.optics 0) 0 (16 * s.tileX t) (16 * s.tileX t + 16)
  let ys := v.reachable (s.optics 1) 1 (8 * s.tileY t) (8 * s.tileY t + 8)
  (List.range ys.2).flatMap fun j => (List.range xs.2).map fun i => (xs.1 + i, ys.1 + j)

/-- A tile's contributing views after occlusion skipping (R131, R132). -/
def State.contributors (s : State) (vs : List View) (t : Nat) : List View :=
  vs.filter fun v => s.reaches v t && (v.fill || (s.blocksOf v t).any fun b => !s.skipped vs v b.1 b.2)

/-! ### Tiles marked changed -/

/-- Tiles are marked changed, each with the instant of its mark; a tile already marked keeps it. -/
def State.mark (s : State) (tiles : List Nat) : State :=
  let new := tiles.eraseDups.filter fun t => s.scene.changed.all fun c => c.1 != t
  { s with scene := { s.scene with changed := s.scene.changed ++ new.map fun t => (t, s.now) } }

def State.markAll (s : State) : State := s.mark (List.range s.tileTotal)

/-- After a change of what contributes, the tiles that a view of before or after reaches and that the other lacks. -/
def State.diffTiles (s : State) (before : List View) : List Nat :=
  let now := s.views
  let gone := before.filter fun v => !now.contains v
  let come := now.filter fun v => !before.contains v
  ((gone ++ come).flatMap s.reach).eraseDups

def State.markDiff (s : State) (before : List View) : State := s.mark (s.diffTiles before)

/-- Tiles that a re-render between ticks left for the tick (R88, R91). -/
def State.markLater (s : State) : State := { s.mark s.scene.later with scene := { (s.mark s.scene.later).scene with later := [] } }

/-! ### Readiness at a tick (R88 to R90, R93) -/

/-- A depth picture serves a colour picture of its size, undamaged (R119). -/
def depthServes (flag : Bool) (p : Picture) (d : DepthPicture) : Bool :=
  d.width == p.width && d.height == p.height && !d.damaged && (flag || !d.concealed)

/-- The content that makes a video layer ready at an instant of PTP time (R88). -/
def State.pickVideo (s : State) (n tick : Nat) : Option (Picture × Option DepthPicture) :=
  let l := s.layer n
  let depths := nth s.media.layerDepth n []
  let concealed := bitOf l.flags 1
  let fresh := fun (time : Nat) => decide (tick ≤ time + l.ageMs * 1000000)
  if l.kind = 1 then
    if !s.slotRuns l.colour || (l.geometry == 2 && !s.slotRuns l.depth) then none
    else
      let due := (s.slot l.colour).pictures.foldl (fun (b : Option Picture) p =>
        if p.time ≤ tick then (match b with | none => some p | some q => if q.time ≤ p.time then some p else some q) else b) none
      match due with
      | none => none
      | some p =>
        if p.damaged || (p.concealed && !concealed) || !fresh p.time then none
        else if l.geometry = 2 then
          ((depths.find? fun d => d.time == p.time).filter (depthServes concealed p)).map fun d => (p, some d)
        else some (p, none)
  else
    let usable := (s.cam l.colour).pictures.filterMap fun p =>
      if !fresh p.endTime || decide (tick < p.endTime) then none
      else if l.geometry = 2 then ((depths.find? fun d => d.seq == p.seq).filter (depthServes concealed p)).map fun d => (p, some d)
      else some (p, none)
    usable.getLast?

/-- The state reported in 0x4001 (R87, R92). -/
def State.layerState (s : State) (n : Nat) : Nat := if (s.run n).stale then 5 else (s.run n).state

/-- A transition of R93 to hidden, substituted or stale, or back to ready, goes into the Beacon record. -/
def State.layerEntry (s : State) (n old : Nat) : State :=
  let new := s.layerState n
  if new ≠ old ∧ ([3, 4, 5].contains new ∨ (new = 1 ∧ [3, 4, 5].contains old)) then
    s.beaconAdd 7 0 (leBytes 1 n ++ leBytes 1 new ++ [0, 0] ++ leBytes 4 (s.get (0x400301 + n))) []
  else s

/-- What a layer that is not ready does at an instant (R89): 2 holding, 3 hidden, 4 substituted. -/
def State.policyState (s : State) (n since tick : Nat) : Nat :=
  let l := s.layer n
  let replaced := if l.substitute = 0xFF then 3 else 4
  let held := if l.kind = 3 then (s.run n).heldAlloc != 0 && (s.run n).heldAlloc == (nth s.scene.surfaces l.colour {}).allocations
    else (nth s.media.shown n none).isSome
  match l.policy with
  | 0 => if held && (l.holdMs == 0 || decide (tick < since + l.holdMs * 1000000)) then 2 else replaced
  | 1 => 3
  | _ => replaced

/-- A layer wants its substitute target shown: it is enabled, not ready, and replaced (R89). -/
def State.wantsTarget (s : State) (tick m n : Nat) : Bool :=
  s.layerOn m && (s.layer m).substitute == n
    && (match (s.run m).notReadySince with | some since => s.policyState m since tick == 4 | none => false)

/-- A position is a substitute target: some layer wants it that is not itself a target that is hidden (R90). The spec does not say
what two layers do that name each other: the odd depth of the search hides both (log entry 85). -/
def State.targeted (s : State) (tick : Nat) : Nat → Nat → Bool
  | 0, _ => false
  | d + 1, n => (List.range 16).any fun m => m != n && s.wantsTarget tick m n && !s.targeted tick d m

/-- A position has no content: none to show, and none held (R89, R90). -/
def State.showNothing (s : State) (n : Nat) : State :=
  { s with media := { s.media with
      shown := setNth s.media.shown n none, shownDepth := setNth s.media.shownDepth n none, tickShown := setNth s.media.tickShown n none } }

/-- A layer takes content and is ready (R88). -/
def State.showLayer (s : State) (n : Nat) (c : Option (Picture × Option DepthPicture)) : State :=
  let r := s.run n
  let s := match c with
    | some (p, d) =>
      { s.put (0x400301 + n) p.seq with media := { s.media with
          shown := setNth s.media.shown n (some p), shownDepth := setNth s.media.shownDepth n d } }
    | none => s
  s.setRun n { r with state := 1, notReadySince := none, heldAlloc := (nth s.scene.surfaces (s.layer n).colour {}).allocations }

/-- The readiness of one enabled layer at a tick (R88). -/
def State.judgeLayer (s : State) (tick n : Nat) : State :=
  if !s.layerOn n then s
  else
    let kind := (s.layer n).kind
    let content := if kind = 3 then none else s.pickVideo n tick
    let ready := if kind = 3 then s.graphicReady n else content.isSome
    if ready then s.showLayer n content
    else (s.bump (0x400201 + n)).setRun n { s.run n with notReadySince := some ((s.run n).notReadySince.getD tick) }

/-- The state of a position (R87, R89, R90): an enabled layer that is not ready follows its policy, unless it is a substitute
target, which is hidden; a position not enabled is shown or hidden as a target, else disabled. 0x4002 counts the ticks at which an
enabled layer was not ready, not those of a target that is not itself enabled (DESIGN CHOICE, log entry 85). -/
def State.judgeTarget (s : State) (tick n : Nat) : State :=
  if s.layerOn n then
    match (s.run n).notReadySince with
    | some since => s.setRun n { s.run n with state := if s.targeted tick 17 n then 3 else s.policyState n since tick }
    | none => s
  else
    let st := if (s.layer n).kind == 3 && s.targeted tick 17 n then (if s.targetReady n then 1 else 3) else 0
    s.setRun n { s.run n with state := st, notReadySince := none }

/-- Every position's state at an instant, with the transitions of R93 from the states that stood before. -/
def State.judgeTargets (s : State) (tick : Nat) (before : State) : State :=
  let s := (List.range 16).foldl (fun s n => s.judgeTarget tick n) s
  (List.range 16).foldl (fun s n => s.layerEntry n (before.layerState n)) s

/-- A tick: which graphic surfaces have been written (R88), and no tile shows an earlier tick's content. -/
def State.beginTick (s : State) : State :=
  let s := (List.range 16).foldl (fun (s : State) n => s.setRun n { s.run n with written := (s.layer n).kind == 3 && s.graphicReady n }) s
  { s with media := { s.media with tickShown := List.replicate 16 none } }

/-- Every layer's readiness at a tick; `before` is the state before the tick's commit. -/
def State.judge (s : State) (tick : Nat) (before : State) : State :=
  let s := s.beginTick
  ((List.range 16).foldl (fun s n => s.judgeLayer tick n) s).judgeTargets tick before

/-! ### Staleness (R92) -/

/-- The least stale limit, in ns, of the safety regions that bind a position. -/
def State.staleLimit (s : State) (n : Nat) : Option Nat :=
  let ls := ((regionsOf s.descriptor).filter fun r => r.cls == 0 && r.bound == n).map fun r => r.staleMs * 1000000
  match ls with
  | [] => none
  | a :: as => some (as.foldl min a)

/-- When a bound layer's sequence last advanced: kept with the source's own latest advance (R92). -/
def State.lastAdvance (s : State) (n : Nat) : Nat :=
  let l := s.layer n
  if l.kind = 2 then max (s.cam l.colour).advancedAt (s.cam l.colour).enabledAt
  else max (s.slot l.colour).advancedAt (s.slot l.colour).enabledAt

/-- The onset of staleness (R92). -/
def State.staleLayer (s : State) (n : Nat) : State :=
  match s.staleLimit n with
  | none => s
  | some limit =>
    if s.layerOn n && !(s.run n).stale && decide (s.lastAdvance n + limit ≤ s.now) then
      let old := s.layerState n
      ((s.setRun n { s.run n with stale := true }).layerEntry n old).onset 0xB 2 n
    else s

/-- Layers leave staleness when their sequence has advanced, or when nothing binds them any more. -/
def State.unstale (s : State) : State :=
  (List.range 16).foldl (fun (s : State) n =>
    let gone := match s.staleLimit n with | some limit => decide (s.now < s.lastAdvance n + limit) || !s.layerOn n | none => true
    if (s.run n).stale && gone then
      ((s.setRun n { s.run n with stale := false }).layerEntry n 5).settle 0xB 2 n
    else s) s

end Sys2Proof.Machine
end

