-- ==== Sys2Proof/Machine/Render.lean ====
section
/-!
DEFINITION. Sys2Proof/Machine/Render.lean: a ray through the steps of R114 over the state: sampling each contributing view
(R116 to R125), compositing (R126), the ageing gain (R128, R193), the link code (R129); a tile's 384 codes (R151); the
witness pixels of a tile (R134, R135).
-/

namespace Sys2Proof.Machine

/-! ### One ray -/

/-- What the carver needs of a view's placement. -/
def View.geom (v : View) : LayerGeom :=
  { kind := v.l.kind, geometry := v.l.geometry, z0 := v.l.z0, opacity := v.l.opacity, destX := v.l.destX, destY := v.l.destY
    destW := v.l.destW, destH := v.l.destH, cropX := v.l.cropX, cropY := v.l.cropY, cropW := v.l.cropW, cropH := v.l.cropH
    gx := v.l.gx, gy := v.l.gy }

/-- A sample of the view's depth picture; none outside it (R118), z0 where it arrives poisoned (R329). -/
def View.depthAt (v : View) (i j : Int) : Option Int :=
  match v.depth with
  | none => none
  | some d =>
    let n := j.toNat * d.width + i.toNat
    if 0 ≤ i ∧ i < d.width ∧ 0 ≤ j ∧ j < d.height then (if d.holes.contains n then some v.l.z0 else d.z[n]?) else none

/-- The depth at which a ray meets a view, if it does (R116 to R118). -/
def View.meet (v : View) (r : RayRec) : Option Int :=
  if v.l.geometry = 1 then meetTilted r v.geom
  else if v.l.geometry = 2 then some (meetDepthMap r v.geom v.depthAt 4 v.l.z0)
  else some v.l.z0

/-- The fill colour at a panel position (R125). -/
def View.fillTexel (v : View) (comp : Nat) (px py : Int) : Texel :=
  let l := v.l
  if l.destX ≤ px ∧ px < l.destX + l.destW ∧ l.destY ≤ py ∧ py < l.destY + l.destH then
    graphicTexel (surfaceComponent 4 l.fill comp) (surfaceComponent 4 l.fill 3) true false false
  else ⟨0, 0⟩

/-- The coefficient set and stride of a video sample on an axis (R121). -/
def State.filterFor (s : State) (v : View) (a : Nat) (z : Int) (axis : Nat) : (Nat → List Int) × Nat :=
  let o := s.optics axis
  let p := setAndStride (footTex (footPx a z o.d o.gain) (v.cropSize axis) (v.destSize axis)) o.t0 o.t1 o.t2
  (tapsOf (s.dom (0x410001 + p.1)), p.2)

/-- A view sampled by a ray for a colour component (R116 to R125); none where the ray does not meet it. -/
def State.sampleView (s : State) (r : RayRec) (comp : Nat) (v : View) : Option Sample :=
  (v.meet r).map fun z =>
    let px := atDepth r.cx r.sx z
    let py := atDepth r.cy r.sy z
    let u := texCoord px v.l.destX v.l.cropX v.l.cropW v.l.destW
    let w := texCoord py v.l.destY v.l.cropY v.l.cropH v.l.destH
    let t : Texel :=
      if v.fill then v.fillTexel comp px py
      else if v.l.kind = 3 then sampleGraphic (v.texel comp) u w
      else
        let fx := s.filterFor v r.ax z 0
        let fy := s.filterFor v r.ay z 1
        sampleVideo (v.texel comp) u w fx.1 fy.1 fx.2 fy.2
    { z, rank := v.l.rank, c := t.c, a := t.a, o := v.l.opacity }

/-- The composed value of a ray for a component (R126). -/
def State.carve (s : State) (vs : List View) (r : RayRec) (comp : Nat) : Nat :=
  let bg := if s.descriptor.isEmpty then 0 else background s.descriptor comp
  composite (frontToBack (vs.filterMap (s.sampleView r comp))) (bg * 256 + bg)

/-! ### Gain and code (R128, R129, R193) -/

/-- Blocks of the panel on an axis (R189). -/
def State.blockColumns (s : State) : Nat := 4 * s.tileColumns
def State.blockRows (s : State) : Nat := 2 * s.tileRows

/-- The gain map's entry of a block and colour, as the Packed decoder returns it (R192). -/
def State.gainAt (s : State) (b c : Nat) : Nat := (lookup (3 * b + c) s.care.gains).getD 32768

/-- The gain of subpixel (x, y, sub) of colour c (R193). -/
def State.gain (s : State) (x y sub c : Nat) : Nat :=
  let x6 : Int := ((6 * x + 2 * sub + 1 : Nat) : Int) - 12
  let y6 : Int := ((6 * y + 3 : Nat) : Int) - 12
  let bx := x6 / 24
  let by_ := y6 / 24
  let wx := (x6 % 24).toNat
  let wy := (y6 % 24).toNat
  let at' := fun (i j : Int) =>
    s.gainAt ((clampInt j 0 (s.blockRows - 1)).toNat * s.blockColumns + (clampInt i 0 (s.blockColumns - 1)).toNat) c
  (roundDiv ((at' bx by_ * ((24 - wx) * (24 - wy)) + at' (bx + 1) by_ * (wx * (24 - wy))
    + at' bx (by_ + 1) * ((24 - wx) * wy) + at' (bx + 1) (by_ + 1) * (wx * wy) : Nat) : Int) 576).toNat

/-- The link transfer table of a colour (R129). -/
def State.linkTable (s : State) (c : Nat) : List Nat := chop 2 1025 ((s.dom 0x410009).drop (2050 * c))

/-- The code of a subpixel: its ray through steps 3 to 8 of R114, or zero light for a dead ray (R104, R115). -/
def State.subpixelCode (s : State) (vs : List View) (entries : List Nat) (x y sub : Nat) : Nat :=
  let geom := s.activeGeometry
  let r := makeRay geom entries x y sub
  let c := colourOf (Geometry.ofBytes geom).colourOrder sub
  let e := s.linkTable c
  if s.rayLive r then linkCode (applyGain (s.carve vs r c) (s.gain x y sub c)) e else zeroLight e

/-- The 384 codes of a tile, pixel by pixel in raster order, three positions a pixel. -/
def State.renderTile (s : State) (t : Nat) : List Nat :=
  let vs := s.contributors (s.viewsAt t) t
  let es := entriesOf s.activeEntries
  (List.range 8).flatMap fun j => (List.range 16).flatMap fun i =>
    (List.range 3).map fun k => s.subpixelCode vs es (16 * s.tileX t + i) (8 * s.tileY t + j) k

/-- Live rays of a tile, and its carver clocks (R132). -/
def State.liveRays (s : State) (t : Nat) : Nat :=
  let geom := s.activeGeometry
  let es := entriesOf s.activeEntries
  ((List.range 128).filter fun i => s.rayLive (makeRay geom es (16 * s.tileX t + i % 16) (8 * s.tileY t + i / 16) 0)).length * 3

def State.tileClocks (s : State) (t : Nat) : Nat :=
  if (s.contributors (s.viewsAt t) t).length ≤ 8 then 384 else 384 + s.liveRays t

/-! ### The witness view (R134, R135) -/

/-- The tile that contains the panel point of a witness pixel. -/
def State.witnessTile (s : State) (g : Geometry) (i j : Nat) : Nat :=
  let kw := witnessFactor g
  s.tileNo ((2 * i + 1) * kw / 32) ((2 * j + 1) * kw / 16)

/-- A witness pixel as it stands in the scene of the moment: ARGB2101010 with alpha 0b11 (R135). -/
def State.witnessPixel (s : State) (g : Geometry) (i j : Nat) : Nat :=
  let eye := fun (k : Nat) => if s.get k = 0x7FFFFFFF then none else some (s.geti 32 k)
  let r := witnessRay g (eye 0x410012) (eye 0x410013) (s.get 0x410014) i j
  let c := fun (comp : Nat) => witnessComponent (s.carve (s.viewsAt (s.witnessTile g i j)) r comp)
  3 * 2 ^ 30 + 1048576 * c 0 + 1024 * c 1 + c 2

/-- The witness pixels of a tile, with their numbers in raster order. -/
def State.witnessPixels (s : State) (t : Nat) : List (Nat × Nat) :=
  match s.geometry with
  | none => []
  | some g =>
    let z := s.witnessSize
    let kw := witnessFactor g
    let i0 := 16 * s.tileX t / kw
    let j0 := 8 * s.tileY t / kw
    (List.range (8 / kw + 2)).flatMap fun j => (List.range (16 / kw + 2)).filterMap fun i =>
      if i0 + i < z.1 ∧ j0 + j < z.2 ∧ s.witnessTile g (i0 + i) (j0 + j) = t then
        some ((j0 + j) * z.1 + (i0 + i), s.witnessPixel g (i0 + i) (j0 + j))
      else none

/-- What rendering a tile leaves besides its codes: the counts of the frame and its witness pixels (R132, R133, R135). -/
def State.noteRendered (s : State) (t : Nat) : State :=
  let vs := s.viewsAt t
  let cs := s.contributors vs t
  let skipped := (vs.filter fun v => s.reaches v t).flatMap fun v =>
    ((s.blocksOf v t).filter fun b => s.skipped vs v b.1 b.2).map fun b => (v.pos, b.1, b.2)
  let sc := s.scene
  let wit := if s.get 0x410011 = 1 then s.witnessPixels t else []
  { s with scene := { sc with
      rendered := if sc.rendered.contains t then sc.rendered else sc.rendered ++ [t]
      halfRate := if 8 < cs.length && !sc.halfRate.contains t then sc.halfRate ++ [t] else sc.halfRate
      skips := sc.skips ++ skipped.filter fun k => !sc.skips.contains k
      witness := sc.witness.filter (fun p => wit.all fun q => q.1 != p.1) ++ wit } }

/-- The buffer is complete: pixels of tiles not rendered in the frame are those of the previous buffer, or of the scene of
the moment in the first buffer after the view is enabled or of a size (R135). -/
def State.completeWitness (s : State) : State :=
  match s.geometry with
  | none => s
  | some g =>
    if s.get 0x410011 = 0 then s
    else
      let z := s.witnessSize
      let old := (s.media.witness.map fun w => if w.width = z.1 ∧ w.height = z.2 ∧ !s.scene.witnessFull then w.rgb else []).getD []
      let px := (List.range (z.1 * z.2)).map fun n =>
        match lookup n s.scene.witness with
        | some v => v
        | none => (old[n]?).getD (s.witnessPixel g (n % z.1) (n / z.1))
      let s := s.bump 0x410015
      let tick := s.get 0x285005
      let rgb := [1048576, 1024, 1].map fun (d : Nat) => rowsOfPlane z.1 z.2 (px.map fun v => v / d % 1024)
      let pic : Picture :=
        { seq := s.get 0x410015, time := tick, endTime := tick, width := z.1, height := z.2, rgb := px
          luma := (lumaPlane 1 z.1 z.2 rgb).flatten, chroma := (chromaPlane 1 1 z.1 z.2 rgb).flatten ++ (chromaPlane 1 2 z.1 z.2 rgb).flatten
          context := s.get 0x400005 }
      let s := { s with media := { s.media with witness := some pic }, scene := { s.scene with witness := [], witnessFull := false } }
      s.requestMotions 0x10

/-- At a tick: the witness buffer of the tick before is not complete (R246). -/
def State.missWitness (s : State) (prev : Nat) : State :=
  match s.media.witness with
  | some w =>
    if s.power.phase == .run && s.usable 9 && !s.standby && s.get 0x410011 == 1 && decide (w.time < prev) then
      { s with media := { s.media with witnessMissed := some prev } }
    else s
  | none => s

end Sys2Proof.Machine
end

