-- ==== Sys2Proof/Machine/Rinkboard.lean ====
section
/-!
DEFINITION. Sys2Proof/Machine/Rinkboard.lean: update rectangles and claims (R159 to R162), UPDATE and PRESENT (R149, R163,
R182), delivery and staging (R161), the expected tile checksums (R174, R178), the levels of delivered tiles (R189), and the
mirror latency (R221).
-/

namespace Sys2Proof.Machine

/-! ### Sparse tables -/

/-- A sorted sparse table with an entry set; the value that unlisted entries stand for is not listed. -/
def setEntry (d k v : Nat) (l : List (Nat × Nat)) : List (Nat × Nat) := if v = d then eraseKey k l else insertKey k v l

/-! ### Modules -/

/-- A module is present (R150). -/
def State.modulePresent (s : State) (m : Nat) : Bool := bitOf s.link.modules m

/-- Module arrangement of the active bank as 0x4800.0F shows one. -/
def State.bankArrangement (s : State) : Nat := match s.geometry with | some g => g.moduleColumns + 16 * g.moduleRows | none => 0

/-- Update rectangles may be sent: a bank is active and its arrangement is the one that the link reports (R112). -/
def State.mapServes (s : State) : Bool := s.banks.active.isSome && s.get 0x48000F != 0 && s.get 0x48000F == s.bankArrangement

/-- The safety regions in record order. -/
def State.safetyRegions (s : State) : List Region := (regionsOf s.descriptor).filter fun r => r.cls == 0

/-- The part of a region in a module: first column, first row, columns, rows; none where they do not meet (R179). -/
def regionWindow (r : Region) (m : Nat) : Option (Nat × Nat × Nat × Nat) :=
  let x0 := max r.x0 (m % 8 * 120)
  let x1 := min r.x1 (m % 8 * 120 + 120)
  let y0 := max r.y0 (m / 8 * 135)
  let y1 := min r.y1 (m / 8 * 135 + 135)
  if x0 < x1 ∧ y0 < y1 then some (x0 - m % 8 * 120, y0 - m / 8 * 135, x1 - x0, y1 - y0) else none

/-- A module holds part of a safety region. -/
def State.safetyModule (s : State) (m : Nat) : Bool := s.safetyRegions.any fun r => (regionWindow r m).isSome

/-! ### Expected checksums and levels (R174, R178, R189) -/

/-- The checksum T of a tile from the codes that module memory holds. -/
def tileChecksum (held : List Nat) : Nat := crc32c (tilePayload 0 held)

/-- A tile's expected checksum is replaced (R178). -/
def State.expect (s : State) (t fmt : Nat) (codes : List Nat) : State :=
  { s with care := { s.care with expected := insertKey t (tileChecksum (tileHeld fmt codes)) s.care.expected } }

/-- The level of a 4 × 4 block and colour from a tile's codes (R189): the block at column i, row j of the tile. -/
def State.levelOf (s : State) (held : List Nat) (order i j c : Nat) : Nat :=
  let w := s.dom 0x490030
  let at' := fun (p : Nat) => (held[((4 * j + p / 4) * 16 + 4 * i + p % 4) * 3 + colourOf order c]?).getD 0
  let sum := (List.range 16).foldl (fun n p => n + fieldLE w (2048 * c + 2 * at' p) 2) 0
  min 255 ((sum + 2048) / 4096)

/-- Levels of a tile's eight blocks are set when it is delivered (R189). -/
def State.setLevels (s : State) (t fmt : Nat) (codes : List Nat) : State :=
  let held := tileHeld fmt codes
  let order := (s.geometry.map (·.colourOrder)).getD 0
  let cells := (List.range 24).map fun n => (n % 4, n / 4 % 2, n / 8)
  let levels := cells.foldl (fun l p =>
    let b := (2 * s.tileY t + p.2.1) * s.blockColumns + 4 * s.tileX t + p.1
    setEntry 0 (3 * b + p.2.2) (s.levelOf held order p.1 p.2.1 p.2.2) l) s.care.levels
  { s with care := { s.care with levels } }

/-! ### Claims -/

def State.rectOf (s : State) (n : Nat) : Option Rect := s.link.rects.find? fun r => r.no == n
def State.ownerOf (s : State) (t : Nat) : Option Claim := s.link.claims.find? fun c => c.tile == t
def State.setClaims (s : State) (cs : List Claim) : State := { s with link := { s.link with claims := cs } }

/-- A MIRROR record of one tile of a rectangle (R385). -/
def State.mirrorTile (s : State) (type t : Nat) (r : Rect) : State :=
  s.mirrorSend (mirrorRecord type { r with column := s.tileX t % 120, row := s.tileY t % 135, columns := 1, rows := 1 })

/-- A rectangle left without claims is Free (R162). -/
def State.freeRect (s : State) (n : Nat) : State :=
  match s.rectOf n with
  | none => s
  | some r =>
    if s.link.claims.any fun c => c.rect == n then s
    else ({ s with link := { s.link with rects := s.link.rects.filter fun x => x.no != n } }).mirrorSend (mirrorRecord 4 r)

/-- The claim on a tile that leads its claims and passes a test is changed. -/
def mapOwner (t : Nat) (f : Claim → Claim) : List Claim → List Claim
  | [] => []
  | c :: cs => if c.tile = t then f c :: cs else c :: mapOwner t f cs

/-! ### Mirror latency (R220, R221) -/

/-- What a port measures is changed. -/
def State.setMeasuring (s : State) (p : Nat) (f : Latency → Latency) : State :=
  s.setCam p { s.cam p with measuring := (s.cam p).measuring.map f }

/-- A tile's rendered copy is discarded: no frame but a port's latest awaits it any longer, since it is rendered again from that one (R161,
R221). -/
def State.dropMeasured (s : State) (t : Nat) : State :=
  let less := fun (e : Latency) => { e with tiles := e.tiles.filter fun x => x != t }
  (List.range 8).foldl (fun (s : State) p =>
    let l := (s.cam p).measuring
    s.setCam p { s.cam p with measuring := l.dropLast.map less ++ l.getLast?.toList }) s

/-- A mirror-role frame begins its way to the safety regions of a layer position. An earlier frame still awaits the tiles that have
been rendered from it. -/
def State.measureFrame (s : State) (p n : Nat) (pic : Picture) : State :=
  if s.roleOf p != 1 || !s.acting then s
  else
    let drawn := fun (e : Latency) (t : Nat) => match s.ownerOf t with | some c => !c.codes.isEmpty && decide (e.since ≤ c.drawn) | none => false
    let s := s.setMeasuring p fun (e : Latency) => { e with tiles := e.tiles.filter (drawn e) }
    let tiles := ((s.safetyRegions.filter fun r => r.bound == n).flatMap s.regionTiles).eraseDups
    s.setCam p { s.cam p with measuring := (s.cam p).measuring ++ [{ endTime := pic.endTime, since := s.now, tiles }] }

/-- Frames whose region has wholly been delivered are measured: 0x3n40.03 and .04, and cause 0x06 over 8 ms (R221). -/
def State.measureMirror (s : State) (p : Nat) : State :=
  let done := (s.cam p).measuring.filter fun (e : Latency) => e.tiles.isEmpty
  let s := s.setCam p { s.cam p with measuring := (s.cam p).measuring.filter fun (e : Latency) => !e.tiles.isEmpty }
  done.foldl (fun (s : State) (e : Latency) =>
    match e.last with
    | none => s
    | some l =>
      let us := (looseDiv ((l - e.endTime : Nat)) 1000).toNat
      let s := (s.put (camK p 0x40 3) us).put (camK p 0x40 4) (max us (s.get (camK p 0x40 4)))
      s.follow (decide (8000000 < l - e.endTime)) 4 6 p) s

/-- A tile rendered at an instant is delivered (R221). -/
def State.deliverMeasured (s : State) (t drawn : Nat) : State :=
  (List.range 8).foldl (fun (s : State) p =>
    (s.setMeasuring p fun (e : Latency) =>
      if e.tiles.contains t && decide (e.since ≤ drawn) then { e with tiles := e.tiles.filter (fun x => x != t), last := some s.ptp } else e).measureMirror p) s

/-- The claim of a new rectangle on a tile (R161). -/
def State.claimTile (s : State) (r : Rect) (t : Nat) : State :=
  let new : Claim := { tile := t, rect := r.no, state := .queued, at_ := s.now }
  match s.ownerOf t with
  | none => s.setClaims (s.link.claims ++ [new])
  | some o =>
    if o.state == .queued && r.supersede then
      let gone := s.link.claims.filter fun c => c.tile == t
      let s := if o.codes.isEmpty then s else s.dropMeasured t
      let s := s.setClaims (s.link.claims.filter (fun c => c.tile != t) ++ [new])
      let s := gone.foldl (fun (s : State) c =>
        match s.rectOf c.rect with | some x => (s.mirrorTile 3 t x).freeRect c.rect | none => s) s
      s.bump 0x4A0004
    else
      let s := s.setClaims (s.link.claims ++ [{ new with state := .waiting }])
      if o.state == .queued then s else s.bump 0x4A0005

/-- The bytes of a tile in a payload format (R151). -/
def tileBytes (format : Nat) : Nat := if format = 0 then 480 else if format = 1 then 240 else if format = 2 then 160 else 120

/-- Bytes in the link staging pool: the retry buffer, packets that wait, and rendered tiles not yet sent (R159, R332). -/
def State.staged (s : State) : Nat :=
  (s.link.claims.filter fun c => c.state == .queued && !c.codes.isEmpty).foldl (fun n c =>
    n + tileBytes (((s.rectOf c.rect).map (·.format)).getD 0)) (heldBytes s.link.retry + heldBytes s.link.waiting)

/-- The payload format of a new rectangle (R159): link staging is the pool of 8 MiB (R16, R330). -/
def State.formatFor (s : State) (cls : Nat) : Nat :=
  let own := s.get (0x480006 + cls)
  let pressure := s.get 0x480009
  let pressed := decide (s.get 0x48000A * 8388608 < 100 * s.staged) || s.get 0x480002 < 16
  if cls ≠ 0 ∧ pressed ∧ own < pressure then pressure else own

/-- The number of a new rectangle of a class, if one is free (R160). -/
def State.freeNumber (s : State) (cls : Nat) : Option Nat :=
  if cls ≠ 0 ∧ 256 - s.get 0x4A0002 ≤ (s.link.rects.filter fun r => r.cls != 0).length then none
  else (List.range 256).find? fun n => (s.rectOf n).isNone

/-- Changed tiles are gathered into a rectangle (R160 to R162): tiles marked changed and taken for the frame, of one class. -/
def State.allocate (s : State) (m column row columns rows : Nat) : State :=
  let tiles := s.moduleTiles m column row columns rows
  let ready := tiles.all fun t => s.scene.taken.contains t && s.scene.changed.any fun c => c.1 == t
  let cls := s.classOf (tiles.headD 0)
  if !(s.linkUp && s.acting && s.mapServes && s.modulePresent m && s.pair.yieldingSince.isNone
      && decide (1 ≤ columns ∧ 1 ≤ rows ∧ column + columns ≤ 120 ∧ row + rows ≤ 135)
      && ready && tiles.all fun t => s.classOf t == cls) then s
  else
    match s.freeNumber cls with
    | none => s.bump 0x4A0006
    | some n =>
      let r : Rect :=
        { no := n, module := m, cls, format := s.formatFor cls, column, row, columns, rows, frame := s.get 0x285004
          supersede := !s.link.atomic }
      let s := { s with
        scene := { s.scene with taken := s.scene.taken.filter (fun t => !tiles.contains t), changed := s.scene.changed.filter fun c => !tiles.contains c.1 }
        link := { s.link with rects := s.link.rects ++ [r] } }
      tiles.foldl (fun s t => s.claimTile r t) (s.mirrorSend (mirrorRecord 1 r))

/-! ### Delivery (R161, R162) -/

/-- A tile is delivered: its owner's claim ends and the earliest waiter becomes owner (R161). -/
def State.deliver (s : State) (t : Nat) : State :=
  match s.ownerOf t with
  | none => s
  | some c =>
    let r := (s.rectOf c.rect)
    let fmt := (r.map (·.format)).getD 0
    let cs := s.link.claims.filter fun x => !(x.tile == t && x.rect == c.rect)
    let s := s.setClaims (mapOwner t (fun o => { o with state := .queued, codes := [] }) cs)
    let s := (s.setLevels t fmt c.codes).bump 0x410018 384
    let s := match r with | some x => s.mirrorTile 2 t x | none => s
    (s.freeRect c.rect).deliverMeasured t c.drawn

/-- A module has fallen back to tile-atomic presentation: its staged tiles are delivered at once, and it stays so until
the PRESENT of its frame is sent, unless that has gone already (R161, R178, R182). -/
def State.fallBack (s : State) (m : Nat) : State :=
  if s.link.fallenBack.contains m || !s.link.atomic then s
  else
    let mine := s.link.claims.filter fun c => s.tileModule c.tile == m && c.atomic && (c.state == .sent || c.state == .staged)
    let late := mine.any (·.shown)
    let s := (if late then s else { s with link := { s.link with fallenBack := s.link.fallenBack ++ [m] } }).bump 0x490002
    let fmt := fun (c : Claim) => ((s.rectOf c.rect).map (·.format)).getD 0
    let s := (mine.filter fun c => !c.shown && !late).foldl (fun s c => s.expect c.tile (fmt c) c.codes) s
    (mine.filter fun c => c.state == .staged && (c.shown || !late)).foldl (fun s c => s.deliver c.tile) s

/-- A packet's tiles are acknowledged: delivered, or staged under frame-atomic presentation (R161). -/
def State.ackTile (s : State) (rect t : Nat) : State :=
  match s.ownerOf t with
  | none => s
  | some c =>
    if c.rect = rect ∧ c.state = .sent then
      if c.atomic && !s.link.fallenBack.contains (s.tileModule t) then s.setClaims (mapOwner t (fun o => { o with state := .staged }) s.link.claims)
      else s.deliver t
    else s

/-! ### UPDATE and PRESENT -/

/-- A frame is not before another, modulo 2^32. -/
def notBefore (a b : Nat) : Bool := a == b || seqAfter a b

/-- An earlier frame's PRESENT has still to be sent (R163), or the presentation mode to be changed for the frames of the epoch that
changes it (R182). -/
def State.updateBlocked (s : State) (frame : Nat) : Bool :=
  s.link.toPresent.any (fun f => seqAfter frame f)
    || (s.link.atomic != (s.get 0x490001 == 1) && notBefore frame s.link.modeFrom)

/-- A role entry owed to the Beacon is written (R391 step 9). -/
def State.settleRole (s : State) (gap : Nat) : State :=
  match s.pair.roleEntry with
  | none => s
  | some (old, new, cause) =>
    ({ s with pair := { s.pair with roleEntry := none } }).beaconAdd 4 0
      (leBytes 1 old ++ leBytes 1 new ++ leBytes 2 cause ++ leBytes 4 (s.get 0x48000C) ++ leBytes 4 gap) []

/-- The first UPDATE after a takeover ends the update gap (R391, R392). -/
def State.endGap (s : State) : State :=
  match s.pair.gapFrom with
  | none => s
  | some g =>
    let gap := s.now - g
    (({ s with pair := { s.pair with gapFrom := none } }).put 0x230008 gap).settleRole gap

/-- An UPDATE of tiles of a rectangle is sent once the retry buffer has room, while the map serves (R112, R149, R150, R154, R178); one
of a reopened rectangle, and the first after a takeover, carries flag [1] (R168). -/
def State.sendUpdate (s : State) (n column row count : Nat) : State :=
  match s.rectOf n with
  | none => s
  | some r =>
    let tiles := s.moduleTiles r.module column row count 1
    let claims := tiles.filterMap s.ownerOf
    let fit := decide (1 ≤ count ∧ count ≤ 8 ∧ column + count ≤ 120 ∧ row < 135)
      && claims.length == count && claims.all fun c => c.rect == n && c.state == .queued && !c.codes.isEmpty
    let payload := claims.flatMap fun c => tilePayload r.format c.codes
    let last := s.link.claims.all fun c => c.rect != n || tiles.contains c.tile || c.state == .sent || c.state == .staged
    let p : Packet :=
      { packetOf 1 r.module (column + 128 * row + 32768 * (count - 1) + 262144 * n) payload with
        flags := (if last then 1 else 0) + (if r.reopened || s.pair.gapFrom.isSome then 2 else 0), format := r.format, rect := n, tiles }
    if !fit || s.updateBlocked r.frame || !(s.mapServes && s.linkUp && s.link.waiting.isEmpty && s.linkRoom p) then s
    else
      let staging := s.link.atomic && !s.link.fallenBack.contains r.module
      let s := tiles.foldl (fun (s : State) t =>
        s.setClaims (mapOwner t (fun c => { c with state := .sent, atomic := staging, shown := false }) s.link.claims)) s
      let s := if staging then s else claims.foldl (fun s c => s.expect c.tile r.format c.codes) s
      (s.linkEmit p).endGap

/-- Tiles taken for the present frame are still to be gathered into rectangles of it. -/
def State.gathers (s : State) : Bool :=
  s.power.phase == .run && s.acting && s.mapServes && s.pair.yieldingSince.isNone && s.scene.taken.any fun t => s.modulePresent (s.tileModule t)

/-- A frame not after `f` has a tile still to be sent before that frame's PRESENT: one still to be gathered, or in a rectangle one Queued,
or one that waits for anything but a staged tile that this PRESENT is the first to show (R163). -/
def State.holdsBack (s : State) (f : Nat) : Bool :=
  (f == s.get 0x285004 && s.gathers) || s.link.claims.any fun c =>
    match s.rectOf c.rect with
    | none => false
    | some r =>
      !seqAfter r.frame f && match c.state with
        | .queued => true
        | .waiting => (match s.ownerOf c.tile with | some o => !o.atomic || o.shown | none => true)
        | _ => false

/-- The frame that the next PRESENT presents: the oldest not yet presented, else the current one again (R163, R183). -/
def State.nextPresent (s : State) : Nat := s.link.toPresent.headD (s.get 0x285004)

/-- At a tick the band changes gathered since the last one become due with its frame number (R187). -/
def State.latchBands (s : State) (frame : Nat) : State :=
  { s with care := { s.care with
      modules := s.care.modules.map fun (m : ModuleCare) => { m with due := m.due ++ m.change.toList.map fun b => (frame, b), change := none } } }

/-- The band that a BAND of a frame carries for a module: the latest change due with it or with an earlier frame. -/
def ModuleCare.bandDue (m : ModuleCare) (frame : Nat) : Option Nat := ((m.due.filter fun e => !seqAfter e.1 frame).getLast?).map (·.2)

/-- One BAND carries the band changes due with a frame; after training and after a takeover one names the band of every module, once
every band is known or the module's report is lost (R187). -/
def State.sendBand (s : State) (frame : Nat) : State :=
  let mods := s.care.modules.zipIdx
  let all := s.care.bandAll && mods.all fun (p : ModuleCare × Nat) => !s.modulePresent p.2 || p.1.band != 0xFF || p.1.lost
  let bands := mods.map fun (p : ModuleCare × Nat) =>
    if !s.modulePresent p.2 then 0xFF else if all then p.1.band else (p.1.bandDue frame).getD 0xFF
  if !s.linkUp || bands.all (· == 0xFF) then s
  else
    let s := s.linkSend (packetOf 3 0xFF frame (bands.flatMap fun b => leBytes 1 b))
    { s with care := { s.care with
        bandAll := s.care.bandAll && !all
        modules := (s.care.modules.zip bands).map fun (p : ModuleCare × Nat) =>
          { p.1 with due := p.1.due.filter fun e => seqAfter e.1 frame, inForce := if p.2 = 0xFF then p.1.inForce else p.2 } } }

/-- Every tile of a safety re-render has been sent: its PRESENT is due at once (R183). -/
def State.safetyDue (s : State) : Bool :=
  s.link.atomic && !s.link.rerendered.isEmpty && s.link.rerendered.all fun t =>
    (match s.ownerOf t with | some c => c.state == .sent || c.state == .staged | none => true) && s.scene.changed.all fun c => c.1 != t

/-- A PRESENT of a frame shows what is staged before it in sequence (R178, R182); `owed` when it is the frame's own PRESENT. -/
def State.present (s : State) (f : Nat) (owed : Bool) : State :=
  let s := if s.link.atomic then s.sendBand f else s
  let mine := s.link.claims.filter fun c => c.atomic && !c.shown && (c.state == .sent || c.state == .staged)
  let fmt := fun (c : Claim) => ((s.rectOf c.rect).map (·.format)).getD 0
  let s := mine.foldl (fun s c => s.expect c.tile (fmt c) c.codes) s
  let s := mine.foldl (fun (s : State) c => s.setClaims (mapOwner c.tile (fun o => { o with shown := true }) s.link.claims)) s
  let s := { s with link := { s.link with
      toPresent := if owed then s.link.toPresent.drop 1 else s.link.toPresent, fallenBack := []
      rerendered := if f = s.get 0x285004 then [] else s.link.rerendered } }
  s.linkSend (packetOf 2 0xFF f [])

/-- A PRESENT is sent once every rectangle of its frame has been (R163); after a safety re-render one with the current frame number is
sent at once (R183). -/
def State.sendPresent (s : State) : State :=
  let f := s.nextPresent
  if !s.linkUp then s
  else
    let current := s.get 0x285004
    let again := s.safetyDue && (f != current || s.holdsBack f)
    let s := if s.holdsBack f then s else s.present f true
    if again then s.present current false else s

/-- The ACK of a PRESENT delivers the staged tiles it showed (R161). -/
def State.ackPresent (s : State) : State :=
  (s.link.claims.filter fun c => c.shown && c.state == .staged).foldl (fun s c => s.deliver c.tile) s

/-- Staged tiles that a module discards are Queued again (R150, R164). -/
def State.unstage (s : State) (m : Nat) : State :=
  s.setClaims (s.link.claims.map fun c =>
    if c.state == .staged && !c.shown && (m == 0xFF || s.tileModule c.tile == m) then { c with state := .queued, atomic := false } else c)

/-! ### The commands' meanings -/

/-- RECTANGLE_ALLOCATE (R160): modules are 0 to 63. -/
def execRectangleAllocate (t module column row columns rows : Nat) (s : State) : Host.Outcome State Fault Refusal :=
  actIf (module < 64) t s fun s => s.allocate module column row columns rows

/-- UPDATE (R150): rectangles are 0 to 255. -/
def execUpdate (t rectangle column row count : Nat) (s : State) : Host.Outcome State Fault Refusal :=
  actIf (rectangle < 256) t s fun s => s.sendUpdate rectangle column row count

/-- DISCARD_STAGED (R150): a module, or 0xFF for all. -/
def execDiscardStaged (t module : Nat) (s : State) : Host.Outcome State Fault Refusal :=
  actIf (module < 64 || module == 0xFF) t s fun s => if s.linkUp then (s.linkControl 1 module 0 []).unstage module else s

end Sys2Proof.Machine
end

