-- ==== Sys2Proof/Machine/Care.lean ====
section
/-!
DEFINITION. Sys2Proof/Machine/Care.lean: panel care: window checks (R175 to R181), temperature bands (R186), drive tables
(R185), stress counters, efficiency and the gain map (R190 to R192), current sensing (R194), module events (R177).
-/

namespace Sys2Proof.Machine

def State.moduleCare (s : State) (m : Nat) : ModuleCare := nth s.care.modules m {}
def State.setModuleCare (s : State) (m : Nat) (c : ModuleCare) : State :=
  { s with care := { s.care with modules := setNth s.care.modules m c } }

/-- Modules present, in number order. -/
def State.modulesPresent (s : State) : List Nat := (List.range 64).filter s.modulePresent

/-! ### Window checks (R175 to R181, R413) -/

/-- The expected W of a window and whether every tile of it is known (R175, R178). -/
def State.windowExpected (s : State) (m column row columns rows : Nat) : Nat × Bool :=
  let ts := (s.moduleTiles m column row columns rows).map fun t => lookup t s.care.expected
  (crc32c (ts.flatMap fun o => leBytes 4 (o.getD 0)), ts.all (·.isSome))

/-- The safety windows of a module with their slots (R179). -/
def State.safetyWindows (s : State) (m : Nat) : List (Nat × Nat × Nat × Nat × Nat) :=
  (s.safetyRegions.take 8).zipIdx.filterMap fun p => (regionWindow p.1 m).map fun w => (p.2 + 1, w)

/-- CONTROL 0x10 sets a window (R172, R175). -/
def State.setWindow (s : State) (m slot column row columns rows : Nat) : State :=
  s.linkControl 0x10 m slot (leBytes 2 column ++ leBytes 2 row ++ leBytes 2 columns ++ leBytes 2 rows)

/-- The PTP time of a frame's window READs, from the first on (R180). -/
def State.timeChecks (s : State) (frame : Nat) : State :=
  if s.care.checkTimes.any fun e => e.1 == frame then s
  else { s with care := { s.care with checkTimes := s.care.checkTimes ++ [(frame, s.ptp)] } }

/-- READ 0x10 for a frame, with the W expected at this point in sequence (R176, R179). -/
def State.readWindow (s : State) (frame m slot column row columns rows : Nat) : State :=
  let e := s.windowExpected m column row columns rows
  (s.timeChecks frame).linkRead 0x10 m slot e.1 e.2 (some frame)

/-- A check's outcome is recorded: 0 match, 1 mismatch, 2 unverified, 3 not reporting (R180, R196). -/
def State.recordCheck (s : State) (m slot expected reported frame outcome : Nat) : State :=
  let s := { s with care := { s.care with checks := s.care.checks ++ [{ frame, module := m, slot, reported, outcome }] } }
  let s := if outcome = 2 then s.bump 0x490006 else s
  if slot = 0 then s.setModuleCare m { s.moduleCare m with check := (expected, reported, frame, outcome) }
  else if slot = 15 then
    { s with care := { s.care with
        hostCheck := none, hostCheckSent := false
        hostResult := leBytes 4 expected ++ leBytes 4 reported ++ leBytes 4 frame ++ leBytes 1 outcome ++ [0, 0, 0] } }
  else s

/-- A host check whose window the port cannot read is not reporting (R180, R196). -/
def State.failHostCheck (s : State) : State :=
  match s.care.hostCheck with
  | some (m, _) => (s.timeChecks (s.get 0x285004)).recordCheck m 15 0 0 (s.get 0x285004) 3
  | none => s

/-- The host's window is checked through slot 15 (R196). -/
def State.hostCheckNow (s : State) (frame : Nat) : State :=
  match s.care.hostCheck with
  | some (m, c, r, cs, rs) =>
    if s.care.hostCheckSent then s
    else ({ s with care := { s.care with hostCheckSent := true } }).setWindow m 15 c r cs rs |>.readWindow frame m 15 c r cs rs
  | none => s

/-- The checks of a frame's tick: windows at the first tick of an epoch, the host's window, then the READs (R179, R196). -/
def State.startChecks (s : State) (frame : Nat) : State :=
  let s := { s with care := { s.care with dueChecks := s.care.dueChecks.filter fun f => f != frame } }
  if !s.linkUp then s.failHostCheck
  else if s.get 0x490003 = 0 then s.hostCheckNow frame
  else
    let ms := s.modulesPresent
    let s := if s.care.windowsSet then s else
      ms.foldl (fun s m => (s.safetyWindows m).foldl (fun s w => s.setWindow m w.1 w.2.1 w.2.2.1 w.2.2.2.1 w.2.2.2.2) s) s
    let s := { s with care := { s.care with windowsSet := true } }
    let s := s.hostCheckNow frame
    ms.foldl (fun s m =>
      ((s.safetyWindows m).foldl (fun s w => s.readWindow frame m w.1 w.2.1 w.2.2.1 w.2.2.2.1 w.2.2.2.2) s).readWindow frame m 0 0 0 120 135) s

/-- After a PRESENT the checks that waited for it are made: those of the frames up to the next that is owed (R179). -/
def State.startDueChecks (s : State) : State :=
  let ready := s.care.dueChecks.filter fun f => match s.link.toPresent.head? with | some g => !seqAfter f g | none => true
  ready.foldl State.startChecks s

/-- Scan counts of successive slot-0 responses (R181). -/
def State.checkScan (s : State) (m count : Nat) : State :=
  let mc := s.moduleCare m
  let same := mc.scanAt.isSome && mc.scanCount == count
  let s := if same then s else s.setModuleCare m { mc with scanCount := count, scanAt := some s.now }
  let stopped := same && decide ((mc.scanAt.getD 0) + 25000000 ≤ s.now)
  if stopped then
    let s := s.onset 0xB 5 m
    if s.safetyModule m then s.onset 0xB 6 m else s
  else if same then s else (s.settle 0xB 5 m).settle 0xB 6 m

/-- A module's slot-0 mismatch of a frame is judged once the frame's safety windows have answered (R180). -/
def State.judgeModule (s : State) (held : Nat × Nat) : State :=
  let m := held.1
  if s.care.checks.any fun c => c.frame == held.2 && c.module == m && c.slot != 0 && c.slot != 15 && c.outcome == 1 then s
  else ((s.bump 0x490005).onset 0xB 3 m).mark (s.moduleTiles m 0 0 120 135)

/-- Safety READs of a module for a frame are still open. -/
def State.safetyOpen (s : State) (held : Nat × Nat) : Bool :=
  s.link.reads.any fun o => o.code == 0x10 && o.module == held.1 && o.frame == held.2 && o.argument % 16 != 0 && o.argument % 16 != 15

/-- Slot-0 mismatches held back are judged, those of a test's modules. -/
def State.judgeHeld (s : State) (p : Nat × Nat → Bool) : State :=
  (s.care.slot0Held.filter p).foldl State.judgeModule { s with care := { s.care with slot0Held := s.care.slot0Held.filter fun m => !p m } }

/-- A window checksum response is compared (R180, R181). -/
def State.windowResponse (s : State) (o : OpenRead) (b : Bytes) : State :=
  let m := o.module
  let slot := o.argument % 16
  let w := fieldLE b 0 4
  let outcome := if !o.known || byteAt b 12 != 0 then 2 else if w = o.expected then 0 else 1
  let item := m + 256 * slot
  let s := s.recordCheck m slot o.expected w o.frame outcome
  let s : State :=
    if slot = 15 then s
    else if slot = 0 then
      if outcome = 0 then s.settle 0xB 3 m
      else if outcome = 1 then { s with care := { s.care with slot0Held := s.care.slot0Held ++ [(m, o.frame)] } }
      else s
    else if outcome = 0 then s.settle 0xB 1 item
    else if outcome = 1 then
      let tiles := ((s.safetyWindows m).filter fun x => x.1 == slot).flatMap fun x => s.moduleTiles m x.2.1 x.2.2.1 x.2.2.2.1 x.2.2.2.2
      ((s.bump 0x490005).onset 0xB 1 item).mark tiles
    else s
  let s := s.judgeHeld fun x => x == (m, o.frame) && !s.safetyOpen x
  if slot = 0 then s.checkScan m (fieldLE b 8 4) else s

/-- Insertion of a check in module order and then slot order. -/
def insertCheck (x : CheckOutcome) : List CheckOutcome → List CheckOutcome
  | [] => [x]
  | y :: ys => if x.module * 16 + x.slot ≤ y.module * 16 + y.slot then x :: y :: ys else y :: insertCheck x ys

/-- The batch of check frames is written once it holds 0x2210.09 of them (R413). -/
def State.writeBatch (s : State) : State :=
  let b := s.beacon.batch
  if b.isEmpty then s
  else
    let first := s.beacon.batchFirst
    ({ s with beacon := { s.beacon with batch := [] } }).beaconAdd 5 0 (leBytes 4 first ++ leBytes 2 b.length) b.flatten

/-- The checks of a frame that are closed are its 16 bytes of the batch (R413). -/
def State.closeFrame (s : State) (frame time : Nat) : State :=
  let cs := (s.care.checks.filter fun c => c.frame == frame).foldl (fun l c => insertCheck c l) []
  if cs.isEmpty then s
  else
    let count := fun (k : Nat) => leBytes 1 (cs.filter fun c => c.outcome == k).length
    let rec_ := leBytes 4 frame ++ leBytes 4 time
      ++ leBytes 4 (crc32c (cs.flatMap fun c => leBytes 1 c.module ++ leBytes 1 c.slot ++ leBytes 4 c.reported))
      ++ count 0 ++ count 1 ++ count 2 ++ count 3
    let first := if s.beacon.batch.isEmpty then frame else s.beacon.batchFirst
    let s : State := { s with beacon := { s.beacon with batch := s.beacon.batch ++ [rec_], batchFirst := first } }
    if s.get 0x221009 ≤ s.beacon.batch.length then s.writeBatch else s

/-- The checks made since the last tick are closed at a tick: READs without a response were not reporting (R180). -/
def State.closeChecks (s : State) : State :=
  let late := s.care.lostReads ++ s.link.reads.filter fun o => o.code == 0x10
  let s := { s with
    link := { s.link with reads := s.link.reads.filter fun o => o.code != 0x10 }, care := { s.care with lostReads := [] } }
  let s := late.foldl (fun s o => s.recordCheck o.module (o.argument % 16) o.expected 0 o.frame 3) s
  let s := s.judgeHeld fun _ => true
  let s := s.care.checkTimes.foldl (fun s e => s.closeFrame e.1 e.2) s
  { s with care := { s.care with checks := [], checkTimes := [] } }

/-- The host's check request (R196): a module that is present and a window within it. -/
def checkRequestOk (b : Bytes) : Bool :=
  let c := fieldLE b 1 2
  let r := fieldLE b 3 2
  let cs := fieldLE b 5 2
  let rs := fieldLE b 7 2
  b.length == 9 && decide (byteAt b 0 < 64 ∧ 1 ≤ cs ∧ 1 ≤ rs ∧ c + cs ≤ 120 ∧ r + rs ≤ 135)

def State.requestCheck (s : State) (b : Bytes) : State :=
  { s with care := { s.care with
      hostCheck := some (byteAt b 0, fieldLE b 1 2, fieldLE b 3 2, fieldLE b 5 2, fieldLE b 7 2), hostCheckSent := false } }

/-! ### Temperature bands (R186) -/

/-- Thresholds at or below a temperature in s8.8. -/
def State.bandsBelow (s : State) (temp : Int) : Nat :=
  ((List.range 7).filter fun i => decide (signed 16 (fieldLE (s.dom 0x490010) (2 * i) 2) ≤ temp)).length

/-- A band is decided for a module that is to have, or has, some band; a change waits for the next BAND, and one not yet gathered that
would lead back is dropped (R186, R187). -/
def State.decideBand (s : State) (m has new : Nat) : State :=
  let mc := s.moduleCare m
  let sent := (mc.due.getLast?.map (·.2)).getD has
  if new = mc.change.getD sent then s.setModuleCare m { mc with band := new }
  else if new = sent then s.setModuleCare m { mc with band := new, change := none }
  else (s.setModuleCare m { mc with band := new, change := some new }).bump 0x490016

/-- The band for a lost temperature: that of 0x4900.13, or the one in force (R186). -/
def State.lostBand (s : State) (m band : Nat) : State :=
  let b := s.get 0x490013
  let s := (s.decideBand m band (if b = 0xFF then band else b)).onset 0xB 5 (m + 256)
  s.setModuleCare m { s.moduleCare m with lost := true }

/-- The CRC-32C of each drive table held; 0 for an empty one (R173, R196). -/
def State.tableCrcs (s : State) : List Nat := (List.range 8).map fun k => let b := s.dom (0x490018 + k); if b.isEmpty then 0 else crc32c b

/-- A table joins the tables to be loaded, one at a time; one that is there already is loaded from its start (R185). -/
def State.queueTable (s : State) (k : Nat) : State :=
  let loads := s.care.loads
  let new : DriveLoad := { table := k, offset := 0 }
  { s with care := { s.care with
      loads := if loads.any fun l => l.table == k then loads.map fun l => if l.table = k then new else l else loads ++ [new] } }

/-- After training, tables that differ in a module are loaded again (R185). -/
def State.compareTables (s : State) (m : Nat) (crcs : List Nat) : State :=
  if s.care.unchecked.contains m then
    let s := { s with care := { s.care with unchecked := s.care.unchecked.filter fun x => x != m } }
    (List.range 8).foldl (fun (s : State) k =>
      if nth s.tableCrcs k 0 != 0 && nth s.tableCrcs k 0 != nth crcs k 0 && s.care.loads.all (fun l => l.table != k)
      then s.queueTable k else s) s
  else s

/-- After a start, function 0xB is ready once the first status round is done: every module has reported and had its drive
tables compared, or is found without a report (R429 step 12); a standby reads no module. -/
def State.startCare (s : State) : State :=
  let done := s.care.unchecked.all fun m => (nth s.care.modules m {}).lost
  if nth s.stages 0xB .off == .starting && s.link.trained && (s.pair.role == 2 || (s.acting && done)) then s.stage 0xB .up else s

/-- A module's status is processed: the raw band is judged against the band in force that it reports, and what is decided is a change where
the module has not that band pending already (R173, R177, R186). -/
def State.moduleStatus (s : State) (m : Nat) (b : Bytes) : State :=
  let raw := fieldLE b 0 2
  let temp := signed 16 raw
  let mc := s.moduleCare m
  let band := byteAt b 2
  let has := if byteAt b 3 = 0xFF then band else byteAt b 3
  let s := s.setModuleCare m { mc with temperature := raw, inForce := byteAt b 2 }
  let s : State :=
    if raw = 0x8000 then s.lostBand m band
    else
      let s := s.setModuleCare m { s.moduleCare m with reportedAt := some s.now, lost := false }
      let r := s.bandsBelow temp
      let h := s.bandsBelow (temp + s.get 0x490011)
      (s.decideBand m has (if band < r then r else if h < band then h else band)).settle 0xB 5 (m + 256)
  let s := (s.compareTables m ((List.range 8).map fun k => fieldLE b (16 + 4 * k) 4)).startCare
  if bitOf (byteAt b 4) 4 then s.linkRead 0x12 m 0 else s

/-- No valid temperature from a module for 1 s (R186). -/
def State.reportLost (s : State) (m : Nat) : State :=
  let mc := s.moduleCare m
  if s.linkUp && s.modulePresent m && !mc.lost && decide ((mc.reportedAt.getD 0) + 1000000000 ≤ s.now) then
    ((s.setModuleCare m { mc with temperature := 0x8000 }).lostBand m mc.inForce).startCare
  else s

/-! ### Drive tables (R185) -/

/-- An accepted write of a table replaces it and is broadcast. -/
def State.writeTable (s : State) (k : Nat) (b : Bytes) : State := (s.putDom (0x490018 + k) b).queueTable k

/-- The table being loaded. -/
def State.loading (s : State) : Option DriveLoad := s.care.loads.head?
def State.setLoading (s : State) (l : DriveLoad) : State := { s with care := { s.care with loads := l :: s.care.loads.drop 1 } }

/-- A chunk of the table being loaded goes to every module (R172, R185). -/
def State.sendChunk (s : State) (table offset length : Nat) : State :=
  match s.loading with
  | none => s
  | some l =>
    let b := s.dom (0x490018 + table)
    if l.table = table ∧ l.offset = offset ∧ l.committedAt = none ∧ 1 ≤ length ∧ length ≤ 3840 ∧ offset + length ≤ b.length ∧ s.linkUp then
      (s.linkControl 0x11 0xFF (offset + 2097152 * table) ((b.drop offset).take length)).setLoading { l with offset := offset + length }
    else s

/-- The commit of a table whose chunks have all been sent (R172, R185). -/
def State.commitTable (s : State) (table : Nat) : State :=
  match s.loading with
  | none => s
  | some l =>
    let b := s.dom (0x490018 + table)
    if l.table = table ∧ l.offset = b.length ∧ l.committedAt = none ∧ s.linkUp then
      (s.linkControl 0x12 0xFF table (leBytes 4 b.length ++ leBytes 4 (crc32c b))).setLoading { l with committedAt := some s.now }
    else s

/-- The modules' CRCs of a table after its commit, in the order of the modules present: a module that differs is loaded
again once, and a second failure raises cause 0x07 (R185). -/
def State.verifyTable (s : State) (crcs : List Nat) : State :=
  match s.loading with
  | none => s
  | some l =>
    if l.committedAt = none then s
    else
      let want := nth s.tableCrcs l.table 0
      let bad := (s.modulesPresent.zip crcs).filter fun p => p.2 != want
      let next := { s with care := { s.care with loads := s.care.loads.drop 1 } }
      if bad.isEmpty then next
      else if l.retried then bad.foldl (fun s p => s.raise 0xB 7 p.1) next
      else s.setLoading { l with offset := 0, committedAt := none, retried := true }

/-! ### Ageing (R189 to R192) -/

/-- Blocks of the panel. -/
def State.blocks (s : State) : Nat := s.blockColumns * s.blockRows

/-- The sensing correction of a block's cell, u2.14 (R194). -/
def State.senseOf (s : State) (b c : Nat) : Nat :=
  let x := 4 * (b % s.blockColumns)
  let y := 4 * (b / s.blockColumns)
  let m := y / 1080 * 8 + x / 1920
  let cell := 16 * (y % 1080 / 120) + x % 1920 / 120
  fieldLE (s.dom 0x49003A) (((m * 144 + cell) * 3 + c) * 2) 2

/-- efficiency of R191, u1.15. -/
def efficiency (stress : Nat) (d : Nat → Nat) (k : Nat) : Nat :=
  let i := stress / 2 ^ 27
  let f := stress / 2048 % 65536
  let e : Int := d i + (((d (i + 1) : Int) - d i) * f + 32768) / 65536
  min 32768 ((e.toNat * k + 8192) / 16384)

def State.decay (s : State) (c i : Nat) : Nat := fieldLE (s.dom 0x490031) (66 * c + 2 * i) 2
def State.stressOf (s : State) (b c : Nat) : Nat := (lookup (3 * b + c) s.care.counters).getD 0
def State.efficiencyOf (s : State) (b c : Nat) : Nat := efficiency (s.stressOf b c) (s.decay c) (s.senseOf b c)

/-- e_ref of a colour (R191). -/
def State.refEfficiency (s : State) (c : Nat) : Nat :=
  max (s.get 0x490032) ((List.range s.blocks).foldl (fun m b => min m (s.efficiencyOf b c)) 32768)

/-- The target gain of a block and colour (R191). -/
def targetGain (enabled : Bool) (e ref : Nat) : Nat :=
  if !enabled || decide (e < ref) then 32768 else min 32768 (roundDiv ((ref * 32768 : Nat) : Int) e).toNat

/-- The gain map of one run of 16 blocks of a row: entries whose target differs by the step are replaced, and the run is
held in Packed 2:1 (R192, R275). The answer is the tiles to mark. -/
def State.updateRun (s : State) (c by_ r : Nat) (targets : Nat → Nat) : State :=
  let b0 := by_ * s.blockColumns + 16 * r
  let n := min 16 (s.blockColumns - 16 * r)
  let old := (List.range n).map fun i => s.gainAt (b0 + i) c
  let hit := fun (i : Nat) => let g := s.gainAt (b0 + i) c; let w := targets (b0 + i); decide (s.get 0x490033 ≤ max g w - min g w)
  let hits := (List.range n).filter hit
  if hits.isEmpty then s
  else
    let new := old.zipIdx.map fun p => if hit p.2 then targets (b0 + p.2) else p.1
    let held := (throughWord 1 (new ++ List.replicate (16 - n) (new.getLastD 0))).take n
    let gains := held.zipIdx.foldl (fun g p => setEntry 32768 (3 * (b0 + p.2) + c) p.1 g) s.care.gains
    ({ s with care := { s.care with gains } }).mark (hits.map fun i => by_ / 2 * s.tileColumns + (16 * r + i) / 4)

/-- Every gain is recomputed (R191, R192). -/
def State.updateGains (s : State) : State :=
  let refs := (List.range 3).map s.refEfficiency
  let on := s.get 0x490034 == 1
  let s0 := s
  let s := (List.range 3).foldl (fun s c =>
    (List.range s0.blockRows).foldl (fun s by_ => (List.range ((s0.blockColumns + 15) / 16)).foldl (fun (s : State) r =>
      s.updateRun c by_ r fun b => targetGain on (s0.efficiencyOf b c) (nth refs c 0)) s) s) s
  let beyond := (List.range s0.blocks).foldl (fun n b =>
    n + ((List.range 3).filter fun c => decide (s0.efficiencyOf b c < nth refs c 0)).length) 0
  let s := ({ s with care := { s.care with eRef := refs } }).put 0x490037 beyond
  s.follow (decide (s.get 0x490038 < beyond)) 0xB 8

/-- One counter grows by its level, with the dither drawn at random (R190; log entry 1). -/
def State.growCounter (s : State) (n key level : Nat) : State :=
  let (s, d) := s.draw
  let old := (lookup key s.care.counters).getD 0
  let new := min 0xFFFFFFFF (old + (level * n + d % 64) / 64)
  let s := { s with care := { s.care with counters := setEntry 0 key new s.care.counters } }
  if new = 0xFFFFFFFF ∧ old ≠ new then s.bump 0x49003C else s

/-- Counters and levels as the twin link carries them (R190, R385). -/
def State.stressBytes (s : State) : Bytes :=
  let keys := List.range (3 * s.blocks)
  (keys.flatMap fun k => leBytes 4 ((lookup k s.care.counters).getD 0)) ++ keys.flatMap fun k => leBytes 1 ((lookup k s.care.levels).getD 0)

def State.sendStress (s : State) : State :=
  let b := s.stressBytes
  s.twinChunks 5 (b.length / 3840 + 1) 0 b

/-- The update of every counter and gain, once per second in Run and Hold; the active member's go to its partner, which counts none of
that time itself (R190). -/
def State.updateStress (s : State) : State :=
  let n := (s.now - s.care.lastUpdate) / 1000000000
  let moved := { s with care := { s.care with lastUpdate := s.care.lastUpdate + n * 1000000000 } }
  if n = 0 then s
  else if s.standby || !(s.power.phase == .run || s.power.phase == .hold) then moved
  else
    let s := (moved.care.levels.foldl (fun s p => s.growCounter n p.1 p.2) moved).updateGains
    if s.paired then s.sendStress else s

/-! ### Current sensing (R194) -/

/-- A run starts on a module. -/
def State.startSensing (s : State) (m : Nat) : State :=
  let s := ({ s with care := { s.care with sensing := some (m, s.now) } }).put 0x49003B 1
  s.linkControl 0x14 m 0 []

/-- The blocks of a sensing cell. -/
def State.cellBlocks (s : State) (m cell : Nat) : List Nat :=
  let x0 := m % 8 * 480 + cell % 16 * 30
  let y0 := m / 8 * 270 + cell / 16 * 30
  (List.range 30).flatMap fun j => (List.range 30).map fun i => (y0 + j) * s.blockColumns + x0 + i

/-- The correction of one cell and colour from its measured value; with no modelled efficiency the spec states none. -/
def State.correctCell (s : State) (m cell c value : Nat) : State :=
  if value = 0 then s
  else
    let sum := (s.cellBlocks m cell).foldl (fun n b => n + efficiency (s.stressOf b c) (s.decay c) 16384) 0
    let e := (looseDiv (sum : Nat) 900).toNat
    let (s, k) := if e = 0 then s.draw else (s, (roundDiv ((value * 16384 : Nat) : Int) e).toNat)
    let o := ((m * 144 + cell) * 3 + c) * 2
    let old := s.dom 0x49003A
    s.putDom 0x49003A (old.take o ++ leBytes 2 (max 0x2000 (min 0x8000 k)) ++ old.drop (o + 2))

/-- A sensing result (R194). -/
def State.senseResult (s : State) (m : Nat) (b : Bytes) : State :=
  let values := (List.range 432).map fun i => (i, fieldLE b (2 * i) 2)
  let s := values.foldl (fun s p => s.correctCell m (p.1 / 3) (p.1 % 3) p.2) s
  ({ s with care := { s.care with sensing := none } }).put 0x49003B (if values.any (fun p => p.2 != 0) then 2 else 3)

/-! ### Module events (R177) -/

/-- A module's event: a scrub mismatch marks its tile changed and raises cause 0x04. -/
def State.moduleEvent (s : State) (m : Nat) (b : Bytes) : State :=
  if byteAt b 0 = 1 then (s.mark (s.moduleTiles m (fieldLE b 2 2) (fieldLE b 4 2) 1 1)).raise 0xB 4 m else s

/-! ### The commands' meanings -/

/-- A command of a module number sends while this member owns the panel. -/
def onModule (m : Nat) (t : Nat) (s : State) (f : State → State) : Host.Outcome State Fault Refusal :=
  actIf (m < 64) t s fun s => if s.linkUp then f s else s

/-- READ_MODULE_STATUS (R173). -/
def execReadModuleStatus (t module : Nat) (s : State) : Host.Outcome State Fault Refusal :=
  onModule module t s fun s => s.linkRead 2 module 0

/-- READ_TILE (R150). -/
def execReadTile (t module column row : Nat) (s : State) : Host.Outcome State Fault Refusal :=
  onModule module t s fun s => s.linkRead 3 module (column % 128 + 128 * (row % 256))

/-- READ_WINDOW_CHECKSUM (R176): slots are 0 to 15; the expected W is that of the slot's window. -/
def execReadWindowChecksum (t module slot : Nat) (s : State) : Host.Outcome State Fault Refusal :=
  onModule module t s fun s =>
    let frame := s.get 0x285004
    if slot = 0 then s.readWindow frame module 0 0 0 120 135
    else match (s.safetyWindows module).find? fun w => w.1 == slot with
      | some w => s.readWindow frame module slot w.2.1 w.2.2.1 w.2.2.2.1 w.2.2.2.2
      | none => (s.timeChecks frame).linkRead 0x10 module (slot % 16)

/-- READ_SENSE_RESULT (R194). -/
def execReadSenseResult (t module : Nat) (s : State) : Host.Outcome State Fault Refusal :=
  onModule module t s fun s => s.linkRead 0x11 module 0

/-- READ_MODULE_EVENT (R177). -/
def execReadModuleEvent (t module : Nat) (s : State) : Host.Outcome State Fault Refusal :=
  onModule module t s fun s => s.linkRead 0x12 module 0

/-- SET_WINDOW (R175): slots are 1 to 15. -/
def execSetWindow (t module slot column row columns rows : Nat) (s : State) : Host.Outcome State Fault Refusal :=
  onModule module t s fun s => s.setWindow module (slot % 16) column row columns rows

/-- DRIVE_TABLE_CHUNK (R185): tables are 0 to 7. -/
def execDriveTableChunk (t table offset length : Nat) (s : State) : Host.Outcome State Fault Refusal :=
  actIf (table < 8) t s fun s => s.sendChunk table offset length

/-- DRIVE_TABLE_COMMIT (R185). -/
def execDriveTableCommit (t table : Nat) (s : State) : Host.Outcome State Fault Refusal :=
  actIf (table < 8) t s fun s => s.commitTable table

/-- PRESENTATION_MODE (R182): broadcast at the epoch that carries the change, after the PRESENT of the old epoch. -/
def execPresentationMode (t : Nat) (frameAtomic : Bool) (s : State) : Host.Outcome State Fault Refusal :=
  act t s fun s =>
    if s.linkUp && (s.get 0x490001 == 1) == frameAtomic && s.link.atomic != frameAtomic
        && s.link.toPresent.all (fun f => notBefore f s.link.modeFrom) then
      let s := s.linkControl 0x13 0xFF (if frameAtomic then 1 else 0) []
      { s with link := { s.link with atomic := frameAtomic } }
    else s

/-- START_SENSING (R194). -/
def execStartSensing (t module : Nat) (s : State) : Host.Outcome State Fault Refusal :=
  onModule module t s fun s => s.linkControl 0x14 module 0 []

/-- PRESENT (R163): what waits for the PRESENT of the previous frame follows it (R179). -/
def execPresent (t : Nat) (s : State) : Host.Outcome State Fault Refusal :=
  act t s fun s =>
    s.sendPresent.startDueChecks

/-- TEMPERATURE_POLL (R186): the module's status is read and decides its band. -/
def execTemperaturePoll (t module : Nat) (status : Bytes) (s : State) : Host.Outcome State Fault Refusal :=
  onModule module t s fun s =>
    let tag := s.link.nextTag
    let s := s.linkRead 2 module 0
    ({ s with link := { s.link with reads := s.link.reads.filter fun o => o.tag != tag || o.module != module } }).moduleStatus module status

/-- TEMPERATURE_REPORT_LOST (R186). -/
def execTemperatureReportLost (t module : Nat) (s : State) : Host.Outcome State Fault Refusal :=
  actIf (module < 64) t s fun s => s.reportLost module

/-- DRIVE_TABLE_VERIFY (R185). -/
def execDriveTableVerify (t : Nat) (crcs : List Nat) (s : State) : Host.Outcome State Fault Refusal :=
  act t s fun s => s.verifyTable crcs

/-- STRESS_COUNTER_UPDATE (R190). -/
def execStressCounterUpdate (t : Nat) (s : State) : Host.Outcome State Fault Refusal := act t s State.updateStress

/-- SENSE_RESULT_READ (R194): 20 ms after the command. -/
def execSenseResultRead (t : Nat) (result : Bytes) (s : State) : Host.Outcome State Fault Refusal :=
  act t s fun s =>
    match s.care.sensing with
    | some (m, at_) =>
      if at_ + 20000000 ≤ s.now then
        let tag := s.link.nextTag
        let s := s.linkRead 0x11 m 0
        ({ s with link := { s.link with reads := s.link.reads.filter fun o => o.tag != tag || o.module != m } }).senseResult m result
      else s
    | none => s

end Sys2Proof.Machine
end

