-- ==== Sys2Proof/Machine/Health.lean ====
section
/-!
DEFINITION. Sys2Proof/Machine/Health.lean: what a member reports of itself: the CRCs of its map and render configuration
(R107, R136), spares left, its role as others see it (R397, R399), the health report (R397); and giving up the active role
(R383).
-/

namespace Sys2Proof.Machine

/-- 0x4200.0B: CRC-32C over the active geometry block and entries; 0 while no bank is active (R107). -/
def State.mapCrc (s : State) : Nat := if s.banks.active.isSome then crc32c (s.activeGeometry ++ s.activeEntries) else 0

/-- 0x4100.19: CRC-32C over 0x4100.01 to .09 in force (R136). -/
def State.renderCrc (s : State) : Nat :=
  crc32c (([1, 2, 3, 4].flatMap fun i => s.dom (0x410000 + i)) ++ ([5, 6, 7, 8].flatMap fun i => leBytes 2 (s.get (0x410000 + i)))
    ++ s.dom 0x410009)

/-- Entries of the active bank that are dead, 0x4200.0C (R105). -/
def State.deadLenslets (s : State) : Nat := ((entriesOf s.activeEntries).filter entryDead).length

/-- Spare ranks left (0x2500.02), working carvers and their spares (0x2500.03, .05). -/
def State.spareRanks (s : State) : Nat := (s.memory.ranks.filter fun r => r.state == 3).length
def State.workingCarvers (s : State) : Nat := (s.lift.carvers.filter (·.working)).length
def State.carverSpares (s : State) : Nat := s.workingCarvers - 32

/-- Twin lanes that serve as a spare (R384). -/
def State.twinSpares (s : State) : Nat := (s.twinBeside (s.pair.wire.nextMap.getD s.pair.wire.map)).length

/-- The standby is ready (R399). -/
def State.standbyReady (s : State) : Bool :=
  s.pair.twinUp && s.pair.mirrorCurrent && s.get 0x23000E == 0 && s.usable 9 && s.usable 0xA

/-- 0x2300.03 (R397, R420). -/
def State.roleView (s : State) : Nat :=
  if !s.paired then 0 else if s.pair.role = 1 then 1 else if s.pair.role = 4 then 4 else if s.standbyReady then 2 else 3

/-- The health report (R397); a single member reports role 0x01, as it always acts as owner, and the
twin spare's PRBS is clean while there is one (log entry 91). -/
def State.healthReport (s : State) : Bytes :=
  let p := s.pair
  let b := leBytes 2 0x4852 ++ leBytes 1 1 ++ leBytes 1 (if s.paired then s.roleView else 1)
    ++ leBytes 2 s.readyBits ++ leBytes 2 s.failedBits ++ leBytes 2 s.degradedBits ++ leBytes 1 s.powerState
    ++ leBytes 1 ((if p.goldenAll then 1 else 0) + (if p.scrubClean then 2 else 0) + (if p.loopbackClean then 4 else 0) + if s.twinSpares = 0 ∨ !p.prbsClean then 0 else 8)
    ++ leBytes 4 (s.get 0x400005) ++ leBytes 4 (s.get 0x40000B) ++ leBytes 4 s.mapCrc ++ leBytes 4 s.renderCrc
    ++ leBytes 1 (s.get 0x3C0002) ++ leBytes 1 (s.get 0x3C0003) ++ leBytes 1 (s.get 0x480002) ++ leBytes 1 (s.get 0x480001)
    ++ leBytes 4 (s.get 0x48000C) ++ leBytes 4 (s.get 0x48000D) ++ leBytes 8 s.ptp
    ++ leBytes 1 (s.get 0x281005) ++ leBytes 1 s.workingCarvers ++ leBytes 2 (s.get 0x21100B) ++ leBytes 2 (s.get 0x211004)
    ++ leBytes 1 s.spareRanks ++ leBytes 1 s.carverSpares ++ leBytes 1 s.spareLanes.length ++ leBytes 1 s.twinSpares ++ [0, 0]
  b ++ leBytes 4 (crc32c b)

/-- The report is sent; "since the last report" starts anew (R385, R397). -/
def State.sendHealth (s : State) : State :=
  if !s.paired then s
  else
    let s := s.twinSend 1 0 s.healthReport
    { s with pair := { s.pair with goldenAll := true } }

/-- The Rinkboard and the link's queues are given up and the lanes go idle, unless they train; what was claimed is marked changed again,
and the bands decided as owner are forgotten (R144, R166, R186).
Window checks without an answer stay open until the tick records them (R180). -/
def State.dropPanel (s : State) : State :=
  let tiles := s.link.claims.map (·.tile)
  let s := if s.link.step = 0 then (s.send (.orderedSet false 3 0 0)).driveOnly [] else s
  let s := { s with
    link := { s.link with
      retry := [], waiting := [], reads := s.link.reads.filter (fun o => o.code == 0x10), rects := [], claims := [], claiming := none, claimOwed := false
      toPresent := [], fallenBack := [], owned := false, rerendered := [] }
    care := { s.care with dueChecks := [], modules := s.care.modules.map fun (m : ModuleCare) => { m with band := 0xFF, change := none, due := [] } }
    lift := { s.lift with carvers := s.lift.carvers.map fun (c : Carver) => { c with band := none } } }
  s.mark tiles

/-- A member becomes standby: its port enters electrical idle, its streams wait for their source, and exposure writes that have not begun
are not performed (R144, R394, R395). -/
def State.becomeStandby (s : State) : State :=
  let s := s.dropPanel
  let s := { s with pair := { s.pair with role := 2, yieldingSince := none } }
  let s := if s.link.trained then s.put 0x480001 3 else s
  let s := { s with media := { s.media with cams := s.media.cams.map fun (c : Cam) => { c with jobs := [] } } }
  (s.streamsOn).foldl (fun s n => s.put (streamK n 0x10) 1) s

/-- The hub has ended an ownership (R166, R383). -/
def State.loseOwnership (s : State) : State :=
  let paired := s.paired
  let s := (if s.link.step = 0 then s.dropPanel.put 0x480001 3 else s.dropPanel).raise 0xA 5
  if paired && s.pair.role == 1 then
    let s := s.becomeStandby.raise 0xE 8
    let s := { s with pair := { s.pair with roleEntry := some (1, s.roleView, 0x6E08) } }
    (s.settleRole 0).sendHealth
  else s

end Sys2Proof.Machine
end

