-- ==== Sys2Proof/Machine/Link.lean ====
section
/-!
DEFINITION. Sys2Proof/Machine/Link.lean: the Maelwin port: training, width, sparing (R144 to R147), ownership (R164 to R166),
acknowledgement and retry (R154), upstream packets by kind (R153). Ordered sets in what is sent: 1 deskew, 2 lane map,
3 electrical idle, 4 training burst, 5 heartbeat (twin link); the symbols of the first four go out lane by lane beside them.
-/

namespace Sys2Proof.Machine

/-! ### Lanes -/

/-- The width that a number of good lanes gives (R147). -/
def widthOfLanes (n : Nat) : Nat := if 16 ≤ n then 16 else if 8 ≤ n then 8 else if 4 ≤ n then 4 else 0

/-- Lane-map sets on lanes: each physical lane's logical lane, 0xFF for none (R141). -/
def State.sendMapOn (s : State) (lanes : List Nat) : State :=
  let g := (s.link.generation + 1) % 256
  let s := { s with link := { s.link with generation := g } }
  let map := s.link.nextMap.getD s.link.map
  let logical := fun (l : Nat) => match map.idxOf? l with | some i => i | none => 0xFF
  lanes.foldl (fun (s : State) l => s.send (.orderedSet false 2 (logical l) g)) (s.drive (lanes.map fun l => (l, mapSet (logical l) g)))

/-- A new lane map goes out on every lane that is not in electrical idle (R141, R144; log entry 86); from a port that drives none it goes
out with its next bursts. -/
def State.sendMap (s : State) : State := if s.link.driven.isEmpty then s else s.sendMapOn s.link.driven

/-- A burst that ends electrical idle, with the lane map that waits for one (R144, R146). -/
def State.burstWithMap (s : State) (lanes : List Nat) : State :=
  if s.link.nextMap.isSome then ((s.burstOut lanes).sendMapOn lanes).burst lanes else s.burst lanes

/-- Logical lanes are assigned to the lowest-numbered good lanes; the map sets go out, and a deskew set puts the map in force (R141,
R146). -/
def State.assignLanes (s : State) : State :=
  let good := s.goodLanes
  let w := widthOfLanes good.length
  let s := (({ s with link := { s.link with nextMap := some (good.take w) } }).put 0x480002 w).sendMap
  (s.driveAll s.link.driven (deskewSet s.link.deskew)).countSet.applyMap

/-- Training begins: bursts on every lane that is not retired (R145 step 1). A CLAIM not yet acknowledged stays in the retry buffer
and is sent again after it (R147, R165). -/
def State.beginTraining (s : State) (linkState : Nat) : State :=
  let s := { s with link := { s.link with trained := false, step := 1, nextMap := none, setSymbols := 0, setsAhead := 0 } }
  let lanes := (List.range 18).filter fun l => !bitOf (s.get 0x480004) l
  (((s.stage 0xA .starting).put 0x480001 linkState).driveOnly lanes).burst lanes

/-- The link is Failed (R145, R147); nothing is driven and no packet is discarded (R154). DEDUCED (log entry 86): a link that fails for want of four good lanes raises cause 0x04 too, which is R171's only cause for a Failed link. -/
def State.failLink (s : State) : State :=
  ((s.stopPanel.put 0x480001 5).put 0x480002 0).raiseCore 0xA 4 0 .failed

/-- A retrain: the retry buffer survives (R147, R171). -/
def State.retrain (s : State) : State :=
  if s.link.trained && s.usable 0xA then ((s.bump 0x480013).raise 0xA 3).beginTraining 4 else s

/-- A training step misses its bound: again from step 1, and Failed at the third within 1 s (R145). -/
def State.trainingFails (s : State) : State :=
  let fails := (s.link.fails.filter fun t => decide (s.now < t + 1000000000)) ++ [s.now]
  let s := { s with link := { s.link with fails } }
  if fails.length < 3 then s.beginTraining (s.get 0x480001) else s.failLink

/-- A lane is retired (R146): a spare takes the place of a data lane by lane-map sets, which take effect at the next deskew set, or
the width falls by a retrain. A spare is driven no longer (R144). The placement epoch advances (R347). -/
def State.retireLane (s : State) (l : Nat) : State :=
  if bitOf (s.get 0x480004) l then s
  else
    let map := s.link.nextMap.getD s.link.map
    let spares := s.goodLanes.filter fun x => !map.contains x && x != l
    let s := ((s.put 0x480004 (s.get 0x480004 + 2 ^ l)).raise 0xA 1 l).nextPlacement
    if !s.link.trained then s
    else if !map.contains l then (if s.link.map.contains l || s.link.driven.isEmpty then s else s.driveOnly s.lanesWanted)
    else match spares with
      | sp :: _ => ({ s with link := { s.link with nextMap := some (map.map fun x => if x = l then sp else x) } }).sendMap
      | [] => s.retrain

/-! ### Ownership (R165) -/

/-- CLAIM with an epoch one above the known maximum, after a burst that ends electrical idle (R144, R165), once the retry buffer has room
for it (R154). -/
def State.sendClaim (s : State) : State :=
  let epoch := max (s.get 0x48000D) (max s.pair.mirrorEpoch (s.get 0x48000C)) + 1
  let s := (s.driveOnly s.lanesWanted).burstWithMap s.lanesWanted
  let p := packetOf 6 0xFF 0 []
  if s.linkRoom p then
    ({ s with link := { s.link with claiming := some epoch, claimOwed := false } }).linkEmitAs epoch p
  else { s with link := { s.link with claimOwed := true } }

/-- The CLAIM is accepted: the port is owner, modules have discarded staged tiles, a BAND for every module is due, and what waits is
sent (R164, R165, R187). DEDUCED (log entry 86): a CLAIM leaves the modules' presentation mode as it is, since R164 and R182 have it
discard staged tiles alone; DESIGN CHOICE: a port that was not owner before takes it to be that of 0x4900.01 in force. -/
def State.claimAccepted (s : State) (epoch : Nat) : State :=
  let s := ((s.put 0x48000C epoch).put 0x480001 2).unstage 0xFF
  let atomic := if s.link.owned then s.link.atomic else s.get 0x490001 == 1
  let s := { s with
    link := { s.link with claiming := none, owned := true, atomic, fallenBack := [] }
    care := { s.care with bandAll := true, unchecked := s.modulesPresent, windowsSet := false } }
  drainLink (s.link.waiting.length + 1) s

/-! ### Training ends (R145 steps 2 to 7) -/

/-- The hub's capabilities (R150, R171, R112). -/
def State.capabilities (s : State) (b : Bytes) : State :=
  let arr := byteAt b 0 % 16 + 16 * (byteAt b 1 % 16)
  let last := s.get 0x48000F
  let s := { s with link := { s.link with modules := fieldLE b 4 8, capabilityAtomic := bitOf (byteAt b 2) 0 } }
  let s := s.put 0x48000F arr
  let s := if last ≠ 0 ∧ last ≠ arr then s.raise 0xA 7 else s
  if s.banks.active.isSome && arr != 0 && arr != s.bankArrangement then s.onset 9 1 else s

/-- A packet of a retry copy that arrived poisoned is formed anew: its tiles are rendered again from the epoch in force, and what is
known of them follows (R178, R332). -/
def State.refreshPacket (s : State) (p : Packet) : State × Packet :=
  if !p.lost then (s, p)
  else
    let codes := p.tiles.map fun t => (t, s.renderTile t)
    let s := p.tiles.foldl State.noteRendered s
    let s := codes.foldl (fun (s : State) (c : Nat × List Nat) =>
      match s.ownerOf c.1 with
      | some o =>
        if o.rect = p.rect ∧ (o.state = .sent ∨ o.state = .staged) then
          let s := s.setClaims (mapOwner c.1 (fun (o : Claim) => { o with codes := c.2, drawn := s.now }) s.link.claims)
          if o.atomic && !o.shown then s else s.expect c.1 p.format c.2
        else s
      | none => s) s
    (s, { p with lost := false, payload := codes.flatMap fun c => tilePayload p.format c.2 })

/-- Packets of the retry buffer from number `n` on are sent again in order, each with its sends as the function gives them (R154). -/
def State.resendWith (s : State) (sends : Nat → Nat) (n : Nat) : State :=
  let fresh := (s.link.retry.drop n).foldl (fun (a : State × List Packet) p =>
    let r := a.1.refreshPacket p
    (r.1, a.2 ++ [{ r.2 with sends := sends r.2.sends, sentAt := s.now }])) (s, [])
  let s := fresh.1
  let s := { s with link := { s.link with retry := s.link.retry.take n ++ fresh.2 } }
  fresh.2.foldl State.linkResend s

/-- Everything in the retry buffer is sent again after a retrain (R147). -/
def State.resendAll (s : State) : State := s.resendWith (fun _ => 1) 0

/-- Step 6 of R145: the READ of the hub's capabilities, before any packet that waits; it is held until acknowledged like any packet
(R154). -/
def State.readCapabilities (s : State) : State :=
  let p := packetOf 4 0xFF (1 + 256 * s.link.nextTag) []
  let s := s.openRead 1 0xFF 0
  if s.linkRoom p then s.linkEmit p else { s with link := { s.link with waiting := p :: s.link.waiting } }

/-- Steps 4 to 6 of R145: at the hub's report of the lanes' lock, lanes that did not lock are retired, the rest are assigned, and the
hub's capabilities are read (R146, R147). -/
def State.takeReport (s : State) (locked : Nat) : State :=
  let before := s.get 0x480002
  let s := { s with link := { s.link with locked } }
  let s := ((List.range 18).filter fun l => !bitOf locked l).foldl State.retireLane s
  if s.goodLanes.length < 4 then s.failLink
  else
    let s := s.assignLanes
    let s := if s.get 0x480002 < 16 ∧ s.get 0x480002 ≠ before then s.raise 0xA 2 else s
    ({ s with link := { s.link with step := 6 } }).readCapabilities

/-- Training completes: the hub's report of the lanes is taken if it has not been, and its capabilities are in; what was not
acknowledged is sent again, and the owner claims, with the CLAIM that is out or a new one; another port enters electrical idle
(R145 to R147, R165). -/
def State.finishTraining (s : State) (locked : Nat) (caps : Bytes) : State :=
  if nth s.stages 0xA .off != .starting || s.link.step = 0 then s
  else if caps.length < 16 then s.trainingFails
  else
    let s := if s.link.step = 6 then s else s.takeReport locked
    if s.link.step ≠ 6 then s
    else
      let s := { s with
        link := { s.link with trained := true, step := 0, reads := s.link.reads.filter fun (o : OpenRead) => o.code != 1 }
        care := { s.care with unchecked := [] } }
      let s := ((s.pllLocked .panelLanes).stage 0xA .up).capabilities caps
      let s := { s with care := { s.care with bandAll := true, unchecked := s.modulesPresent } }
      let s := s.startCare
      if !s.acting then ((s.put 0x480001 3).send (.orderedSet false 3 0 0)).driveOnly []
      else
        let s := (s.put 0x480001 1).resendAll
        if s.link.claiming.isSome then s else s.sendClaim

/-! ### Acknowledgement and retry (R154) -/

/-- Packets, from the oldest unacknowledged on, whose number is at or before a sequence number, modulo 2^16: the 16,384 that may be
unacknowledged (R154) are less than half of all numbers. -/
def coveredBy (seq : Nat) (l : List Packet) : Nat :=
  (l.takeWhile fun (p : Packet) => decide ((seq + 65536 - p.seq) % 65536 < 32768)).length

/-- One packet is acknowledged: its effect by kind (R161, R164). -/
def State.ackPacket (s : State) (p : Packet) : State :=
  match p.kind with
  | 1 => p.tiles.foldl (fun s t => s.ackTile p.rect t) s
  | 2 => s.ackPresent
  | 6 => if s.link.claiming = some p.epoch then s.claimAccepted p.epoch else s
  | _ => s

/-- An ACK covers every packet up to its sequence; room in the retry buffer lets packets that wait go (R154). -/
def State.ackUpTo (s : State) (seq : Nat) : State :=
  let n := coveredBy seq s.link.retry
  let done := s.link.retry.take n
  let s := { s with link := { s.link with retry := s.link.retry.drop n } }
  let s := done.foldl State.ackPacket s
  let s := if s.link.claimOwed && s.link.trained then s.sendClaim else s
  drainLink (s.link.waiting.length + 1) s

/-- Packets from one on are sent again in order; one of them that has been sent four times causes a retrain instead (R147, R154). -/
def State.resendFrom (s : State) (n : Nat) : State :=
  match s.link.retry[n]? with
  | none => s
  | some _ =>
    if !(s.link.trained && s.linkSends) then s
    else if (s.link.retry.drop n).any fun q => decide (4 ≤ q.sends) then s.retrain
    else s.resendWith (· + 1) n

/-- A NAK asks for everything from its sequence number on (R154). -/
def State.nakFrom (s : State) (seq : Nat) : State := s.resendFrom (coveredBy ((seq + 65535) % 65536) s.link.retry)

/-! ### Upstream (R153, R166) -/

/-- An upstream packet's header (R153), and whether its length and CRC fit. -/
def upHeader (b : Bytes) : UpHeader :=
  { kind := byteAt b 0, flags := byteAt b 1, sequence := fieldLE b 2 2, hubEpoch := fieldLE b 4 4, ports := byteAt b 8
    module := byteAt b 9, tag := byteAt b 13 }
def upPayload (b : Bytes) : Bytes := (b.drop 16).take (fieldLE b 10 2)
def upCrcOk (b : Bytes) : Bool :=
  b.length == 20 + fieldLE b 10 2 && fieldLE b (b.length - 4) 4 == crc32c (b.take (b.length - 4))

/-- An upstream packet, from its header to its CRC: one abandoned with EDB is discarded (R148), one whose CRC fails is counted; the
header, and what its kind does unless it shows that ownership is lost (R153, R166). Of a port that retrains, up
to the answer to its CLAIM, the hub still knows the owner. -/
def State.upstream (s : State) (kind : Nat) (b : Bytes) (edb : Bool) (f : UpHeader → State → State) : State :=
  s.awake fun s =>
  let h := upHeader b
  if edb then s
  else if !upCrcOk b then s.bump 0x480011
  else
    let s := (s.put 0x48000D h.hubEpoch).put 0x48000E h.ports
    let s := { s with link := { s.link with lastHeader := some s.now } }
    let s := if bitOf h.flags 0 then s.bump 0x480012 else s
    let owner := s.get 0x480001 == 2 || ((s.get 0x480001 == 1 || s.get 0x480001 == 4) && s.link.owned)
    let lost := s.acting && ((bitOf h.flags 0 && (owner || s.link.claiming.isSome)) || (owner && !bitOf h.ports 4))
    if lost then s.loseOwnership
    else
      let s := if h.kind = kind then f h s else s
      let s := if bitOf h.flags 2 && decide (h.module < 64) then s.fallBack h.module else s
      if bitOf h.flags 1 && decide (h.module < 64) && s.linkUp && s.link.reads.all (fun o => o.code != 0x12 || o.module != h.module)
      then s.linkRead 0x12 h.module 0 else s

/-- A READ's answer by its code (R150, R172). -/
def State.answerRead (s : State) (o : OpenRead) (b : Bytes) : State :=
  match o.code with
  | 0x01 => s.capabilities b
  | 0x02 => s.moduleStatus o.module b
  | 0x10 => s.windowResponse o b
  | 0x11 => match s.care.sensing with | some (m, _) => if m = o.module then s.senseResult m b else s | none => s
  | 0x12 => s.moduleEvent o.module b
  | _ => s

/-- A response answers the READ of its tag and module (R153, R180). -/
def State.readResponse (s : State) (module tag : Nat) (b : Bytes) : State :=
  match s.link.reads.find? fun o => o.tag == tag && o.module == module with
  | none => s
  | some o => ({ s with link := { s.link with reads := s.link.reads.filter fun x => x.tag != tag || x.module != module } }).answerRead o b

/-- Errors per physical lane in the last 1 s (0x4800.14). -/
def State.laneErrors (s : State) : List Nat :=
  let rs := s.link.laneReports.filter fun r => decide (s.now < r.1 + 1000000000)
  (List.range 18).map fun l => rs.foldl (fun n r => n + nth r.2 l 0) 0

/-- A STATUS packet: step 4 of a training (R145); else lanes in use and spares that lost lock, or that pass the error limit, are retired
(R146, R155). -/
def State.laneStatus (s : State) (locked : Nat) (errors : List Nat) : State :=
  let keep := s.link.laneReports.filter fun r => decide (s.now < r.1 + 1000000000)
  let s := { s with link := { s.link with laneReports := keep ++ [(s.now, errors)] } }
  if !s.link.trained then (if nth s.stages 0xA .off == .starting && s.link.step == 1 then s.takeReport locked else s)
  else
    let watched := s.link.map ++ s.spareLanes
    let bad := (List.range 18).filter fun l => watched.contains l && (!bitOf locked l || decide (s.get 0x480005 < nth s.laneErrors l 0))
    bad.foldl State.retireLane s

/-- The window that a slot of a module holds (R175, R179, R196). -/
def State.slotWindow (s : State) (m slot : Nat) : Option (Nat × Nat × Nat × Nat) :=
  if slot = 0 then some (0, 0, 120, 135)
  else if slot = 15 then s.care.hostCheck.map (·.2)
  else ((s.safetyWindows m).find? fun w => w.1 == slot).map (·.2)

/-- A READ 0x10 that is sent anew carries the W expected at its new place in sequence (R179). -/
def State.expectAgain (s : State) (o : OpenRead) : OpenRead :=
  match (if o.code = 0x10 then s.slotWindow o.module (o.argument % 16) else none) with
  | some (c, r, cs, rs) =>
    let e := s.windowExpected o.module c r cs rs
    { o with expected := e.1, known := e.2 }
  | none => o

/-- A READ unanswered for 100 µs since it was sent is sent once more; the second failure raises cause 0x06 (R153). -/
def State.readTimesOut (s : State) (tag : Nat) : State :=
  match s.link.reads.find? fun o => o.tag == tag with
  | none => s
  | some o =>
    if decide (s.now < o.at_ + 100000)
        || s.link.waiting.any (fun (p : Packet) => p.kind == 4 && p.spec / 256 % 256 == tag && p.module == o.module) then s
    else if o.tries < 2 then
      let s := { s with link := { s.link with
          reads := s.link.reads.map fun (x : OpenRead) =>
            if x.tag = tag ∧ x.module = o.module then { s.expectAgain x with tries := 2, at_ := s.now } else x } }
      s.linkSend (packetOf 4 o.module (o.code + 256 * tag + 65536 * o.argument) [])
    else
      let s := { s with link := { s.link with reads := s.link.reads.filter fun x => x.tag != tag || x.module != o.module } }
      let s := if o.code = 0x10 then s.recordCheck o.module (o.argument % 16) o.expected 0 o.frame 3 else s
      s.raise 0xA 6 (if o.module < 64 then o.module else 0xFF)

/-- The deskew set of an interval of 1,024 symbol times on the owner port (R141); one that paused a packet has gone out with it. -/
def State.deskewNow (s : State) : State :=
  if s.link.setsAhead = 0 then s.endInterval else { s with link := { s.link with setsAhead := s.link.setsAhead - 1 } }

/-- The refresh of a port that does not own the panel: two training bursts (R144), around the lane map that waits for one. -/
def State.refreshIdle (s : State) : State :=
  let lanes := s.lanesWanted
  let s := s.burstOut lanes
  ((if s.link.nextMap.isSome then s.sendMapOn lanes else s).burst lanes).driveAll lanes eiosSet

/-! ### The commands' meanings -/

/-- LINK_TRAINING (R145). -/
def execLinkTraining (t locked : Nat) (capabilities : Bytes) (s : State) : Host.Outcome State Fault Refusal :=
  act t s fun s => s.finishTraining locked capabilities

/-- A step of R145 is under way: steps 1 to 4 until the hub's report of the lanes, 5 to 7 from then on. -/
def State.inStep (s : State) (step : Nat) : Bool :=
  nth s.stages 0xA .off == .starting && (if step ≤ 4 then s.link.step == 1 else s.link.step == 6)

/-- TRAINING_STEP_TIMEOUT (R145): steps are 1 to 7; the bound of a step that is not under way does not run. -/
def execTrainingStepTimeout (t step : Nat) (s : State) : Host.Outcome State Fault Refusal :=
  actIf (1 ≤ step && step ≤ 7) t s fun s => if s.inStep step then s.trainingFails else s

/-- DESKEW_SET (R141): on the driven lanes of the owner port. -/
def execDeskewSet (t : Nat) (s : State) : Host.Outcome State Fault Refusal :=
  act t s fun s =>
    if s.linkUp then s.deskewNow else s

/-- IDLE_REFRESH (R144). -/
def execIdleRefresh (t : Nat) (s : State) : Host.Outcome State Fault Refusal :=
  act t s fun s =>
    if s.link.trained && s.get 0x480001 == 3 && s.usable 0xA then s.refreshIdle else s

/-- LANE_RETIRE (R146): lanes are 0 to 17. -/
def execLaneRetire (t lane : Nat) (_event : LaneEvent) (s : State) : Host.Outcome State Fault Refusal :=
  actIf (lane < 18) t s fun s => if s.link.trained && s.served then s.retireLane lane else s

/-- LANE_LOOPBACK (R396): on a standby, a lane that fails its near-end loopback is retired. -/
def execLaneLoopback (t lane : Nat) (passed : Bool) (s : State) : Host.Outcome State Fault Refusal :=
  actIf (lane < 18) t s fun s =>
    if !(s.standby && s.link.trained && s.served) then s
    else
      let s := { s with pair := { s.pair with loopbackClean := if lane = 0 then passed else s.pair.loopbackClean && passed } }
      if passed then s else s.retireLane lane

/-- RETRAIN (R147). -/
def execRetrain (t : Nat) (_reason : RetrainReason) (s : State) : Host.Outcome State Fault Refusal := act t s State.retrain

/-- CLAIM (R165): by a member that is to take ownership, or takes it again. -/
def execClaim (t : Nat) (s : State) : Host.Outcome State Fault Refusal :=
  act t s fun s => if s.acting && s.link.trained && s.usable 0xA && s.link.claiming.isNone && !s.link.claimOwed && s.get 0x480001 != 2 then s.sendClaim else s

/-- READ_HUB_CAPABILITIES (R150). -/
def execReadHubCapabilities (t : Nat) (s : State) : Host.Outcome State Fault Refusal :=
  act t s fun s => if s.linkUp then s.linkRead 1 0xFF 0 else s

/-- NAK (R154). -/
def execNak (t : Nat) (packet : UpPacket) (s : State) : Host.Outcome State Fault Refusal :=
  act t s fun s => s.upstream 0x82 packet.bytes packet.edb fun h s => s.nakFrom h.sequence

/-- READ_RESPONSE (R153). -/
def execReadResponse (t : Nat) (packet : Bytes) (edb : Bool) (s : State) : Host.Outcome State Fault Refusal :=
  act t s fun s => s.upstream 0x83 packet edb fun h s => s.readResponse h.module h.tag (upPayload packet)

/-- STATUS (R155): the spec gives its payload no layout, so what it reports stands beside the packet (log entry 86). -/
def execStatus (t : Nat) (packet : UpPacket) (locked : Nat) (errors : List Nat) (s : State) : Host.Outcome State Fault Refusal :=
  act t s fun s => s.upstream 0x84 packet.bytes packet.edb fun _ s => s.laneStatus locked errors

/-- RETRY_TIMEOUT (R154): 20 µs since the oldest unacknowledged packet was sent. -/
def execRetryTimeout (t : Nat) (s : State) : Host.Outcome State Fault Refusal :=
  act t s fun s =>
    match s.link.retry.head? with
    | some p => if decide (p.sentAt + 20000 ≤ s.now) && s.usable 0xA then s.resendFrom 0 else s
    | none => s

/-- READ_TIMEOUT (R153): tags are 0 to 255. -/
def execReadTimeout (t tag : Nat) (s : State) : Host.Outcome State Fault Refusal :=
  actIf (tag < 256) t s fun s => s.readTimesOut tag

end Sys2Proof.Machine
end

