-- ==== Sys2Proof/Machine/Trims.lean ====
section
/-!
DEFINITION. Sys2Proof/Machine/Trims.lean: the trim partition (R439): its two copies, their check word and generation, the
repair list, and storing it.
-/

namespace Sys2Proof.Machine

/-- One copy of the trim partition (R439). -/
def trimCopy (valid : Bool) (generation stored : Nat) (trims : Bytes) (repairs : List Bytes) : Bytes :=
  let head := leBytes 2 0x5452 ++ leBytes 1 1 ++ leBytes 1 (if valid then 1 else 0) ++ leBytes 4 generation ++ leBytes 8 stored
    ++ leBytes 2 repairs.length ++ [0, 0]
  let tail := trims ++ repairs.flatten
  head ++ leBytes 4 (crc32c (head ++ tail)) ++ tail

/-- A copy is valid: its magic, version, length and check word (R439). -/
def trimValid (b : Bytes) : Bool :=
  let n := fieldLE b 16 2
  fieldLE b 0 2 == 0x5452 && byteAt b 2 == 1 && decide (n ≤ 4096) && b.length == 88 + 8 * n
    && fieldLE b 20 4 == crc32c (b.take 20 ++ b.drop 24)

def trimGeneration (b : Bytes) : Nat := if trimValid b then fieldLE b 4 4 else 0

/-- The valid copy with the higher generation (R439). -/
def Nv.trim (n : Nv) : Option Bytes :=
  let a := nth n.trims 0 []
  let b := nth n.trims 1 []
  if trimValid a && (!trimValid b || decide (fieldLE b 4 4 ≤ fieldLE a 4 4)) then some a
  else if trimValid b then some b else none

/-- The repair entries of a copy. -/
def repairsOf (b : Bytes) : List Bytes := (List.range (fieldLE b 16 2)).map fun i => (b.drop (88 + 8 * i)).take 8

/-- Both copies are written, the one of lower generation first, each with the generation plus 1 (R439). -/
def State.storeTrims (s : State) : State :=
  if !s.beacon.present then s
  else
    let g := max (trimGeneration (nth s.nv.trims 0 [])) (trimGeneration (nth s.nv.trims 1 [])) + 1
    let c := trimCopy s.cal.calibrated (g % 2 ^ 32) s.ptp s.cal.trims s.cal.repairs
    { s with nv := { s.nv with trims := [c, c] } }

/-- An entry joins the repair list, which is stored (R326, R331, R348, R439): type, and bytes 1 to 7. -/
def State.addRepair (s : State) (entry : Bytes) : State :=
  let e := (entry ++ List.replicate 8 0).take 8
  if s.cal.repairs.contains e || 4096 ≤ s.cal.repairs.length then s
  else ({ s with cal := { s.cal with repairs := s.cal.repairs ++ [e] } }).storeTrims

end Sys2Proof.Machine
end

