-- ==== Sys2Proof/Machine/Lift.lean ====
section
/-!
DEFINITION. Sys2Proof/Machine/Lift.lean: the housekeeping round (R335 to R338), the Plough (R339 to R343), and carvers: their
cap, tile bands, golden tiles and retirement (R346 to R348).
-/

namespace Sys2Proof.Machine

/-! ### Readings (R335, R336) -/

/-- A temperature reading of a sensor channel, none before it has been read. -/
def State.sensor (s : State) (i : Nat) : Option Int := ((s.lift.readings[i]?).getD none).map (signed 16)

/-- Sensors that are not excluded, and those of them that have a reading (R335, R337). -/
def State.validSensors (s : State) : List Nat := (List.range 12).filter fun i => !nth s.lift.invalid i false
def State.validReadings (s : State) : List Int := s.validSensors.filterMap s.sensor

/-- The first complete round has ended (R335). -/
def State.roundDone (s : State) : Bool := s.lift.readings.all (·.isSome)

/-- A rail's voltage and current. -/
def State.rail (s : State) (r : Nat) : Nat × Nat :=
  let at' := fun (i : Nat) => ((s.lift.readings[i]?).getD none).getD 0
  (at' (12 + 2 * r), at' (13 + 2 * r))

/-- Σ (V × I) ÷ 1,000 over the rails (R336); the spec states no rounding (log entry 5). -/
def State.measuredPower (s : State) : Nat :=
  (looseDiv (((List.range 10).foldl (fun n r => n + (s.rail r).1 * (s.rail r).2) 0 : Nat)) 1000).toNat

/-- A sensor reading rounded to a step of 0.25 °C, a tie going up (R335). -/
def roundSensor (raw : Nat) : Nat := unsigned 16 (clampInt ((signed 16 raw + 32) / 64 * 64) (-32768) 32704)

/-- 0x2110.0B and .0C follow the latest readings of valid sensors (R355). -/
def State.hottest (s : State) : State :=
  match s.validReadings with
  | [] => s
  | a :: l =>
    let h := l.foldl max a
    (s.put 0x21100B (unsigned 16 h)).put 0x21100C (unsigned 16 (max h (s.geti 16 0x21100C)))

/-! ### Exclusion and rails (R337, R338) -/

/-- A sensor is excluded until the next full reset (R337). -/
def State.excludeSensor (s : State) (i : Nat) : State :=
  if nth s.lift.invalid i false then s
  else
    let s := { s with lift := { s.lift with invalid := setNth s.lift.invalid i true } }
    let valid := s.validSensors
    (s.put 0x212004 (bitmapBelow 12 fun n => valid.contains n)).raiseCore 1 3 i (if valid.length < 6 then .degraded else .unchanged)

/-- A sensor at the end of a round: out of range, or far from the median of the other valid sensors in 16 successive
rounds (R337). -/
def State.judgeSensor (s : State) (i : Nat) : State :=
  match s.sensor i with
  | none => s
  | some v =>
    if nth s.lift.invalid i false then s
    else if v < -12800 ∨ 38400 < v then s.excludeSensor i
    else
      let others := (s.validSensors.filter fun n => n != i).filterMap s.sensor
      let far := !others.isEmpty && decide (7680 < (v - median others).natAbs)
      let n := if far then nth s.lift.outliers i 0 + 1 else 0
      let s := { s with lift := { s.lift with outliers := setNth s.lift.outliers i n } }
      if n < 16 then s else s.excludeSensor i

/-- A rail at the end of a round (R338). -/
def State.judgeRail (s : State) (r : Nat) : State :=
  let w := s.dom 0x212003
  let v := (s.rail r).1
  let out := decide (v < fieldLE w (4 * r) 2) || decide (fieldLE w (4 * r + 2) 2 < v)
  let no := if out then nth s.lift.windowOut r 0 + 1 else 0
  let ni := if out then 0 else nth s.lift.windowIn r 0 + 1
  let s := { s with lift := { s.lift with windowOut := setNth s.lift.windowOut r no, windowIn := setNth s.lift.windowIn r ni } }
  if 4 ≤ no then s.onset 1 4 r else if 4 ≤ ni then s.settle 1 4 r else s

/-! ### The thermal trip (R342) -/

/-- The effective limit is forced to 6.0 W (R337, R342). -/
def State.forced (s : State) : Bool :=
  s.power.tripHold || s.power.pfailHold || (s.roundDone && decide (s.validSensors.length < 6))

/-- The trip: cause 0x02, and Hold (R28, R342). DESIGN CHOICE (log entry 14): a trip during an entry to Sleep or Off abandons the
entry into Hold, as R30 states for PFAIL_N; R30 does not name a trip there. -/
def State.trip (s : State) : State :=
  if s.power.tripHold then s
  else
    let s := ((s.bump 0x21100A).onset 1 2).put 0x211002 6000
    let s := s.put 0x211008 (s.get 0x211008 ||| 4)
    ({ s with power := { s.power with tripHold := true, coolSince := none, tripFromRun := s.fromRun, slowStart := true } }).enterHold

/-- Whether every valid sensor reads below the throttle threshold, for the end of a trip (R29). -/
def State.followCooling (s : State) : State :=
  let cool := s.validReadings.all fun v => decide (v < s.geti 16 0x211003)
  let since := if cool then some (s.power.coolSince.getD s.now) else none
  { s with power := { s.power with coolSince := since } }

/-- The management domains run and the Plough acts (R335). -/
def State.ploughActs (s : State) : Bool :=
  match s.power.phase with
  | .run | .hold | .enteringSleep | .enteringOff => true
  | _ => false

/-- What follows a new sensor reading: the trip at 125 °C (R342). -/
def State.judgeTemperature (s : State) : State :=
  let s := s.hottest.followCooling
  if s.validReadings.any (fun v => decide (32000 ≤ v)) || (s.roundDone && s.validSensors.isEmpty) then s.trip else s

/-- The end of a round: measured power, exclusion, rails (R335 to R338). -/
def State.endRound (s : State) : State :=
  let s := s.bump 0x212005
  if !s.roundDone then s
  else
    let s := s.put 0x211004 s.measuredPower
    if !s.ploughActs then s
    else
      let s := (List.range 12).foldl State.judgeSensor s
      ((List.range 10).foldl State.judgeRail s).judgeTemperature

/-- A channel's slot ends (R335). -/
def State.housekeeping (s : State) (ch reading : Nat) : State :=
  match s.power.phase with
  | .reset | .off => s
  | _ =>
    let v := if ch < 12 then roundSensor reading else reading % 65536
    let s := { s with lift := { s.lift with readings := setNth s.lift.readings ch (some v) } }
    -- out of range is invalid at once, once the rules apply
    let s := if ch < 12 && s.roundDone && s.ploughActs && decide (signed 16 v < -12800 ∨ 38400 < signed 16 v) then s.excludeSensor ch else s
    let s := if ch < 12 && s.ploughActs then s.judgeTemperature else s
    if ch = 31 then s.endRound else s

/-! ### Carvers -/

def State.carver (s : State) (i : Nat) : Carver := nth s.lift.carvers i {}
def State.setCarver (s : State) (i : Nat) (c : Carver) : State :=
  { s with lift := { s.lift with carvers := setNth s.lift.carvers i c } }

/-- The carvers that are to be active: the lowest-numbered working ones up to the cap. -/
def State.capTarget (s : State) : List Nat := ((List.range 36).filter fun i => (s.carver i).working).take (s.get 0x211005)

/-- Active carvers: 0x2500.04. -/
def State.activeCarvers (s : State) : List Nat := (List.range 36).filter fun i => (s.carver i).active

/-- A carver is woken, stops, or finishes its band first (R20, R343, R347). -/
def State.tuneCarver (s : State) (i : Nat) : State :=
  let c := s.carver i
  let want := s.capTarget.contains i
  if want && !c.active then (s.setCarver i { c with active := true, stopping := false }).nextPlacement
  else if want then s.setCarver i { c with stopping := false }
  else if !c.active then s
  else if c.band.isSome then s.setCarver i { c with stopping := true }
  else (s.setCarver i { c with active := false, stopping := false }).nextPlacement

/-- The cap takes effect in Run (R25, R340). -/
def State.applyCap (s : State) : State :=
  if s.power.phase == .run && s.usable 9 then (List.range 36).foldl State.tuneCarver s else s

/-! ### The Plough (R339 to R341) -/

/-- The level of R340: carvers, clock in MHz, DRAM state. -/
def ploughLevel (mw : Nat) : Nat × Nat × Nat :=
  if 22000 ≤ mw then (32, 1000, 0) else if 18000 ≤ mw then (28, 1000, 0) else if 15000 ≤ mw then (24, 1000, 0)
  else if 12500 ≤ mw then (24, 800, 1) else if 10500 ≤ mw then (16, 800, 1) else if 8500 ≤ mw then (12, 800, 2)
  else if 7000 ≤ mw then (8, 600, 2) else (4, 600, 2)

/-- Enabled mirror-role cameras whose layers are bound to safety regions of the epoch in force (R341). -/
def State.mirrors (s : State) : Nat :=
  ((List.range 8).filter fun p => s.camOn p && s.roleOf p == 1 && s.safetyRegions.any fun r =>
    decide (r.bound < 16) && s.layerOn r.bound && (s.layer r.bound).kind == 2 && (s.layer r.bound).colour == p).length

/-- The level for L_eff with the mirror floor (R340, R341), shown in 0x2110.05 to .07 and applied to the carvers. -/
def State.applyLevel (s : State) : State :=
  let l := ploughLevel (s.get 0x211002)
  let m := if s.forced || s.power.phase != .run then 0 else s.mirrors
  let cap := max l.1 (4 * m)
  let clock := if m = 0 then l.2.1 else max l.2.1 800
  (((s.put 0x211005 cap).put 0x211006 clock).put 0x211007 l.2.2).applyCap

def State.restartClear (s : State) : State := { s with lift := { s.lift with clearSince := s.now } }

/-- One step of L_eff (R339). -/
def State.ploughStep (s : State) : State :=
  let eff := s.get 0x211002
  let hot := s.validReadings.any fun v => decide (s.geti 16 0x211003 ≤ v)
  let over_ := decide (eff < s.get 0x211004)
  if hot || over_ then
    let s := s.restartClear
    if eff ≤ 6000 then s
    else
      let s := (s.put 0x211002 (max 6000 (eff - 500))).bump 0x211009
      let s := s.put 0x211008 (s.get 0x211008 ||| (if hot then 1 else 0) ||| (if over_ then 2 else 0))
      if hot then s.onset 1 1 else s
  else if eff < s.get 0x211001 ∧ s.lift.clearSince + 16000000 ≤ s.now then
    ((s.put 0x211002 (min (s.get 0x211001) (eff + 500))).restartClear).atConfigured
  else s

/-- Cause 0x05: power above 6.0 W for 16 ms at a limit of 6.0 W (R341). -/
def State.followFloorPower (s : State) : State :=
  let p := s.get 0x211004
  if s.get 0x211002 = 6000 ∧ 6000 < p then
    let since := s.lift.overSince.getD s.now
    let s := { s with lift := { s.lift with overSince := some since } }
    if since + 16000000 ≤ s.now then s.onset 1 5 else s
  else
    let s := { s with lift := { s.lift with overSince := none } }
    if p ≤ s.get 0x211002 then s.settle 1 5 else s

/-- The evaluation made every 1 ms from the end of the first complete round (R335, R339). -/
def State.evaluate (s : State) : State :=
  if !s.ploughActs || !s.roundDone then s
  else
    let s := { s with lift := { s.lift with powerSum := s.lift.powerSum + s.get 0x211004, powerCount := s.lift.powerCount + 1 } }
    let s :=
      if s.forced then (s.put 0x211002 6000).put 0x211008 (s.get 0x211008 ||| 4) |>.restartClear
      else (s.put 0x211008 (bitsClear (s.get 0x211008) 4)).ploughStep
    s.followFloorPower.applyLevel

/-- A write of L_cfg (R339, R343, R355). -/
def State.setLimit (s : State) (mw : Nat) : State :=
  let old := s.get 0x211001
  let s := s.put 0x211001 mw
  let s := if mw < s.get 0x211002 then s.put 0x211002 mw else s
  let s := if mw < old then s.atConfigured else s
  s.applyLevel

/-! ### Tile bands (R346, R347) -/

/-- Energy per clock of a carver, pJ (R352). -/
def clockEnergy (mhz : Nat) : Nat := if 1000 ≤ mhz then 181 else if 800 ≤ mhz then 150 else 125

/-- The estimated cost of a tile render, pJ (R352): a tile holds 384 rays. -/
def State.tileCost (s : State) (t : Nat) : Nat := s.tileClocks t * clockEnergy (s.get 0x211006) + 384 * 154

/-- The band of a tile: module, row. -/
def State.bandOf (s : State) (t : Nat) : Nat × Nat := (s.tileModule t, s.tileY t % 135)

/-- A band is in some carver's hands. -/
def State.bandTaken (s : State) (b : Nat × Nat) : Bool :=
  s.lift.carvers.any fun c => match c.band with | some x => (x.module, x.row) == b | none => false

/-- Owner claims that wait to be rendered, in claim order. -/
def ownersFirst : List Nat → List Claim → List Claim
  | _, [] => []
  | seen, c :: cs => if seen.contains c.tile then ownersFirst seen cs else c :: ownersFirst (c.tile :: seen) cs

def State.toRender (s : State) : List Claim :=
  (ownersFirst [] s.link.claims).filter fun c => c.state == .queued && c.codes.isEmpty

/-- The band that is handed out next: of the highest class, then of the oldest claim (R344, R346). -/
def State.nextBand (s : State) : Option (Nat × Nat) :=
  let free := s.toRender.filter fun c => !s.bandTaken (s.bandOf c.tile)
  let pick := fun (k : Nat) => free.find? fun c => s.classOf c.tile == k
  ((pick 0).orElse fun _ => (pick 1).orElse fun _ => pick 2).map fun c => s.bandOf c.tile

/-- A carver takes a band: its tiles are rendered from the scene of the moment, at the placement epoch in force. -/
def State.takeBand (s : State) (i : Nat) (b : Nat × Nat) : State :=
  let cs := s.toRender.filter fun c => s.bandOf c.tile == b
  let band : Band := { module := b.1, row := b.2, tiles := cs.map fun c => (c.tile, c.rect, s.renderTile c.tile), placement := s.get 0x250007 }
  let c := s.carver i
  let pj := cs.foldl (fun n x => n + s.tileCost x.tile) 0
  let s := s.setCarver i { c with band := some band, bands := c.bands + 1 }
  let placed := Config.rayCachePlacement s.lift.rayCache (cs.map fun x => (x.tile, s.classOf x.tile))
  let s := { s with lift := { s.lift with framePj := s.lift.framePj + pj, rayCache := placed } }
  cs.foldl (fun s x => s.noteRendered x.tile) s

/-- A carver without a band takes the next one; a golden tile that is due comes first (R346, R348). -/
def State.issueBand (s : State) (i : Nat) : State :=
  let c := s.carver i
  if s.power.phase == .run && s.usable 9 && s.acting && c.working && c.active && !c.stopping && c.band.isNone
      && decide (c.bands < s.get 0x25000A) then
    match s.nextBand with | some b => s.takeBand i b | none => s
  else s

/-- A tile's codes are delivered to the claim that it was rendered for, if that claim still owns it. -/
def State.giveCodes (s : State) (p : Nat × Nat × List Nat) : State :=
  match s.ownerOf p.1 with
  | none => s
  | some c =>
    if c.rect = p.2.1 ∧ c.state = .queued then s.setClaims (mapOwner p.1 (fun o => { o with codes := p.2.2, drawn := s.now }) s.link.claims) else s

/-- A stopping carver stops once its band is done (R20). -/
def State.tuneIf (s : State) (i : Nat) (stopping : Bool) : State :=
  if stopping then (s.setCarver i { s.carver i with active := false, stopping := false }).nextPlacement else s

/-- A result of a carver: accepted only at the epoch of its job's latest issue (R347). -/
def State.completeBand (s : State) (i band epoch : Nat) : State :=
  let c := s.carver i
  match c.band with
  | none => s.bump 0x250008
  | some b =>
    if b.module * 135 + b.row = band ∧ b.placement = epoch then
      let s := b.tiles.foldl State.giveCodes s
      let s := s.setCarver i { c with band := none, since := c.since ++ (b.tiles.map (·.1)).filter fun t => !c.since.contains t }
      s.tuneIf i c.stopping
    else s.bump 0x250008

/-- The band of a retired carver is issued again at once on another, at the new epoch (R347). -/
def State.reissueBand (s : State) (b : Band) : State :=
  let s := s.bump 0x250009
  match (List.range 36).find? fun i => let c := s.carver i; c.working && c.active && !c.stopping && c.band.isNone with
  | some i => s.takeBand i (b.module, b.row)
  | none => s

/-- A carver is retired for a fault (R32, R347, R348). -/
def State.retireCarver (s : State) (i : Nat) : State :=
  let c := s.carver i
  if !c.working then s
  else
    let s := s.setCarver i { c with working := false, active := false, stopping := false, band := none, since := [] }
    let s := (s.nextPlacement.raise 3 1 i).mark c.since
    let s := s.addRepair [4, BitVec.ofNat 8 i]
    let s := { s with pair := { s.pair with goldenAll := false } }
    let s := match c.band with | some b => s.reissueBand b | none => s
    (s.follow (decide (s.workingCarvers < 32)) 3 2).applyCap

/-- A golden tile's CRC is compared (R348): by an active carver, or by any working carver of a standby. -/
def State.goldenTile (s : State) (i crc : Nat) : State :=
  let c := s.carver i
  if !(s.power.phase == .run && s.usable 9 && c.working && (c.active || s.standby)) then s
  else if crc = Config.goldenTileCrc then s.setCarver i { c with bands := 0, since := [] }
  else (s.bump 0x25000B).retireCarver i

/-! ### The commands' meanings -/

/-- HOUSEKEEPING_SLOT (R335): channels are 0 to 31. -/
def execHousekeepingSlot (t channel reading : Nat) (s : State) : Host.Outcome State Fault Refusal :=
  actIf (channel < 32) t s fun s => s.housekeeping channel reading

/-- PLOUGH_EVALUATION (R339). -/
def execPloughEvaluation (t : Nat) (s : State) : Host.Outcome State Fault Refusal := act t s State.evaluate

/-- TILE_BAND_ISSUE (R346): carvers are 0 to 35. -/
def execTileBandIssue (t carver : Nat) (s : State) : Host.Outcome State Fault Refusal :=
  actIf (carver < 36) t s fun s => s.issueBand carver

/-- TILE_BAND_COMPLETE (R347). -/
def execTileBandComplete (t carver band epoch : Nat) (s : State) : Host.Outcome State Fault Refusal :=
  actIf (carver < 36) t s fun s => s.completeBand carver band epoch

/-- WITNESS_BUFFER_COMPLETE (R135). -/
def execWitnessBufferComplete (t : Nat) (s : State) : Host.Outcome State Fault Refusal := act t s State.completeWitness

/-- GOLDEN_TILE (R348). -/
def execGoldenTile (t carver crc : Nat) (s : State) : Host.Outcome State Fault Refusal :=
  actIf (carver < 36) t s fun s => s.goldenTile carver crc

/-- CARVER_FAULT (R32, R347). -/
def execCarverFault (t carver : Nat) (s : State) : Host.Outcome State Fault Refusal :=
  actIf (carver < 36) t s fun s => s.retireCarver carver

end Sys2Proof.Machine
end

