-- ==== Sys2Proof/Machine/Rs.lean ====
section
/-!
DEFINITION. Sys2Proof/Machine/Rs.lean: the RS(36,32) code over GF(2⁸) of R312 and the outcomes of decoding a block (R313,
R314). Symbol j is the coefficient of x^(35−j) (PRESUMED, log entry 50: the spec does not say which end is high).
-/

namespace Sys2Proof.Machine

/-! ### The field x⁸ + x⁴ + x³ + x² + 1 -/

/-- Times x in the field. -/
def gfDouble (a : Nat) : Nat := if a < 128 then 2 * a else (2 * a) ^^^ 0x11D

/-- The product, over the low `n` bits of the second factor. -/
def gfMulBits : Nat → Nat → Nat → Nat
  | 0, _, _ => 0
  | n + 1, a, b => (if b % 2 = 1 then a else 0) ^^^ gfMulBits n (gfDouble a) (b / 2)

def gfMul (a b : Nat) : Nat := gfMulBits 8 a b
def gfPow (a : Nat) : Nat → Nat
  | 0 => 1
  | n + 1 => gfMul a (gfPow a n)

/-- The inverse, a²⁵⁴. -/
def gfInv (a : Nat) : Nat :=
  let a2 := gfMul a a; let a4 := gfMul a2 a2; let a8 := gfMul a4 a4; let a16 := gfMul a8 a8
  let a32 := gfMul a16 a16; let a64 := gfMul a32 a32; let a128 := gfMul a64 a64
  gfMul a2 (gfMul a4 (gfMul a8 (gfMul a16 (gfMul a32 (gfMul a64 a128)))))

/-- The locator of symbol j. -/
def locator (j : Nat) : Nat := gfPow 2 (35 - j)

/-- The syndromes at α⁰ to α³ of a word: Horner's rule. -/
def syndromes (w : List Nat) : List Nat := (List.range 4).map fun i => w.foldl (fun a c => gfMul a (gfPow 2 i) ^^^ c) 0

/-! ### Solving for error values -/

/-- A polynomial (lowest coefficient first) times (x + a). -/
def polyTimes (p : List Nat) (a : Nat) : List Nat :=
  ((p.map (gfMul a)) ++ [0]).zipWith (· ^^^ ·) (0 :: p)

/-- The value of the error at one of some distinct positions, from as many syndromes. -/
def errorValue (s : List Nat) (ps : List Nat) (j : Nat) : Nat :=
  let others := ps.filter fun q => q != j
  let num := others.foldl (fun p q => polyTimes p (locator q)) [1]
  let den := others.foldl (fun a q => gfMul a (locator j ^^^ locator q)) 1
  gfMul ((num.zipWith gfMul s).foldl (· ^^^ ·) 0) (gfInv den)

/-- Errors at given positions that explain all four syndromes, if they do: position and value. -/
def explain (s : List Nat) (ps : List Nat) : Option (List (Nat × Nat)) :=
  let es := ps.map fun j => (j, errorValue s ps j)
  let back := (List.range 4).map fun i => es.foldl (fun a e => a ^^^ gfMul e.2 (gfPow (locator e.1) i)) 0
  if back = s then some es else none

/-- The first of some sets of positions that explains the syndromes. -/
def explainFirst (s : List Nat) : List (List Nat) → Option (List (Nat × Nat))
  | [] => none
  | ps :: l => match explain s ps with | some es => some es | none => explainFirst s l

/-- The symbols of a DQ pin: two data symbols, and its check symbol where the block has one (R312). -/
def pinSymbols (block p : Nat) : List Nat :=
  let i := p - 4 * (block % 4)
  [p, p + 16] ++ (if 4 * (block % 4) ≤ p ∧ i < 4 then [32 + i] else [])

/-- Sets of erasures with as many further positions as the code allows (log entry 50: while 2e + ν ≤ 4). -/
def candidateSets (erased : List Nat) : List (List Nat) :=
  let rest := (List.range 36).filter fun j => !erased.contains j
  let one := if 2 + erased.length ≤ 4 then rest.map fun j => erased ++ [j] else []
  let two := if 4 + erased.length ≤ 4 then rest.flatMap fun j => (rest.filter fun k => decide (j < k)).map fun k => erased ++ [j, k] else []
  (if erased.length ≤ 4 then [erased] else []) ++ one ++ two

/-! ### Outcomes (R313) -/

/-- What a read decodes to; `outside` says that symbols other than a marked pin's were corrected. -/
inductive ReadOutcome where
  | clean
  | corrected (outside : Bool)
  | pinDecode (pin : Nat)
  | poison
  | uncorrectable
  deriving DecidableEq, Repr

/-- A read is delivered as data. -/
def ReadOutcome.good : ReadOutcome → Bool
  | .clean | .corrected _ | .pinDecode _ => true
  | _ => false

/-- The word with the poison marker removed from its check bytes (R314). -/
def unmarked (w : List Nat) : List Nat := w.take 32 ++ (w.drop 32).map fun c => c ^^^ 0x5A

/-- The pins of a bitmap. -/
def pinsOf (marked : Nat) : List Nat := (List.range 16).filter fun p => bitOf marked p

/-- A word with errors taken out. -/
def repaired (w : List Nat) (es : List (Nat × Nat)) : List Nat :=
  w.zipIdx.map fun p => es.foldl (fun a e => if e.1 = p.2 then a ^^^ e.2 else a) p.1

/-- A read of a block decoded (R313, R314): its 36 symbols, the marked pins of its rank; and the word as it is delivered. -/
def decodeWord (marked block : Nat) (w : List Nat) : ReadOutcome × List Nat :=
  let s := syndromes w
  let erased := (pinsOf marked).flatMap (pinSymbols block)
  if w.length ≠ 36 then (.uncorrectable, w)
  else if s = [0, 0, 0, 0] then (.clean, w)
  else match explainFirst s (candidateSets erased) with
    | some es => (.corrected (es.any fun e => e.2 != 0 && !erased.contains e.1), repaired w es)
    | none =>
      if syndromes (unmarked w) = [0, 0, 0, 0] then (.poison, w)
      else match (List.range 16).find? fun p => (explain s (pinSymbols block p)).isSome with
        | some p => (.pinDecode p, repaired w ((explain s (pinSymbols block p)).getD []))
        | none => (.uncorrectable, w)

def decodeBlock (marked block : Nat) (w : List Nat) : ReadOutcome := (decodeWord marked block w).1

/-! ### Encoding (R312, R314) -/

/-- The codeword of 32 data bytes: the check symbols that make its syndromes zero. -/
def codeword (data : List Nat) : List Nat :=
  let s := syndromes (data ++ [0, 0, 0, 0])
  data ++ [32, 33, 34, 35].map (errorValue s [32, 33, 34, 35])

/-- A block as poisoned data is written: its check bytes each XORed with 0x5A. -/
def poisonWord (data : List Nat) : List Nat := unmarked (codeword data)

end Sys2Proof.Machine
end

