-- ==== Sys2Proof/Machine/Dram.lean ====
section
/-!
DEFINITION. Sys2Proof/Machine/Dram.lean: DRAM: chunk placement and the copies of privileged regions (R310, R327, R345), poisoned data at
its consumers (R329), lost chunks, rank retirement and migration (R313, R322 to R326, R349).
-/

namespace Sys2Proof.Machine

/-! ### Ranks and chunks -/

def State.setRank (s : State) (r : Nat) (x : Rank) : State := { s with memory := { s.memory with ranks := setNth s.memory.ranks r x } }
def State.channel (s : State) (c : Nat) : Channel := nth s.memory.channels c {}
def State.setChannel (s : State) (c : Nat) (x : Channel) : State :=
  { s with memory := { s.memory with channels := setNth s.memory.channels c x } }
def State.rankState (s : State) (r : Nat) (st : Nat) : State := s.setRank r { s.rank r with state := st }

/-- 0x2400.03 in MiB: the data of every rank in use (R322). -/
def State.dataCapacity (s : State) : Nat :=
  (looseDiv ((((List.range 32).filter s.holdsData).length * chunksPerRank (s.get 0x240001) : Nat)) 16).toNat

/-- The order in which spare ranks are chosen (R322). -/
def spareOrder (ranks : Nat) : List Nat := [15, 7, 11, 3].map fun c => if ranks = 1 then 2 * c else 2 * c + 1

/-- While channels still train, a rank that may be chosen as a spare takes no data (R322). -/
def State.keptForSpare (s : State) (r : Nat) : Bool :=
  nth s.stages 2 .off == .starting && decide (0 < s.get 0x250001) && (spareOrder (s.get 0x240002)).contains r

/-- A rank has a free chunk. -/
def State.roomOn (s : State) (r : Nat) : Bool :=
  s.holdsData r && !s.keptForSpare r && decide (s.chunksOn r < chunksPerRank (s.get 0x240001))

/-- One chunk more on a rank: one given back, or the first never used. DESIGN CHOICE (log entry 51): the spec numbers no chunk. -/
def State.takeChunk (s : State) (r : Nat) : State × Place :=
  match s.lift.freed.find? fun p => p.rank == r with
  | some p => ({ s with lift := { s.lift with freed := s.lift.freed.erase p } }, p)
  | none => ({ s with lift := { s.lift with tops := setNth s.lift.tops r (nth s.lift.tops r 0 + 1) } }, ⟨r, nth s.lift.tops r 0⟩)

/-- One chunk is placed on the next channel with a free one, other than some, the ranks alternating at each full rotation (R345). -/
def State.placeOff (s : State) (avoid : List Nat) : Option (State × Place) :=
  let try_ := fun (i : Nat) =>
    let c := (s.lift.lastChannel + i) % 16
    let turn := if c ≤ s.lift.lastChannel then 1 - s.lift.rankTurn else s.lift.rankTurn
    if avoid.contains c then none
    else if s.roomOn (2 * c + turn) then some (c, turn, 2 * c + turn)
    else if s.roomOn (2 * c + (1 - turn)) then some (c, turn, 2 * c + (1 - turn)) else none
  (((List.range 16).map (· + 1)).findSome? try_).map fun p =>
    ({ s with lift := { s.lift with lastChannel := p.1, rankTurn := p.2.1 } }).takeChunk p.2.2
def State.placeChunk (s : State) : Option (State × Place) := s.placeOff []

/-- Some chunks are placed after others; none where they do not fit. -/
def placeChunks : Nat → List Place → State → Option (State × List Place)
  | 0, on, s => some (s, on)
  | n + 1, on, s =>
    match s.placeChunk with
    | none => none
    | some (s, p) => placeChunks n (on ++ [p]) s

/-! ### The privileged regions (R98, R327, R345) -/

/-- The chunks of one copy of the privileged regions: the two banks with their geometry blocks, the Rinkboard mirror, Beacon staging and
the Lift map (R98, R327). -/
def privilegedChunks : Nat := 2 * (256 + 1) + 128 + 64 + 32

/-- A chunk's second copy: on the channel eight on from the first copy's, or where that has no room on the next that is not the first
copy's (R345); rank 32 where none has room. -/
def State.placeSecond (s : State) (c : Nat) : State × Place :=
  let try_ := fun (i : Nat) =>
    let d := (c + 8 + i) % 16
    if d = c then none else [2 * d + s.lift.rankTurn, 2 * d + (1 - s.lift.rankTurn)].find? s.roomOn
  match (List.range 16).findSome? try_ with
  | some r => s.takeChunk r
  | none => (s, ⟨32, 0⟩)

/-- Some chunks of the privileged regions are placed twice. -/
def State.placePrivileged (s : State) : Nat → State
  | 0 => s
  | n + 1 =>
    match s.placeChunk with
    | none => s
    | some (s, a) =>
      let (s, b) := s.placeSecond (a.rank / 2)
      ({ s with lift := { s.lift with privileged := s.lift.privileged ++ [(a, b)] } }).placePrivileged n

/-- A copy of a chunk is rebuilt from the one that is kept, on a third channel (R328, R349). -/
def State.rebuildCopy (s : State) (lost kept : Place) : State × Place :=
  let s := if s.holdsData lost.rank then { s with lift := { s.lift with freed := s.lift.freed ++ [lost] } } else s
  (s.placeOff [lost.rank / 2, kept.rank / 2]).getD (s, ⟨32, 0⟩)

/-- The pairs of copies with those rebuilt that a test picks. -/
def rebuildCopies (bad : Place → Place → Bool) : List (Place × Place) → State → State × List (Place × Place)
  | [], s => (s, [])
  | (a, b) :: l, s =>
    let (s, p) := if bad a b then (let r := s.rebuildCopy a b; (r.1, (b, r.2)))
      else if bad b a then (let r := s.rebuildCopy b a; (r.1, (a, r.2))) else (s, (a, b))
    let rest := rebuildCopies bad l s
    (rest.1, p :: rest.2)

/-- The privileged regions with the copies rebuilt that a test picks, whose chunks are given back where their rank is in use. -/
def State.rebuildPrivileged (s : State) (bad : Place → Place → Bool) : State :=
  let (s, l) := rebuildCopies bad s.lift.privileged s
  { s with lift := { s.lift with privileged := l } }

/-- The privileged regions lose the copies that lay on a rank; rebuilding them raises cause 3/0x05 (R349). -/
def State.losePrivileged (s : State) (r : Nat) : State :=
  if s.lift.privileged.any fun p => p.1.rank == r || p.2.rank == r then (s.rebuildPrivileged fun lost _ => lost.rank == r).raise 3 5 r else s

/-- What a chunk held is forgotten: poison, and content that was lost. -/
def State.forget (s : State) (p : Place) : State :=
  { s with memory := { s.memory with
      poison := s.memory.poison.filter fun q => !(q.1 == p.rank && q.2.1 == p.chunk), voids := s.memory.voids.filter fun v => v.place != p } }

/-- Chunks are given back. -/
def State.freeChunks (s : State) (on : List Place) : State :=
  on.foldl State.forget { s with lift := { s.lift with freed := s.lift.freed ++ on } }

/-- A rank that is out of use has no chunks. -/
def State.clearRank (s : State) (r : Nat) : State :=
  { s with
    lift := { s.lift with tops := setNth s.lift.tops r 0, freed := s.lift.freed.filter fun p => p.rank != r }
    memory := { s.memory with
      poison := s.memory.poison.filter fun q => q.1 != r, voids := s.memory.voids.filter fun v => v.place.rank != r } }

/-- A chunk is one of a privileged region; the places of both its copies. -/
def State.copiesOf (s : State) (p : Place) : Option (Place × Place) := s.lift.privileged.find? fun q => q.1 == p || q.2 == p
def State.otherCopy (s : State) (p : Place) : Option Place :=
  ((s.copiesOf p).map fun q => if q.1 = p then q.2 else q.1).filter fun q => decide (q.rank < 32)

/-! ### Poisoned data at its consumers (R329) -/

def State.surface (s : State) (n : Nat) : Surface := nth s.scene.surfaces n {}
def State.setSurface (s : State) (n : Nat) (x : Surface) : State :=
  { s with scene := { s.scene with surfaces := setNth s.scene.surfaces n x } }

/-- The frame being processed or received at a port is damaged (R203). -/
def State.damageFrame (s : State) (p : Nat) : State :=
  let c := s.cam p
  let hurt := fun (f : CamFrame) => { f with flags := f.flags ||| 16 }
  match c.raw with
  | f :: rest => s.setCam p { c with raw := hurt f :: rest }
  | [] => s.setCam p { c with frame := c.frame.map hurt }

/-- A slot's newest picture is damaged (R261). -/
def State.damagePicture (s : State) (k : Nat) : State :=
  let x := s.slot k
  match x.pictures.getLast? with
  | some p => s.setSlot k { x with pictures := x.pictures.dropLast ++ [{ p with damaged := true }] }
  | none => s

/-- A stream's source arrives poisoned: no picture is coded from it (R329). -/
def State.loseSource (s : State) (n : Nat) : State :=
  match s.nextSource n with
  | some (p, false) => s.setStream n { s.stream n with lostSeq := some p.seq }
  | _ => s

/-- A stress counter is rebuilt as the largest among its four edge neighbours (R329). -/
def State.rebuildCounter (s : State) (b c : Nat) : State :=
  let w := s.blockColumns
  let near := (if b % w = 0 then [] else [b - 1]) ++ (if b % w + 1 = w then [] else [b + 1])
    ++ (if b < w then [] else [b - w]) ++ (if b + w < s.blocks then [b + w] else [])
  let v := near.foldl (fun m n => max m (s.stressOf n c)) 0
  { s with care := { s.care with counters := setEntry 0 (3 * b + c) v s.care.counters } }

/-- Texels of a surface arrive poisoned: they read transparent black, and their blocks are not opaque, until rewritten; cause 2/0x01 is
raised for the surface once (R329). -/
def State.poisonTexels (s : State) (n : Nat) (texels : List Nat) : State :=
  let x := s.surface n
  let w := s.get (surfaceK n 2)
  let blocks := texels.map (blockOfTexel w)
  let s := s.setSurface n { x with
    notOpaque := x.notOpaque ++ (blocks.filter fun b => !x.notOpaque.contains b).eraseDups
    holes := x.holes ++ (texels.filter fun i => !x.holes.contains i).eraseDups }
  if x.notOpaque.isEmpty then s.raise 2 1 n else s

/-- What a consumer does with poisoned data; counted in 0x2400.0E (R329). -/
def State.poisoned (s : State) (client : DramClient) : State :=
  let s := s.bump 0x24000E
  match client with
  | .rinkboardMirror | .beaconStaging | .liftMap | .geometryBlock _ | .other => s
  | .carverVideo n texels =>
    let hurt := fun (p : Option Picture) => p.map fun p => { p with holes := texels ++ p.holes }
    { s with media := { s.media with
        shown := s.media.shown.modify n hurt, tickShown := s.media.tickShown.modify n fun o => o.map fun c => (hurt c.1, c.2) } }
  | .carverDepth n texels =>
    let hurt := fun (p : Option DepthPicture) => p.map fun p => { p with holes := texels ++ p.holes }
    { s with media := { s.media with
        shownDepth := s.media.shownDepth.modify n hurt, tickShown := s.media.tickShown.modify n fun o => o.map fun c => (c.1, hurt c.2) } }
  | .carverGraphic n texels => s.poisonTexels n texels
  | .rayMapEntry lens =>
    if s.banks.poisoned.contains lens then s else { s with banks := { s.banks with poisoned := s.banks.poisoned ++ [lens] } }
  | .gainMap b =>
    { s with care := { s.care with gains := [0, 1, 2].foldl (fun g c => setEntry 32768 (3 * b + c) 32768 g) s.care.gains } }
  | .stressCounter b c => s.rebuildCounter b c
  | .stressLevel b c => { s with care := { s.care with levels := setEntry 0 (3 * b + c) 255 s.care.levels } }
  | .expectedChecksum t => { s with care := { s.care with expected := eraseKey t s.care.expected } }
  | .decoder k => s.damagePicture k
  | .encoder n => s.loseSource n
  | .cameraRaw p | .ispOutput p => s.damageFrame p
  | .flatOutput k line pixel => s.underrun k line pixel
  | .domainStaging index sub =>
    let k := keyOf index sub
    let gone := s.ctl.staged.filter fun x => x.key == k
    let s := { s with ctl := { s.ctl with staged := s.ctl.staged.filter fun x => x.key != k } }
    gone.foldl (fun s x => s.replyStaged x 0x08000020) s
  | .firmware => ({ s with faults := { s.faults with resetRequested := true } }).raise 0 3

/-- The clients whose regions are privileged (R327). -/
def privileged : DramClient → Bool
  | .rayMapEntry _ | .geometryBlock _ | .rinkboardMirror | .beaconStaging | .liftMap => true
  | _ => false

/-! ### Lost chunks (R324, R349) -/

/-- The colour and depth pictures that layers of a kind show, less those that are lost: the layers show nothing until a new one arrives
(R349). -/
def State.dropShown (s : State) (kind : Nat) (lost lostDepth : Nat → Bool) : State :=
  (List.range 16).foldl (fun (s : State) n =>
    let gone := ((nth s.media.shown n none).any fun p => lost p.seq)
      || ((s.layer n).geometry == 2 && (nth s.media.shownDepth n none).any fun p => lostDepth p.seq)
    if (s.layer n).kind == kind && gone then s.showNothing n else s) s

/-- The band in a carver's hands is issued again where it reads content that was lost (R347, R349). -/
def State.bandAgain (s : State) (i : Nat) (tiles : List Nat) : State :=
  match (s.carver i).band with
  | none => s
  | some b =>
    if b.tiles.any fun t => tiles.contains t.1 then ((s.setCarver i { s.carver i with band := none }).bump 0x250009).takeBand i (b.module, b.row)
    else s

/-- A rank's chunks are lost: Lift re-places them and tells their owners (R349). Which items of other buffers lay there the
spec does not say (Config.liesOn, log entry 51); those copied off it are kept. -/
def State.loseChunks (s : State) (r : Nat) (copied : Nat → Nat → Bool := fun _ _ => false) : State :=
  let hit := fun (k item : Nat) => Config.liesOn k item r && !copied k item
  let reads := fun (v : View) => !v.fill && match v.l.kind with
    | 3 => (s.surface v.l.colour).places.any fun p => p.rank == r
    | k => ((nth s.media.shown v.pos none).any fun p => hit (if k = 2 then 0 else 2) p.seq)
      || (v.l.geometry == 2 && (nth s.media.shownDepth v.pos none).any fun p => hit 1 p.seq)
  let tiles := (s.views.filter reads).flatMap s.reach
  let s := s.raise 3 4 r
  let replace := fun (s : State) (n : Nat) =>
    let x := s.surface n
    let kept := x.places.filter fun p => p.rank != r
    let lost := x.places.length - kept.length
    if lost = 0 then s
    else
      match placeChunks lost [] s with
      | some (s, on) =>
        -- the new chunks read poisoned until they are rewritten (R324)
        let s : State := { s with memory := { s.memory with voids := s.memory.voids ++ on.map fun p => { place := p, rewritten := [] } } }
        (s.setSurface n { x with places := kept ++ on }).put (surfaceK n 5) 0
      | none => (s.setSurface n { x with places := kept }).put (surfaceK n 5) 0
  let s := (List.range 64).foldl replace s
  let stays := fun (k item : Nat) => !hit k item
  let s : State := { s with media := { s.media with
      cams := s.media.cams.map fun (c : Cam) => { c with pictures := c.pictures.filter fun p => stays 0 p.seq }
      layerDepth := s.media.layerDepth.map fun l => l.filter fun d => stays 1 d.seq
      codec := { s.media.codec with slots := s.media.codec.slots.map fun (k : Slot) => { k with pictures := k.pictures.filter fun p => stays 2 p.seq } } } }
  let s := (((s.dropShown 2 (hit 0) (hit 1)).dropShown 1 (hit 2) (hit 1)).losePrivileged r).clearRank r
  let treat := fun (kind : Nat) (items : List Nat) (f : Nat → DramClient) (s : State) =>
    (items.filter fun i => hit kind i).foldl (fun s i => s.poisoned (f i)) s
  let keys := List.range (3 * s.blocks)
  let s := treat 4 keys (fun i => .stressCounter (i / 3) (i % 3)) s
  let s := treat 5 keys (fun i => .stressLevel (i / 3) (i % 3)) s
  let s := treat 6 (List.range s.blocks) (fun i => .gainMap i) s
  let s := treat 7 (List.range s.tileTotal) (fun i => .expectedChecksum i) s
  let s := treat 8 (List.range 32) (fun i => .decoder i) s
  let s := treat 9 (List.range 24) (fun i => .encoder i) s
  let s := (treat 10 (List.range 8) (fun i => .cameraRaw i) s).nextPlacement
  -- through-memory frames in hand whose raw buffers were lost are issued again (R347)
  let s := startProcessing 8 ((List.range 8).foldl (fun (s : State) p =>
    match (s.cam p).raw with
    | f :: rest => if hit 10 p && (s.cam p).processing then s.setCam p { s.cam p with raw := { f with reissued := true } :: rest, processing := false } else s
    | [] => s) s)
  -- the jobs that read or write them (R347)
  let s := (List.range 36).foldl (fun (s : State) i => s.bandAgain i tiles) s
  let s := [0, 1, 2, 3].foldl (fun (s : State) k =>
    if ((s.stereo k).ref.any fun p => hit 0 p.seq) || ((s.stereo k).partner.any fun p => hit 0 p.seq) then s.stereoAgain k (s.stereo k).engine else s) s
  s.media.motionQueue.foldl (fun (s : State) n =>
    if (s.stream n).motionFor.any fun p => hit 0 p.1 || hit 0 p.2 then s.motionAgain n (s.stream n).motionEngine else s) s

/-- Some chunks fit the ranks that hold data. -/
def State.fits (s : State) (n : Nat) : Bool := decide (n ≤ ((List.range 32).filter s.holdsData).length * chunksPerRank (s.get 0x240001))

/-- The chunks placed. -/
def State.placed (s : State) : Nat := ((List.range 32).map s.chunksOn).foldl (· + ·) 0

/-- What the loss of capacity does to function 0x2: Degraded, or Failed where what was placed no longer fits (R32, R324). -/
def State.lossEffect (s : State) (placed : Nat) : Effect := if s.fits placed then .degraded else .failed

/-- A rank is retired without target (R32, R324, R334). -/
def State.retireRank (s : State) (r : Nat) : State :=
  let s := s.setRank r { s.rank r with state := 6, lost := true }
  let effect := s.lossEffect s.placed
  ((s.addRepair [1, BitVec.ofNat 8 r]).loseChunks r).raiseCore 2 3 r effect

/-! ### Migration (R322 to R325) -/

/-- The first spare for a rank: on another channel, or on its own when no other has one (R324). -/
def State.spareFor (s : State) (r : Nat) : Option Nat :=
  let spares := (spareOrder (s.get 0x240002)).filter fun x => (s.rank x).state == 3
  match spares.find? fun x => x / 2 != r / 2 with
  | some x => some x
  | none => spares.head?

/-- Migration of a rank's content to a spare starts (R323, R324). -/
def State.startMigration (s : State) (r t : Nat) : State :=
  let s := (s.rankState r 4).rankState t 5
  ({ s with memory := { s.memory with migration := some { source := r, target := t, chunk := 0 } } }).raise 2 2 (r + 256 * t)

/-- Places on a rank, those below a chunk number, are taken over by another rank under the same numbers (R323, R325). -/
def State.moveChunks (s : State) (from_ dest below : Nat) : State :=
  let move := fun (p : Place) => if p.rank = from_ ∧ p.chunk < below then { p with rank := dest } else p
  { s with
    lift := { s.lift with
      tops := setNth s.lift.tops dest (min below (nth s.lift.tops from_ 0))
      freed := (s.lift.freed.filter fun p => p.rank != dest).map move
      privileged := s.lift.privileged.map fun p => (move p.1, move p.2) }
    scene := { s.scene with surfaces := s.scene.surfaces.map fun (x : Surface) => { x with places := x.places.map move } } }

/-- Copies of a privileged chunk that have come to share a channel: the moved one is rebuilt on a third (R327). -/
def State.parted (s : State) (dest : Nat) : State := s.rebuildPrivileged fun moved kept => moved.rank == dest && kept.rank / 2 == dest / 2

/-- A rank in service that must be replaced: kind 1 for an uncorrectable block, 4 for a marked pin (R324, R325). -/
def State.replaceRank (s : State) (r kind : Nat) : State :=
  if (s.rank r).state != 2 then s
  else if s.memory.migration.isSome then
    if s.memory.queued.any fun q => q.1 == r then s
    else { s with memory := { s.memory with queued := s.memory.queued ++ [(r, kind)] } }
  else match s.spareFor r with
    | some t => s.startMigration r t
    | none => if kind = 1 then s.retireRank r else s.contain 2 4 .degraded

/-- The next queued replacement starts once no migration runs. -/
def nextMigration : Nat → State → State
  | 0, s => s
  | n + 1, s =>
    if s.memory.migration.isSome then s
    else match s.memory.queued with
      | [] => s
      | q :: rest => nextMigration n (({ s with memory := { s.memory with queued := rest } }).replaceRank q.1 q.2)

def State.runQueue (s : State) : State := nextMigration (s.memory.queued.length + 1) s

/-- The target of a migration fails: it is retired, and the migration starts again into the next spare (R325). -/
def State.failTarget (s : State) (m : Migration) : State :=
  let s := ((s.rankState m.target 6).addRepair [1, BitVec.ofNat 8 m.target])
  let s : State := { s.clearRank m.target with memory := { (s.clearRank m.target).memory with migration := none } }
  match s.spareFor m.source with
  | some t => s.startMigration m.source t
  | none => (s.retireRank m.source).runQueue

/-- The last chunk is copied: the target takes the source's place (R323). -/
def State.endMigration (s : State) (m : Migration) : State :=
  let s := (s.rankState m.source 6).rankState m.target 2
  let s := (s.moveChunks m.source m.target (nth s.lift.tops m.source 0)).clearRank m.source
  let s : State := { s with memory := { s.memory with migration := none } }
  ((s.parted m.target).addRepair [1, BitVec.ofNat 8 m.source]).nextPlacement.runQueue

/-- An uncorrectable block of a rank, outside privileged regions (R324, R325). -/
def State.badBlock (s : State) (r : Nat) : State :=
  let s := s.raise 2 1 r
  match s.memory.migration with
  | some m => if m.target = r then s.failTarget m else if m.source = r then s else s.replaceRank r 1
  | none => s.replaceRank r 1

/-- A DQ pin is marked failed (R313, R324). -/
def State.markPin (s : State) (r p : Nat) : State :=
  if bitOf (s.rank r).marked p then s
  else
    let s := s.setRank r { s.rank r with marked := (s.rank r).marked + 2 ^ p }
    let s := s.addRepair [3, BitVec.ofNat 8 r, BitVec.ofNat 8 p]
    match s.memory.migration with
    | some m =>
      if m.target = r then (s.raise 2 4 (r + 256 * p)).failTarget m
      else if m.source = r then s.raise 2 4 (r + 256 * p)
      else (s.raise 2 4 (r + 256 * p)).replaceRank r 4
    | none => (s.raiseCore 2 4 (r + 256 * p) (if (s.spareFor r).isSome then .unchanged else .degraded)).replaceRank r 4

/-- A pin decode is noted; the sixteenth block of a rank within 1 s marks the pin (R313). -/
def State.notePin (s : State) (r p blockNo : Nat) : State :=
  let x := s.rank r
  let keep := x.decodes.filter fun d => decide (s.now < d.2 + 1000000000) && d.1 != blockNo * 16 + p
  let all := keep ++ [(blockNo * 16 + p, s.now)]
  let s := s.setRank r { x with decodes := all }
  if 16 ≤ (all.filter fun d => d.1 % 16 == p).length then s.markPin r p else s

end Sys2Proof.Machine
end

