-- ==== Sys2Proof/Machine/DramAccess.lean ====
section
/-!
DEFINITION. Sys2Proof/Machine/DramAccess.lean: accesses to DRAM: row care (R316 to R318), check bytes and their cache (R311, R312), poison
(R314), client reads and writes with correction, replay and second copies (R313, R327, R328), the copies of a migration (R323), refresh,
training, drift, and the patrol scrub (R315, R319 to R321).
-/

namespace Sys2Proof.Machine

/-! ### Row care (R316 to R318) -/

/-- Bank and row of a block of a chunk (R310). -/
def bankRow (chunk block : Nat) : Nat × Nat :=
  let seg := block / 64
  ((seg % 8) ^^^ (chunk % 8), 4 * chunk + seg / 8)

/-- Idle time of 128 controller clocks, in ns. -/
def idleNs : Nat := 241

/-- The LFSR of x³² + x²² + x² + x + 1 steps (R316; log entry 91: shifted towards its high end). -/
def lfsrStep (x : Nat) : Nat := (2 * x + (x >>> 31 ^^^ x >>> 21 ^^^ x >>> 1 ^^^ x) % 2) % 2 ^ 32

/-- Data rows of a bank, and rows that hold data or check bytes (R310). -/
def dataRows (gigabit : Nat) : Nat := 4 * chunksPerRank gigabit
def rowsInUse (gigabit : Nat) : Nat := let d := dataRows gigabit; d + (d + 7) / 8

/-- A value of the LFSR selects the activated row, with probability 2^-n. DESIGN CHOICE (log entry 91): where its low n bits are zero. -/
def selectsRow (x n : Nat) : Bool := x % 2 ^ n == 0

/-- An activate steps its channel's LFSR; a selected row's neighbours are noted (R316). -/
def State.activate (s : State) (r bank row : Nat) : State :=
  let x := lfsrStep ((s.channel (r / 2)).lfsr.getD (max 1 (Config.lfsrSeed Config.deviceIdentifier (r / 2) % 2 ^ 32)))
  let s := s.setChannel (r / 2) { s.channel (r / 2) with lfsr := some x }
  let chosen := selectsRow x (s.get 0x240006)
  let near := ((if row = 0 then [] else [row - 1]) ++ [row + 1]).filter fun q => decide (q < rowsInUse (s.get 0x240001))
  (s.bump 0x240015 (if chosen then 1 else 0)).setRank r
    { s.rank r with victims := (s.rank r).victims ++ (if chosen then near.map fun q => (bank, q) else []) }

/-- A column access to a row: the predictor, the activate where the row was closed, and what stays open; `queued` says that another request
to the row is queued (R317, R318). -/
def State.touchRow (s : State) (r chunk block : Nat) (queued : Bool) : State :=
  let x := s.rank r
  let (b, row) := bankRow chunk block
  let was := x.open_.find? fun e => e.1 == b && decide (s.now < e.2.2 + idleNs)
  let p := nth x.predictor b 2
  let p' := match was with | some e => if e.2.1 = row then min 3 (p + 1) else p - 1 | none => p
  let hit := match was with | some e => e.2.1 == row | none => false
  let rest := x.open_.filter fun e => e.1 != b
  let s := s.setRank r { x with
    poweredDown := false, lastUse := s.now, predictor := setNth x.predictor b p'
    open_ := if p' ≤ 1 && !queued then rest else rest ++ [(b, row, s.now)] }
  if hit then s else s.activate r b row

/-! ### Blocks: check bytes, poison, commands (R311, R312, R314, R324, R328) -/

/-- The check burst of a block (R311): bank, number, and the place of its first check symbol. -/
def checkPlace (chunk block : Nat) : Nat × Nat × Nat :=
  let (b, row) := bankRow chunk block
  let k := block % 64
  (b, 8 * row + k / 8, 4 * (k % 8))

/-- The check bytes of a block where its controller's cache holds them. -/
def State.cachedChecks (s : State) (r chunk block : Nat) : Option (List Nat) :=
  let (b, q, i) := checkPlace chunk block
  ((s.channel (r / 2)).checks.find? fun c => c.rank == r && c.bank == b && c.burst == q).bind fun c =>
    let l := [0, 1, 2, 3].filterMap fun j => lookup (i + j) c.symbols
    if l.length = 4 then some l else none

/-- The check bytes of a block are updated in the cache of 2,048 bursts; the oldest burst is written back where it is full (R311; log entry
91). -/
def State.cacheChecks (s : State) (r chunk block : Nat) (checks : List Nat) : State :=
  let (b, q, i) := checkPlace chunk block
  let c := s.channel (r / 2)
  let same := fun (x : CheckBurst) => x.rank == r && x.bank == b && x.burst == q
  let old := ((c.checks.find? same).map (·.symbols)).getD []
  let new : CheckBurst :=
    { rank := r, bank := b, burst := q, symbols := old.filter (fun e => e.1 / 4 != i / 4) ++ checks.zipIdx.map fun p => (i + p.2, p.1) }
  let all := c.checks.filter (fun x => !same x) ++ [new]
  let s := s.setChannel (r / 2) { c with checks := all.drop (all.length - 2048) }
  (all.take (all.length - 2048)).foldl (fun s x =>
    s.send (.dramChecks x.rank x.bank (dataRows (s.get 0x240001) + x.burst / 64) (x.burst % 64) x.symbols)) s

/-- A block holds poisoned data (R314), or its content was lost and has not been rewritten (R324). -/
def State.isPoison (s : State) (r chunk block : Nat) : Bool :=
  s.memory.poison.contains (r, chunk, block) || s.memory.voids.any fun v => v.place == ⟨r, chunk⟩ && !v.rewritten.contains block

/-- A block takes poisoned data, or data. -/
def State.setPoison (s : State) (r chunk block : Nat) (poison : Bool) : State :=
  let rest := s.memory.poison.filter fun q => q != (r, chunk, block)
  let written := fun (v : VoidChunk) =>
    if v.place = ⟨r, chunk⟩ ∧ !v.rewritten.contains block then { v with rewritten := v.rewritten ++ [block] } else v
  let voids := (s.memory.voids.map written).filter fun v => decide (v.rewritten.length < 2048)
  { s with memory := { s.memory with poison := if poison then rest ++ [(r, chunk, block)] else rest, voids := voids } }

/-- A whole block is written: its data, and its check bytes through the cache (R311, R312); poisoned data with the marker (R314). -/
def State.writeBlock (s : State) (r chunk block : Nat) (data : List Nat) (poison : Bool) : State :=
  let word := if poison then poisonWord data else codeword data
  ((s.send (.dramWrite r chunk block data)).cacheChecks r chunk block (word.drop 32)).setPoison r chunk block poison

/-- A command enters its channel's retry buffer of 64 (R328). -/
def State.remember (s : State) (r chunk block : Nat) (write : Bool) : State :=
  let c := s.channel (r / 2)
  let all := c.retry ++ [{ rank := r, chunk, block, write }]
  s.setChannel (r / 2) { c with retry := all.drop (all.length - 64) }

/-- A command to a block: its row and its channel's buffer. -/
def State.command (s : State) (r chunk block : Nat) (write queued : Bool) : State :=
  (s.touchRow r chunk block queued).remember r chunk block write

/-- What a read of a block gives (R313, R314): its 36 symbols as read, the check bytes from the cache where it holds them. -/
def State.readWord (s : State) (r chunk block : Nat) (symbols : List Nat) : ReadOutcome × List Nat :=
  let word := match s.cachedChecks r chunk block with | some c => symbols.take 32 ++ c | none => symbols
  if s.isPoison r chunk block then (.poison, word) else decodeWord (s.rank r).marked block word

/-! ### Client accesses (R313, R314, R328) -/

/-- What a good read leaves: the correction is counted, a pin decode noted, and the corrected block written back (R313). -/
def State.noteRead (s : State) (r chunk block : Nat) (o : ReadOutcome × List Nat) : State :=
  match o.1 with
  | .corrected true => (s.bump 0x24000C).writeBlock r chunk block (o.2.take 32) false
  | .pinDecode p => (s.writeBlock r chunk block (o.2.take 32) false).notePin r p (chunk * 2048 + block)
  | _ => s

/-- Data delivered poisoned to a consumer, if there is one. -/
def State.deliverPoison (s : State) (client : Option DramClient) : State :=
  match client with
  | some c => s.poisoned c
  | none => s

/-- The read of a privileged block after its first decode failed: up to four replays from the retry buffer, then the second copy, which is
written back over the block where it is good (R328); the reads by their symbols. -/
def State.replayRead (s : State) (client : Option DramClient) (r chunk block : Nat) : Nat → List (List Nat) → State
  | 0, os =>
    let s := s.bump 0x240010
    let other := (s.otherCopy ⟨r, chunk⟩).getD ⟨r, chunk⟩
    let s := s.command other.rank other.chunk block false false
    let o := s.readWord other.rank other.chunk block (os.headD [])
    if o.1.good then
      let s := s.noteRead other.rank other.chunk block o
      s.writeBlock r chunk block (o.2.take 32) false
    else ((s.bump 0x24000D).raise 2 5 r).deliverPoison client
  | n + 1, os =>
    let s := (s.bump 0x24000F).command r chunk block false false
    let o := s.readWord r chunk block (os.headD [])
    if o.1.good then s.noteRead r chunk block o else s.replayRead client r chunk block n os.tail

/-- The target of a migration from a rank (R323). -/
def State.targetOf (s : State) (r : Nat) : Option Migration :=
  if (s.rank r).state = 4 then s.memory.migration.filter fun m => m.source == r else none

/-- The rank that serves a read of a chunk: the migration's target once the chunk has been copied (R323). -/
def State.serving (s : State) (r chunk : Nat) : Nat :=
  match s.targetOf r with | some m => if chunk < m.chunk then m.target else r | none => r

/-- A block is read from a rank, its successive reads given by their 36 symbols each; the data go to its client (R313, R328). -/
def State.readBlock (s : State) (client : Option DramClient) (r chunk block : Nat) (symbols : List Nat) : State :=
  let reads := rowsOfPlane 36 (symbols.length / 36) symbols
  let o := s.readWord r chunk block (reads.headD [])
  if o.1.good then s.noteRead r chunk block o
  else if o.1 = .poison then s.deliverPoison client
  else if client.any privileged || (s.copiesOf ⟨r, chunk⟩).isSome then s.replayRead client r chunk block 4 reads.tail
  else ((s.bump 0x24000D).badBlock r).deliverPoison client

/-- The places that a write of a block reaches: the rank named, the target of a migration from it, and the other copy of a privileged chunk
(R323, R327). -/
def State.writePlaces (s : State) (r chunk : Nat) : List Place :=
  ⟨r, chunk⟩ :: (((s.targetOf r).toList.map fun m => ⟨m.target, chunk⟩) ++ (s.otherCopy ⟨r, chunk⟩).toList)

/-- A write of a block (R311, R314): the whole of it, or part of it, whose block is read, corrected and rewritten, and stays poisoned where
it was or reads uncorrectable. -/
def State.writeAccess (s : State) (r chunk block : Nat) (op : DramOp) (at_ : Nat) (bytes symbols : List Nat) : State :=
  let all := s.writePlaces r chunk
  let s := all.foldl (fun (s : State) p => s.command p.rank p.chunk block true op.queued) s
  let put := fun (s : State) (data : List Nat) (poison : Bool) =>
    all.foldl (fun (s : State) p => s.writeBlock p.rank p.chunk block data poison) s
  if at_ = 0 ∧ bytes.length = 32 then put s bytes false
  else
    let from_ := s.serving r chunk
    let reads := (rowsOfPlane 36 (symbols.length / 36) symbols).map (s.readWord from_ chunk block)
    let first := reads.headD (.uncorrectable, [])
    -- a privileged block is taken from a replay or from its copy where its own first read fails
    let o := if first.1 = .uncorrectable ∧ (s.copiesOf ⟨r, chunk⟩).isSome then (reads.find? (·.1.good)).getD first else first
    let merged := o.2.take at_ ++ bytes ++ (o.2.take 32).drop (at_ + bytes.length)
    put (s.readBlock none from_ chunk block symbols) (merged.take 32) (!o.1.good)

/-- A client's access to a block of a rank, at the place that Lift's translation gives (R310, R345). A read of a privileged block whose rank
is retired is served from the surviving copy, whose symbols are read (R328). -/
def State.dramAccess (s : State) (client : DramClient) (r chunk block : Nat) (op : DramOp) (symbols : List Nat) : State :=
  let x := s.rank r
  if x.state = 0 ∨ x.state = 1 ∨ !s.served ∨ chunksPerRank (s.get 0x240001) ≤ chunk then s
  else if x.state = 6 ∨ x.state = 7 then
    if op.write.isSome then s
    else if privileged client then
      if (decodeBlock 0 block (symbols.take 36)).good then s else (s.raise 2 5 r).poisoned client
    else s.poisoned client
  else match op.write with
    | some (at_, bytes) => s.writeAccess r chunk block op at_ bytes symbols
    | none =>
      let from_ := s.serving r chunk
      (s.command from_ chunk block false op.queued).readBlock (some client) from_ chunk block symbols

/-! ### Copying (R323, R325) -/

/-- One block of a chunk is copied whose read was not clean: corrected, or poisoned (R313, R323). -/
def State.copyBlock (s : State) (m : Migration) (block : Nat) (symbols : List Nat) : State :=
  let o := s.readWord m.source m.chunk block symbols
  if o.1.good then s.noteRead m.source m.chunk block o
  else if o.1 = .poison then s
  else ((s.bump 0x24000D).raise 2 1 m.source).setPoison m.target m.chunk block true

/-- A chunk's poison and lost content go with it to the target of a migration. -/
def State.copyPoison (s : State) (m : Migration) : State :=
  { s with memory := { s.memory with
      poison := s.memory.poison ++ (s.memory.poison.filter fun q => q.1 == m.source && q.2.1 == m.chunk).map fun q => (m.target, q.2)
      voids := s.memory.voids ++ (s.memory.voids.filter fun v => v.place == ⟨m.source, m.chunk⟩).map fun v =>
        { v with place := ⟨m.target, m.chunk⟩ } } }

/-- One chunk more is copied, row by row; recognition of PFAIL_N stops the copy (R323, R325). -/
def State.copyChunk (s : State) (reads : List (Nat × List Nat)) : State :=
  match s.memory.migration with
  | none => s
  | some m =>
    if s.power.pfailHold || !s.served then s
    else
      let s := (List.range 32).foldl (fun (s : State) i =>
        (s.command m.source m.chunk (64 * i) false false).command m.target m.chunk (64 * i) true false) s
      let s := reads.foldl (fun (s : State) b => s.copyBlock m b.1 b.2) (s.copyPoison m)
      match s.memory.migration with
      | none => s
      | some m =>
        if m.chunk + 1 < chunksPerRank (s.get 0x240001) then
          { s with memory := { s.memory with migration := some { m with chunk := m.chunk + 1 } } }
        else s.endMigration m

/-! ### Refresh, polls, drift (R315, R318, R321) -/

/-- Refreshes per 3.9 µs for a mode register 4 reading (R315). -/
def refreshRate (mr4 : Nat) : Nat := if mr4 ≤ 3 then 1 else if mr4 = 4 then 2 else 4

/-- A channel is excluded after training: its ranks are replaced by spares while there are some (R32, R324). -/
def State.excludeChannel (s : State) (c : Nat) : State :=
  let ranks := [2 * c, 2 * c + 1].filter fun r => (s.rank r).state != 0
  let before := s
  let s := s.setChannel c { s.channel c with excluded := true, trained := false, retryAt := none, checks := [], retry := [] }
  let gone := ranks.foldl (fun (s : State) r => s.setRank r { s.rank r with state := if (before.rank r).state = 6 then 6 else 7, lost := true }) s
  let after := ranks.foldl (fun (s : State) r =>
    if (before.rank r).state = 2 then (match s.spareFor r with | some t => s.rankState t 2 | none => s) else s) gone
  let s := (gone.addRepair [2, BitVec.ofNat 8 c]).raiseCore 2 6 c (after.lossEffect before.placed)
  -- a migration that used the channel
  let s := match s.memory.migration with
    | some m =>
      if m.target / 2 = c then s.failTarget m
      else if m.source / 2 = c then
        let s := { s with memory := { s.memory with migration := none } }
        ((((s.rankState m.target 2).moveChunks m.source m.target m.chunk).parted m.target).loseChunks m.source fun k i => Config.copiedItem k i m.chunk).runQueue
      else s
    | none => s
  ranks.foldl (fun (s : State) r =>
    if (before.rank r).state != 2 then s
    else match s.spareFor r with
      | some t => ((s.rankState t 2).raise 2 0xC t).loseChunks r
      | none => s.loseChunks r) s

/-- A centring of a channel ends (R321). -/
def State.centred (s : State) (c temperature : Nat) (converged : Bool) : State :=
  let x := s.channel c
  if converged then s.setChannel c { x with baseline := temperature, retryAt := none }
  else
    let fails := (x.failures.filter fun f => decide (s.now < f + 60000000000)) ++ [s.now]
    let s := (s.bump 0x240013).setChannel c { x with failures := fails, retryAt := some (s.now + 1000000000) }
    if 3 ≤ fails.length then s.excludeChannel c else s

/-- A PHY temperature: centring is run again once it has moved by 0x2400.09 (R321). -/
def State.driftRecentre (s : State) (c temperature : Nat) (converged : Bool) : State :=
  let x := s.channel c
  if !x.trained || !s.served then s
  else
    let temp := temperature % 65536
    let s := s.setChannel c { x with temperature := temp }
    let moved := (signed 16 temp - signed 16 x.baseline).natAbs
    if s.get 0x240009 * 256 ≤ moved ∧ x.retryAt = none then s.centred c temp converged else s

def State.recentreAgain (s : State) (c : Nat) (converged : Bool) : State :=
  match (s.channel c).retryAt with
  | some at_ => if at_ ≤ s.now && s.served then s.centred c (s.channel c).temperature converged else s
  | none => s

/-- A rank is refreshed, polled and powered down: it is trained, and not out of use (R315, R333). -/
def State.refreshed (s : State) (r : Nat) : Bool := decide (2 ≤ (s.rank r).state) && decide ((s.rank r).state ≤ 5) && s.served

/-- Mode register 4 and the DQS oscillator of a rank: past 0x2400.0A percent, and at the update after a wake from Sleep, the write DQ delays
are shifted by the amount that matches (R315, R320, R321). -/
def State.pollRank (s : State) (r mr4 oscillator : Nat) : State :=
  let x := s.rank r
  if !s.refreshed r then s
  else
    let m := mr4 % 8
    let moved := (max x.oscillator oscillator - min x.oscillator oscillator) * 100
    let shift := x.updateDue || decide (s.get 0x24000A * x.oscillator < moved)
    (s.setRank r { x with
      mr4 := m, rate := refreshRate m, derated := m == 6, updateDue := false, oscillator := if shift then oscillator else x.oscillator
      dqShift := if shift then x.dqShift + Config.dqShift x.oscillator oscillator else x.dqShift }).follow (m == 7) 2 7 r

/-- A refresh of a rank is due: postponed while class 1 requests wait, at most eight times; the neighbours of the rows selected since the
last one are activated with it (R315 to R317). -/
def State.refreshRank (s : State) (r : Nat) (waiting : Bool) : State :=
  let x := s.rank r
  if !s.refreshed r then s
  else if waiting ∧ x.postponed < 8 then s.setRank r { x with postponed := x.postponed + 1 }
  else
    let s := s.setRank r { x with postponed := 0, open_ := [], poweredDown := false, lastUse := s.now, victims := [] }
    let s := (List.range (x.postponed + 1)).foldl (fun (s : State) _ => s.send (.dram (r / 2) (r % 2) 0)) s
    x.victims.foldl (fun (s : State) v => s.send (.activate (r / 2) (r % 2) v.1 v.2)) s

/-- The power-down timer in controller clocks (R318, R340). -/
def State.powerDownTimer (s : State) : Nat := if s.get 0x211007 = 0 then s.get 0x240007 else 16

/-- A rank has had neither request nor refresh for the timer's clocks of 533.25 MHz, and none is due (R317, R318). -/
def State.rankIdle (s : State) (r : Nat) : Bool :=
  s.powerDownTimer != 0 && (s.rank r).postponed == 0 && decide (s.powerDownTimer * 100000 ≤ (s.now - (s.rank r).lastUse) * 53325)

/-- An idle rank enters power-down (R318). -/
def State.powerDown (s : State) (r : Nat) : State :=
  let x := s.rank r
  if !s.refreshed r || !s.rankIdle r then s
  else s.setRank r { x with poweredDown := true, open_ := [] }

/-! ### The patrol scrub (R319) -/

/-- Ranks that the scrub covers: in use, and spare. -/
def State.scrubbed (s : State) (r : Nat) : Bool := (s.rank r).state == 2 || (s.rank r).state == 3

/-- The block that the scrub reads next, and whether a new pass begins with it; none where no rank is covered. -/
def State.scrubNext (s : State) : Option ((Nat × Nat × Nat) × Bool) :=
  let (r, c, b) := s.memory.scrubAt
  if s.scrubbed r && decide (c < chunksPerRank (s.get 0x240001)) then some ((r, c, b), decide ((c, b) = (0, 0)) && (List.range r).all fun q => !s.scrubbed q)
  else match (List.range 32).find? fun q => decide (r < q) && s.scrubbed q with
    | some q => some ((q, 0, 0), (List.range q).all fun p => !s.scrubbed p)
    | none => ((List.range 32).find? s.scrubbed).map fun q => ((q, 0, 0), true)

/-- The scrub may read a block now: it is the next, and a new pass begins 0x2400.0B hours after the one before. -/
def State.scrubDue (s : State) (r chunk block : Nat) : Bool :=
  match s.scrubNext with
  | some (p, fresh) => p == (r, chunk, block) && (!fresh || (match s.memory.scrubSince with
      | some a => decide (a + s.get 0x24000B * 3600000000000 ≤ s.now)
      | none => true))
  | none => false

/-- The scrub goes on behind a block. -/
def State.scrubOn (s : State) (r chunk block : Nat) : State :=
  let fresh := (s.scrubNext.map (·.2)).getD false
  let next := if block + 1 < 2048 then (r, chunk, block + 1) else if chunk + 1 < chunksPerRank (s.get 0x240001) then (r, chunk + 1, 0) else (r + 1, 0, 0)
  { s with memory := { s.memory with scrubAt := next, scrubSince := if fresh then some s.now else s.memory.scrubSince } }

/-- A block of a spare rank is written with the pattern and read back: the rank is retired where it does not read as written. -/
def State.scrubSpare (s : State) (r chunk block : Nat) (symbols : List Nat) : State :=
  let pattern := (List.range 32).map fun i => Config.sparePattern r chunk block i % 256
  let s := (s.command r chunk block true false).writeBlock r chunk block pattern false
  let s := s.command r chunk block false false
  let o := s.readWord r chunk block symbols
  if o.1.good && o.2.take 32 == pattern then s.noteRead r chunk block o
  else ((s.rankState r 6).addRepair [1, BitVec.ofNat 8 r]).raise 2 0xB r

/-- PATROL_SCRUB reads the next block of its pass; an uncorrectable one is handled as if a client had read it. -/
def State.scrubRead (s : State) (r chunk block : Nat) (symbols : List Nat) : State :=
  if s.memory.migration.isSome || s.get 0x211007 == 2 || !s.served || !s.scrubDue r chunk block then s
  else
    let s := s.scrubOn r chunk block
    if (s.rank r).state = 3 then s.scrubSpare r chunk block symbols
    else
      let s := s.command r chunk block false false
      let o := s.readWord r chunk block (symbols.take 36)
      let s := if o.1 = .uncorrectable then { s with pair := { s.pair with scrubClean := false } } else s
      s.readBlock none r chunk block symbols

/-! ### Training (R309, R320, R322) -/

/-- Ranks fitted on a channel. -/
def State.fitted (s : State) (c : Nat) : List Nat := if s.get 0x240002 = 1 then [2 * c] else [2 * c, 2 * c + 1]

/-- Every fitted channel has trained or has been excluded: spares are chosen, excluded ranks replaced, and function 0x2 is
Ready or Degraded (R320, R322, R324). -/
def State.endTraining (s : State) : State :=
  if s.memory.channels.any fun c => !(c.trained || c.excluded) then s
  else
    let spares := ((spareOrder (s.get 0x240002)).filter fun r => (s.rank r).state == 2).take (s.get 0x250001)
    let s := spares.foldl (fun (s : State) r => s.rankState r 3) s
    let lost := (List.range 32).filter fun r => (s.rank r).state == 7 && (s.rank r).lost
    -- the spares that took the place of ranks of the repair list are in use from the start (R326)
    let gone := (List.range 32).filter fun r => (s.rank r).state == 6 || ((s.rank r).state == 7 && !(s.rank r).lost)
    let s := gone.foldl (fun (s : State) r => match s.spareFor r with | some t => s.rankState t 2 | none => s) s
    let s := lost.foldl (fun (s : State) r =>
      let s := s.setRank r { s.rank r with lost := false }
      match s.spareFor r with
      | some t => (s.rankState t 2).raise 2 0xC t
      | none => s) s
    if nth s.stages 2 .off == .starting then s.stage 2 .up else s

/-- Lift is started once two channels serve it with ranks that are no spares: it places the privileged regions, and function 0x3 is ready
(R322, R327, R429). -/
def State.startLift (s : State) : State :=
  let serves := fun (c : Nat) => (s.channel c).trained && (s.roomOn (2 * c) || s.roomOn (2 * c + 1))
  if nth s.stages 3 .off == .starting && decide (2 ≤ ((List.range 16).filter serves).length) then
    (s.placePrivileged privilegedChunks).stage 3 .up
  else s

/-- A channel's training ends (R309, R320). -/
def State.trainChannel (s : State) (c : Nat) (ok : Bool) (report : TrainingReport) : State :=
  let x := s.channel c
  if nth s.stages 2 .off != .starting || x.trained || x.excluded then s
  else if !ok && x.attempts = 0 then s.setChannel c { x with attempts := 1 }
  else
    let fits := ok && (s.fitted c).zipIdx.all fun p => nth report.densities p.2 0 == s.get 0x240001
    if fits then
      -- the centrings and the oscillator baseline are part of the training (R320, R321)
      let s := (s.pllLocked .memory).setChannel c
        { x with trained := true, baseline := report.temperature % 65536, temperature := report.temperature % 65536 }
      let s := (s.fitted c).foldl (fun (s : State) r =>
        if (s.rank r).state = 1 then s.setRank r { s.rank r with
          state := 2, rate := 1, predictor := List.replicate 8 2, open_ := [], oscillator := nth report.oscillators (r % 2) 0, dqShift := 0 } else s) s
      s.startLift.endTraining.startLift
    else
      let s := s.setChannel c { x with excluded := true }
      let s := (s.addRepair [2, BitVec.ofNat 8 c]).raise 2 6 c
      let s := (s.fitted c).foldl (fun (s : State) r =>
        if (s.rank r).state = 1 then s.setRank r { s.rank r with state := 7, lost := true } else s) s
      s.endTraining.startLift

/-! ### The commands' meanings -/

/-- DRAM_ACCESS (R313): ranks are 0 to 31, blocks of a chunk 0 to 2,047. -/
def execDramAccess (t : Nat) (client : DramClient) (rank chunk block : Nat) (op : DramOp) (symbols : List Nat) (s : State) :
    Host.Outcome State Fault Refusal :=
  actIf (rank < 32 && block < 2048) t s fun s => s.dramAccess client rank chunk block op symbols

/-- MIGRATION_CHUNK_COPY (R323). -/
def execMigrationChunkCopy (step : CopyStep) (s : State) : Host.Outcome State Fault Refusal :=
  act step.t s fun s => s.copyChunk step.reads

/-- MR4_POLL (R315, R321). -/
def execMr4Poll (t rank mr4 oscillator : Nat) (s : State) : Host.Outcome State Fault Refusal :=
  actIf (rank < 32) t s fun s => s.pollRank rank mr4 oscillator

/-- REFRESH (R315). -/
def execRefresh (t rank : Nat) (class1Waiting : Bool) (s : State) : Host.Outcome State Fault Refusal :=
  actIf (rank < 32) t s fun s => s.refreshRank rank class1Waiting

/-- POWER_DOWN_ENTRY (R318). -/
def execPowerDownEntry (t rank : Nat) (s : State) : Host.Outcome State Fault Refusal :=
  actIf (rank < 32) t s fun s => s.powerDown rank

/-- PATROL_SCRUB (R319). -/
def execPatrolScrub (t rank chunk block : Nat) (symbols : List Nat) (s : State) : Host.Outcome State Fault Refusal :=
  actIf (rank < 32 && block < 2048) t s fun s => s.scrubRead rank chunk block symbols

/-- CHANNEL_TRAINING (R320): channels are 0 to 15. -/
def execChannelTraining (t channel : Nat) (trained : Bool) (report : TrainingReport) (s : State) : Host.Outcome State Fault Refusal :=
  actIf (channel < 16) t s fun s => s.trainChannel channel trained report

/-- DRIFT_RECENTRE (R321). -/
def execDriftRecentre (t channel temperature : Nat) (converged : Bool) (s : State) : Host.Outcome State Fault Refusal :=
  actIf (channel < 16) t s fun s => s.driftRecentre channel temperature converged

/-- RECENTRE_RETRY (R321). -/
def execRecentreRetry (t channel : Nat) (converged : Bool) (s : State) : Host.Outcome State Fault Refusal :=
  actIf (channel < 16) t s fun s => s.recentreAgain channel converged

end Sys2Proof.Machine
end

