-- ==== Sys2Proof/Machine/Sram.lean ====
section
/-!
DEFINITION. Sys2Proof/Machine/Sram.lean: the scrub of on-chip SRAM (R330 to R332): correction counts, row repair, double
errors at their consumers.
-/

namespace Sys2Proof.Machine

/-- The pool of a macro, in the order of R16 (R330). -/
def poolOf (m : Nat) : Nat := if m < 192 then 0 else if m < 224 then 1 else if m < 248 then 2 else if m < 280 then 3 else if m < 296 then 4 else 5

/-- A finding names an existing macro of its pool and a row of it. -/
def SramFinding.ok (f : SramFinding) : Bool := f.macroNo < 320 && f.pool == poolOf f.macroNo && f.row < 4096

def State.macroOf (s : State) (m : Nat) : Macro := nth s.memory.macros m {}
def State.setMacro (s : State) (m : Nat) (x : Macro) : State := { s with memory := { s.memory with macros := setNth s.memory.macros m x } }

/-- A motion block loses its search: it takes the best gate's position without refinement, and is counted when its picture is coded (R229,
R332). -/
def State.unrefineMotion (s : State) (n item : Nat) : State :=
  let x := s.stream n
  let i := item % max 1 x.motion.length
  match s.nextSource n, x.reference with
  | some (cur, _), some ref =>
    let block := fun (r : MotionResult) => motionBlock cur ref (s.get 0x380009) (x.motion.take i) x.motionPrev false r.bx r.by_
    s.setStream n { x with motion := x.motion.modify i block }
  | _, _ => s

/-- Poison of a pool at its consumer (R332); whom a row serves the spec does not say (Config.sramUser, log entry 52). -/
def State.sramPoison (s : State) (pool m row : Nat) : State :=
  let u := Config.sramUser m row
  let s := s.bump 0x24000E
  match pool with
  | 1 =>
    { s with link := { s.link with
        claims := s.link.claims.modify u fun c => if c.state = .queued then { c with codes := [] } else c
        retry := if u < s.link.claims.length then s.link.retry
          else s.link.retry.modify (u - s.link.claims.length) fun p => { p with lost := p.kind == 1 } } }
  | 2 => if u < 8 then s.damageFrame u else s
  | 3 => if u < 32 then s.damagePicture u else if u < 56 then s.loseSource (u - 32) else s
  | 4 =>
    if u < 4 then
      let p := s.stereo u
      s.setStereo u { p with blocks := p.blocks.modify (Config.sramItem m row % max 1 p.blocks.length) fun b => { b with confidence := 0 } }
    else if u < 28 then s.unrefineMotion (u - 4) (Config.sramItem m row)
    else s
  | 5 => ({ s with faults := { s.faults with resetRequested := true } }).raise 0 3
  | _ => s

/-- A row is repaired from a spare row, or left (R331). -/
def State.repairRow (s : State) (m row : Nat) : State :=
  let x := s.macroOf m
  if x.rowsLeft = 0 then s.raise 2 9 m
  else
    let s := s.setMacro m { x with rowsLeft := x.rowsLeft - 1, counts := x.counts.filter fun c => c.1 != row }
    (s.addRepair ([5, 0] ++ leBytes 2 m ++ leBytes 2 row)).raise 2 8 m

/-- A column is repaired from a spare column, which is cause 0x08 as a row's repair is (R33, R331); with none left it stays, and the pool
reports degraded (R32). -/
def State.repairColumn (s : State) (m column : Nat) : State :=
  let x := s.macroOf m
  if x.columnsLeft = 0 then s.raise 2 9 m
  else ((s.setMacro m { x with columnsLeft := x.columnsLeft - 1 }).addRepair ([6, 0] ++ leBytes 2 m ++ leBytes 2 column)).raise 2 8 m

/-- One finding of the scrub (R331, R332). -/
def State.sramFinding (s : State) (f : SramFinding) : State :=
  let x := s.macroOf f.macroNo
  let keep := x.counts.filter fun c => decide (s.now < c.2.2 + 86400000000000)
  let counts := if f.corrections = 0 then keep else keep ++ [(f.row, f.corrections, s.now)]
  let s := s.setMacro f.macroNo { x with counts }
  let s : State := { s with memory := { s.memory with
      corrections := setNth s.memory.corrections f.pool ((nth s.memory.corrections f.pool 0 + f.corrections) % 2 ^ 32) } }
  let total := (counts.filter fun c => c.1 == f.row).foldl (fun n c => n + c.2.1) 0
  let s := if f.double then ((s.bump 0x240024).raise 2 0xA f.pool).sramPoison f.pool f.macroNo f.row else s
  if f.double || decide (0 < f.corrections ∧ s.get 0x240023 ≤ total) then s.repairRow f.macroNo f.row else s

/-- Spare rows and columns left in a pool, 0x2400.21 and .22. -/
def State.sparesLeft (s : State) (pool : Nat) : Nat × Nat :=
  let ms := (s.memory.macros.zipIdx.filter fun p => poolOf p.2 == pool).map (·.1)
  (ms.foldl (fun n m => n + m.rowsLeft) 0, ms.foldl (fun n m => n + m.columnsLeft) 0)

/-- SRAM_SCRUB (R331): findings name existing macros and rows. -/
def execSramScrub (t : Nat) (findings : List SramFinding) (s : State) : Host.Outcome State Fault Refusal :=
  actIf (findings.all SramFinding.ok) t s fun s => if s.served then findings.foldl State.sramFinding s else s

end Sys2Proof.Machine
end

