-- ==== Sys2Proof/Machine/Commit.lean ====
section
/-!
DEFINITION. Sys2Proof/Machine/Commit.lean: content-frame instants (R367), the pending scene set, its validation (R82), its
commit with the ray-map swap (R83, R90, R111, R137), and frame-group outcomes (R376).
-/

namespace Sys2Proof.Machine

/-! ### Instants of the content-frame timer (R367) -/

def State.frameNum (s : State) : Nat := fieldLE (s.dom 0x285001) 0 4
def State.frameDen (s : State) : Nat := fieldLE (s.dom 0x285001) 4 4

/-- T_k of R367. -/
def State.tickTime (s : State) (k : Nat) : Nat := (s.geti 32 0x285002 + ((k * s.frameDen * 1000000000 / s.frameNum : Nat) : Int)).toNat

/-- The content-frame period in ns, truncated. -/
def State.framePeriod (s : State) : Nat := s.frameDen * 1000000000 / s.frameNum

/-- The largest k with T_k at or before an instant, if there is one. -/
def State.tickBefore (s : State) (at_ : Nat) : Option Nat :=
  let y := (at_ : Int) - s.geti 32 0x285002
  if y < 0 then none else some (((y.toNat + 1) * s.frameNum - 1) / (s.frameDen * 1000000000))

/-- The least k with T_k at or after an instant. -/
def State.tickFrom (s : State) (at_ : Nat) : Nat :=
  let y := ((at_ : Int) - s.geti 32 0x285002).toNat
  (y * s.frameNum + s.frameDen * 1000000000 - 1) / (s.frameDen * 1000000000)

/-! ### Functions of objects (R34) -/

/-- The function that owns an object. -/
def functionOf (k : Nat) : Nat :=
  let index := k / 256
  let h := index / 256
  if index = 0x2210 then 0xF
  else match h with
    | 0x21 => 1 | 0x24 => 2 | 0x25 => 3 | 0x38 => 5 | 0x39 => 6 | 0x3B => 6 | 0x3A => 7 | 0x3C => 8
    | 0x40 => 9 | 0x41 => 9 | 0x42 => 9 | 0x43 => 0xC | 0x4C => 0xC | 0x48 => 0xA | 0x4A => 0xA | 0x49 => 0xB
    | 0x28 => 0xD | 0x23 => 0xE | 0x26 => 0xF
    | _ => if 0x30 ≤ h ∧ h ≤ 0x37 then 4 else 0

/-- RW-E objects that take effect with a scene epoch; the others follow a shadow commit (R8, R50). -/
def sceneKey (k : Nat) : Bool :=
  let h := k / 65536
  h == 0x40 || h == 0x41 || h == 0x42 || h == 0x48 || h == 0x49 || k == 0x3C0002 || k == 0x3C0003
    || (decide (0x30 ≤ h ∧ h ≤ 0x37) && (k % 65536 == 0x0F || k % 65536 == 0x10))

/-- Values written for the next epoch are waiting. -/
def State.scenePending (s : State) : Bool := s.pendR.any (fun p => sceneKey p.1) || s.pendD.any fun p => sceneKey p.1

/-- 0x4000.06. -/
def State.pendingState (s : State) : Nat :=
  if s.scene.refused then 3 else if s.scene.requested then 2 else if s.scenePending then 1 else 0

/-! ### Banks (R98, R109) -/

/-- The shadow bank. DESIGN CHOICE (log entry 85): before any bank is active it is bank 0, so that the first one active is number 0. -/
def State.shadow (s : State) : Nat := match s.banks.active with | some b => 1 - b | none => 0
def State.shadowGeometryBytes (s : State) : Bytes := nth s.banks.geometry s.shadow []
def State.shadowEntryBytes (s : State) : Bytes := nth s.banks.entries s.shadow []

/-- A swap is pending for the next epoch. -/
def State.swapPending (s : State) : Bool := lookup 0x420001 s.pendR == some 1

/-- The panel in tiles that will be in force once the pending set commits (R82). -/
def State.nextPanel (s : State) : Nat × Nat :=
  let g := if s.swapPending then some (Geometry.ofBytes s.shadowGeometryBytes) else s.geometry
  match g with
  | some g => (120 * g.moduleColumns, 135 * g.moduleRows)
  | none => (960, 1080)

/-! ### Validation (R82) -/

/-- The first number below `n` that a test picks. -/
def firstBelow (n : Nat) (p : Nat → Bool) : Option Nat := (List.range n).find? p

/-- What a check reports: its reason and item, if some item fails it. -/
def refuse (reason : Nat) (item : Option Nat) : Option (Nat × Nat) := item.map fun i => (reason, i)

/-- Texels of a layer's scale on an axis (R82, reason 0x06). -/
def scaleOk (l : Layer) : Bool :=
  if l.kind = 3 then l.destW == l.cropW * 4096 && l.destH == l.cropH * 4096
  else decide (l.cropW * 1024 ≤ l.destW ∧ l.destW ≤ l.cropW * 32768 ∧ l.cropH * 1024 ≤ l.destH ∧ l.destH ≤ l.cropH * 32768)

/-- A layer's depth parameters (R70, R71, R72; reason 0x07); the curve index serves encodings 0x01 and 0x02 (R79). The metric limits
hold of every depth-map layer, since R72 names no encoding. -/
def depthOk (d : Bytes) (l : Layer) : Bool :=
  if l.geometry = 1 then
    let c := fun (x y : Int) => inS12p4 (tiltedDepth l.z0 l.gx l.gy l.destX l.destY x y)
    c l.destX l.destY && c (l.destX + l.destW) l.destY && c l.destX (l.destY + l.destH) && c (l.destX + l.destW) (l.destY + l.destH)
  else if l.geometry = 2 then
    (if l.kind = 1 then decide (l.encoding ≤ 1) else l.encoding == 2)
      && (l.encoding == 0 || decide (l.curve < curveCount d)) && metricOk l.zNear l.zFar
  else true

/-- Every source of a layer exists (R82, reason 0x05): a decoder slot or a Slalom pair is configured while its Slot Enable or Pair Enable
is TRUE (DESIGN CHOICE: the spec does not define the word, log entry 85); a slot of Monochrome 12 serves for depth only, any other for colour
only (R260). -/
def State.sourcesOk (s : State) (l : Layer) : Bool :=
  if l.kind = 1 then
    s.slotOn l.colour && s.get (slotK l.colour 3) != 3 && (l.depth == 0xFF || (s.slotOn l.depth && s.get (slotK l.depth 3) == 3))
  else if l.kind = 2 then
    s.camOn l.colour && (l.depth == 0xFF || (s.pairOn l.depth && s.get (pairK l.depth 2) == l.colour))
  else
    s.get (surfaceK l.colour 1) != 0 && decide (l.cropX + l.cropW ≤ s.get (surfaceK l.colour 2))
      && decide (l.cropY + l.cropH ≤ s.get (surfaceK l.colour 3))

/-- A safety region's binding (R82, reason 0x0A). -/
def bindingOk (d : Bytes) (mask : Nat) (r : Region) : Bool :=
  r.cls != 0 || r.bound == 0xFF ||
    (let l := layerOf d r.bound
     (l.kind == 1 || l.kind == 2) && bitOf mask r.bound && l.policy != 1 && l.substitute != 0xFF
       && decide (l.ageMs ≤ r.staleMs) && (l.policy != 0 || l.holdMs != 0))

/-- The checks of a present descriptor, in order (R82). -/
def State.validateDescriptor (s : State) (d : Bytes) (mask : Nat) : Option (Nat × Nat) :=
  let used := fun (n : Nat) => (layerOf d n).kind != 0
  let on := fun (n : Nat) => bitOf mask n
  let regs := regionsOf d
  let region := fun (n : Nat) => nth regs n ⟨0, 0, 0, 0, 1, 0xFF, 0⟩
  let target := fun (n : Nat) => (List.range 16).any fun m => on m && (layerOf d m).substitute == n && (layerOf d n).kind == 3
  let panel := s.nextPanel
  let safety := (List.range regs.length).filter fun n => (region n).cls == 0
  let outside := (List.range regs.length).filter fun n => decide (panel.1 < (region n).x1 ∨ panel.2 < (region n).y1)
  let ninth := (safety.drop 8).head?.toList
  let c2 := refuse 2 (firstBelow 16 fun n =>
    (if n < 8 then decide (2 < (layerOf d n).kind) else used n && (layerOf d n).kind != 3) || (on n && !used n))
  let c3 := refuse 3 (firstBelow 16 fun n => used n && (((layerOf d n).kind == 3 && (layerOf d n).geometry != 0)
    || ((layerOf d n).geometry == 2 && (layerOf d n).depth == 0xFF)))
  let c4 := refuse 4 (firstBelow 16 fun n => used n && (List.range 16).any fun m =>
    m != n && used m && (layerOf d m).rank == (layerOf d n).rank)
  let c5 := refuse 5 (firstBelow 16 fun n => (on n || target n) && !s.sourcesOk (layerOf d n))
  let c6 := refuse 6 (firstBelow 16 fun n => used n && !scaleOk (layerOf d n))
  let badDepth := firstBelow 16 fun n => used n && !depthOk d (layerOf d n)
  let c7 := refuse 7 (badDepth.orElse fun _ => (firstBelow (curveCount d) fun c => !knotsOrdered (knotsOf d c)).map (0x20 + ·))
  let c8 := refuse 8 (firstBelow 16 fun n => used n && (decide (65536 < (layerOf d n).opacity)
    || (decide (8 ≤ (layerOf d n).substitute ∧ (layerOf d n).substitute ≤ 15)
        && ((layerOf d n).substitute == n || (layerOf d (layerOf d n).substitute).kind != 3))))
  let c9 := refuse 9 ((firstBelow 16 fun n => outside.contains n || ninth.contains n).map (0x10 + ·))
  let cA := refuse 0xA ((firstBelow regs.length fun n => !bindingOk d mask (region n)).map (0x10 + ·))
  [c2, c3, c4, c5, c6, c7, c8, c9, cA].findSome? id

/-- The pending scene set, checked in the order of R82: the reason and item of a refusal. -/
def State.validate (s : State) : Option (Nat × Nat) :=
  let d := (lookup 0x400001 s.pendD).getD s.descriptor
  let mask := (lookup 0x400002 s.pendR).getD (s.get 0x400002)
  let t := fun (k : Nat) => (lookup k s.pendR).getD (s.get k)
  let t0 := t 0x410005
  let t1 := t 0x410006
  let t2 := t 0x410007
  if d.isEmpty && mask != 0 then some (1, 0xFF)
  else match (if d.isEmpty then none else s.validateDescriptor d mask) with
    | some r => some r
    | none => if 0x80 ≤ t0 ∧ t0 < t1 ∧ t1 < t2 ∧ t2 ≤ 0x2000 then none else some (0xB, 0xFF)

/-! ### Taking effect (R83, R90, R111, R137) -/

/-- 0x4200.0C is above its limit: function 0x9 is Degraded (R105). -/
def State.judgeDead (s : State) : State := s.follow (decide (s.get 0x42000D < s.deadLenslets)) 9 2

/-- The banks exchange (R109, R111, R113); what is derived from the active bank follows (R120). -/
def State.swapBanks (s : State) (epoch : Nat) : State :=
  let had := s.banks.active.isSome
  let s := { s with banks := { s.banks with active := some s.shadow, poisoned := [] } }
  let d := derive s.activeGeometry (entriesOf s.activeEntries)
  let s := ((s.put 0x41000B (unsigned 32 d.dX)).put 0x41000C (unsigned 32 d.dY)).put 0x41000D d.sMaxX
  let s := ((s.put 0x41000E d.sMaxY).put 0x41000F d.oMaxX).put 0x410010 d.oMaxY
  let id := fieldLE s.activeGeometry 24 4
  let bank := s.banks.active.getD 0
  let s := (((s.put 0x420002 bank).put 0x420003 (if had then 2 else 0)).put 0x42000A id).put 0x42000E epoch
  let s := s.beaconAdd 8 0 (leBytes 1 bank ++ [0, 0, 0] ++ leBytes 4 id ++ leBytes 4 s.mapCrc) []
  (if s.get 0x48000F = 0 then s else s.follow (s.get 0x48000F != s.bankArrangement) 9 1).judgeDead

/-- The objects whose change marks every tile (R137). -/
def markingKeys : List Nat := [0x410005, 0x410006, 0x410007, 0x410008, 0x410011, 0x410012, 0x410013, 0x410014]
def markingDoms : List Nat := [0x410001, 0x410002, 0x410003, 0x410004, 0x410009]

/-- A layer keeps its held content unless its kind or a source changed (R90); depth content stays with its source (R71). -/
def State.keepHeld (s : State) (old : Bytes) (n : Nat) : State :=
  let a := layerOf old n
  let b := s.layer n
  let s := if a.kind = b.kind ∧ a.colour = b.colour ∧ a.depth = b.depth then s
    else
      let s := s.setRun n { s.run n with notReadySince := none, heldAlloc := 0 }
      s.showNothing n
  if a.kind = b.kind ∧ a.geometry = b.geometry ∧ a.depth = b.depth then s
  else { s with media := { s.media with layerDepth := setNth s.media.layerDepth n [] } }

/-- Causes of safety windows that the epoch no longer holds leave their condition (R180). -/
def State.dropWindows (s : State) : State :=
  let gone := s.faults.standing.filter fun x => x.1 == 0xB && x.2.1 == 1
    && (s.safetyWindows (x.2.2 % 256)).all fun w => w.1 != x.2.2 / 256
  gone.foldl (fun s x => s.settle 0xB 1 x.2.2) { s with care := { s.care with windowsSet := false } }

/-- The pending set commits as an epoch at a tick (R83, R51). -/
def State.commitScene (s : State) (epoch tick : Nat) : State :=
  let old := s
  let views := s.views
  let swap := s.swapPending && s.usableOrHeld 9
  let s := s.applyPending fun k => sceneKey k && s.usableOrHeld (functionOf k)
  let s := s.put 0x400005 epoch
  let s := if swap then (s.put 0x420001 0).swapBanks epoch else s
  let s := (((s.put 0x400005 epoch).put 0x400009 tick).put 0x400004 0).put 0x40000B (sceneTag s.descriptor)
  let s := (s.put 0x400007 0).put 0x400008 0xFF
  let s := { s with scene := { s.scene with requested := false, refused := false } }
  let s := (List.range 16).foldl (fun s n => s.keepHeld old.descriptor n) s
  -- a witness view that is enabled or disabled begins its next buffer anew (R135); a new presentation mode holds from this frame (R182)
  let s := if old.get 0x410011 = s.get 0x410011 then s else { s with scene := { s.scene with witness := [], witnessFull := true } }
  let s := if old.get 0x490001 = s.get 0x490001 then s else { s with link := { s.link with modeFrom := s.get 0x285004 } }
  let back := fun (d : Bytes) => if d.isEmpty then [0, 0, 0] else [0, 1, 2].map (background d)
  let all := swap || markingKeys.any (fun k => old.get k != s.get k) || markingDoms.any (fun k => old.dom k != s.dom k)
    || back old.descriptor != back s.descriptor
  let s := s.dropWindows
  if all then s.markAll else s.markDiff views

/-- A commit is refused: nothing of the set takes effect, and it stays pending (R51, R82). -/
def State.refuseScene (s : State) (r : Nat × Nat) : State :=
  let s := (s.put 0x400007 r.1).put 0x400008 r.2
  { s with scene := { s.scene with requested := false, refused := true } }

/-- The number of the next epoch (R83). -/
def State.nextEpoch (s : State) : Nat := if s.get 0x400005 = 0xFFFFFFFF then 1 else s.get 0x400005 + 1

/-- The set commits if it passes validation. -/
def State.tryCommit (s : State) (epoch tick : Nat) : State :=
  match s.validate with
  | some r => s.refuseScene r
  | none => s.commitScene epoch tick

/-! ### Frame groups (R375, R376) -/

def State.grouped (s : State) : Bool := s.get 0x286001 == 1

/-- A group member holds: outcome 0x02, 0x03 or 0x04 with its cause; its request is withdrawn. -/
def State.groupHold (s : State) (outcome : Nat) : State :=
  let s := (s.put 0x28600A outcome).bump 0x40000A
  let s := { s with scene := { s.scene with requested := false }, net := { s.net with group := {} } }
  s.onset 0xD (if outcome = 3 then 6 else 5)

/-- A group member commits: its commit number is recorded and causes 0x05 and 0x06 clear. -/
def State.groupCommit (s : State) (epoch tick : Nat) : State :=
  let s := (s.commitScene epoch tick).put 0x286009 (s.get 0x286008)
  let s := { s.put 0x28600A 1 with net := { s.net with group := {} } }
  (s.settleAll 0xD 5).settleAll 0xD 6

/-- The other members that hold-all misses: none of their ready frames has come in time, or a not-ready one has (R376). -/
def State.groupMissing (s : State) : List Nat :=
  (List.range (s.get 0x286004)).filter fun m =>
    m != s.get 0x286003 && (!s.net.group.ready.contains m || s.net.group.notReady.contains m)

/-- 0x2860.0B is settled (R376). -/
def State.groupSettle (s : State) : State :=
  let missing := s.groupMissing
  s.putDom 0x28600B ((List.range 128).map fun i => BitVec.ofNat 8 (bitmapBelow 8 fun j => missing.contains (8 * i + j)))

/-- What the policy makes of the instant: 1 commit, 2 not ready itself, 3 others missing, 4 passed at the request (R376). -/
def State.groupOutcome (s : State) : Nat :=
  if s.get 0x286005 = 1 then
    if s.net.group.decided != some true || s.net.group.turned then 2
    else if s.groupMissing.isEmpty then 1 else 3
  else if s.scene.lastWrite + 1000000 ≤ s.now ∧ s.usableOrHeld 9 then 1 else 2

/-- The group instant T: the first tick at or after Commit Time (R376). -/
def State.groupInstant (s : State) : Nat := s.tickTime (s.tickFrom (s.get 0x400004))

/-- The group instant has come (R376). A group commit never moves to a later tick: where T itself was skipped, the member holds, its instant
passed. DESIGN CHOICE (log entry 34). -/
def State.groupTick (s : State) (tick : Nat) : State :=
  if s.groupInstant < tick then s.groupHold 4
  else match s.validate with
  | some r => (s.groupHold 2).refuseScene r
  | none =>
    match s.groupOutcome with
    | 1 => s.groupCommit s.nextEpoch tick
    | 3 => s.groupSettle.groupHold 3
    | o => s.groupHold o

/-! ### Commits at a tick (R84, R85, R395) -/

/-- The twin is told of a commit decision: epoch, scene tag, tick, group outcome (R385). -/
def State.announceCommit (s : State) : State :=
  if s.pair.role != 1 || !s.scene.requested || s.validate.isSome then s
  else
    let ct := s.get 0x400004
    let k := s.tickFrom (if s.grouped then ct else max ct (s.ptp + 1000000))
    let tag := sceneTag ((lookup 0x400001 s.pendD).getD s.descriptor)
    -- under policy 0x00 the outcome is that of T: a write less than 1 ms before it makes the member hold (R376)
    let outcome := if !s.grouped then 0 else if s.get 0x286005 = 1 then s.groupOutcome
      else if s.scene.lastWrite + s.ptp + 1000000 ≤ s.now + s.tickTime k then 1 else 2
    s.twinSend 4 0 (leBytes 4 s.nextEpoch ++ leBytes 4 tag ++ leBytes 8 (s.tickTime k) ++ leBytes 1 outcome)

/-- The standby's commit at a tick that a COMMIT names, or its hold: in a group it records the outcome as the active does (R375, R376,
R395). -/
def State.standbyCommit (s : State) (tick : Nat) : State :=
  match s.pair.commitFor with
  | none => s
  | some (epoch, _, at_, outcome) =>
    if tick < at_ then s
    else
      let s := { s with pair := { s.pair with commitFor := none } }
      if s.grouped then
        if at_ < tick then s.groupHold 4
        else if 2 ≤ outcome then (if outcome = 3 then s.groupSettle else s).groupHold outcome
        else match s.validate with
          | some r => (s.groupHold 2).refuseScene r
          | none => s.groupCommit epoch tick
      else if at_ < tick ∨ 2 ≤ outcome then s else s.tryCommit epoch tick

/-- The commit work of a tick: `prev` is the instant of the tick before (R84, R85, R376, R395). -/
def State.commitAtTick (s : State) (prev tick : Nat) : State :=
  let ct := s.get 0x400004
  -- a new active first applies the COMMIT that it received as standby (R392)
  if (s.standby && s.pair.role == 2) || (s.acting && s.pair.commitFor.isSome) then s.standbyCommit tick
  else if !s.scene.requested || decide (tick < ct) then s
  else if s.grouped then s.groupTick tick
  else if s.scene.lastWrite + 1000000 ≤ s.now ∧ s.scene.requestAt + 1000000 ≤ s.now ∧ s.usableOrHeld 9 then
    s.tryCommit s.nextEpoch tick
  else if ct ≠ 0 ∧ prev < ct then s.bump 0x40000A
  else s

end Sys2Proof.Machine
end

