-- ==== Sys2Proof/Machine/Frame.lean ====
section
/-!
DEFINITION. Sys2Proof/Machine/Frame.lean: the content-frame tick (R367, R368) with the energy budget and what Lift takes
(R351 to R354), and the events between ticks that change what a layer shows (R89, R91, R92).
-/

namespace Sys2Proof.Machine

/-! ### The energy budget (R351 to R354) -/

/-- B, in µJ: the mean measured power of the last frame less its tile work, or the power at the tick where there was no
such frame (R351). -/
def State.grant (s : State) : Nat :=
  let n : Int := s.frameNum
  let d : Int := s.frameDen
  let have_ := s.lift.haveFrame && s.lift.powerCount != 0
  let cnt : Int := if have_ then s.lift.powerCount else 1
  let sum : Int := if have_ then s.lift.powerSum else s.get 0x211004
  let pj : Int := if have_ then s.lift.framePj else 0
  ((((s.get 0x211002 : Int) * cnt - sum) * 1000000000 * d + pj * cnt * n) / (cnt * n * 1000000)).toNat

/-- Safety regions bound to cameras, with the frames expected before the next tick, rounded up (R353). -/
def State.boundRegions (s : State) : List (Region × Nat) :=
  (s.safetyRegions.filter fun r => decide (r.bound < 16) && s.layerOn r.bound && (s.layer r.bound).kind == 2).map fun r =>
    let p := max 1 (s.period (s.layer r.bound).colour)
    (r, (s.framePeriod + p - 1) / p)

/-- Changed tiles of a class, the longest marked first, then the lower number. -/
def insertMark (x : Nat × Nat) : List (Nat × Nat) → List (Nat × Nat)
  | [] => [x]
  | y :: ys => if x.2 < y.2 ∨ (x.2 = y.2 ∧ x.1 ≤ y.1) then x :: y :: ys else y :: insertMark x ys

def State.changedOf (s : State) (c : Nat) : List Nat :=
  ((s.scene.changed.filter fun p => s.classOf p.1 == c).foldl (fun l x => insertMark x l) []).map (·.1)

/-- Tiles are taken in order until the next one would exceed the energy or the clocks left: what is taken, what is left of
both, and whether it stopped. -/
def takeTiles (cost clocks : Nat → Nat) : List Nat → Nat → Nat → List Nat × Nat × Nat × Bool
  | [], pj, ck => ([], pj, ck, false)
  | t :: ts, pj, ck =>
    if cost t ≤ pj ∧ clocks t ≤ ck then
      let r := takeTiles cost clocks ts (pj - cost t) (ck - clocks t)
      (t :: r.1, r.2)
    else ([], pj, ck, true)

/-- 0x2500.11 after a tick's taking of tiles: the age in ms of the oldest of the changed marks that stand, 0 where none does (R357). -/
def State.putOldest (s : State) (marks : List (Nat × Nat)) : State :=
  let age := match marks with | [] => 0 | p :: ps => s.now - ps.foldl (fun m q => min m q.2) p.2
  s.put 0x250011 (looseDiv (age : Nat) 1000000).toNat

/-- A standby's tick: it renders no changed tiles, keeps no marks, and has no tile work in the frame that begins (R350, R351). -/
def State.standbyFrame (s : State) : State :=
  ({ s with
    scene := { s.scene with changed := [], taken := [] }
    lift := { s.lift with powerSum := 0, powerCount := 0, framePj := 0 } }).putOldest []

/-- The grant of a frame, and the tiles that Lift takes for it (R351, R353, R354). -/
def State.grantFrame (s : State) : State :=
  if s.power.phase != .run then { s with scene := { s.scene with taken := [] } }.putOldest s.scene.changed
  else
    let b := s.grant
    let safety := s.changedOf 0
    let again := s.boundRegions.flatMap fun p => (s.regionTiles p.1).flatMap fun t => List.replicate p.2 t
    let reserve := (safety ++ again).foldl (fun n t => n + s.tileCost t) 0
    let used := (safety ++ again).foldl (fun n t => n + s.tileClocks t) 0
    let fits := decide (reserve ≤ b * 1000000)
    let clocks := s.activeCarvers.length * s.get 0x211006 * 1000000 * s.frameDen / s.frameNum
    let none_ : List Nat × Nat × Nat × Bool := ([], 0, 0, true)
    let normal := if fits then takeTiles s.tileCost s.tileClocks (s.changedOf 1) (b * 1000000 - reserve) (clocks - used) else none_
    -- background is deferred before normal (R19)
    let back := if fits && !normal.2.2.2 then takeTiles s.tileCost s.tileClocks (s.changedOf 2) normal.2.1 normal.2.2.1 else none_
    let taken := safety ++ normal.1 ++ back.1
    let left := s.scene.changed.filter fun p => !taken.contains p.1
    let s := { s with
      scene := { s.scene with taken }
      lift := { s.lift with powerSum := 0, powerCount := 0, framePj := 0, haveFrame := true } }
    let s := ((s.put 0x25000C b).put 0x25000E (looseDiv (reserve : Nat) 1000000).toNat)
    let s := (s.put 0x25000F ((s.changedOf 1).length - normal.1.length)).put 0x250010 ((s.changedOf 2).length - back.1.length)
    (s.putOldest left).follow (!fits) 3 3

/-! ### The tick -/

/-- 0x4800.17: symbol times of packets as a percentage of those that the usable capacity gives a content frame, 1,020 in every 1,024
of 625 ps (R141, R169). -/
def State.utilisation (s : State) : Nat :=
  min 255 (looseDiv ((s.link.frameSymbols * 625 * 1024 * 100 : Nat)) (1020 * 1000 * s.framePeriod : Nat)).toNat

/-- What the last frame leaves in the objects that count by frame (R133, R136, R169, R357). -/
def State.publishFrame (s : State) : State :=
  let s := ((s.put 0x410016 s.scene.skips.length).put 0x410017 s.scene.halfRate.length).put 0x480017 s.utilisation
  let s := s.put 0x25000D (looseDiv (s.lift.framePj : Nat) 1000000).toNat
  { s with
    scene := { s.scene with skips := [], halfRate := [], rendered := [] }
    link := { s.link with frameSymbols := 0 } }

/-- CHANGED: the bitmap of tiles marked changed and not yet claimed (R350). -/
def State.sendChanged (s : State) : State :=
  if s.pair.role != 1 then s
  else
    let n := s.tileTotal
    let bytes : Bytes := (List.range ((n + 7) / 8)).map fun i =>
      BitVec.ofNat 8 (bitmapBelow 8 fun j => s.scene.changed.any fun c => c.1 == 8 * i + j)
    s.twinChunks 3 (bytes.length / 3840 + 1) 0 bytes

/-- A tick: its PTP time, its frame number, and the local time at which it falls. -/
structure Tick where
  time : Nat
  number : Nat
  at_ : Nat
  deriving DecidableEq, Repr

/-- Local time of a PTP time that has come. -/
def State.localOf (s : State) (time : Nat) : Nat := s.now - (s.ptp - time)

/-- The least local time at which a tick may follow the latest: half a period after it, in whole nanoseconds (R368). -/
def State.apartFrom (s : State) (l : Nat) : Nat := l + (s.frameDen * 1000000000 + 2 * s.frameNum - 1) / (2 * s.frameNum)

/-- The tick of PTP time that is due: the first T_k after the time from which ticks are sought, and half a period after the latest tick (R367,
R368). Before any tick it is the latest that has come. -/
def State.timedTick (s : State) : Option Tick :=
  let tick (k : Nat) : Tick := { time := s.tickTime k, number := k % 2 ^ 32, at_ := s.localOf (s.tickTime k) }
  let apart := s.net.lastTickLocal.map fun l => s.ptp + s.apartFrom l - s.now
  match s.net.tickAfter, apart with
  | none, none => (s.tickBefore s.ptp).map tick
  | after, apart =>
    let k := s.tickFrom (max ((after.map (· + 1)).getD 0) (apart.getD 0))
    if s.tickTime k ≤ s.ptp then some (tick k) else none

/-- The tick on frame-lock pulses that is due: at an accepted edge plus φ, or one period after the latest tick (R369). Before any tick it falls
at once. -/
def State.lockedTick (s : State) : Option Tick :=
  let at_ : Option Nat := match s.net.lastTickLocal with
    | none => some s.now
    | some l =>
      let e : Int := (s.net.lastEdge : Int) + s.geti 32 0x285002
      let expected := s.net.lateEdge.getD l + s.framePeriod
      if (s.apartFrom l : Int) ≤ e ∧ e ≤ s.now then some e.toNat else if expected ≤ s.now then some expected else none
  at_.map fun x => { time := s.ptp - (s.now - x), number := (s.get 0x285004 + 1) % 2 ^ 32, at_ := x }

/-- The tick that is due. -/
def State.tickNow (s : State) : Option Tick := if s.get 0x285003 = 0 then s.timedTick else s.lockedTick

/-- The tick is noted: where the next is sought from, and what timed outputs follow on frame-lock pulses (R368, R373). -/
def State.noteTick (s : State) (k : Tick) : State :=
  { s with net := { s.net with
      lastTickLocal := some k.at_, tickAfter := some k.time, lateEdge := none
      lockTicks := if s.get 0x285003 = 0 then [] else k.time :: s.net.lockTicks.take 271 } }

/-- The drops of datagrams that no fault has told are told (R361). DESIGN CHOICE (log entry 31): at a content-frame tick. -/
def State.tellDrops (s : State) : State :=
  s.tx.untold.foldl (fun (s : State) mac => s.raise 0xD 8 mac) { s with tx := { s.tx with untold := [] } }

/-- The frame's work (R367 and what 95_what_each_step_holds.md lists within it). -/
def State.frameTick (s : State) (k : Tick) : State :=
  let tick := k.time
  let number := k.number
  let prev := s.get 0x285005
  let s := (s.missWitness prev).tellDrops
  let s := ((s.put 0x285004 number).put 0x285005 tick).noteTick k
  let s := let r := s.enterRun; if s.power.phase = .hold ∧ r.power.phase = .run then r.applyLevel else r.applyCap
  let before := s
  let s := (s.closeChecks.publishFrame).commitAtTick prev tick
  let views := s.views
  let s := (((s.judge tick before).unstale).markDiff views).markLater
  let s := if s.standby then s.standbyFrame else s.grantFrame
  let idle := s.link.toPresent.isEmpty
  let s := if s.linkSends then { s with link := { s.link with toPresent := s.link.toPresent ++ [number] } } else s
  let s := s.latchBands number
  let s := if s.link.atomic then s else s.sendBand number
  let s := if idle || !s.linkUp then s.startChecks number else { s with care := { s.care with dueChecks := s.care.dueChecks ++ [number] } }
  (s.settleRole 0).sendChanged

/-- The timer runs in Run and Hold (R367). -/
def State.contentTick (s : State) : State :=
  if !(s.power.phase == .run || s.power.phase == .hold) then s
  else match s.tickNow with
    | some k => s.frameTick k
    | none => s

/-! ### Between ticks (R89, R91, R92) -/

/-- A holding layer's limit has passed: it is replaced (R89). -/
def State.expireHold (s : State) (n : Nat) : State :=
  let r := s.run n
  match r.notReadySince with
  | none => s
  | some since =>
    if s.layerOn n && r.state == 2 && s.policyState n since s.ptp != 2 then (s.judgeTargets s.ptp s).markDiff s.views else s

/-- The frame is the one that a layer position already shows. -/
def State.showsFrame (s : State) (n : Nat) (pic : Picture) : Bool :=
  match nth s.media.shown n none with
  | some q => q.seq == pic.seq && q.endTime == pic.endTime && (s.run n).notReadySince.isNone
  | none => false

/-- A layer bound to a safety region takes a new complete frame at once; the region's tiles are rendered again (R91, R353), while others
show what it showed at the tick (R88), where it was ready then. -/
def State.rerenderLayer (s : State) (p n : Nat) : State :=
  match s.pickVideo n s.ptp with
  | none => s
  | some (pic, d) =>
    if s.showsFrame n pic then s
    else
      let early := nth s.media.tickShown n none
      let old := if (s.run n).notReadySince.isSome then none
        else some (early.getD (nth s.media.shown n none, nth s.media.shownDepth n none))
      let s : State := { s with media := { s.media with tickShown := setNth s.media.tickShown n old } }
      let s := (s.showLayer n (some (pic, d))).measureFrame p n pic
      let tiles := (s.safetyRegions.filter fun r => r.bound == n).flatMap s.regionTiles
      if s.acting then
        let s := s.mark tiles
        { s with
          scene := { s.scene with taken := s.scene.taken ++ tiles.eraseDups.filter fun t => !s.scene.taken.contains t }
          link := { s.link with rerendered := if s.link.atomic then (s.link.rerendered ++ tiles).eraseDups else [] } }
      else s

/-- The re-render of a camera port's bound layers (R91). Holding, substitution and staleness end at once (R89, R92); the other tiles
that the layers reach, and those that a substitute or fill plane leaves, follow at the next tick (R88). -/
def State.rerender (s : State) (p : Nat) : State :=
  let bound := (List.range 8).filter fun n => s.layerOn n && (s.layer n).kind == 2 && (s.layer n).colour == p
    && s.safetyRegions.any fun r => r.bound == n
  if !(s.power.phase == .run && s.usable 9) then s
  else
    let after := ((bound.foldl (fun s n => s.rerenderLayer p n) s).judgeTargets s.ptp s).unstale
    let tiles := after.diffTiles s.views
    { after with scene := { after.scene with later := after.scene.later ++ tiles.filter fun t => !after.scene.later.contains t } }

/-! ### The commands' meanings -/

/-- FRAME_START (R202): ports are 0 to 7. A layer whose sequence advances is stale no longer (R92). -/
def execFrameStart (t port frameNumber : Nat) (s : State) : Host.Outcome State Fault Refusal :=
  actIf (port < 8) t s fun s => (s.startFrame port frameNumber).unstale

/-- PICTURE_DECODE (R261): slots are 0 to 31. A picture that keeps its budget ends a run of overruns (R262); a layer whose sequence
advances is stale no longer (R92). -/
def execPictureDecode (t slot : Nat) (unit : AccessUnit) (s : State) : Host.Outcome State Fault Refusal :=
  actIf (slot < 32) t s fun s => (s.decodePicture slot unit).unstale

/-- CYCLE_BUDGET_OVERRUN (R262). -/
def execCycleBudgetOverrun (t slot : Nat) (unit : AccessUnit) (goodCtus : Nat) (s : State) : Host.Outcome State Fault Refusal :=
  actIf (slot < 32) t s fun s => (s.overrun slot unit goodCtus).unstale

/-- HOLD_LIMIT_EXPIRY (R89): layer positions are 0 to 15. -/
def execHoldLimitExpiry (t layer : Nat) (s : State) : Host.Outcome State Fault Refusal :=
  actIf (layer < 16) t s fun s => s.expireHold layer

/-- LAYER_STALE (R92). -/
def execLayerStale (t layer : Nat) (s : State) : Host.Outcome State Fault Refusal :=
  actIf (layer < 16) t s fun s => s.staleLayer layer

/-- SAFETY_RERENDER (R91): ports are 0 to 7. -/
def execSafetyRerender (t port : Nat) (s : State) : Host.Outcome State Fault Refusal :=
  actIf (port < 8) t s fun s => s.rerender port

end Sys2Proof.Machine
end

