-- ==== Sys2Proof/Machine/Blitter.lean ====
section
/-!
DEFINITION. Sys2Proof/Machine/Blitter.lean: graphic surfaces (R73, R75, R76) and the blitter that draws on them (R287 to
R296).
-/

namespace Sys2Proof.Machine

/-! ### Surfaces (R75, R76) -/

def State.surfaceSize (s : State) (n : Nat) : Nat × Nat := (s.get (surfaceK n 2), s.get (surfaceK n 3))

/-- Bytes of a surface's content; 0 while it is free. -/
def State.surfaceBytes (s : State) (n : Nat) : Nat :=
  let f := s.get (surfaceK n 1)
  if f = 0 then 0 else (s.surfaceSize n).1 * (s.surfaceSize n).2 * texelBytes f

/-- Chunks of 64 KiB that a surface takes (R76). -/
def State.surfaceChunks (s : State) (n : Nat) : Nat := (s.surfaceBytes n + 65535) / 65536

/-- Chunks of the pool that are not allocated, a surface's own apart (R76). -/
def State.poolFree (s : State) (except : Nat) : Nat :=
  s.get 0x40000C * 16 - ((List.range 64).filter fun n => n != except).foldl (fun a n => a + s.surfaceChunks n) 0

/-- 0x4000.0D. -/
def State.poolFreeMiB (s : State) : Nat := s.poolFree 64 / 16

/-- A graphic layer of the epoch in force or of the pending one uses a surface (R76). -/
def State.surfaceUsed (s : State) (n : Nat) : Bool :=
  let uses := fun (d : Bytes) => (List.range 16).any fun m => (layerOf d m).kind == 3 && (layerOf d m).colour == n
  uses s.descriptor || uses ((lookup 0x400001 s.pendD).getD [])

/-- A running or paused list names a surface, or a flat output has it latched or staged under a pending commit (R296). -/
def State.surfaceHeld (s : State) (n : Nat) : Bool :=
  let named := (s.get 0x430002 == 1 || s.get 0x430002 == 2)
    && s.media.blitter.list.any fun c => (byteAt c 0 == 1 && byteAt c 2 == n) || (byteAt c 0 != 3 && byteAt c 3 == n)
  named || [0, 1].any fun k =>
    (match (s.flat k).latched with | some (src, surf, _) => src == 0 && surf == n | none => false)
      || ((s.flat k).scanCommit && s.readBack (flatK k 6) == 0 && s.readBack (flatK k 7) == n)

/-- A write of 0x4080.01 + n: the abort code, 0 where it is accepted (R76, R296). -/
def State.formatRefusal (s : State) (n v : Nat) : Nat :=
  let x := s.surface n
  let need := ((s.surfaceSize n).1 * (s.surfaceSize n).2 * texelBytes v + 65535) / 65536
  if s.surfaceUsed n || s.surfaceHeld n then 0x08000022
  else if v != 0 && s.get (surfaceK n 1) == 0 && !(x.widthSet && x.heightSet) then 0x08000022
  else if v != 0 && decide (s.poolFree n < need) then 0x06090030
  else 0

/-- The accepted write: a surface is allocated with undefined texels, or freed (R75, R76). -/
def State.setFormat (s : State) (n v : Nat) : State :=
  let x := s.surface n
  let s := s.freeChunks x.places
  let s := (s.put (surfaceK n 1) v).put (surfaceK n 5) 0
  let new : Surface := { x with places := [], allocations := x.allocations + 1, notOpaque := [], holes := [] }
  if v = 0 then { s.setSurface n new with doms := eraseKey (surfaceK n 4) s.doms }
  else
    let (s, d) := s.draw
    let s := s.putDom (surfaceK n 4) (leBytes (s.surfaceBytes n) d)
    match placeChunks (s.surfaceChunks n) [] s with
    | some (s, on) => s.setSurface n { new with places := on }
    | none => s.setSurface n new

/-- A write of a width or height: only while the surface is free (R75, R76). -/
def State.setExtent (s : State) (n sub v : Nat) : State :=
  let x := s.surface n
  (s.put (surfaceK n sub) v).setSurface n (if sub = 2 then { x with widthSet := true } else { x with heightSet := true })

/-- Content written by the host (R75, R76): tiles that the surface reaches are marked changed. -/
def State.setContent (s : State) (n : Nat) (b : Bytes) : State :=
  let before := s.views
  let s := (s.putDom (surfaceK n 4) b).put (surfaceK n 5) 1
  (s.setSurface n { s.surface n with notOpaque := [], holes := [] }).markDiff before

/-! ### The content check (R288 to R290) -/

/-- source_of of R289. -/
def Blit.sourceOf (c : Blit) (i j : Nat) : Nat × Nat :=
  let p := match c.rot with
    | 0 => (i, j)
    | 1 => (j, c.h - 1 - i)
    | 2 => (c.w - 1 - i, c.h - 1 - j)
    | _ => (c.w - 1 - j, i)
  (c.srcX + (if c.mirror then c.w - 1 - p.1 else p.1), c.srcY + p.2)

/-- Two rectangles share a texel. -/
def rectsMeet (x y w h x' y' w' h' : Nat) : Bool := decide (x < x' + w' ∧ x' < x + w ∧ y < y' + h' ∧ y' < y + h)

/-- One command passes R288's encodings and R290's rules. -/
def State.blitOk (s : State) (b : Bytes) : Bool :=
  let c := blitOf b
  let fits := fun (n x y w h : Nat) =>
    s.get (surfaceK n 1) != 0 && decide (x + w ≤ (s.surfaceSize n).1) && decide (y + h ≤ (s.surfaceSize n).2)
  let plain := decide (byteAt b 1 < 32) && zeroBytes (b.drop 24)
  if c.op = 1 then
    plain && decide (c.src < 64 ∧ c.dst < 64 ∧ 1 ≤ c.w ∧ 1 ≤ c.h ∧ 1 ≤ c.mark) && c.wait == 0
      && (c.chase ≤ 1 || c.chase == 0xFF) && fits c.src c.srcX c.srcY c.w c.h && fits c.dst c.dstX c.dstY c.dstW c.dstH
      && s.get (surfaceK c.src 1) == s.get (surfaceK c.dst 1)
      && !((c.rot != 0 || c.mirror) && (c.xDir || c.yDir))
      && !((c.rot != 0 || c.mirror) && c.src == c.dst && rectsMeet c.srcX c.srcY c.w c.h c.dstX c.dstY c.dstW c.dstH)
  else if c.op = 2 then
    plain && byteAt b 1 == 0 && c.src == 0xFF && decide (c.dst < 64 ∧ 1 ≤ c.w ∧ 1 ≤ c.h ∧ 1 ≤ c.mark) && c.wait == 0
      && (c.chase ≤ 1 || c.chase == 0xFF) && fits c.dst c.dstX c.dstY c.w c.h
  else
    c.op == 3 && plain && !((c.rot != 0 || c.mirror) && (c.xDir || c.yDir)) && c.src == 0xFF && c.dst == 0xFF && decide (c.wait ≤ 1)
      && decide (c.mark < timingVTotal (s.dom (flatK c.wait 4)))

/-- The content check of a list (R55, R288, R290). -/
def State.listOk (s : State) (b : Bytes) : Bool :=
  let n := fieldLE b 4 2
  fieldLE b 0 2 == 0x4C42 && byteAt b 2 == 1 && byteAt b 3 == 0 && fieldLE b 6 2 == 0 && decide (1 ≤ n ∧ n ≤ 256)
    && b.length == 8 + 32 * n && (cutBlocks 32 n (b.drop 8)).all s.blitOk

/-- A list starts, or waits as a paused one until function 0xC is usable (R61, R287). -/
def State.startList (s : State) (b : Bytes) : State :=
  let list := cutBlocks 32 (fieldLE b 4 2) (b.drop 8)
  let s := ((s.put 0x430002 (if s.usable 0xC then 1 else 2)).put 0x430003 0).put 0x430005 0
  ({ s.putDom 0x430004 [] with media := { s.media with blitter := { list } } }).reachBlit

/-! ### Steps (R291 to R295) -/

/-- A component reduced to n bits (R289). -/
def reduce8 (n v : Nat) : Nat := (v * (2 ^ n - 1) + 127) / 255

/-- The word of a fill colour in a format (R73, R289). -/
def fillWord (format argb : Nat) : Nat :=
  let k := fun (i : Nat) => argb / 256 ^ i % 256
  match format with
  | 1 => reduce8 5 (k 2) * 2048 + reduce8 6 (k 1) * 32 + reduce8 5 (k 0)
  | 2 => reduce8 4 (k 3) * 4096 + reduce8 4 (k 2) * 256 + reduce8 4 (k 1) * 16 + reduce8 4 (k 0)
  | 3 => k 2 * 65536 + k 1 * 256 + k 0
  | 4 => argb
  | _ => reduce8 2 (k 3) * 2 ^ 30 + reduce8 10 (k 2) * 2 ^ 20 + reduce8 10 (k 1) * 2 ^ 10 + reduce8 10 (k 0)

/-- The n-th destination texel in the order of R291, as column and row of the destination rectangle. -/
def Blit.nth (c : Blit) (n : Nat) : Nat × Nat :=
  let i := n % c.dstW
  let j := n / c.dstW
  if c.op = 1 ∧ c.rot = 0 ∧ !c.mirror then (if c.xDir then c.w - 1 - i else i, if c.yDir then c.h - 1 - j else j) else (i, j)

/-- One texel is written; its source is read after every earlier assignment (R291). -/
def State.blitTexel (s : State) (c : Blit) (n : Nat) : State :=
  let p := c.nth n
  let f := s.get (surfaceK c.dst 1)
  let bpp := texelBytes f
  let content := s.dom (surfaceK c.dst 4)
  let word :=
    if c.op = 1 then
      let q := c.sourceOf p.1 p.2
      surfaceWord (s.dom (surfaceK c.src 4)) f (s.surfaceSize c.src).1 q.1 q.2
    else fillWord f c.colour
  let o := ((c.dstY + p.2) * (s.surfaceSize c.dst).1 + (c.dstX + p.1)) * bpp
  s.putDom (surfaceK c.dst 4) (content.take o ++ leBytes bpp word ++ content.drop (o + bpp))

/-- The output that a command chases is running (R294, R295). -/
def State.chases (s : State) (c : Blit) : Bool := c.chase != 0xFF && s.flatRuns c.chase

/-- A chasing command may write a row while the fetch line has passed it (R294). -/
def State.rowFree (s : State) (c : Blit) (fetch row : Nat) : Bool :=
  !s.chases c ||
    (match (s.flat c.chase).latched with
     | some (0, surf, _, oy, _) =>
       let vActive := timingField (s.dom (flatK c.chase 4)) 4
       surf != c.dst || decide (row < oy) || decide (oy + vActive ≤ row) || decide (row < fetch + oy)
     | _ => true)

/-- Texels of the next step: at most 16,384, up to the first row that must wait. -/
def State.stepTexels (s : State) (c : Blit) (fetch : Nat) : List Nat :=
  let first := s.media.blitter.done
  let all := (List.range (min 16384 (c.dstW * c.dstH - first))).map (first + ·)
  all.takeWhile fun n => s.rowFree c fetch (c.dstY + (c.nth n).2)

/-- The tiles that read a rectangle of a surface. -/
def State.readers (s : State) (n x y w h : Nat) : List Nat :=
  (s.views.filter fun v => v.l.kind == 3 && !v.fill && v.l.colour == n && rectsMeet x y w h v.l.cropX v.l.cropY v.l.cropW v.l.cropH).flatMap fun v =>
    let x0 := max x v.l.cropX
    let y0 := max y v.l.cropY
    let x1 := min (x + w) (v.l.cropX + v.l.cropW)
    let y1 := min (y + h) (v.l.cropY + v.l.cropH)
    s.reach { v with l := { v.l with
      destX := v.l.destX + ((x0 - v.l.cropX) * 4096 : Nat), destY := v.l.destY + ((y0 - v.l.cropY) * 4096 : Nat)
      destW := (x1 - x0) * 4096, destH := (y1 - y0) * 4096, cropX := x0, cropY := y0, cropW := x1 - x0, cropH := y1 - y0 } }

/-- The place in the order of R291 of the destination texel in column i and row j: the converse of `Blit.nth`. -/
def Blit.rank (c : Blit) (i j : Nat) : Nat :=
  if c.op = 1 ∧ c.rot = 0 ∧ !c.mirror then (if c.yDir then c.h - 1 - j else j) * c.dstW + (if c.xDir then c.w - 1 - i else i)
  else j * c.dstW + i

/-- A step of a command, from one count of texels written to another, rewrites a texel of its surface, given by raster number. -/
def State.rewritesTexel (s : State) (c : Blit) (before done n : Nat) : Bool :=
  let x := n % (s.surfaceSize c.dst).1
  let y := n / (s.surfaceSize c.dst).1
  let at_ := c.rank (x - c.dstX) (y - c.dstY)
  decide (c.dstX ≤ x ∧ x < c.dstX + c.dstW ∧ c.dstY ≤ y ∧ y < c.dstY + c.dstH ∧ before ≤ at_ ∧ at_ < done)

/-- The flags after a step (R293, R329): texels it has rewritten are poisoned no longer, and a block is flagged until every poisoned texel
of it has been rewritten, by one command or several. -/
def State.liftFlags (s : State) (c : Blit) (before : Nat) : State :=
  let x := s.surface c.dst
  let w := (s.surfaceSize c.dst).1
  let holes := x.holes.filter fun n => !s.rewritesTexel c before s.media.blitter.done n
  s.setSurface c.dst { x with holes, notOpaque := x.notOpaque.filter fun b => holes.any fun n => blockOfTexel w n == b }

/-- A COPY or FILL has written its last texel: its surface is written, and the command ends (R293). -/
def State.endDraw (s : State) (c : Blit) : State := (s.put (surfaceK c.dst 5) 1).endBlit false

/-- One step of a COPY or FILL (R293, R294): it waits while a carver renders a tile that reads its rectangle. -/
def State.blitStep (s : State) (fetch : Nat) : State :=
  match s.blit with
  | none => s
  | some c =>
    if c.op = 3 then s
    else
      let s := if s.media.blitter.done = 0 && c.chase != 0xFF && !s.flatRuns c.chase then
          { s with media := { s.media with blitter := { s.media.blitter with chaseFlag := true } } }
        else s
      let texels := s.stepTexels c fetch
      let rows := texels.map fun n => (c.nth n).2
      let lo := rows.foldl min (rows.headD 0)
      let hi := rows.foldl max 0
      let readers := s.readers c.dst c.dstX (c.dstY + lo) c.dstW (hi + 1 - lo)
      let busy := s.lift.carvers.any fun k => match k.band with
        | some b => b.tiles.any fun t => readers.contains t.1
        | none => false
      if texels.isEmpty then s
      else if busy then
        if s.media.blitter.waited then s
        else { s.bump 0x430008 with media := { s.media with blitter := { s.media.blitter with waited := true } } }
      else
        let s := (texels.foldl (fun s n => s.blitTexel c n) s).mark readers
        let before := s.media.blitter.done
        let done := before + texels.length
        let complete := done / c.dstW
        let reached := c.mark != 0xFFFF && decide (c.mark ≤ complete) && s.media.blitter.watermark == 0
        let s : State := { s with media := { s.media with blitter := { s.media.blitter with
            done, waited := false, watermark := if reached then s.ptp else s.media.blitter.watermark } } }
        let s := (s.put 0x430005 (65536 * s.media.blitter.current + complete)).liftFlags c before
        if done = c.dstW * c.dstH then s.endDraw c else s

/-- A whole command is drawn, step after step, as far as no tile and no fetch line holds it up. -/
def drawSteps (fetch : Nat) : Nat → Nat → State → State
  | 0, _, s => s
  | n + 1, current, s =>
    if s.media.blitter.list.isEmpty || s.media.blitter.current != current then s
    else
      let s' := s.blitStep fetch
      if s'.media.blitter.done = s.media.blitter.done then s' else drawSteps fetch n current s'

/-- COPY or FILL as the current command, the fetch line of its chase output given (R294). -/
def State.draw_ (s : State) (op fetch : Nat) : State :=
  match s.blit with
  | none => s
  | some c => if c.op = op then drawSteps fetch (c.dstW * c.dstH / 16384 + 2) s.media.blitter.current s else s

/-- The output of a WAIT LINE that is under way begins to scan a line (R289). -/
def State.waitLine (s : State) (line : Nat) : State :=
  match s.blit with
  | none => s
  | some c => if c.op = 3 ∧ s.flatRuns c.wait ∧ line = c.mark then s.endBlit false else s

/-- The blitter is out of use until a full reset (R307). -/
def State.failBlitter (s : State) : State :=
  if s.get 0x430007 = 0 then s
  else
    let s := s.put 0x430007 0
    let s := if s.get 0x430002 = 1 ∨ s.get 0x430002 = 2 then s.put 0x430002 4 else s
    let s := { s with media := { s.media with blitter := {} } }
    s.raiseCore 0xC 1 0 (if s.flatRuns 0 || s.flatRuns 1 then .degraded else .failed)

/-! ### Pixels sent (R300) -/

/-- The background colour in force on a line: a written one takes effect from the next line (R300). -/
def State.background (s : State) (k : Nat) : Nat :=
  let f := s.flat k
  if s.now < f.backFrom then f.backBefore else s.get (flatK k 0x0B)

/-- A component (0 red, 1 green, 2 blue) of 16 bits at scan position (x, line), from the latched source; none beyond its edge
and where the witness yields no buffer (R300, R303). Alpha is ignored. -/
def State.scanComponent (s : State) (k line x i : Nat) : Option Nat :=
  match (s.flat k).latched with
  | some (0, surf, ox, oy, format) =>
    let size := s.surfaceSize surf
    if x + ox < size.1 ∧ line + oy < size.2 then
      some (surfaceComponent format (surfaceWord (s.dom (surfaceK surf 4)) format size.1 (x + ox) (line + oy)) i)
    else none
  | some (_, _, ox, oy, _) =>
    match (s.flat k).witness with
    | some p =>
      if x + ox < p.width ∧ line + oy < p.height then
        some (widen16 10 ((p.rgb[(line + oy) * p.width + x + ox]?).getD 0 / 1024 ^ (2 - i) % 1024))
      else none
    | none => none
  | none => none

/-- What an output that runs sends for a component of scan position (x, line): the top bits of the widened source, and the
background beyond the source's edge and from the first late pixel of the line (R300). -/
def State.sentComponent (s : State) (k line x i : Nat) : Nat :=
  let bits := s.get (flatK k 3)
  let back := s.background k / 1024 ^ (2 - i) % 1024 / 2 ^ (10 - bits)
  let late := match (s.flat k).late with
    | some (l, from_) => l == line && decide (from_ ≤ x)
    | none => false
  if late then back
  else match s.scanComponent k line x i with
    | some v => v / 2 ^ (16 - bits)
    | none => back

/-! ### The commands' meanings -/

/-- COPY (R289), at a fetch line of its chase output (R294). -/
def execCopy (draw : DrawInstant) (s : State) : Host.Outcome State Fault Refusal := act draw.t s fun s => s.draw_ 1 draw.fetchLine

/-- FILL (R289), at a fetch line of its chase output (R294). -/
def execFill (draw : DrawInstant) (s : State) : Host.Outcome State Fault Refusal := act draw.t s fun s => s.draw_ 2 draw.fetchLine

/-- WAIT_LINE (R289). -/
def execWaitLine (t line : Nat) (s : State) : Host.Outcome State Fault Refusal := act t s fun s => s.waitLine line

/-- BLIT_STEP (R293). -/
def execBlitStep (t fetchLine : Nat) (s : State) : Host.Outcome State Fault Refusal := act t s fun s => s.blitStep fetchLine

/-- BLITTER_FAULT (R307). -/
def execBlitterFault (t : Nat) (s : State) : Host.Outcome State Fault Refusal := act t s State.failBlitter

end Sys2Proof.Machine
end

