-- ==== Sys2Proof/Machine/Time.lean ====
section
/-!
DEFINITION. Sys2Proof/Machine/Time.lean: MAC links (R360, R362), PTP: the best master clock algorithm, the clock's states,
its steps (R363 to R366), frame lock (R369), timed outputs (R373) and capture inputs (R374).
-/

namespace Sys2Proof.Machine

/-- A frame of the control plane is handed to a MAC's queue, where it waits while there is no link; one that finds the queue full is dropped,
counted and told (R361, R362; log entry 31). -/
def State.ethSend (s : State) (mac kind : Nat) (data : Bytes) : State :=
  if !s.served || s.get (0x280001 + mac) != 1 then s
  else if s.txRoom (.eth mac kind data) then s.send (.eth mac kind data)
  else (s.bump 0x284006).raise 0xD 8 mac

/-! ### MAC links (R362, R380) -/

/-- Cause 0x01: Degraded; Failed when both MACs are enabled and down. -/
def State.linkLost (s : State) (mac : Nat) : State :=
  if s.stands 0xD 1 mac then s
  else
    let both := (List.range 2).all fun m => s.get (0x280001 + m) == 1 && !s.macUp m
    ({ s with faults := { s.faults with standing := s.faults.standing ++ [(0xD, 1, mac)] } }).raiseCore 0xD 1 mac
      (if both then .failed else .degraded)

/-- Event frames that waited for want of a link leave (R53). DESIGN CHOICE (log entry 84): those that wait while UDP control or the event
destination has since been cleared are discarded. -/
def State.releaseHeld (s : State) : State :=
  let frames := if s.eventsOn then s.ctl.eventFrames else []
  let s := frames.foldl State.toEventDest s
  { s with ctl := { s.ctl with eventFrames := [] } }

/-! ### The best master clock algorithm (R363, R364) -/

/-- The fields of an Announce in the order in which the best master clock algorithm compares them. PRESUMED: IEEE 1588-2019, 802.1AS-2020
(log entry 32). -/
def announceRanks (a : Announce) : List Nat :=
  [a.priority1, a.clockClass, a.clockAccuracy, a.variance, a.priority2, a.identity, a.steps]

/-- Lower is better, field by field. -/
def lowerFirst : List Nat → List Nat → Bool
  | a :: as, b :: bs => decide (a < b) || (a == b && lowerFirst as bs)
  | _, _ => false

def betterAnnounce (a b : Announce) : Bool := lowerFirst (announceRanks a) (announceRanks b)

/-- The clock's own identity: the EUI-64 form of MAC0's address. PRESUMED: IEEE 1588 (log entry 32). -/
def ownIdentity : Nat :=
  let m := (Config.macAddress 0).toNat
  m / 2 ^ 24 * 2 ^ 40 + 0xFFFE * 2 ^ 24 + m % 2 ^ 24

/-- The 9640 as a grandmaster candidate (R364). PRESUMED: accuracy and variance unknown, priority2 the profile's default, 248 of 802.1AS or
128 (log entry 32). -/
def State.ownCandidate (s : State) : Option Announce :=
  if s.get 0x281004 = 255 then none
  else some {
    priority1 := s.get 0x281004, clockClass := 248, clockAccuracy := 0xFE, variance := 0xFFFF
    priority2 := if s.get 0x281002 = 0 then 248 else 128, identity := ownIdentity, steps := 0 }

/-- PTP runs on a MAC (R363). -/
def State.ptpPort (s : State) (mac : Nat) : Bool := s.served && bitOf (s.get 0x281001) mac && s.get (0x280001 + mac) == 1

/-- A PTP message reaches the instance: past the MAC, in the profile's carriage and in the domain (R363, R378). -/
def State.ptpArrives (s : State) (a : PtpArrival) (f : State → State) : State := s.arrives a.arrival fun s =>
  if s.ptpPort a.arrival.mac && a.carriage == s.get 0x281002 && a.domain == s.get 0x281003 then f s else s

/-- What a PTP message bears before its body: its destination, Ethertype, and over IPv4 the group address and the UDP port; then the
domain. PRESUMED: IEEE 802.1AS, IEEE 1588 annexes C and E (log entry 31). -/
def State.ptpHead (s : State) (event : Bool) : Bytes :=
  (match s.get 0x281002 with
    | 0 => beBytes 6 0x0180C200000E ++ beBytes 2 0x88F7
    | 1 => beBytes 6 0x011B19000000 ++ beBytes 2 0x88F7
    | _ => beBytes 6 0x01005E000181 ++ beBytes 2 0x0800 ++ beBytes 4 0xE0000181 ++ beBytes 2 (if event then 319 else 320))
    ++ leBytes 1 (s.get 0x281003)

/-- The best Announce and the port that receives it. -/
def State.bestMaster (s : State) : Option (Nat × Announce) :=
  let on := fun (p : Nat) => if s.ptpPort p then nth s.net.announces p none else none
  match on 0, on 1 with
  | some a, some b => if betterAnnounce b a then some (1, b) else some (0, a)
  | some a, none => some (0, a)
  | none, some b => some (1, b)
  | none, none => none

/-- From now on the counter runs at a rate: PTP time goes on from where it is (R366). -/
def State.setRate (s : State) (rate : Int) : State :=
  { s with clock := { s.clock with offset := (s.ptp : Int) - s.now, rate, rateFrom := s.now } }

/-- The clock enters a state (R366): PTP time is established at the first entry to acquiring or grandmaster. -/
def State.clockState (s : State) (st : Nat) : State :=
  let old := s.get 0x281005
  let s := s.put 0x281005 st
  if st = old then s
  else
    let s : State := { s with net := { s.net with goodSyncs := 0 } }
    let s : State := if st = 1 ∨ st = 4 then { s with clock := { s.clock with established := true } } else s
    let s := if st = 4 then s.setRate 0 else s
    if st = 3 then s.onset 0xD 2 else if st = 2 then s.settle 0xD 2 else s

/-- Port and master are chosen anew; the clock is not stepped for that (R363, R364, R366). -/
def State.chooseMaster (s : State) : State :=
  let st := s.get 0x281005
  let slave (p : Nat) (a : Announce) : State :=
    let s := ((s.put 0x281009 p).put 0x281008 a.identity).put 0x281007 (nth s.net.lastPathDelay p 0)
    if st = 4 then s.clockState 1 else s
  let master (a : Announce) : State := ((s.put 0x281009 0xFF).put 0x281008 a.identity).clockState 4
  match s.bestMaster, s.ownCandidate with
  | some (p, a), none => slave p a
  | some (p, a), some o => if betterAnnounce o a then master o else slave p a
  | none, some o => master o
  | none, none =>
    let s := s.put 0x281009 0xFF
    if st = 1 ∨ st = 2 then s.clockState 3 else s

/-- A port's link goes up or down (R360, R362, R363). -/
def State.macLink (s : State) (mac rate : Nat) : State :=
  let old := s.get 0x280009
  let s := s.put 0x280009 (if mac = 0 then old / 16 * 16 + rate else old % 16 + 16 * rate)
  if rate = 0 then
    let s := if s.get (0x280001 + mac) = 1 then s.linkLost mac else s
    let s : State := { s with net := { s.net with announces := setNth s.net.announces mac none } }
    if s.get 0x281009 = mac then s.chooseMaster else s
  else
    let s := ((s.pllLocked .ethLanes).settle 0xD 1 mac).releaseHeld
    if nth s.stages 0xD .off == .starting then s.stage 0xD .up else s

/-- An Announce is received on a port (R363). -/
def State.announced (s : State) (mac : Nat) (data : Announce) : State :=
  ({ s with net := { s.net with announces := setNth s.net.announces mac (some data) } }).chooseMaster

/-- Announce lost for three intervals on a port (R363, R366). -/
def State.announceLost (s : State) (mac : Nat) : State :=
  if !s.ptpPort mac then s
  else ({ s with net := { s.net with announces := setNth s.net.announces mac none } }).chooseMaster

/-! ### Timed outputs (R373) -/

def outK (n sub : Nat) : Nat := keyOf (0x2820 + n) sub
def State.timeOut (s : State) (n : Nat) : TimeOut := nth s.net.outs n {}
def State.setTimeOut (s : State) (n : Nat) (o : TimeOut) : State := { s with net := { s.net with outs := setNth s.net.outs n o } }

/-- The outputs run in Run and Hold; a standby holds the outputs that are camera triggers inactive (R373, R395). -/
def State.outRuns (s : State) (n : Nat) : Bool :=
  (s.power.phase == .run || s.power.phase == .hold) &&
    !(s.standby && (List.range 8).any fun p => s.get (camK p 0 0x0C) == n)

/-- An instant of an output's series has come, is not past, and has not fired before a clock step (R373). -/
def State.edgeFresh (s : State) (o : TimeOut) (x : Int) : Bool :=
  decide ((o.last : Int) < x ∧ x ≤ s.ptp) && !(o.covered.any fun c => decide ((c.1 : Int) < x ∧ x ≤ c.2))

/-- In mode 0x03 on frame-lock pulses: the time from a tick to the edge that it gives. An edge before its tick follows an earlier tick, by as
many periods less as it takes. -/
def State.lockDelay (s : State) (off : Int) : Int :=
  if 0 ≤ off then off else ((off.natAbs + s.framePeriod - 1) / s.framePeriod * s.framePeriod : Nat) + off

/-- The latest instant of an output's series that has come and is not past: with it, whether it is late. -/
def State.edgeDue (s : State) (o : TimeOut) : Option (Nat × Bool) :=
  let fresh := fun (x : Int) => if s.edgeFresh o x then some (x.toNat, false) else none
  match o.mode with
  | 1 => if o.fired then none else if o.start ≤ o.last then some (s.ptp, true) else if o.start ≤ s.ptp then some (o.start, false) else none
  | 2 => if o.start ≤ s.ptp ∧ o.period ≠ 0 then fresh (o.start + (s.ptp - o.start) / o.period * o.period : Nat) else none
  | 3 =>
    let off := signed 32 o.start
    if s.get 0x285003 = 0 then
      match s.tickBefore ((s.ptp : Int) - off).toNat with
      | some k => fresh (s.tickTime k + off)
      | none => none
    else
      ((s.net.lockTicks.map fun (k : Nat) => (k : Int) + s.lockDelay off).find? fun (x : Int) => decide (x ≤ (s.ptp : Int))).bind fun (x : Int) => fresh x
  | _ => none

/-- The pulse begins: its edge is recorded, and is a trigger edge of the cameras (R219, R373, R379). -/
def State.fireOut (s : State) (n at_ : Nat) (late : Bool) : State :=
  let o := s.timeOut n
  let s := s.setTimeOut n { o with last := max o.last at_, fired := true, active := true, pulseEnd := s.now + o.width }
  let s := s.put (outK n 6) (at_ / 2 * 2 + (if late then 1 else 0))
  let s : State := { s with media := { s.media with triggers := setNth s.media.triggers n (some at_) } }
  s.send (.pin (.timeOut n) (o.polarity == 0))

/-- A pulse whose width has passed ends; an instant that has come drives its edge. -/
def State.outEdge (s : State) (n : Nat) : State :=
  let o := s.timeOut n
  let s := if o.active && decide (o.pulseEnd ≤ s.now) then
      (s.setTimeOut n { o with active := false }).send (.pin (.timeOut n) (o.polarity == 1))
    else s
  if (s.timeOut n).active || !s.outRuns n then s
  else match s.edgeDue (s.timeOut n) with
    | some (at_, late) => s.fireOut n at_ late
    | none => s

/-- A mode takes the staged settings; a pulse in progress completes its width first. An output at rest takes the inactive level of its
polarity. -/
def State.applyOutput (s : State) (n : Nat) : State :=
  let old := s.timeOut n
  let o := { old with
    mode := s.get (outK n 1), start := s.get (outK n 2), period := s.get (outK n 3), width := s.get (outK n 4)
    polarity := s.get (outK n 5), last := s.ptp, base := s.ptp, covered := [], fired := false, owed := false }
  let s := s.setTimeOut n o
  let s := if o.active || o.polarity == old.polarity then s else s.send (.pin (.timeOut n) (o.polarity == 1))
  if o.mode = 1 ∧ o.start ≤ s.ptp then s.outEdge n else s

/-- A write of the mode (R61, R373). -/
def State.setOutputMode (s : State) (n v : Nat) : State :=
  let s := s.put (outK n 1) v
  if s.usable 0xD then s.applyOutput n else s.setTimeOut n { s.timeOut n with owed := true }

/-- After a clock step no skipped edge fires and none is repeated; a single edge that was skipped fires at once. -/
def State.stepOutputs (s : State) (old : Nat) : State :=
  (List.range 8).foldl (fun (s : State) n =>
    let o := s.timeOut n
    let skipped := o.mode == 1 && !o.fired && decide (old < o.start) && decide (o.start ≤ s.ptp)
    let covered := if o.base < o.last then o.covered ++ [(o.base, o.last)] else o.covered
    let s := s.setTimeOut n { o with last := s.ptp, base := s.ptp, covered }
    if skipped then s.outEdge n else s) s

/-! ### Sync (R363, R366) -/

/-- The clock takes the master's time in one step. -/
def State.stepClock (s : State) (masterTime : Nat) : State :=
  let old := s.ptp
  let s : State := { s with clock := { s.clock with offset := (masterTime : Int) - s.now, rateFrom := s.now } }
  ((s.bump 0x28100B).stepOutputs old).seekTick

/-- The servo sets the counter's rate anew at a Sync: a free value within ±500 ppm in steps of 2^-32 (R366; log entry 33). -/
def State.servo (s : State) : State :=
  let (s, v) := s.draw
  s.setRate ((v % 4294967 : Nat) - 2147483)

/-- A Sync of the slave port's master (R366). -/
def State.sync (s : State) (mac masterTime : Nat) : State :=
  let st := s.get 0x281005
  if st == 4 || !(s.get 0x281009 == mac || s.get 0x281009 == 0xFF) then s
  else
    let off : Int := (s.ptp : Int) - masterTime
    let size := off.natAbs
    -- 0x2810.06 is an INTEGER32; the spec gives no value for an offset beyond it
    let (s, shown) := if size < 2 ^ 31 then (s, unsigned 32 off) else s.draw
    let s := s.put 0x281006 shown
    let s := if st = 0 ∨ st = 3 ∨ (st = 2 ∧ 1000 < size) then s.clockState 1 else s
    let s := s.servo
    if s.get 0x281005 ≠ 1 then s
    else
      let good := if size < 100 then s.net.goodSyncs + 1 else 0
      let s : State := { s with net := { s.net with goodSyncs := good } }
      if 1000000 < size then
        let s := s.stepClock masterTime
        if st = 2 ∨ st = 3 then s.raise 0xD 3 else s
      else if 16 ≤ good then s.clockState 2 else s

/-- A Sync is due on a port: the interval 0x2810.0C, 2^n s with n from −7 to 0, has passed since the last (R378). -/
def State.syncDue (s : State) (mac : Nat) : Bool :=
  match nth s.net.syncSent mac none with
  | none => true
  | some l => decide (l + 1000000000 / 2 ^ (s.geti 16 0x28100C).natAbs ≤ s.now)

/-- As grandmaster a one-step Sync leaves with its transmit time (R363). -/
def State.sendSync (s : State) (mac : Nat) : State :=
  if s.get 0x281005 != 4 || !s.ptpPort mac || !s.syncDue mac then s
  else
    let s := s.ethSend mac 0 (s.ptpHead true ++ leBytes 2 s.net.syncSeq ++ leBytes 8 s.ptp)
    { s with net := { s.net with syncSeq := (s.net.syncSeq + 1) % 65536, syncSent := setNth s.net.syncSent mac (some s.now) } }

/-- The body of an Announce: the comparison data set. -/
def announceBody (a : Announce) : Bytes :=
  leBytes 1 a.priority1 ++ leBytes 1 a.clockClass ++ leBytes 1 a.clockAccuracy ++ leBytes 2 a.variance ++ leBytes 1 a.priority2
    ++ leBytes 8 a.identity ++ leBytes 2 a.steps

/-- As grandmaster Announce leaves with the comparison data set (R364). -/
def State.sendAnnounce (s : State) (mac : Nat) : State :=
  match s.ownCandidate with
  | some o =>
    if s.get 0x281005 != 4 || !s.ptpPort mac then s
    else s.ethSend mac 1 (s.ptpHead false ++ announceBody o)
  | none => s

/-- Path delay: a request is answered, by any port with peer delay and by the master otherwise; a result is recorded; a request of the
device's own goes out, with peer delay on any port and on the slave port otherwise. -/
def State.pathDelay (s : State) (mac : Nat) (message : DelayMessage) (requester delay : Nat) : State :=
  match message with
  | .asked =>
    if s.get 0x281002 = 0 ∨ s.get 0x281005 = 4 then s.ethSend mac 3 (s.ptpHead false ++ leBytes 8 requester ++ leBytes 8 s.eventTime) else s
  | .answered =>
    let s : State := { s with net := { s.net with lastPathDelay := setNth s.net.lastPathDelay mac delay } }
    if s.get 0x281009 = mac ∨ s.get 0x281009 = 0xFF then s.put 0x281007 delay else s
  | .due =>
    if s.get 0x281002 = 0 ∨ s.get 0x281009 = mac then s.ethSend mac 2 (s.ptpHead true ++ leBytes 8 ownIdentity ++ leBytes 8 s.eventTime) else s

/-- DELAY_REQUEST_RESPONSE: a message that is received, or a request of the device's own that is due on a port. -/
def State.delayMessage (s : State) (a : PtpArrival) (message : DelayMessage) (requester delay : Nat) : State :=
  if message = .due then if s.ptpPort a.arrival.mac then s.pathDelay a.arrival.mac .due requester delay else s
  else s.ptpArrives a fun s => s.pathDelay a.arrival.mac message requester delay

/-! ### Frame lock (R369) -/

/-- An edge, with φ, within a tenth of a period of the expected tick is accepted. An edge just after a tick that fell at the expected instant
for want of it is accepted too: the next tick is expected one period after its place. -/
def State.lockEdge (s : State) (input : Nat) : State :=
  if s.get 0x285003 ≠ input + 1 ∨ !s.served then s
  else
    let place : Int := (s.now : Int) + s.geti 32 0x285002
    let near (x : Nat) : Bool := decide (10 * (place - x).natAbs ≤ s.framePeriod)
    let accept (late : Option Nat) : State :=
      ({ s with net := { s.net with lastEdge := s.now, lateEdge := late } }).settle 0xD 7
    match s.net.lastTickLocal with
    | none => accept none
    | some l =>
      let edged := (s.net.lastEdge : Int) + s.geti 32 0x285002 == l
      if near (s.net.lateEdge.getD l + s.framePeriod) then accept s.net.lateEdge
      else if near l && !edged && s.net.lateEdge.isNone then accept (some place.toNat)
      else { s with net := { s.net with ignoredEdges := s.net.ignoredEdges + 1 } }

/-- Eight periods without an accepted edge. -/
def State.lockLost (s : State) : State :=
  if s.served ∧ s.get 0x285003 ≠ 0 ∧ s.net.lastEdge + 8 * s.framePeriod ≤ s.now then s.onset 0xD 7 else s

/-! ### Capture inputs (R374) -/

def capK (n sub : Nat) : Nat := keyOf (0x2830 + n) sub
def State.capture (s : State) (n : Nat) : Capture := nth s.net.captures n {}
def State.setCapture (s : State) (n : Nat) (c : Capture) : State := { s with net := { s.net with captures := setNth s.net.captures n c } }

/-- An overrun: counted, and raised at most once per second per input. -/
def State.captureOverrun (s : State) (n : Nat) : State :=
  let s := s.bump (capK n 6)
  let c := s.capture n
  let due := match c.lastRaise with | none => true | some l => decide (l + 1000000000 ≤ s.now)
  if due then (s.setCapture n { c with lastRaise := some s.now }).raise 0xD 4 n else s

/-- An edge, with the time for which the level that it begins then lasts. -/
def State.captured (s : State) (n : Nat) (rising : Bool) (width : Nat) : State :=
  let mode := if s.served then s.get (capK n 1) else 0
  let c := s.capture n
  let glitch := decide (width < s.get (capK n 2))
  if mode = 0 then s
  else
    let ends := c.inGlitch
    let s := s.setCapture n { c with inGlitch := glitch }
    if glitch then s.bump (capK n 5)
    else if ends || !(mode == 3 || (mode == 1 && rising) || (mode == 2 && !rising)) then s
    else
      let c := s.capture n
      let tooSoon := match c.lastStamped with | none => false | some l => decide (s.now < l + s.get (capK n 3))
      if tooSoon || decide (16 ≤ c.queue.length) then s.captureOverrun n
      else s.setCapture n { c with queue := c.queue ++ [(s.eventTime, rising)], lastStamped := some s.now }

/-- 0x2830.04 + n: 16 bytes an entry, oldest first (R379). -/
def State.timestamps (s : State) (n : Nat) : Bytes :=
  (s.capture n).queue.flatMap fun e => leBytes 8 e.1 ++ leBytes 1 (if e.2 then 1 else 2) ++ List.replicate 7 0

/-- A read removes the entries it returns (R379). -/
def State.takeTimestamps (s : State) (n : Nat) : State := s.setCapture n { s.capture n with queue := [] }

/-! ### ARP, neighbour discovery and echo (R360) -/

/-- An address is the device's own: IPv4 0x2800.05, or IPv6 0x2800.07. -/
def State.ownAddress (s : State) (v6 : Bool) (a : Nat) : Bool :=
  if v6 then !(s.dom 0x280007).isEmpty && leNat (s.dom 0x280007) == a else s.get 0x280005 != 0 && s.get 0x280005 == a

/-- A neighbour is learned; a request for the device's own address is answered. -/
def State.neighbour (s : State) (mac : Nat) (v6 request : Bool) (sender senderMac target : Nat) : State :=
  if request && !s.ownAddress v6 target then s
  else
    let known := s.net.neighbours.filter fun x => x.1 != sender
    let s : State := { s with net := { s.net with neighbours := known ++ [(sender, senderMac)] } }
    if request then
      s.ethSend mac (if v6 then 5 else 4) (beBytes 6 (Config.macAddress mac).toNat ++ leBytes 16 target ++ leBytes 16 sender)
    else s

/-- An echo request to the device's own address is answered with its data (R360). -/
def State.echo (s : State) (mac : Nat) (v6 : Bool) (sender target : Nat) (data : Bytes) : State :=
  if s.ownAddress v6 target then s.ethSend mac 6 (leBytes 16 sender ++ data) else s

/-! ### The commands' meanings -/

/-- SYNC_RECEIVE (R366). -/
def execSyncReceive (t : Nat) (arrival : PtpArrival) (masterTime : Nat) (s : State) : Host.Outcome State Fault Refusal :=
  actIf (arrival.arrival.mac < 2) t s fun s => s.ptpArrives arrival fun s => s.sync arrival.arrival.mac masterTime

/-- ANNOUNCE_RECEIVE (R363). -/
def execAnnounceReceive (t : Nat) (arrival : PtpArrival) (data : Announce) (s : State) : Host.Outcome State Fault Refusal :=
  actIf (arrival.arrival.mac < 2) t s fun s => s.ptpArrives arrival fun s => s.announced arrival.arrival.mac data

/-- ANNOUNCE_TIMEOUT (R366). -/
def execAnnounceTimeout (t mac : Nat) (s : State) : Host.Outcome State Fault Refusal :=
  actIf (mac < 2) t s fun s => s.announceLost mac

/-- SYNC_SEND (R363). -/
def execSyncSend (t mac : Nat) (s : State) : Host.Outcome State Fault Refusal := actIf (mac < 2) t s fun s => s.sendSync mac

/-- ANNOUNCE_SEND (R364). -/
def execAnnounceSend (t mac : Nat) (s : State) : Host.Outcome State Fault Refusal := actIf (mac < 2) t s fun s => s.sendAnnounce mac

/-- DELAY_REQUEST_RESPONSE (R363). -/
def execDelayRequestResponse (t : Nat) (arrival : PtpArrival) (message : DelayMessage) (requester delay : Nat) (s : State) :
    Host.Outcome State Fault Refusal :=
  actIf (arrival.arrival.mac < 2) t s fun s => s.delayMessage arrival message requester delay

/-- FRAME_LOCK_EDGE (R369): inputs are 0 to 3. -/
def execFrameLockEdge (t input : Nat) (s : State) : Host.Outcome State Fault Refusal :=
  actIf (input < 4) t s fun s => s.lockEdge input

/-- FRAME_LOCK_LOST (R369). -/
def execFrameLockLost (t : Nat) (s : State) : Host.Outcome State Fault Refusal := act t s State.lockLost

/-- TIME_OUT_EDGE (R373): outputs are 0 to 7. -/
def execTimeOutEdge (t output : Nat) (s : State) : Host.Outcome State Fault Refusal :=
  actIf (output < 8) t s fun s => s.outEdge output

/-- CAPTURE_EDGE (R374): inputs are 0 to 3. -/
def execCaptureEdge (t input : Nat) (rising : Bool) (width : Nat) (s : State) : Host.Outcome State Fault Refusal :=
  actIf (input < 4) t s fun s => s.captured input rising width

/-- ARP_NEIGHBOUR_DISCOVERY (R360). -/
def execArpNeighbourDiscovery (t : Nat) (arrival : Arrival) (v6 request : Bool) (sender senderMac target : Nat) (s : State) :
    Host.Outcome State Fault Refusal :=
  actIf (arrival.mac < 2) t s fun s => s.arrives arrival fun s => s.neighbour arrival.mac v6 request sender senderMac target

/-- ICMP_ECHO (R360). -/
def execIcmpEcho (t : Nat) (arrival : Arrival) (v6 : Bool) (sender target : Nat) (data : Bytes) (s : State) : Host.Outcome State Fault Refusal :=
  actIf (arrival.mac < 2) t s fun s => s.arrives arrival fun s => s.echo arrival.mac v6 sender target data

end Sys2Proof.Machine
end

