-- ==== Sys2Proof/Machine/Net.lean ====
section
/-!
DEFINITION. Sys2Proof/Machine/Net.lean: the readiness frames of a frame group (R375 to R377).
-/

namespace Sys2Proof.Machine

/-- A hold-all member with a commit under way. -/
def State.holdAll (s : State) : Bool := s.grouped && s.get 0x286005 == 1 && s.scene.requested

/-- A readiness frame (R377). -/
def State.readinessFrame (s : State) (ready : Bool) : Bytes :=
  let b := leBytes 2 0x4752 ++ [1] ++ leBytes 1 (if ready then 1 else 2) ++ leBytes 4 (s.get 0x286002) ++ leBytes 4 (s.get 0x286008)
    ++ leBytes 2 (s.get 0x286003) ++ [0, 0] ++ leBytes 8 s.groupInstant
    ++ leBytes 4 (sceneTag ((lookup 0x400001 s.pendD).getD s.descriptor))
  b ++ leBytes 4 (crc32c b)

/-- The frame goes to the readiness destination; of a pair only the active sends (R375, R377). -/
def State.sendReadiness (s : State) (ready : Bool) : State :=
  if s.standby then s
  else s.send (.udp (s.get 0x280008) (s.get 0x203102) (leNat ((s.dom 0x286007).take 16)) (fieldLE (s.dom 0x286007) 16 2) (s.readinessFrame ready))

/-- T less half a millisecond has not passed. -/
def State.beforeDeadline (s : State) : Bool := decide (s.ptp + 500000 ≤ s.groupInstant)

/-- READINESS_DECISION: at T less the lead, ready when validation passes and no write followed the request. DEDUCED (log entry 91): a
standby decides too, and counts the frames as sent, for its active sends them (R375). -/
def State.decideReadiness (s : State) : State :=
  if !s.holdAll || s.net.group.decided.isSome || decide (s.ptp + s.get 0x286006 * 1000 < s.groupInstant) then s
  else
    let ready := s.validate.isNone && decide (s.scene.lastWrite ≤ s.scene.requestAt) && s.usableOrHeld 9
    let s := s.sendReadiness ready
    let sends := if s.standby then 3 else 1
    { s with net := { s.net with group := { s.net.group with decided := some ready, sends, nextSend := s.now + 500000 } } }

/-- READINESS_REPEAT: three frames, 500 µs apart, or 100 µs apart once turned not ready. -/
def State.repeatReadiness (s : State) : State :=
  let g := s.net.group
  match g.decided with
  | none => s
  | some ready =>
    if !s.served || !s.holdAll || decide (3 ≤ g.sends) || decide (s.now < g.nextSend) then s
    else
      let s := s.sendReadiness (ready && !g.turned)
      { s with net := { s.net with group := { g with sends := g.sends + 1, nextSend := g.nextSend + (if g.turned then 100000 else 500000) } } }

/-- A write after the first frame makes a ready member not ready, which three frames tell at once. -/
def State.turnNotReady (s : State) : State :=
  let g := s.net.group
  if !s.holdAll || g.decided != some true || g.turned then s
  else
    let told := s.beforeDeadline
    let s := if told then s.sendReadiness false else s
    { s with net := { s.net with group := { g with
        turned := true, sends := if told && !s.standby then 1 else 3, nextSend := s.now + 100000 } } }

/-- A readiness frame can be taken: T less half a millisecond has not passed, or T is not yet known, because no Commit Time is written. -/
def State.readinessOpen (s : State) : Bool := s.get 0x400004 == 0 || s.beforeDeadline

/-- A readiness frame is checked and recorded against its member, before the member's own request too (R377). -/
def State.readinessReceive (s : State) (f : Bytes) : State :=
  let ignored : State := { s with net := { s.net with ignoredReadiness := s.net.ignoredReadiness + 1 } }
  let ok := f.length == 32 && fieldLE f 0 2 == 0x4752 && byteAt f 2 == 1 && fieldLE f 28 4 == crc32c (f.take 28)
    && fieldLE f 4 4 == s.get 0x286002 && fieldLE f 8 4 == s.get 0x286008
  let own := fieldLE f 12 2 == s.get 0x286003
  if !ok || own || s.get 0x286005 != 1 || !s.readinessOpen then ignored
  else
    let m := fieldLE f 12 2
    let g := s.net.group
    match byteAt f 3 with
    | 1 => { s with net := { s.net with group := { g with ready := (g.ready.filter (· != m)) ++ [m] } } }
    | 2 => { s with net := { s.net with group := { g with notReady := (g.notReady.filter (· != m)) ++ [m] } } }
    | _ => ignored

/-- A datagram at the readiness destination's port, on either MAC and from any source: it is a readiness frame by its magic and version
(R377). -/
def State.readinessArrives (s : State) (d : ReadinessArrival) : State := s.arrives d.udp.arrival fun s =>
  if s.readinessForm d.udp.dport d.frame then s.readinessReceive d.frame else s

/-- At T less half a millisecond the member settles whether it will commit, and the twin is told (R376, R385). -/
def State.deadline (s : State) : State :=
  if !s.holdAll || decide (s.ptp + 500000 < s.groupInstant) then s else s.groupSettle.announceCommit

/-! ### The commands' meanings -/

/-- READINESS_DECISION (R377). -/
def execReadinessDecision (t : Nat) (s : State) : Host.Outcome State Fault Refusal := act t s State.decideReadiness

/-- READINESS_REPEAT (R377). -/
def execReadinessRepeat (t : Nat) (s : State) : Host.Outcome State Fault Refusal := act t s State.repeatReadiness

/-- READINESS_FRAME_RECEIVE (R377). -/
def execReadinessFrameReceive (t : Nat) (datagram : ReadinessArrival) (s : State) : Host.Outcome State Fault Refusal :=
  actIf (datagram.udp.arrival.mac < 2) t s fun s => s.readinessArrives datagram

/-- READINESS_DEADLINE (R376). -/
def execReadinessDeadline (t : Nat) (s : State) : Host.Outcome State Fault Refusal := act t s State.deadline

end Sys2Proof.Machine
end

