-- ==== Sys2Proof/Machine/Pair.lean ====
section
/-!
DEFINITION. Sys2Proof/Machine/Pair.lean: the pair: the twin link (R384 to R387), heartbeats (R388 to R390), roles (R382,
R383), takeover (R389 to R393), the planned handover (R394), twin packets by kind (R385, R395), the pair alarm (R398).
-/

namespace Sys2Proof.Machine

/-- A change of role written to the Beacon at once (R412, R472). -/
def State.roleRecord (s : State) (old cause : Nat) : State :=
  ({ s with pair := { s.pair with roleEntry := some (old, s.roleView, cause) } }).settleRole 0

/-! ### Heartbeat paths (R388, R390) -/

/-- A path has carried a valid heartbeat within the last 4 µs. -/
def pathAlive (last : Option Nat) (now : Nat) : Bool := match last with | some l => decide (now < l + 4000) | none => false

def State.twinAlive (s : State) : Bool := pathAlive s.pair.lastTwin s.now
def State.pinAlive (s : State) : Bool := pathAlive s.pair.lastPin s.now

/-- The instant of the last valid heartbeat on either path. -/
def State.lastHeartbeat (s : State) : Nat := max (s.pair.lastTwin.getD 0) (s.pair.lastPin.getD 0)

/-- The hub confirms: the latest upstream header, at most 2 µs old, shows the other port silent or in error (R389). -/
def State.hubConfirms (s : State) : Bool :=
  (match s.link.lastHeader with | some h => decide (s.now ≤ h + 2000) | none => false) && decide (2 ≤ s.get 0x48000E / 4 % 4)

/-- Path causes concern a member of a pair that has its role. -/
def State.watches (s : State) : Bool := s.paired && s.pair.role != 4 && s.pair.role != 0

/-- A path has been valid for 1 ms: its cause clears, and cause 0x06 with it (R390). -/
def State.pathSteady (s : State) (cause : Nat) (since : Option Nat) : State :=
  match since with
  | some t => if t + 1000000 ≤ s.now then (s.settle 0xE cause).settle 0xE 6 else s
  | none => s

/-- An edge on HB_RX (R388): valid 200 ns or more after the previous valid edge, else chatter; nothing watches it in Sleep and Off. -/
def State.pinEdge (s : State) : State :=
  if !s.paired || !s.served then s
  else
    let p := s.pair
    if (match p.lastPin with | some l => decide (s.now < l + 200) | none => false) then
      let s := ({ s with pair := { p with pinValidSince := some s.now } }).bump 0x23000D
      if s.watches && s.twinAlive then s.onset 0xE 2 else s
    else
      let since := if s.pinAlive then p.pinValidSince else some s.now
      let s : State := { s with pair := { p with lastPin := some s.now, pinValidSince := since } }
      s.pathSteady 2 since

/-- A twin heartbeat set (R384, R388): valid with a good code and a count that follows the previous one. -/
def State.twinBeat (s : State) (codeOk : Bool) (count state : Nat) : State :=
  if !s.paired || !s.pair.twinUp || !codeOk || !s.served then s
  else
    let p := s.pair
    let follows := match p.twinCount with | some c => count % 256 == (c + 1) % 256 | none => true
    if !follows then { s with pair := { p with twinCount := some (count % 256) } }
    else
      let role := state % 4
      let both := p.role == 2 && role == 2
      let since := if s.twinAlive then p.twinValidSince else some s.now
      let s : State := { s with pair := { p with
          twinCount := some (count % 256), lastTwin := some s.now, twinValidSince := since, partnerState := role
          partnerActiveAt := if role = 1 then some s.now else p.partnerActiveAt
          waitingB := p.waitingB && role != 1
          bothStandbySince := if both then some (p.bothStandbySince.getD s.now) else none
          partnerFailed := bitOf state 2 } }
      let s := s.pathSteady 1 since
      if s.watches then s.follow (bitOf state 2) 0xE 9 else s

/-- The heartbeat's state byte (R384). -/
def State.beatState (s : State) : Nat :=
  (match s.pair.role with | 1 => if s.pair.yieldingSince.isSome then 3 else 1 | 2 => 2 | _ => 0) + (if s.failedBits = 0 then 0 else 4)

/-- Lane-map sets on every twin lane: each physical lane's logical lane, 0xFF for none (R141, R384). -/
def State.sendTwinMap (s : State) : State :=
  let w := s.pair.wire
  let g := (w.generation + 1) % 256
  let map := w.nextMap.getD w.map
  let sets := (List.range 5).map fun l => (l, (map.idxOf? l).getD 0xFF)
  let s : State := { s with pair := { s.pair with wire := { w with generation := g } }
                            out := s.out ++ sets.map fun p => Out.orderedSet true 2 p.2 g }
  s.driveTwin (sets.map fun p => (p.1, mapSet p.2 g))

/-- A lane map that was sent takes effect; a lane left without a place is driven no longer (R141, R144). -/
def State.applyTwinMap (s : State) : State :=
  match s.pair.wire.nextMap with
  | none => s
  | some m =>
    let s : State := { s with pair := { s.pair with wire := { s.pair.wire with map := m, nextMap := none } } }
    (s.put 0x23000A (bitmapBelow 5 fun l => m.contains l)).twinOnly (m ++ s.twinBeside m)

/-- Symbol times of the twin link in which packets and, in what they leave, idle sets fill the data lanes, and the spare carries
PRBS31 bytes (R141, R384). -/
def State.twinFill (s : State) (n : Nat) : State :=
  let w := s.pair.wire
  let sets := (n - w.taken) / 4
  let p := prbsRun n w.prbs
  let s : State := { s with
    out := s.out ++ w.map.map fun l => Out.twinIdle l sets
    pair := { s.pair with wire := { w with
        taken := w.taken - n, phase := w.phase + n, prbs := p.2
        disparity := w.map.foldl (fun d l => setNth d l (afterIdle sets (nth d l false))) w.disparity } } }
  s.driveTwin ((w.driven.filter fun l => !w.map.contains l).map fun l => (l, p.1))

/-- A deskew set on every driven twin lane, at which a lane map sent before takes effect (R141, R384). -/
def State.twinDeskew (s : State) : State :=
  let n := s.pair.wire.deskew
  let s := (s.send (.orderedSet true 1 n n)).driveTwin (s.pair.wire.driven.map fun l => (l, deskewSet n))
  ({ s with pair := { s.pair with wire := { s.pair.wire with deskew := (n + 1) % 256, phase := s.pair.wire.phase - 1020 } } }).applyTwinMap

/-- The 796 symbol times that end at a heartbeat set, with a deskew set where 1,024 have passed since the latest (R141, R384). -/
def State.twinInterval (s : State) : State :=
  let p := s.pair.wire.phase
  if 1024 ≤ p + 792 then ((s.twinFill (1024 - p)).twinDeskew).twinFill (792 - (1024 - p)) else s.twinFill 796

/-- A heartbeat set on every driven twin lane, in Run and Hold, 800 symbol times after the one before (R384). -/
def State.sendBeat (s : State) : State :=
  if s.paired && s.pair.twinUp && (s.power.phase == .run || s.power.phase == .hold) then
    let s := s.twinInterval
    let s := s.driveTwin (s.pair.wire.driven.map fun l => (l, heartbeatSet s.pair.sendCount s.beatState))
    let s := s.send (.orderedSet true 5 s.pair.sendCount s.beatState)
    { s with pair := { s.pair with
        sendCount := (s.pair.sendCount + 1) % 256, wire := { s.pair.wire with phase := s.pair.wire.phase + 4 } } }
  else s

/-- A path has been silent for 4 µs (R388, R390): its cause while the other lives; cause 0x06 with both silent and no
confirmation within 2 µs more. -/
def State.pathSilent (s : State) (twin : Bool) : State :=
  let mine := if twin then s.twinAlive else s.pinAlive
  let other := if twin then s.pinAlive else s.twinAlive
  if !s.watches || mine || !s.served then s
  else
    let s : State := if twin then { s with pair := { s.pair with bothStandbySince := none } } else s
    if other then s.onset 0xE (if twin then 1 else 2)
    else if s.lastHeartbeat + 6000 ≤ s.now && !s.hubConfirms then s.onset 0xE 6 else s

/-! ### The twin link (R384 to R387) -/

/-- The twin link is down: the mirror is no longer current (R387, R392). -/
def State.twinDown (s : State) : State := { s with pair := { s.pair with twinUp := false, mirrorCurrent := false, snapshotStep := 0 } }

/-- The twin link is failed until a full reset of either member (R387); nothing is driven, and no packet is discarded (R154, R386). -/
def State.failTwin (s : State) : State :=
  let s := s.twinDown.twinOnly []
  let s : State := { s with pair := { s.pair with twinFailed := true, wire := { s.pair.wire with map := [], nextMap := none } } }
  (s.put 0x23000A 0).onset 0xE 4

/-- A lane is retired (R146, R387): the spare takes a data lane's place by lane-map sets, which take effect at the next deskew set; a spare
is driven no longer; a second retired lane fails the link. -/
def State.retireTwin (s : State) (l : Nat) : State :=
  if bitOf (s.get 0x23000B) l then s
  else
    let w := s.pair.wire
    let map := w.nextMap.getD w.map
    let s := (s.put 0x23000B (s.get 0x23000B + 2 ^ l)).nextPlacement
    if 2 ≤ popcount 5 (s.get 0x23000B) then s.failTwin
    else if !map.contains l then
      if w.map.contains l || w.driven.isEmpty then s else s.twinOnly (w.map ++ s.twinBeside w.map)
    else match s.twinBeside map with
      | sp :: _ =>
        let next := map.map fun x => if x = l then sp else x
        (({ s with pair := { s.pair with wire := { s.pair.wire with nextMap := some next } } }).sendTwinMap).raise 0xE 3 l
      | [] => s.twinDown

/-- Step 1 of R145 on the twin link: training bursts on every lane that is not retired (R384). -/
def State.twinBurst (s : State) : State :=
  let lanes := (List.range 5).filter fun l => !bitOf (s.get 0x23000B) l
  let s := (s.twinOnly lanes).send (.orderedSet true 4 0 0)
  s.driveTwin (lanes.map fun l => (l, trainingBurst s.pair.wire.deskew))

/-- Step 5 of R145 on the twin link: the logical lanes go to the lowest-numbered good lanes, and a deskew set puts the map in force; the
intervals between deskew sets count from here (R146, R384). -/
def State.twinAssign (s : State) : State :=
  let s : State := { s with pair := { s.pair with wire := { s.pair.wire with nextMap := some (s.twinGood.take 4) } } }
  let s := s.sendTwinMap.twinDeskew
  { s with pair := { s.pair with wire := { s.pair.wire with phase := 0, taken := 0 } } }

/-- A lane that does not lock at a training is retired; where it carried data, or would at a first training, the spare replaces it and
cause 0x03 is raised (R146, R387). -/
def State.loseTwin (s : State) (data : List Nat) (l : Nat) : State :=
  let s := (s.put 0x23000B (s.get 0x23000B + 2 ^ l)).nextPlacement
  if data.contains l then s.raise 0xE 3 l else s

/-- Training with the lanes that lock (R384, R387): fewer than four are a failed training. A training of a failed link
follows a full reset of the partner. -/
def State.twinTrain (s : State) (locked : Nat) : State :=
  let good := (List.range 5).filter fun l => bitOf locked l && !bitOf (s.get 0x23000B) l
  if !s.paired || !(s.power.phase == .run || s.power.phase == .hold) then s
  else if good.length < 4 then
    let s := s.twinBurst
    if s.pair.twinFailed then s.twinOnly []
    else
      let fails := (s.pair.twinFails.filter fun t => decide (s.now < t + 1000000000)) ++ [s.now]
      let s := s.twinDown
      let s : State := { s with pair := { s.pair with twinFails := fails } }
      if fails.length < 3 then s else s.failTwin
  else
    let s := s.twinBurst
    let s := if s.pair.twinFailed then s.settle 0xE 4 else s
    let s := s.pllLocked .twinLanes
    let s : State := { s with pair := { s.pair with
        twinFailed := false, twinUp := true, twinLocked := locked, twinExpected := none, mirrorCurrent := false, snapshotStep := 0
        mirror := [], mirrorTiles := [], twinCount := none, prbsClean := true } }
    let sound := (List.range 5).filter fun l => !bitOf (s.get 0x23000B) l
    let data := if s.pair.wire.map.isEmpty then sound.take 4 else s.pair.wire.nextMap.getD s.pair.wire.map
    let s := ((sound.filter fun l => !bitOf locked l).foldl (fun s l => s.loseTwin data l) s).twinAssign
    let old := s.pair.twinRetry
    let s : State := { s with pair := { s.pair with twinRetry := old.map fun (p : Packet) => { p with sends := 1, sentAt := s.now } } }
    let s := old.foldl (fun (s : State) p => s.putTwin p.twinBytes) s
    s.twinSend 8 0 []

/-- Unacknowledged twin packets from one on are sent again; a fourth transmission retrains the link (R386). -/
def State.twinResend (s : State) (n : Nat) : State :=
  match s.pair.twinRetry[n]? with
  | none => s
  | some _ =>
    if !s.pair.twinUp then s
    else if (s.pair.twinRetry.drop n).any fun q => decide (4 ≤ q.sends) then s.twinDown
    else
      let old := s.pair.twinRetry
      let s : State := { s with pair := { s.pair with
          twinRetry := old.take n ++ (old.drop n).map fun (q : Packet) => { q with sends := q.sends + 1, sentAt := s.now } } }
      (old.drop n).foldl (fun (s : State) q => s.putTwin q.twinBytes) s

/-- An acknowledgement on the twin link: the header of R385 with the number acknowledged, or expected, as its sequence, and the CRC. -/
def twinAnswer (kind seq epoch : Nat) : Bytes := ({ packetOf kind 0 0 [] with seq, epoch } : Packet).twinBytes

/-- The partner is told what has been received: kinds as upstream (R153, R386; log entry 34). -/
def State.twinReply (s : State) (kind seq : Nat) : State := s.putTwin (twinAnswer kind seq (s.get 0x48000C))

/-- A twin packet in its order takes effect and is acknowledged; one already taken is acknowledged again, and a gap is
answered by a NAK (R154, R155, R386). -/
def State.twinTake (s : State) (seq : Nat) (f : State → State) : State :=
  if !s.paired || !s.pair.twinUp || !s.served then s
  else
    let want := s.pair.twinExpected.getD seq
    if seq = want then
      let s : State := { s with pair := { s.pair with twinExpected := some ((seq + 1) % 65536) } }
      (f s).twinReply 0x81 seq
    else if (want + 65536 - seq) % 65536 < 32768 then s.twinReply 0x81 ((want + 65535) % 65536)
    else s.twinReply 0x82 want

/-! ### Taking the active role (R165, R168, R382, R383, R391, R392) -/

/-- The rectangles of the mirror are opened again, with their tiles Queued (R168 step 5). -/
def State.reopen (s : State) : State :=
  let rects := s.pair.mirror.map fun (r : Rect) => { r with reopened := true, supersede := false }
  let tiles := s.pair.mirrorTiles.filter fun (p : Nat × Nat) => rects.any fun r => r.no == p.2
  let claims := tiles.foldl (fun (l : List Claim) p =>
    l ++ [{ tile := p.1, rect := p.2, state := if l.any fun c => c.tile == p.1 then .waiting else .queued, at_ := s.now }]) []
  let rects := rects.filter fun (r : Rect) => claims.any fun (c : Claim) => c.rect == r.no
  let s := s.bump 0x4A0007 (claims.filter fun c => c.state == .queued).length
  { s with link := { s.link with rects, claims }, pair := { s.pair with mirror := [], mirrorTiles := [] } }

/-- The member becomes active and claims the panel (R165, R382); the host transactions that waited on its CCI masters may run (R395). It
mirrors no partner from here. -/
def State.becomeActive (s : State) : State :=
  let s : State := { s with pair := { s.pair with
      role := 1, waitingB := false, bothStandbySince := none, yieldingSince := none, mirrorCurrent := false, snapshotStep := 0 } }
  let s := s.cciAll
  if s.link.trained && s.usable 0xA then (s.put 0x480001 1).sendClaim else s

/-- A frame number takes its place in a rising list, modulo 2^32; one that is there is not added. -/
def insertFrame (f : Nat) : List Nat → List Nat
  | [] => [f]
  | g :: l => if f = g then g :: l else if seqAfter g f then f :: g :: l else g :: insertFrame f l

/-- The frames whose PRESENT a new owner owes: those of reopened rectangles, which were never wholly presented, and the current one
(R168). -/
def owedFrames (frames : List Nat) (current : Nat) : List Nat := insertFrame current (frames.foldl (fun l f => insertFrame f l) [])

/-- What a standby that becomes active also does (R168, R178, R392): the mirror's rectangles, the changed tiles, safety
regions, COMMITs still to come, evidence chains, readiness frames. -/
def State.carryOver (s : State) (current : Bool) : State :=
  let s : State := { s with
    care := { s.care with expected := [] }
    link := { s.link with toPresent := if current then owedFrames (s.pair.mirror.map (·.frame)) (s.get 0x285004) else [s.get 0x285004] } }
  let s := if current then
      (s.reopen.mark s.pair.changedMirror).mark (s.safetyRegions.flatMap s.regionTiles)
    else ({ s with pair := { s.pair with mirror := [], mirrorTiles := [] } }).markAll
  let keep := match s.pair.commitFor with | some (_, _, at_, _) => decide (s.ptp ≤ at_) | none => false
  let s : State := if keep then s else { s with pair := { s.pair with commitFor := none } }
  let s := s.streamsOn.foldl State.newChain s
  if s.beforeDeadline then s.decideReadiness else s

/-- A standby takes over, or takes the role in a planned handover (R391 to R394); `cause` is the role entry's. -/
def State.takeRole (s : State) (cause : Nat) : State :=
  let old := s.roleView
  let current := s.pair.mirrorCurrent && s.pair.twinUp
  let last := s.lastHeartbeat
  let s := ((s.settle 0xE 6).becomeActive).carryOver current
  let s : State := { s with pair := { s.pair with gapFrom := some last, roleEntry := some (old, 1, cause) } }
  s.raise 0xE 7

/-- TAKEOVER: both paths silent and the hub confirming, on a standby (R389, R390). -/
def State.takeOver (s : State) : State :=
  if s.served && s.paired && s.pair.role == 2 && !s.twinAlive && !s.pinAlive && s.hubConfirms then
    ((s.bump 0x230006).put 0x230007 s.ptp).takeRole 0x6E07
  else s

/-- ROLE_DECISION (R381, R382). -/
def State.decideRole (s : State) : State :=
  let done := (s.link.trained || s.get 0x480001 == 5) && (s.pair.twinUp || s.pair.twinFailed || !s.pair.twinFails.isEmpty)
  let start (s : State) : State := if nth s.stages 0xE .off == .starting then s.stage 0xE .up else s
  let partnerActive := s.twinAlive && s.pair.partnerState == 1
  if !s.served then s
  else if !s.paired then (start { s with pair := { s.pair with role := 0 } }).startCare
  else if s.pair.role = 4 then
    if !done then s
    else
      let s := if !s.twinAlive && !s.pinAlive then s.raise 0xE 0xA else s
      let s := if partnerActive then s.becomeStandby
        else if !s.pair.strapB then s.becomeActive
        else ({ s.becomeStandby with pair := { s.becomeStandby.pair with waitingB := true } })
      (start s).startCare.roleRecord 4 0
  else if s.pair.role = 2 ∧ s.pair.waitingB ∧ !partnerActive
      ∧ max (s.ctl.releasedAt.getD 0) (s.pair.partnerActiveAt.getD 0) + 50000000 ≤ s.now
      ∧ s.get 0x48000E / 4 % 4 ≠ 0 ∧ !bitOf (s.get 0x48000E) 5 then
    let old := s.roleView
    s.becomeActive.roleRecord old 0
  else s

/-- DUAL_STANDBY_RESOLVE (R383): the member strapped A becomes active. -/
def State.resolveStandby (s : State) : State :=
  let long := match s.pair.bothStandbySince with | some t => decide (t + 10000000 ≤ s.now) | none => false
  if s.served && s.paired && s.pair.role == 2 && !s.pair.strapB && s.twinAlive && long && s.link.lastHeader.isSome && s.get 0x48000E / 16 % 4 == 0 then
    let old := s.roleView
    let current := s.pair.mirrorCurrent && s.pair.twinUp
    (s.becomeActive.carryOver current).roleRecord old 0
  else s

/-! ### The planned handover (R394) -/

/-- Every packet and every MIRROR record is acknowledged. -/
def State.drained (s : State) : Bool :=
  s.link.retry.isEmpty && s.link.waiting.isEmpty && (s.pair.twinRetry ++ s.pair.twinWaiting).all fun p => p.kind != 2

/-- Step 3, once step 2 is met: the final CHANGED bitmap, HANDOVER, standby; a twin link that is down can carry neither. -/
def State.handoverStep (s : State) : State :=
  if s.pair.role == 1 && s.pair.yieldingSince.isSome && s.pair.twinUp && s.drained then
    let s := s.sendChanged
    let s := s.twinSend 7 0 (leBytes 4 (s.get 0x48000C) ++ leBytes 2 s.pair.mirrorSeq)
    s.becomeStandby.roleRecord 1 0
  else s

/-- Why a write of 0x2300.05 is aborted with 0x0800_0022 (R394). -/
def State.handoverRefused (s : State) : Bool :=
  s.pair.role != 1 || s.pair.yieldingSince.isSome || !s.pair.twinUp || s.power.pfailHold || byteAt (s.dom 0x230009) 3 != 2

/-- The active member yields (R394 step 1). -/
def State.startHandover (s : State) : State := ({ s with pair := { s.pair with yieldingSince := some s.now } }).handoverStep

/-- The bound of 2 ms has passed: the active member resumes; a full reset that the handover was for follows without it (R408; log entry 82). -/
def State.handoverFails (s : State) : State :=
  match s.pair.yieldingSince with
  | some t =>
    if s.pair.role = 1 ∧ t + 2000000 ≤ s.now then
      ({ s with pair := { s.pair with yieldingSince := none, handoverFailed := s.faults.resetRequested } }).raise 0xE 0xB
    else s
  | none => s

/-! ### Twin packets (R385, R395, R398) -/

/-- Bits of 0x2300.0E: the fields of two reports that differ (R398, R420). -/
def reportDiff (a b : Bytes) : Nat :=
  bitmapOf (fun (f : Nat × Nat) => (a.drop f.1).take f.2 != (b.drop f.1).take f.2) [(12, 4), (16, 4), (20, 4), (24, 4), (28, 2)]

/-- A health report of the partner (R397, R398). -/
def State.healthReceive (s : State) (r : Bytes) : State :=
  if r.length != 64 || fieldLE r 60 4 != crc32c (r.take 60) then s
  else
    let diff := reportDiff s.healthReport r
    let shown := diff &&& s.pair.lastDiffers
    let s : State := { s with pair := { s.pair with lastDiffers := diff, mirrorEpoch := fieldLE r 32 4 } }
    let s := (s.putDom 0x230009 r).put 0x23000E shown
    let s := if shown ≠ 0 then s.onset 0xE 5 else if diff = 0 then s.settle 0xE 5 else s
    if s.watches then s.follow (fieldLE r 6 2 != 0) 0xE 9 else s

/-- One MIRROR record (R385). -/
def State.mirrorTake (s : State) (b : Bytes) : State :=
  let no := byteAt b 1
  let x := byteAt b 3
  let r : Rect :=
    { no, module := byteAt b 2, cls := x % 4, format := x / 4 % 4, supersede := bitOf x 4, column := fieldLE b 4 2
      row := fieldLE b 6 2, columns := fieldLE b 8 2, rows := fieldLE b 10 2, frame := fieldLE b 12 4 }
  let tiles := s.moduleTiles r.module r.column r.row r.columns r.rows
  let p := s.pair
  match byteAt b 0 with
  | 1 => { s with pair := { p with
      mirror := (p.mirror.filter fun (y : Rect) => y.no != no) ++ [r]
      mirrorTiles := (p.mirrorTiles.filter fun (y : Nat × Nat) => y.2 != no) ++ tiles.map fun t => (t, no) } }
  | 4 => { s with pair := { p with
      mirror := p.mirror.filter fun (y : Rect) => y.no != no
      mirrorTiles := p.mirrorTiles.filter fun (y : Nat × Nat) => y.2 != no } }
  | 0 => s
  | _ => { s with pair := { p with mirrorTiles := p.mirrorTiles.filter fun (y : Nat × Nat) => !(y.2 == no && tiles.contains y.1) } }

/-- A MIRROR packet: its whole records in order. -/
def mirrorRecords : Nat → Bytes → State → State
  | 0, _, s => s
  | n + 1, b, s => if b.length < 16 then s else mirrorRecords n (b.drop 16) (s.mirrorTake (b.take 16))

/-- A part of the snapshot that answers HELLO has come, after the part before it; with the last the mirror is current (R385, R399). -/
def State.snapshotTaken (s : State) (part : Nat) (last : Bool) : State :=
  if s.pair.snapshotStep + 1 ≠ part then s
  else if last then { s with pair := { s.pair with snapshotStep := 0, mirrorCurrent := true } }
  else { s with pair := { s.pair with snapshotStep := part } }

/-- MIRROR records on a member that is not active (R385). -/
def State.mirrorReceive (s : State) (b : Bytes) : State :=
  if s.pair.role = 1 then s else mirrorRecords (b.length / 16 + 1) b (s.snapshotTaken 2 false)

/-- A CHANGED chunk replaces the bits of its span (R350, R385); with no bank active no STRESS follows it in a snapshot. -/
def State.changedReceive (s : State) (offset : Nat) (b : Bytes) : State :=
  let s := if s.tileTotal ≤ 8 * (offset + b.length) then s.snapshotTaken 3 (s.blocks == 0) else s
  let keep := s.pair.changedMirror.filter fun t => decide (t < 8 * offset ∨ 8 * (offset + b.length) ≤ t)
  let new := (List.range (8 * b.length)).filter fun i => bitOf (byteAt b (i / 8)) (i % 8)
  { s with pair := { s.pair with changedMirror := keep ++ new.map (8 * offset + ·) } }

/-- One byte of the counters and levels of STRESS (R190, R385). -/
def State.stressByte (s : State) (at_ : Nat) (v : Nat) : State :=
  let n := 3 * s.blocks
  if at_ < 4 * n then
    let k := at_ / 4
    let old := (lookup k s.care.counters).getD 0
    let w := 256 ^ (at_ % 4)
    { s with care := { s.care with counters := setEntry 0 k (old - old / w % 256 * w + v * w) s.care.counters } }
  else if at_ < 5 * n then { s with care := { s.care with levels := setEntry 0 (at_ - 4 * n) v s.care.levels } }
  else s

/-- A STRESS chunk (R190, R385); the one that reaches the end completes a snapshot. -/
def State.stressReceive (s : State) (offset : Nat) (b : Bytes) : State :=
  let s := if 15 * s.blocks ≤ offset + b.length then s.snapshotTaken 4 true else s
  b.zipIdx.foldl (fun (s : State) (p : Byte × Nat) => s.stressByte (offset + p.2) p.1.toNat) { s with care := { s.care with lastUpdate := s.now } }

/-- A statistics block of the active member: its frame-start time and set identifier tag this member's frames (R395). -/
def State.statisticsReceive (s : State) (port : Nat) (b : Bytes) : State :=
  let c := s.cam port
  s.setCam port { c with partnerTags := c.partnerTags.drop (c.partnerTags.length - 63) ++ [(fieldLE b 8 8, fieldLE b 4 2)] }

/-- HELLO: the active member answers with the full snapshot, Open rectangles with the tiles already delivered, CHANGED and STRESS; another
awaits the partner's (R385). -/
def State.snapshot (s : State) : State :=
  if s.pair.role ≠ 1 then { s with pair := { s.pair with snapshotStep := 1 } }
  else
    let one := fun (r : Rect) =>
      mirrorRecord 1 r ++ ((s.moduleTiles r.module r.column r.row r.columns r.rows).filter fun t =>
        !s.link.claims.any fun (c : Claim) => c.tile == t && c.rect == r.no).flatMap fun t =>
          mirrorRecord 2 { r with column := s.tileX t % 120, row := s.tileY t % 135, columns := 1, rows := 1 }
    let all := s.link.rects.flatMap one
    let chunks := (List.range (max 1 ((all.length + 3839) / 3840))).map fun i => (all.drop (3840 * i)).take 3840
    (chunks.foldl State.mirrorSend s).sendChanged.sendStress

/-! ### The commands' meanings -/

/-- HB_EDGE (R388). -/
def execHbEdge (t : Nat) (s : State) : Host.Outcome State Fault Refusal := act t s State.pinEdge

/-- TWIN_HEARTBEAT (R384, R388). -/
def execTwinHeartbeat (t : Nat) (codeOk : Bool) (count state : Nat) (s : State) : Host.Outcome State Fault Refusal :=
  act t s fun s => s.twinBeat codeOk count state

/-- TWIN_HEARTBEAT_SEND (R384). -/
def execTwinHeartbeatSend (t : Nat) (s : State) : Host.Outcome State Fault Refusal := act t s State.sendBeat

/-- PATH_SILENT (R390). -/
def execPathSilent (t : Nat) (twin : Bool) (s : State) : Host.Outcome State Fault Refusal := act t s fun s => s.pathSilent twin

/-- TAKEOVER (R389, R391). -/
def execTakeover (t : Nat) (s : State) : Host.Outcome State Fault Refusal := act t s State.takeOver

/-- ROLE_DECISION (R382). -/
def execRoleDecision (t : Nat) (s : State) : Host.Outcome State Fault Refusal := act t s State.decideRole

/-- DUAL_STANDBY_RESOLVE (R383). -/
def execDualStandbyResolve (t : Nat) (s : State) : Host.Outcome State Fault Refusal := act t s State.resolveStandby

/-- HEALTH (R398). -/
def execHealth (t : Nat) (packet : TwinReport) (s : State) : Host.Outcome State Fault Refusal :=
  act t s fun s => s.twinTake packet.sequence fun s => s.healthReceive packet.report

/-- HEALTH_SEND (R385): in Run and Hold. -/
def execHealthSend (t : Nat) (s : State) : Host.Outcome State Fault Refusal :=
  act t s fun s => if s.power.phase == .run || s.power.phase == .hold then s.sendHealth else s

/-- MIRROR (R385). -/
def execMirror (t sequence : Nat) (records : Bytes) (s : State) : Host.Outcome State Fault Refusal :=
  act t s fun s => s.twinTake sequence fun s => s.mirrorReceive records

/-- CHANGED (R350). -/
def execChanged (t sequence offset : Nat) (bitmap : Bytes) (s : State) : Host.Outcome State Fault Refusal :=
  act t s fun s => s.twinTake sequence fun s => if s.pair.role = 1 then s else s.changedReceive offset bitmap

/-- COMMIT (R395). -/
def execCommit (t sequence epoch tag tick outcome : Nat) (s : State) : Host.Outcome State Fault Refusal :=
  act t s fun s => s.twinTake sequence fun s =>
    if s.pair.role = 1 then s else { s with pair := { s.pair with commitFor := some (epoch, tag, tick, outcome) } }

/-- STRESS (R190). -/
def execStress (t sequence offset : Nat) (data : Bytes) (s : State) : Host.Outcome State Fault Refusal :=
  act t s fun s => s.twinTake sequence fun s => if s.pair.role = 1 then s else s.stressReceive offset data

/-- STATISTICS (R385): ports are 0 to 7. -/
def execStatistics (t sequence port : Nat) (block : Bytes) (s : State) : Host.Outcome State Fault Refusal :=
  actIf (port < 8) t s fun s => s.twinTake sequence fun s => if s.pair.role = 1 then s else s.statisticsReceive port block

/-- HANDOVER (R394): the partner claims the panel without waiting for silence. -/
def execHandover (t sequence ownershipEpoch _mirrorSequence : Nat) (s : State) : Host.Outcome State Fault Refusal :=
  act t s fun s => s.twinTake sequence fun s =>
    if s.pair.role = 2 then
      ({ s with pair := { s.pair with mirrorEpoch := max s.pair.mirrorEpoch ownershipEpoch } }).takeRole 0
    else s

/-- HELLO (R385). -/
def execHello (t sequence : Nat) (s : State) : Host.Outcome State Fault Refusal :=
  act t s fun s => s.twinTake sequence State.snapshot

/-- TWIN_LINK_TRAINING (R384). -/
def execTwinLinkTraining (t locked : Nat) (s : State) : Host.Outcome State Fault Refusal := act t s fun s => s.twinTrain locked

/-- What was found on a twin lane: the spare's PRBS is clean or not, and a lane beyond the limit 0x2300.0C, or one that lost lock or
deskew, is retired (R146, R387, R396). -/
def State.twinFound (s : State) (r : TwinLaneReport) : State :=
  if !s.paired || !s.pair.twinUp || !s.served then s
  else
    let s : State := if (s.twinBeside (s.pair.wire.nextMap.getD s.pair.wire.map)).contains r.lane then
        { s with pair := { s.pair with prbsClean := r.errors == some 0 } } else s
    match r.errors with
    | some n => if s.get 0x23000C < n then s.retireTwin r.lane else s
    | none => s.retireTwin r.lane

/-- TWIN_LANE_RETIRE (R387): lanes are 0 to 4. -/
def execTwinLaneRetire (t : Nat) (found : TwinLaneReport) (s : State) : Host.Outcome State Fault Refusal :=
  actIf (found.lane < 5) t s fun s => s.twinFound found

/-- TWIN_ACK (R386). -/
def execTwinAck (t : Nat) (isNak : Bool) (sequence : Nat) (s : State) : Host.Outcome State Fault Refusal :=
  act t s fun s =>
    if !s.served then s
    else if isNak then
      match s.pair.twinRetry.head? with
      | some p => s.twinResend ((sequence + 65536 - p.seq) % 65536)
      | none => s
    else
      let s : State := { s with pair := { s.pair with twinRetry := s.pair.twinRetry.drop (coveredBy sequence s.pair.twinRetry) } }
      (drainTwin (s.pair.twinWaiting.length + 1) s).handoverStep

/-- TWIN_RETRY_TIMEOUT (R386): 20 µs since the oldest unacknowledged packet was sent. -/
def execTwinRetryTimeout (t : Nat) (s : State) : Host.Outcome State Fault Refusal :=
  act t s fun s =>
    match s.pair.twinRetry.head? with
    | some p => if s.served && decide (p.sentAt + 20000 ≤ s.now) then s.twinResend 0 else s
    | none => s

/-- HANDOVER_TIMEOUT (R394). -/
def execHandoverTimeout (t : Nat) (s : State) : Host.Outcome State Fault Refusal := act t s State.handoverFails

/-- ACK (R154), which may complete a handover's drain (R394). -/
def execAck (t : Nat) (packet : UpPacket) (s : State) : Host.Outcome State Fault Refusal :=
  act t s fun s => (s.upstream 0x81 packet.bytes packet.edb fun h s => s.ackUpTo h.sequence).handoverStep

end Sys2Proof.Machine
end

