-- ==== Sys2Proof/Machine/Calib.lean ====
section
/-!
DEFINITION. Sys2Proof/Machine/Calib.lean: calibration runs (R436 to R438, R447), user OTP (R441, R443), the partition table
and firmware images (R431 to R435).
-/

namespace Sys2Proof.Machine

/-! ### Calibration (R437, R438) -/

/-- The factory trims of factory OTP: bytes 24 to 87 of R439. -/
def factoryTrims : Bytes := (List.range 64).map Config.factoryTrim

/-- Bytes replaced from an offset on. -/
def patch (b : Bytes) (o : Nat) (new : Bytes) : Bytes := b.take o ++ new ++ b.drop (o + new.length)

/-- The first requested step from one on: 1 to 4, or 5 where none is left. -/
def stepFrom (mask : Nat) : Nat → Nat → Nat
  | 0, n => n
  | k + 1, n => if 5 ≤ n then 5 else if bitOf mask (n - 1) then n else stepFrom mask k (n + 1)

/-- A firmware image waits to be installed: its transfer is in, and it is not acknowledged (R435). DESIGN CHOICE (log entry 19). -/
def State.installing (s : State) : Option Staged := s.ctl.staged.find? fun w => w.key == 0x262002

/-- A calibration, burn or install is in progress. -/
def State.servicing (s : State) : Bool := s.cal.run.isSome || s.cal.burning.isSome || s.installing.isSome

/-- Why a write of 0x2600.01 is aborted with 0x0800_0022 (R437). -/
def State.calibrationRefused (s : State) (mask : Nat) : Bool :=
  s.power.phase != .hold || s.holdCauses != 1 || s.power.pfailLow || s.servicing || !s.usable 0xF
    || (bitOf mask 2 && s.get 0x260002 == 0x8000)

/-- A run starts. -/
def State.startCalibration (s : State) (mask : Nat) : State :=
  let s := (s.put 0x260004 1).put 0x260005 0
  { s with cal := { s.cal with run := some { mask, next := stepFrom mask 5 1, trims := s.cal.trims } } }

/-- A Beacon entry of type 0x0B (R447). -/
def State.calibrationEntry (s : State) (kind outcome steps failed item version : Nat) (payload : Bytes) : State :=
  let g := max (trimGeneration (nth s.nv.trims 0 [])) (trimGeneration (nth s.nv.trims 1 []))
  s.beaconAdd 0x0B 0 (leBytes 1 kind ++ leBytes 1 outcome ++ leBytes 1 steps ++ leBytes 1 failed ++ leBytes 2 (if kind = 1 then s.get 0x260002 else 0)
    ++ leBytes 1 (s.get 0x260006) ++ leBytes 1 item ++ leBytes 4 version ++ leBytes 4 g) payload

/-- A run ends passed, bad or abandoned: 0x2600.04 as the outcome. -/
def State.endCalibration (s : State) (r : CalRun) (outcome failed : Nat) : State :=
  let s : State := { s with cal := { s.cal with run := none } }
  let s := (s.put 0x260004 outcome).put 0x260005 failed
  match outcome with
  | 2 =>
    let s : State := { s with cal := { s.cal with trims := r.trims, calibrated := true } }
    let s := ((s.put 0x260006 1).storeTrims).settle 0xF 0x20
    s.calibrationEntry 1 2 r.mask 0 0xFF 0 s.cal.trims
  | 3 =>
    let s : State := { s with cal := { s.cal with trims := factoryTrims, calibrated := false } }
    let s := ((s.put 0x260006 2).storeTrims).onset 0xF 0x20
    s.calibrationEntry 1 3 r.mask failed 0xFF 0 s.cal.trims
  | _ => (s.raise 0xF 0x21).calibrationEntry 1 4 r.mask 0 0xFF 0 []

/-- A run is abandoned by PFAIL_N or a full reset. -/
def State.abandonCalibration (s : State) : State := match s.cal.run with | some r => s.endCalibration r 4 0 | none => s

/-- A step under way converges with new trims, or the run ends bad. -/
def State.calibrationStep (s : State) (step : Nat) (converged : Bool) (f : Bytes → Bytes) : State :=
  match s.cal.run with
  | none => s
  | some r =>
    if r.next ≠ step then s
    else if converged then
      { s with cal := { s.cal with run := some { r with trims := f r.trims, next := stepFrom r.mask 5 (step + 1) } } }
    else s.endCalibration r 3 step

/-- Step 2's taps are in range: 128 of the RC oscillator, 16 of each sensor's. -/
def tapsOk (rc : Nat) (taps : List Nat) : Bool := decide (rc < 128) && taps.length == 12 && taps.all fun t => decide (t < 16)

/-- A quotient to the nearest whole number; a tie, which the spec does not settle, by Config.roundsUp (log entry 5). -/
def nearest (a d : Int) : Int :=
  let q := a / d
  let r := a % d
  if 2 * r < d then q else if d < 2 * r then q + 1 else if Config.roundsUp a d then q + 1 else q

/-- T_ref in s8.8 °C times 16,000: board reference plus measured power (mW) times the rise (u4.12 °C/W) (R437). -/
def State.calibrationRef (s : State) : Int := s.geti 16 0x260002 * 16000 + (s.get 0x211004 : Int) * s.get 0x260003

/-- The offset of a sensor with a mean reading, in s8.8 °C rounded to 0.25 °C. -/
def State.sensorOffset (s : State) (mean : Int) : Int := 64 * nearest (s.calibrationRef - mean * 16000) (64 * 16000)

/-- Step 3: every sensor steady, every offset within ±8 °C. -/
def State.calibrateTemperature (s : State) (means : List Int) (steady : Bool) : State :=
  let offs := means.map s.sensorOffset
  let ok := steady && means.length == 12 && offs.all fun o => decide (-2048 ≤ o ∧ o ≤ 2048)
  s.calibrationStep 3 ok fun b =>
    patch (patch b 14 (leBytes 2 (unsigned 16 (looseDiv s.calibrationRef 16000)))) 16 (offs.flatMap fun o => leBytes 2 (unsigned 16 o))

/-- Step 4: rows of the ray-cache, ISP, codec and Slalom pools are repaired at once; where a macro has no row left, a spare
column is recorded for the next start. -/
def State.calibrateSram (s : State) (findings : List SramFinding) (finished : Bool) : State :=
  match s.cal.run with
  | none => s
  | some r =>
    if r.next ≠ 4 then s
    else
      let one (s : State) (f : SramFinding) : State :=
        if !([0, 2, 3, 4].contains f.pool && (f.double || decide (0 < f.corrections))) then s
        else
          let x := s.macroOf f.macroNo
          if 0 < x.rowsLeft ∨ x.columnsLeft = 0 then s.repairRow f.macroNo f.row
          else
            let (s, column) := s.draw
            s.repairColumn f.macroNo (column % 576)
      (findings.foldl one s).calibrationStep 4 finished id

/-- The run ends once every requested step has converged. -/
def State.finishCalibration (s : State) : State :=
  match s.cal.run with
  | some r => if 5 ≤ r.next then s.endCalibration r 2 0 else s
  | none => s

/-! ### User OTP (R441 to R443) -/

/-- A generation in use must have magic, version, its own number and a matching CRC. -/
def otpValid (g : Nat) (b : Bytes) : Bool :=
  b.length == 512 && fieldLE b 0 2 == 0x4F54 && byteAt b 2 == 1 && byteAt b 3 == g && decide (fieldLE b 4 2 ≤ 500)
    && fieldLE b 508 4 == crc32c (b.take 508)

/-- The highest valid generation. -/
def Nv.otpInUse (n : Nv) : Option Nat := ([3, 2, 1, 0].filter fun g => otpValid g (nth n.otp g [])).head?

def Nv.otpBlank (n : Nv) (g : Nat) : Bool := (nth n.otp g []).all (· == 0)

/-- Records one after another: key, whether a start-up write, value. -/
def otpRecords : Nat → Bytes → List (Nat × Bool × Bytes)
  | 0, _ => []
  | n + 1, b =>
    let len := byteAt b 3 % 128
    if b.length < 5 ∨ len = 0 ∨ 64 < len ∨ b.length < 4 + len then []
    else (keyOf (fieldLE b 0 2) (byteAt b 2), bitOf (byteAt b 3) 7, (b.drop 4).take len) :: otpRecords n (b.drop (4 + len))

/-- Whether a byte string is wholly records that are start-up writes (0x2610.02). -/
def startupOk : Nat → Bytes → Bool
  | 0, b => b.isEmpty
  | n + 1, b =>
    let len := byteAt b 3 % 128
    b.isEmpty || (decide (5 ≤ b.length ∧ 1 ≤ len ∧ len ≤ 64 ∧ 4 + len ≤ b.length) && bitOf (byteAt b 3) 7 && startupOk n (b.drop (4 + len)))

/-- The records of a generation as bytes. -/
def recordBytes (key : Nat) (startup : Bool) (value : Bytes) : Bytes :=
  leBytes 2 (key / 256) ++ leBytes 1 key ++ leBytes 1 (value.length + if startup then 128 else 0) ++ value

/-- The scalar objects of access RW-O, in ascending order. -/
def otpKeys : List Nat :=
  [0x200003, 0x203001, 0x203002, 0x203003, 0x203004, 0x230001, 0x240001, 0x240002, 0x250001, 0x40000C]

/-- The records that a burn assembles (R443). -/
def State.burnRecords (s : State) : Bytes :=
  (otpKeys.flatMap fun k =>
    if s.readBack k = defaultOf k then [] else recordBytes k false (leBytes (widthOf k / 8) (s.readBack k)))
    ++ s.readBackDom 0x261002

/-- The lowest blank generation. -/
def Nv.nextGeneration (n : Nv) : Option Nat := (List.range 4).find? n.otpBlank

/-- Why a write of 0x2610.03 is aborted with 0x0800_0022 (R443). -/
def State.burnRefused (s : State) : Bool :=
  s.nv.nextGeneration.isNone || decide (500 < s.burnRecords.length) || s.power.pfailLow || s.servicing

/-- A burn begins: the generation's 512 bytes are assembled. -/
def State.startBurn (s : State) : State :=
  match s.nv.nextGeneration with
  | none => s
  | some g =>
    let r := s.burnRecords
    let b := leBytes 2 0x4F54 ++ [1] ++ leBytes 1 g ++ leBytes 2 r.length ++ [0, 0] ++ r
    let b := b ++ List.replicate (508 - b.length) 0
    { s.put 0x261004 1 with cal := { s.cal with burning := some (g, b ++ leBytes 4 (crc32c b)) } }

/-- A burn that stops or fails leaves its generation consumed and invalid; how many words it burned is free. -/
def State.spoilBurn (s : State) : State :=
  match s.cal.burning with
  | none => s
  | some (g, b) =>
    let (s, d) := s.draw
    let n := 4 * (1 + d % 127)
    let s : State := { s with
      nv := { s.nv with otp := setNth s.nv.otp g (b.take n ++ List.replicate (512 - n) 0) }, cal := { s.cal with burning := none } }
    let s := s.put 0x261004 3
    if g = 0 then s else s.raise 0xF 0x24 g

/-- OTP_BURN_COMPLETE (R443). -/
def State.finishBurn (s : State) (ok : Bool) : State :=
  match s.cal.burning with
  | none => s
  | some (g, b) =>
    let s := if ok then
        let s : State := { s with nv := { s.nv with otp := setNth s.nv.otp g b }, cal := { s.cal with burning := none } }
        let s := s.put 0x261004 2
        if g = 0 then s else s.raise 0xF 0x24 g
      else s.spoilBurn.raise 0xF 0x25 g
    s.calibrationEntry 2 (if ok then 2 else 3) 0 0 g 0 []

/-! ### The partition table and firmware (R431 to R435) -/

/-- A partition table of given fields. -/
def tableBytes (flags generation : Nat) (rest : Bytes) : Bytes :=
  let b := leBytes 2 0x5054 ++ [1] ++ leBytes 1 flags ++ leBytes 4 generation ++ rest
  b ++ leBytes 4 (crc32c b)

/-- The default layout of an NVM of a size in KiB (R432). -/
def defaultTable (kib : Nat) : Bytes :=
  tableBytes 0 1 (bytes32 [64, 4160, 4096, 8256, 256, 8512, kib - 8512, 0, 0] ++ List.replicate 16 0)

/-- The table is written to both copies with changed flags and install counts, its generation raised by 1 (R431). -/
def Nv.rewriteTable (n : Nv) (flags count0 count1 : Nat) : Nv :=
  match n.table with
  | none => n
  | some t =>
    let b := tableBytes flags ((fieldLE t 4 4 + 1) % 2 ^ 32) ((t.drop 8).take 28 ++ leBytes 4 count0 ++ leBytes 4 count1 ++ List.replicate 16 0)
    { n with tables := [b, b] }

/-- The slot flags and install counts. -/
def Nv.slotFailed (n : Nv) (k : Nat) : Bool := match n.table with | some t => bitOf (byteAt t 3) k | none => true
def Nv.installs (n : Nv) (k : Nat) : Nat := match n.table with | some t => fieldLE t (36 + 4 * k) 4 | none => 0
def Nv.flags (n : Nv) : Nat := match n.table with | some t => byteAt t 3 | none => 0

/-- A slot is flagged failed (R434). -/
def Nv.failSlot (n : Nv) (k : Nat) : Nv := n.rewriteTable (n.flags ||| 2 ^ k) (n.installs 0) (n.installs 1)

/-- An image verifies: every field in range, digest and signature (R433). -/
def imageOk (b : Bytes) : Bool :=
  fieldLE b 0 2 == 0x4657 && byteAt b 2 == 1 && byteAt b 3 == 0xB1 && fieldLE b 8 4 == b.length
    && decide (256 ≤ b.length ∧ b.length ≤ 4194304) && (b.drop 12).take 32 == sha256 (b.drop 128)
    && ((b.drop 44).take 20).all (· == 0) && Config.firmwareSignatureOk b

/-- The slots tried in order: not flagged, the higher install count first, slot 0 on a tie (R434). -/
def Nv.bootOrder (n : Nv) : List Nat :=
  (if n.installs 0 < n.installs 1 then [1, 0] else [0, 1]).filter fun k => !n.slotFailed k

/-- The slot an install writes (R435); 0x2620.01 gives the running image. -/
def State.installSlot (s : State) : Nat :=
  match s.get 0x262001 with
  | 0 => 1
  | 1 => 0
  | _ =>
    if s.nv.slotFailed 0 then 0 else if s.nv.slotFailed 1 then 1
    else if s.nv.installs 1 < s.nv.installs 0 then 1 else 0

/-- Why a write of 0x2620.02 is aborted with 0x0800_0022 (R435). -/
def State.installRefused (s : State) : Bool := !s.beacon.present || s.power.pfailLow || s.servicing

/-- The image is written and read back; the table is rewritten before the acknowledgement. -/
def State.install (s : State) (b : Bytes) (ok : Bool) : State :=
  let k := s.installSlot
  let s : State := { s with nv := { s.nv with slots := setNth s.nv.slots k (if ok then b else []) } }
  let s := if ok then
      let n := max (s.nv.installs 0) (s.nv.installs 1) + 1
      { s with nv := s.nv.rewriteTable (bitsClear s.nv.flags (2 ^ k)) (if k = 0 then n else s.nv.installs 0) (if k = 1 then n else s.nv.installs 1) }
    else s.raise 0xF 2 k
  s.calibrationEntry 3 (if ok then 2 else 3) 0 0 k (fieldLE b 4 4) []

/-- PFAIL_N stops an install: the slot being written holds no sound image, and the write is not acknowledged (R427). -/
def State.stopInstall (s : State) : State :=
  match s.installing with
  | none => s
  | some w =>
    let k := s.installSlot
    let s : State := { s with
      nv := { s.nv with slots := setNth s.nv.slots k [] }, ctl := { s.ctl with staged := s.ctl.staged.filter fun x => x.key != 0x262002 } }
    (s.calibrationEntry 3 3 0 0 k (fieldLE w.data 4 4) []).replyStaged w 0x08000022

/-- 0x2620.03: the versions of the slots, 0 where empty or failed. -/
def State.slotVersions (s : State) : Bytes :=
  [0, 1].flatMap fun k =>
    let b := nth s.nv.slots k []
    leBytes 4 (if s.nv.slotFailed k then 0 else fieldLE b 4 4)

/-! ### The commands' meanings -/

/-- CALIBRATE_BIAS (R437): two comparisons that choose one code, within ±0.5 % of REXT. -/
def execCalibrateBias (t first second : Nat) (withinBudget : Bool) (s : State) : Host.Outcome State Fault Refusal :=
  act t s fun s => s.calibrationStep 1 (withinBudget && first == second && decide (first < 64)) fun b => patch b 0 (leBytes 1 first)

/-- CALIBRATE_OSCILLATORS (R437). -/
def execCalibrateOscillators (t rcTap : Nat) (sensorTaps : List Nat) (converged : Bool) (s : State) : Host.Outcome State Fault Refusal :=
  act t s fun s => s.calibrationStep 2 (converged && tapsOk rcTap sensorTaps) fun b =>
    patch b 1 (leBytes 1 rcTap ++ sensorTaps.flatMap fun x => leBytes 1 x)

/-- CALIBRATE_TEMPERATURE (R437). -/
def execCalibrateTemperature (t : Nat) (means : List Int) (steady : Bool) (s : State) : Host.Outcome State Fault Refusal :=
  act t s fun s => s.calibrateTemperature means steady

/-- CALIBRATE_SRAM (R437): findings name existing macros and rows. -/
def execCalibrateSram (t : Nat) (findings : List SramFinding) (finished : Bool) (s : State) : Host.Outcome State Fault Refusal :=
  actIf (findings.all SramFinding.ok) t s fun s => s.calibrateSram findings finished

/-- CALIBRATION_RUN_END (R438). -/
def execCalibrationRunEnd (t : Nat) (s : State) : Host.Outcome State Fault Refusal := act t s State.finishCalibration

/-- OTP_BURN_COMPLETE (R443). -/
def execOtpBurnComplete (t : Nat) (readBackOk : Bool) (s : State) : Host.Outcome State Fault Refusal :=
  act t s fun s => s.finishBurn readBackOk

end Sys2Proof.Machine
end

