-- ==== Sys2Proof/Machine/Reset.lean ====
section
/-!
DEFINITION. Sys2Proof/Machine/Reset.lean: what a reset keeps (R62, R423), full resets and function resets (R62 to R64), the
serving of the fault manager's requests (R408), power failure (R416, R425 to R428), and the Beacon's writing (R410, R414).
-/

namespace Sys2Proof.Machine

/-! ### Reset -/

/-- The device in reset: what is non-volatile, what the always-on domain keeps, and what the world outside holds stay;
everything else takes its default (R50, R408, R424). PTP time counts from 0 (R366). -/
def State.hardReset (s : State) (cause : Nat) : State :=
  let fresh : State := {}
  let sleeping := s.power.phase == .sleep
  let aon := [0x213006] ++ if sleeping then [0x213002, 0x213003, 0x213004, 0x213005] else []
  { fresh with
    ctl := { lastEvt := s.ctl.lastEvt }
    pending := s.pending, now := s.now, free := s.free, out := s.out, nv := s.nv
    regs := s.regs.filter fun p => aon.contains p.1
    power := { phase := .reset, nextCause := some cause, pfailLow := s.power.pfailLow, sleepPfail := s.power.sleepPfail }
    clock := { offset := -(s.now : Int) }
    media := { fresh.media with flats := s.media.flats.map fun (f : FlatOut) => { ({} : FlatOut) with hpd := f.hpd } } }

/-- A migration cut off by a reset is not resumed: its source is retired (R326). -/
def State.retireSource (s : State) : State :=
  match s.memory.migration with
  | some m => s.addRepair [1, BitVec.ofNat 8 m.source]
  | none => s

/-- A reset while the device runs: an OTP burn under way leaves its generation invalid (R427), the source of a migration
under way is retired (R326), and the pins take their reset levels (R388, R454). -/
def State.resetNow (s : State) (cause : Nat) : State :=
  ([(Pin.hbTx, false), (Pin.pwrEnDdr, true), (Pin.pwrEnCore, true), (Pin.xspiResetN, false)] ++ (List.range 8).map fun n => (Pin.timeOut n, false)).foldl
    (fun (s : State) (p : Pin × Bool) => s.send (.pin p.1 p.2)) (s.spoilBurn.retireSource.hardReset cause)

/-- RESET_N low for a time in ns (R423): between 1 and 10 µs it may or may not be a reset. -/
def State.resetPulse (s : State) (width : Nat) : State :=
  if s.power.phase == .reset && s.power.nextCause.isNone then s
  else if width < 1000 then s
  else if 10000 ≤ width then s.resetNow 1
  else
    let (s, d) := s.draw
    if d % 2 = 0 then s.resetNow 1 else s

/-! ### Full resets (R62, R63, R408) -/

/-- A full reset is acknowledged: the Beacon record, and a calibration run abandoned (R63, R438; log entry 41). -/
def State.requestReset (s : State) : State :=
  let s := s.abandonCalibration
  let s := s.beaconAdd 9 0 (leBytes 1 s.powerState ++ leBytes 1 0xFF ++ leBytes 1 s.holdCauses) []
  { s with ctl := { s.ctl with fullResetAt := some s.now } }

/-- FULL_RESET_EXECUTE: 10 ms after the acknowledgement. -/
def State.executeReset (s : State) : State :=
  match s.ctl.fullResetAt with
  | some a => if a + 10000000 ≤ s.now then s.resetNow 2 else s
  | none => s

/-- FULL_RESET_SERVE: the fault manager's request is judged against the last 10 min, and served by role (R408). -/
def State.serveReset (s : State) : State :=
  if !s.faults.resetRequested || !s.served then s
  else if !s.paired && s.get 0x220007 == 1 then s
  else
    let recent := s.nv.resets.filter fun t => decide (s.now < t + 600000000000)
    if 3 ≤ recent.length then
      ({ s with faults := { s.faults with resetRequested := false }, pair := { s.pair with handoverFailed := false } }).raise 0 5
    else if s.pair.role == 1 && s.pair.yieldingSince.isSome then s
    else if s.pair.role == 1 && !s.handoverRefused && !s.pair.handoverFailed then s.startHandover
    else
      let s := s.abandonCalibration
      let s : State := { s with nv := { s.nv with resets := s.nv.resets ++ [s.now] } }
      s.resetNow 3

/-! ### Function resets (R64) -/

/-- Why a write of 0x2020.02 is aborted with 0x0800_0022 (R64, R426). -/
def State.functionResetRefused (s : State) (n : Nat) : Bool :=
  nth s.stages n .off == .failed || s.stages.any (fun x => x == .resetting) || s.ctl.fullResetAt.isSome || s.power.pfailHold || s.get 0x213001 != 0

/-- A function's work in flight is discarded. -/
def State.dropWork (s : State) (n : Nat) : State :=
  match n with
  | 4 =>
    { s with media := { s.media with cams := s.media.cams.map fun (c : Cam) =>
        { c with frame := none, raw := [], processing := false, jobs := [], started := false, measuring := [] } } }
  | 5 =>
    { s with media := { s.media with
        pairs := s.media.pairs.map fun (p : StereoPair) =>
          { p with ref := none, partner := none, next := none, early := none, blocks := [], rowsDone := 0, previous := [], fresh := true
                   waitingRef := [], waitingPartner := [] }
        motionQueue := []
        codec := { s.media.codec with streams := s.media.codec.streams.map fun (x : Stream) => { x with motion := [], motionFor := none } } } }
  | 6 => s.streamsOn.foldl State.newChain s
  | 7 =>
    { s with media := { s.media with codec := { s.media.codec with slots := s.media.codec.slots.map fun (k : Slot) =>
        { k with gathered := [], gap := false, units := [], dpb := [], resync := true } } } }
  | 8 => s.endHostJob
  | 9 => { s with lift := { s.lift with carvers := s.lift.carvers.map fun (c : Carver) => { c with band := none } }, scene := { s.scene with taken := [] } }
  | 0xA => ((s.dropPanel.stopPanel).put 0x480001 0).put 0x480002 0
  | 0xB =>
    let s := if s.get 0x49003B = 1 then s.put 0x49003B 0 else s
    { s with care := { s.care with
        dueChecks := [], checks := [], checkTimes := [], hostCheck := none, hostCheckSent := false, loads := [], sensing := none, lostReads := []
        slot0Held := [] } }
  | 0xC => s.resetFlats
  | _ => s

/-- A function reset begins. -/
def State.resetFunction (s : State) (n : Nat) : State :=
  let s := (s.dropWork n).stage n .resetting
  { s with ctl := { s.ctl with functionResetAt := s.now } }

/-- It completes: the panel link trains again, and every other function is Ready with its values kept. -/
def State.completeFunctionReset (s : State) (n : Nat) : State :=
  if nth s.stages n .off != .resetting then s
  else if n = 0xA then s.beginTraining 1
  else
    let s := s.stage n .up
    if n = 9 then s.applyCap else s

/-! ### The Beacon's writing (R410, R414, R415, R419) -/

/-- The next pending entry is written; of its writes those of 4 KiB or more are measured. A failed read-back leaves the
entry torn, and the Beacon in staging only. -/
def State.writePending (s : State) (ok : Bool) (rate : Nat) : State :=
  if !s.beacon.present || s.beacon.stagingOnly || !s.served then s
  else match s.beacon.pending with
    | [] => s
    | e :: _ =>
      if s.jobWaits e then s
      else if ok then
        let s := s.writeEntry e
        if e.size < 4096 then s
        else
          let low := if s.beacon.rateMeasured then min rate (s.get 0x221006) else rate
          let first := !s.beacon.rateMeasured || decide (20000 ≤ s.get 0x221006)
          let s : State := { s.put 0x221006 low with beacon := { s.beacon with rateMeasured := true } }
          if low < 20000 ∧ first then s.raise 0xF 6 else s
      else
        let limit := match s.nv.table with | some t => journalSize t | none => 0
        let at_ := placeAt s.nv.head e.size limit
        let s : State := { s with
          nv := { s.nv with torn := some (at_, e.seq), journal := surviving at_ e.size s.nv.journal }
          beacon := { s.beacon with stagingOnly := true, pending := [] } }
        s.raise 0xF 2

/-- RECOVERY_ENTRY: one that names the span of entries dropped, once ordinary pending has room (R414). -/
def State.queueRecovery (s : State) : State :=
  match s.beacon.dropped with
  | none => s
  | some (lo, hi) =>
    if 57344 < ordinaryBytes s.beacon.pending + 128 then s
    else ({ s with beacon := { s.beacon with dropped := none } }).beaconAdd 0x0D 0 (leBytes 8 lo ++ leBytes 8 hi ++ [1]) []

/-- 0x2210.01 (R419); a flush runs within one command, so 0x03 is never read. -/
def State.beaconState (s : State) : Nat :=
  if !s.beacon.present then 0 else if s.beacon.stagingOnly then 4 else 2

/-- Whole staged entries from a sequence on, at most 65,536 bytes (R419). -/
def takeEntries : Nat → Nat → List Entry → List Entry
  | 0, _, _ => []
  | _ + 1, _, [] => []
  | n + 1, room, e :: l => if e.size ≤ room then e :: takeEntries n (room - e.size) l else []

/-- 0x2210.0C: entries of the journal and of staging, each once, from Read Start on. -/
def State.beaconEntries (s : State) : List Entry :=
  let all := (s.nv.journal.map (·.2)).filter (fun e => s.beacon.staging.all fun x => x.seq != e.seq) ++ s.beacon.staging
  takeEntries (all.length + 1) 65536 (all.filter fun e => decide (s.get 0x22100B ≤ e.seq))

/-- A read advances Read Start past the entries it returns. -/
def State.advanceRead (s : State) : State :=
  match s.beaconEntries.getLast? with
  | some e => s.put 0x22100B (e.seq + 1)
  | none => s

/-! ### Power failure (R416, R425 to R428) -/

/-- PFAIL_N is recognised in Run, in Hold or during an entry: the six steps of R416, and what R427 ends. How long the flush
took is free within its bound. One recognised while the device waits for reset leaves it waiting (R426). -/
def State.powerFails (s : State) : State :=
  let s := ((if s.get 0x213001 = 2 then s else s.put 0x213001 1).bump 0x213002).abandonCalibration
  let s := match s.cal.burning with
    | some (g, _) => s.spoilBurn.calibrationEntry 2 3 0 0 g 0 []
    | none => s
  let s : State := { s with power := { s.power with pfailAt := some s.now, pfailHold := true, pfailLow := true, pfailFromRun := s.fromRun } }
  let waiting := pendingBytes s.beacon.pending
  let s := (s.put 0x211002 6000).put 0x211008 (s.get 0x211008 ||| 4)
  let s := s.beaconAdd 0x0A 2 (leBytes 8 s.ptp ++ leBytes 4 waiting) []
  let s := (s.enterHold.applyLevel).stopInstall.endHostJob.abortIntake
  let s := s.sealAtPfail.flush
  let (s, d) := s.draw
  s.put 0x22100E (d % 5001)

/-- PFAIL_RECOGNITION by phase (R425, R427, R428). -/
def State.pfailRecognised (s : State) : State :=
  match s.power.phase with
  | .run | .hold | .enteringSleep | .enteringOff => if s.power.pfailHold then s else s.powerFails
  | .sleep =>
    if s.power.pfailLow then s
    else { ((s.put 0x213001 1).bump 0x213002).put 0x213005 0 with
      power := { s.power with pfailAt := some s.now, pfailLow := true, sleepPfail := true } }
  | _ => { s with power := { s.power with pfailLow := true } }

/-- Time from recognition to release, µs. -/
def State.pfailDuration (s : State) (a : Nat) : State := s.put 0x213005 ((s.now - a) / 1000)

/-- PFAIL_RELEASE: PFAIL_N has been high for 1 ms (R425, R426, R428). -/
def State.pfailReleased (s : State) : State :=
  if !s.power.pfailLow then s
  else
    let s : State := { s with power := { s.power with pfailLow := false } }
    match s.power.phase, s.power.pfailAt with
    | .run, some a | .hold, some a | .enteringSleep, some a | .enteringOff, some a =>
      let s := s.pfailDuration a
      if s.get 0x213001 = 1 ∧ s.now ≤ a + 50000000 then
        let s := (s.put 0x213001 0).bump 0x213004
        let s : State := { s with power := { s.power with pfailHold := false, pfailAt := none } }
        let s := (if s.forced then s else s.put 0x211008 (bitsClear (s.get 0x211008) 4)).climbing
        s.restartClear.causeCleared s.power.pfailFromRun
      else { s.put 0x213001 2 with power := { s.power with pfailHold := false } }
    | .sleep, some a =>
      let s := s.pfailDuration a
      let s : State := { s with power := { s.power with pfailAt := none } }
      let s := if s.now ≤ a + 50000000 ∧ !s.power.dramLost then (s.put 0x213001 0).bump 0x213004
        else { s.put 0x213001 2 with power := { s.power with dramLost := true } }
      s.serveHeldWake
    | .off, _ => s.serveHeldWake
    | _, _ => s

/-- PFAIL_WAIT_FOR_RESET: 50 ms without a release (R426, R428). -/
def State.pfailWaits (s : State) : State :=
  match s.power.pfailAt with
  | none => s
  | some a =>
    if !s.power.pfailLow || decide (s.now < a + 50000000) || s.get 0x213001 != 1 then s
    else
      let s := s.put 0x213001 2
      if s.power.phase == .sleep then { s with power := { s.power with dramLost := true } } else s

/-! ### The commands' meanings -/

/-- FULL_RESET_EXECUTE (R63). -/
def execFullResetExecute (t : Nat) (s : State) : Host.Outcome State Fault Refusal := act t s State.executeReset

/-- FULL_RESET_SERVE (R408). -/
def execFullResetServe (t : Nat) (s : State) : Host.Outcome State Fault Refusal := act t s State.serveReset

/-- FAULT_HANDLING_SLOT (R403, R405). -/
def execFaultHandlingSlot (t : Nat) (s : State) : Host.Outcome State Fault Refusal :=
  act t s fun s => if s.served then s.handleFault else s

/-- BEACON_ENTRY_WRITE (R410, R411): the rate in kB/s. -/
def execBeaconEntryWrite (t : Nat) (readBackOk : Bool) (rate : Nat) (s : State) : Host.Outcome State Fault Refusal :=
  act t s fun s => s.writePending readBackOk rate

/-- RECOVERY_ENTRY (R414). -/
def execRecoveryEntry (t : Nat) (s : State) : Host.Outcome State Fault Refusal :=
  act t s fun s => if s.served then s.queueRecovery else s

/-- PFAIL_GLITCH (R425): PFAIL_N is watched but in reset and in Off. -/
def execPfailGlitch (t : Nat) (s : State) : Host.Outcome State Fault Refusal :=
  act t s fun s => match s.power.phase with | .reset | .off => s | _ => s.bump 0x213003

/-- PFAIL_RECOGNITION (R425). -/
def execPfailRecognition (t : Nat) (s : State) : Host.Outcome State Fault Refusal := act t s State.pfailRecognised

/-- PFAIL_RELEASE (R425, R426). -/
def execPfailRelease (t : Nat) (s : State) : Host.Outcome State Fault Refusal := act t s State.pfailReleased

/-- PFAIL_WAIT_FOR_RESET (R426). -/
def execPfailWaitForReset (t : Nat) (s : State) : Host.Outcome State Fault Refusal := act t s State.pfailWaits

/-- RESET_N_ASSERT (R423): the width of the low pulse in ns. -/
def execResetNAssert (t width : Nat) (s : State) : Host.Outcome State Fault Refusal := act t s fun s => s.resetPulse width

/-- WATCHDOG_RESET (R62, R434). -/
def execWatchdogReset (t : Nat) (s : State) : Host.Outcome State Fault Refusal :=
  act t s fun s => if s.served || s.power.phase == .startup then s.resetNow 4 else s

/-- LOCKSTEP_MISMATCH (R62). -/
def execLockstepMismatch (t : Nat) (s : State) : Host.Outcome State Fault Refusal :=
  act t s fun s => if s.served || s.power.phase == .startup then s.resetNow 5 else s

/-- XTAL_SWITCH (R424). -/
def execXtalSwitch (t : Nat) (s : State) : Host.Outcome State Fault Refusal := act t s fun s => s.put 0x213006 1

end Sys2Proof.Machine
end

