-- ==== Sys2Proof/Machine/HostCheck.lean ====
section
/-!
DEFINITION. Sys2Proof/Machine/HostCheck.lean: what a written value must meet: the ranges of the tables (R65), the content
checks of DOMAIN objects (R55, R56), and the refusals of the objects' own chapters (0x0800_0022).
-/

namespace Sys2Proof.Machine

/-! ### Ranges (R65) -/

/-- The number that a written value stands for: two's complement for the signed types. -/
def valueOf (t : Ty) (v : Nat) : Int :=
  match t with
  | .i16 => signed 16 v
  | .i32 => signed 32 v
  | _ => (v : Int)

/-- A scalar value lies in its object's range. -/
def inRange (r : Rng) (v : Int) : Bool :=
  match r with
  | .any => true
  | .span lo hi => decide (lo ≤ v ∧ v ≤ hi)
  | .spanOr lo hi l => decide (lo ≤ v ∧ v ≤ hi) || l.contains v
  | .oneOf l => l.contains v
  | .step lo hi by_ => decide (lo ≤ v ∧ v ≤ hi) && (v - lo) % by_ == 0
  | .mask m => decide (0 ≤ v) && v.toNat &&& m == v.toNat
  | .len _ _ _ => true
  | .lens _ => true

/-- A content's length is one that its object takes. -/
def lengthOk (r : Rng) (n : Nat) : Bool :=
  match r with
  | .len lo hi mult => decide (lo ≤ n ∧ n ≤ hi) && n % mult == 0
  | .lens l => l.contains n
  | _ => true

/-- Ranges that depend on other objects (R248, R251, R376, R379). -/
def State.rangeOk (s : State) (k v : Nat) : Bool :=
  let index := k / 256
  let sub := k % 256
  if k = 0x286003 then decide (v < s.get 0x286004)
  else if 0x2820 ≤ index ∧ index < 0x2828 ∧ sub = 4 then decide (v + 100 ≤ s.get (keyOf index 3))
  else if 0x3910 ≤ index ∧ index < 0x3928 ∧ sub = 0x0C then
    let z := s.streamSize (index - 0x3910)
    decide (minPicture z.1 z.2 ≤ v)
  else if k = 0x490039 then s.modulePresent v
  else true

/-! ### Content checks (R55, R56) -/

/-- Numbers that never fall, each at most a bound. -/
def risingTo (top : Nat) (l : List Nat) : Bool := nonDecreasing l && l.all fun v => decide (v ≤ top)

/-- Numbers that never rise. -/
def falling (l : List Nat) : Bool := nonDecreasing l.reverse

/-- Signed numbers that rise strictly. -/
def risingStrictly : List Int → Bool
  | a :: b :: l => decide (a < b) && risingStrictly (b :: l)
  | _ => true

/-- An exposure set's fields (R212). -/
def exposureSetOk (b : Bytes) : Bool :=
  decide (1 ≤ fieldLE b 0 2 ∧ 0x100 ≤ fieldLE b 12 2 ∧ 0x100 ≤ fieldLE b 14 2) && zeroBytes (b.drop 16)

/-- The entries of an exposure register map (R213). -/
def registerMapOk (b : Bytes) : Bool :=
  (List.range (b.length / 6)).all fun i => (byteAt b (6 * i + 2) == 1 || byteAt b (6 * i + 2) == 2) && decide (byteAt b (6 * i + 3) ≤ 5)

/-- Regions of interest (R249). -/
def interestOk (b : Bytes) : Bool :=
  (List.range (b.length / 12)).all fun i =>
    let r := b.drop (12 * i)
    let v := signed 8 (byteAt r 9)
    zeroBytes ((r.drop 10).take 2)
      && ((byteAt r 8 == 0 && decide (-12 ≤ v ∧ v ≤ 12)) || (byteAt r 8 == 1 && decide (0 ≤ v ∧ v ≤ 51)))

/-- A camera object's content (R213, R217, R223, R224). -/
def State.cameraContentOk (s : State) (p ixsub : Nat) (b : Bytes) : Bool :=
  match ixsub with
  | 0x1002 => (chop 4 4 b).all fun v => decide (v ≤ 0xFFFFF)
  | 0x1003 => risingTo 0xFFFFF (chop 4 257 b)
  | 0x1006 => risingTo 0xFFFFFF (chop 4 257 b)
  | 0x1008 => b.length % 4 == 0
  | 0x100C => risingTo 0xFFC0 (chop 2 257 b)
  | 0x100E =>
    let w := s.get (camK p 0 0x14)
    let h := s.get (camK p 0 0x15)
    b.length == 8 * (((w + 31) / 32 + 1) * ((h + 31) / 32 + 1))
  | 0x2001 => exposureSetOk b
  | 0x2002 => registerMapOk b
  | 0x3001 => cciOk b
  | _ => true

/-- The frame rate's rules (R379): from 24 to 120 Hz. -/
def frameRateOk (b : Bytes) : Bool :=
  let num := fieldLE b 0 4
  let den := fieldLE b 4 4
  decide (1 ≤ den ∧ 24 * den ≤ num ∧ num ≤ 120 * den)

/-- Talker parameters (R379): each stream's MAC, and its six zero bytes. -/
def talkersOk (b : Bytes) : Bool :=
  (List.range 24).all fun n => decide (byteAt b (16 * n + 9) ≤ 2) && zeroBytes ((b.drop (16 * n + 10)).take 6)

/-- Supply windows (R356): each minimum below its maximum. -/
def windowsOk (b : Bytes) : Bool := (List.range 10).all fun r => decide (fieldLE b (4 * r) 2 < fieldLE b (4 * r + 2) 2)

/-- A decay table (R196). -/
def decayOk (b : Bytes) : Bool := (List.range 3).all fun c => fieldLE b (66 * c) 2 == 32768 && falling (chop 2 33 (b.drop (66 * c)))

/-- Shadow entries fit the shadow's geometry (R108). -/
def State.entriesOk (s : State) (b : Bytes) : Bool :=
  let g := s.shadowGeometryBytes
  !g.isEmpty && b.length == 8 * (Geometry.ofBytes g).lenslets && (entriesOf b).all entryOk

/-- Patch records: lenslet number and entry. -/
def patchRecords (b : Bytes) : List (Nat × Nat) := (List.range (b.length / 12)).map fun i => (fieldLE b (12 * i) 4, fieldLE b (12 * i + 4) 8)

/-- An entry patch fits the verified shadow (R108). -/
def State.patchOk (s : State) (b : Bytes) : Bool :=
  let n := (Geometry.ofBytes s.shadowGeometryBytes).lenslets
  s.get 0x420003 == 2 && b.length % 12 == 0 && (patchRecords b).all fun r => decide (r.1 < n) && entryOk r.2

/-- The rules that an object's own chapter sets its content; its length is checked apart. -/
def State.contentOk (s : State) (k : Nat) (b : Bytes) : Bool :=
  let index := k / 256
  if 0x30 ≤ k / 65536 ∧ k / 65536 < 0x38 then s.cameraContentOk (k / 65536 - 0x30) (k % 65536) b
  else if 0x4080 ≤ index ∧ index < 0x40C0 ∧ k % 256 = 4 then
    s.get (surfaceK (index - 0x4080) 1) != 0 && b.length == s.surfaceBytes (index - 0x4080)
  else if 0x3910 ≤ index ∧ index < 0x3928 ∧ k % 256 = 0x0E then interestOk b
  else if 0x4C10 ≤ index ∧ index < 0x4C12 ∧ k % 256 = 4 then
    timingOk b (s.get (flatK (index - 0x4C10) 2)) (s.get (flatK (index - 0x4C10) 3))
  else match k with
    | 0x212003 => windowsOk b
    | 0x261002 => startupOk (b.length + 1) b
    | 0x262002 => imageOk b
    | 0x284003 => talkersOk b
    | 0x285001 => frameRateOk b
    | 0x38000C => falling (chop 1 64 b)
    | 0x400001 => descriptorOk b
    | 0x410001 | 0x410002 | 0x410003 | 0x410004 => coefSetOk b
    | 0x410009 => linkCurveOk b
    | 0x420004 => geometryOk b
    | 0x420005 => s.entriesOk b
    | 0x420006 => s.patchOk b
    | 0x430001 => s.listOk b
    | 0x490007 => checkRequestOk b && s.modulePresent (byteAt b 0)
    | 0x490010 => risingStrictly ((chop 2 7 b).map (signed 16))
    | 0x490031 => decayOk b
    | 0x490035 => b.length == 12 * s.blocks
    | 0x49003A => (chop 2 27648 b).all fun v => decide (0x2000 ≤ v ∧ v ≤ 0x8000)
    | _ => true

/-! ### Refusals of the objects' chapters -/

/-- A committed or pending layer names a pair as its depth source (R237). -/
def State.pairNamed (s : State) (k : Nat) : Bool :=
  let names := fun (d : Bytes) => (List.range 16).any fun n => (layerOf d n).kind == 2 && (layerOf d n).depth == k
  names s.descriptor || names ((lookup 0x400001 s.pendD).getD [])

/-- Why a pair's enable or disable is aborted (R228, R237). -/
def State.pairRefused (s : State) (k v : Nat) : Bool :=
  let a := s.get (pairK k 2)
  let b := s.get (pairK k 3)
  let w := fun (p : Nat) => s.get (camK p 0 0x14)
  let h := fun (p : Nat) => s.get (camK p 0 0x15)
  if v = 0 then s.pairOn k && s.pairNamed k
  else if s.pairOn k then false
  else
    !s.camOn a || !s.camOn b || a == b
      || ([0, 1, 2, 3].any fun q => q != k && s.pairOn q && [a, b].any fun p => p == s.get (pairK q 2) || p == s.get (pairK q 3))
      || w a != w b || h a != h b || w a % 4 != 0 || h a % 4 != 0
      || !ratioLe (sumRatios [s.stereoTotal, s.motionTotal, stereoLoad (w a) (h a) (s.get (camK a 0 8))]) s.loadLimit

/-- A write of a shadow object is open on any path (R110). -/
def State.held (s : State) (k : Nat) : Bool :=
  s.ctl.staged.any (fun x => x.key == k) || s.ctl.transactions.any (fun x => x.key == k)
    || s.ctl.ports.any fun p => match p.sdo with | some o => !o.upload && o.key == k | none => false

/-- Why a write of 1 to 0x4200.01 is aborted (R110). -/
def State.swapRefused (s : State) : Bool :=
  let g := Geometry.ofBytes s.shadowGeometryBytes
  s.get 0x420003 != 2 || [0x420004, 0x420005, 0x420006].any s.held
    || (s.get 0x48000F != 0 && s.get 0x48000F != g.moduleColumns + 16 * g.moduleRows)

/-- The blitter takes no list: one is running or paused, or it is out of service (R287, R307). -/
def State.blitRefused (s : State) : Bool := s.get 0x430002 == 1 || s.get 0x430002 == 2 || s.get 0x430007 == 0

/-- A camera port's or its pipeline's object is refused in the present state (R209, R217, R222). -/
def State.cameraRefused (s : State) (p ixsub v : Nat) : Bool :=
  if ixsub = 1 then v == 1 && !s.camOn p && !s.admitted p
  else if (2 ≤ ixsub ∧ ixsub ≤ 0x0E) ∨ ixsub = 0x14 ∨ ixsub = 0x15 then s.camOn p
  else if ixsub = 0x3001 then s.get (camK p 0x30 3) == 1
  else false

/-- The refusals with 0x0800_0022 that an object's own chapter gives, for a scalar value or for a DOMAIN at its start and at
its commit (value 0). -/
def State.refused (s : State) (k v : Nat) : Bool :=
  let index := k / 256
  let sub := k % 256
  if 0x30 ≤ k / 65536 ∧ k / 65536 < 0x38 then s.cameraRefused (k / 65536 - 0x30) (k % 65536) v
  else if 0x3810 ≤ index ∧ index < 0x3814 then
    (sub == 1 && s.pairRefused (index - 0x3810) v) || (decide (2 ≤ sub ∧ sub ≤ 4) && s.pairOn (index - 0x3810))
  else if 0x3910 ≤ index ∧ index < 0x3928 then
    let n := index - 0x3910
    (sub == 1 && v == 1 && !s.streamOn n && s.streamRefused n) || ([2, 3, 4, 5, 0x0D, 0x0F].contains sub && s.streamOn n)
  else if 0x3A10 ≤ index ∧ index < 0x3A30 then
    let n := index - 0x3A10
    (sub == 1 && v == 1 && !s.slotOn n && s.slotRefused n) || (decide (2 ≤ sub ∧ sub ≤ 7) && s.slotOn n)
  else if 0x4080 ≤ index ∧ index < 0x40C0 then
    let n := index - 0x4080
    (sub == 1 && s.formatRefusal n v == 0x08000022) || ((sub == 2 || sub == 3) && s.get (surfaceK n 1) != 0)
  else if 0x4C10 ≤ index ∧ index < 0x4C12 then
    let n := index - 0x4C10
    ((sub == 2 || sub == 3) && s.flatOn n) || (sub == 0x0A && s.scanRefused n)
  else if 0x286001 ≤ k ∧ k ≤ 0x286007 then s.grouped && s.scene.requested
  else match k with
    | 0x210002 => s.powerRefused v
    | 0x202002 => s.functionResetRefused v
    | 0x230005 => s.handoverRefused
    | 0x260001 => s.calibrationRefused v
    | 0x261003 => s.burnRefused
    | 0x262002 => s.installRefused
    | 0x285003 => v != 0 && (s.paired || s.grouped)
    | 0x3C0008 => s.get 0x3C0007 == 1 || !s.groomerRuns
    | 0x400003 => s.grouped && s.get 0x400004 == 0
    | 0x420001 => v == 1 && s.swapRefused
    | 0x420004 | 0x420005 | 0x420006 => s.get 0x420003 == 3
    | 0x420007 => s.get 0x420003 == 3 || s.banks.active.isNone
    | 0x430001 => s.blitRefused
    | 0x490001 => v == 1 && !s.link.capabilityAtomic
    | 0x490007 => s.care.hostCheck.isSome
    | 0x490039 => s.get 0x49003B == 1
    | _ => false

end Sys2Proof.Machine
end

