-- ==== Sys2Proof/Machine/HostRead.lean ====
section
/-!
DEFINITION. Sys2Proof/Machine/HostRead.lean: what a host reads of each object: objects that are stored are read back (R50),
and the others are views of the units' state.
-/

namespace Sys2Proof.Machine

/-- The characters of a text as bytes. -/
def asciiBytes (t : String) : Bytes := t.toList.map fun c => BitVec.ofNat 8 c.toNat

/-- The version of the running image (R5, R433, R434). -/
def State.firmwareVersion (s : State) : Nat :=
  if s.get 0x262001 < 2 then fieldLE (nth s.nv.slots (s.get 0x262001) []) 4 4 else Config.firmwareVersion.toNat

/-- 0x2300.04 (R420). -/
def State.pairPaths (s : State) : Nat :=
  if !s.paired then 0
  else bitmapOf id [s.twinAlive, s.pinAlive, s.pair.twinUp, s.pair.mirrorCurrent, s.hubConfirms]

/-- 0x2400.12 (R333). -/
def State.migrationView (s : State) : Nat :=
  match s.memory.migration with
  | some m => m.source * 2 ^ 24 + m.target * 65536 + m.chunk % 65536
  | none => 0xFFFF0000

/-- 0x2210.02 in KiB, 0x2210.04 (R419). -/
def State.journalKiB (s : State) : Nat :=
  match s.nv.table with | some t => if s.beacon.present then journalSize t / 1024 else 0 | none => 0
def State.oldestEntry (s : State) : Nat :=
  match s.nv.journal with | [] => 0 | p :: l => l.foldl (fun m q => min m q.2.seq) p.2.seq

/-- 0x2600.08 (R445). -/
def State.trimCopies (s : State) : Nat := bitmapOf trimValid s.nv.trims

/-- 0x4A00.03, .08 (R170). -/
def State.tilesClaimed (s : State) : Nat := (s.link.claims.map (·.tile)).eraseDups.length
def State.oldestClaim (s : State) : Nat :=
  match s.link.claims with | [] => 0 | c :: l => (s.now - l.foldl (fun m x => min m x.at_) c.at_) / 1000

/-- A camera port's scalar objects. -/
def State.cameraView (s : State) (p ixsub k : Nat) : Nat := if ixsub = 0x1011 then s.ispCrc p else s.readBack k

/-- The value a host reads of a scalar object. -/
def State.scalarView (s : State) (k : Nat) : Nat :=
  let index := k / 256
  let sub := k % 256
  if 0x30 ≤ k / 65536 ∧ k / 65536 < 0x38 then s.cameraView (k / 65536 - 0x30) (k % 65536) k
  else if 0x201101 ≤ k ∧ k ≤ 0x201110 then s.fnState (k - 0x201101)
  else if 0x400101 ≤ k ∧ k ≤ 0x400110 then s.layerState (k - 0x400101)
  else if 0x4C10 ≤ index ∧ index < 0x4C12 ∧ sub = 0x0C then s.flatState (index - 0x4C10)
  else if 0x4C10 ≤ index ∧ index < 0x4C12 ∧ sub = 0x0D then s.scanLine (index - 0x4C10)
  else if 0x4C10 ≤ index ∧ index < 0x4C12 ∧ sub = 0x0F then s.commitsPending (index - 0x4C10)
  else match k with
    | 0x100100 => s.errorRegister
    | 0x101803 => s.firmwareVersion
    | 0x101804 => Config.deviceIdentifier.toNat % 2 ^ 32
    | 0x200004 => s.nodeId
    | 0x201001 => s.readyBits
    | 0x201002 => s.failedBits
    | 0x201003 => s.degradedBits
    | 0x210001 => s.powerState
    | 0x210003 => s.holdCauses
    | 0x220001 => s.faults.queue.length
    | 0x221001 => s.beaconState
    | 0x221002 => s.journalKiB
    | 0x221003 => s.beacon.nextSeq
    | 0x221004 => s.oldestEntry
    | 0x221005 => pendingBytes s.beacon.pending
    | 0x230002 => if s.pair.strapB then 1 else 0
    | 0x230003 => s.roleView
    | 0x230004 => s.pairPaths
    | 0x240003 => s.dataCapacity
    | 0x480003 => bitmapBelow 18 fun l => s.link.map.contains l
    | 0x240004 => bitmapOf (fun c : Channel => c.trained && !c.excluded) s.memory.channels
    | 0x240012 => s.migrationView
    | 0x250002 => s.spareRanks
    | 0x250003 => bitmapOf (fun c : Carver => c.working) s.lift.carvers
    | 0x250004 => bitmapOf (fun c : Carver => c.active) s.lift.carvers
    | 0x250005 => s.carverSpares
    | 0x250006 => s.activeCarvers.length * s.get 0x211006
    | 0x260008 => s.trimCopies
    | 0x261005 => ((List.range 4).filter s.nv.otpBlank).length
    | 0x280003 => (Config.macAddress 0).toNat
    | 0x280004 => (Config.macAddress 1).toNat
    | 0x28100A => s.ptp
    | 0x284006 => (s.get k + s.tx.dropped) % 2 ^ 32
    | 0x380002 | 0x380003 | 0x390002 => s.loadView k
    | 0x3A0002 => s.slotLoadView
    | 0x3B0003 => Config.deviceIdentifier.toNat
    | 0x3C0001 => s.groomerState
    | 0x400006 => s.pendingState
    | 0x40000D => s.poolFreeMiB
    | 0x410019 => s.renderCrc
    | 0x42000B => s.mapCrc
    | 0x42000C => s.deadLenslets
    | 0x42000F => fieldLE s.shadowGeometryBytes 24 4
    | 0x4A0001 => s.link.rects.length
    | 0x4A0003 => s.tilesClaimed
    | 0x4A0008 => s.oldestClaim
    | _ => s.readBack k

/-- A camera port's DOMAIN objects. -/
def State.cameraBytes (s : State) (p ixsub k : Nat) : Bytes :=
  match ixsub with
  | 0x100E => (lookup k s.pendD).getD (s.warpGrid p)
  | 0x4005 => (s.cam p).errors.flatMap fun v => leBytes 4 v
  | 0x4006 => (s.cam p).packets.flatMap fun v => leBytes 4 v
  | _ => s.readBackDom k

/-- An entry of 0x4900.04. -/
def checkBytes (c : Nat × Nat × Nat × Nat) : Bytes :=
  leBytes 4 c.1 ++ leBytes 4 c.2.1 ++ leBytes 4 c.2.2.1 ++ leBytes 1 c.2.2.2 ++ [0, 0, 0]

/-- The content a host reads of a DOMAIN or text object. -/
def State.bytesView (s : State) (k : Nat) : Bytes :=
  if 0x30 ≤ k / 65536 ∧ k / 65536 < 0x38 then s.cameraBytes (k / 65536 - 0x30) (k % 65536) k
  else if 0x2830 ≤ k / 256 ∧ k / 256 < 0x2834 ∧ k % 256 = 4 then s.timestamps (k / 256 - 0x2830)
  else match k with
    | 0x100800 => asciiBytes "Yelain 9640"
    | 0x100A00 => (Config.versionText s.firmwareVersion).take 16
    | 0x200001 => asciiBytes (if Config.orderCodeFX then "NVY9640-FX" else "NVY9640-AG3")
    | 0x212001 => (List.range 12).flatMap fun i => leBytes 2 (if nth s.lift.invalid i false then 0x8000 else (nth s.lift.readings i none).getD 0x8000)
    | 0x212002 => (List.range 20).flatMap fun i => leBytes 2 ((nth s.lift.readings (12 + i) none).getD 0)
    | 0x220002 => s.faults.queue.flatMap FaultEntry.bytes
    | 0x22100C => s.beaconEntries.flatMap Entry.bytes
    | 0x240005 => s.memory.ranks.flatMap fun r => leBytes 1 r.state
    | 0x240008 => s.memory.ranks.flatMap fun r => leBytes 1 (if 2 ≤ r.state ∧ r.state ≤ 5 then r.rate else 0xFF)
    | 0x240011 => s.memory.ranks.flatMap fun r => leBytes 2 r.marked
    | 0x240014 => s.memory.channels.flatMap fun c => leBytes 2 c.temperature
    | 0x240020 => s.memory.corrections.flatMap fun v => leBytes 4 v
    | 0x240021 => (List.range 6).flatMap fun p => leBytes 2 (s.sparesLeft p).1
    | 0x240022 => (List.range 6).flatMap fun p => leBytes 2 (s.sparesLeft p).2
    | 0x250012 => (List.range 32).flatMap fun r => leBytes 2 (s.chunksOn r)
    | 0x250013 => (List.range 8).flatMap fun p => leBytes 1 (s.get (camK p 0 0x12))
    | 0x260007 => s.cal.trims
    | 0x260009 => s.cal.repairs.flatten
    | 0x262003 => s.slotVersions
    | 0x262004 => s.nv.table.getD []
    | 0x28600B => if (s.dom k).isEmpty then List.replicate 128 0 else s.dom k
    | 0x420004 => s.shadowGeometryBytes
    | 0x420005 => s.shadowEntryBytes
    | 0x420008 => s.activeGeometry
    | 0x420009 => s.activeEntries
    | 0x480014 => s.laneErrors.flatMap fun v => leBytes 4 v
    | 0x490004 => s.care.modules.zipIdx.flatMap fun p => checkBytes (if s.modulePresent p.2 then p.1.check else (0, 0, 0, 0xFF))
    | 0x490008 => s.care.hostResult
    | 0x490014 => s.care.modules.zipIdx.flatMap fun p => leBytes 2 (if s.modulePresent p.2 then p.1.temperature else 0x8000)
    | 0x490015 => s.care.modules.zipIdx.flatMap fun p => leBytes 1 (if s.modulePresent p.2 then p.1.inForce else 0xFF)
    | 0x490020 => s.tableCrcs.flatMap fun v => leBytes 4 v
    | 0x490035 => (List.range (3 * s.blocks)).flatMap fun i => leBytes 4 ((lookup i s.care.counters).getD 0)
    | 0x490036 => s.care.eRef.flatMap fun v => leBytes 2 v
    | _ => s.readBackDom k

/-- The bytes a host reads of an object. -/
def State.viewBytes (s : State) (k : Nat) (o : Obj) : Bytes :=
  match o.ty with
  | .dom | .str => s.bytesView k
  | t => leBytes (t.width / 8) (s.scalarView k)

/-- What a read that has returned an object's whole content changes (R379, R419). -/
def State.afterRead (s : State) (k : Nat) : State :=
  if k = 0x22100C then s.advanceRead
  else if 0x2830 ≤ k / 256 ∧ k / 256 < 0x2834 ∧ k % 256 = 4 then s.takeTimestamps (k / 256 - 0x2830)
  else s

/-! ### The order of refusals -/

/-- The function that decides about an access (R61): 0x2040.04 and 0x2020.01 are accepted in every state of function 0. -/
def State.ownerFailed (s : State) (k : Nat) : Bool := k != 0x202001 && k != 0x204004 && s.hasFailed (functionOf k)

/-- The abort code an access meets before its value is looked at, 0 for none (R61, R63, R65). -/
def State.gate (s : State) (k : Nat) (write : Bool) : Nat :=
  if s.ctl.fullResetAt.isSome then 0x08000022
  else match objOf k with
    | none => if indexExists (k / 256) then 0x06090011 else 0x06020000
    | some o =>
      if !write then (if o.acc = .wo then 0x06010001 else 0)
      else if o.acc = .ro ∨ o.acc = .const then 0x06010002
      else if o.acc = .rwO then (if s.usable 0xF then 0 else 0x08000022)
      else if s.ownerFailed k then 0x08000022 else 0

/-- A read: the abort code, or the object's bytes. -/
def State.readObject (s : State) (k : Nat) : Nat × Bytes :=
  match s.gate k false, objOf k with
  | 0, some o =>
    let b := s.viewBytes k o
    if o.ty = .dom ∧ b.isEmpty then (0x08000024, []) else (0, b)
  | c, _ => (c, [])

end Sys2Proof.Machine
end

