-- ==== Sys2Proof/Machine/HostWrite.lean ====
section
/-!
DEFINITION. Sys2Proof/Machine/HostWrite.lean: dictionary writes: when a value takes effect by its access code (R8, R50, R51,
R61), what it does, and how a DOMAIN write is staged, checked and committed (R55 to R57).
-/

namespace Sys2Proof.Machine

/-- What comes with a write from outside: the result of an output's training, and whether non-volatile or copied content
reads back (R108, R298, R435). -/
structure Given where
  trained : Option Bool := none
  readBack : Bool := true
  /-- The buffers of a decoder slot to be enabled fit in DRAM (R260). -/
  fits : Bool := true
  deriving DecidableEq, Repr

/-! ### Values stored until an instant of effect (R50) -/

/-- A write to the pending scene set: the 1 ms rule counts from it, a group member that was ready is so no longer, and a
waiting request is told to the twin anew (R84, R377, R385). -/
def State.sceneWrite (s : State) : State :=
  let s := ({ s with scene := { s.scene with lastWrite := s.now } }).turnNotReady
  if s.scene.requested then s.announceCommit else s

/-- A RW-E scalar waits for its epoch or shadow commit. -/
def State.pendScalar (s : State) (k v : Nat) : State :=
  let s := { s with pendR := insertKey k v s.pendR }
  if sceneKey k then s.sceneWrite else s

/-- A RW-E content waits likewise. -/
def State.pendContent (s : State) (k : Nat) (b : Bytes) : State :=
  let s := { s with pendD := insertKey k b s.pendD }
  if sceneKey k then s.sceneWrite else s

/-- 0x4200.01: the shadow state changes at the write (R109, R110). -/
def State.writeSwap (s : State) (v : Nat) : State :=
  let s := if v = 1 then s.put 0x420003 3 else if s.get 0x420003 = 3 then s.put 0x420003 2 else s
  s.pendScalar 0x420001 v

/-! ### Effects of RW-I and WO scalars -/

/-- A commit request (R84, R85, R376): a frame group's whose instant has passed holds at once. What other members have told of this group
commit number stands (R377). -/
def State.requestCommit (s : State) : State :=
  let s : State := { s with scene := { s.scene with requested := true, requestAt := s.now, refused := false } }
  if s.grouped && decide (s.groupInstant ≤ s.ptp) then s.groupHold 4 else s.announceCommit

/-- The shadow bank with a geometry, with entries (R109). -/
def State.setShadow (s : State) (g e : Bytes) (state : Nat) : State :=
  { s.put 0x420003 state with banks := { s.banks with
      geometry := setNth s.banks.geometry s.shadow g, entries := setNth s.banks.entries s.shadow e } }

/-- A MAC is enabled or disabled (R362, R363). -/
def State.enableMac (s : State) (mac v : Nat) : State :=
  let s := s.put (0x280001 + mac) v
  let s := s.needPll .ethLanes (s.get 0x280001 == 1 || s.get 0x280002 == 1)
  let s := if v = 0 then s.settle 0xD 1 mac else if !s.macUp mac && s.usable 0xD then s.linkLost mac else s
  if v = 0 ∧ s.get 0x281009 = mac then s.chooseMaster else s

/-- The ports on which PTP runs (R363): a slave port that is left out gives way. -/
def State.setPtpPorts (s : State) (v : Nat) : State :=
  let s := s.put 0x281001 v
  let p := s.get 0x281009
  if p < 2 ∧ !s.ptpPort p then s.chooseMaster else s

/-- A stereo pair is enabled, and matches frames from then on, or disabled (R231, R237). -/
def State.enablePair (s : State) (k v : Nat) : State :=
  let was := s.pairOn k
  let s := s.put (pairK k 1) v
  (if v = 1 ∧ !was then s.setStereo k {} else if v = 0 then (s.setStereo k {}).settle 5 2 k else s).encoderObjects

/-- The effect of an accepted RW-I or WO scalar (R8): most values are only held. -/
def State.effect (s : State) (k v : Nat) (x : Given) : State :=
  let index := k / 256
  let sub := k % 256
  if 0x30 ≤ k / 65536 ∧ k / 65536 < 0x38 ∧ k % 65536 = 1 then s.enablePort (k / 65536 - 0x30) v
  else if 0x3810 ≤ index ∧ index < 0x3814 ∧ sub = 1 then s.enablePair (index - 0x3810) v
  else if 0x3910 ≤ index ∧ index < 0x3928 ∧ sub = 1 then
    if v = 1 then s.enableStream (index - 0x3910) else s.disableStream (index - 0x3910)
  else if 0x3A10 ≤ index ∧ index < 0x3A30 ∧ sub = 1 then s.enableSlot (index - 0x3A10) v
  else if 0x4080 ≤ index ∧ index < 0x40C0 then
    if sub = 1 then s.setFormat (index - 0x4080) v else s.setExtent (index - 0x4080) sub v
  else if 0x4C10 ≤ index ∧ index < 0x4C12 ∧ sub = 1 then s.enableFlat (index - 0x4C10) v x.trained
  else if 0x4C10 ≤ index ∧ index < 0x4C12 ∧ sub = 5 then s.commitTiming (index - 0x4C10)
  else if 0x4C10 ≤ index ∧ index < 0x4C12 ∧ sub = 0x0A then s.commitScan (index - 0x4C10)
  else if 0x4C10 ≤ index ∧ index < 0x4C12 ∧ sub = 0x0B then s.setBackground (index - 0x4C10) v
  else if 0x2820 ≤ index ∧ index < 0x2828 ∧ sub = 1 then s.setOutputMode (index - 0x2820) v
  else match k with
    | 0x100300 => (List.range 17).foldl (fun (s : State) i => s.put (0x100300 + i) 0) s
    | 0x202001 => s.requestReset
    | 0x202002 => (if v = 8 then s.abortIntake else s).resetFunction v
    | 0x204004 => s.ackEvents v
    | 0x210002 => s.powerRequest v
    | 0x211001 => s.setLimit v
    | 0x230005 => s.startHandover
    | 0x260001 => s.startCalibration v
    | 0x261003 => s.startBurn
    | 0x280001 => s.enableMac 0 v
    | 0x280002 => s.enableMac 1 v
    | 0x281001 => s.setPtpPorts v
    | 0x285002 => (s.put k v).seekTick
    | 0x285003 => ({ s.put k v with net := { s.net with lastEdge := s.now, lateEdge := none, lockTicks := [] } }).seekTick
    | 0x286008 => if v = s.get k then s else { s.put k v with net := { s.net with group := {} } }
    | 0x400003 => s.requestCommit
    | 0x400004 => if s.scene.requested then (s.put k v).announceCommit else s.put k v
    | 0x420007 => s.setShadow s.activeGeometry s.activeEntries 2
    | 0x42000D => (s.put k v).judgeDead
    | 0x490039 => s.startSensing v
    | _ => s.put k v

/-- An accepted scalar write, by access code (R8, R50). -/
def State.setScalar (s : State) (k v : Nat) (acc : Acc) (x : Given) : State :=
  match acc with
  | .rwO => { s with burnR := insertKey k v s.burnR }
  | .rwE => if k = 0x420001 then s.writeSwap v else s.pendScalar k v
  | _ => s.effect k v x

/-- The checks on a scalar's bytes: the abort code, 0 for none (R65, R76). -/
def State.scalarCode (s : State) (k : Nat) (o : Obj) (data : Bytes) : Nat :=
  let v := leNat data
  let surface := 0x4080 ≤ k / 256 ∧ k / 256 < 0x40C0 ∧ k % 256 = 1
  if data.length ≠ o.ty.width / 8 then 0x06070010
  else if !inRange o.rng (valueOf o.ty v) || !s.rangeOk k v || (o.ty == .bool && decide (1 < v)) then 0x06090030
  else if s.refused k v then 0x08000022
  else if surface then s.formatRefusal (k / 256 - 0x4080) v
  else 0

/-! ### Effects of DOMAIN contents -/

/-- The panel's stress counters are replaced (R195). -/
def State.setCounters (s : State) (b : Bytes) : State :=
  let vs := (chop 4 (b.length / 4) b).zipIdx
  { s with care := { s.care with counters := (vs.filter fun p => p.1 != 0).map fun p => (p.2, p.1) } }

/-- Patch records applied in order (R108). -/
def patched (b : Bytes) (entries : Bytes) : Bytes :=
  (patchRecords b).foldl (fun e r => patch e (8 * r.1) (leBytes 8 r.2)) entries

/-- The shadow geometry is replaced: entries of another length are discarded (R109). -/
def State.setGeometry (s : State) (b : Bytes) : State :=
  let fits := !s.shadowEntryBytes.isEmpty && s.shadowEntryBytes.length == 8 * (Geometry.ofBytes b).lenslets
  s.setShadow b (if fits then s.shadowEntryBytes else []) (if fits then 2 else 1)

/-- What an accepted content does; for most objects it is only held. -/
def State.setContentOf (s : State) (k : Nat) (acc : Acc) (b : Bytes) (x : Given) : State :=
  if acc = .rwO then { s with burnD := insertKey k b s.burnD }
  else if acc = .rwE then s.pendContent k b
  else if 0x30 ≤ k / 65536 ∧ k / 65536 < 0x38 ∧ k % 65536 = 0x3001 then s.cciHost (k / 65536 - 0x30) b
  else if 0x4080 ≤ k / 256 ∧ k / 256 < 0x40C0 then s.setContent (k / 256 - 0x4080) b
  else if 0x490018 ≤ k ∧ k ≤ 0x49001F then s.writeTable (k - 0x490018) b
  else match k with
    | 0x22100D => s.beaconAdd 0x0C 0 (leBytes 2 b.length) b
    | 0x262002 => s.install b x.readBack
    | 0x285001 => (s.putDom k b).seekTick
    | 0x3C0008 => s.startHostJob b
    | 0x420004 => s.setGeometry b
    | 0x420005 => s.setShadow s.shadowGeometryBytes b 2
    | 0x420006 => s.setShadow s.shadowGeometryBytes (patched b s.shadowEntryBytes) 2
    | 0x430001 => s.startList b
    | 0x490007 => s.requestCheck b
    | 0x490035 => s.setCounters b
    | _ => s.putDom k b

/-! ### DOMAIN writes (R55 to R57) -/

/-- Why a DOMAIN write is turned away at its start: the abort code, 0 for none (R57, R284, and the objects' own rules). -/
def State.startCode (s : State) (k : Nat) : Nat :=
  if s.held k then 0x08000021
  else if !s.usable 2 then 0x08000022
  else if s.refused k 0 then 0x08000022
  else 0

/-- A transfer of a size, as far as it has arrived, carries Loose content while the Groomer does not run (R284). -/
def State.looseRefused (s : State) (size : Nat) (data : Bytes) : Bool :=
  decide (1024 < size) && byteAt data 2 == 1 && !s.groomerRuns

/-- The transfer's first bytes say so (R284). -/
def State.looseStart (s : State) (size : Nat) (before data : Bytes) : Bool := decide (before.length ≤ 2) && s.looseRefused size data

/-- Loose content for 0x3C00.08, whose content is raw (R285). -/
def looseInput (k : Nat) (data : Bytes) : Bool := k == 0x3C0008 && looseBulk data

/-- The content of a transfer of more than 1,024 bytes, as its bulk header declares it (R55). -/
def State.intake (s : State) (data : Bytes) : State × Option Bytes :=
  let body := data.drop 16
  let good := fun (b : Bytes) => fieldLE data 0 2 == 0x4442 && byteAt data 3 == 0 && b.length == fieldLE data 4 8
    && crc32c b == fieldLE data 12 4
  if data.length ≤ 1024 then (s, some data)
  else if byteAt data 2 = 0 then (s, if good body then some body else none)
  else if byteAt data 2 = 1 then
    match looseDecode body with
    | none => (((s.raise 8 3).bump 0x3C000A).bump 0x3C000C, none)
    | some b => (s.jobDone b.length body.length true, if good b then some b else none)
  else (s, none)

/-- Whether a copy that must read back does: the shadow bank's (R108), a firmware slot's (R435). -/
def mustReadBack (k : Nat) : Bool := 0x420004 ≤ k ∧ k ≤ 0x420006

/-- The check and commit of a DOMAIN write that has fully arrived: the state after, and the abort code. -/
def State.commitContent (s : State) (k : Nat) (o : Obj) (data : Bytes) (x : Given) : State × Nat :=
  if s.refused k 0 || s.looseRefused data.length data then (s, 0x08000022)
  else if looseInput k data then (s, 0x08000020)
  else match s.intake data with
    | (s, none) => (s, 0x08000020)
    | (s, some b) =>
      if !lengthOk o.rng b.length || !s.contentOk k b || (mustReadBack k && !x.readBack) then (s, 0x08000020)
      else (s.setContentOf k o.acc b x, if k = 0x262002 ∧ !x.readBack then 0x08000020 else 0)

/-- A DOMAIN write that has arrived whole: one of at most 1,024 bytes is settled at once, a larger one and one that must read back are
staged for DOMAIN_STAGING_CHECK, as is Loose content, which the Groomer has to decompress (R283). The state, and the answer's code where
it is given now. -/
def State.arriveContent (s : State) (p : Path) (id : Option Nat) (k : Nat) (o : Obj) (data : Bytes) (now : Bool) (x : Given) :
    State × Option Nat :=
  let loose := looseBulk data && !looseInput k data
  if ((data.length ≤ 1024 ∧ !mustReadBack k) ∨ now) ∧ !loose then
    let r := s.commitContent k o data x
    (r.1, some r.2)
  else if s.looseRefused data.length data then (s, some 0x08000022)
  else
    let s : State := { s with ctl := { s.ctl with staged := s.ctl.staged ++ [{ key := k, path := p, id, data }] } }
    (if loose then s.jobArrives 2 else s, none)

/-- A slot is to be enabled and its buffers do not fit in DRAM (R260). -/
def State.roomLacks (s : State) (k v : Nat) (x : Given) : Bool :=
  !x.fits && 0x3A10 ≤ k / 256 && k / 256 < 0x3A30 && k % 256 == 1 && v == 1 && !s.slotOn (k / 256 - 0x3A10)

/-- A whole write of an object: the state, and the answer's code where it is given now. -/
def State.writeObject (s : State) (p : Path) (id : Option Nat) (k : Nat) (data : Bytes) (now : Bool) (x : Given) :
    State × Option Nat :=
  match s.gate k true, objOf k with
  | 0, some o =>
    if o.ty = .dom then
      match s.startCode k with
      | 0 => s.arriveContent p id k o data now x
      | c => (s, some c)
    else match if s.roomLacks k (leNat data) x then 0x08000022 else s.scalarCode k o data with
      | 0 => (s.setScalar k (leNat data) o.acc x, some 0)
      | c => (s, some c)
  | c, _ => (s, some c)

/-- A write with its answer. -/
def State.hostWrite (s : State) (p : Path) (id : Option Nat) (k : Nat) (data : Bytes) (now : Bool := false) (x : Given := {}) : State :=
  match s.writeObject p id k data now x with
  | (s, some c) => s.reply p id k c
  | (s, none) => s

/-- DOMAIN_STAGING_CHECK: the oldest staged write of an object is checked and committed, or aborted (R55), with the result of the
read-back where its object has one (R108, R435). Loose content waits for the record's jobs (R283). -/
def State.checkStaged (s : State) (k : Nat) (readBack : Bool) : State :=
  match s.ctl.staged.find? fun w => w.key == k with
  | none => s
  | some w =>
    let loose := looseBulk w.data
    if loose && !s.mayFinish 2 then s else
    let s : State := { s with ctl := { s.ctl with staged := s.ctl.staged.filter fun y => y.key != k } }
    let s := match s.gate k true, objOf k with
      | 0, some o =>
        let r := s.commitContent k o w.data { readBack }
        r.1.replyStaged w r.2
      | c, _ => s.replyStaged w c
    if loose then s.nextClient else s

/-! ### Who is heard (R35, R38, R45) -/

/-- The allowed sources of 0x2031.03. -/
def State.sourceAllowed (s : State) (a : Nat) : Bool :=
  (List.range ((s.dom 0x203103).length / 16)).any fun i => leNat (((s.dom 0x203103).drop (16 * i)).take 16) == a

/-- A port's transfer is closed without a word. -/
def State.setSdo (s : State) (p : Nat) (o : Option SdoOpen) : State :=
  match s.ctl.ports[p]? with
  | none => s
  | some q => { s with ctl := { s.ctl with ports := setNth s.ctl.ports p { q with sdo := o } } }
def State.sdoOf (s : State) (p : Nat) : Option SdoOpen := (s.ctl.ports[p]?).bind (·.sdo)

/-- The port's transfer that has arrived whole and waits for its check is dropped. -/
def State.unstageCan (s : State) (p : Nat) : State :=
  { s with ctl := { s.ctl with staged := s.ctl.staged.filter fun w => w.path != .can p } }

/-- A new initiate on a port aborts the transfer that is open there, one that waits for its check included (R40, R55). -/
def State.supersede (s : State) (p : Nat) : State :=
  if (s.sdoOf p).isSome || s.ctl.staged.any (fun w => w.path == .can p) then
    ((s.answer (.can p) 0x05040001).setSdo p none).unstageCan p
  else s

/-- A host access takes place if its path is heard; a UDP frame from another source is counted (R45). -/
def State.hear (s : State) (p : Path) (f : State → State) : State :=
  match p with
  | .internal => if s.served then f s else s
  | .can q => if s.canServes q then f (s.supersede q) else s
  | .udp a =>
    if !s.served || s.get 0x203101 != 1 then s
    else if s.sourceAllowed a then f s
    else s.bump 0x203106

/-- An access of a row of its own: the object, its bytes, and what comes with it. -/
def State.access (s : State) (p : Path) (k : Nat) (data : Bytes) (now : Bool := false) (x : Given := {}) : State :=
  s.hear p fun s => s.hostWrite p none k data now x

/-- A read of a row of its own, with what it removes. -/
def State.accessRead (s : State) (p : Path) (k : Nat) : State :=
  s.hear p fun s =>
    match s.readObject k with
    | (0, b) => (s.afterRead k).answer p 0 b
    | (c, _) => s.answer p c

end Sys2Proof.Machine
end

