-- ==== Sys2Proof/Machine/Channels.lean ====
section
/-!
DEFINITION. Sys2Proof/Machine/Channels.lean: the carriers of dictionary accesses: UDP frames and bulk writes (R45 to R49),
SDO and USDO transfers (R40, R65), NMT, heartbeat and emergencies on the CAN ports (R41 to R44), and the events-lost frame
(R53).
-/

namespace Sys2Proof.Machine

/-! ### UDP (R45 to R49) -/

/-- A dictionary frame's fields (R46). -/
structure Frame where
  opcode : Nat
  tx : Nat
  key : Nat
  last : Bool
  offset : Nat
  payload : Bytes
  deriving DecidableEq, Repr

def frameOf (b : Bytes) : Frame :=
  { opcode := byteAt b 3, tx := fieldLE b 4 4, key := keyOf (fieldLE b 8 2) (byteAt b 10), last := bitOf (byteAt b 11) 0
    offset := fieldLE b 12 4, payload := (b.drop 20).take (fieldLE b 16 2) }

/-- A frame's CRC-32C is that of every byte before it. -/
def frameCrcOk (b : Bytes) : Bool := decide (4 ≤ b.length) && fieldLE b (b.length - 4) 4 == crc32c (b.take (b.length - 4))

/-- A frame's magic, version and length are those of R46. -/
def frameFormOk (b : Bytes) : Bool :=
  fieldLE b 0 2 == 0x4E59 && byteAt b 2 == 1 && decide (fieldLE b 16 2 ≤ 1024) && b.length == 24 + fieldLE b 16 2

/-- An answer to a requester (R47). -/
def State.udpAnswer (s : State) (source opcode : Nat) (f : Frame) (offset : Nat) (payload : Bytes) : State :=
  s.send (.udp (s.get 0x280008) (s.get 0x203102) source (s.get 0x203102) (dictFrame opcode f.tx f.key 0 offset payload))
def State.udpAbort (s : State) (source : Nat) (f : Frame) (code : Nat) : State := s.udpAnswer source 0xEE f code []

/-- Opcode 0x01: up to 1,024 bytes from the offset; a read that reaches the content's end removes what a read removes. -/
def State.udpRead (s : State) (source : Nat) (f : Frame) : State :=
  match s.readObject f.key with
  | (0, b) =>
    let s := s.udpAnswer source 0x81 f f.offset ((b.drop f.offset).take 1024)
    if b.length ≤ f.offset + 1024 then s.afterRead f.key else s
  | (c, _) => s.udpAbort source f c

/-- Opcode 0x02: the payload is the whole value. -/
def State.udpWrite (s : State) (source : Nat) (f : Frame) : State := s.hostWrite (.udp source) (some f.tx) f.key f.payload

/-- Transactions open: those that receive, and those whose write is staged (R49). DESIGN CHOICE (log entry 84): reads and writes of one
frame are answered in the same command, so they are never open and no limit refuses them. -/
def State.openOf (s : State) (p : Nat → Bool) : Nat :=
  (s.ctl.transactions.filter fun t => p t.source).length
    + (s.ctl.staged.filter fun w => match w.path, w.id with | .udp a, some _ => p a | _, _ => false).length

/-- Why a bulk write does not open: the abort code, 0 where it opens. -/
def State.bulkCode (s : State) (source : Nat) (f : Frame) : Nat :=
  match s.gate f.key true, objOf f.key with
  | 0, some o =>
    if o.ty ≠ .dom ∨ f.payload.length ≠ 8 then 0x06070010
    else if s.ctl.transactions.any fun t => t.source == source && t.id == f.tx then 0x05040001
    else if 4 ≤ s.openOf (· == source) ∨ 8 ≤ s.openOf (fun _ => true) then 0x05040005
    else s.startCode f.key
  | c, _ => c

/-- Opcode 0x03: a bulk write opens. -/
def State.udpBulkStart (s : State) (source : Nat) (f : Frame) : State :=
  match s.bulkCode source f with
  | 0 =>
    let t : Transaction := { source, dport := s.get 0x203102, id := f.tx, key := f.key, total := leNat f.payload, last := s.now }
    ({ s with ctl := { s.ctl with transactions := s.ctl.transactions ++ [t] } }).udpAnswer source 0x82 f 0 []
  | c => s.udpAbort source f c

/-- The transactions without one. -/
def State.dropTransaction (s : State) (source id : Nat) : State :=
  { s with ctl := { s.ctl with transactions := s.ctl.transactions.filter fun t => !(t.source == source && t.id == id) } }

/-- A transfer that has arrived whole is settled or staged. -/
def State.finishTransfer (s : State) (p : Path) (id : Option Nat) (k : Nat) (data : Bytes) : State :=
  match s.gate k true, objOf k with
  | 0, some o =>
    match s.arriveContent p id k o data false {} with
    | (s, some c) => s.reply p id k c
    | (s, none) => s
  | c, _ => s.reply p id k c

/-- Opcode 0x04: a chunk at its offset (R48). A chunk past the bytes received so far is out of order and is answered with
their number; bytes already received are ignored, also while the write waits for its check. DESIGN CHOICE (log entry 84): an announced
total of 0 has no last byte and never completes; a chunk flagged last whose bytes fall short of the
announced total is answered with the number received, and the transaction stays open. -/
def State.udpBulkData (s : State) (source : Nat) (f : Frame) : State :=
  match s.ctl.transactions.find? fun t => t.source == source && t.id == f.tx && t.key == f.key with
  | none =>
    match s.ctl.staged.find? fun w => w.path == .udp source && w.id == some f.tx && w.key == f.key with
    | none => s.udpAbort source f 0x05040001
    | some w => if f.offset + f.payload.length ≤ w.data.length then s else s.udpAnswer source 0x83 f w.data.length []
  | some t =>
    let n := t.data.length
    let keep (s : State) (t : Transaction) : State :=
      { s.dropTransaction source t.id with ctl := { (s.dropTransaction source t.id).ctl with
          transactions := (s.dropTransaction source t.id).ctl.transactions ++ [t] } }
    if n < f.offset then (keep s { t with last := s.now }).udpAnswer source 0x83 f n []
    else if f.offset + f.payload.length ≤ n then keep s { t with last := s.now }
    else
      let data := t.data ++ f.payload.drop (n - f.offset)
      let t := { t with data, chunks := t.chunks + 1, last := s.now }
      if t.total < data.length then (s.dropTransaction source t.id).udpAbort source f 0x08000020
      else if s.looseStart t.total (data.take n) data then (s.dropTransaction source t.id).udpAbort source f 0x08000022
      else
        let full := data.length == t.total
        let s := keep s t
        let s := if t.chunks % 16 = 0 ∨ f.last ∨ full then s.udpAnswer source 0x83 f data.length [] else s
        if full then (s.dropTransaction source t.id).finishTransfer (.udp source) (some t.id) t.key data else s

/-- A frame at the dictionary port: another port's frames are no dictionary frames; a frame from a source that is not
allowed, or whose CRC fails, is counted and dropped, and one of another form is dropped (R45, R46). A readiness frame at that port
never reaches the dictionary (R377). -/
def State.udpFrame (s : State) (source : Nat) (a : UdpArrival) (b : Bytes) : State := s.arrives a.arrival fun s =>
  if s.get 0x203101 != 1 || a.dport != s.get 0x203102 || s.readinessForm a.dport b then s
  else if !s.sourceAllowed source || !frameCrcOk b then s.bump 0x203106
  else if !frameFormOk b then s
  else
    let f := frameOf b
    match f.opcode with
    | 1 => s.udpRead source f
    | 2 => s.udpWrite source f
    | 3 => s.udpBulkStart source f
    | 4 => s.udpBulkData source f
    | _ => s.udpAbort source f 0x05040001

/-- TRANSACTION_TIMEOUT: no chunk for longer than 0x2031.05 (R49). -/
def State.transactionIdles (s : State) (source id : Nat) : State :=
  match s.ctl.transactions.find? fun t => t.source == source && t.id == id with
  | none => s
  | some t =>
    if s.served && decide (t.last + s.get 0x203105 * 1000000 < s.now) then
      (s.dropTransaction source id).send (.udp (s.get 0x280008) (s.get 0x203102) source (s.get 0x203102) (dictFrame 0xEE id t.key 0 0x05040000 []))
    else s

/-! ### SDO and USDO (R40, R65) -/

/-- The CRC of an SDO block transfer: CRC-16 with polynomial 0x1021 from 0. PRESUMED: CiA 301 (log entry 60). -/
def crc16Bits : Nat → Nat → Nat
  | 0, c => c
  | n + 1, c => crc16Bits n (if c / 32768 % 2 = 1 then (c * 2 % 65536) ^^^ 0x1021 else c * 2 % 65536)
def crc16 (b : Bytes) : Nat := b.foldl (fun c x => crc16Bits 8 (c ^^^ (x.toNat * 256))) 0

/-- The bytes an expedited answer, and one segment, carry on a port: classic or FD. PRESUMED: CiA 301, CiA 1301. -/
def State.expeditedSize (s : State) (p : Nat) : Nat := if s.get (0x203001 + p) = 2 then 56 else 4
def State.segmentSize (s : State) (p : Nat) : Nat := if s.get (0x203001 + p) = 2 then 56 else 7

/-- A transfer on a port ends with an abort. -/
def State.sdoAbort (s : State) (p code : Nat) : State := (s.setSdo p none).answer (.can p) code

/-- A download of several messages opens. -/
def State.sdoOpenDownload (s : State) (p index sub size : Nat) (block : Bool) : State :=
  let s := s.supersede p
  let k := keyOf index sub
  let code := match s.gate k true, objOf k with
    | 0, some o => if o.ty = .dom then s.startCode k else if size ≠ o.ty.width / 8 then 0x06070010 else 0
    | c, _ => c
  if code ≠ 0 then s.answer (.can p) code
  else (s.setSdo p (some { upload := false, block, key := k, size, data := [], toggle := false, last := s.now })).answer (.can p) 0

/-- A download is complete. -/
def State.sdoFinish (s : State) (p : Nat) (o : SdoOpen) : State :=
  let s := s.setSdo p none
  if o.data.length ≠ o.size then s.answer (.can p) 0x06070010
  else if (objOf o.key).any (fun x => x.ty == .dom) then s.finishTransfer (.can p) none o.key o.data
  else s.hostWrite (.can p) none o.key o.data

/-- An upload opens, or is answered at once where it fits one message; a block upload opens and tells its size. -/
def State.sdoOpenUpload (s : State) (p index sub : Nat) (block : Bool) : State :=
  let s := s.supersede p
  let k := keyOf index sub
  match s.readObject k with
  | (0, b) =>
    let s := s.afterRead k
    if !block && decide (b.length ≤ s.expeditedSize p) then s.answer (.can p) 0 b
    else
      (s.setSdo p (some { upload := true, block, key := k, size := b.length, data := b, toggle := false, last := s.now, crc := crc16 b })).answer
        (.can p) 0 (leBytes 4 b.length)
  | (c, _) => s.answer (.can p) c

/-- A request on the transfer that is open: one of another kind ends it with an abort. -/
def State.sdoOn (s : State) (p : Nat) (upload block : Bool) (f : SdoOpen → State) : State :=
  match s.sdoOf p with
  | some o => if o.upload == upload && o.block == block then f o else s.sdoAbort p 0x05040001
  | none => s.sdoAbort p 0x05040001

/-- A segment of a download. -/
def State.sdoSegment (s : State) (p : Nat) (toggle : Bool) (data : Bytes) (last : Bool) (o : SdoOpen) : State :=
  if toggle != o.toggle then s.sdoAbort p 0x05030000
  else if s.looseStart o.size o.data (o.data ++ data) then s.sdoAbort p 0x08000022
  else
    let o := { o with data := o.data ++ data, toggle := !o.toggle, last := s.now }
    if last then s.sdoFinish p o else (s.setSdo p (some o)).answer (.can p) 0

/-- Data of a block download. -/
def State.sdoBlock (s : State) (p : Nat) (data : Bytes) (o : SdoOpen) : State :=
  if s.looseStart o.size o.data (o.data ++ data) then s.sdoAbort p 0x08000022
  else (s.setSdo p (some { o with data := o.data ++ data, last := s.now })).answer (.can p) 0

/-- A segment of an upload is asked for. DESIGN CHOICE (log entry 84): an upload opened before a full reset was acknowledged is served on
until the reset. -/
def State.sdoNextSegment (s : State) (p : Nat) (toggle : Bool) (o : SdoOpen) : State :=
  if toggle != o.toggle then s.sdoAbort p 0x05030000
  else
    let n := s.segmentSize p
    let rest := o.data.drop n
    let s := s.setSdo p (if rest.isEmpty then none else some { o with data := rest, toggle := !o.toggle, last := s.now })
    s.answer (.can p) 0 (o.data.take n)

/-- The client of a block upload confirms segments of the block sent and asks for the next one; after the last byte the content's CRC
is sent (R35). PRESUMED: CiA 301 gives segments of 7 bytes and blocks of 1 to 127 segments (log entry 60). -/
def State.sdoNextBlock (s : State) (p received blockSize : Nat) (o : SdoOpen) : State :=
  let rest := o.data.drop (min (7 * received) o.sent)
  if rest.isEmpty then (s.setSdo p (some { o with data := [], sent := 0, last := s.now })).answer (.can p) 0 (leBytes 2 o.crc)
  else if blockSize = 0 ∨ 127 < blockSize then s.sdoAbort p 0x05040001
  else
    let b := rest.take (7 * blockSize)
    (s.setSdo p (some { o with data := rest, sent := b.length, last := s.now })).answer (.can p) 0 b

/-- The requests of a block transfer, which a CANopen FD port does not have (R35). -/
def blockRequest : SdoRequest → Bool
  | .initiateBlockDownload .. | .blockData _ | .blockEnd _ | .initiateBlockUpload .. | .blockUploadNext .. | .blockUploadEnd => true
  | _ => false

/-- A request on a port's server channel, under the client's COB-ID (R40). -/
def State.sdoRequest (s : State) (p cob : Nat) (r : SdoRequest) : State :=
  if !s.canServes p || cob != s.clientCob then s
  else if blockRequest r && s.get (0x203001 + p) == 2 then s.sdoAbort p 0x05040001
  else match r with
    | .initiateDownload index sub data => (s.supersede p).hostWrite (.can p) none (keyOf index sub) data
    | .initiateSegmentedDownload index sub size => s.sdoOpenDownload p index sub size false
    | .initiateBlockDownload index sub size => s.sdoOpenDownload p index sub size true
    | .initiateUpload index sub => s.sdoOpenUpload p index sub false
    | .initiateBlockUpload index sub => s.sdoOpenUpload p index sub true
    | .downloadSegment toggle data last => s.sdoOn p false false (s.sdoSegment p toggle data last)
    | .uploadSegment toggle => s.sdoOn p true false (s.sdoNextSegment p toggle)
    | .blockData data => s.sdoOn p false true (s.sdoBlock p data)
    | .blockEnd crc => s.sdoOn p false true fun o => if crc != crc16 o.data then s.sdoAbort p 0x05040004 else s.sdoFinish p o
    | .blockUploadNext received blockSize => s.sdoOn p true true (s.sdoNextBlock p received blockSize)
    | .blockUploadEnd => s.sdoOn p true true fun o => if o.data.isEmpty then s.setSdo p none else s.sdoAbort p 0x05040001
    | .clientAbort => (s.setSdo p none).unstageCan p
    | .invalid => s.sdoAbort p 0x05040001

/-- SDO_TIMEOUT: no progress for 500 ms (R65). -/
def State.sdoIdles (s : State) (p : Nat) : State :=
  match s.sdoOf p with
  | some o => if s.canServes p && decide (o.last + 500000000 ≤ s.now) then s.sdoAbort p 0x05040000 else s
  | none => s

/-! ### NMT and heartbeat (R41, R42) -/

def State.setPort (s : State) (p : Nat) (f : CanPort → CanPort) : State := { s with ctl := { s.ctl with ports := modAt s.ctl.ports p f } }

/-- An NMT command to this node or to all nodes, on an enabled port while the dictionary is served. -/
def State.nmtHears (s : State) (p node : Nat) : Bool := s.served && s.portOn p && (node == 0 || node == s.nodeId)

/-- The boot-up message; the heartbeat's time starts. PRESUMED: CiA 301 gives the COB-ID and the state codes. -/
def State.bootUp (s : State) (p : Nat) : State :=
  (s.send (.can p (0x700 + s.nodeId) [0])).setPort p fun q => { q with heartbeatAt := s.now }

/-- The port's NMT state is set. -/
def State.nmtTo (s : State) (p node : Nat) (n : Nmt) : State :=
  if s.nmtHears p node then s.setPort p fun q => { q with nmt := n } else s

/-- Only the port's communication state is reset (R42). -/
def State.nmtReset (s : State) (p node : Nat) : State :=
  if s.nmtHears p node then ((s.unstageCan p).setPort p fun q => { q with nmt := .preOperational, sdo := none }).bootUp p else s

def Nmt.code : Nmt → Nat
  | .stopped => 4
  | .operational => 5
  | .preOperational => 0x7F

/-- The producer heartbeat falls due (R41). -/
def State.heartbeat (s : State) (p : Nat) : State :=
  match s.ctl.ports[p]? with
  | none => s
  | some q =>
    let period := s.get 0x101700
    if s.served && s.portOn p && period != 0 && decide (q.heartbeatAt + period * 1000000 ≤ s.now) then
      (s.send (.can p (0x700 + s.nodeId) (leBytes 1 q.nmt.code))).setPort p fun q => { q with heartbeatAt := s.now }
    else s

/-! ### Events lost (R53) -/

/-- Once the queue has room, one frame tells how many events were discarded. -/
def State.tellLost (s : State) : State :=
  if s.ctl.eventsLost = 0 ∨ 64 ≤ s.ctl.eventFrames.length ∨ !s.served then s
  else
    let n := s.ctl.eventsLost
    let s : State := { s with ctl := { s.ctl with eventsLost := 0 } }
    s.eventFrame (s.eventPayload 5 n s.ctl.lostSeq s.ctl.lostTime)

/-! ### The commands' meanings: CAN ports are 0 and 1 -/

/-- UDP_READ (R47). -/
def execUdpRead (t source : Nat) (arrival : UdpArrival) (frame : Bytes) (s : State) : Host.Outcome State Fault Refusal :=
  actIf (arrival.arrival.mac < 2) t s fun s => s.udpFrame source arrival frame

/-- UDP_WRITE (R47). -/
def execUdpWrite (t source : Nat) (arrival : UdpArrival) (frame : Bytes) (s : State) : Host.Outcome State Fault Refusal :=
  actIf (arrival.arrival.mac < 2) t s fun s => s.udpFrame source arrival frame

/-- UDP_BULK_START (R47). -/
def execUdpBulkStart (t source : Nat) (arrival : UdpArrival) (frame : Bytes) (s : State) : Host.Outcome State Fault Refusal :=
  actIf (arrival.arrival.mac < 2) t s fun s => s.udpFrame source arrival frame

/-- UDP_BULK_DATA (R48). -/
def execUdpBulkData (t source : Nat) (arrival : UdpArrival) (frame : Bytes) (s : State) : Host.Outcome State Fault Refusal :=
  actIf (arrival.arrival.mac < 2) t s fun s => s.udpFrame source arrival frame

/-- TRANSACTION_TIMEOUT (R49). -/
def execTransactionTimeout (t source transaction : Nat) (s : State) : Host.Outcome State Fault Refusal :=
  act t s fun s => s.transactionIdles source transaction

/-- SDO_TRANSFER (R40). -/
def execSdoTransfer (t port : Nat) (frame : SdoFrame) (s : State) : Host.Outcome State Fault Refusal :=
  actIf (port < 2) t s fun s => s.sdoRequest port frame.cob frame.request

/-- SDO_TIMEOUT (R65). -/
def execSdoTimeout (t port : Nat) (s : State) : Host.Outcome State Fault Refusal := actIf (port < 2) t s fun s => s.sdoIdles port

/-- NMT_START (R42). -/
def execNmtStart (t port node : Nat) (s : State) : Host.Outcome State Fault Refusal :=
  actIf (port < 2) t s fun s => s.nmtTo port node .operational

/-- NMT_STOP (R42). -/
def execNmtStop (t port node : Nat) (s : State) : Host.Outcome State Fault Refusal :=
  actIf (port < 2) t s fun s => s.nmtTo port node .stopped

/-- NMT_ENTER_PRE_OPERATIONAL (R42). -/
def execNmtEnterPreOperational (t port node : Nat) (s : State) : Host.Outcome State Fault Refusal :=
  actIf (port < 2) t s fun s => s.nmtTo port node .preOperational

/-- NMT_RESET_COMMUNICATION (R42). -/
def execNmtResetCommunication (t port node : Nat) (s : State) : Host.Outcome State Fault Refusal :=
  actIf (port < 2) t s fun s => s.nmtReset port node

/-- NMT_RESET_NODE (R42): the device is not reset. -/
def execNmtResetNode (t port node : Nat) (s : State) : Host.Outcome State Fault Refusal :=
  actIf (port < 2) t s fun s => s.nmtReset port node

/-- PRODUCER_HEARTBEAT (R41). -/
def execProducerHeartbeat (t port : Nat) (s : State) : Host.Outcome State Fault Refusal :=
  actIf (port < 2) t s fun s => s.heartbeat port

/-- EMCY_INHIBIT_EXPIRY (R44). -/
def execEmcyInhibitExpiry (t port : Nat) (s : State) : Host.Outcome State Fault Refusal :=
  actIf (port < 2) t s fun s => if s.served then s.sendEmcy port else s

/-- EVENTS_LOST_FRAME (R53). -/
def execEventsLostFrame (t : Nat) (s : State) : Host.Outcome State Fault Refusal := act t s State.tellLost

/-- DOMAIN_STAGING_CHECK (R55). -/
def execDomainStagingCheck (t index : Nat) (check : ItemResult) (s : State) : Host.Outcome State Fault Refusal :=
  act t s fun s => if s.served then s.checkStaged (keyOf index check.item) check.ok else s

end Sys2Proof.Machine
end

