-- ==== Sys2Proof/Machine/Rows.lean ====
section
/-!
DEFINITION. Sys2Proof/Machine/Rows.lean: the host accesses that have rows of their own, each a write or a read of its
object, and the commands after which values stored while a function was not usable are applied (R61).
-/

namespace Sys2Proof.Machine

/-! ### Values stored while a function was not usable (R61) -/

/-- A timed output whose mode was written meanwhile takes its settings (R373). -/
def State.settleOutput (s : State) (n : Nat) : State :=
  if s.usable 0xD && (s.timeOut n).owed then s.applyOutput n else s

/-- Ports, streams, slots and outputs of the functions that are usable follow their enables, and the CCI masters their queues. -/
def State.settleEnables (s : State) : State :=
  let s := (List.range 8).foldl State.settlePort s
  let s := (List.range 24).foldl State.settleStream s
  let s := (List.range 32).foldl State.settleSlot s
  let s := ((List.range 2).foldl (fun s k => s.settleFlat k none) s).resumeList
  ((List.range 8).foldl State.settleOutput s).cciAll

/-- A tick at which Run is entered again brings functions back out of Stopped. -/
def State.tickAndSettle (s : State) : State :=
  let held := s.power.phase == .hold
  let s := s.contentTick
  if held && s.power.phase == .run then s.settleEnables.applyCap else s

/-- PLL_LOCK (R26). -/
def execPllLock (t : Nat) (domain : PllDomain) (s : State) : Host.Outcome State Fault Refusal :=
  act t s fun s => (s.pllLocked domain).settleEnables.applyCap

/-- CONTENT_FRAME_TICK (R367). -/
def execContentFrameTick (t : Nat) (s : State) : Host.Outcome State Fault Refusal := act t s State.tickAndSettle

/-- FUNCTION_RESET_COMPLETE (R64): functions are 0x0 to 0xF. -/
def execFunctionResetComplete (t function : Nat) (s : State) : Host.Outcome State Fault Refusal :=
  actIf (function < 16) t s fun s => (s.completeFunctionReset function).settleEnables

/-- MAC_LINK_CHANGE (R362): MACs are 0 and 1, rates as 0x2800.09. -/
def execMacLinkChange (t mac rate : Nat) (s : State) : Host.Outcome State Fault Refusal :=
  actIf (mac < 2 && rate < 5) t s fun s => if s.served then (s.macLink mac rate).settleEnables else s

/-! ### Writes and reads of objects that have rows of their own -/

/-- REGISTER_WRITE (R50): an index has 16 bits, a subindex 8. -/
def execRegisterWrite (t : Nat) (path : Path) (index sub : Nat) (data : Bytes) (s : State) : Host.Outcome State Fault Refusal :=
  actIf (index < 65536 && sub < 256) t s fun s => s.access path (keyOf index sub) data

/-- EVENT_ACKNOWLEDGE (R54). -/
def execEventAcknowledge (t : Nat) (path : Path) (sequence : Nat) (s : State) : Host.Outcome State Fault Refusal :=
  act t s fun s => s.access path 0x204004 (leBytes 4 sequence)

/-- FULL_RESET (R63). -/
def execFullReset (t : Nat) (path : Path) (value : Nat) (s : State) : Host.Outcome State Fault Refusal :=
  act t s fun s => s.access path 0x202001 (leBytes 4 value)

/-- FUNCTION_RESET (R64). -/
def execFunctionReset (t : Nat) (path : Path) (function : Nat) (s : State) : Host.Outcome State Fault Refusal :=
  act t s fun s => s.access path 0x202002 (leBytes 1 function)

/-- REQUEST_RUN (R28). -/
def execRequestRun (t : Nat) (path : Path) (s : State) : Host.Outcome State Fault Refusal := act t s fun s => s.access path 0x210002 [0]

/-- REQUEST_HOLD (R28). -/
def execRequestHold (t : Nat) (path : Path) (s : State) : Host.Outcome State Fault Refusal := act t s fun s => s.access path 0x210002 [1]

/-- REQUEST_SLEEP (R28). -/
def execRequestSleep (t : Nat) (path : Path) (s : State) : Host.Outcome State Fault Refusal := act t s fun s => s.access path 0x210002 [2]

/-- REQUEST_OFF (R28). -/
def execRequestOff (t : Nat) (path : Path) (s : State) : Host.Outcome State Fault Refusal := act t s fun s => s.access path 0x210002 [3]

/-- COMMIT_REQUEST (R84). -/
def execCommitRequest (t : Nat) (path : Path) (s : State) : Host.Outcome State Fault Refusal := act t s fun s => s.access path 0x400003 [1]

/-- SURFACE_FORMAT (R76): surfaces are 0 to 63. -/
def execSurfaceFormat (t : Nat) (path : Path) (surface format : Nat) (s : State) : Host.Outcome State Fault Refusal :=
  actIf (surface < 64) t s fun s => s.access path (surfaceK surface 1) (leBytes 1 format)

/-- RAY_MAP_SWAP_REQUEST (R110). -/
def execRayMapSwapRequest (t : Nat) (path : Path) (s : State) : Host.Outcome State Fault Refusal :=
  act t s fun s => s.access path 0x420001 [1]

/-- RAY_MAP_SWAP_WITHDRAW (R109). -/
def execRayMapSwapWithdraw (t : Nat) (path : Path) (s : State) : Host.Outcome State Fault Refusal :=
  act t s fun s => s.access path 0x420001 [0]

/-- SHADOW_GEOMETRY (R108): the transfer as the host sends it, and whether both copies read back. -/
def execShadowGeometry (t : Nat) (path : Path) (data : Bytes) (readBackOk : Bool) (s : State) : Host.Outcome State Fault Refusal :=
  act t s fun s => s.access path 0x420004 data true { readBack := readBackOk }

/-- SHADOW_ENTRIES (R108). -/
def execShadowEntries (t : Nat) (path : Path) (data : Bytes) (readBackOk : Bool) (s : State) : Host.Outcome State Fault Refusal :=
  act t s fun s => s.access path 0x420005 data true { readBack := readBackOk }

/-- SHADOW_ENTRY_PATCH (R108). -/
def execShadowEntryPatch (t : Nat) (path : Path) (data : Bytes) (readBackOk : Bool) (s : State) : Host.Outcome State Fault Refusal :=
  act t s fun s => s.access path 0x420006 data true { readBack := readBackOk }

/-- SHADOW_COPY_REQUEST (R110). -/
def execShadowCopyRequest (t : Nat) (path : Path) (s : State) : Host.Outcome State Fault Refusal :=
  act t s fun s => s.access path 0x420007 [1]

/-- CHECK_REQUEST (R196). -/
def execCheckRequest (t : Nat) (path : Path) (data : Bytes) (s : State) : Host.Outcome State Fault Refusal :=
  act t s fun s => s.access path 0x490007 data

/-- DRIVE_TABLE_WRITE (R185): tables are 0 to 7. -/
def execDriveTableWrite (t : Nat) (path : Path) (table : Nat) (data : Bytes) (s : State) : Host.Outcome State Fault Refusal :=
  actIf (table < 8) t s fun s => s.access path (0x490018 + table) data true

/-- SENSE_REQUEST (R194). -/
def execSenseRequest (t : Nat) (path : Path) (module : Nat) (s : State) : Host.Outcome State Fault Refusal :=
  act t s fun s => s.access path 0x490039 (leBytes 1 module)

/-- PORT_ENABLE (R209): ports are 0 to 7. -/
def execPortEnable (t : Nat) (path : Path) (port value : Nat) (s : State) : Host.Outcome State Fault Refusal :=
  actIf (port < 8) t s fun s => s.access path (camK port 0 1) (leBytes 1 value)

/-- CCI_WRITE (R217): ports are 0 to 7. -/
def execCciWrite (t : Nat) (path : Path) (port : Nat) (data : Bytes) (s : State) : Host.Outcome State Fault Refusal :=
  actIf (port < 8) t s fun s => s.access path (camK port 0x30 1) data

/-- CCI_READ (R217). -/
def execCciRead (t : Nat) (path : Path) (port : Nat) (data : Bytes) (s : State) : Host.Outcome State Fault Refusal :=
  actIf (port < 8) t s fun s => s.access path (camK port 0x30 1) data

/-- PAIR_ENABLE (R237): pairs are 0 to 3. -/
def execPairEnable (t : Nat) (path : Path) (pair value : Nat) (s : State) : Host.Outcome State Fault Refusal :=
  actIf (pair < 4) t s fun s => s.access path (pairK pair 1) (leBytes 1 value)

/-- STREAM_ENABLE (R244): streams are 0 to 23. -/
def execStreamEnable (t : Nat) (path : Path) (stream : Nat) (s : State) : Host.Outcome State Fault Refusal :=
  actIf (stream < 24) t s fun s => s.access path (streamK stream 1) [1]

/-- STREAM_DISABLE (R255). -/
def execStreamDisable (t : Nat) (path : Path) (stream : Nat) (s : State) : Host.Outcome State Fault Refusal :=
  actIf (stream < 24) t s fun s => s.access path (streamK stream 1) [0]

/-- SLOT_ENABLE (R260): slots are 0 to 31. -/
def execSlotEnable (t : Nat) (path : Path) (slot : ItemResult) (value : Nat) (s : State) : Host.Outcome State Fault Refusal :=
  actIf (slot.item < 32) t s fun s => s.access path (slotK slot.item 1) (leBytes 1 value) (x := { fits := slot.ok })

/-- HOST_JOB_COMPRESS (R281): the job runs in the mode of 0x3C00.04. -/
def execHostJobCompress (t : Nat) (path : Path) (data : Bytes) (s : State) : Host.Outcome State Fault Refusal :=
  act t s fun s => s.access path 0x3C0008 data true

/-- HOST_JOB_DECOMPRESS (R279). -/
def execHostJobDecompress (t : Nat) (path : Path) (data : Bytes) (s : State) : Host.Outcome State Fault Refusal :=
  act t s fun s => s.access path 0x3C0008 data true

/-- BLIT_LIST (R287). -/
def execBlitList (t : Nat) (path : Path) (data : Bytes) (s : State) : Host.Outcome State Fault Refusal :=
  act t s fun s => s.access path 0x430001 data true

/-- OUTPUT_ENABLE (R298): outputs are 0 and 1; whether the training that it starts succeeds. -/
def execOutputEnable (t : Nat) (path : Path) (output value : Nat) (trained : Bool) (s : State) : Host.Outcome State Fault Refusal :=
  actIf (output < 2) t s fun s => s.access path (flatK output 1) (leBytes 1 value) false { trained := some trained }

/-- SCAN_COMMIT (R301). -/
def execScanCommit (t : Nat) (path : Path) (output : Nat) (s : State) : Host.Outcome State Fault Refusal :=
  actIf (output < 2) t s fun s => s.access path (flatK output 0x0A) [1]

/-- TIMING_COMMIT (R302). -/
def execTimingCommit (t : Nat) (path : Path) (output : Nat) (s : State) : Host.Outcome State Fault Refusal :=
  actIf (output < 2) t s fun s => s.access path (flatK output 5) [1]

/-- POWER_LIMIT (R339). -/
def execPowerLimit (t : Nat) (path : Path) (milliwatts : Nat) (s : State) : Host.Outcome State Fault Refusal :=
  act t s fun s => s.access path 0x211001 (leBytes 2 milliwatts)

/-- OUTPUT_MODE (R373): timed outputs are 0 to 7. -/
def execOutputMode (t : Nat) (path : Path) (output mode : Nat) (s : State) : Host.Outcome State Fault Refusal :=
  actIf (output < 8) t s fun s => s.access path (outK output 1) (leBytes 1 mode)

/-- TIMESTAMPS_READ (R379): capture inputs are 0 to 3. -/
def execTimestampsRead (t : Nat) (path : Path) (input : Nat) (s : State) : Host.Outcome State Fault Refusal :=
  actIf (input < 4) t s fun s => s.accessRead path (capK input 4)

/-- ROLE_HANDOVER (R394). -/
def execRoleHandover (t : Nat) (path : Path) (s : State) : Host.Outcome State Fault Refusal := act t s fun s => s.access path 0x230005 [1]

/-- HOST_NOTE (R419). -/
def execHostNote (t : Nat) (path : Path) (note : Bytes) (s : State) : Host.Outcome State Fault Refusal :=
  act t s fun s => s.access path 0x22100D note true

/-- BEACON_READ (R419). -/
def execBeaconRead (t : Nat) (path : Path) (s : State) : Host.Outcome State Fault Refusal := act t s fun s => s.accessRead path 0x22100C

/-- OTP_BURN (R443). -/
def execOtpBurn (t : Nat) (path : Path) (value : Nat) (s : State) : Host.Outcome State Fault Refusal :=
  act t s fun s => s.access path 0x261003 (leBytes 4 value)

/-- FIRMWARE_INSTALL (R435): the transfer as the host sends it, and whether the slot reads back. -/
def execFirmwareInstall (t : Nat) (path : Path) (image : Bytes) (readBackOk : Bool) (s : State) : Host.Outcome State Fault Refusal :=
  act t s fun s => s.access path 0x262002 image true { readBack := readBackOk }

end Sys2Proof.Machine
end

