-- ==== Sys2Proof/Machine/Startup.lean ====
section
/-!
DEFINITION. Sys2Proof/Machine/Startup.lean: the cold start (R429) with its firmware slots (R431 to R434), trims and repair list
(R326, R440), user OTP (R442), Beacon recovery (R415) and self-tests; start-up writes; the wake from Sleep (R430).
-/

namespace Sys2Proof.Machine

/-! ### The firmware slots (R431 to R434) -/

/-- The partition table in use; with neither copy valid the default layout is written (R432). -/
def State.findTable (s : State) : State :=
  match s.nv.table with
  | some _ => s
  | none =>
    let b := defaultTable Config.nvmKiB
    ({ s with nv := { s.nv with tables := [b, b] } }).raise 0xF 0x29

/-- A slot is flagged failed (R434). -/
def State.flagSlot (s : State) (k : Nat) : State := ({ s with nv := s.nv.failSlot k }).raise 0xF 0x26 k

/-- The first slot of some that verifies; those before it are flagged failed. -/
def State.trySlots (s : State) (ok : List Bool) : List Nat → State × Option Nat
  | [] => (s, none)
  | k :: l => if nth ok k false && imageOk (nth s.nv.slots k []) then (s, some k) else (s.flagSlot k).trySlots ok l

/-- The image chosen (R434): a slot, or the ROM factory image. The slot that the last start tried in vain is flagged first. -/
def State.chooseImage (s : State) (ok : List Bool) : State × Option Nat :=
  if !s.beacon.present then (s.put 0x262001 2, none)
  else
    let s := match s.nv.triedSlot with
      | some k => if s.get 0x202003 = 4 then s.flagSlot k else s
      | none => s
    match ({ s with nv := { s.nv with triedSlot := none } } : State).trySlots ok s.nv.bootOrder with
    | (s, some k) => (s.put 0x262001 k, some k)
    | (s, none) => ((s.put 0x262001 2).raise 0xF 0x27, none)

/-! ### Trims and repairs (R326, R440) -/

/-- One entry of the repair list is applied. -/
def State.applyRepair (s : State) (e : Bytes) : State :=
  let a := byteAt e 1
  let wide := fieldLE e 2 2
  match byteAt e 0 with
  | 1 => if (s.rank a).state = 0 then s else s.rankState a 6
  | 2 =>
    let s := s.setChannel a { s.channel a with excluded := true }
    ([2 * a, 2 * a + 1].foldl (fun (s : State) r => if (s.rank r).state = 1 then s.rankState r 7 else s) s).contain 2 6 .degraded
  | 3 => if bitOf (s.rank a).marked (byteAt e 2) then s else s.setRank a { s.rank a with marked := (s.rank a).marked + 2 ^ byteAt e 2 }
  | 4 => s.setCarver a { s.carver a with working := false }
  | 5 => s.setMacro wide { s.macroOf wide with rowsLeft := (s.macroOf wide).rowsLeft - 1 }
  | 6 => s.setMacro wide { s.macroOf wide with columnsLeft := (s.macroOf wide).columnsLeft - 1 }
  | _ => s

/-- A rank in service with a marked pin makes function 0x2 Degraded (R324). -/
def State.markedInService (s : State) : State :=
  if s.memory.ranks.any fun r => r.state == 1 && r.marked != 0 then s.contain 2 4 .degraded else s

/-- The repair list of the copy in use. -/
def State.applyRepairs (s : State) (l : List Bytes) : State :=
  let s : State := { s with cal := { s.cal with repairs := l } }
  let s := (l.foldl State.applyRepair s).markedInService
  s.follow (decide (s.workingCarvers < 32)) 3 2

/-- The trims of the copy in use; a copy that fails its check is rewritten from the other (R440). -/
def State.readTrims (s : State) : State :=
  match (if s.beacon.present then s.nv.trim else none) with
  | none =>
    let s : State := { s with cal := { s.cal with trims := factoryTrims, calibrated := false } }
    (s.put 0x260006 3).raise 0xF 0x23
  | some c =>
    let s := if s.nv.trims.all trimValid then s else ({ s with nv := { s.nv with trims := [c, c] } }).raise 0xF 0x22
    let calibrated := bitOf (byteAt c 3) 0
    let s : State := { s with cal := { s.cal with trims := if calibrated then (c.drop 24).take 64 else factoryTrims, calibrated } }
    (s.put 0x260006 (if calibrated then 1 else 0)).applyRepairs (repairsOf c)

/-! ### User OTP (R441, R442) -/

/-- One record that is not a start-up write gives an RW-O value. -/
def State.loadRecord (s : State) (r : Nat × Bool × Bytes) : State :=
  if r.2.1 || !otpKeys.contains r.1 || r.2.2.length != widthOf r.1 / 8 then s else s.put r.1 (leNat r.2.2)

/-- The records of the generation in use. -/
def Nv.records (n : Nv) : List (Nat × Bool × Bytes) :=
  match n.otpInUse with
  | none => []
  | some g => let b := nth n.otp g []; otpRecords 500 ((b.drop 8).take (fieldLE b 4 2))

/-- The RW-O values, and the start-up writes as 0x2610.02. -/
def State.loadOtp (s : State) : State :=
  let rs := s.nv.records
  let s := s.put 0x261001 (s.nv.otpInUse.getD 0xFF)
  let s := rs.foldl State.loadRecord s
  let own := (rs.filter fun r => r.2.1).flatMap fun r => recordBytes r.1 true r.2.2
  if own.isEmpty then s else s.putDom 0x261002 own

/-! ### Start-up writes (R442) -/

/-- A start-up write is skipped. -/
def State.skipWrite (s : State) : State := (s.bump 0x261006).raise 0xF 0x28

/-- A record writes a DOMAIN object. -/
def writesDomain (k : Nat) : Bool := match objOf k with | some o => o.ty == .dom | none => false

/-- Records in order, as host writes: a DOMAIN write waits for function 0x2, and with it those after it; if function 0x2 is
Failed, they are skipped. -/
def State.applyWrites (s : State) : List (Nat × Bytes) → State
  | [] => { s with cal := { s.cal with paused := [] } }
  | r :: l =>
    if writesDomain r.1 && !s.usable 2 then
      if s.hasFailed 2 then (r :: l).foldl (fun (s : State) _ => s.skipWrite) { s with cal := { s.cal with paused := [] } }
      else { s with cal := { s.cal with paused := r :: l } }
    else match s.writeObject .internal none r.1 r.2 false {} with
      | (s, some 0) | (s, none) => s.applyWrites l
      | (s, some _) => s.skipWrite.applyWrites l

/-- The start-up writes of 0x2610.02. -/
def State.startupWrites (s : State) : State :=
  s.applyWrites ((s.nv.records.filter fun r => r.2.1).map fun r => (r.1, r.2.2))

/-- Function 0x2 has become Ready, Degraded or Failed. -/
def State.resumeWrites (s : State) : State :=
  if s.served && !s.cal.paused.isEmpty && (s.usable 2 || s.hasFailed 2) then s.applyWrites s.cal.paused else s

/-! ### The Beacon at a start (R409, R415, R428, R472) -/

/-- A power-fail entry whose flush no checkpoint followed (R415). -/
def Nv.flushMissing (n : Nv) : Bool :=
  n.journal.any fun p => p.2.kind == 0x0A && bitOf p.2.flags 1 &&
    match n.latestCheckpoint with | some c => decide (c.nextSeq ≤ p.2.seq) | none => true

/-- The journal is recovered: the next sequence number, and writing resumes at a torn entry's start (R415). -/
def State.recoverJournal (s : State) : State :=
  if !s.beacon.present then s
  else
    let s : State := { s with beacon := { s.beacon with nextSeq := max s.beacon.nextSeq s.nv.nextSeq } }
    let s := if s.nv.flushMissing then s.raise 0xF 5 else s
    match s.nv.torn with
    | none => s
    | some (at_, seq) =>
      let s : State := { s with
        nv := { s.nv with torn := none, head := at_ }, beacon := { s.beacon with nextSeq := max s.beacon.nextSeq (seq + 1) } }
      ((s.bump 0x221008).raise 0xF 4).beaconAdd 0x0D 0 (leBytes 8 seq ++ leBytes 8 seq ++ [2]) []

/-- The start entry, and before it the power-fail entry that a recognition in Sleep owes (R428, R472). -/
def State.startEntries (s : State) : State :=
  let s := if s.power.sleepPfail then
      ({ s with power := { s.power with sleepPfail := false } }).beaconAdd 0x0A 0 (List.replicate 12 0) []
    else s
  s.beaconAdd 1 0 (leBytes 1 (s.get 0x202003) ++ [if s.pair.strapB then 1 else 0] ++ leBytes 1 s.roleView ++ [0]
    ++ leBytes 4 s.firmwareVersion ++ leBytes 4 s.nv.resets.length) []

/-! ### Self-tests (R429 steps 6 and 11) -/

/-- Columns that fail their self-test are repaired first, then rows, from each macro's spares (R331). -/
def State.selfTestSram (s : State) (columns : List (Nat × Nat)) (l : List SramFinding) : State :=
  let s := columns.foldl (fun (s : State) c => s.repairColumn c.1 c.2) s
  l.foldl (fun (s : State) f => if f.double || decide (0 < f.corrections) then s.repairRow f.macroNo f.row else s) s

/-- The numbers of a bitmap's set bits below `n`. -/
def bitsBelow (n v : Nat) : List Nat := (List.range n).filter fun i => bitOf v i

/-- The units that fail their self-tests are taken out of use (R211, R230, R266, R286, R307, R348). -/
def State.selfTests (s : State) (f : BootFacts) : State :=
  let s := s.selfTestSram f.sramColumns f.sram
  let s := (bitsBelow 36 f.carversFailed).foldl State.retireCarver s
  let s := (bitsBelow 4 f.ispFailed).foldl State.failPipeline s
  let s := (bitsBelow 2 f.slalomFailed).foldl State.failEngine s
  let s := (bitsBelow 2 f.encoderFailed).foldl State.failEncoder s
  let s := (bitsBelow 2 f.decoderFailed).foldl State.failDecoder s
  let s := if f.groomerFailed then s.raise 8 2 else s
  if f.blitterFailed then s.failBlitter else s

/-! ### The cold start (R429) -/

/-- The PLLs that Hold does not stop: all but management's, which runs already (R25, R26). -/
def keptDomains : List PllDomain := [.memory, .panelLanes, .ethLanes, .twinLanes]

/-- The stages as a cold start leaves them: memory, Lift, the links, panel care and Ethernet start; the others are up, and
wait for their PLLs. -/
def startStages : List Stage := (List.range 16).map fun n => if [2, 3, 0xA, 0xB, 0xD, 0xE].contains n then .starting else .up

/-- Ranks of the fit are to be trained (R308, R320). -/
def State.fitRanks (s : State) : State :=
  (List.range 16).foldl (fun (s : State) c => (s.fitted c).foldl (fun (s : State) r => s.rankState r 1) s) s

/-- Boot-up messages on the enabled CAN ports (R42). -/
def State.bootUps (s : State) : State :=
  [0, 1].foldl (fun (s : State) p => if s.portOn p then s.bootUp p else s) s

/-- The start from the boot ROM on; the reset cause is known. -/
def State.start (s : State) (f : BootFacts) (cause : Nat) : State :=
  let s := if cause = 0 then ({ s with nv := { s.nv with resets := [] } }).put 0x213006 0 else s
  let present := decide (24896 ≤ Config.nvmKiB)
  let s : State := { s.put 0x202003 cause with
    pair := { s.pair with strapB := f.strapB }, ctl := { s.ctl with releasedAt := some (s.ctl.releasedAt.getD s.now) }, beacon := { s.beacon with present, nextSeq := if present then s.nv.nextSeq else 0 } }
  let s := (s.send (.pin .xspiResetN true)).loadOtp
  let s := s.fitRanks
  let s := if present then s.findTable else s.raise 0xF 1
  let (s, slot) := s.chooseImage f.slotOk
  if slot.isSome && !f.slotReadable then
    { s with nv := { s.nv with triedSlot := slot }, power := { s.power with phase := .startup, nextCause := none } }
  else
    let rewritten := present && s.nv.trim.isSome && !s.nv.trims.all trimValid
    let s := s.readTrims
    let s := s.put 0x101400 (0x80 + s.nodeId)
    let s := s.recoverJournal
    let s : State := { s with
      stages := startStages, care := { s.care with lastUpdate := s.now }
      power := { s.power with phase := .run, nextCause := none } }
    let s := (s.seekTick.startPlls (keptDomains ++ heldDomains)).startEntries
    -- a trim copy rewritten at this start has its entry (R440, R447)
    let s := if rewritten then s.calibrationEntry 4 2 0 0 0xFF 0 [] else s
    let s := if cause = 4 then s.raise 0 1 else if cause = 5 then s.raise 0 2 else s
    let s := (s.bootUps.send (.pin .hbTx true)).selfTests f
    (s.beginTraining 1).startupWrites

/-- COLD_START after RESET_N, or as the wake from Off or, with its content lost, from Sleep; PFAIL_N low halts it (R427 to
R429), and RESET_N has been released all the same (R59). -/
def State.coldStart (s : State) (f : BootFacts) : State :=
  if s.power.pfailLow then
    if s.power.phase == .reset then { s with ctl := { s.ctl with releasedAt := some (s.ctl.releasedAt.getD s.now) } } else s
  else match s.power.phase with
    | .reset => s.start f (s.power.nextCause.getD f.cause)
    | .off => if s.power.waking then (s.hardReset 6).start f 6 else s
    | .sleep => if s.power.waking && s.power.dramLost then (s.hardReset 7).start f 7 else s
    | _ => s

/-! ### The wake from Sleep (R28, R430) -/

/-- The PLLs lock again; into Hold those of the domains that Hold stops stay off (R26, R28). -/
def State.relock (s : State) : State := s.startPlls (keptDomains ++ if s.power.phase == .run then heldDomains else [])

/-- SLEEP_WAKE: the configuration in force at entry resumes, which is a change of power state (R52); the ports send boot-up and stand
in Pre-operational (R42), the links train again, and the MAC links come up anew. -/
def State.sleepWake (s : State) : State :=
  if s.power.phase != .sleep || !s.power.waking || s.power.dramLost || s.power.pfailLow then s
  else
    let s : State := { s with
      power := { s.power with phase := if s.power.hostHold || s.power.tripHold then .hold else .run, waking := false, wakeTimerArmed := none } }
    let s : State := { s with ctl := { s.ctl with lastPower := 2, ports := s.ctl.ports.map fun q => { q with nmt := .preOperational } } }
    let s := (if s.power.phase == .hold then s else (s.put 0x210002 0).startRun.applyLevel).seekTick
    let s := ((s.relock.twinDown).put 0x280009 0).send (.dram 16 2 2)
    let s := if nth s.stages 0xD .off == .failed then s else s.stage 0xD .starting
    let s : State := { s with care := { s.care with lastUpdate := s.now } }
    -- the trained values are reused, and R321's update is run (R320)
    let s : State := { s with memory := { s.memory with ranks := s.memory.ranks.map fun (x : Rank) => { x with updateDue := decide (2 ≤ x.state) } } }
    let s := if s.power.sleepPfail then
        ({ s with power := { s.power with sleepPfail := false } }).beaconAdd 0x0A 0 (List.replicate 12 0) []
      else s
    let s := s.bootUps.send (.pin .hbTx true)
    let s := if nth s.stages 0xA .off == .failed then s else s.beginTraining 1
    s.settleEnables

/-! ### The commands' meanings -/

/-- COLD_START (R429): causes are 0 to 7, findings name existing macros and rows. -/
def execColdStart (t : Nat) (facts : BootFacts) (s : State) : Host.Outcome State Fault Refusal :=
  actIf (facts.cause < 8 && facts.sram.all SramFinding.ok && facts.sramColumns.all fun c => c.1 < 320 && c.2 < 576) t s fun s => s.coldStart facts

/-- STARTUP_WRITES_RESUME (R442). -/
def execStartupWritesResume (t : Nat) (s : State) : Host.Outcome State Fault Refusal := act t s State.resumeWrites

/-- SLEEP_WAKE (R430): with a digest that does not match the same image is loaded from the NVM, only later. -/
def execSleepWake (t : Nat) (_digestOk : Bool) (s : State) : Host.Outcome State Fault Refusal := act t s State.sleepWake

end Sys2Proof.Machine
end

