-- ==== Sys2Proof/Machine/Dispatch.lean ====
section
/-!
DEFINITION. Sys2Proof/Machine/Dispatch.lean: every command is given its meaning, one arm for each row of the table.
-/

namespace Sys2Proof.Machine

def exec (i : Instr) (s : State) : Host.Outcome State Fault Refusal :=
  match i with
  | .registerWrite t path index sub data => Sys2Proof.Machine.execRegisterWrite t path index sub data s
  | .domainStagingCheck t index check => Sys2Proof.Machine.execDomainStagingCheck t index check s
  | .udpRead t source arrival frame => Sys2Proof.Machine.execUdpRead t source arrival frame s
  | .udpWrite t source arrival frame => Sys2Proof.Machine.execUdpWrite t source arrival frame s
  | .udpBulkStart t source arrival frame => Sys2Proof.Machine.execUdpBulkStart t source arrival frame s
  | .udpBulkData t source arrival frame => Sys2Proof.Machine.execUdpBulkData t source arrival frame s
  | .transactionTimeout t source transaction => Sys2Proof.Machine.execTransactionTimeout t source transaction s
  | .sdoTransfer t port frame => Sys2Proof.Machine.execSdoTransfer t port frame s
  | .sdoTimeout t port => Sys2Proof.Machine.execSdoTimeout t port s
  | .nmtStart t port node => Sys2Proof.Machine.execNmtStart t port node s
  | .nmtStop t port node => Sys2Proof.Machine.execNmtStop t port node s
  | .nmtEnterPreOperational t port node => Sys2Proof.Machine.execNmtEnterPreOperational t port node s
  | .nmtResetCommunication t port node => Sys2Proof.Machine.execNmtResetCommunication t port node s
  | .nmtResetNode t port node => Sys2Proof.Machine.execNmtResetNode t port node s
  | .producerHeartbeat t port => Sys2Proof.Machine.execProducerHeartbeat t port s
  | .emcyInhibitExpiry t port => Sys2Proof.Machine.execEmcyInhibitExpiry t port s
  | .eventsLostFrame t => Sys2Proof.Machine.execEventsLostFrame t s
  | .eventAcknowledge t path sequence => Sys2Proof.Machine.execEventAcknowledge t path sequence s
  | .fullReset t path value => Sys2Proof.Machine.execFullReset t path value s
  | .fullResetExecute t => Sys2Proof.Machine.execFullResetExecute t s
  | .functionReset t path function => Sys2Proof.Machine.execFunctionReset t path function s
  | .functionResetComplete t function => Sys2Proof.Machine.execFunctionResetComplete t function s
  | .requestRun t path => Sys2Proof.Machine.execRequestRun t path s
  | .requestHold t path => Sys2Proof.Machine.execRequestHold t path s
  | .requestSleep t path => Sys2Proof.Machine.execRequestSleep t path s
  | .requestOff t path => Sys2Proof.Machine.execRequestOff t path s
  | .powerEntryComplete t => Sys2Proof.Machine.execPowerEntryComplete t s
  | .pllLock t domain => Sys2Proof.Machine.execPllLock t domain s
  | .thermalTripClear t => Sys2Proof.Machine.execThermalTripClear t s
  | .canWake t port => Sys2Proof.Machine.execCanWake t port s
  | .wakeTimerExpiry t => Sys2Proof.Machine.execWakeTimerExpiry t s
  | .sleepWake t digestOk => Sys2Proof.Machine.execSleepWake t digestOk s
  | .commitRequest t path => Sys2Proof.Machine.execCommitRequest t path s
  | .contentFrameTick t => Sys2Proof.Machine.execContentFrameTick t s
  | .holdLimitExpiry t layer => Sys2Proof.Machine.execHoldLimitExpiry t layer s
  | .layerStale t layer => Sys2Proof.Machine.execLayerStale t layer s
  | .safetyRerender t port => Sys2Proof.Machine.execSafetyRerender t port s
  | .surfaceFormat t path surface format => Sys2Proof.Machine.execSurfaceFormat t path surface format s
  | .rayMapSwapRequest t path => Sys2Proof.Machine.execRayMapSwapRequest t path s
  | .rayMapSwapWithdraw t path => Sys2Proof.Machine.execRayMapSwapWithdraw t path s
  | .shadowGeometry t path data readBackOk => Sys2Proof.Machine.execShadowGeometry t path data readBackOk s
  | .shadowEntries t path data readBackOk => Sys2Proof.Machine.execShadowEntries t path data readBackOk s
  | .shadowEntryPatch t path data readBackOk => Sys2Proof.Machine.execShadowEntryPatch t path data readBackOk s
  | .shadowCopyRequest t path => Sys2Proof.Machine.execShadowCopyRequest t path s
  | .tileBandIssue t carver => Sys2Proof.Machine.execTileBandIssue t carver s
  | .tileBandComplete t carver band epoch => Sys2Proof.Machine.execTileBandComplete t carver band epoch s
  | .witnessBufferComplete t => Sys2Proof.Machine.execWitnessBufferComplete t s
  | .goldenTile t carver crc => Sys2Proof.Machine.execGoldenTile t carver crc s
  | .linkTraining t locked capabilities => Sys2Proof.Machine.execLinkTraining t locked capabilities s
  | .trainingStepTimeout t step => Sys2Proof.Machine.execTrainingStepTimeout t step s
  | .deskewSet t => Sys2Proof.Machine.execDeskewSet t s
  | .idleRefresh t => Sys2Proof.Machine.execIdleRefresh t s
  | .laneRetire t lane event => Sys2Proof.Machine.execLaneRetire t lane event s
  | .retrain t reason => Sys2Proof.Machine.execRetrain t reason s
  | .rectangleAllocate t module column row columns rows => Sys2Proof.Machine.execRectangleAllocate t module column row columns rows s
  | .update t rectangle column row count => Sys2Proof.Machine.execUpdate t rectangle column row count s
  | .present t => Sys2Proof.Machine.execPresent t s
  | .claim t => Sys2Proof.Machine.execClaim t s
  | .readHubCapabilities t => Sys2Proof.Machine.execReadHubCapabilities t s
  | .readModuleStatus t module => Sys2Proof.Machine.execReadModuleStatus t module s
  | .readTile t module column row => Sys2Proof.Machine.execReadTile t module column row s
  | .readWindowChecksum t module slot => Sys2Proof.Machine.execReadWindowChecksum t module slot s
  | .readSenseResult t module => Sys2Proof.Machine.execReadSenseResult t module s
  | .readModuleEvent t module => Sys2Proof.Machine.execReadModuleEvent t module s
  | .discardStaged t module => Sys2Proof.Machine.execDiscardStaged t module s
  | .setWindow t module slot column row columns rows => Sys2Proof.Machine.execSetWindow t module slot column row columns rows s
  | .driveTableChunk t table offset length => Sys2Proof.Machine.execDriveTableChunk t table offset length s
  | .driveTableCommit t table => Sys2Proof.Machine.execDriveTableCommit t table s
  | .presentationMode t frameAtomic => Sys2Proof.Machine.execPresentationMode t frameAtomic s
  | .startSensing t module => Sys2Proof.Machine.execStartSensing t module s
  | .ack t packet => Sys2Proof.Machine.execAck t packet s
  | .nak t packet => Sys2Proof.Machine.execNak t packet s
  | .readResponse t packet edb => Sys2Proof.Machine.execReadResponse t packet edb s
  | .status t packet locked errors => Sys2Proof.Machine.execStatus t packet locked errors s
  | .retryTimeout t => Sys2Proof.Machine.execRetryTimeout t s
  | .readTimeout t tag => Sys2Proof.Machine.execReadTimeout t tag s
  | .checkRequest t path data => Sys2Proof.Machine.execCheckRequest t path data s
  | .temperaturePoll t module status => Sys2Proof.Machine.execTemperaturePoll t module status s
  | .temperatureReportLost t module => Sys2Proof.Machine.execTemperatureReportLost t module s
  | .driveTableWrite t path table data => Sys2Proof.Machine.execDriveTableWrite t path table data s
  | .driveTableVerify t crcs => Sys2Proof.Machine.execDriveTableVerify t crcs s
  | .stressCounterUpdate t => Sys2Proof.Machine.execStressCounterUpdate t s
  | .senseRequest t path module => Sys2Proof.Machine.execSenseRequest t path module s
  | .senseResultRead t result => Sys2Proof.Machine.execSenseResultRead t result s
  | .portEnable t path port value => Sys2Proof.Machine.execPortEnable t path port value s
  | .frameStart t port frameNumber => Sys2Proof.Machine.execFrameStart t port frameNumber s
  | .lineReceive t port channel dataType headerEcc crcOk samples => Sys2Proof.Machine.execLineReceive t port channel dataType headerEcc crcOk samples s
  | .frameEnd t port => Sys2Proof.Machine.execFrameEnd t port s
  | .frameEndTimeout t port => Sys2Proof.Machine.execFrameEndTimeout t port s
  | .portLost t port => Sys2Proof.Machine.execPortLost t port s
  | .ispFrameComplete t job => Sys2Proof.Machine.execIspFrameComplete t job s
  | .ispPipelineFail t pipeline => Sys2Proof.Machine.execIspPipelineFail t pipeline s
  | .cciWriteDeadline t port => Sys2Proof.Machine.execCciWriteDeadline t port s
  | .cciWrite t path port data => Sys2Proof.Machine.execCciWrite t path port data s
  | .cciRead t path port data => Sys2Proof.Machine.execCciRead t path port data s
  | .cciTransactionComplete t master acked data => Sys2Proof.Machine.execCciTransactionComplete t master acked data s
  | .cciBusStuck t master => Sys2Proof.Machine.execCciBusStuck t master s
  | .cciBusRecovery t master busFree => Sys2Proof.Machine.execCciBusRecovery t master busFree s
  | .pairEnable t path pair value => Sys2Proof.Machine.execPairEnable t path pair value s
  | .stereoRowSearch t job row => Sys2Proof.Machine.execStereoRowSearch t job row s
  | .stereoFrameAbandon t pair => Sys2Proof.Machine.execStereoFrameAbandon t pair s
  | .motionSearch t job blockX blockY => Sys2Proof.Machine.execMotionSearch t job blockX blockY s
  | .slalomEngineFail t engine => Sys2Proof.Machine.execSlalomEngineFail t engine s
  | .streamEnable t path stream => Sys2Proof.Machine.execStreamEnable t path stream s
  | .streamDisable t path stream => Sys2Proof.Machine.execStreamDisable t path stream s
  | .pictureCode t stream headerBits ctuBits slice => Sys2Proof.Machine.execPictureCode t stream headerBits ctuBits slice s
  | .sealMake t result => Sys2Proof.Machine.execSealMake t result s
  | .encoderCoreFail t core => Sys2Proof.Machine.execEncoderCoreFail t core s
  | .slotEnable t path slot value => Sys2Proof.Machine.execSlotEnable t path slot value s
  | .avtpReceive t arrival header sequence timestamp last payload => Sys2Proof.Machine.execAvtpReceive t arrival header sequence timestamp last payload s
  | .pictureDecode t slot unit => Sys2Proof.Machine.execPictureDecode t slot unit s
  | .slotStarved t slot => Sys2Proof.Machine.execSlotStarved t slot s
  | .cycleBudgetOverrun t slot unit goodCtus => Sys2Proof.Machine.execCycleBudgetOverrun t slot unit goodCtus s
  | .decoderCoreFail t core => Sys2Proof.Machine.execDecoderCoreFail t core s
  | .hostJobCompress t path data => Sys2Proof.Machine.execHostJobCompress t path data s
  | .hostJobDecompress t path data => Sys2Proof.Machine.execHostJobDecompress t path data s
  | .groomerJobComplete t verifyFailures => Sys2Proof.Machine.execGroomerJobComplete t verifyFailures s
  | .blitList t path data => Sys2Proof.Machine.execBlitList t path data s
  | .copy draw => Sys2Proof.Machine.execCopy draw s
  | .fill draw => Sys2Proof.Machine.execFill draw s
  | .waitLine t line => Sys2Proof.Machine.execWaitLine t line s
  | .blitStep t fetchLine => Sys2Proof.Machine.execBlitStep t fetchLine s
  | .outputEnable t path output value trained => Sys2Proof.Machine.execOutputEnable t path output value trained s
  | .flatTrainingRetry t output trained => Sys2Proof.Machine.execFlatTrainingRetry t output trained s
  | .hpdChange t output high trained => Sys2Proof.Machine.execHpdChange t output high trained s
  | .irqHpd t output linkLost trained => Sys2Proof.Machine.execIrqHpd t output linkLost trained s
  | .scanCommit t path output => Sys2Proof.Machine.execScanCommit t path output s
  | .scanLatch t output => Sys2Proof.Machine.execScanLatch t output s
  | .timingCommit t path output => Sys2Proof.Machine.execTimingCommit t path output s
  | .timingApply t output => Sys2Proof.Machine.execTimingApply t output s
  | .underrunLine t output place => Sys2Proof.Machine.execUnderrunLine t output place s
  | .dramAccess t client rank chunk block op symbols => Sys2Proof.Machine.execDramAccess t client rank chunk block op symbols s
  | .migrationChunkCopy step => Sys2Proof.Machine.execMigrationChunkCopy step s
  | .mr4Poll t rank mr4 oscillator => Sys2Proof.Machine.execMr4Poll t rank mr4 oscillator s
  | .refresh t rank class1Waiting => Sys2Proof.Machine.execRefresh t rank class1Waiting s
  | .powerDownEntry t rank => Sys2Proof.Machine.execPowerDownEntry t rank s
  | .patrolScrub t rank chunk block symbols => Sys2Proof.Machine.execPatrolScrub t rank chunk block symbols s
  | .channelTraining t channel trained report => Sys2Proof.Machine.execChannelTraining t channel trained report s
  | .driftRecentre t channel temperature converged => Sys2Proof.Machine.execDriftRecentre t channel temperature converged s
  | .recentreRetry t channel converged => Sys2Proof.Machine.execRecentreRetry t channel converged s
  | .sramScrub t findings => Sys2Proof.Machine.execSramScrub t findings s
  | .housekeepingSlot t channel reading => Sys2Proof.Machine.execHousekeepingSlot t channel reading s
  | .ploughEvaluation t => Sys2Proof.Machine.execPloughEvaluation t s
  | .powerLimit t path milliwatts => Sys2Proof.Machine.execPowerLimit t path milliwatts s
  | .macLinkChange t mac rate => Sys2Proof.Machine.execMacLinkChange t mac rate s
  | .syncReceive t arrival masterTime => Sys2Proof.Machine.execSyncReceive t arrival masterTime s
  | .announceReceive t arrival data => Sys2Proof.Machine.execAnnounceReceive t arrival data s
  | .announceTimeout t mac => Sys2Proof.Machine.execAnnounceTimeout t mac s
  | .syncSend t mac => Sys2Proof.Machine.execSyncSend t mac s
  | .frameLockEdge t input => Sys2Proof.Machine.execFrameLockEdge t input s
  | .frameLockLost t => Sys2Proof.Machine.execFrameLockLost t s
  | .outputMode t path output mode => Sys2Proof.Machine.execOutputMode t path output mode s
  | .timeOutEdge t output => Sys2Proof.Machine.execTimeOutEdge t output s
  | .captureEdge t input rising width => Sys2Proof.Machine.execCaptureEdge t input rising width s
  | .timestampsRead t path input => Sys2Proof.Machine.execTimestampsRead t path input s
  | .readinessDecision t => Sys2Proof.Machine.execReadinessDecision t s
  | .readinessRepeat t => Sys2Proof.Machine.execReadinessRepeat t s
  | .readinessFrameReceive t datagram => Sys2Proof.Machine.execReadinessFrameReceive t datagram s
  | .readinessDeadline t => Sys2Proof.Machine.execReadinessDeadline t s
  | .hbEdge t => Sys2Proof.Machine.execHbEdge t s
  | .twinHeartbeat t codeOk count state => Sys2Proof.Machine.execTwinHeartbeat t codeOk count state s
  | .twinHeartbeatSend t => Sys2Proof.Machine.execTwinHeartbeatSend t s
  | .pathSilent t twin => Sys2Proof.Machine.execPathSilent t twin s
  | .takeover t => Sys2Proof.Machine.execTakeover t s
  | .roleDecision t => Sys2Proof.Machine.execRoleDecision t s
  | .dualStandbyResolve t => Sys2Proof.Machine.execDualStandbyResolve t s
  | .health t packet => Sys2Proof.Machine.execHealth t packet s
  | .healthSend t => Sys2Proof.Machine.execHealthSend t s
  | .mirror t sequence records => Sys2Proof.Machine.execMirror t sequence records s
  | .changed t sequence offset bitmap => Sys2Proof.Machine.execChanged t sequence offset bitmap s
  | .commit t sequence epoch tag tick outcome => Sys2Proof.Machine.execCommit t sequence epoch tag tick outcome s
  | .stress t sequence offset data => Sys2Proof.Machine.execStress t sequence offset data s
  | .statistics t sequence port block => Sys2Proof.Machine.execStatistics t sequence port block s
  | .handover t sequence ownershipEpoch mirrorSequence => Sys2Proof.Machine.execHandover t sequence ownershipEpoch mirrorSequence s
  | .hello t sequence => Sys2Proof.Machine.execHello t sequence s
  | .twinLaneRetire t found => Sys2Proof.Machine.execTwinLaneRetire t found s
  | .roleHandover t path => Sys2Proof.Machine.execRoleHandover t path s
  | .handoverTimeout t => Sys2Proof.Machine.execHandoverTimeout t s
  | .faultHandlingSlot t => Sys2Proof.Machine.execFaultHandlingSlot t s
  | .fullResetServe t => Sys2Proof.Machine.execFullResetServe t s
  | .beaconEntryWrite t readBackOk rate => Sys2Proof.Machine.execBeaconEntryWrite t readBackOk rate s
  | .recoveryEntry t => Sys2Proof.Machine.execRecoveryEntry t s
  | .hostNote t path note => Sys2Proof.Machine.execHostNote t path note s
  | .beaconRead t path => Sys2Proof.Machine.execBeaconRead t path s
  | .pfailGlitch t => Sys2Proof.Machine.execPfailGlitch t s
  | .pfailRecognition t => Sys2Proof.Machine.execPfailRecognition t s
  | .pfailRelease t => Sys2Proof.Machine.execPfailRelease t s
  | .pfailWaitForReset t => Sys2Proof.Machine.execPfailWaitForReset t s
  | .resetNAssert t width => Sys2Proof.Machine.execResetNAssert t width s
  | .coldStart t facts => Sys2Proof.Machine.execColdStart t facts s
  | .startupWritesResume t => Sys2Proof.Machine.execStartupWritesResume t s
  | .watchdogReset t => Sys2Proof.Machine.execWatchdogReset t s
  | .lockstepMismatch t => Sys2Proof.Machine.execLockstepMismatch t s
  | .xtalSwitch t => Sys2Proof.Machine.execXtalSwitch t s
  | .calibrateBias t first second withinBudget => Sys2Proof.Machine.execCalibrateBias t first second withinBudget s
  | .calibrateOscillators t rcTap sensorTaps converged => Sys2Proof.Machine.execCalibrateOscillators t rcTap sensorTaps converged s
  | .calibrateTemperature t means steady => Sys2Proof.Machine.execCalibrateTemperature t means steady s
  | .calibrateSram t findings finished => Sys2Proof.Machine.execCalibrateSram t findings finished s
  | .calibrationRunEnd t => Sys2Proof.Machine.execCalibrationRunEnd t s
  | .otpBurn t path value => Sys2Proof.Machine.execOtpBurn t path value s
  | .otpBurnComplete t readBackOk => Sys2Proof.Machine.execOtpBurnComplete t readBackOk s
  | .firmwareInstall t path image readBackOk => Sys2Proof.Machine.execFirmwareInstall t path image readBackOk s
  | .twinLinkTraining t locked => Sys2Proof.Machine.execTwinLinkTraining t locked s
  | .twinAck t isNak sequence => Sys2Proof.Machine.execTwinAck t isNak sequence s
  | .twinRetryTimeout t => Sys2Proof.Machine.execTwinRetryTimeout t s
  | .blitterFault t => Sys2Proof.Machine.execBlitterFault t s
  | .carverFault t carver => Sys2Proof.Machine.execCarverFault t carver s
  | .sealDeadline t stream => Sys2Proof.Machine.execSealDeadline t stream s
  | .laneLoopback t lane passed => Sys2Proof.Machine.execLaneLoopback t lane passed s
  | .announceSend t mac => Sys2Proof.Machine.execAnnounceSend t mac s
  | .delayRequestResponse t arrival message requester delay => Sys2Proof.Machine.execDelayRequestResponse t arrival message requester delay s
  | .arpNeighbourDiscovery t arrival v6 request sender senderMac target => Sys2Proof.Machine.execArpNeighbourDiscovery t arrival v6 request sender senderMac target s
  | .icmpEcho t arrival v6 sender target data => Sys2Proof.Machine.execIcmpEcho t arrival v6 sender target data s

end Sys2Proof.Machine
end

