-- ==== Sys2Proof/WellFormed.lean ====
section
/-!
DEFINITION. Sys2Proof/WellFormed.lean: which commands are well formed: every operand that names an item of a counted kind (a
port, stream, slot, module, table, lane, rank, channel) names one the device has.
-/

namespace Sys2Proof

/-- The pool of an SRAM macro, in the order of R16 (R330). -/
def poolOfMacro (m : Nat) : Nat := if m < 192 then 0 else if m < 224 then 1 else if m < 248 then 2 else if m < 280 then 3 else if m < 296 then 4 else 5

/-- A finding names an existing macro with its pool, and a row of it. -/
def SramFinding.named (f : SramFinding) : Bool := f.macroNo < 320 && f.pool == poolOfMacro f.macroNo && f.row < 4096

/-- The command names existing items only. -/
def Instr.wf (i : Instr) : Bool :=
  match i with
  | .registerWrite _ _ index sub _ => index < 65536 && sub < 256
  | .domainStagingCheck .. => true
  | .udpRead _ _ a _ => a.arrival.mac < 2
  | .udpWrite _ _ a _ => a.arrival.mac < 2
  | .udpBulkStart _ _ a _ => a.arrival.mac < 2
  | .udpBulkData _ _ a _ => a.arrival.mac < 2
  | .transactionTimeout .. => true
  | .sdoTransfer _ port _ => port < 2
  | .sdoTimeout _ port => port < 2
  | .nmtStart _ port _ => port < 2
  | .nmtStop _ port _ => port < 2
  | .nmtEnterPreOperational _ port _ => port < 2
  | .nmtResetCommunication _ port _ => port < 2
  | .nmtResetNode _ port _ => port < 2
  | .producerHeartbeat _ port => port < 2
  | .emcyInhibitExpiry _ port => port < 2
  | .eventsLostFrame .. => true
  | .eventAcknowledge .. => true
  | .fullReset .. => true
  | .fullResetExecute .. => true
  | .functionReset .. => true
  | .functionResetComplete _ function => function < 16
  | .requestRun .. => true
  | .requestHold .. => true
  | .requestSleep .. => true
  | .requestOff .. => true
  | .powerEntryComplete .. => true
  | .pllLock .. => true
  | .thermalTripClear .. => true
  | .canWake _ port => port < 2
  | .wakeTimerExpiry .. => true
  | .sleepWake .. => true
  | .commitRequest .. => true
  | .contentFrameTick .. => true
  | .holdLimitExpiry _ layer => layer < 16
  | .layerStale _ layer => layer < 16
  | .safetyRerender _ port => port < 8
  | .surfaceFormat _ _ surface _ => surface < 64
  | .rayMapSwapRequest .. => true
  | .rayMapSwapWithdraw .. => true
  | .shadowGeometry .. => true
  | .shadowEntries .. => true
  | .shadowEntryPatch .. => true
  | .shadowCopyRequest .. => true
  | .tileBandIssue _ carver => carver < 36
  | .tileBandComplete _ carver _ _ => carver < 36
  | .witnessBufferComplete .. => true
  | .goldenTile _ carver _ => carver < 36
  | .linkTraining .. => true
  | .trainingStepTimeout _ step => 1 ≤ step && step ≤ 7
  | .deskewSet .. => true
  | .idleRefresh .. => true
  | .laneRetire _ lane _ => lane < 18
  | .retrain .. => true
  | .rectangleAllocate _ module _ _ _ _ => module < 64
  | .update _ rectangle _ _ _ => rectangle < 256
  | .present .. => true
  | .claim .. => true
  | .readHubCapabilities .. => true
  | .readModuleStatus _ module => module < 64
  | .readTile _ module _ _ => module < 64
  | .readWindowChecksum _ module _ => module < 64
  | .readSenseResult _ module => module < 64
  | .readModuleEvent _ module => module < 64
  | .discardStaged _ module => module < 64 || module == 0xFF
  | .setWindow _ module _ _ _ _ _ => module < 64
  | .driveTableChunk _ table _ _ => table < 8
  | .driveTableCommit _ table => table < 8
  | .presentationMode .. => true
  | .startSensing _ module => module < 64
  | .ack .. => true
  | .nak .. => true
  | .readResponse .. => true
  | .status .. => true
  | .retryTimeout .. => true
  | .readTimeout _ tag => tag < 256
  | .checkRequest .. => true
  | .temperaturePoll _ module _ => module < 64
  | .temperatureReportLost _ module => module < 64
  | .driveTableWrite _ _ table _ => table < 8
  | .driveTableVerify .. => true
  | .stressCounterUpdate .. => true
  | .senseRequest .. => true
  | .senseResultRead .. => true
  | .portEnable _ _ port _ => port < 8
  | .frameStart _ port _ => port < 8
  | .lineReceive _ port _ _ _ _ _ => port < 8
  | .frameEnd _ port => port < 8
  | .frameEndTimeout _ port => port < 8
  | .portLost _ port => port < 8
  | .ispFrameComplete _ job => job.item < 8
  | .ispPipelineFail _ pipeline => pipeline < 4
  | .cciWriteDeadline _ port => port < 8
  | .cciWrite _ _ port _ => port < 8
  | .cciRead _ _ port _ => port < 8
  | .cciTransactionComplete _ master _ _ => master < 4
  | .cciBusStuck _ master => master < 4
  | .cciBusRecovery _ master _ => master < 4
  | .pairEnable _ _ pair _ => pair < 4
  | .stereoRowSearch _ job _ => job.item < 4
  | .stereoFrameAbandon _ pair => pair < 4
  | .motionSearch _ job _ _ => job.item < 24
  | .slalomEngineFail _ engine => engine < 2
  | .streamEnable _ _ stream => stream < 24
  | .streamDisable _ _ stream => stream < 24
  | .pictureCode _ stream _ _ _ => stream < 24
  | .sealMake _ result => result.item < 24
  | .encoderCoreFail _ core => core < 2
  | .slotEnable _ _ slot _ => slot.item < 32
  | .avtpReceive _ arrival _ _ _ _ _ => arrival.mac < 2
  | .pictureDecode _ slot _ => slot < 32
  | .slotStarved _ slot => slot < 32
  | .cycleBudgetOverrun _ slot _ _ => slot < 32
  | .decoderCoreFail _ core => core < 2
  | .hostJobCompress .. => true
  | .hostJobDecompress .. => true
  | .groomerJobComplete .. => true
  | .blitList .. => true
  | .copy .. => true
  | .fill .. => true
  | .waitLine .. => true
  | .blitStep .. => true
  | .outputEnable _ _ output _ _ => output < 2
  | .flatTrainingRetry _ output _ => output < 2
  | .hpdChange _ output _ _ => output < 2
  | .irqHpd _ output _ _ => output < 2
  | .scanCommit _ _ output => output < 2
  | .scanLatch _ output => output < 2
  | .timingCommit _ _ output => output < 2
  | .timingApply _ output => output < 2
  | .underrunLine _ output place => output < 2 && place.line < 4096 && place.pixel < 3840
  | .dramAccess _ _ rank _ block _ _ => rank < 32 && block < 2048
  | .migrationChunkCopy .. => true
  | .mr4Poll _ rank _ _ => rank < 32
  | .refresh _ rank _ => rank < 32
  | .powerDownEntry _ rank => rank < 32
  | .patrolScrub _ rank _ block _ => rank < 32 && block < 2048
  | .channelTraining _ channel _ _ => channel < 16
  | .driftRecentre _ channel _ _ => channel < 16
  | .recentreRetry _ channel _ => channel < 16
  | .sramScrub _ findings => findings.all SramFinding.named
  | .housekeepingSlot _ channel _ => channel < 32
  | .ploughEvaluation .. => true
  | .powerLimit .. => true
  | .macLinkChange _ mac rate => mac < 2 && rate < 5
  | .syncReceive _ a _ => a.arrival.mac < 2
  | .announceReceive _ a _ => a.arrival.mac < 2
  | .announceTimeout _ mac => mac < 2
  | .syncSend _ mac => mac < 2
  | .frameLockEdge _ input => input < 4
  | .frameLockLost .. => true
  | .outputMode _ _ output _ => output < 8
  | .timeOutEdge _ output => output < 8
  | .captureEdge _ input _ _ => input < 4
  | .timestampsRead _ _ input => input < 4
  | .readinessDecision .. => true
  | .readinessRepeat .. => true
  | .readinessFrameReceive _ d => d.udp.arrival.mac < 2
  | .readinessDeadline .. => true
  | .hbEdge .. => true
  | .twinHeartbeat .. => true
  | .twinHeartbeatSend .. => true
  | .pathSilent .. => true
  | .takeover .. => true
  | .roleDecision .. => true
  | .dualStandbyResolve .. => true
  | .health .. => true
  | .healthSend .. => true
  | .mirror .. => true
  | .changed .. => true
  | .commit .. => true
  | .stress .. => true
  | .statistics _ _ port _ => port < 8
  | .handover .. => true
  | .hello .. => true
  | .twinLaneRetire _ found => found.lane < 5
  | .roleHandover .. => true
  | .handoverTimeout .. => true
  | .faultHandlingSlot .. => true
  | .fullResetServe .. => true
  | .beaconEntryWrite .. => true
  | .recoveryEntry .. => true
  | .hostNote .. => true
  | .beaconRead .. => true
  | .pfailGlitch .. => true
  | .pfailRecognition .. => true
  | .pfailRelease .. => true
  | .pfailWaitForReset .. => true
  | .resetNAssert .. => true
  | .coldStart _ facts => facts.cause < 8 && facts.sram.all SramFinding.named && facts.sramColumns.all fun c => c.1 < 320 && c.2 < 576
  | .startupWritesResume .. => true
  | .watchdogReset .. => true
  | .lockstepMismatch .. => true
  | .xtalSwitch .. => true
  | .calibrateBias .. => true
  | .calibrateOscillators .. => true
  | .calibrateTemperature .. => true
  | .calibrateSram _ findings _ => findings.all SramFinding.named
  | .calibrationRunEnd .. => true
  | .otpBurn .. => true
  | .otpBurnComplete .. => true
  | .firmwareInstall .. => true
  | .twinLinkTraining .. => true
  | .twinAck .. => true
  | .twinRetryTimeout .. => true
  | .blitterFault .. => true
  | .carverFault _ carver => carver < 36
  | .sealDeadline _ stream => stream < 24
  | .laneLoopback _ lane _ => lane < 18
  | .announceSend _ mac => mac < 2
  | .delayRequestResponse _ a _ _ _ => a.arrival.mac < 2
  | .arpNeighbourDiscovery _ a _ _ _ _ _ => a.mac < 2
  | .icmpEcho _ a _ _ _ _ => a.mac < 2

end Sys2Proof
end

