-- ==== Sys2Proof/Safety.lean ====
section
/-!
DEFINITION. Sys2Proof/Safety.lean: the terms in which claims are made: what a command answers, which host accesses are heard
and taken, what stays as it was, and what counts as a safe run.
-/

namespace Sys2Proof.Machine

/-! ### What a command answers -/

/-- The command completes, and its next state is as said. -/
def Answers (o : Host.Outcome State Fault Refusal) (P : State → Prop) : Prop := ∃ s', o = .next s' ∧ P s'

/-- A run of some steps is safe: no step of it stops. -/
def SafeRun (k : Nat) (s : State) (P : State → Prop) : Prop := Answers (Host.Core.run Sys2Proof.core k s) P

/-! ### Host accesses -/

/-- The path by which an access comes is heard: the dictionary is served, the CAN port serves its channel, or UDP control is on
and the source allowed (R38, R42, R45). -/
def State.hears (s : State) (p : Path) : Bool :=
  match p with
  | .internal => s.served
  | .can q => s.canServes q
  | .udp a => s.served && s.get 0x203101 == 1 && s.sourceAllowed a

/-- The state in which an access that is heard is carried out: a transfer open on the same CAN port has been aborted (R40). -/
def State.heard (s : State) (p : Path) : State :=
  match p with
  | .can q => s.supersede q
  | _ => s

/-- A scalar value passes every check: access, state of its function, length, range, refusals (R61, R65). -/
def State.takesValue (s : State) (k : Nat) (data : Bytes) : Bool :=
  s.gate k true == 0 && match objOf k with
    | some o => o.ty != .dom && s.scalarCode k o data == 0
    | none => false

/-- A content's length and form are as its object asks (R55, R56). -/
def State.contentFits (s : State) (k : Nat) (b : Bytes) : Bool :=
  match objOf k with
  | some o => o.ty == .dom && lengthOk o.rng b.length && s.contentOk k b
  | none => false

/-- A content of at most 1,024 bytes passes every check (R55 to R57, R61, R65). -/
def State.takesContent (s : State) (k : Nat) (b : Bytes) : Bool :=
  s.gate k true == 0 && s.startCode k == 0 && decide (b.length ≤ 1024) && s.contentFits k b

/-- The content of a transfer that carries it uncoded: at most 1,024 bytes as they are, more behind a bulk header of format 0x00
whose length and CRC are right (R55). -/
def plainTransfer (data : Bytes) : Option Bytes :=
  let body := data.drop 16
  if data.length ≤ 1024 then some data
  else if fieldLE data 0 2 == 0x4442 && byteAt data 2 == 0 && byteAt data 3 == 0 && body.length == fieldLE data 4 8
      && crc32c body == fieldLE data 12 4 then some body
  else none

/-- A transfer carries a content uncoded, and the content passes every check (R55 to R57, R61, R65). -/
def State.takesTransfer (s : State) (k : Nat) (data b : Bytes) : Bool :=
  s.gate k true == 0 && s.startCode k == 0 && plainTransfer data == some b && s.contentFits k b

/-- RW-I scalars that are only held: a write sets them and does nothing else at once (R8). -/
def heldScalars : List Nat :=
  [0x101400, 0x101500, 0x101700, 0x201004, 0x203101, 0x203102, 0x203105, 0x204001, 0x204002, 0x204003, 0x210004, 0x210005, 0x211003,
   0x220007, 0x221009, 0x22100A, 0x22100B, 0x23000C, 0x240006, 0x240007, 0x240009, 0x24000A, 0x24000B, 0x240023, 0x25000A, 0x260002,
   0x260003, 0x280005, 0x280006, 0x280008, 0x281002, 0x281003, 0x281004, 0x28100C, 0x284001, 0x285002, 0x380008, 0x380009, 0x38000A,
   0x38000B, 0x38000D, 0x38000E, 0x3C0004, 0x3C0005, 0x3C0006, 0x480005, 0x48000A, 0x48000B, 0x490003, 0x490011, 0x490012, 0x490013,
   0x490032, 0x490033, 0x490034, 0x490038, 0x4A0002]

/-- RW-I contents that are only held. -/
def heldContents : List Nat :=
  [0x203103, 0x203104, 0x212003, 0x280007, 0x284002, 0x284003, 0x285001, 0x286007, 0x38000C, 0x490010, 0x490030, 0x490031, 0x49003A]

/-- The access has been answered with a code and data: the management cores' own path is told nothing. -/
def State.answered (s : State) (p : Path) (code : Nat) (data : Bytes) : Prop :=
  p = .internal ∨ ∃ cob, Out.answer p cob code data ∈ s.out

/-! ### The Maelwin link -/

/-- The port can send a packet with a payload of `n` bytes at once: it owns the panel, nothing waits, and the retry buffer has room
(R154). -/
def State.canSend (s : State) (n : Nat) : Bool :=
  s.linkUp && s.acting && s.link.waiting.isEmpty && decide (heldBytes s.link.retry + n + 22 ≤ 2097152)
    && decide (s.link.retry.length < 16384)

/-- A packet has been sent and is kept until it is acknowledged (R154). -/
def State.sentPacket (s : State) (kind module spec : Nat) (payload : Bytes) : Prop :=
  ∃ p ∈ s.link.retry, p.kind = kind ∧ p.module = module ∧ p.spec = spec ∧ p.payload = payload ∧ Out.maelwin p.bytes ∈ s.out

/-- A READ has been sent and waits for its response (R150, R153). -/
def State.readSent (s : State) (code module argument : Nat) : Prop :=
  ∃ o ∈ s.link.reads, o.code = code ∧ o.module = module ∧ o.argument = argument
    ∧ s.sentPacket 4 module (code + 256 * o.tag + 65536 * argument) []

/-- An upstream packet of a kind that carries no news beside it: its CRC is right, no flag is set, and it shows this port as the
owner (R153, R166). -/
def quietPacket (kind : Nat) (b : Bytes) : Bool :=
  upCrcOk b && (upHeader b).kind == kind && (upHeader b).flags == 0 && bitOf (upHeader b).ports 4

/-- A function has raised a cause that has not cleared, and its entry stands in the queue (R403, R404). -/
def State.raised (s : State) (fn cause : Nat) : Prop := ∃ f ∈ s.faults.queue, f.fn = fn ∧ f.cause = cause ∧ f.cleared = false

/-! ### What stays as it was -/

/-- After a full reset of a cause: every object at its default but the power-fail counts and the crystal switch of the always-on domain,
every function stopped, no value waiting, nothing driven, the cause kept for the next start (R50, R62, R423). -/
def AtDefaults (s s' : State) (cause : Nat) : Prop :=
  s'.power.phase = .reset ∧ s'.power.nextCause = some cause ∧ Out.pin .hbTx false ∈ s'.out
    ∧ (∀ k, k < 0x213002 ∨ 0x213006 < k → s'.get k = defaultOf k) ∧ (∀ k, s'.dom k = defaultContent k) ∧ (∀ n, s'.fnState n = 0)
    ∧ (∀ k, lookup k s'.pendR = none ∧ lookup k s'.pendD = none ∧ lookup k s'.burnR = none ∧ lookup k s'.burnD = none)
    ∧ s'.get 0x213006 = s.get 0x213006 ∧ s'.faults.queue = []

/-- Every object reads as before, but for the event sequence 0x2040.05 and the start-up time 0x2010.05, which follow every
change of the functions' states (R52, R59). -/
def SameObjects (s s' : State) : Prop :=
  (∀ k, k ≠ 0x204005 → k ≠ 0x201005 → s'.get k = s.get k) ∧ ∀ k, s'.dom k = s.dom k

/-- No value waits that did not wait before, and none is gone (R50). -/
def SamePending (s s' : State) : Prop :=
  (∀ k, lookup k s'.pendR = lookup k s.pendR) ∧ (∀ k, lookup k s'.pendD = lookup k s.pendD)
    ∧ (∀ k, lookup k s'.burnR = lookup k s.burnR) ∧ ∀ k, lookup k s'.burnD = lookup k s.burnD

/-- The function states, power, faults, Beacon and non-volatile stores are as before. -/
def SameSystem (s s' : State) : Prop :=
  s'.stages = s.stages ∧ s'.power = s.power ∧ s'.faults = s.faults ∧ s'.beacon = s.beacon ∧ s'.nv = s.nv ∧ s'.cal = s.cal

/-- The units of the picture's path, from cameras to panel, and memory are as before. -/
def SamePicture (s s' : State) : Prop :=
  s'.lift = s.lift ∧ s'.scene = s.scene ∧ s'.banks = s.banks ∧ s'.care = s.care ∧ s'.media = s.media ∧ s'.memory = s.memory

/-- A datagram comes past a MAC to the dictionary port (R45, R360). -/
def State.takesDatagram (s : State) (u : UdpArrival) : Bool := decide (u.arrival.mac < 2) && s.receives u.arrival && u.dport == s.get 0x203102

/-- A PTP message comes past a MAC to the instance: on a port that runs PTP, in the profile's carriage and the domain (R363, R378). -/
def State.takesPtp (s : State) (p : PtpArrival) : Bool :=
  s.receives p.arrival && s.ptpPort p.arrival.mac && p.carriage == s.get 0x281002 && p.domain == s.get 0x281003

/-- The links, the pair, the clock and the network are as before. -/
def SameLinks (s s' : State) : Prop := s'.link = s.link ∧ s'.pair = s.pair ∧ s'.clock = s.clock ∧ s'.net = s.net

end Sys2Proof.Machine
end

