-- ==== Sys2Proof/Certificates/Slice0/Obligations.lean ====
section
/-!
DEFINITION. Sys2Proof/Certificates/Slice0/Obligations.lean: the statements to be proved. Every completion statement is about a
state s and the instant t of its command, and s.begin t is s at that instant; an access's path p is heard when hears says so, and
heard is the state in which it is carried out.
-/

open Sys2Proof Sys2Proof.Machine

/-! ### The machine -/

/-- A step takes the command at the front of the queue and is that command's meaning on the state with the queue's rest. That the
block has such a queue is the form of the model (log entry 9). -/
def Obligations.StepRunsTheFrontCommand : Prop :=
  ∀ (c : Instr) (rest : List Instr) (s : State), s.pending = c :: rest → step s = exec c { s with pending := rest }

/-- A command whose operands name items the spec has completes in every state, and any other stops with its one fault; no command touches
the queue of the commands that wait. That an operand out of range stops is the
model's choice (log entry 13). -/
def Obligations.CommandsCompleteAndKeepTheQueue : Prop :=
  (∀ (c : Instr) (s : State),
      (c.wf = true → ∃ s', exec c s = .next s') ∧ (c.wf = false → exec c s = .fault .operandOutOfRange))
  ∧
  (∀ (c : Instr) (s s' : State), exec c s = .next s' → s'.pending = s.pending)

/-- Every step keeps the stores canonical: keys rising, and no scalar listed that equals its object's default. -/
def Obligations.EveryStepKeepsTheStoresCanonical : Prop := ∀ s s' : State, s.wf = true → step s = .next s' → s'.wf = true

/-- From any state, a queue of well-formed commands runs to its last command without a stop, and leaves what was behind it. This rests on
the model's queue (log entries 9, 13). -/
def Obligations.WellFormedQueuesRunToTheEnd : Prop :=
  ∀ (s : State) (k : Nat), (∀ c ∈ s.pending.take k, c.wf = true) → SafeRun k s fun s' => s'.pending = s.pending.drop k

/-- R50, R59: in reset every object holds its table's default, nothing waits for an instant of effect, no function has started, and the
dictionary is not served; and the stores are canonical. -/
def Obligations.ResetHoldsTheDefaults : Prop :=
  ((∀ k : Nat, State.reset.get k = defaultOf k ∧ State.reset.dom k = defaultContent k ∧ lookup k State.reset.pendR = none
        ∧ lookup k State.reset.pendD = none ∧ lookup k State.reset.burnR = none ∧ lookup k State.reset.burnD = none)
      ∧ (∀ n : Nat, State.reset.fnState n = 0) ∧ State.reset.served = false)
  ∧
  (State.reset.wf = true)

/-! ### Formats -/

/-- R281: the container that a compression makes decodes to its input, whichever blocks failed their check and are stored raw. -/
def Obligations.LooseContainersDecodeToTheirInput : Prop :=
  ∀ (level size : Nat) (failed : List Nat) (b : Bytes), size < 2 → 0 < b.length → b.length ≤ 2 ^ 30 →
    looseDecode (looseEncodeWith level size failed b) = some b

/-- R151: a tile is 480, 240, 160 or 120 bytes for formats 0x00 to 0x03. R152: the check value of the CRC used throughout. -/
def Obligations.PayloadsHaveTheirSizesAndCheck : Prop :=
  (∀ codes : List Nat, (tilePayload 0 codes).length = 480 ∧ (tilePayload 1 codes).length = 240
      ∧ (tilePayload 2 codes).length = 160 ∧ (tilePayload 3 codes).length = 120)
  ∧
  (crc32c (asciiBytes "123456789") = 0xE3069283)

/-- R400: class, function and cause each stand in their bits of a fault code, and a fault that is raised is of one of the classes in use. -/
def Obligations.FaultCodesAreComposed : Prop :=
  (∀ f : FaultEntry, f.cls < 16 → f.fn < 16 → f.cause < 256 →
    f.code < 65536 ∧ f.code / 4096 = f.cls ∧ f.code / 256 % 16 = f.fn ∧ f.code % 256 = f.cause)
  ∧ ∀ (s : State) (fn cause detail : Nat) (e : Effect), (s.newFault fn cause detail e).cls ∈ [1, 2, 3, 4, 5, 6, 7, 0xF]
      ∧ (s.newFault fn cause detail e).fn = fn ∧ (s.newFault fn cause detail e).cause = cause

/-- R52: an event takes the next number, 1 after reset and after 0xFFFF_FFFF, and never 0; and sequence a is at or below b when
(b − a) mod 2^32 is less than 2^31. -/
def Obligations.EventsAreNumberedWithoutZero : Prop :=
  State.reset.get 0x204005 = 0 ∧ nextEventSeq 0 = 1 ∧ nextEventSeq 0xFFFFFFFF = 1
    ∧ (∀ n, n < 0xFFFFFFFF → nextEventSeq n = n + 1) ∧ (∀ n, nextEventSeq n ≠ 0)
    ∧ (∀ a b, a < 2 ^ 32 → b < 2 ^ 32 → (seqAtOrBelow a b = true ↔ (b + (2 ^ 32 - a)) % 2 ^ 32 < 2 ^ 31))
    ∧ ∀ (s : State) (kind : Nat), s.get 0x280009 ≠ 0 → (s.event kind).get 0x204005 = nextEventSeq (s.get 0x204005) % 2 ^ 32

/-- R471: a degrading cause raised while its function is Starting, Resetting or Stopped by Hold leaves it so, and once it is usable it reports
Degraded while the cause is present, and Ready otherwise; a cause raised while it is Ready makes it Degraded at once. A function whose PLL
still locks is Starting (R26, log entry 83), so its PLLs are taken as locked here. -/
def Obligations.DegradedShowsOnceUsable : Prop :=
  ∀ (s : State) (n cause detail : Nat), n < s.stages.length → effectOf n cause = .degraded → s.awaitsLock n = false →
    (s.power.phase = .run →
      (nth s.stages n .off = .starting →
        (s.raise n cause detail).fnState n = 1 ∧ ((s.raise n cause detail).stage n .up).fnState n = 3)
      ∧ (nth s.stages n .off = .resetting →
        (s.raise n cause detail).fnState n = s.fnState n ∧ ((s.raise n cause detail).stage n .up).fnState n = 3)
      ∧ (s.degradedBy n = false → (s.stage n .up).fnState n = 2)
      ∧ (s.fnState n = 2 → (s.raise n cause detail).fnState n = 3))
    ∧ (s.power.phase = .hold → stopsInHold n = true → nth s.stages n .off = .up →
      (s.raise n cause detail).fnState n = 0
        ∧ ({ s.raise n cause detail with power := { s.power with phase := .run } }).fnState n = 3
        ∧ (s.degradedBy n = false → ({ s with power := { s.power with phase := .run } }).fnState n = 2))

/-! ### The dictionary and its carriers -/

/-- R8, R50: a write that passes every check is acknowledged; an RW-O value waits for a burn, an RW-E value for its epoch or shadow
commit, and an RW-I value is in effect at once. -/
def Obligations.RegisterWritesTakeEffectByAccessCode : Prop :=
  ∀ (s : State) (t index sub : Nat) (p : Path) (data : Bytes) (o : Obj), index < 65536 → sub < 256 →
    objOf (keyOf index sub) = some o → (s.begin t).hears p = true →
    (((s.begin t).heard p).takesValue (keyOf index sub) data = true →
      Answers (exec (.registerWrite t p index sub data) s) fun s' => s'.answered p 0 []
        ∧ (o.acc = .rwO → lookup (keyOf index sub) s'.burnR = some (leNat data) ∧ s'.get (keyOf index sub) = s.get (keyOf index sub))
        ∧ (o.acc = .rwE → keyOf index sub ≠ 0x420001 → lookup (keyOf index sub) s'.pendR = some (leNat data)
            ∧ s'.get (keyOf index sub) = s.get (keyOf index sub))
        ∧ (keyOf index sub ∈ heldScalars → s'.get (keyOf index sub) = leNat data))
    ∧ (((s.begin t).heard p).takesContent (keyOf index sub) data = true →
      Answers (exec (.registerWrite t p index sub data) s) fun s' =>
        (o.acc = .rwO → lookup (keyOf index sub) s'.burnD = some data ∧ s'.dom (keyOf index sub) = s.dom (keyOf index sub))
        ∧ (o.acc = .rwE → lookup (keyOf index sub) s'.pendD = some data ∧ s'.dom (keyOf index sub) = s.dom (keyOf index sub))
        ∧ (keyOf index sub ∈ heldContents → s'.dom (keyOf index sub) = data))

/-- R65: a write that does not pass the gate (no such object, no such subindex, an object that is not writable, a failed function, a full
reset acknowledged) is answered with its abort code and changes no object and no waiting value; and which code turns a write away. -/
def Obligations.WritesTurnedAwayChangeNothing : Prop :=
  (∀ (s : State) (t index sub : Nat) (p : Path) (data : Bytes), index < 65536 → sub < 256 → (s.begin t).hears p = true →
      s.gate (keyOf index sub) true ≠ 0 →
      Answers (exec (.registerWrite t p index sub data) s) fun s' =>
        s'.answered p (s.gate (keyOf index sub) true) [] ∧ SameObjects s s' ∧ SamePending s s' ∧ SameSystem s s' ∧ SamePicture s s'
          ∧ SameLinks s s')
  ∧
  (∀ (s : State) (k : Nat), s.ctl.fullResetAt = none →
      (objOf k = none → s.gate k true = if indexExists (k / 256) then 0x06090011 else 0x06020000)
      ∧ (∀ o, objOf k = some o → (o.acc = .ro ∨ o.acc = .const) → s.gate k true = 0x06010002)
      ∧ (∀ o, objOf k = some o → o.acc = .wo → s.gate k false = 0x06010001)
      ∧ (∀ o, objOf k = some o → o.acc ≠ .ro → o.acc ≠ .const → o.acc ≠ .rwO → s.fnState (functionOf k) = 4 → k ≠ 0x202001 → k ≠ 0x204004 →
          s.gate k true = 0x08000022))

/-- R46 to R48, R55: a read's answer carries up to 1,024 bytes of the content from the request's offset; a write that passes every check
takes effect and is acknowledged; a bulk write opens with the size it declares, a chunk at the offset reached is kept, one past it is
answered with the offset reached; a staged write that fits its object is set as the row falls. -/
def Obligations.UdpAccessesAreAnswered : Prop :=
  (∀ (s : State) (t a : Nat) (u : UdpArrival) (f : Bytes), s.takesDatagram u = true → s.get 0x203101 = 1 → s.sourceAllowed a = true →
      frameCrcOk f = true → frameFormOk f = true →
      ((frameOf f).opcode = 1 → ∀ b, (s.begin t).readObject (frameOf f).key = (0, b) →
        Answers (exec (.udpRead t a u f) s) fun s' =>
          Out.udp (s.get 0x280008) (s.get 0x203102) a (s.get 0x203102) (dictFrame 0x81 (frameOf f).tx (frameOf f).key 0 (frameOf f).offset
            ((b.drop (frameOf f).offset).take 1024)) ∈ s'.out)
      ∧ ((frameOf f).opcode = 2 → (frameOf f).key ∈ heldScalars → (frameOf f).key ≠ 0x203102 → (frameOf f).key ≠ 0x280008 →
          (s.begin t).takesValue (frameOf f).key (frameOf f).payload = true →
        Answers (exec (.udpWrite t a u f) s) fun s' =>
          s'.get (frameOf f).key = leNat (frameOf f).payload
            ∧ Out.udp (s.get 0x280008) (s.get 0x203102) a (s.get 0x203102) (dictFrame 0x82 (frameOf f).tx (frameOf f).key 0 0 []) ∈ s'.out))
  ∧
  (∀ (s : State) (t a : Nat) (u : UdpArrival) (f : Bytes), s.takesDatagram u = true → s.get 0x203101 = 1 → s.sourceAllowed a = true →
      frameCrcOk f = true → frameFormOk f = true →
      ((frameOf f).opcode = 3 → (s.begin t).bulkCode a (frameOf f) = 0 →
        Answers (exec (.udpBulkStart t a u f) s) fun s' =>
          s'.ctl.transactions = s.ctl.transactions ++ [{ source := a, dport := s.get 0x203102, id := (frameOf f).tx, key := (frameOf f).key
                                                         total := leNat (frameOf f).payload, last := max s.now t }]
            ∧ Out.udp (s.get 0x280008) (s.get 0x203102) a (s.get 0x203102) (dictFrame 0x82 (frameOf f).tx (frameOf f).key 0 0 []) ∈ s'.out)
      ∧ ((frameOf f).opcode = 4 → ∀ x ∈ s.ctl.transactions,
          (s.ctl.transactions.find? fun x => x.source == a && x.id == (frameOf f).tx && x.key == (frameOf f).key) = some x →
          (x.data.length = (frameOf f).offset → 0 < (frameOf f).payload.length → x.data.length + (frameOf f).payload.length < x.total →
              (s.begin t).looseStart x.total x.data (x.data ++ (frameOf f).payload) = false →
            Answers (exec (.udpBulkData t a u f) s) fun s' =>
              ∃ y ∈ s'.ctl.transactions, y.source = a ∧ y.id = (frameOf f).tx ∧ y.key = (frameOf f).key ∧ y.data = x.data ++ (frameOf f).payload
                ∧ y.last = max s.now t)
          ∧ (x.data.length < (frameOf f).offset →
            Answers (exec (.udpBulkData t a u f) s) fun s' =>
              Out.udp (s.get 0x280008) (s.get 0x203102) a (s.get 0x203102) (dictFrame 0x83 (frameOf f).tx (frameOf f).key 0 x.data.length []) ∈ s'.out
                ∧ ∃ y ∈ s'.ctl.transactions, y.source = a ∧ y.id = (frameOf f).tx ∧ y.data = x.data)))
  ∧
  (∀ (s : State) (t index sub : Nat) (w : Staged) (b : Bytes) (readBackOk : Bool), s.served = true → keyOf index sub ∈ heldContents →
      (s.ctl.staged.find? fun w => w.key == keyOf index sub) = some w → w.id = none → s.gate (keyOf index sub) true = 0 →
      s.refused (keyOf index sub) 0 = false → w.data = leBytes 2 0x4442 ++ leBytes 2 0 ++ leBytes 8 b.length ++ leBytes 4 (crc32c b) ++ b → 1024 < w.data.length → s.contentFits (keyOf index sub) b = true →
      b.length < 2 ^ 64 →
      Answers (exec (.domainStagingCheck t index ⟨sub, readBackOk⟩) s) fun s' =>
        s'.dom (keyOf index sub) = b ∧ s'.answered w.path 0 [] ∧ ∀ y ∈ s'.ctl.staged, y.key ≠ keyOf index sub)

/-- R49: at most 4 open transactions for a source and 8 in all; one past either limit is aborted; one idle for longer than 0x2031.05 is
aborted, and what it was writing keeps its content. -/
def Obligations.UdpTransactionsAreLimited : Prop :=
  ∀ (s : State) (t a : Nat), s.served = true → s.get 0x203101 = 1 →
    (∀ (u : UdpArrival) (f : Bytes) (o : Obj), s.takesDatagram u = true → s.sourceAllowed a = true → frameCrcOk f = true → frameFormOk f = true → (frameOf f).opcode = 3 →
      s.gate (frameOf f).key true = 0 → objOf (frameOf f).key = some o → o.ty = .dom → (frameOf f).payload.length = 8 →
      (s.ctl.transactions.any fun x => x.source == a && x.id == (frameOf f).tx) = false →
      (4 ≤ s.openOf (fun b => b == a) ∨ 8 ≤ s.openOf (fun _ => true)) →
      Answers (exec (.udpBulkStart t a u f) s) fun s' =>
        Out.udp (s.get 0x280008) (s.get 0x203102) a (s.get 0x203102) (dictFrame 0xEE (frameOf f).tx (frameOf f).key 0 0x05040005 []) ∈ s'.out
          ∧ s'.ctl.transactions = s.ctl.transactions)
    ∧ ∀ (id : Nat) (x : Transaction), (s.ctl.transactions.find? fun x => x.source == a && x.id == id) = some x →
      x.last + s.get 0x203105 * 1000000 < max s.now t →
      Answers (exec (.transactionTimeout t a id) s) fun s' =>
        Out.udp (s.get 0x280008) (s.get 0x203102) a (s.get 0x203102) (dictFrame 0xEE id x.key 0 0x05040000 []) ∈ s'.out
          ∧ (∀ y ∈ s'.ctl.transactions, y.source ≠ a ∨ y.id ≠ id) ∧ ∀ k, s'.dom k = s.dom k

/-- R40: requests on a CAN port's server channel, which come on COB-ID 0x600 + node-ID and are answered on 0x580 + node-ID: a download that
passes every check takes effect; an upload that fits one message is answered with the content; a new initiate aborts the transfer that is
open; a segment is kept, or handed out. R65: a transfer without progress for 500 ms is aborted with 0x0504_0000. The forms of
CAN messages are presumed (log entry 60). -/
def Obligations.SdoTransfersAreServed : Prop :=
  (∀ (s : State) (t q index sub : Nat) (data : Bytes), q < 2 → s.canServes q = true →
      (keyOf index sub ∈ heldScalars → ((s.begin t).supersede q).takesValue (keyOf index sub) data = true →
        Answers (exec (.sdoTransfer t q ⟨(0x600 + s.nodeId), .initiateDownload index sub data⟩) s) fun s' =>
          s'.get (keyOf index sub) = leNat data ∧ Out.answer (.can q) (0x580 + s.nodeId) 0 [] ∈ s'.out)
      ∧ (∀ b, ((s.begin t).supersede q).readObject (keyOf index sub) = (0, b) → b.length ≤ s.expeditedSize q →
        Answers (exec (.sdoTransfer t q ⟨(0x600 + s.nodeId), .initiateUpload index sub⟩) s) fun s' =>
          Out.answer (.can q) (0x580 + s.nodeId) 0 b ∈ s'.out)
      ∧ (∀ o, s.sdoOf q = some o →
        Answers (exec (.sdoTransfer t q ⟨(0x600 + s.nodeId), .initiateUpload index sub⟩) s) fun s' =>
          Out.answer (.can q) (0x580 + s.nodeId) 0x05040001 [] ∈ s'.out)
      ∧ (∀ o toggle, s.sdoOf q = some o → o.upload = false → o.block = false → toggle = o.toggle →
          (s.begin t).looseStart o.size o.data (o.data ++ data) = false →
        Answers (exec (.sdoTransfer t q ⟨(0x600 + s.nodeId), .downloadSegment toggle data false⟩) s) fun s' =>
          s'.sdoOf q = some { o with data := o.data ++ data, toggle := !o.toggle, last := max s.now t }
            ∧ Out.answer (.can q) (0x580 + s.nodeId) 0 [] ∈ s'.out)
      ∧ (∀ o toggle, s.sdoOf q = some o → o.upload = true → o.block = false → toggle = o.toggle →
        Answers (exec (.sdoTransfer t q ⟨(0x600 + s.nodeId), .uploadSegment toggle⟩) s) fun s' =>
          Out.answer (.can q) (0x580 + s.nodeId) 0 (o.data.take (s.segmentSize q)) ∈ s'.out))
  ∧
  (∀ (s : State) (t q : Nat) (o : SdoOpen), q < 2 → s.canServes q = true → s.sdoOf q = some o → o.last + 500000000 ≤ max s.now t →
      Answers (exec (.sdoTimeout t q) s) fun s' => s'.sdoOf q = none ∧ Out.answer (.can q) (0x580 + s.nodeId) 0x05040000 [] ∈ s'.out)

/-- R42: NMT commands to this node or to all nodes set the port's state, or reset its communication; and they leave alone every object,
every waiting value, every unit, and the other port. The forms of
CAN messages are presumed (log entry 60). -/
def Obligations.NmtCommandsSetThePortAlone : Prop :=
  (∀ (s : State) (t q node : Nat) (c : CanPort), q < 2 → s.ctl.ports[q]? = some c → s.nmtHears q node = true →
      (Answers (exec (.nmtStart t q node) s) fun s' => s'.ctl.ports[q]? = some { c with nmt := .operational })
      ∧ (Answers (exec (.nmtStop t q node) s) fun s' => s'.ctl.ports[q]? = some { c with nmt := .stopped })
      ∧ (Answers (exec (.nmtEnterPreOperational t q node) s) fun s' => s'.ctl.ports[q]? = some { c with nmt := .preOperational })
      ∧ (Answers (exec (.nmtResetCommunication t q node) s) fun s' => Out.can q (0x700 + s.nodeId) [0] ∈ s'.out
          ∧ s'.ctl.ports[q]? = some { c with nmt := .preOperational, sdo := none, heartbeatAt := max s.now t })
      ∧ (Answers (exec (.nmtResetNode t q node) s) fun s' => Out.can q (0x700 + s.nodeId) [0] ∈ s'.out
          ∧ s'.ctl.ports[q]? = some { c with nmt := .preOperational, sdo := none, heartbeatAt := max s.now t }))
  ∧
  (∀ (s s' : State) (t q node : Nat),
      (exec (.nmtStart t q node) s = .next s' ∨ exec (.nmtStop t q node) s = .next s' ∨ exec (.nmtEnterPreOperational t q node) s = .next s'
        ∨ exec (.nmtResetCommunication t q node) s = .next s' ∨ exec (.nmtResetNode t q node) s = .next s') →
      SameObjects s s' ∧ SamePending s s' ∧ SameSystem s s' ∧ SamePicture s s' ∧ SameLinks s s'
        ∧ ∀ r, r ≠ q → s'.ctl.ports[r]? = s.ctl.ports[r]?)

/-- R41, R44, R53: the heartbeat falls due; a queued emergency leaves once the inhibit time has passed; one frame tells how many events were
lost. R52, R406: an acknowledgement marks every fault at or below its sequence, and those whose handling is over leave the queue. R412,
R419, R379: a host note becomes a Beacon entry; a read of the entries advances past them, one of captured timestamps removes them. The forms of
CAN messages are presumed (log entry 60). -/
def Obligations.MessagesAndEventsAreHanded : Prop :=
  (∀ (s : State) (t q : Nat) (c : CanPort), q < 2 → s.served = true →
      (s.ctl.ports[q]? = some c → s.portOn q = true → s.get 0x101700 ≠ 0 → c.heartbeatAt + s.get 0x101700 * 1000000 ≤ max s.now t →
        Answers (exec (.producerHeartbeat t q) s) fun s' =>
          Out.can q (0x700 + s.nodeId) (leBytes 1 c.nmt.code) ∈ s'.out ∧ s'.ctl.ports[q]? = some { c with heartbeatAt := max s.now t })
      ∧ (∀ e rest, s.ctl.ports[q]? = some c → s.portOn q = true → bitOf (s.get 0x101400) 31 = false → c.nmt ≠ .stopped → c.emcy = e :: rest →
          (∀ l, c.lastEmcy = some l → l + s.get 0x101500 * 100000 ≤ max s.now t) →
        Answers (exec (.emcyInhibitExpiry t q) s) fun s' =>
          Out.can q (s.get 0x101400 % 2048) e.bytes ∈ s'.out
            ∧ s'.ctl.ports[q]? = some { c with emcy := rest, lastEmcy := some (max s.now t), overflowing := false })
      ∧ (s.ctl.eventsLost ≠ 0 → s.ctl.eventFrames.length < 64 → s.eventsOn = true → s.get 0x280009 ≠ 0 →
        Answers (exec (.eventsLostFrame t) s) fun s' => s'.ctl.eventsLost = 0
          ∧ Out.udp (s.get 0x280008) (s.get 0x203102) (leNat ((s.dom 0x203104).take 16)) (fieldLE (s.dom 0x203104) 16 2)
              (dictFrame 0xE0 0 0 0 0 ((s.begin t).eventPayload 5 s.ctl.eventsLost s.ctl.lostSeq s.ctl.lostTime)) ∈ s'.out))
  ∧
  (∀ (s : State) (t v : Nat) (p : Path), (s.begin t).hears p = true → ((s.begin t).heard p).takesValue 0x204004 (leBytes 4 v) = true →
      s.faults.overflowOwed = false → v < 2 ^ 32 →
      Answers (exec (.eventAcknowledge t p v) s) fun s' => s'.answered p 0 [] ∧ s'.get 0x204004 = v
        ∧ s'.faults.queue = (s.faults.queue.map fun f => if seqAtOrBelow f.seq v then { f with acked := true } else f).filter
            (fun f => !f.leaves))
  ∧
  (∀ (s : State) (t : Nat) (p : Path), (s.begin t).hears p = true →
      (∀ data note, ((s.begin t).heard p).takesTransfer 0x22100D data note = true → s.beacon.pending = [] →
        Answers (exec (.hostNote t p data) s) fun s' => s'.answered p 0 []
          ∧ ∃ e ∈ s'.beacon.staging, e.kind = 0x0C ∧ e.seq = s.beacon.nextSeq ∧ e.body = leBytes 2 note.length
              ∧ e.payload = note ∧ e.job = (!note.isEmpty && s.groomerRuns)
              ∧ (s.beacon.present = true → s.beacon.stagingOnly = false → s'.beacon.pending = [e]))
      ∧ (∀ b e, ((s.begin t).heard p).readObject 0x22100C = (0, b) → s.beaconEntries.getLast? = some e → e.seq + 1 < 2 ^ 64 →
        Answers (exec (.beaconRead t p) s) fun s' => s'.answered p 0 b ∧ s'.get 0x22100B = e.seq + 1)
      ∧ (∀ input b, input < 4 → ((s.begin t).heard p).readObject (capK input 4) = (0, b) →
        Answers (exec (.timestampsRead t p input) s) fun s' => s'.answered p 0 b ∧ (s'.capture input).queue = []))

/-! ### Reset, power states, power failure, start-up -/

/-- R50, R62, R63, R408, R423: each cause of a reset brings every object back to its default but the power-fail counts and the crystal
switch of the always-on domain, stops every function, loses every waiting value, and keeps the cause for the next start. -/
def Obligations.ResetsBringTheDefaults : Prop :=
  ∀ (s : State) (t : Nat),
    (∀ a, s.ctl.fullResetAt = some a → a + 10000000 ≤ max s.now t →
      Answers (exec (.fullResetExecute t) s) fun s' => AtDefaults s s' 2)
    ∧ (s.faults.resetRequested = true → s.served = true → s.pair.role ≠ 1 → s.paired = true ∨ s.get 0x220007 ≠ 1 →
        (s.nv.resets.filter fun r => decide (max s.now t < r + 600000000000)).length < 3 →
      Answers (exec (.fullResetServe t) s) fun s' => AtDefaults s s' 3)
    ∧ (s.served = true →
      (Answers (exec (.watchdogReset t) s) fun s' => AtDefaults s s' 4)
      ∧ (Answers (exec (.lockstepMismatch t) s) fun s' => AtDefaults s s' 5))
    ∧ (∀ w, 10000 ≤ w → s.power.phase ≠ .reset → Answers (exec (.resetNAssert t w) s) fun s' => AtDefaults s s' 1)

/-- R63, R64: a full reset request is acknowledged and noted; a function reset makes its function Resetting, and its completion makes it
Ready, the panel link through training. -/
def Obligations.ResetRequestsAreTaken : Prop :=
  (∀ (s : State) (t : Nat) (p : Path), (s.begin t).hears p = true →
      (∀ v, ((s.begin t).heard p).takesValue 0x202001 (leBytes 4 v) = true →
        Answers (exec (.fullReset t p v) s) fun s' => s'.answered p 0 [] ∧ s'.ctl.fullResetAt = some (max s.now t))
      ∧ (∀ n, n < s.stages.length → n < 256 → ((s.begin t).heard p).takesValue 0x202002 (leBytes 1 n) = true →
        Answers (exec (.functionReset t p n) s) fun s' => s'.answered p 0 [] ∧ nth s'.stages n .off = .resetting))
  ∧
  (∀ (s : State) (t n : Nat), n < 16 → nth s.stages n .off = .resetting →
      (n ≠ 0xA → Answers (exec (.functionResetComplete t n) s) fun s' => nth s'.stages n .off = .up)
      ∧ (n = 0xA → Answers (exec (.functionResetComplete t n) s) fun s' =>
          nth s'.stages n .off = .starting ∧ s'.link.step = 1 ∧ s'.link.trained = false))

/-- R28 to R31: the host's power requests: Hold from Run at once; the return to Run begins by locking the stopped domains' PLLs; Sleep and
Off are entered from Run and Hold; an entry completes, ends the host-request and trip causes and arms the wake timer; enabled wakes
start; a wake from Sleep returns to Run; a thermal trip clears; a PLL locks. That the wake timer counts from the entry's completion is the
model's choice (log entry 14), and so are the domains that name PLLs (log entry 83). -/
def Obligations.PowerStatesAreServed : Prop :=
  (∀ (s : State) (t : Nat) (p : Path), (s.begin t).hears p = true →
      (((s.begin t).heard p).takesValue 0x210002 [0] = true → s.power.phase = .hold → s.power.tripHold = false → s.power.pfailHold = false →
          s.power.leavingHold = false →
        Answers (exec (.requestRun t p) s) fun s' => s'.answered p 0 [] ∧ s'.power.hostHold = false ∧ s'.power.leavingHold = true
          ∧ (∀ d, d = .carver ∨ d = .media → d ∈ s'.power.plls ∧ (d ∉ s.power.plls → d ∈ s'.power.locking)))
      ∧ (((s.begin t).heard p).takesValue 0x210002 [1] = true → s.power.phase = .run →
        Answers (exec (.requestHold t p) s) fun s' => s'.answered p 0 [] ∧ s'.power.phase = .hold ∧ s'.power.hostHold = true)
      ∧ (((s.begin t).heard p).takesValue 0x210002 [2] = true → s.power.phase = .run ∨ s.power.phase = .hold →
        Answers (exec (.requestSleep t p) s) fun s' => s'.answered p 0 [] ∧ s'.power.phase = .enteringSleep ∧ s'.power.entryFrom = s.power.phase)
      ∧ (((s.begin t).heard p).takesValue 0x210002 [3] = true → s.power.phase = .run ∨ s.power.phase = .hold →
        Answers (exec (.requestOff t p) s) fun s' => s'.answered p 0 [] ∧ s'.power.phase = .enteringOff ∧ s'.power.entryFrom = s.power.phase))
  ∧
  (∀ (s : State) (t : Nat),
      (s.power.phase = .enteringSleep ∨ s.power.phase = .enteringOff → s.power.later = none → s.power.wakeHeld = false →
        Answers (exec (.powerEntryComplete t) s) fun s' =>
          s'.power.phase = (if s.power.phase = .enteringOff then .off else .sleep) ∧ s'.power.hostHold = false ∧ s'.power.tripHold = s.tripStays
            ∧ s'.power.plls = [] ∧ s'.link.trained = false ∧ s'.pair.twinUp = false
            ∧ s'.power.wakeTimerArmed = (if s.get 0x210005 = 0 then none else some (max s.now t + s.get 0x210005 * 1000000000))
            ∧ Out.pin .pwrEnCore false ∈ s'.out)
      ∧ (∀ q, q < 2 → bitOf (s.get 0x210004) q = true → s.power.pfailLow = false → s.power.phase = .sleep ∨ s.power.phase = .off →
        Answers (exec (.canWake t q) s) fun s' => s'.power.waking = true ∧ Out.pin .pwrEnCore true ∈ s'.out
          ∧ (s.power.phase = .off → s'.power.nextCause = some 6))
      ∧ (∀ a, s.power.wakeTimerArmed = some a → a ≤ max s.now t → bitOf (s.get 0x210004) 2 = true → s.power.pfailLow = false →
          s.power.phase = .sleep ∨ s.power.phase = .off →
        Answers (exec (.wakeTimerExpiry t) s) fun s' => s'.power.waking = true ∧ s'.power.wakeTimerArmed = none)
      ∧ (∀ ok, s.power.phase = .sleep → s.power.waking = true → s.power.dramLost = false → s.power.pfailLow = false →
          s.power.hostHold = false → s.power.tripHold = false →
        Answers (exec (.sleepWake t ok) s) fun s' => s'.power.phase = .run ∧ s'.power.waking = false)
      ∧ (∀ c, s.power.coolSince = some c → s.power.tripHold = true → c + 16000000 ≤ max s.now t →
          s.lift.invalid.any (fun b => !b) = true →
        Answers (exec (.thermalTripClear t) s) fun s' => s'.power.tripHold = false)
      ∧ (∀ d, d ∈ s.power.locking →
        Answers (exec (.pllLock t d) s) fun s' => s'.power.locking = s.power.locking.filter (fun x => x != d)))

/-- R425, R426, R428: PFAIL_N is recognised, released within 50 ms, and waited for in vain. R423, R425, R424: what a short pulse of RESET_N,
a glitch of PFAIL_N and the switch to the internal oscillator leave alone. -/
def Obligations.PowerFailureIsFollowed : Prop :=
  (∀ (s : State) (t : Nat),
      (s.power.phase ≠ .reset → s.power.phase ≠ .off →
        Answers (exec (.pfailGlitch t) s) fun s' => s'.get 0x213003 = (s.get 0x213003 + 1) % 2 ^ 32)
      ∧ (s.power.phase = .run ∨ s.power.phase = .hold → s.power.pfailHold = false →
        Answers (exec (.pfailRecognition t) s) fun s' => s'.power.phase = .hold ∧ s'.power.pfailHold = true ∧ s'.power.pfailLow = true
          ∧ s'.power.pfailAt = some (max s.now t))
      ∧ (s.power.phase = .sleep → s.power.pfailLow = false →
        Answers (exec (.pfailRecognition t) s) fun s' => s'.power.phase = .sleep ∧ s'.get 0x213001 = 1
          ∧ s'.get 0x213002 = (s.get 0x213002 + 1) % 2 ^ 32 ∧ s'.power.pfailAt = some (max s.now t))
      ∧ (∀ a, s.power.phase = .hold → s.power.pfailLow = true → s.power.pfailAt = some a → s.get 0x213001 = 1 → max s.now t ≤ a + 50000000 →
        Answers (exec (.pfailRelease t) s) fun s' => s'.power.pfailHold = false ∧ s'.power.pfailLow = false ∧ s'.get 0x213001 = 0
          ∧ s'.get 0x213004 = (s.get 0x213004 + 1) % 2 ^ 32)
      ∧ (∀ a, s.power.phase = .hold → s.power.pfailLow = true → s.power.pfailAt = some a → a + 50000000 < max s.now t →
        Answers (exec (.pfailRelease t) s) fun s' => s'.power.phase = .hold ∧ s'.get 0x213001 = 2)
      ∧ (∀ a, s.power.pfailLow = true → s.power.pfailAt = some a → s.get 0x213001 = 1 → a + 50000000 ≤ max s.now t →
        Answers (exec (.pfailWaitForReset t) s) fun s' => s'.get 0x213001 = 2)
      ∧ (Answers (exec (.xtalSwitch t) s) fun s' => s'.get 0x213006 = 1))
  ∧
  (∀ (s s' : State) (t w : Nat),
      (w < 1000 → exec (.resetNAssert t w) s = .next s' →
        SameObjects s s' ∧ SamePending s s' ∧ SameSystem s s' ∧ SamePicture s s' ∧ SameLinks s s')
      ∧ (exec (.pfailGlitch t) s = .next s' ∨ exec (.xtalSwitch t) s = .next s' →
        (∀ k, k ≠ 0x213003 → k ≠ 0x213006 → k ≠ 0x204005 → k ≠ 0x201005 → s'.get k = s.get k) ∧ (∀ k, s'.dom k = s.dom k)
          ∧ SamePending s s' ∧ SameSystem s s' ∧ SamePicture s s' ∧ SameLinks s s'))

/-- R427, R429, R442: from reset, with PFAIL_N high and an image that makes the dictionary readable, a cold start ends with the dictionary
served and the strap sampled; start-up writes that waited for function 0x2 are applied. R403, R410, R414: the oldest fault whose slot
has come is handled and enters the error history; a Beacon entry is written to the journal; a recovery entry names the entries dropped. -/
def Obligations.StartUpFaultsAndEntriesAreServed : Prop :=
  (∀ (s : State) (t : Nat),
      (∀ f : BootFacts, (Instr.coldStart t f).wf = true → s.power.phase = .reset → s.power.pfailLow = false → f.slotReadable = true →
          (s.nv.records.filter fun r => r.2.1) = [] →
        Answers (exec (.coldStart t f) s) fun s' => s'.power.phase = .run ∧ s'.served = true ∧ s'.pair.strapB = f.strapB
          ∧ s'.cal.paused = [])
      ∧ (∀ k b, s.served = true → s.usable 2 = true → s.cal.paused = [(k, b)] → k ∈ heldContents → s.takesContent k b = true →
        Answers (exec (.startupWritesResume t) s) fun s' => s'.dom k = b ∧ s'.cal.paused = []))
  ∧
  (∀ (s : State) (t : Nat), s.served = true →
      (∀ f, (s.faults.queue.find? fun f => !f.handled) = some f → (s.faults.slots.any fun p => p.1 == f.seq && decide (p.2 ≤ max s.now t)) = true →
          s.faults.overflowOwed = false → s.beacon.pending = [] → f.cls < 16 → f.fn < 16 → f.cause < 256 →
        Answers (exec (.faultHandlingSlot t) s) fun s' =>
          (∀ g ∈ s'.faults.queue, g.seq = f.seq → g.handled = true) ∧ s'.get 0x100301 = f.code * 65536 + (0xFF00 + f.cls))
      ∧ (∀ e rest rate, s.beacon.present = true → s.beacon.stagingOnly = false → s.beacon.pending = e :: rest → s.jobWaits e = false → e.size < 4096 →
        Answers (exec (.beaconEntryWrite t true rate) s) fun s' =>
          (∃ x ∈ s'.nv.journal, x.2 = { e with job := false }) ∧ ∀ y ∈ s'.beacon.pending, y.seq ≠ e.seq)
      ∧ (∀ lo hi, s.beacon.dropped = some (lo, hi) → s.beacon.pending = [] →
        Answers (exec (.recoveryEntry t) s) fun s' => ∃ e ∈ s'.beacon.staging, e.kind = 0x0D ∧ e.seq = s.beacon.nextSeq
          ∧ e.body = leBytes 8 lo ++ leBytes 8 hi ++ [1]))

/-! ### Scene, ray maps, carving, Lift and the Plough -/

/-- R84, R110, R109, R76: a commit request is held for a tick; a swap request and its withdrawal change the shadow's state at once; a surface
takes its format. R108, R109, R110: writes of the shadow bank replace its geometry, its entries or single entries, a copy request fills
it from the bank in force, and the bank in force stays as it was. -/
def Obligations.SceneAndShadowWritesAreTaken : Prop :=
  (∀ (s : State) (t : Nat) (p : Path), (s.begin t).hears p = true →
      (((s.begin t).heard p).takesValue 0x400003 [1] = true → s.grouped = false →
        Answers (exec (.commitRequest t p) s) fun s' => s'.answered p 0 [] ∧ s'.scene.requested = true ∧ s'.scene.requestAt = max s.now t)
      ∧ (((s.begin t).heard p).takesValue 0x420001 [1] = true →
        Answers (exec (.rayMapSwapRequest t p) s) fun s' => s'.answered p 0 [] ∧ s'.get 0x420003 = 3 ∧ lookup 0x420001 s'.pendR = some 1)
      ∧ (((s.begin t).heard p).takesValue 0x420001 [0] = true →
        Answers (exec (.rayMapSwapWithdraw t p) s) fun s' => s'.answered p 0 [] ∧ lookup 0x420001 s'.pendR = some 0
          ∧ s'.get 0x420003 = if s.get 0x420003 = 3 then 2 else s.get 0x420003)
      ∧ (∀ n v, n < 64 → v < 256 → ((s.begin t).heard p).takesValue (surfaceK n 1) (leBytes 1 v) = true →
        Answers (exec (.surfaceFormat t p n v) s) fun s' => s'.answered p 0 [] ∧ s'.get (surfaceK n 1) = v))
  ∧
  (∀ (s : State) (t : Nat) (p : Path) (data b : Bytes), (s.begin t).hears p = true → s.shadow < s.banks.geometry.length →
      s.shadow < s.banks.entries.length →
      (((s.begin t).heard p).takesTransfer 0x420004 data b = true →
        Answers (exec (.shadowGeometry t p data true) s) fun s' => s'.answered p 0 [] ∧ s'.shadowGeometryBytes = b
          ∧ s'.activeGeometry = s.activeGeometry ∧ s'.activeEntries = s.activeEntries)
      ∧ (((s.begin t).heard p).takesTransfer 0x420005 data b = true →
        Answers (exec (.shadowEntries t p data true) s) fun s' => s'.answered p 0 [] ∧ s'.shadowEntryBytes = b ∧ s'.get 0x420003 = 2
          ∧ s'.shadowGeometryBytes = s.shadowGeometryBytes ∧ s'.activeEntries = s.activeEntries)
      ∧ (((s.begin t).heard p).takesTransfer 0x420006 data b = true →
        Answers (exec (.shadowEntryPatch t p data true) s) fun s' => s'.answered p 0 [] ∧ s'.get 0x420003 = 2
          ∧ s'.shadowEntryBytes = patched b s.shadowEntryBytes ∧ s'.activeEntries = s.activeEntries)
      ∧ (((s.begin t).heard p).takesValue 0x420007 [1] = true →
        Answers (exec (.shadowCopyRequest t p) s) fun s' => s'.answered p 0 [] ∧ s'.get 0x420003 = 2
          ∧ s'.shadowGeometryBytes = s.activeGeometry ∧ s'.shadowEntryBytes = s.activeEntries))

/-- R367, R368: a content-frame tick at least half a period after the last one is taken. R89, R91, R92: a layer that held too long shows what
its policy gives; a layer whose content has not advanced becomes stale; a camera layer bound to a safety region takes its new frame at
once. -/
def Obligations.TicksAndLayerEventsAreTaken : Prop :=
  (∀ (s : State) (t : Nat) (k : Tick), s.power.phase = .run ∨ s.power.phase = .hold → (s.begin t).tickNow = some k →
      Answers (exec (.contentFrameTick t) s) fun s' => s'.net.lastTickLocal = some k.at_ ∧ s'.net.tickAfter = some k.time)
  ∧
  (∀ (s : State) (t n : Nat), n < s.scene.layers.length → n < 16 → s.layerOn n = true →
      (∀ since, (s.run n).state = 2 → (s.run n).notReadySince = some since → (s.begin t).targeted (s.begin t).ptp 17 n = false →
        Answers (exec (.holdLimitExpiry t n) s) fun s' => (s'.run n).state = (s.begin t).policyState n since (s.begin t).ptp)
      ∧ (∀ limit, s.staleLimit n = some limit → (s.run n).stale = false → (s.begin t).lastAdvance n + limit ≤ max s.now t →
        Answers (exec (.layerStale t n) s) fun s' => (s'.run n).stale = true ∧ (0xB, 2, n) ∈ s'.faults.standing)
      ∧ (∀ q pic d, q < 8 → q < s.media.cams.length → n < s.media.shown.length → s.power.phase = .run → s.usable 9 = true →
          ((List.range 8).filter fun m => s.layerOn m && (s.layer m).kind == 2 && (s.layer m).colour == q
            && s.safetyRegions.any fun r => r.bound == m) = [n] →
          (s.begin t).pickVideo n (s.begin t).ptp = some (pic, d) → (s.begin t).showsFrame n pic = false →
        Answers (exec (.safetyRerender t q) s) fun s' => nth s'.media.shown n none = some pic ∧ (s'.run n).state = 1
          ∧ (s'.run n).notReadySince = none))

/-- R346, R347: a carver without a band takes the next one; a result at its placement epoch is accepted, one at another is counted and
discarded. R32, R135, R347, R348: a golden tile that matches starts the count anew, one that does not retires its carver, and so does a
fault; a witness buffer is complete. -/
def Obligations.CarversWorkAndAreChecked : Prop :=
  (∀ (s : State) (t i : Nat), i < 36 → i < s.lift.carvers.length →
      (∀ b, s.power.phase = .run → s.usable 9 = true → s.acting = true → (s.carver i).working = true → (s.carver i).active = true →
          (s.carver i).stopping = false → (s.carver i).band = none → (s.carver i).bands < s.get 0x25000A → s.nextBand = some b →
        Answers (exec (.tileBandIssue t i) s) fun s' => (s'.carver i).bands = (s.carver i).bands + 1
          ∧ ∃ x, (s'.carver i).band = some x ∧ x.module = b.1 ∧ x.row = b.2 ∧ x.placement = s.get 0x250007)
      ∧ (∀ x, (s.carver i).band = some x → (s.carver i).stopping = false →
        (Answers (exec (.tileBandComplete t i (x.module * 135 + x.row) x.placement) s) fun s' => (s'.carver i).band = none)
        ∧ ∀ epoch, epoch ≠ x.placement →
          Answers (exec (.tileBandComplete t i (x.module * 135 + x.row) epoch) s) fun s' =>
            s'.get 0x250008 = (s.get 0x250008 + 1) % 2 ^ 32 ∧ s'.link = s.link ∧ s'.lift = s.lift))
  ∧
  (∀ (s : State) (t i : Nat), i < 36 → i < s.lift.carvers.length →
      (s.power.phase = .run → s.usable 9 = true → (s.carver i).working = true → (s.carver i).active = true →
        (Answers (exec (.goldenTile t i Config.goldenTileCrc) s) fun s' => (s'.carver i).bands = 0 ∧ (s'.carver i).working = true)
        ∧ ∀ crc, crc ≠ Config.goldenTileCrc →
          Answers (exec (.goldenTile t i crc) s) fun s' => (s'.carver i).working = false)
      ∧ ((s.carver i).working = true → Answers (exec (.carverFault t i) s) fun s' => (s'.carver i).working = false)
      ∧ (∀ g, s.geometry = some g → s.get 0x410011 ≠ 0 →
        Answers (exec (.witnessBufferComplete t) s) fun s' => s'.get 0x410015 = (s.get 0x410015 + 1) % 2 ^ 32 ∧ s'.scene.witness = []
          ∧ ∃ w, s'.media.witness = some w ∧ w.width = s.witnessSize.1 ∧ w.height = s.witnessSize.2))

/-- R335, R339, R355: a slot's reading is kept, sensors in steps of 0.25 °C; the effective limit falls by 500 mW while a valid sensor
reads at or above the throttle threshold and climbs by 500 mW after 16 ms clear; a lower configured limit holds at once. -/
def Obligations.HousekeepingAndThePloughFollow : Prop :=
  ∀ (s : State) (t : Nat),
    (∀ ch reading, ch < 32 → ch < s.lift.readings.length → s.power.phase ≠ .reset → s.power.phase ≠ .off →
      Answers (exec (.housekeepingSlot t ch reading) s) fun s' =>
        nth s'.lift.readings ch none = some (if ch < 12 then roundSensor reading else reading % 65536))
    ∧ (s.ploughActs = true → s.roundDone = true → s.forced = false →
        (s.validReadings.any fun v => decide (s.geti 16 0x211003 ≤ v)) = true → 6000 < s.get 0x211002 → s.get 0x211002 < 2 ^ 16 →
      Answers (exec (.ploughEvaluation t) s) fun s' => s'.get 0x211002 = max 6000 (s.get 0x211002 - 500))
    ∧ (s.ploughActs = true → s.roundDone = true → s.forced = false →
        (s.validReadings.any fun v => decide (s.geti 16 0x211003 ≤ v)) = false → s.get 0x211004 ≤ s.get 0x211002 →
        s.get 0x211002 < s.get 0x211001 → s.get 0x211001 < 2 ^ 16 → s.lift.clearSince + 16000000 ≤ max s.now t →
      Answers (exec (.ploughEvaluation t) s) fun s' => s'.get 0x211002 = min (s.get 0x211001) (s.get 0x211002 + 500))
    ∧ (∀ p mw, (s.begin t).hears p = true → mw < 2 ^ 16 → ((s.begin t).heard p).takesValue 0x211001 (leBytes 2 mw) = true →
        s.get 0x211002 < 2 ^ 16 →
      Answers (exec (.powerLimit t p mw) s) fun s' => s'.answered p 0 [] ∧ s'.get 0x211001 = mw
        ∧ s'.get 0x211002 = min mw (s.get 0x211002) ∧ s'.get 0x211007 = (ploughLevel (min mw (s.get 0x211002))).2.2)

/-- R127 (with R69, R126): a layer with alpha and opacity both 65,536 sets the transmittance to exactly 0, so nothing behind it counts; and
the front-to-back order, greater depth first and then the lower rank, does not depend on the order in which layers were fetched. -/
def Obligations.CompositingIsOpaqueAndOrderFree : Prop :=
  (∀ (x : Sample) (rest rest' : List Sample) (c t : Nat), x.a = 65536 → x.o = 65536 →
      compositeLoop (x :: rest) c t = compositeLoop (x :: rest') c t ∧ (compositeLoop (x :: rest) c t).2 = 0)
    ∧ (∀ l l' : List Sample, l.Perm l' → l.Pairwise (fun x y => x.z ≠ y.z ∨ x.rank ≠ y.rank) → frontToBack l = frontToBack l')
    ∧ (∀ l : List Sample, (frontToBack l).Perm l ∧ (frontToBack l).Pairwise fun x y => y.z < x.z ∨ (x.z = y.z ∧ x.rank ≤ y.rank))
    ∧ ∀ (l : List Sample) (bg : Nat), composite l bg ≤ 65535

/-- R96, R128, R129: the colour of a subpixel position, the ageing gain, and the link code with the spec's worked figures. -/
def Obligations.LightBecomesItsCode : Prop :=
  (∀ p, p < 3 → colourOf 0 p = p ∧ colourOf 1 p = 2 - p)
    ∧ (∀ c g, c < 65536 → applyGain c 32768 = c ∧ applyGain c 0 = 0 ∧ applyGain c g ≤ 65535)
    ∧ applyGain 45293 32153 = 44443 ∧ linkCode 44443 (List.replicate 694 0 ++ [40710, 40790]) = 637
    ∧ ∀ v e, linkCode v e ≤ 1023

/-! ### The Maelwin link and the Rinkboard -/

/-- R145, R147, R165: training with 16 good lanes brings the link up at full width; a member that acts as owner and holds no epoch claims the
panel, another stands idle; a step that misses its bound begins again, and the third time within 1 s the link fails; a retrain keeps
what is unacknowledged. R141, R144, R146, R165, R396: deskew sets, at which a lane map sent before takes effect, the bursts of an idle
port, a retired lane, a standby's loopback, and a CLAIM with an epoch one above the largest of the three known ones. -/
def Obligations.LinksTrainAndLanesAreKept : Prop :=
  (∀ (s : State) (t : Nat),
      (∀ locked (caps : Bytes), nth s.stages 0xA .off = .starting → s.link.step = 1 → 16 ≤ caps.length →
          16 ≤ ((List.range 18).filter fun l => bitOf locked l && !bitOf (s.get 0x480004) l).length →
        Answers (exec (.linkTraining t locked caps) s) fun s' =>
          s'.link.trained = true ∧ nth s'.stages 0xA .off = .up ∧ s'.get 0x480002 = 16
            ∧ (s.acting = false → s'.get 0x480001 = 3 ∧ Out.orderedSet false 3 0 0 ∈ s'.out)
            ∧ (s.acting = true → s.link.claiming = none → heldBytes s.link.retry + 44 ≤ 2097152 → s.link.retry.length < 16383 →
                (∀ q ∈ s.link.retry, q.lost = false) → s'.get 0x480001 = 1
                ∧ s'.link.claiming = some (max (s.get 0x48000D) (max s.pair.mirrorEpoch (s.get 0x48000C)) + 1)))
      ∧ (∀ step, 1 ≤ step → step ≤ 7 → nth s.stages 0xA .off = .starting →
          step ≤ 4 ∧ s.link.step = 1 ∨ 5 ≤ step ∧ s.link.step = 6 →
          (s.link.fails = [] →
            Answers (exec (.trainingStepTimeout t step) s) fun s' =>
              s'.link.step = 1 ∧ s'.link.fails = [max s.now t] ∧ nth s'.stages 0xA .off = .starting)
          ∧ (2 ≤ (s.link.fails.filter fun f => decide (max s.now t < f + 1000000000)).length →
            Answers (exec (.trainingStepTimeout t step) s) fun s' =>
              nth s'.stages 0xA .off = .failed ∧ s'.get 0x480001 = 5 ∧ s'.faults.resetRequested = true))
      ∧ (∀ reason, s.link.trained = true → s.usable 0xA = true →
        Answers (exec (.retrain t reason) s) fun s' =>
          s'.link.trained = false ∧ s'.link.step = 1 ∧ s'.get 0x480001 = 4 ∧ nth s'.stages 0xA .off = .starting
            ∧ s'.link.retry = s.link.retry ∧ s'.get 0x480013 = (s.get 0x480013 + 1) % 2 ^ 32))
  ∧
  (∀ (s : State) (t : Nat),
      (s.linkUp = true →
        (s.link.setsAhead = 0 →
          Answers (exec (.deskewSet t) s) fun s' => Out.orderedSet false 1 s.link.deskew s.link.deskew ∈ s'.out
            ∧ (s.link.nextMap = none → s'.link.deskew = (s.link.deskew + 1) % 256)
            ∧ ∀ m, s.link.nextMap = some m → s'.link.map = m ∧ s'.scalarView 0x480003 = bitmapBelow 18 fun l => m.contains l)
        ∧ (s.link.setsAhead ≠ 0 →
          Answers (exec (.deskewSet t) s) fun s' => s'.link = { s.link with setsAhead := s.link.setsAhead - 1 }))
      ∧ (s.link.trained = true → s.get 0x480001 = 3 → s.usable 0xA = true →
        (s.link.nextMap = none →
          Answers (exec (.idleRefresh t) s) fun s' => s'.out.count (.orderedSet false 4 0 0) = 2
            ∧ s'.link = { s.link with disparity := s'.link.disparity, deskew := (s.link.deskew + 2) % 256 })
        ∧ (∀ m, s.link.nextMap = some m → s.link.driven = [] →
          Answers (exec (.idleRefresh t) s) fun s' => s'.out.count (.orderedSet false 4 0 0) = 2
            ∧ s'.link.map = m ∧ s'.link.nextMap = none))
      ∧ (∀ lane event, lane < 18 → s.link.trained = true → s.served = true → bitOf (s.get 0x480004) lane = false → s.get 0x480004 < 2 ^ 18 →
        Answers (exec (.laneRetire t lane event) s) fun s' => s'.get 0x480004 = s.get 0x480004 + 2 ^ lane)
      ∧ (∀ lane passed, lane < 18 → s.standby = true → s.link.trained = true → s.served = true →
        Answers (exec (.laneLoopback t lane passed) s) fun s' =>
          s'.pair.loopbackClean = (passed && (lane == 0 || s.pair.loopbackClean))
            ∧ (passed = true → s'.link = s.link) ∧ (passed = false → bitOf (s'.get 0x480004) lane = true))
      ∧ (s.acting = true → s.link.trained = true → s.usable 0xA = true → s.link.claiming = none → s.link.claimOwed = false → s.get 0x480001 ≠ 2 →
          heldBytes s.link.retry + 22 ≤ 2097152 → s.link.retry.length < 16384 →
        Answers (exec (.claim t) s) fun s' => ∃ p, s'.link.retry = s.link.retry ++ [p] ∧ p.kind = 6 ∧ p.module = 0xFF
          ∧ p.epoch = max (s.get 0x48000D) (max s.pair.mirrorEpoch (s.get 0x48000C)) + 1 ∧ s'.link.claiming = some p.epoch
          ∧ Out.maelwin p.bytes ∈ s'.out))

/-- R153, R154, R155, R161, R165: an upstream packet with a wrong CRC is counted and does nothing else to the link; an ACK takes the packets it
covers out of the retry buffer: the CLAIM it covers makes this port the owner with its epoch, a tile it covers is delivered and its next claim
queued, or is staged under frame-atomic presentation; a NAK has the packets from its number on sent again, and so has the lapse of 20 µs since
the oldest was sent; a packet sent four times brings a retrain; a response closes its READ; a READ without one for 100 µs is sent once more and
then given up; a STATUS packet's errors are kept, and a lane in use that has lost lock is retired. R148: a packet abandoned with EDB is
discarded. Which packet's retries count is the model's reading (log entry 82). -/
def Obligations.UpstreamPacketsAreTaken : Prop :=
  ∀ (s : State) (t : Nat) (b : Bytes) (locked : Nat) (errors : List Nat), s.served = true →
    (upCrcOk b = false → ∀ c ∈ [Instr.nak t ⟨b, false⟩, .readResponse t b false, .status t ⟨b, false⟩ locked errors],
      Answers (exec c s) fun s' => s'.get 0x480011 = (s.get 0x480011 + 1) % 2 ^ 32 ∧ s'.link = s.link)
    ∧ (∀ c ∈ [Instr.nak t ⟨b, true⟩, .readResponse t b true, .status t ⟨b, true⟩ locked errors],
      Answers (exec c s) fun s' => s'.get 0x480011 = s.get 0x480011 ∧ s'.link = s.link)
    ∧ (quietPacket 0x81 b = true → s.link.waiting = [] → s.link.claimOwed = false → s.pair.yieldingSince = none →
      ∀ p, s.link.retry = [p] → p.seq = (upHeader b).sequence →
      (p.kind ≠ 1 → p.kind ≠ 2 → p.kind ≠ 6 →
        Answers (exec (.ack t ⟨b, false⟩) s) fun s' => s'.link.retry = [] ∧ s'.link.claims = s.link.claims)
      ∧ (p.kind = 6 → s.link.claiming = some p.epoch → p.epoch < 2 ^ 32 →
        Answers (exec (.ack t ⟨b, false⟩) s) fun s' =>
          s'.link.retry = [] ∧ s'.get 0x48000C = p.epoch ∧ s'.get 0x480001 = 2 ∧ s'.link.claiming = none)
      ∧ (∀ x c, p.kind = 1 → p.tiles = [x] → s.ownerOf x = some c → c.rect = p.rect → c.state = .sent →
        (c.atomic = true → s.link.fallenBack.contains (s.tileModule x) = false →
          Answers (exec (.ack t ⟨b, false⟩) s) fun s' => s'.link.retry = [] ∧ s'.ownerOf x = some { c with state := .staged })
        ∧ (c.atomic = false →
          Answers (exec (.ack t ⟨b, false⟩) s) fun s' => s'.link.retry = [] ∧ s'.get 0x410018 = (s.get 0x410018 + 384) % 2 ^ 64
            ∧ s'.ownerOf x = ((s.link.claims.filter fun d => !(d.tile == x && d.rect == c.rect)).find? fun d => d.tile == x).map
                fun d => { d with state := .queued, codes := [] })))
    ∧ (quietPacket 0x82 b = true → s.link.trained = true → s.linkSends = true → ∀ p rest, s.link.retry = p :: rest → p.seq = (upHeader b).sequence →
      (∀ q ∈ p :: rest, q.sends < 4 ∧ q.lost = false) →
      Answers (exec (.nak t ⟨b, false⟩) s) fun s' =>
        s'.link.retry = (p :: rest).map (fun q => { q with sends := q.sends + 1, sentAt := max s.now t })
          ∧ (∀ q ∈ p :: rest, Out.maelwin q.bytes ∈ s'.out) ∧ s'.get 0x480010 = (s.get 0x480010 + (p :: rest).length) % 2 ^ 32)
    ∧ (s.link.trained = true → s.linkSends = true → s.usable 0xA = true → ∀ p rest, s.link.retry = p :: rest → p.sentAt + 20000 ≤ max s.now t →
      ((∀ q ∈ p :: rest, q.sends < 4 ∧ q.lost = false) →
        Answers (exec (.retryTimeout t) s) fun s' =>
          s'.link.retry = (p :: rest).map (fun q => { q with sends := q.sends + 1, sentAt := max s.now t })
            ∧ (∀ q ∈ p :: rest, Out.maelwin q.bytes ∈ s'.out))
      ∧ ((∃ q ∈ p :: rest, 4 ≤ q.sends) →
        Answers (exec (.retryTimeout t) s) fun s' => s'.get 0x480001 = 4 ∧ s'.link.trained = false ∧ s'.link.retry = p :: rest))
    ∧ (quietPacket 0x83 b = true → ∀ o,
        (s.link.reads.find? fun o => o.tag == (upHeader b).tag && o.module == (upHeader b).module) = some o → o.code = 1 →
      Answers (exec (.readResponse t b false) s) fun s' => (∀ x ∈ s'.link.reads, x.tag ≠ (upHeader b).tag ∨ x.module ≠ (upHeader b).module)
        ∧ s'.link.modules = fieldLE (upPayload b) 4 8
        ∧ s'.get 0x48000F = byteAt (upPayload b) 0 % 16 + 16 * (byteAt (upPayload b) 1 % 16) ∧ s'.link.lastHeader = some (max s.now t))
    ∧ (∀ tag o, tag < 256 → (s.link.reads.find? fun o => o.tag == tag) = some o → s.link.waiting = [] → o.at_ + 100000 ≤ max s.now t →
      (o.tries < 2 → Answers (exec (.readTimeout t tag) s) fun s' => ∃ x ∈ s'.link.reads, x.tag = tag ∧ x.tries = 2 ∧ x.at_ = max s.now t)
      ∧ (2 ≤ o.tries → Answers (exec (.readTimeout t tag) s) fun s' => ∀ x ∈ s'.link.reads, x.tag ≠ tag ∨ x.module ≠ o.module))
    ∧ (quietPacket 0x84 b = true →
      Answers (exec (.status t ⟨b, false⟩ locked errors) s) fun s' => (max s.now t, errors) ∈ s'.link.laneReports
        ∧ ∀ l, l < 18 → s.link.trained = true → s.link.map.contains l = true → bitOf locked l = false → bitOf (s'.get 0x480004) l = true)

/-- R166: an upstream header that shows flag [0], or shows that this port is not the owner, ends the ownership: sending stops, the retry
buffer and staging are discarded, the port enters electrical idle, the pair function falls to standby, and cause 0x05 is raised. -/
def Obligations.OwnershipLostEndsSending : Prop :=
  ∀ (s : State) (t : Nat) (b : Bytes) (locked : Nat) (errors : List Nat), s.served = true → upCrcOk b = true → s.acting = true →
    s.get 0x480001 = 2 → s.link.step = 0 →
    bitOf (upHeader b).flags 0 = true ∨ bitOf (upHeader b).ports 4 = false → s.faults.queue.length < 28 →
    Answers (exec (.status t ⟨b, false⟩ locked errors) s) fun s' =>
      s'.get 0x480001 = 3 ∧ s'.linkUp = false ∧ s'.link.retry = [] ∧ s'.link.waiting = [] ∧ s'.link.rects = [] ∧ s'.link.claims = []
        ∧ Out.orderedSet false 3 0 0 ∈ s'.out ∧ (s.paired = true → s'.pair.role = 2) ∧ s'.raised 0xA 5

/-- R160, R163, R164: changed tiles become an update rectangle with a claim on each; an UPDATE carries its tiles' codes; the PRESENT of a
frame follows its updates; staged tiles that are discarded are due again. -/
def Obligations.RectanglesAreSentAndPresented : Prop :=
  ∀ (s : State) (t : Nat),
    (∀ m column row columns rows n, m < 64 → s.linkUp = true → s.acting = true → s.mapServes = true → s.modulePresent m = true →
        s.pair.yieldingSince = none → 1 ≤ columns → 1 ≤ rows → column + columns ≤ 120 → row + rows ≤ 135 →
        (∀ x ∈ s.moduleTiles m column row columns rows, x ∈ s.scene.taken ∧ (∃ c ∈ s.scene.changed, c.1 = x) ∧ s.ownerOf x = none
          ∧ s.classOf x = s.classOf ((s.moduleTiles m column row columns rows).headD 0)) →
        s.freeNumber (s.classOf ((s.moduleTiles m column row columns rows).headD 0)) = some n →
      Answers (exec (.rectangleAllocate t m column row columns rows) s) fun s' =>
        (∃ r ∈ s'.link.rects, r.no = n ∧ r.module = m ∧ r.column = column ∧ r.row = row ∧ r.columns = columns ∧ r.rows = rows
          ∧ r.frame = s.get 0x285004)
        ∧ ∀ x ∈ s.moduleTiles m column row columns rows,
            (∃ c ∈ s'.link.claims, c.tile = x ∧ c.rect = n ∧ c.state = .queued) ∧ ∀ c ∈ s'.scene.changed, c.1 ≠ x)
    ∧ (∀ n column row count r (cs : List Claim), n < 256 → s.rectOf n = some r → 1 ≤ count → count ≤ 8 → column + count ≤ 120 → row < 135 →
        s.moduleTiles r.module column row count 1 = cs.map (·.tile) → cs.length = count →
        (∀ c ∈ cs, s.ownerOf c.tile = some c ∧ c.rect = n ∧ c.state = .queued ∧ c.codes ≠ []) →
        s.mapServes = true → s.updateBlocked r.frame = false → s.canSend (cs.flatMap fun c => tilePayload r.format c.codes).length = true →
      Answers (exec (.update t n column row count) s) fun s' =>
        s'.sentPacket 1 r.module (column + 128 * row + 32768 * (count - 1) + 262144 * n) (cs.flatMap fun c => tilePayload r.format c.codes)
          ∧ ∀ c ∈ cs, (∃ d ∈ s'.link.claims, d.tile = c.tile ∧ d.rect = n ∧ d.state = .sent
                ∧ d.atomic = (s.link.atomic && !s.link.fallenBack.contains r.module))
              ∧ lookup c.tile s'.care.expected = if s.link.atomic && !s.link.fallenBack.contains r.module then lookup c.tile s.care.expected
                  else some (tileChecksum (tileHeld r.format c.codes)))
    ∧ (s.canSend 92 = true → s.link.retry.length < 16383 → s.care.modules.length ≤ 64 → s.holdsBack s.nextPresent = false →
      Answers (exec (.present t) s) fun s' => s'.sentPacket 2 0xFF s.nextPresent [] ∧ s'.link.toPresent = s.link.toPresent.drop 1
        ∧ s'.link.fallenBack = [])
    ∧ (∀ m, m < 64 ∨ m = 0xFF → s.canSend 0 = true →
      Answers (exec (.discardStaged t m) s) fun s' => s'.sentPacket 5 m 1 []
        ∧ ∀ c ∈ s'.link.claims, c.state = .staged → c.shown = true ∨ (m ≠ 0xFF ∧ s.tileModule c.tile ≠ m))

/-- R150: each READ goes out with a new tag and stays open for its response. R150, R172, R182, R185, R194: each CONTROL goes out with its
argument and payload, and what the 9640 keeps of it changes. -/
def Obligations.ReadsAndControlsAreSent : Prop :=
  (∀ (s : State) (t m : Nat), m < 64 → s.canSend 0 = true →
      (Answers (exec (.readHubCapabilities t) s) fun s' => s'.readSent 1 0xFF 0)
      ∧ (Answers (exec (.readModuleStatus t m) s) fun s' => s'.readSent 2 m 0)
      ∧ (∀ column row, column < 120 → row < 135 →
        Answers (exec (.readTile t m column row) s) fun s' => s'.readSent 3 m (column + 128 * row))
      ∧ (∀ slot, slot < 16 → Answers (exec (.readWindowChecksum t m slot) s) fun s' => s'.readSent 0x10 m slot)
      ∧ (Answers (exec (.readSenseResult t m) s) fun s' => s'.readSent 0x11 m 0)
      ∧ (Answers (exec (.readModuleEvent t m) s) fun s' => s'.readSent 0x12 m 0))
  ∧
  (∀ (s : State) (t m : Nat), m < 64 →
      (∀ slot column row columns rows, slot < 16 → s.canSend 8 = true →
        Answers (exec (.setWindow t m slot column row columns rows) s) fun s' =>
          s'.sentPacket 5 m (0x10 + 256 * slot) (leBytes 2 column ++ leBytes 2 row ++ leBytes 2 columns ++ leBytes 2 rows))
      ∧ (∀ table length l, table < 8 → s.loading = some l → l.table = table → l.committedAt = none → 1 ≤ length → length ≤ 3840 →
          l.offset + length ≤ (s.dom (0x490018 + table)).length → s.canSend length = true →
        Answers (exec (.driveTableChunk t table l.offset length) s) fun s' =>
          s'.sentPacket 5 0xFF (0x11 + 256 * (l.offset + 2097152 * table)) (((s.dom (0x490018 + table)).drop l.offset).take length)
            ∧ s'.loading = some { l with offset := l.offset + length })
      ∧ (∀ table l, table < 8 → s.loading = some l → l.table = table → l.committedAt = none → l.offset = (s.dom (0x490018 + table)).length →
          s.canSend 8 = true →
        Answers (exec (.driveTableCommit t table) s) fun s' =>
          s'.sentPacket 5 0xFF (0x12 + 256 * table) (leBytes 4 l.offset ++ leBytes 4 (crc32c (s.dom (0x490018 + table))))
            ∧ s'.loading = some { l with committedAt := some (max s.now t) })
      ∧ (∀ atomic : Bool, s.get 0x490001 = (if atomic then 1 else 0) → s.link.atomic ≠ atomic →
          s.link.toPresent.all (fun f => notBefore f s.link.modeFrom) = true → s.canSend 0 = true →
        Answers (exec (.presentationMode t atomic) s) fun s' =>
          s'.sentPacket 5 0xFF (0x13 + 256 * (if atomic then 1 else 0)) [] ∧ s'.link.atomic = atomic)
      ∧ (s.canSend 0 = true → Answers (exec (.startSensing t m) s) fun s' => s'.sentPacket 5 m 0x14 []))

/-- What READs, CONTROLs of one packet, deskew sets and idle bursts leave alone: every object but the lanes in use and the counts of bytes and
of buffer occupancy (0x4800.03, .15, .16), every waiting value, the Rinkboard, and every unit but the link, and panel care's list of READs
whose tag was taken again. -/
def Obligations.LinkCommandsTouchTheLinkAlone : Prop :=
  ∀ (s s' : State) (t m slot column row columns rows : Nat),
    (exec (.readHubCapabilities t) s = .next s' ∨ exec (.readModuleStatus t m) s = .next s' ∨ exec (.readTile t m column row) s = .next s'
      ∨ exec (.readWindowChecksum t m slot) s = .next s' ∨ exec (.readSenseResult t m) s = .next s'
      ∨ exec (.readModuleEvent t m) s = .next s' ∨ exec (.setWindow t m slot column row columns rows) s = .next s'
      ∨ exec (.startSensing t m) s = .next s' ∨ exec (.deskewSet t) s = .next s' ∨ exec (.idleRefresh t) s = .next s') →
    (∀ k, k ≠ 0x480003 → k ≠ 0x480015 → k ≠ 0x480016 → k ≠ 0x204005 → k ≠ 0x201005 → s'.get k = s.get k) ∧ (∀ k, s'.dom k = s.dom k)
      ∧ SamePending s s' ∧ SameSystem s s' ∧ s'.lift = s.lift ∧ s'.scene = s.scene ∧ s'.banks = s.banks ∧ s'.media = s.media
      ∧ s'.memory = s.memory ∧ s'.care = { s.care with lostReads := s'.care.lostReads, checkTimes := s'.care.checkTimes } ∧ s'.pair = s.pair ∧ s'.clock = s.clock ∧ s'.net = s.net
      ∧ s'.link.rects = s.link.rects ∧ s'.link.claims = s.link.claims ∧ s'.link.toPresent = s.link.toPresent

/-! ### Panel care -/

/-- R173, R181, R185, R186, R190, R194, R196: a check request waits for its tick; a polled temperature decides the module's band; a lost one
is told; a table that is written is loaded, and left when every module's CRC matches; counters grow by their levels; a sensing run starts,
and its result ends it. -/
def Obligations.ModulesAreCaredFor : Prop :=
  ∀ (s : State) (t m : Nat), m < 64 → m < s.care.modules.length →
    (∀ p data, (s.begin t).hears p = true → ((s.begin t).heard p).takesContent 0x490007 data = true →
      Answers (exec (.checkRequest t p data) s) fun s' => s'.answered p 0 [] ∧ s'.care.hostCheckSent = false
        ∧ s'.care.hostCheck = some (byteAt data 0, fieldLE data 1 2, fieldLE data 3 2, fieldLE data 5 2, fieldLE data 7 2))
    ∧ (∀ status : Bytes, s.canSend 0 = true → fieldLE status 0 2 ≠ 0x8000 →
      Answers (exec (.temperaturePoll t m status) s) fun s' =>
        s'.sentPacket 4 m (2 + 256 * s.link.nextTag) [] ∧ (s'.moduleCare m).temperature = fieldLE status 0 2
          ∧ (s'.moduleCare m).reportedAt = some (max s.now t) ∧ (s'.moduleCare m).lost = false
          ∧ (s'.moduleCare m).band =
              (let x := signed 16 (fieldLE status 0 2)
               if byteAt status 2 < s.bandsBelow x then s.bandsBelow x
               else if s.bandsBelow (x + s.get 0x490011) < byteAt status 2 then s.bandsBelow (x + s.get 0x490011)
               else byteAt status 2))
    ∧ (s.linkUp = true → s.modulePresent m = true → (s.moduleCare m).lost = false →
        (∀ r, (s.moduleCare m).reportedAt = some r → r + 1000000000 ≤ max s.now t) → 1000000000 ≤ max s.now t →
      Answers (exec (.temperatureReportLost t m) s) fun s' => (s'.moduleCare m).lost = true ∧ (s'.moduleCare m).temperature = 0x8000
        ∧ (s'.moduleCare m).band = (if s.get 0x490013 = 0xFF then (s.moduleCare m).inForce else s.get 0x490013)
        ∧ s'.stands 0xB 5 (m + 256) = true)
    ∧ (∀ p table data b, table < 8 → (s.begin t).hears p = true → ((s.begin t).heard p).takesTransfer (0x490018 + table) data b = true →
      Answers (exec (.driveTableWrite t p table data) s) fun s' => s'.answered p 0 [] ∧ s'.dom (0x490018 + table) = b
        ∧ ∃ l ∈ s'.care.loads, l.table = table)
    ∧ (∀ crcs l, s.loading = some l → l.committedAt ≠ none →
        (((s.modulesPresent.zip crcs).any fun x => x.2 != nth s.tableCrcs l.table 0) = false →
          Answers (exec (.driveTableVerify t crcs) s) fun s' => s'.care.loads = s.care.loads.drop 1)
        ∧ (((s.modulesPresent.zip crcs).any fun x => x.2 != nth s.tableCrcs l.table 0) = true → l.retried = false →
          Answers (exec (.driveTableVerify t crcs) s) fun s' =>
            s'.loading = some { l with offset := 0, committedAt := none, retried := true }))
    ∧ (∀ n, s.standby = false → s.power.phase = .run ∨ s.power.phase = .hold → n = (max s.now t - s.care.lastUpdate) / 1000000000 →
        n ≠ 0 → (s.care.levels.map (·.1)).Nodup →
      Answers (exec (.stressCounterUpdate t) s) fun s' => s'.care.lastUpdate = s.care.lastUpdate + n * 1000000000
        ∧ ∀ e ∈ s.care.levels, ∃ d, d < 64 ∧ (lookup e.1 s'.care.counters).getD 0
            = min 0xFFFFFFFF ((lookup e.1 s.care.counters).getD 0 + (e.2 * n + d) / 64))
    ∧ (∀ p, (s.begin t).hears p = true → ((s.begin t).heard p).takesValue 0x490039 (leBytes 1 m) = true →
      Answers (exec (.senseRequest t p m) s) fun s' => s'.answered p 0 [] ∧ s'.care.sensing = some (m, max s.now t)
        ∧ s'.get 0x49003B = 1 ∧ (s.canSend 0 = true → s'.sentPacket 5 m 0x14 []))
    ∧ (∀ result at_, s.care.sensing = some (m, at_) → at_ + 20000000 ≤ max s.now t →
      Answers (exec (.senseResultRead t result) s) fun s' => s'.care.sensing = none
        ∧ s'.get 0x49003B = if (List.range 432).any (fun i => fieldLE result (2 * i) 2 != 0) then 2 else 3)

/-! ### Cameras, disparity and motion -/

/-- R201 to R203, R208 to R211, R222: a port that is enabled awaits frames; an accepted Frame Start opens a frame and counts it, a good line
of a selected stream joins it, and its Frame End or the timeout closes it; a frame processed through memory leaves its buffer, and a result
of another placement epoch is counted and discarded (R347); a pipeline taken out of use stays out. -/
def Obligations.CamerasTakeFrames : Prop :=
  ∀ (s : State) (t p : Nat), p < 8 → p < s.media.cams.length →
    (∀ q, (s.begin t).hears q = true → s.usable 4 = true →
      (((s.begin t).heard q).takesValue (camK p 0 1) [1] = true → s.get (camK p 0 0x11) = 0 →
        Answers (exec (.portEnable t q p 1) s) fun s' => s'.answered q 0 [] ∧ s'.camOn p = true ∧ s'.get (camK p 0 0x11) = 1
          ∧ s'.get (camK p 0 0x13) = 0 ∧ (s'.cam p).enabledAt = max s.now t)
      ∧ (((s.begin t).heard q).takesValue (camK p 0 1) [0] = true → s.get (camK p 0 0x11) ≠ 0 →
        Answers (exec (.portEnable t q p 0) s) fun s' => s'.answered q 0 [] ∧ s'.camOn p = false ∧ s'.get (camK p 0 0x11) = 0
          ∧ s'.get (camK p 0 0x12) = 0xFF ∧ (s'.cam p).frame = none))
    ∧ (∀ n, s.camOn p = true → s.usable 4 = true → (s.cam p).frame = none →
      Answers (exec (.frameStart t p n) s) fun s' =>
        s'.get (camK p 0 0x13) = (s.get (camK p 0 0x13) + (s.begin t).frameAdvance p n) % 2 ^ 32 ∧ s'.get (camK p 0 0x11) = 2
          ∧ ∃ f, (s'.cam p).frame = some f ∧ f.counter = s'.get (camK p 0 0x13) ∧ f.rows = [])
    ∧ (∀ channel dataType samples f e, s.camOn p = true → s.usable 4 = true → (s.cam p).frame = some f → samples ≠ [] →
        ([0, 1, 2].find? fun e => imageTypes.contains dataType && s.selected p e == (channel, dataType)) = some e →
        nth f.seen e 0 < s.inHeight p → samples.length = (if f.yuv then 2 * s.inWidth p else s.inWidth p) →
      Answers (exec (.lineReceive t p channel dataType 0 true samples) s) fun s' =>
        ∃ g, (s'.cam p).frame = some g ∧ g.rows = f.rows ++ [(e, nth f.seen e 0, some samples)] ∧ g.replaced = f.replaced)
    ∧ (∀ f, s.camOn p = true → s.usable 4 = true → (s.cam p).frame = some f → 0 < (s.cam p).errors.length →
      (Answers (exec (.frameEnd t p) s) fun s' => (s'.cam p).frame = none
        ∧ (nth f.seen 0 0 < s.inHeight p → nth (s'.cam p).errors 0 0 = (nth (s.cam p).errors 0 0 + 1) % 2 ^ 32))
      ∧ (2 * f.frameStartLocal + 3 * s.period p ≤ 2 * max s.now t →
        Answers (exec (.frameEndTimeout t p) s) fun s' => (s'.cam p).frame = none
          ∧ nth (s'.cam p).errors 0 0 = (nth (s.cam p).errors 0 0 + 1) % 2 ^ 32))
    ∧ (∀ f rest, (s.cam p).raw = f :: rest → (s.cam p).processing = true → s.usable 4 = true →
      (Answers (exec (.ispFrameComplete t ⟨p, f.placement⟩) s) fun s' => (s'.cam p).raw.map (·.counter) = rest.map (·.counter)
        ∧ (s'.dom (camK p 0x40 1)).take 4 = leBytes 4 f.counter)
      ∧ ∀ epoch, epoch ≠ f.placement → Answers (exec (.ispFrameComplete t ⟨p, epoch⟩) s) fun s' =>
        s'.get 0x250008 = (s.get 0x250008 + 1) % 2 ^ 32 ∧ s'.media = s.media)
    ∧ (∀ n, n < 4 → nth s.media.pipelines n false = true →
      Answers (exec (.ispPipelineFail t n) s) fun s' => nth s'.media.pipelines n false = false
        ∧ (s.get 0x250007 < 2 ^ 32 → s'.get 0x250007 = if s.get 0x250007 = 0xFFFFFFFF then 1 else s.get 0x250007 + 1))

/-- R204: with no Frame Start for three frame periods the port is lost, and cause 0x03 of function 0x4 is raised; the next Frame Start
ends that condition, and the cause clears once no port is in it. -/
def Obligations.LostPortsAreToldAndCleared : Prop :=
  ∀ (s : State) (t p : Nat), p < 8 → p < s.media.cams.length → s.camOn p = true → s.usable 4 = true →
    ((s.cam p).lastSeenLocal + 3 * s.period p ≤ max s.now t → s.stands 4 3 p = false → s.faults.queue.length < 32 →
      Answers (exec (.portLost t p) s) fun s' => s'.get (camK p 0 0x11) = 3 ∧ s'.stands 4 3 p = true ∧ s'.raised 4 3)
    ∧ (∀ n f, (s.faults.standing.filter fun x => x.1 == 4 && x.2.1 == 3) = [(4, 3, p)] →
        (s.faults.queue.filter fun g => g.fn == 4 && g.cause == 3 && !g.cleared) = [f] →
      Answers (exec (.frameStart t p n) s) fun s' => s'.get (camK p 0 0x11) = 2 ∧ s'.stands 4 3 p = false ∧ ¬s'.raised 4 3)

/-- R213, R214, R217, R218: a host transaction is queued or begun; its completion gives its status and what it read; a deadline that passes
makes the set late; a stuck bus is recovered by clocks and a stop until it is free. -/
def Obligations.ControlBusesServe : Prop :=
  ∀ (s : State) (t p m : Nat), p < 8 → m < 4 → m < s.media.masters.length →
    (∀ q data, (s.begin t).hears q = true → ((s.begin t).heard q).takesContent (camK p 0x30 1) data = true → s.standby = false →
        s.get (camK p 0 0x0A) = m →
      (byteAt data 0 = 1 → Answers (exec (.cciWrite t q p data) s) fun s' => s'.answered q 0 [] ∧ s'.get (camK p 0x30 3) = 1
        ∧ ∃ j, (j ∈ (s'.master m).queue ∨ (s'.master m).running = some j) ∧ j.port = p ∧ j.exposure = false ∧ j.read = false
          ∧ j.address = fieldLE data 3 2 ∧ j.data = data.drop 6)
      ∧ (byteAt data 0 = 2 → Answers (exec (.cciRead t q p data) s) fun s' => s'.answered q 0 [] ∧ s'.get (camK p 0x30 3) = 1
        ∧ ∃ j, (j ∈ (s'.master m).queue ∨ (s'.master m).running = some j) ∧ j.port = p ∧ j.exposure = false ∧ j.read = true
          ∧ j.address = fieldLE data 3 2 ∧ j.length = byteAt data 5))
    ∧ (∀ j acked data, (s.master m).running = some j → j.exposure = false → j.port = p →
      Answers (exec (.cciTransactionComplete t m acked data) s) fun s' => s'.get (camK p 0x30 3) = (if acked then 2 else 3)
        ∧ (acked = true → j.read = true → s'.dom (camK p 0x30 2) = data.take j.length))
    ∧ (∀ j rest, p < s.media.cams.length → (s.cam p).jobs = j :: rest → j.deadline ≤ max s.now t → j.late = false →
      Answers (exec (.cciWriteDeadline t p) s) fun s' => s'.get (camK p 0x20 5) = (s.get (camK p 0x20 5) + 1) % 2 ^ 32
        ∧ (s'.cam p).jobs = { j with late := true } :: rest)
    ∧ (s.usable 4 = true →
      Answers (exec (.cciBusStuck t m) s) fun s' => (s'.master m).stuck = true ∧ (s'.master m).running = none
        ∧ Out.cci m 0xFF [] ∈ s'.out ∧ s'.stands 4 5 m = true)
    ∧ (∀ busFree, s.served = true → (s.master m).stuck = true →
      Answers (exec (.cciBusRecovery t m busFree) s) fun s' => (s'.master m).stuck = (!busFree) ∧ Out.cci m 0xFF [] ∈ s'.out
        ∧ (busFree = true → s'.stands 4 5 m = false))

/-- R229 to R232, R235, R237, R239: a pair that is enabled starts anew; the next block row of the pair whose turn it is is searched, and a
result of another placement epoch is counted and discarded (R347); an incomplete search gives way to the next paired frame; a stream's block has its motion result; an engine taken out of use stays out, and the placement epoch advances. -/
def Obligations.SlalomSearches : Prop :=
  ∀ (s : State) (t k : Nat), k < 4 → k < s.media.pairs.length →
    (∀ q, (s.begin t).hears q = true →
      (((s.begin t).heard q).takesValue (pairK k 1) [1] = true → s.pairOn k = false →
        Answers (exec (.pairEnable t q k 1) s) fun s' => s'.answered q 0 [] ∧ s'.pairOn k = true ∧ s'.stereo k = {})
      ∧ (((s.begin t).heard q).takesValue (pairK k 1) [0] = true →
        Answers (exec (.pairEnable t q k 0) s) fun s' => s'.answered q 0 [] ∧ s'.pairOn k = false ∧ s'.stereo k = {}))
    ∧ (∀ ref partner, (s.stereo k).ref = some ref → (s.stereo k).partner = some partner → s.usable 5 = true → s.pairOn k = true →
        0 < s.enginesUp →
      (∀ row, row = (s.stereo k).rowsDone → row + 1 < blocksY ref → (s.stereo k).next = none → s.stereoFirst k = true →
        Answers (exec (.stereoRowSearch t ⟨k, (s.stereo k).placement⟩ row) s) fun s' =>
          (s'.stereo k).rowsDone = row + 1 ∧ (s'.stereo k).ref = some ref)
      ∧ ∀ row epoch, epoch ≠ (s.stereo k).placement → Answers (exec (.stereoRowSearch t ⟨k, epoch⟩ row) s) fun s' =>
        s'.get 0x250008 = (s.get 0x250008 + 1) % 2 ^ 32 ∧ s'.media = s.media)
    ∧ (∀ r q use, (s.stereo k).next = some (r, q, use) →
      Answers (exec (.stereoFrameAbandon t k) s) fun s' => (s'.stereo k).ref.map (·.seq) = some r.seq ∧ (s'.stereo k).partner = some q
        ∧ (s'.stereo k).rowsDone = 0 ∧ (s'.stereo k).next = none ∧ (s'.stereo k).usePrevious = false
        ∧ s'.get 0x380006 = (s.get 0x380006 + 1) % 2 ^ 32)
    ∧ (∀ n bx by_ cur again ref, n < 24 → n < s.media.codec.streams.length → s.nextSource n = some (cur, again) →
        (s.stream n).reference = some ref → (s.stream n).motionFor = some (cur.seq, ref.seq) → s.usable 5 = true → 0 < s.enginesUp →
        (motionBlocks cur)[(s.stream n).motion.length]? = some (bx, by_) → s.motionFirst n = true →
      Answers (exec (.motionSearch t ⟨n, (s.stream n).motionPlacement⟩ bx by_) s) fun s' =>
        motionBlock cur ref (s.get 0x380009) (s.stream n).motion (s.stream n).motionPrev true bx by_ ∈ (s'.stream n).motion)
    ∧ (∀ e, e < 2 → nth s.media.engines e false = true → s.stages.length = 16 →
      Answers (exec (.slalomEngineFail t e) s) fun s' => nth s'.media.engines e false = false
        ∧ (s.get 0x250007 < 2 ^ 32 → s'.get 0x250007 = if s.get 0x250007 = 0xFFFFFFFF then 1 else s.get 0x250007 + 1) ∧ (s'.enginesUp = 0 → nth s'.stages 5 .off = .failed))

/-! ### Encoder, decoder, Groomer -/

/-- R244, R246, R252, R254 to R256, R266: a stream that is enabled starts, one that is disabled stops, or closes its segment first; a coded
picture becomes the stream's reference; a segment is sealed with its chain value and signature, and one whose seal cannot be made ends its
chain (R271); an overdue seal is told; the streams of a core taken out of use move or are suspended. -/
def Obligations.StreamsAreCodedAndSealed : Prop :=
  ∀ (s : State) (t n : Nat), n < 24 → s.media.codec.streams.length = 24 →
    (∀ q, (s.begin t).hears q = true → s.usable 6 = true →
      (((s.begin t).heard q).takesValue (streamK n 1) [1] = true → s.streamOn n = false → s.get (streamK n 0x10) = 0 →
        Answers (exec (.streamEnable t q n) s) fun s' => s'.answered q 0 [] ∧ s'.streamOn n = true ∧ s'.get (streamK n 0x10) = 1
          ∧ (s'.stream n).first = true ∧ (s'.stream n).lastSeq = none ∧ (s'.stream n).reference = none)
      ∧ (((s.begin t).heard q).takesValue (streamK n 1) [0] = true → s.streamOn n = true → s.get (streamK n 0x10) = 2 →
        Answers (exec (.streamDisable t q n) s) fun s' => s'.answered q 0 [] ∧ s'.streamOn n = false
          ∧ (s.get (streamK n 2) ≠ 1 → s'.get (streamK n 0x10) = 0)
          ∧ (s.get (streamK n 2) = 1 → (s.stream n).open_ = true → s'.get (streamK n 0x10) = 3 ∧ (s'.stream n).open_ = false
              ∧ (s'.stream n).closing = true ∧ (s'.stream n).unsealed.length = (s.stream n).unsealed.length + 1)))
    ∧ (∀ header ctus slice pic again, s.usable 6 = true → s.running n = true → s.standby = false → s.nextSource n = some (pic, again) →
        ({ header, ctus, slice } : Core).fits pic = true →
      Answers (exec (.pictureCode t n header ctus slice) s) fun s' => (s'.stream n).reference = some pic
        ∧ (s'.stream n).lastSeq = some pic.seq ∧ (s'.stream n).first = false ∧ s'.get (streamK n 0x10) = 2)
    ∧ (∀ head ended rest, (s.stream n).unsealed = (head, ended) :: rest → (s.stream n).closing = false →
      (Answers (exec (.sealMake t ⟨n, true⟩) s) fun s' =>
        let record := head ++ (if bitOf (byteAt head 3) 1 then List.replicate 32 0 else (s.stream n).prevChain)
        s'.dom (sealK n 1) = record ++ (List.range 64).map (Config.signature (sha256 record))
          ∧ (s'.stream n).prevChain = sha256 record ∧ (s'.stream n).unsealed = rest
          ∧ (s'.stream n).sealInBand = (s.stream n).sealInBand ++ [s'.dom (sealK n 1)])
      ∧ Answers (exec (.sealMake t ⟨n, false⟩) s) fun s' =>
        (s'.stream n).unsealed = rest.filter (fun u => fieldLE u.1 16 4 != fieldLE head 16 4) ∧ s'.dom (sealK n 1) = s.dom (sealK n 1)
          ∧ ((s.stream n).chainId = fieldLE head 16 4 → s.streamOn n = true → (s'.stream n).reference = none))
    ∧ (∀ u ∈ (s.stream n).unsealed, u.2 + 20000000 ≤ max s.now t →
      Answers (exec (.sealDeadline t n) s) fun s' => s'.stands 6 3 n = true)
    ∧ (∀ core, core < 2 → nth s.media.codec.encCores core false = true →
      Answers (exec (.encoderCoreFail t core) s) fun s' => nth s'.media.codec.encCores core false = false
        ∧ ∀ m, m < 24 → s.running m = true → (s.stream m).core = core → (s'.stream m).suspended = true ∨ (s'.stream m).core ≠ core)

/-- R260 to R262, R266, R372: a slot that is enabled awaits its stream, one whose buffers do not fit is refused, and one that is disabled is
as new; a packet joins its slot's unit,
and a duplicate or one that no slot matches is counted; a clean IRAP picture becomes the slot's latest, a RASL picture after a loss is
skipped; a starved slot is told; an overrun is counted; the slots of a core taken out of use move or are suspended. -/
def Obligations.SlotsAreDecoded : Prop :=
  ∀ (s : State) (t k : Nat), k < 32 → s.media.codec.slots.length = 32 →
    (∀ q, (s.begin t).hears q = true → s.usable 7 = true →
      (((s.begin t).heard q).takesValue (slotK k 1) [1] = true → s.slotOn k = false → s.get (slotK k 8) = 0 →
        (Answers (exec (.slotEnable t q ⟨k, true⟩ 1) s) fun s' => s'.answered q 0 [] ∧ s'.slotOn k = true ∧ s'.get (slotK k 8) = 1
          ∧ (s'.slot k).enabledAt = max s.now t)
        ∧ Answers (exec (.slotEnable t q ⟨k, false⟩ 1) s) fun s' => s'.answered q 0x08000022 [] ∧ s'.slotOn k = false)
      ∧ (∀ fits, ((s.begin t).heard q).takesValue (slotK k 1) [0] = true → s.slotOn k = true → s.get (slotK k 8) ≠ 0 →
        Answers (exec (.slotEnable t q ⟨k, fits⟩ 0) s) fun s' => s'.answered q 0 [] ∧ s'.slotOn k = false ∧ s'.get (slotK k 8) = 0
          ∧ s'.slot k = {}))
    ∧ (∀ (a : Arrival) (h : AvtpHeader) sequence timestamp last payload, a.mac < 2 → s.receives a = true → s.avtpAccepted h payload = true →
      (((List.range 32).find? fun j => s.slotOn j && s.get (slotK j 2) == h.stream) = some k →
          (s.slot k).lastSeqs.contains sequence = true →
        Answers (exec (.avtpReceive t a h sequence timestamp last payload) s) fun s' =>
          s'.get 0x284007 = (s.get 0x284007 + 1) % 2 ^ 32 ∧ s'.media = s.media)
      ∧ (((List.range 32).find? fun j => s.slotOn j && s.get (slotK j 2) == h.stream) = some k →
          (s.slot k).lastSeqs.contains sequence = false → s.usable 7 = true →
        Answers (exec (.avtpReceive t a h sequence timestamp last payload) s) fun s' => (s'.slot k).lastSeqs.getLast? = some sequence)
      ∧ (((List.range 32).find? fun j => s.slotOn j && s.get (slotK j 2) == h.stream) = none →
        Answers (exec (.avtpReceive t a h sequence timestamp last payload) s) fun s' =>
          s'.net.unmatched = s.net.unmatched + 1 ∧ s'.media = s.media))
    ∧ (∀ (u : AccessUnit) (unit : GatheredUnit) (rest : List GatheredUnit), s.usable 7 = true → s.slotRuns k = true →
        s.badSps k u = false → (s.slot k).units = unit :: rest →
      (u.takes ≤ s.cycleBudget k → u.irap = true → u.event = .clean → u.writes = [] → u.references = [] → s.get (slotK k 3) ≠ 3 →
        Answers (exec (.pictureDecode t k u) s) fun s' => s'.get (slotK k 9) = (s.get (slotK k 9) + 1) % 2 ^ 32 ∧ s'.get (slotK k 8) = 2
          ∧ (s'.slot k).resync = false ∧ (s'.slot k).units = rest
          ∧ ∃ pic, (s'.slot k).pictures.getLast? = some pic ∧ pic.seq = s'.get (slotK k 9) ∧ pic.time = unit.time ∧ pic.width = u.width ∧ pic.height = u.height)
      ∧ (u.takes ≤ s.cycleBudget k → u.irap = false → u.rasl = true → (s.slot k).rasl = true → (s.slot k).resync = false →
        Answers (exec (.pictureDecode t k u) s) fun s' => s'.get (slotK k 0x0C) = (s.get (slotK k 0x0C) + 1) % 2 ^ 32
          ∧ (s'.slot k).pictures = (s.slot k).pictures)
      ∧ ∀ good, s.cycleBudget k < u.takes →
        Answers (exec (.cycleBudgetOverrun t k u good) s) fun s' => (s'.slot k).overruns = (s.slot k).overruns + 1)
    ∧ (s.usable 7 = true → s.slotRuns k = true → 10000000000 ≤ s.get (slotK k 6) * (max s.now t - (s.slot k).lastUnit) →
      Answers (exec (.slotStarved t k) s) fun s' => s'.get (slotK k 8) = 4 ∧ (s'.slot k).starved = true ∧ s'.stands 7 5 k = true)
    ∧ (∀ core, core < 2 → nth s.media.codec.decCores core false = true →
      Answers (exec (.decoderCoreFail t core) s) fun s' => nth s'.media.codec.decCores core false = false
        ∧ ∀ j, j < 32 → s.slotRuns j = true → (s.slot j).core = core → (s'.slot j).suspended = true ∨ (s'.slot j).core ≠ core)

/-- R279, R281 to R283, R285: a host job that is taken runs in the mode, level and block size set; with no job of the record and no DOMAIN
intake before it, it ends with its compressed content, failed blocks raw, where that is smaller, with its decompressed content, or with status 0x04 where its input does not decode. -/
def Obligations.HostJobsAreDone : Prop :=
  ∀ (s : State) (t : Nat),
    (∀ q data b, (s.begin t).hears q = true → ((s.begin t).heard q).takesTransfer 0x3C0008 data b = true →
      (s.get 0x3C0004 = 1 → Answers (exec (.hostJobCompress t q data) s) fun s' => s'.answered q 0 [] ∧ s'.get 0x3C0007 = 1
        ∧ s'.dom 0x3C0009 = []
        ∧ s'.media.groomer.job = some { compress := true, level := s.get 0x3C0005, size := s.get 0x3C0006, input := b })
      ∧ (s.get 0x3C0004 = 2 → Answers (exec (.hostJobDecompress t q data) s) fun s' => s'.answered q 0 [] ∧ s'.get 0x3C0007 = 1
        ∧ s'.dom 0x3C0009 = []
        ∧ s'.media.groomer.job = some { compress := false, level := s.get 0x3C0005, size := s.get 0x3C0006, input := b }))
    ∧ (∀ j, s.groomerRuns = true → s.beaconJob = none → s.intakeWaits = false → s.get 0x211007 ≠ 2 →
        s.media.groomer.job = some j →
      (∀ failed, j.compress = true → Answers (exec (.groomerJobComplete t ⟨3, failed⟩) s) fun s' => s'.media.groomer.job = none
        ∧ if (looseEncodeWith j.level j.size (looseFailures j.level j.size failed j.input) j.input).length < j.input.length
          then s'.get 0x3C0007 = 2 ∧ s'.dom 0x3C0009 = looseEncodeWith j.level j.size (looseFailures j.level j.size failed j.input) j.input
          else s'.get 0x3C0007 = 3)
      ∧ (∀ d, j.compress = false → looseDecode j.input = some d →
        Answers (exec (.groomerJobComplete t ⟨3, []⟩) s) fun s' => s'.media.groomer.job = none ∧ s'.get 0x3C0007 = 2 ∧ s'.dom 0x3C0009 = d)
      ∧ (j.compress = false → looseDecode j.input = none →
        Answers (exec (.groomerJobComplete t ⟨3, []⟩) s) fun s' => s'.media.groomer.job = none ∧ s'.get 0x3C0007 = 4))

/-! ### Blitter and flat outputs -/

/-- R287, R289: one blit list at a time: a list that passes the checks starts and clears 0x4300.04, and a WAIT LINE reached while its output
does not run ends at once, marked so; a write while one runs or is paused is aborted with 0x0800_0022; and the commands of a list run in
order, each to its end before the next, a WAIT LINE of an output that does not run being passed over. A list written while function 0xC is
not usable waits for it, paused (log entry 90). -/
def Obligations.OneBlitListRunsInOrder : Prop :=
  (∀ (s : State) (t : Nat) (q : Path) (data b : Bytes), (s.begin t).hears q = true →
    (((s.begin t).heard q).takesTransfer 0x430001 data b = true →
      ((blitOf ((cutBlocks 32 (fieldLE b 4 2) (b.drop 8)).headD [])).op ≠ 3 →
        Answers (exec (.blitList t q data) s) fun s' => s'.answered q 0 [] ∧ s'.get 0x430002 = (if s.usable 0xC then 1 else 2)
          ∧ s'.dom 0x430004 = [] ∧ s'.media.blitter = { list := cutBlocks 32 (fieldLE b 4 2) (b.drop 8) })
      ∧ (∀ w, cutBlocks 32 (fieldLE b 4 2) (b.drop 8) = [w] → (blitOf w).op = 3 → s.flatRuns (blitOf w).wait = false → s.usable 0xC = true →
          s.power.phase = .run → s.get 0x430007 = 1 →
        Answers (exec (.blitList t q data) s) fun s' => s'.answered q 0 [] ∧ s'.get 0x430002 = 3
          ∧ s'.dom 0x430004 = leBytes 8 (s.begin t).ptp ++ leBytes 8 0 ++ leBytes 1 1 ++ List.replicate 7 0))
    ∧ (s.get 0x430002 = 1 ∨ s.get 0x430002 = 2 → s.gate 0x430001 true = 0 → s.held 0x430001 = false →
      Answers (exec (.blitList t q data) s) fun s' => s'.answered q 0x08000022 [] ∧ s'.media.blitter = s.media.blitter))
  ∧ ∀ (s s' : State) (t line fetch : Nat),
      (exec (.copy ⟨t, fetch⟩) s = .next s' ∨ exec (.fill ⟨t, fetch⟩) s = .next s' ∨ exec (.waitLine t line) s = .next s'
        ∨ exec (.blitStep t fetch) s = .next s') →
      let passed := fun (n : Nat) => ∀ i w, s.media.blitter.current < i → i < n → s.media.blitter.list[i]? = some w →
        (blitOf w).op = 3 ∧ s.flatRuns (blitOf w).wait = false
      (s'.media.blitter.list = s.media.blitter.list ∧ s.media.blitter.current ≤ s'.media.blitter.current ∧ passed s'.media.blitter.current)
        ∨ (s'.media.blitter = {} ∧ s'.get 0x430002 = 3 ∧ passed s.media.blitter.list.length)

/-- R289, R291, R293, R295, R307: a FILL sets every texel of its rectangle to its colour, a COPY between surfaces every texel to its source
texel; a WAIT LINE under way ends as its output begins its line; a blitter fault ends the list. -/
def Obligations.BlitsDraw : Prop :=
  ∀ (s : State) (t : Nat),
    (∀ c, s.blit = some c → c.dst < 64 → c.chase = 0xFF → s.media.blitter.done = 0 → 1 ≤ c.w → 1 ≤ c.h → c.w * c.h ≤ 16384 →
        s.lift.carvers.all (fun k => k.band.isNone) = true → c.dstX + c.dstW ≤ (s.surfaceSize c.dst).1 →
        c.dstY + c.dstH ≤ (s.surfaceSize c.dst).2 →
        (s.dom (surfaceK c.dst 4)).length = (s.surfaceSize c.dst).1 * (s.surfaceSize c.dst).2 * texelBytes (s.get (surfaceK c.dst 1)) →
      (c.op = 2 →
        (∀ fetch, Answers (exec (.fill ⟨t, fetch⟩) s) fun s' => s'.get (surfaceK c.dst 5) = 1 ∧ ∀ i j, i < c.dstW → j < c.dstH →
          surfaceWord (s'.dom (surfaceK c.dst 4)) (s.get (surfaceK c.dst 1)) (s.surfaceSize c.dst).1 (c.dstX + i) (c.dstY + j)
            = fillWord (s.get (surfaceK c.dst 1)) c.colour % 256 ^ texelBytes (s.get (surfaceK c.dst 1)))
        ∧ ∀ fetch, Answers (exec (.blitStep t fetch) s) fun s' => s'.get (surfaceK c.dst 5) = 1 ∧ ∀ i j, i < c.dstW → j < c.dstH →
          surfaceWord (s'.dom (surfaceK c.dst 4)) (s.get (surfaceK c.dst 1)) (s.surfaceSize c.dst).1 (c.dstX + i) (c.dstY + j)
            = fillWord (s.get (surfaceK c.dst 1)) c.colour % 256 ^ texelBytes (s.get (surfaceK c.dst 1)))
      ∧ (c.op = 1 → c.src ≠ c.dst →
        ∀ fetch, Answers (exec (.copy ⟨t, fetch⟩) s) fun s' => s'.get (surfaceK c.dst 5) = 1 ∧ ∀ i j, i < c.dstW → j < c.dstH →
          surfaceWord (s'.dom (surfaceK c.dst 4)) (s.get (surfaceK c.dst 1)) (s.surfaceSize c.dst).1 (c.dstX + i) (c.dstY + j)
            = surfaceWord (s.dom (surfaceK c.src 4)) (s.get (surfaceK c.dst 1)) (s.surfaceSize c.src).1
                (c.sourceOf i j).1 (c.sourceOf i j).2))
    ∧ (∀ c, s.blit = some c → c.op = 3 → s.media.blitter.chaseFlag = false → s.flatRuns c.wait = true →
      Answers (exec (.waitLine t c.mark) s) fun s' =>
        s.dom 0x430004 ++ leBytes 8 (s.begin t).ptp ++ leBytes 8 s.media.blitter.watermark ++ List.replicate 8 0 <+: s'.dom 0x430004)
    ∧ (s.get 0x430007 ≠ 0 →
      Answers (exec (.blitterFault t) s) fun s' => s'.get 0x430007 = 0 ∧ s'.media.blitter = {}
        ∧ s'.get 0x430002 = if s.get 0x430002 = 1 ∨ s.get 0x430002 = 2 then 4 else s.get 0x430002)

/-- R298, R300 to R302, R306: an output that is enabled with a sink trains, and runs or is to try again; without one it waits; a retry, the
sink's return and a lost link train it, a timing blank lasting to its frame start; the staged scan and timing take effect at their instants;
an underrun is counted, and the background colour is sent for the rest of its line. -/
def Obligations.FlatOutputsFollow : Prop :=
  ∀ (s : State) (t k : Nat), k < 2 → k < s.media.flats.length → s.usable 0xC = true →
    (∀ q trained, (s.begin t).hears q = true →
      (((s.begin t).heard q).takesValue (flatK k 1) [1] = true → s.flatState k = 0 → PllDomain.flatLanes ∈ s.power.plls →
        Answers (exec (.outputEnable t q k 1 trained) s) fun s' => s'.answered q 0 [] ∧ s'.flatOn k = true
          ∧ s'.flatState k = if (s.flat k).hpd then (if trained then 3 else 5) else 1)
      ∧ (((s.begin t).heard q).takesValue (flatK k 1) [0] = true →
        Answers (exec (.outputEnable t q k 0 trained) s) fun s' => s'.answered q 0 [] ∧ s'.flatOn k = false ∧ s'.flatState k = 0))
    ∧ (∀ at_ trained, (s.flat k).retryAt = some at_ → s.flatOn k = true → at_ ≤ max s.now t →
      Answers (exec (.flatTrainingRetry t k trained) s) fun s' => s'.flatState k = (if trained then (if (s.begin t).flatState k = 4 then 4 else 3) else 5)
        ∧ (s'.flat k).retryAt = (if trained then none else some (max s.now t + 1000000000)) ∧ s'.stands 0xC 3 k = !trained)
    ∧ (∀ trained, s.served = true → s.flatOn k = true → (s.begin t).flatState k ≠ 0 →
      (Answers (exec (.hpdChange t k false trained) s) fun s' => (s'.flat k).hpd = false ∧ s'.stands 0xC 4 k = true
        ∧ (s.power.phase = .run → s'.flatState k = 1))
      ∧ ((s.begin t).flatState k = 1 → Answers (exec (.hpdChange t k true trained) s) fun s' => (s'.flat k).hpd = true
        ∧ s'.flatState k = if trained then 3 else 5))
    ∧ (∀ trained, s.flatOn k = true → (s.begin t).flatScans k = true →
      Answers (exec (.irqHpd t k true trained) s) fun s' => s'.flatState k = (if trained then (if (s.begin t).flatState k = 4 then 4 else 3) else 5)
        ∧ (s'.flat k).trained = trained ∧ s'.stands 0xC 3 k = !trained)
    ∧ (∀ q, (s.begin t).hears q = true → (s.begin t).flatRuns k = true →
      (((s.begin t).heard q).takesValue (flatK k 0x0A) [1] = true →
        Answers (exec (.scanCommit t q k) s) fun s' => s'.answered q 0 [] ∧ (s'.flat k).scanCommit = true
          ∧ (s'.flat k).latched = (s.flat k).latched)
      ∧ (((s.begin t).heard q).takesValue (flatK k 5) [1] = true →
        Answers (exec (.timingCommit t q k) s) fun s' => s'.answered q 0 [] ∧ (s'.flat k).timingCommit = true
          ∧ s'.dom (flatK k 4) = s.dom (flatK k 4)))
    ∧ ((s.begin t).flatRuns k = true → (s.flat k).scanCommit = true →
      Answers (exec (.scanLatch t k) s) fun s' => s'.flatState k = 3 ∧ (s'.flat k).scanCommit = false
        ∧ s'.get (flatK k 0x0E) = (s.get (flatK k 0x0E) + 1) % 2 ^ 32
        ∧ (s'.flat k).latched = some (s'.get (flatK k 6), s'.get (flatK k 7), s'.get (flatK k 8), s'.get (flatK k 9),
            s'.get (surfaceK (s'.get (flatK k 7)) 1)))
    ∧ (∀ b, (s.flat k).timingReady = true → (s.begin t).flatRuns k = true → s.wf = true → lookup (flatK k 4) s.pendD = some b →
      Answers (exec (.timingApply t k) s) fun s' => s'.dom (flatK k 4) = b ∧ (s'.flat k).timingCommit = false
        ∧ lookup (flatK k 4) s'.pendD = none)
    ∧ (∀ line pixel, line < 4096 → pixel < 3840 → (s.begin t).flatRuns k = true →
      Answers (exec (.underrunLine t k ⟨line, pixel⟩) s) fun s' => s'.get (flatK k 0x10) = (s.get (flatK k 0x10) + 1) % 2 ^ 32
        ∧ (s'.flat k).underrunInFrame = true
        ∧ ∀ x i, pixel ≤ x → s'.sentComponent k line x i = (s.begin t).background k / 1024 ^ (2 - i) % 1024 / 2 ^ (10 - s.get (flatK k 3)))

/-! ### Memory -/

/-- R313, R315, R318 to R321, R323, R331: a corrected read and an uncorrectable one are counted; a migration copies chunk after chunk and ends
with the target in the source's place; a poll keeps the rank's reading and its refresh rate; a refresh is sent, or postponed at most eight
times; a rank idle for the timer's clocks powers down; a write to the source of a migration goes to both ranks; a spare that reads badly is retired; a channel trains, is tried again, or is excluded; a centring follows
the temperature and is retried; on-chip corrections are counted by pool. -/
def Obligations.MemoryIsKept : Prop :=
  ∀ (s : State) (t r : Nat), r < 32 → r < s.memory.ranks.length → s.served = true →
    (∀ client chunk block symbols queued, block < 2048 → chunk < chunksPerRank (s.get 0x240001) → (s.rank r).state = 2 → symbols.length = 36 →
      ((s.readWord r chunk block symbols).1 = .corrected true →
        Answers (exec (.dramAccess t client r chunk block ⟨none, queued⟩ symbols) s) fun s' =>
          s'.get 0x24000C = (s.get 0x24000C + 1) % 2 ^ 32 ∧ Out.dramWrite r chunk block ((s.readWord r chunk block symbols).2.take 32) ∈ s'.out)
      ∧ ((s.readWord r chunk block symbols).1 = .uncorrectable → privileged client = false → s.copiesOf ⟨r, chunk⟩ = none →
        Answers (exec (.dramAccess t client r chunk block ⟨none, queued⟩ symbols) s) fun s' => s'.get 0x24000D = (s.get 0x24000D + 1) % 2 ^ 32)
      ∧ ∀ bytes : List Nat, bytes.length = 32 →
        Answers (exec (.dramAccess t client r chunk block ⟨some (0, bytes), queued⟩ []) s) fun s' => (s'.rank r).poweredDown = false
          ∧ s'.get 0x24000C = s.get 0x24000C ∧ s'.get 0x24000D = s.get 0x24000D
          ∧ s'.isPoison r chunk block = false ∧ Out.dramWrite r chunk block bytes ∈ s'.out)
    ∧ (∀ m client chunk block bytes queued, block < 2048 → chunk < chunksPerRank (s.get 0x240001) → (s.rank r).state = 4 →
        s.memory.migration = some m → m.source = r → m.target < s.memory.ranks.length → bytes.length = 32 →
      Answers (exec (.dramAccess t client r chunk block ⟨some (0, bytes), queued⟩ []) s) fun s' =>
        (s'.rank r).poweredDown = false ∧ (s'.rank m.target).poweredDown = false
          ∧ Out.dramWrite r chunk block bytes ∈ s'.out ∧ Out.dramWrite m.target chunk block bytes ∈ s'.out)
    ∧ (∀ m, s.memory.migration = some m → s.power.pfailHold = false →
      (m.chunk + 1 < chunksPerRank (s.get 0x240001) →
        Answers (exec (.migrationChunkCopy ⟨t, []⟩) s) fun s' => s'.memory.migration = some { m with chunk := m.chunk + 1 }
          ∧ ∀ block, s.isPoison m.source m.chunk block = true → s'.isPoison m.target m.chunk block = true)
      ∧ (m.chunk + 1 = chunksPerRank (s.get 0x240001) → s.memory.queued = [] → m.source ≠ m.target → m.source < s.memory.ranks.length →
          m.target < s.memory.ranks.length →
        Answers (exec (.migrationChunkCopy ⟨t, []⟩) s) fun s' => s'.memory.migration = none ∧ (s'.rank m.source).state = 6
          ∧ (s'.rank m.target).state = 2))
    ∧ (∀ mr4 oscillator, (s.rank r).state = 2 →
      Answers (exec (.mr4Poll t r mr4 oscillator) s) fun s' => (s'.rank r).mr4 = mr4 % 8 ∧ (s'.rank r).rate = refreshRate (mr4 % 8)
        ∧ s'.stands 2 7 r = (mr4 % 8 == 7))
    ∧ ((s.rank r).state = 2 →
      (Answers (exec (.refresh t r false) s) fun s' => (s'.rank r).postponed = 0 ∧ Out.dram (r / 2) (r % 2) 0 ∈ s'.out)
      ∧ ((s.rank r).postponed < 8 →
        Answers (exec (.refresh t r true) s) fun s' => (s'.rank r).postponed = (s.rank r).postponed + 1)
      ∧ ((s.rank r).postponed = 8 → Answers (exec (.refresh t r true) s) fun s' => (s'.rank r).postponed = 0)
      ∧ ((s.begin t).rankIdle r = true →
        Answers (exec (.powerDownEntry t r) s) fun s' => (s'.rank r).poweredDown = true ∧ (s'.rank r).open_ = []))
    ∧ (∀ chunk block symbols, block < 2048 → symbols.length = 36 → s.memory.migration = none → s.get 0x211007 ≠ 2 →
        (s.begin t).scrubDue r chunk block = true →
      ((s.readWord r chunk block symbols).1 = .corrected true → (s.rank r).state = 2 →
        Answers (exec (.patrolScrub t r chunk block symbols) s) fun s' => s'.get 0x24000C = (s.get 0x24000C + 1) % 2 ^ 32
          ∧ Out.dramWrite r chunk block ((s.readWord r chunk block symbols).2.take 32) ∈ s'.out)
      ∧ ((s.rank r).state = 3 → r / 2 < s.memory.channels.length →
        let pattern := (List.range 32).map fun i => Config.sparePattern r chunk block i % 256
        let o := decodeWord (s.rank r).marked block (symbols.take 32 ++ (codeword pattern).drop 32)
        Answers (exec (.patrolScrub t r chunk block symbols) s) fun s' => Out.dramWrite r chunk block pattern ∈ s'.out
          ∧ (o.1.good = false ∨ o.2.take 32 ≠ pattern → (s'.rank r).state = 6)))
    ∧ (∀ c report, c < 16 → c < s.memory.channels.length → nth s.stages 2 .off = .starting → (s.channel c).trained = false →
        (s.channel c).excluded = false →
      ((s.fitted c).zipIdx.all (fun p => nth report.densities p.2 0 == s.get 0x240001) = true →
        Answers (exec (.channelTraining t c true report) s) fun s' => (s'.channel c).trained = true
          ∧ (s'.channel c).baseline = report.temperature % 65536)
      ∧ ((s.channel c).attempts = 0 →
        Answers (exec (.channelTraining t c false report) s) fun s' => (s'.channel c).attempts = 1 ∧ (s'.channel c).trained = false)
      ∧ ((s.channel c).attempts ≠ 0 →
        Answers (exec (.channelTraining t c false report) s) fun s' => (s'.channel c).excluded = true))
    ∧ (∀ c temperature, c < 16 → c < s.memory.channels.length → temperature < 65536 → (s.channel c).trained = true →
      (Answers (exec (.driftRecentre t c temperature true) s) fun s' => (s'.channel c).temperature = temperature)
      ∧ ((s.channel c).retryAt = none →
          s.get 0x240009 * 256 ≤ (signed 16 temperature - signed 16 (s.channel c).baseline).natAbs →
        (Answers (exec (.driftRecentre t c temperature true) s) fun s' => (s'.channel c).baseline = temperature)
        ∧ ((s.channel c).failures = [] →
          Answers (exec (.driftRecentre t c temperature false) s) fun s' => s'.get 0x240013 = (s.get 0x240013 + 1) % 2 ^ 32
            ∧ (s'.channel c).retryAt = some (max s.now t + 1000000000))))
    ∧ (∀ c at_, c < 16 → c < s.memory.channels.length → (s.channel c).retryAt = some at_ → at_ ≤ max s.now t →
      Answers (exec (.recentreRetry t c true) s) fun s' => (s'.channel c).retryAt = none
        ∧ (s'.channel c).baseline = (s.channel c).temperature)
    ∧ (∀ f : SramFinding, SramFinding.ok f = true → f.pool < s.memory.corrections.length →
      Answers (exec (.sramScrub t [f]) s) fun s' =>
        nth s'.memory.corrections f.pool 0 = (nth s.memory.corrections f.pool 0 + f.corrections) % 2 ^ 32)

/-- What a refresh and a power-down entry leave alone: every object, every other rank and channel, every unit but the memory. -/
def Obligations.RowCareTouchesItsRankAlone : Prop :=
  ∀ (s s' : State) (t r : Nat) (waiting : Bool),
    (exec (.refresh t r waiting) s = .next s' ∨ exec (.powerDownEntry t r) s = .next s') →
    SameObjects s s' ∧ SamePending s s' ∧ SameSystem s s' ∧ SameLinks s s' ∧ s'.lift = s.lift ∧ s'.scene = s.scene ∧ s'.banks = s.banks
      ∧ s'.care = s.care ∧ s'.media = s.media ∧ s'.memory.channels = s.memory.channels ∧ s'.memory.migration = s.memory.migration
      ∧ ∀ q, q ≠ r → s'.rank q = s.rank q

/-! ### Time and network -/

/-- R360, R362 to R366: a MAC's link is followed; an Announce is kept and chooses the master, and its loss holds the clock over; a Sync far off
steps the clock, the sixteenth good one locks it; the grandmaster sends Sync and Announce; a delay request is answered, a result kept; a
neighbour is learned and answered; an echo goes back. The layouts of the frames and the
clock identity are presumed (log entries 31, 32). R378: Syncs leave a Sync interval apart. -/
def Obligations.TheNetworkClockIsKept : Prop :=
  ∀ (s : State) (t mac : Nat), mac < 2 →
    (∀ rate, rate < 5 → s.served = true → s.get 0x280009 < 256 →
      Answers (exec (.macLinkChange t mac rate) s) fun s' => (if mac = 0 then s'.get 0x280009 % 16 else s'.get 0x280009 / 16) = rate
        ∧ (rate = 0 → s.get (0x280001 + mac) = 1 → s'.stands 0xD 1 mac = true) ∧ (rate ≠ 0 → s'.stands 0xD 1 mac = false))
    ∧ (∀ (p : PtpArrival) (a : Announce), p.arrival.mac = mac → s.takesPtp p = true → mac < s.net.announces.length → a.identity < 2 ^ 64 →
      Answers (exec (.announceReceive t p a) s) fun s' => nth s'.net.announces mac none = some a
        ∧ (s.get 0x281004 = 255 → s.ptpPort (1 - mac) = false → s'.get 0x281009 = mac ∧ s'.get 0x281008 = a.identity))
    ∧ (s.ptpPort mac = true →
      Answers (exec (.announceTimeout t mac) s) fun s' => nth s'.net.announces mac none = none
        ∧ (s.get 0x281004 = 255 → s.ptpPort (1 - mac) = false → s.get 0x281005 = 1 ∨ s.get 0x281005 = 2 →
            s'.get 0x281005 = 3 ∧ s'.get 0x281009 = 0xFF))
    ∧ (∀ (p : PtpArrival) (master : Nat), p.arrival.mac = mac → s.takesPtp p = true → s.get 0x281005 = 1 → s.get 0x281009 = mac →
        (((s.begin t).ptp : Int) - master).natAbs < 2 ^ 31 →
      (1000000 < (((s.begin t).ptp : Int) - master).natAbs →
        Answers (exec (.syncReceive t p master) s) fun s' => s'.ptp = master ∧ s'.clock.rate.natAbs ≤ 2147483
          ∧ s'.get 0x28100B = (s.get 0x28100B + 1) % 2 ^ 32)
      ∧ ((((s.begin t).ptp : Int) - master).natAbs < 100 → 15 ≤ s.net.goodSyncs →
        Answers (exec (.syncReceive t p master) s) fun s' => s'.get 0x281005 = 2
          ∧ s'.get 0x281006 = unsigned 32 (((s.begin t).ptp : Int) - master) ∧ s'.ptp = (s.begin t).ptp ∧ s'.clock.rate.natAbs ≤ 2147483))
    ∧ (s.get 0x281005 = 4 → s.ptpPort mac = true →
      (∀ o, o = Out.eth mac 0 (s.ptpHead true ++ leBytes 2 s.net.syncSeq ++ leBytes 8 (s.begin t).ptp) → (s.begin t).syncDue mac = true →
          (s.begin t).txRoom o = true →
        Answers (exec (.syncSend t mac) s) fun s' => o ∈ s'.out ∧ s'.net.syncSeq = (s.net.syncSeq + 1) % 65536
          ∧ (s.macHears mac = true → mac < s.tx.macs.length → (nth s.tx.macs mac {}).queues = [[], [], []] →
              (nth s.tx.macs mac {}).freeAt ≤ 10 * max s.now t → (mac, max s.now t, o) ∈ s'.tx.wire))
      ∧ (∀ c, s.ownCandidate = some c → (s.begin t).txRoom (.eth mac 1 (s.ptpHead false ++ announceBody c)) = true →
        Answers (exec (.announceSend t mac) s) fun s' => Out.eth mac 1 (s.ptpHead false ++ announceBody c) ∈ s'.out))
    ∧ (∀ (p : PtpArrival) requester delay, p.arrival.mac = mac →
      (s.takesPtp p = true → s.get 0x281002 = 0 ∨ s.get 0x281005 = 4 →
          (s.begin t).txRoom (.eth mac 3 (s.ptpHead false ++ leBytes 8 requester ++ leBytes 8 (s.begin t).eventTime)) = true →
        Answers (exec (.delayRequestResponse t p .asked requester delay) s) fun s' =>
          Out.eth mac 3 (s.ptpHead false ++ leBytes 8 requester ++ leBytes 8 (s.begin t).eventTime) ∈ s'.out)
      ∧ (s.takesPtp p = true → mac < s.net.lastPathDelay.length → delay < 2 ^ 32 →
        Answers (exec (.delayRequestResponse t p .answered requester delay) s) fun s' => nth s'.net.lastPathDelay mac 0 = delay
          ∧ (s.get 0x281009 = mac → s'.get 0x281007 = delay))
      ∧ (s.ptpPort mac = true → s.get 0x281002 = 0 ∨ s.get 0x281009 = mac →
          (s.begin t).txRoom (.eth mac 2 (s.ptpHead true ++ leBytes 8 ownIdentity ++ leBytes 8 (s.begin t).eventTime)) = true →
        Answers (exec (.delayRequestResponse t p .due requester delay) s) fun s' =>
          Out.eth mac 2 (s.ptpHead true ++ leBytes 8 ownIdentity ++ leBytes 8 (s.begin t).eventTime) ∈ s'.out))
    ∧ (∀ (a : Arrival) v6 sender senderMac target o, a.mac = mac → s.receives a = true → s.ownAddress v6 target = true →
        o = Out.eth mac (if v6 then 5 else 4) (beBytes 6 (Config.macAddress mac).toNat ++ leBytes 16 target ++ leBytes 16 sender) →
        (s.begin t).txRoom o = true →
      Answers (exec (.arpNeighbourDiscovery t a v6 true sender senderMac target) s) fun s' => (sender, senderMac) ∈ s'.net.neighbours
        ∧ o ∈ s'.out)
    ∧ (∀ (a : Arrival) v6 sender target (data : Bytes), a.mac = mac → s.ownAddress v6 target = true →
      (s.receives a = true → (s.begin t).txRoom (.eth mac 6 (leBytes 16 sender ++ data)) = true →
        Answers (exec (.icmpEcho t a v6 sender target data) s) fun s' => Out.eth mac 6 (leBytes 16 sender ++ data) ∈ s'.out)
      ∧ (s.receives a = false → s.macHears mac = true →
        Answers (exec (.icmpEcho t a v6 sender target data) s) fun s' => s'.get 0x28000A = (s.get 0x28000A + 1) % 2 ^ 32 ∧ s'.net = s.net))

/-- R369, R373, R374: a frame-lock edge near the expected tick is taken, one far from it is ignored, and eight periods without one are told;
an output takes its mode, drives its edge at its instant and ends its pulse; a capture is time-stamped, a glitch or an overrun is counted. -/
def Obligations.TimedPinsFollow : Prop :=
  ∀ (s : State) (t n : Nat),
    (n < 4 → s.get 0x285003 = n + 1 →
      (s.net.lastTickLocal = none →
        Answers (exec (.frameLockEdge t n) s) fun s' => s'.net.lastEdge = max s.now t ∧ s'.stands 0xD 7 0 = false)
      ∧ (∀ l, s.net.lastTickLocal = some l →
          s.framePeriod < 10 * (((max s.now t : Nat) : Int) + s.geti 32 0x285002 - (s.net.lateEdge.getD l + s.framePeriod : Nat)).natAbs →
          s.framePeriod < 10 * (((max s.now t : Nat) : Int) + s.geti 32 0x285002 - l).natAbs →
        Answers (exec (.frameLockEdge t n) s) fun s' => s'.net.ignoredEdges = s.net.ignoredEdges + 1 ∧ s'.net.lastEdge = s.net.lastEdge)
      ∧ (s.net.lastEdge + 8 * s.framePeriod ≤ max s.now t →
        Answers (exec (.frameLockLost t) s) fun s' => s'.stands 0xD 7 0 = true))
    ∧ (n < 8 → n < s.net.outs.length →
      (∀ p mode, mode < 256 → (s.begin t).hears p = true → ((s.begin t).heard p).takesValue (outK n 1) (leBytes 1 mode) = true →
        Answers (exec (.outputMode t p n mode) s) fun s' => s'.answered p 0 [] ∧ s'.get (outK n 1) = mode
          ∧ (s.usable 0xD = true → (s'.timeOut n).mode = mode) ∧ (s.usable 0xD = false → (s'.timeOut n).owed = true))
      ∧ ((s.timeOut n).mode = 1 → (s.timeOut n).fired = false → (s.timeOut n).active = false → s.outRuns n = true →
          (s.timeOut n).last < (s.timeOut n).start → (s.timeOut n).start ≤ (s.begin t).ptp → (s.timeOut n).start < 2 ^ 64 →
        Answers (exec (.timeOutEdge t n) s) fun s' => Out.pin (.timeOut n) ((s.timeOut n).polarity == 0) ∈ s'.out
          ∧ s'.get (outK n 6) = (s.timeOut n).start / 2 * 2 ∧ (s'.timeOut n).fired = true
          ∧ (s'.timeOut n).pulseEnd = max s.now t + (s.timeOut n).width)
      ∧ ((s.timeOut n).active = true → (s.timeOut n).pulseEnd ≤ max s.now t →
        Answers (exec (.timeOutEdge t n) s) fun s' => Out.pin (.timeOut n) ((s.timeOut n).polarity == 1) ∈ s'.out))
    ∧ (n < 4 → n < s.net.captures.length → ∀ rising width,
      (s.get (capK n 1) = 3 → s.get (capK n 2) ≤ width → (s.capture n).inGlitch = false →
          (∀ l, (s.capture n).lastStamped = some l → l + s.get (capK n 3) ≤ max s.now t) →
        ((s.capture n).queue.length < 16 →
          Answers (exec (.captureEdge t n rising width) s) fun s' =>
            (s'.capture n).queue = (s.capture n).queue ++ [((s.begin t).eventTime, rising)])
        ∧ (16 ≤ (s.capture n).queue.length →
          Answers (exec (.captureEdge t n rising width) s) fun s' => (s'.capture n).queue = (s.capture n).queue
            ∧ s'.get (capK n 6) = (s.get (capK n 6) + 1) % 2 ^ 32))
      ∧ (s.get (capK n 1) ≠ 0 → width < s.get (capK n 2) →
        Answers (exec (.captureEdge t n rising width) s) fun s' => (s'.capture n).queue = (s.capture n).queue
          ∧ s'.get (capK n 5) = (s.get (capK n 5) + 1) % 2 ^ 32))

/-- R376, R377: a member of a hold-all group decides whether it is ready and says so, three times; it keeps what the others say; at its
deadline it keeps who is missing. -/
def Obligations.GroupsAgreeOnReadiness : Prop :=
  ∀ (s : State) (t : Nat), s.holdAll = true →
    (s.standby = false → s.net.group.decided = none → s.groupInstant ≤ (s.begin t).ptp + s.get 0x286006 * 1000 →
      Answers (exec (.readinessDecision t) s) fun s' => ∃ ready, s'.net.group.decided = some ready ∧ s'.net.group.sends = 1
        ∧ (s.scene.requestAt < s.scene.lastWrite → ready = false) ∧ (ready = true → (s.begin t).validate = none)
        ∧ Out.udp (s.get 0x280008) (s.get 0x203102) (leNat ((s.dom 0x286007).take 16)) (fieldLE (s.dom 0x286007) 16 2) ((s.begin t).readinessFrame ready) ∈ s'.out)
    ∧ (∀ ready, s.standby = false → s.net.group.decided = some ready → s.net.group.sends < 3 → s.net.group.nextSend ≤ max s.now t →
      Answers (exec (.readinessRepeat t) s) fun s' => s'.net.group.sends = s.net.group.sends + 1
        ∧ Out.udp (s.get 0x280008) (s.get 0x203102) (leNat ((s.dom 0x286007).take 16)) (fieldLE (s.dom 0x286007) 16 2)
            ((s.begin t).readinessFrame (ready && !s.net.group.turned)) ∈ s'.out)
    ∧ (∀ (d : ReadinessArrival) f, f = d.frame → d.udp.arrival.mac < 2 → s.receives d.udp.arrival = true →
        d.udp.dport = fieldLE (s.dom 0x286007) 16 2 → f.length = 32 → fieldLE f 0 2 = 0x4752 → byteAt f 2 = 1 → fieldLE f 28 4 = crc32c (f.take 28) →
        fieldLE f 4 4 = s.get 0x286002 → fieldLE f 8 4 = s.get 0x286008 → fieldLE f 12 2 ≠ s.get 0x286003 →
        (s.begin t).beforeDeadline = true →
      (byteAt f 3 = 1 → Answers (exec (.readinessFrameReceive t d) s) fun s' => fieldLE f 12 2 ∈ s'.net.group.ready)
      ∧ (byteAt f 3 = 2 → Answers (exec (.readinessFrameReceive t d) s) fun s' => fieldLE f 12 2 ∈ s'.net.group.notReady))
    ∧ (s.groupInstant ≤ (s.begin t).ptp + 500000 →
      Answers (exec (.readinessDeadline t) s) fun s' => s'.dom 0x28600B = (List.range 128).map fun i =>
        BitVec.ofNat 8 (bitmapBelow 8 fun j => (s.begin t).groupMissing.contains (8 * i + j)))

/-! ### The pair -/

/-- R384, R388 to R390: an edge on the heartbeat pin is taken, or counted as chatter; a twin heartbeat with a good code is taken, another is
not; this member's heartbeat carries its count and state; a silent path is told, and both silent without the hub's confirmation. -/
def Obligations.HeartbeatsAreFollowed : Prop :=
  ∀ (s : State) (t : Nat), s.paired = true → s.served = true →
    ((∀ l, s.pair.lastPin = some l → l + 200 ≤ max s.now t) →
      Answers (exec (.hbEdge t) s) fun s' => s'.pair.lastPin = some (max s.now t) ∧ s'.get 0x23000D = s.get 0x23000D)
    ∧ (∀ l, s.pair.lastPin = some l → max s.now t < l + 200 →
      Answers (exec (.hbEdge t) s) fun s' => s'.pair.lastPin = some l ∧ s'.get 0x23000D = (s.get 0x23000D + 1) % 2 ^ 32)
    ∧ (s.pair.twinUp = true →
      (∀ count state, s.pair.twinCount = none ∨ s.pair.twinCount = some ((count + 255) % 256) →
        Answers (exec (.twinHeartbeat t true count state) s) fun s' => s'.pair.lastTwin = some (max s.now t)
          ∧ s'.pair.partnerState = state % 4 ∧ s'.pair.twinCount = some (count % 256))
      ∧ (∀ count state, Answers (exec (.twinHeartbeat t false count state) s) fun s' => s'.pair = s.pair)
      ∧ (s.power.phase = .run ∨ s.power.phase = .hold →
        Answers (exec (.twinHeartbeatSend t) s) fun s' =>
          Out.orderedSet true 5 s.pair.sendCount (s.begin t).beatState ∈ s'.out ∧ s'.pair.sendCount = (s.pair.sendCount + 1) % 256))
    ∧ (s.watches = true →
      ((s.begin t).twinAlive = false → (s.begin t).pinAlive = true →
        Answers (exec (.pathSilent t true) s) fun s' => s'.stands 0xE 1 0 = true)
      ∧ ((s.begin t).twinAlive = true → (s.begin t).pinAlive = false →
        Answers (exec (.pathSilent t false) s) fun s' => s'.stands 0xE 2 0 = true)
      ∧ (∀ twin, (s.begin t).twinAlive = false → (s.begin t).pinAlive = false → s.lastHeartbeat + 6000 ≤ max s.now t →
          (s.begin t).hubConfirms = false →
        Answers (exec (.pathSilent t twin) s) fun s' => s'.stands 0xE 6 0 = true))

/-- R382, R383, R389, R391, R394: a standby with both paths silent and the hub confirming takes over and claims the panel; a starting member
takes its role from its partner and its strap; of two standbys the one strapped A becomes active; a handover waits for what is
unacknowledged, and ends after 2 ms without it; the partner takes the role at HANDOVER. -/
def Obligations.RolesAreTakenAndGiven : Prop :=
  ∀ (s : State) (t : Nat),
    (s.served = true → s.paired = true → s.pair.role = 2 → (s.begin t).twinAlive = false → (s.begin t).pinAlive = false → (s.begin t).hubConfirms = true →
      Answers (exec (.takeover t) s) fun s' => s'.pair.role = 1 ∧ s'.get 0x230006 = (s.get 0x230006 + 1) % 2 ^ 32
        ∧ s'.pair.gapFrom = some s.lastHeartbeat
        ∧ (s.link.trained = true → s.usable 0xA = true → s'.get 0x480001 = 1
            ∧ s'.link.claiming = some (max (s.get 0x48000D) (max s.pair.mirrorEpoch (s.get 0x48000C)) + 1)))
    ∧ (s.served = true → s.paired = false → Answers (exec (.roleDecision t) s) fun s' => s'.pair.role = 0)
    ∧ (s.served = true → s.paired = true → s.pair.role = 4 → s.link.trained = true ∨ s.get 0x480001 = 5 →
        s.pair.twinUp = true ∨ s.pair.twinFailed = true ∨ s.pair.twinFails ≠ [] →
      ((s.begin t).twinAlive = true → s.pair.partnerState = 1 →
        Answers (exec (.roleDecision t) s) fun s' => s'.pair.role = 2)
      ∧ ((s.begin t).twinAlive = false ∨ s.pair.partnerState ≠ 1 →
        Answers (exec (.roleDecision t) s) fun s' => if s.pair.strapB then s'.pair.role = 2 ∧ s'.pair.waitingB = true else s'.pair.role = 1))
    ∧ (∀ b, s.served = true → s.paired = true → s.pair.role = 2 → s.pair.strapB = false → (s.begin t).twinAlive = true → s.pair.bothStandbySince = some b →
        b + 10000000 ≤ max s.now t → s.link.lastHeader ≠ none → s.get 0x48000E / 16 % 4 = 0 →
      Answers (exec (.dualStandbyResolve t) s) fun s' => s'.pair.role = 1)
    ∧ (∀ p, (s.begin t).hears p = true → ((s.begin t).heard p).takesValue 0x230005 [1] = true → s.pair.role = 1 →
      Answers (exec (.roleHandover t p) s) fun s' => s'.answered p 0 []
        ∧ if s.drained then s'.pair.role = 2 else s'.pair.role = 1 ∧ s'.pair.yieldingSince = some (max s.now t))
    ∧ (∀ y, s.pair.yieldingSince = some y → s.pair.role = 1 → y + 2000000 ≤ max s.now t →
      Answers (exec (.handoverTimeout t) s) fun s' => s'.pair.yieldingSince = none ∧ s'.pair.role = 1)
    ∧ (∀ seq epoch last, s.served = true → s.paired = true → s.pair.twinUp = true → s.pair.twinExpected = none ∨ s.pair.twinExpected = some seq →
        s.pair.role = 2 →
      Answers (exec (.handover t seq epoch last) s) fun s' => s'.pair.role = 1 ∧ s'.pair.twinExpected = some ((seq + 1) % 65536)
        ∧ Out.twin (twinAnswer 0x81 seq (s'.get 0x48000C)) ∈ s'.out)

/-- R190, R350, R385, R395, R397, R399: a twin packet in its order takes its effect on a member that is not active and is acknowledged; the
active member answers HELLO with a snapshot, whose last part makes the mirror current; one out of order is answered with a NAK and has no effect. The form
of the acknowledgements is the model's (log entry 34), and so are the widths of COMMIT (log entry 61). -/
def Obligations.TwinPacketsAreTaken : Prop :=
  ∀ (s : State) (t seq : Nat), s.served = true → s.paired = true → s.pair.twinUp = true →
    (s.pair.twinExpected = none ∨ s.pair.twinExpected = some seq → s.pair.role ≠ 1 →
      (∀ b : Bytes, b.length = 16 → byteAt b 0 = 1 →
        Answers (exec (.mirror t seq b) s) fun s' => (s.pair.snapshotStep = 1 → s'.pair.snapshotStep = 2)
          ∧ (∃ r ∈ s'.pair.mirror, r.no = byteAt b 1 ∧ r.module = byteAt b 2 ∧ r.column = fieldLE b 4 2 ∧ r.row = fieldLE b 6 2
              ∧ r.columns = fieldLE b 8 2 ∧ r.rows = fieldLE b 10 2 ∧ r.frame = fieldLE b 12 4)
          ∧ s'.pair.twinExpected = some ((seq + 1) % 65536) ∧ Out.twin (twinAnswer 0x81 seq (s'.get 0x48000C)) ∈ s'.out)
      ∧ (∀ offset (bitmap : Bytes),
        Answers (exec (.changed t seq offset bitmap) s) fun s' => (∀ i, i < 8 * bitmap.length →
            (8 * offset + i ∈ s'.pair.changedMirror ↔ bitOf (byteAt bitmap (i / 8)) (i % 8) = true))
          ∧ Out.twin (twinAnswer 0x81 seq (s'.get 0x48000C)) ∈ s'.out)
      ∧ (∀ epoch tag tick outcome,
        Answers (exec (.commit t seq epoch tag tick outcome) s) fun s' => s'.pair.commitFor = some (epoch, tag, tick, outcome)
          ∧ Out.twin (twinAnswer 0x81 seq (s'.get 0x48000C)) ∈ s'.out)
      ∧ (∀ (k : Nat) (v : Byte), k < 3 * s.blocks →
        Answers (exec (.stress t seq (4 * k) [v]) s) fun s' => (lookup k s'.care.counters).getD 0 % 256 = v.toNat
          ∧ Out.twin (twinAnswer 0x81 seq (s'.get 0x48000C)) ∈ s'.out)
      ∧ (∀ offset (data : Bytes), s.pair.snapshotStep = 3 → 15 * s.blocks ≤ offset + data.length →
        Answers (exec (.stress t seq offset data) s) fun s' => s'.pair.mirrorCurrent = true)
      ∧ (∀ p block, p < 8 → p < s.media.cams.length →
        Answers (exec (.statistics t seq p block) s) fun s' =>
          (s'.cam p).partnerTags.getLast? = some (fieldLE block 8 8, fieldLE block 4 2)
            ∧ Out.twin (twinAnswer 0x81 seq (s'.get 0x48000C)) ∈ s'.out))
    ∧ (s.pair.twinExpected = none ∨ s.pair.twinExpected = some seq → s.pair.role = 1 →
      Answers (exec (.hello t seq) s) fun s' => (∃ p ∈ s'.pair.twinRetry ++ s'.pair.twinWaiting, p.kind = 2)
        ∧ Out.twin (twinAnswer 0x81 seq (s'.get 0x48000C)) ∈ s'.out)
    ∧ (∀ want b, s.pair.twinExpected = some want → want < 65536 → seq < 65536 → 32768 ≤ (want + 65536 - seq) % 65536 →
      Answers (exec (.mirror t seq b) s) fun s' => s'.pair = { s.pair with wire := { s.pair.wire with disparity := s'.pair.wire.disparity, taken := s'.pair.wire.taken } }
        ∧ Out.twin (twinAnswer 0x82 want (s'.get 0x48000C)) ∈ s'.out)

/-- R384, R386, R387, R397, R398: training with four good lanes brings the twin link up with a HELLO; a lane with errors beyond its
limit is retired, and the spare takes a data lane's place at the next deskew set; the spare's PRBS is judged; acknowledged packets leave, others are sent again; health reports go out, and a good one that comes is kept. Which packet's
retries count is the model's reading (log entry 82). -/
def Obligations.TheTwinLinkIsKept : Prop :=
  ∀ (s : State) (t : Nat), s.paired = true →
    (∀ locked, s.power.phase = .run ∨ s.power.phase = .hold →
        4 ≤ ((List.range 5).filter fun l => bitOf locked l && !bitOf (s.get 0x23000B) l).length →
      Answers (exec (.twinLinkTraining t locked) s) fun s' => s'.pair.twinUp = true ∧ s'.pair.twinFailed = false
        ∧ ∃ p ∈ s'.pair.twinRetry ++ s'.pair.twinWaiting, p.kind = 8)
    ∧ (∀ lane e, lane < 5 → s.served = true → s.pair.twinUp = true → (∀ n, e = some n → s.get 0x23000C < n) →
        bitOf (s.get 0x23000B) lane = false → s.get 0x23000B < 32 →
      Answers (exec (.twinLaneRetire t ⟨lane, e⟩) s) fun s' => s'.get 0x23000B = s.get 0x23000B + 2 ^ lane)
    ∧ (∀ lane n, lane < 5 → s.served = true → s.pair.twinUp = true → n ≤ s.get 0x23000C → s.pair.wire.nextMap = none →
      Answers (exec (.twinLaneRetire t ⟨lane, some n⟩) s) fun s' => s'.get 0x23000B = s.get 0x23000B
        ∧ s'.pair.prbsClean = if lane ∈ s.twinBeside s.pair.wire.map then n == 0 else s.pair.prbsClean)
    ∧ (∀ lane sp, lane < 5 → s.served = true → s.pair.twinUp = true → s.get 0x23000B = 0 → s.pair.wire.nextMap = none → lane ∈ s.pair.wire.map →
        s.twinBeside s.pair.wire.map = [sp] →
      Answers (exec (.twinLaneRetire t ⟨lane, none⟩) s) fun s' => s'.pair.wire.map = s.pair.wire.map
        ∧ s'.pair.wire.nextMap = some (s.pair.wire.map.map fun x => if x = lane then sp else x))
    ∧ (∀ m, s.pair.twinUp = true → s.power.phase = .run ∨ s.power.phase = .hold → s.pair.wire.nextMap = some m → 232 ≤ s.pair.wire.phase →
      Answers (exec (.twinHeartbeatSend t) s) fun s' => s'.pair.wire.map = m ∧ s'.pair.wire.nextMap = none
        ∧ s'.get 0x23000A = (bitmapBelow 5 fun l => m.contains l)
        ∧ Out.orderedSet true 1 s.pair.wire.deskew s.pair.wire.deskew ∈ s'.out)
    ∧ (∀ p rest, s.served = true → s.pair.twinRetry = p :: rest → p.seq < 65536 →
      (s.pair.twinWaiting = [] → s.pair.yieldingSince = none →
        Answers (exec (.twinAck t false p.seq) s) fun s' => s'.pair.twinRetry = rest)
      ∧ (s.pair.twinUp = true → (∀ q ∈ p :: rest, q.sends < 4) →
        (Answers (exec (.twinAck t true p.seq) s) fun s' =>
          s'.pair.twinRetry = (p :: rest).map fun q => { q with sends := q.sends + 1, sentAt := max s.now t })
        ∧ (p.sentAt + 20000 ≤ max s.now t → Answers (exec (.twinRetryTimeout t) s) fun s' =>
          Out.twin p.twinBytes ∈ s'.out
            ∧ s'.pair.twinRetry = (p :: rest).map fun q => { q with sends := q.sends + 1, sentAt := max s.now t })))
    ∧ (∀ (seq : Nat) (r : Bytes), s.served = true → s.pair.twinUp = true → s.pair.twinExpected = none ∨ s.pair.twinExpected = some seq →
        r.length = 64 → fieldLE r 60 4 = crc32c (r.take 60) →
      Answers (exec (.health t ⟨seq, r⟩) s) fun s' => s'.dom 0x230009 = r ∧ s'.pair.mirrorEpoch = fieldLE r 32 4
        ∧ Out.twin (twinAnswer 0x81 seq (s'.get 0x48000C)) ∈ s'.out)
    ∧ (s.pair.twinUp = true → s.power.phase = .run ∨ s.power.phase = .hold →
      Answers (exec (.healthSend t) s) fun s' => s'.pair.goldenAll = true
        ∧ ∃ p ∈ s'.pair.twinRetry ++ s'.pair.twinWaiting, p.kind = 1 ∧ p.payload = (s.begin t).healthReport)

/-! ### Calibration, OTP, firmware -/

/-- R437, R438, R443, R435: a calibration step that converges keeps its trims and goes on, one that does not ends the run bad; a run past its
last step ends passed and its trims hold; a burn takes the next generation and ends as it reads back; an image is written to the slot that
does not run, and refused where it does not read back. -/
def Obligations.ServiceRunsEndAsTheyRead : Prop :=
  ∀ (s : State) (t : Nat),
    (∀ r, s.cal.run = some r → r.trims.length = 64 →
      (∀ code, r.next = 1 → code < 64 →
        (Answers (exec (.calibrateBias t code code true) s) fun s' => ∃ r', s'.cal.run = some r' ∧ byteAt r'.trims 0 = code ∧ 1 < r'.next)
        ∧ ∀ first second budget, first ≠ second ∨ budget = false →
          Answers (exec (.calibrateBias t first second budget) s) fun s' => s'.cal.run = none ∧ s'.get 0x260004 = 3 ∧ s'.get 0x260005 = 1)
      ∧ (∀ tap taps, r.next = 2 → tapsOk tap taps = true →
        Answers (exec (.calibrateOscillators t tap taps true) s) fun s' =>
          ∃ r', s'.cal.run = some r' ∧ byteAt r'.trims 1 = tap ∧ 2 < r'.next)
      ∧ (∀ means : List Int, r.next = 3 → means.length = 12 → (∀ m ∈ means, -2048 ≤ s.sensorOffset m ∧ s.sensorOffset m ≤ 2048) →
        Answers (exec (.calibrateTemperature t means true) s) fun s' => ∃ r', s'.cal.run = some r' ∧ 3 < r'.next
          ∧ (r'.trims.drop 16).take 24 = means.flatMap fun m => leBytes 2 (unsigned 16 (s.sensorOffset m)))
      ∧ (∀ findings, r.next = 4 → findings.all SramFinding.ok = true →
        Answers (exec (.calibrateSram t findings true) s) fun s' => ∃ r', s'.cal.run = some r' ∧ r'.next = 5 ∧ r'.trims = r.trims)
      ∧ (5 ≤ r.next → Answers (exec (.calibrationRunEnd t) s) fun s' => s'.cal.run = none ∧ s'.cal.trims = r.trims
          ∧ s'.cal.calibrated = true ∧ s'.get 0x260004 = 2 ∧ s'.get 0x260006 = 1))
    ∧ (∀ p v g, (s.begin t).hears p = true → ((s.begin t).heard p).takesValue 0x261003 (leBytes 4 v) = true → s.nv.nextGeneration = some g →
      Answers (exec (.otpBurn t p v) s) fun s' => s'.answered p 0 [] ∧ s'.get 0x261004 = 1 ∧ s'.nv = s.nv
        ∧ ∃ b, s'.cal.burning = some (g, b) ∧ otpValid g b = true)
    ∧ (∀ g b, s.cal.burning = some (g, b) → g < s.nv.otp.length →
      (Answers (exec (.otpBurnComplete t true) s) fun s' => nth s'.nv.otp g [] = b ∧ s'.cal.burning = none ∧ s'.get 0x261004 = 2)
      ∧ (Answers (exec (.otpBurnComplete t false) s) fun s' => s'.cal.burning = none ∧ s'.get 0x261004 = 3))
    ∧ (∀ p image b, (s.begin t).hears p = true → ((s.begin t).heard p).takesTransfer 0x262002 image b = true → 2 ≤ s.nv.slots.length →
      (Answers (exec (.firmwareInstall t p image true) s) fun s' => s'.answered p 0 [] ∧ nth s'.nv.slots s.installSlot [] = b)
      ∧ (Answers (exec (.firmwareInstall t p image false) s) fun s' =>
          s'.answered p 0x08000020 [] ∧ nth s'.nv.slots s.installSlot [] = []))

/-! ### What commands leave alone -/

/-- R8: a value that is only held changes its own object and no other, no waiting value, and no unit. -/
def Obligations.HeldWritesChangeTheirObjectAlone : Prop :=
  ∀ (s s' : State) (t index sub : Nat) (p : Path) (data : Bytes), index < 65536 → sub < 256 → (s.begin t).hears p = true →
    exec (.registerWrite t p index sub data) s = .next s' →
    (keyOf index sub ∈ heldScalars → ((s.begin t).heard p).takesValue (keyOf index sub) data = true →
      (∀ k, k ≠ keyOf index sub → k ≠ 0x204005 → k ≠ 0x201005 → s'.get k = s.get k) ∧ (∀ k, s'.dom k = s.dom k)
        ∧ SamePending s s' ∧ SameSystem s s' ∧ SamePicture s s' ∧ SameLinks s s')
    ∧ (keyOf index sub ∈ heldContents → ((s.begin t).heard p).takesContent (keyOf index sub) data = true →
      (∀ k, k ≠ 0x204005 → k ≠ 0x201005 → s'.get k = s.get k) ∧ (∀ k, k ≠ keyOf index sub → s'.dom k = s.dom k)
        ∧ SamePending s s' ∧ SameSystem s s' ∧ SamePicture s s' ∧ SameLinks s s')

/-- What the cameras, their control buses and the disparity and motion searches leave alone: the power state, the non-volatile stores,
calibration, Lift, the ray map, panel care, memory, the panel link, the clock, the network, what waits for a burn, and the scene but for
a layer that a frame makes current again. -/
def Obligations.CamerasLeaveTheOtherUnits : Prop :=
  ∀ (s s' : State) (t n a b c d : Nat) (ok : Bool) (samples : List Nat) (data : Bytes),
    (exec (.frameStart t n a) s = .next s' ∨ exec (.lineReceive t n a b c ok samples) s = .next s' ∨ exec (.frameEnd t n) s = .next s'
      ∨ exec (.frameEndTimeout t n) s = .next s' ∨ exec (.portLost t n) s = .next s' ∨ exec (.ispFrameComplete t ⟨n, a⟩) s = .next s'
      ∨ exec (.ispPipelineFail t n) s = .next s' ∨ exec (.cciWriteDeadline t n) s = .next s'
      ∨ exec (.cciTransactionComplete t n ok data) s = .next s' ∨ exec (.cciBusStuck t n) s = .next s'
      ∨ exec (.cciBusRecovery t n ok) s = .next s' ∨ exec (.stereoRowSearch t ⟨n, d⟩ a) s = .next s'
      ∨ exec (.stereoFrameAbandon t n) s = .next s' ∨ exec (.motionSearch t ⟨n, d⟩ a b) s = .next s'
      ∨ exec (.slalomEngineFail t n) s = .next s') →
    s'.power = s.power ∧ s'.nv = s.nv ∧ s'.cal = s.cal ∧ s'.lift = s.lift
      ∧ s'.scene = { s.scene with layers := s'.scene.layers } ∧ (exec (.frameStart t n a) s = .next s' ∨ s'.scene = s.scene)
      ∧ s'.banks = s.banks ∧ s'.care = s.care
      ∧ s'.memory = s.memory ∧ s'.link = s.link ∧ s'.clock = s.clock ∧ s'.net = s.net
      ∧ (∀ k, lookup k s'.burnR = lookup k s.burnR) ∧ ∀ k, lookup k s'.burnD = lookup k s.burnD

/-- What the decoder, the Groomer and the flat outputs leave alone, the pair among it; and of the scene all but the run state of layers that a
picture makes current again. -/
def Obligations.OutputsLeaveTheOtherUnits : Prop :=
  ∀ (s s' : State) (t n line pixel good : Nat) (u : AccessUnit) (a b : Bool) (failures : JobReport),
    (exec (.pictureDecode t n u) s = .next s' ∨ exec (.slotStarved t n) s = .next s' ∨ exec (.cycleBudgetOverrun t n u good) s = .next s'
      ∨ exec (.decoderCoreFail t n) s = .next s' ∨ exec (.groomerJobComplete t failures) s = .next s'
      ∨ exec (.flatTrainingRetry t n a) s = .next s' ∨ exec (.hpdChange t n a b) s = .next s' ∨ exec (.irqHpd t n a b) s = .next s'
      ∨ exec (.scanLatch t n) s = .next s' ∨ exec (.timingApply t n) s = .next s' ∨ exec (.underrunLine t n ⟨line, pixel⟩) s = .next s'
      ∨ exec (.sealDeadline t n) s = .next s') →
    s'.power = s.power ∧ s'.nv = s.nv ∧ s'.cal = s.cal ∧ s'.lift = s.lift ∧ s'.scene = { s.scene with layers := s'.scene.layers } ∧ s'.banks = s.banks ∧ s'.care = s.care
      ∧ s'.memory = s.memory ∧ s'.link = s.link ∧ s'.pair = s.pair ∧ s'.clock = s.clock ∧ s'.net = s.net
      ∧ (∀ k, lookup k s'.burnR = lookup k s.burnR) ∧ ∀ k, lookup k s'.burnD = lookup k s.burnD

/-- What network frames and timed inputs leave alone: the functions' stages, the picture's path, memory, link, pair, clock, every value that
waits, and every object outside 0x20, 0x22, 0x28 and 0x3C. -/
def Obligations.NetworkFramesLeaveThePicture : Prop :=
  ∀ (s s' : State) (t n a b c : Nat) (x y : Bool) (data : Bytes) (p : PtpArrival) (m : DelayMessage) (r : Arrival),
    (exec (.syncSend t n) s = .next s' ∨ exec (.announceSend t n) s = .next s' ∨ exec (.delayRequestResponse t p m a b) s = .next s'
      ∨ exec (.arpNeighbourDiscovery t r x y a b c) s = .next s' ∨ exec (.icmpEcho t r x a b data) s = .next s'
      ∨ exec (.frameLockEdge t n) s = .next s' ∨ exec (.frameLockLost t) s = .next s' ∨ exec (.captureEdge t n x a) s = .next s') →
    s'.stages = s.stages ∧ s'.power = s.power ∧ s'.nv = s.nv ∧ s'.cal = s.cal ∧ SamePicture s s' ∧ s'.link = s.link ∧ s'.pair = s.pair
      ∧ s'.clock = s.clock ∧ SamePending s s' ∧ ∀ k, k / 65536 ≠ 0x28 → k / 65536 ≠ 0x20 → k / 65536 ≠ 0x22 → k / 65536 ≠ 0x3C → s'.get k = s.get k

/-- What heartbeats of the pair leave alone: the functions' stages, the picture's path, the panel link, the clock, the network, every
value that waits, and every object outside 0x20, 0x22, 0x23 and 0x3C. -/
def Obligations.HeartbeatsLeaveThePicture : Prop :=
  ∀ (s s' : State) (t a b : Nat) (x : Bool),
    (exec (.hbEdge t) s = .next s' ∨ exec (.twinHeartbeat t x a b) s = .next s' ∨ exec (.twinHeartbeatSend t) s = .next s'
      ∨ exec (.pathSilent t x) s = .next s') →
    s'.stages = s.stages ∧ s'.power = s.power ∧ s'.nv = s.nv ∧ s'.cal = s.cal ∧ SamePicture s s' ∧ s'.link = s.link ∧ s'.clock = s.clock
      ∧ s'.net = s.net ∧ SamePending s s' ∧ ∀ k, k / 65536 ≠ 0x23 → k / 65536 ≠ 0x20 → k / 65536 ≠ 0x22 → k / 65536 ≠ 0x3C → s'.get k = s.get k
end

