-- ==== Sys2Proof/Laws/Stores.lean ====
section
/-!
SUPPORT. Sys2Proof/Laws/Stores.lean: the stores keyed by object: what a lookup finds after each operation, and that the
canonical form is reached and kept.
-/

namespace Sys2Proof.Machine

variable {α : Type}

/-! ### Lookups -/

@[simp] theorem lookup_nil (k : Nat) : lookup k ([] : List (Nat × α)) = none := rfl

theorem lookup_cons (k j : Nat) (v : α) (l : List (Nat × α)) : lookup k ((j, v) :: l) = if j = k then some v else lookup k l := rfl

@[simp] theorem lookup_insertKey_self (k : Nat) (v : α) (l : List (Nat × α)) : lookup k (insertKey k v l) = some v := by
  induction l with
  | nil => simp [insertKey, lookup]
  | cons p l ih =>
    obtain ⟨j, w⟩ := p
    simp only [insertKey]
    split
    · simp [lookup]
    · split
      · simp [lookup]
      · rename_i h1 h2
        have : j ≠ k := fun e => h2 e.symm
        simp [lookup, this, ih]

theorem lookup_insertKey_ne {k j : Nat} (h : j ≠ k) (v : α) (l : List (Nat × α)) : lookup j (insertKey k v l) = lookup j l := by
  induction l with
  | nil => simp [insertKey, lookup, Ne.symm h]
  | cons p l ih =>
    obtain ⟨i, w⟩ := p
    simp only [insertKey]
    split
    · simp [lookup, Ne.symm h]
    · split
      · rename_i h1 h2
        subst h2
        simp [lookup, Ne.symm h]
      · simp [lookup, ih]

@[simp] theorem lookup_eraseKey_self (k : Nat) (l : List (Nat × α)) : lookup k (eraseKey k l) = none := by
  induction l with
  | nil => rfl
  | cons p l ih =>
    obtain ⟨j, w⟩ := p
    simp only [eraseKey, List.filter_cons] at ih ⊢
    split
    · rename_i h
      have : j ≠ k := by simpa using h
      simp [lookup, this, ih]
    · exact ih

theorem lookup_eraseKey_ne {k j : Nat} (h : j ≠ k) (l : List (Nat × α)) : lookup j (eraseKey k l) = lookup j l := by
  induction l with
  | nil => rfl
  | cons p l ih =>
    obtain ⟨i, w⟩ := p
    simp only [eraseKey, List.filter_cons] at ih ⊢
    split
    · simp [lookup, ih]
    · rename_i h'
      have hi : i = k := by simpa using h'
      simp only [lookup]
      rw [ih, if_neg (by omega)]

/-- Reading a scalar store: the value listed, else the default. -/
theorem lookup_setKey_self (k v : Nat) (l : List (Nat × Nat)) : (lookup k (setKey k v l)).getD (defaultOf k) = v := by
  unfold setKey
  split
  · rename_i h; simp [h]
  · simp

theorem lookup_setKey_ne {k j : Nat} (h : j ≠ k) (v : Nat) (l : List (Nat × Nat)) : lookup j (setKey k v l) = lookup j l := by
  unfold setKey
  split
  · exact lookup_eraseKey_ne h l
  · exact lookup_insertKey_ne h v l

/-- The canonical form of a scalar store reads as the store. -/
theorem lookup_canonR (k : Nat) (l : List (Nat × Nat)) :
    (lookup k (canonR l)).getD (defaultOf k) = (lookup k l).getD (defaultOf k) := by
  induction l with
  | nil => rfl
  | cons p l ih =>
    obtain ⟨j, w⟩ := p
    simp only [canonR]
    by_cases h : k = j
    · subst h; simp [lookup_setKey_self, lookup]
    · rw [lookup_setKey_ne h, ih, lookup_cons, if_neg (fun e => h e.symm)]

/-- The canonical form of any other store reads as the store. -/
@[simp] theorem lookup_canonK (k : Nat) (l : List (Nat × α)) : lookup k (canonK l) = lookup k l := by
  induction l with
  | nil => rfl
  | cons p l ih =>
    obtain ⟨j, w⟩ := p
    simp only [canonK]
    by_cases h : k = j
    · subst h; simp [lookup]
    · rw [lookup_insertKey_ne h, ih, lookup_cons, if_neg (fun e => h e.symm)]

/-! ### The canonical form -/

theorem mem_insertKey {k : Nat} {v : α} {l : List (Nat × α)} {p : Nat × α} (h : p ∈ insertKey k v l) : p = (k, v) ∨ p ∈ l := by
  induction l with
  | nil => left; simpa [insertKey] using h
  | cons q l ih =>
    obtain ⟨j, w⟩ := q
    simp only [insertKey] at h
    split at h
    · simpa using h
    · split at h
      · rcases List.mem_cons.1 h with h | h
        · exact .inl h
        · exact .inr (List.mem_cons_of_mem _ h)
      · rcases List.mem_cons.1 h with h | h
        · exact .inr (by simp [h])
        · exact (ih h).imp id (List.mem_cons_of_mem _)

theorem keysRise_insertKey (k : Nat) (v : α) (l : List (Nat × α)) (h : keysRise l = true) : keysRise (insertKey k v l) = true := by
  induction l with
  | nil => simp [insertKey, keysRise]
  | cons q l ih =>
    obtain ⟨j, w⟩ := q
    simp only [keysRise, Bool.and_eq_true, List.all_eq_true, decide_eq_true_eq] at h
    simp only [insertKey]
    split
    · rename_i hk
      simp only [keysRise, Bool.and_eq_true, List.all_eq_true, decide_eq_true_eq, List.mem_cons, forall_eq_or_imp]
      exact ⟨⟨hk, fun p hp => lt_trans hk (h.1 p hp)⟩, h.1, h.2⟩
    · split
      · rename_i h1 h2
        subst h2
        simpa only [keysRise, Bool.and_eq_true, List.all_eq_true, decide_eq_true_eq] using h
      · rename_i h1 h2
        simp only [keysRise, Bool.and_eq_true, List.all_eq_true, decide_eq_true_eq]
        refine ⟨fun p hp => ?_, ih h.2⟩
        rcases mem_insertKey hp with e | hp
        · subst e; show j < k; omega
        · exact h.1 p hp

theorem keysRise_eraseKey (k : Nat) (l : List (Nat × α)) (h : keysRise l = true) : keysRise (eraseKey k l) = true := by
  induction l with
  | nil => rfl
  | cons q l ih =>
    simp only [keysRise, Bool.and_eq_true, List.all_eq_true, decide_eq_true_eq] at h
    simp only [eraseKey, List.filter_cons] at ih ⊢
    split
    · simp only [keysRise, Bool.and_eq_true, List.all_eq_true, decide_eq_true_eq]
      exact ⟨fun p hp => h.1 p (List.mem_filter.1 hp).1, ih h.2⟩
    · exact ih h.2

theorem keysRise_setKey (k v : Nat) (l : List (Nat × Nat)) (h : keysRise l = true) : keysRise (setKey k v l) = true := by
  unfold setKey
  split
  · exact keysRise_eraseKey k l h
  · exact keysRise_insertKey k v l h

theorem keysRise_canonR (l : List (Nat × Nat)) : keysRise (canonR l) = true := by
  induction l with
  | nil => rfl
  | cons p l ih => exact keysRise_setKey _ _ _ ih

theorem keysRise_canonK (l : List (Nat × α)) : keysRise (canonK l) = true := by
  induction l with
  | nil => rfl
  | cons p l ih => exact keysRise_insertKey _ _ _ ih

theorem setKey_noDefault (k v : Nat) (l : List (Nat × Nat)) (h : ∀ p ∈ l, p.2 ≠ defaultOf p.1) :
    ∀ p ∈ setKey k v l, p.2 ≠ defaultOf p.1 := by
  intro p hp
  unfold setKey at hp
  split at hp
  · exact h p (List.mem_filter.1 hp).1
  · rcases mem_insertKey hp with e | hp
    · subst e; assumption
    · exact h p hp

/-- No default is listed. -/
theorem canonR_noDefault (l : List (Nat × Nat)) : ∀ p ∈ canonR l, p.2 ≠ defaultOf p.1 := by
  induction l with
  | nil => intro p hp; cases hp
  | cons p l ih => exact setKey_noDefault _ _ _ ih

/-- Every state's stores in canonical form. -/
theorem State.canon_wf (s : State) : s.canon.wf = true := by
  simp only [State.wf, State.canon, keysRise_canonR, keysRise_canonK, Bool.and_true, Bool.true_and, List.all_eq_true, bne_iff_ne]
  exact canonR_noDefault s.regs

end Sys2Proof.Machine
end

