-- ==== Sys2Proof/Laws/State.lean ====
section
/-!
SUPPORT. Sys2Proof/Laws/State.lean: for each named update of the state, one lemma per field; what a read of an object finds
after each update; what every command's ending leaves.
-/

namespace Sys2Proof.Machine

/-! ### Field by update -/

@[simp] theorem State.begin_pending (s : State) (t : Nat) : (s.begin t).pending = s.pending := rfl
@[simp] theorem State.begin_now (s : State) (t : Nat) : (s.begin t).now = max s.now t := rfl
@[simp] theorem State.begin_free (s : State) (t : Nat) : (s.begin t).free = s.free := rfl
@[simp] theorem State.begin_out (s : State) (t : Nat) : (s.begin t).out = [] := rfl
@[simp] theorem State.begin_regs (s : State) (t : Nat) : (s.begin t).regs = s.regs := rfl
@[simp] theorem State.begin_doms (s : State) (t : Nat) : (s.begin t).doms = s.doms := rfl
@[simp] theorem State.begin_pendR (s : State) (t : Nat) : (s.begin t).pendR = s.pendR := rfl
@[simp] theorem State.begin_pendD (s : State) (t : Nat) : (s.begin t).pendD = s.pendD := rfl
@[simp] theorem State.begin_burnR (s : State) (t : Nat) : (s.begin t).burnR = s.burnR := rfl
@[simp] theorem State.begin_burnD (s : State) (t : Nat) : (s.begin t).burnD = s.burnD := rfl
@[simp] theorem State.begin_stages (s : State) (t : Nat) : (s.begin t).stages = s.stages := rfl
@[simp] theorem State.begin_ctl (s : State) (t : Nat) : (s.begin t).ctl = s.ctl := rfl
@[simp] theorem State.begin_power (s : State) (t : Nat) : (s.begin t).power = s.power := rfl
@[simp] theorem State.begin_faults (s : State) (t : Nat) : (s.begin t).faults = s.faults := rfl
@[simp] theorem State.begin_beacon (s : State) (t : Nat) : (s.begin t).beacon = s.beacon := rfl
@[simp] theorem State.begin_nv (s : State) (t : Nat) : (s.begin t).nv = s.nv := rfl
@[simp] theorem State.begin_cal (s : State) (t : Nat) : (s.begin t).cal = s.cal := rfl
@[simp] theorem State.begin_lift (s : State) (t : Nat) : (s.begin t).lift = s.lift := rfl
@[simp] theorem State.begin_scene (s : State) (t : Nat) : (s.begin t).scene = s.scene := rfl
@[simp] theorem State.begin_banks (s : State) (t : Nat) : (s.begin t).banks = s.banks := rfl
@[simp] theorem State.begin_link (s : State) (t : Nat) : (s.begin t).link = s.link := rfl
@[simp] theorem State.begin_care (s : State) (t : Nat) : (s.begin t).care = s.care := rfl
@[simp] theorem State.begin_pair (s : State) (t : Nat) : (s.begin t).pair = s.pair := rfl
@[simp] theorem State.begin_clock (s : State) (t : Nat) : (s.begin t).clock = s.clock := rfl
@[simp] theorem State.begin_media (s : State) (t : Nat) : (s.begin t).media = s.media := rfl
@[simp] theorem State.begin_memory (s : State) (t : Nat) : (s.begin t).memory = s.memory := rfl
@[simp] theorem State.begin_net (s : State) (t : Nat) : (s.begin t).net = s.net := rfl

@[simp] theorem State.canon_pending (s : State) : (s.canon).pending = s.pending := rfl
@[simp] theorem State.canon_now (s : State) : (s.canon).now = s.now := rfl
@[simp] theorem State.canon_free (s : State) : (s.canon).free = s.free := rfl
@[simp] theorem State.canon_out (s : State) : (s.canon).out = s.out := rfl
@[simp] theorem State.canon_regs (s : State) : (s.canon).regs = canonR s.regs := rfl
@[simp] theorem State.canon_doms (s : State) : (s.canon).doms = canonK s.doms := rfl
@[simp] theorem State.canon_pendR (s : State) : (s.canon).pendR = canonK s.pendR := rfl
@[simp] theorem State.canon_pendD (s : State) : (s.canon).pendD = canonK s.pendD := rfl
@[simp] theorem State.canon_burnR (s : State) : (s.canon).burnR = canonK s.burnR := rfl
@[simp] theorem State.canon_burnD (s : State) : (s.canon).burnD = canonK s.burnD := rfl
@[simp] theorem State.canon_stages (s : State) : (s.canon).stages = s.stages := rfl
@[simp] theorem State.canon_ctl (s : State) : (s.canon).ctl = s.ctl := rfl
@[simp] theorem State.canon_power (s : State) : (s.canon).power = s.power := rfl
@[simp] theorem State.canon_faults (s : State) : (s.canon).faults = s.faults := rfl
@[simp] theorem State.canon_beacon (s : State) : (s.canon).beacon = s.beacon := rfl
@[simp] theorem State.canon_nv (s : State) : (s.canon).nv = s.nv := rfl
@[simp] theorem State.canon_cal (s : State) : (s.canon).cal = s.cal := rfl
@[simp] theorem State.canon_lift (s : State) : (s.canon).lift = s.lift := rfl
@[simp] theorem State.canon_scene (s : State) : (s.canon).scene = s.scene := rfl
@[simp] theorem State.canon_banks (s : State) : (s.canon).banks = s.banks := rfl
@[simp] theorem State.canon_link (s : State) : (s.canon).link = s.link := rfl
@[simp] theorem State.canon_care (s : State) : (s.canon).care = s.care := rfl
@[simp] theorem State.canon_pair (s : State) : (s.canon).pair = s.pair := rfl
@[simp] theorem State.canon_clock (s : State) : (s.canon).clock = s.clock := rfl
@[simp] theorem State.canon_media (s : State) : (s.canon).media = s.media := rfl
@[simp] theorem State.canon_memory (s : State) : (s.canon).memory = s.memory := rfl
@[simp] theorem State.canon_net (s : State) : (s.canon).net = s.net := rfl

@[simp] theorem State.canon_tx (s : State) : (s.canon).tx = s.tx := rfl

@[simp] theorem State.put_pending (s : State) (k v : Nat) : (s.put k v).pending = s.pending := rfl
@[simp] theorem State.put_now (s : State) (k v : Nat) : (s.put k v).now = s.now := rfl
@[simp] theorem State.put_free (s : State) (k v : Nat) : (s.put k v).free = s.free := rfl
@[simp] theorem State.put_out (s : State) (k v : Nat) : (s.put k v).out = s.out := rfl
@[simp] theorem State.put_regs (s : State) (k v : Nat) : (s.put k v).regs = setKey k (v % 2 ^ widthOf k) s.regs := rfl
@[simp] theorem State.put_doms (s : State) (k v : Nat) : (s.put k v).doms = s.doms := rfl
@[simp] theorem State.put_pendR (s : State) (k v : Nat) : (s.put k v).pendR = s.pendR := rfl
@[simp] theorem State.put_pendD (s : State) (k v : Nat) : (s.put k v).pendD = s.pendD := rfl
@[simp] theorem State.put_burnR (s : State) (k v : Nat) : (s.put k v).burnR = s.burnR := rfl
@[simp] theorem State.put_burnD (s : State) (k v : Nat) : (s.put k v).burnD = s.burnD := rfl
@[simp] theorem State.put_stages (s : State) (k v : Nat) : (s.put k v).stages = s.stages := rfl
@[simp] theorem State.put_ctl (s : State) (k v : Nat) : (s.put k v).ctl = s.ctl := rfl
@[simp] theorem State.put_power (s : State) (k v : Nat) : (s.put k v).power = s.power := rfl
@[simp] theorem State.put_faults (s : State) (k v : Nat) : (s.put k v).faults = s.faults := rfl
@[simp] theorem State.put_beacon (s : State) (k v : Nat) : (s.put k v).beacon = s.beacon := rfl
@[simp] theorem State.put_nv (s : State) (k v : Nat) : (s.put k v).nv = s.nv := rfl
@[simp] theorem State.put_cal (s : State) (k v : Nat) : (s.put k v).cal = s.cal := rfl
@[simp] theorem State.put_lift (s : State) (k v : Nat) : (s.put k v).lift = s.lift := rfl
@[simp] theorem State.put_scene (s : State) (k v : Nat) : (s.put k v).scene = s.scene := rfl
@[simp] theorem State.put_banks (s : State) (k v : Nat) : (s.put k v).banks = s.banks := rfl
@[simp] theorem State.put_link (s : State) (k v : Nat) : (s.put k v).link = s.link := rfl
@[simp] theorem State.put_care (s : State) (k v : Nat) : (s.put k v).care = s.care := rfl
@[simp] theorem State.put_pair (s : State) (k v : Nat) : (s.put k v).pair = s.pair := rfl
@[simp] theorem State.put_clock (s : State) (k v : Nat) : (s.put k v).clock = s.clock := rfl
@[simp] theorem State.put_media (s : State) (k v : Nat) : (s.put k v).media = s.media := rfl
@[simp] theorem State.put_memory (s : State) (k v : Nat) : (s.put k v).memory = s.memory := rfl
@[simp] theorem State.put_net (s : State) (k v : Nat) : (s.put k v).net = s.net := rfl

@[simp] theorem State.put_tx (s : State) (k v : Nat) : (s.put k v).tx = s.tx := rfl

@[simp] theorem State.bump_pending (s : State) (k n : Nat) : (s.bump k n).pending = s.pending := rfl
@[simp] theorem State.bump_now (s : State) (k n : Nat) : (s.bump k n).now = s.now := rfl
@[simp] theorem State.bump_free (s : State) (k n : Nat) : (s.bump k n).free = s.free := rfl
@[simp] theorem State.bump_out (s : State) (k n : Nat) : (s.bump k n).out = s.out := rfl
@[simp] theorem State.bump_regs (s : State) (k n : Nat) : (s.bump k n).regs = setKey k ((s.get k + n) % 2 ^ widthOf k) s.regs := rfl
@[simp] theorem State.bump_doms (s : State) (k n : Nat) : (s.bump k n).doms = s.doms := rfl
@[simp] theorem State.bump_pendR (s : State) (k n : Nat) : (s.bump k n).pendR = s.pendR := rfl
@[simp] theorem State.bump_pendD (s : State) (k n : Nat) : (s.bump k n).pendD = s.pendD := rfl
@[simp] theorem State.bump_burnR (s : State) (k n : Nat) : (s.bump k n).burnR = s.burnR := rfl
@[simp] theorem State.bump_burnD (s : State) (k n : Nat) : (s.bump k n).burnD = s.burnD := rfl
@[simp] theorem State.bump_stages (s : State) (k n : Nat) : (s.bump k n).stages = s.stages := rfl
@[simp] theorem State.bump_ctl (s : State) (k n : Nat) : (s.bump k n).ctl = s.ctl := rfl
@[simp] theorem State.bump_power (s : State) (k n : Nat) : (s.bump k n).power = s.power := rfl
@[simp] theorem State.bump_faults (s : State) (k n : Nat) : (s.bump k n).faults = s.faults := rfl
@[simp] theorem State.bump_beacon (s : State) (k n : Nat) : (s.bump k n).beacon = s.beacon := rfl
@[simp] theorem State.bump_nv (s : State) (k n : Nat) : (s.bump k n).nv = s.nv := rfl
@[simp] theorem State.bump_cal (s : State) (k n : Nat) : (s.bump k n).cal = s.cal := rfl
@[simp] theorem State.bump_lift (s : State) (k n : Nat) : (s.bump k n).lift = s.lift := rfl
@[simp] theorem State.bump_scene (s : State) (k n : Nat) : (s.bump k n).scene = s.scene := rfl
@[simp] theorem State.bump_banks (s : State) (k n : Nat) : (s.bump k n).banks = s.banks := rfl
@[simp] theorem State.bump_link (s : State) (k n : Nat) : (s.bump k n).link = s.link := rfl
@[simp] theorem State.bump_care (s : State) (k n : Nat) : (s.bump k n).care = s.care := rfl
@[simp] theorem State.bump_pair (s : State) (k n : Nat) : (s.bump k n).pair = s.pair := rfl
@[simp] theorem State.bump_clock (s : State) (k n : Nat) : (s.bump k n).clock = s.clock := rfl
@[simp] theorem State.bump_media (s : State) (k n : Nat) : (s.bump k n).media = s.media := rfl
@[simp] theorem State.bump_memory (s : State) (k n : Nat) : (s.bump k n).memory = s.memory := rfl
@[simp] theorem State.bump_net (s : State) (k n : Nat) : (s.bump k n).net = s.net := rfl

@[simp] theorem State.bump_tx (s : State) (k n : Nat) : (s.bump k n).tx = s.tx := rfl

@[simp] theorem State.putDom_pending (s : State) (k : Nat) (b : Bytes) : (s.putDom k b).pending = s.pending := rfl
@[simp] theorem State.putDom_now (s : State) (k : Nat) (b : Bytes) : (s.putDom k b).now = s.now := rfl
@[simp] theorem State.putDom_free (s : State) (k : Nat) (b : Bytes) : (s.putDom k b).free = s.free := rfl
@[simp] theorem State.putDom_out (s : State) (k : Nat) (b : Bytes) : (s.putDom k b).out = s.out := rfl
@[simp] theorem State.putDom_regs (s : State) (k : Nat) (b : Bytes) : (s.putDom k b).regs = s.regs := rfl
@[simp] theorem State.putDom_doms (s : State) (k : Nat) (b : Bytes) : (s.putDom k b).doms = insertKey k b s.doms := rfl
@[simp] theorem State.putDom_pendR (s : State) (k : Nat) (b : Bytes) : (s.putDom k b).pendR = s.pendR := rfl
@[simp] theorem State.putDom_pendD (s : State) (k : Nat) (b : Bytes) : (s.putDom k b).pendD = s.pendD := rfl
@[simp] theorem State.putDom_burnR (s : State) (k : Nat) (b : Bytes) : (s.putDom k b).burnR = s.burnR := rfl
@[simp] theorem State.putDom_burnD (s : State) (k : Nat) (b : Bytes) : (s.putDom k b).burnD = s.burnD := rfl
@[simp] theorem State.putDom_stages (s : State) (k : Nat) (b : Bytes) : (s.putDom k b).stages = s.stages := rfl
@[simp] theorem State.putDom_ctl (s : State) (k : Nat) (b : Bytes) : (s.putDom k b).ctl = s.ctl := rfl
@[simp] theorem State.putDom_power (s : State) (k : Nat) (b : Bytes) : (s.putDom k b).power = s.power := rfl
@[simp] theorem State.putDom_faults (s : State) (k : Nat) (b : Bytes) : (s.putDom k b).faults = s.faults := rfl
@[simp] theorem State.putDom_beacon (s : State) (k : Nat) (b : Bytes) : (s.putDom k b).beacon = s.beacon := rfl
@[simp] theorem State.putDom_nv (s : State) (k : Nat) (b : Bytes) : (s.putDom k b).nv = s.nv := rfl
@[simp] theorem State.putDom_cal (s : State) (k : Nat) (b : Bytes) : (s.putDom k b).cal = s.cal := rfl
@[simp] theorem State.putDom_lift (s : State) (k : Nat) (b : Bytes) : (s.putDom k b).lift = s.lift := rfl
@[simp] theorem State.putDom_scene (s : State) (k : Nat) (b : Bytes) : (s.putDom k b).scene = s.scene := rfl
@[simp] theorem State.putDom_banks (s : State) (k : Nat) (b : Bytes) : (s.putDom k b).banks = s.banks := rfl
@[simp] theorem State.putDom_link (s : State) (k : Nat) (b : Bytes) : (s.putDom k b).link = s.link := rfl
@[simp] theorem State.putDom_care (s : State) (k : Nat) (b : Bytes) : (s.putDom k b).care = s.care := rfl
@[simp] theorem State.putDom_pair (s : State) (k : Nat) (b : Bytes) : (s.putDom k b).pair = s.pair := rfl
@[simp] theorem State.putDom_clock (s : State) (k : Nat) (b : Bytes) : (s.putDom k b).clock = s.clock := rfl
@[simp] theorem State.putDom_media (s : State) (k : Nat) (b : Bytes) : (s.putDom k b).media = s.media := rfl
@[simp] theorem State.putDom_memory (s : State) (k : Nat) (b : Bytes) : (s.putDom k b).memory = s.memory := rfl
@[simp] theorem State.putDom_net (s : State) (k : Nat) (b : Bytes) : (s.putDom k b).net = s.net := rfl

@[simp] theorem State.putDom_tx (s : State) (k : Nat) (b : Bytes) : (s.putDom k b).tx = s.tx := rfl

@[simp] theorem State.send_pending (s : State) (o : Out) : (s.send o).pending = s.pending := rfl
@[simp] theorem State.send_now (s : State) (o : Out) : (s.send o).now = s.now := rfl
@[simp] theorem State.send_free (s : State) (o : Out) : (s.send o).free = s.free := rfl
@[simp] theorem State.send_out (s : State) (o : Out) : (s.send o).out = s.out ++ [o] := rfl
@[simp] theorem State.send_regs (s : State) (o : Out) : (s.send o).regs = s.regs := rfl
@[simp] theorem State.send_doms (s : State) (o : Out) : (s.send o).doms = s.doms := rfl
@[simp] theorem State.send_pendR (s : State) (o : Out) : (s.send o).pendR = s.pendR := rfl
@[simp] theorem State.send_pendD (s : State) (o : Out) : (s.send o).pendD = s.pendD := rfl
@[simp] theorem State.send_burnR (s : State) (o : Out) : (s.send o).burnR = s.burnR := rfl
@[simp] theorem State.send_burnD (s : State) (o : Out) : (s.send o).burnD = s.burnD := rfl
@[simp] theorem State.send_stages (s : State) (o : Out) : (s.send o).stages = s.stages := rfl
@[simp] theorem State.send_ctl (s : State) (o : Out) : (s.send o).ctl = s.ctl := rfl
@[simp] theorem State.send_power (s : State) (o : Out) : (s.send o).power = s.power := rfl
@[simp] theorem State.send_faults (s : State) (o : Out) : (s.send o).faults = s.faults := rfl
@[simp] theorem State.send_beacon (s : State) (o : Out) : (s.send o).beacon = s.beacon := rfl
@[simp] theorem State.send_nv (s : State) (o : Out) : (s.send o).nv = s.nv := rfl
@[simp] theorem State.send_cal (s : State) (o : Out) : (s.send o).cal = s.cal := rfl
@[simp] theorem State.send_lift (s : State) (o : Out) : (s.send o).lift = s.lift := rfl
@[simp] theorem State.send_scene (s : State) (o : Out) : (s.send o).scene = s.scene := rfl
@[simp] theorem State.send_banks (s : State) (o : Out) : (s.send o).banks = s.banks := rfl
@[simp] theorem State.send_link (s : State) (o : Out) : (s.send o).link = s.link := rfl
@[simp] theorem State.send_care (s : State) (o : Out) : (s.send o).care = s.care := rfl
@[simp] theorem State.send_pair (s : State) (o : Out) : (s.send o).pair = s.pair := rfl
@[simp] theorem State.send_clock (s : State) (o : Out) : (s.send o).clock = s.clock := rfl
@[simp] theorem State.send_media (s : State) (o : Out) : (s.send o).media = s.media := rfl
@[simp] theorem State.send_memory (s : State) (o : Out) : (s.send o).memory = s.memory := rfl
@[simp] theorem State.send_net (s : State) (o : Out) : (s.send o).net = s.net := rfl

@[simp] theorem State.send_tx (s : State) (o : Out) : (s.send o).tx = s.tx := rfl

@[simp] theorem State.stage_pending (s : State) (n : Nat) (st : Stage) : (s.stage n st).pending = s.pending := rfl
@[simp] theorem State.stage_now (s : State) (n : Nat) (st : Stage) : (s.stage n st).now = s.now := rfl
@[simp] theorem State.stage_free (s : State) (n : Nat) (st : Stage) : (s.stage n st).free = s.free := rfl
@[simp] theorem State.stage_out (s : State) (n : Nat) (st : Stage) : (s.stage n st).out = s.out := rfl
@[simp] theorem State.stage_regs (s : State) (n : Nat) (st : Stage) : (s.stage n st).regs = s.regs := rfl
@[simp] theorem State.stage_doms (s : State) (n : Nat) (st : Stage) : (s.stage n st).doms = s.doms := rfl
@[simp] theorem State.stage_pendR (s : State) (n : Nat) (st : Stage) : (s.stage n st).pendR = s.pendR := rfl
@[simp] theorem State.stage_pendD (s : State) (n : Nat) (st : Stage) : (s.stage n st).pendD = s.pendD := rfl
@[simp] theorem State.stage_burnR (s : State) (n : Nat) (st : Stage) : (s.stage n st).burnR = s.burnR := rfl
@[simp] theorem State.stage_burnD (s : State) (n : Nat) (st : Stage) : (s.stage n st).burnD = s.burnD := rfl
@[simp] theorem State.stage_stages (s : State) (n : Nat) (st : Stage) : (s.stage n st).stages = setNth s.stages n st := rfl
@[simp] theorem State.stage_ctl (s : State) (n : Nat) (st : Stage) : (s.stage n st).ctl = s.ctl := rfl
@[simp] theorem State.stage_power (s : State) (n : Nat) (st : Stage) : (s.stage n st).power = s.power := rfl
@[simp] theorem State.stage_faults (s : State) (n : Nat) (st : Stage) : (s.stage n st).faults = s.faults := rfl
@[simp] theorem State.stage_beacon (s : State) (n : Nat) (st : Stage) : (s.stage n st).beacon = s.beacon := rfl
@[simp] theorem State.stage_nv (s : State) (n : Nat) (st : Stage) : (s.stage n st).nv = s.nv := rfl
@[simp] theorem State.stage_cal (s : State) (n : Nat) (st : Stage) : (s.stage n st).cal = s.cal := rfl
@[simp] theorem State.stage_lift (s : State) (n : Nat) (st : Stage) : (s.stage n st).lift = s.lift := rfl
@[simp] theorem State.stage_scene (s : State) (n : Nat) (st : Stage) : (s.stage n st).scene = s.scene := rfl
@[simp] theorem State.stage_banks (s : State) (n : Nat) (st : Stage) : (s.stage n st).banks = s.banks := rfl
@[simp] theorem State.stage_link (s : State) (n : Nat) (st : Stage) : (s.stage n st).link = s.link := rfl
@[simp] theorem State.stage_care (s : State) (n : Nat) (st : Stage) : (s.stage n st).care = s.care := rfl
@[simp] theorem State.stage_pair (s : State) (n : Nat) (st : Stage) : (s.stage n st).pair = s.pair := rfl
@[simp] theorem State.stage_clock (s : State) (n : Nat) (st : Stage) : (s.stage n st).clock = s.clock := rfl
@[simp] theorem State.stage_media (s : State) (n : Nat) (st : Stage) : (s.stage n st).media = s.media := rfl
@[simp] theorem State.stage_memory (s : State) (n : Nat) (st : Stage) : (s.stage n st).memory = s.memory := rfl
@[simp] theorem State.stage_net (s : State) (n : Nat) (st : Stage) : (s.stage n st).net = s.net := rfl

@[simp] theorem State.stage_tx (s : State) (n : Nat) (st : Stage) : (s.stage n st).tx = s.tx := rfl

/-! ### Objects by update -/

theorem State.get_put_self (s : State) (k v : Nat) : (s.put k v).get k = v % 2 ^ widthOf k := lookup_setKey_self _ _ _

theorem State.get_put_ne (s : State) {k j : Nat} (h : j ≠ k) (v : Nat) : (s.put k v).get j = s.get j := by
  simp only [State.get, State.put_regs, lookup_setKey_ne h]

theorem State.get_bump_self (s : State) (k n : Nat) : (s.bump k n).get k = (s.get k + n) % 2 ^ widthOf k := s.get_put_self k _

theorem State.get_bump_ne (s : State) {k j : Nat} (h : j ≠ k) (n : Nat) : (s.bump k n).get j = s.get j := s.get_put_ne h _

@[simp] theorem State.get_begin (s : State) (t k : Nat) : (s.begin t).get k = s.get k := rfl
@[simp] theorem State.get_send (s : State) (o : Out) (k : Nat) : (s.send o).get k = s.get k := rfl
@[simp] theorem State.get_stage (s : State) (n : Nat) (st : Stage) (k : Nat) : (s.stage n st).get k = s.get k := rfl
@[simp] theorem State.get_putDom (s : State) (j : Nat) (b : Bytes) (k : Nat) : (s.putDom j b).get k = s.get k := rfl
@[simp] theorem State.get_canon (s : State) (k : Nat) : s.canon.get k = s.get k := lookup_canonR k s.regs

@[simp] theorem State.dom_canon (s : State) (k : Nat) : s.canon.dom k = s.dom k := by simp [State.dom]
@[simp] theorem State.dom_put (s : State) (j v k : Nat) : (s.put j v).dom k = s.dom k := rfl
@[simp] theorem State.dom_begin (s : State) (t k : Nat) : (s.begin t).dom k = s.dom k := rfl
theorem State.dom_putDom_self (s : State) (k : Nat) (b : Bytes) : (s.putDom k b).dom k = b := by simp [State.dom]
theorem State.dom_putDom_ne (s : State) {k j : Nat} (h : j ≠ k) (b : Bytes) : (s.putDom k b).dom j = s.dom j := by
  simp [State.dom, lookup_insertKey_ne h]

/-- A read of an object depends on the scalar store alone. -/
theorem State.get_congr {s s' : State} (h : s'.regs = s.regs) (k : Nat) : s'.get k = s.get k := by simp [State.get, h]

/-- A read of a content depends on the store of contents alone. -/
theorem State.dom_congr {s s' : State} (h : s'.doms = s.doms) (k : Nat) : s'.dom k = s.dom k := by simp [State.dom, h]

/-! ### How every command ends -/

@[simp] theorem State.eventFrame_pending (s : State) (b : Bytes) : (s.eventFrame b).pending = s.pending := by
  unfold State.eventFrame State.toEventDest
  split_ifs <;> rfl
@[simp] theorem State.eventFrame_now (s : State) (b : Bytes) : (s.eventFrame b).now = s.now := by
  unfold State.eventFrame State.toEventDest
  split_ifs <;> rfl
@[simp] theorem State.eventFrame_free (s : State) (b : Bytes) : (s.eventFrame b).free = s.free := by
  unfold State.eventFrame State.toEventDest
  split_ifs <;> rfl
@[simp] theorem State.eventFrame_doms (s : State) (b : Bytes) : (s.eventFrame b).doms = s.doms := by
  unfold State.eventFrame State.toEventDest
  split_ifs <;> rfl
@[simp] theorem State.eventFrame_pendR (s : State) (b : Bytes) : (s.eventFrame b).pendR = s.pendR := by
  unfold State.eventFrame State.toEventDest
  split_ifs <;> rfl
@[simp] theorem State.eventFrame_pendD (s : State) (b : Bytes) : (s.eventFrame b).pendD = s.pendD := by
  unfold State.eventFrame State.toEventDest
  split_ifs <;> rfl
@[simp] theorem State.eventFrame_burnR (s : State) (b : Bytes) : (s.eventFrame b).burnR = s.burnR := by
  unfold State.eventFrame State.toEventDest
  split_ifs <;> rfl
@[simp] theorem State.eventFrame_burnD (s : State) (b : Bytes) : (s.eventFrame b).burnD = s.burnD := by
  unfold State.eventFrame State.toEventDest
  split_ifs <;> rfl
@[simp] theorem State.eventFrame_stages (s : State) (b : Bytes) : (s.eventFrame b).stages = s.stages := by
  unfold State.eventFrame State.toEventDest
  split_ifs <;> rfl
@[simp] theorem State.eventFrame_power (s : State) (b : Bytes) : (s.eventFrame b).power = s.power := by
  unfold State.eventFrame State.toEventDest
  split_ifs <;> rfl
@[simp] theorem State.eventFrame_faults (s : State) (b : Bytes) : (s.eventFrame b).faults = s.faults := by
  unfold State.eventFrame State.toEventDest
  split_ifs <;> rfl
@[simp] theorem State.eventFrame_beacon (s : State) (b : Bytes) : (s.eventFrame b).beacon = s.beacon := by
  unfold State.eventFrame State.toEventDest
  split_ifs <;> rfl
@[simp] theorem State.eventFrame_nv (s : State) (b : Bytes) : (s.eventFrame b).nv = s.nv := by
  unfold State.eventFrame State.toEventDest
  split_ifs <;> rfl
@[simp] theorem State.eventFrame_cal (s : State) (b : Bytes) : (s.eventFrame b).cal = s.cal := by
  unfold State.eventFrame State.toEventDest
  split_ifs <;> rfl
@[simp] theorem State.eventFrame_lift (s : State) (b : Bytes) : (s.eventFrame b).lift = s.lift := by
  unfold State.eventFrame State.toEventDest
  split_ifs <;> rfl
@[simp] theorem State.eventFrame_scene (s : State) (b : Bytes) : (s.eventFrame b).scene = s.scene := by
  unfold State.eventFrame State.toEventDest
  split_ifs <;> rfl
@[simp] theorem State.eventFrame_banks (s : State) (b : Bytes) : (s.eventFrame b).banks = s.banks := by
  unfold State.eventFrame State.toEventDest
  split_ifs <;> rfl
@[simp] theorem State.eventFrame_link (s : State) (b : Bytes) : (s.eventFrame b).link = s.link := by
  unfold State.eventFrame State.toEventDest
  split_ifs <;> rfl
@[simp] theorem State.eventFrame_care (s : State) (b : Bytes) : (s.eventFrame b).care = s.care := by
  unfold State.eventFrame State.toEventDest
  split_ifs <;> rfl
@[simp] theorem State.eventFrame_pair (s : State) (b : Bytes) : (s.eventFrame b).pair = s.pair := by
  unfold State.eventFrame State.toEventDest
  split_ifs <;> rfl
@[simp] theorem State.eventFrame_clock (s : State) (b : Bytes) : (s.eventFrame b).clock = s.clock := by
  unfold State.eventFrame State.toEventDest
  split_ifs <;> rfl
@[simp] theorem State.eventFrame_media (s : State) (b : Bytes) : (s.eventFrame b).media = s.media := by
  unfold State.eventFrame State.toEventDest
  split_ifs <;> rfl
@[simp] theorem State.eventFrame_memory (s : State) (b : Bytes) : (s.eventFrame b).memory = s.memory := by
  unfold State.eventFrame State.toEventDest
  split_ifs <;> rfl
@[simp] theorem State.eventFrame_net (s : State) (b : Bytes) : (s.eventFrame b).net = s.net := by
  unfold State.eventFrame State.toEventDest
  split_ifs <;> rfl
@[simp] theorem State.eventFrame_tx (s : State) (b : Bytes) : (s.eventFrame b).tx = s.tx := by
  unfold State.eventFrame State.toEventDest
  split_ifs <;> rfl
@[simp] theorem State.event_pending (s : State) (n : Nat) : (s.event n).pending = s.pending := by simp [State.event]
@[simp] theorem State.event_now (s : State) (n : Nat) : (s.event n).now = s.now := by simp [State.event]
@[simp] theorem State.event_free (s : State) (n : Nat) : (s.event n).free = s.free := by simp [State.event]
@[simp] theorem State.event_doms (s : State) (n : Nat) : (s.event n).doms = s.doms := by simp [State.event]
@[simp] theorem State.event_pendR (s : State) (n : Nat) : (s.event n).pendR = s.pendR := by simp [State.event]
@[simp] theorem State.event_pendD (s : State) (n : Nat) : (s.event n).pendD = s.pendD := by simp [State.event]
@[simp] theorem State.event_burnR (s : State) (n : Nat) : (s.event n).burnR = s.burnR := by simp [State.event]
@[simp] theorem State.event_burnD (s : State) (n : Nat) : (s.event n).burnD = s.burnD := by simp [State.event]
@[simp] theorem State.event_stages (s : State) (n : Nat) : (s.event n).stages = s.stages := by simp [State.event]
@[simp] theorem State.event_power (s : State) (n : Nat) : (s.event n).power = s.power := by simp [State.event]
@[simp] theorem State.event_faults (s : State) (n : Nat) : (s.event n).faults = s.faults := by simp [State.event]
@[simp] theorem State.event_beacon (s : State) (n : Nat) : (s.event n).beacon = s.beacon := by simp [State.event]
@[simp] theorem State.event_nv (s : State) (n : Nat) : (s.event n).nv = s.nv := by simp [State.event]
@[simp] theorem State.event_cal (s : State) (n : Nat) : (s.event n).cal = s.cal := by simp [State.event]
@[simp] theorem State.event_lift (s : State) (n : Nat) : (s.event n).lift = s.lift := by simp [State.event]
@[simp] theorem State.event_scene (s : State) (n : Nat) : (s.event n).scene = s.scene := by simp [State.event]
@[simp] theorem State.event_banks (s : State) (n : Nat) : (s.event n).banks = s.banks := by simp [State.event]
@[simp] theorem State.event_link (s : State) (n : Nat) : (s.event n).link = s.link := by simp [State.event]
@[simp] theorem State.event_care (s : State) (n : Nat) : (s.event n).care = s.care := by simp [State.event]
@[simp] theorem State.event_pair (s : State) (n : Nat) : (s.event n).pair = s.pair := by simp [State.event]
@[simp] theorem State.event_clock (s : State) (n : Nat) : (s.event n).clock = s.clock := by simp [State.event]
@[simp] theorem State.event_media (s : State) (n : Nat) : (s.event n).media = s.media := by simp [State.event]
@[simp] theorem State.event_memory (s : State) (n : Nat) : (s.event n).memory = s.memory := by simp [State.event]
@[simp] theorem State.event_net (s : State) (n : Nat) : (s.event n).net = s.net := by simp [State.event]

@[simp] theorem State.event_tx (s : State) (n : Nat) : (s.event n).tx = s.tx := by simp [State.event]

/-- An event frame touches no object but the event sequence. -/
theorem State.get_eventFrame (s : State) (b : Bytes) {k : Nat} (h : k ≠ 0x204005) : (s.eventFrame b).get k = s.get k := by
  unfold State.eventFrame State.toEventDest
  split_ifs <;> first | rfl | exact s.get_put_ne h _

theorem State.get_event (s : State) (n : Nat) {k : Nat} (h : k ≠ 0x204005) : (s.event n).get k = s.get k := by
  unfold State.event
  rw [State.get_eventFrame _ _ h, State.get_put_ne _ h]


@[simp] theorem State.note_pending (s : State) : s.note.pending = s.pending := by unfold State.note; rfl
@[simp] theorem State.note_now (s : State) : s.note.now = s.now := by unfold State.note; rfl
@[simp] theorem State.note_free (s : State) : s.note.free = s.free := by unfold State.note; rfl
@[simp] theorem State.note_doms (s : State) : s.note.doms = s.doms := by unfold State.note; rfl
@[simp] theorem State.note_pendR (s : State) : s.note.pendR = s.pendR := by unfold State.note; rfl
@[simp] theorem State.note_pendD (s : State) : s.note.pendD = s.pendD := by unfold State.note; rfl
@[simp] theorem State.note_burnR (s : State) : s.note.burnR = s.burnR := by unfold State.note; rfl
@[simp] theorem State.note_burnD (s : State) : s.note.burnD = s.burnD := by unfold State.note; rfl
@[simp] theorem State.note_stages (s : State) : s.note.stages = s.stages := by unfold State.note; rfl
@[simp] theorem State.note_power (s : State) : s.note.power = s.power := by unfold State.note; rfl
@[simp] theorem State.note_faults (s : State) : s.note.faults = s.faults := by unfold State.note; rfl
@[simp] theorem State.note_beacon (s : State) : s.note.beacon = s.beacon := by unfold State.note; rfl
@[simp] theorem State.note_nv (s : State) : s.note.nv = s.nv := by unfold State.note; rfl
@[simp] theorem State.note_cal (s : State) : s.note.cal = s.cal := by unfold State.note; rfl
@[simp] theorem State.note_lift (s : State) : s.note.lift = s.lift := by unfold State.note; rfl
@[simp] theorem State.note_scene (s : State) : s.note.scene = s.scene := by unfold State.note; rfl
@[simp] theorem State.note_banks (s : State) : s.note.banks = s.banks := by unfold State.note; rfl
@[simp] theorem State.note_link (s : State) : s.note.link = s.link := by unfold State.note; rfl
@[simp] theorem State.note_care (s : State) : s.note.care = s.care := by unfold State.note; rfl
@[simp] theorem State.note_pair (s : State) : s.note.pair = s.pair := by unfold State.note; rfl
@[simp] theorem State.note_clock (s : State) : s.note.clock = s.clock := by unfold State.note; rfl
@[simp] theorem State.note_media (s : State) : s.note.media = s.media := by unfold State.note; rfl
@[simp] theorem State.note_memory (s : State) : s.note.memory = s.memory := by unfold State.note; rfl
@[simp] theorem State.note_net (s : State) : s.note.net = s.net := by unfold State.note; rfl
@[simp] theorem State.note_tx (s : State) : s.note.tx = s.tx := by unfold State.note; rfl
@[simp] theorem State.note_regs (s : State) : s.note.regs = s.regs := by unfold State.note; rfl
@[simp] theorem State.eventIf_pending (s : State) (b : Bool) (n : Nat) : (s.eventIf b n).pending = s.pending := by cases b <;> simp [State.eventIf]
@[simp] theorem State.eventIf_now (s : State) (b : Bool) (n : Nat) : (s.eventIf b n).now = s.now := by cases b <;> simp [State.eventIf]
@[simp] theorem State.eventIf_free (s : State) (b : Bool) (n : Nat) : (s.eventIf b n).free = s.free := by cases b <;> simp [State.eventIf]
@[simp] theorem State.eventIf_doms (s : State) (b : Bool) (n : Nat) : (s.eventIf b n).doms = s.doms := by cases b <;> simp [State.eventIf]
@[simp] theorem State.eventIf_pendR (s : State) (b : Bool) (n : Nat) : (s.eventIf b n).pendR = s.pendR := by cases b <;> simp [State.eventIf]
@[simp] theorem State.eventIf_pendD (s : State) (b : Bool) (n : Nat) : (s.eventIf b n).pendD = s.pendD := by cases b <;> simp [State.eventIf]
@[simp] theorem State.eventIf_burnR (s : State) (b : Bool) (n : Nat) : (s.eventIf b n).burnR = s.burnR := by cases b <;> simp [State.eventIf]
@[simp] theorem State.eventIf_burnD (s : State) (b : Bool) (n : Nat) : (s.eventIf b n).burnD = s.burnD := by cases b <;> simp [State.eventIf]
@[simp] theorem State.eventIf_stages (s : State) (b : Bool) (n : Nat) : (s.eventIf b n).stages = s.stages := by cases b <;> simp [State.eventIf]
@[simp] theorem State.eventIf_power (s : State) (b : Bool) (n : Nat) : (s.eventIf b n).power = s.power := by cases b <;> simp [State.eventIf]
@[simp] theorem State.eventIf_faults (s : State) (b : Bool) (n : Nat) : (s.eventIf b n).faults = s.faults := by cases b <;> simp [State.eventIf]
@[simp] theorem State.eventIf_beacon (s : State) (b : Bool) (n : Nat) : (s.eventIf b n).beacon = s.beacon := by cases b <;> simp [State.eventIf]
@[simp] theorem State.eventIf_nv (s : State) (b : Bool) (n : Nat) : (s.eventIf b n).nv = s.nv := by cases b <;> simp [State.eventIf]
@[simp] theorem State.eventIf_cal (s : State) (b : Bool) (n : Nat) : (s.eventIf b n).cal = s.cal := by cases b <;> simp [State.eventIf]
@[simp] theorem State.eventIf_lift (s : State) (b : Bool) (n : Nat) : (s.eventIf b n).lift = s.lift := by cases b <;> simp [State.eventIf]
@[simp] theorem State.eventIf_scene (s : State) (b : Bool) (n : Nat) : (s.eventIf b n).scene = s.scene := by cases b <;> simp [State.eventIf]
@[simp] theorem State.eventIf_banks (s : State) (b : Bool) (n : Nat) : (s.eventIf b n).banks = s.banks := by cases b <;> simp [State.eventIf]
@[simp] theorem State.eventIf_link (s : State) (b : Bool) (n : Nat) : (s.eventIf b n).link = s.link := by cases b <;> simp [State.eventIf]
@[simp] theorem State.eventIf_care (s : State) (b : Bool) (n : Nat) : (s.eventIf b n).care = s.care := by cases b <;> simp [State.eventIf]
@[simp] theorem State.eventIf_pair (s : State) (b : Bool) (n : Nat) : (s.eventIf b n).pair = s.pair := by cases b <;> simp [State.eventIf]
@[simp] theorem State.eventIf_clock (s : State) (b : Bool) (n : Nat) : (s.eventIf b n).clock = s.clock := by cases b <;> simp [State.eventIf]
@[simp] theorem State.eventIf_media (s : State) (b : Bool) (n : Nat) : (s.eventIf b n).media = s.media := by cases b <;> simp [State.eventIf]
@[simp] theorem State.eventIf_memory (s : State) (b : Bool) (n : Nat) : (s.eventIf b n).memory = s.memory := by cases b <;> simp [State.eventIf]
@[simp] theorem State.eventIf_net (s : State) (b : Bool) (n : Nat) : (s.eventIf b n).net = s.net := by cases b <;> simp [State.eventIf]
@[simp] theorem State.eventIf_tx (s : State) (b : Bool) (n : Nat) : (s.eventIf b n).tx = s.tx := by cases b <;> simp [State.eventIf]
@[simp] theorem State.latchReady_pending (s : State) (r : Nat) : (s.latchReady r).pending = s.pending := by
  unfold State.latchReady; split_ifs <;> rfl
@[simp] theorem State.latchReady_now (s : State) (r : Nat) : (s.latchReady r).now = s.now := by
  unfold State.latchReady; split_ifs <;> rfl
@[simp] theorem State.latchReady_free (s : State) (r : Nat) : (s.latchReady r).free = s.free := by
  unfold State.latchReady; split_ifs <;> rfl
@[simp] theorem State.latchReady_doms (s : State) (r : Nat) : (s.latchReady r).doms = s.doms := by
  unfold State.latchReady; split_ifs <;> rfl
@[simp] theorem State.latchReady_pendR (s : State) (r : Nat) : (s.latchReady r).pendR = s.pendR := by
  unfold State.latchReady; split_ifs <;> rfl
@[simp] theorem State.latchReady_pendD (s : State) (r : Nat) : (s.latchReady r).pendD = s.pendD := by
  unfold State.latchReady; split_ifs <;> rfl
@[simp] theorem State.latchReady_burnR (s : State) (r : Nat) : (s.latchReady r).burnR = s.burnR := by
  unfold State.latchReady; split_ifs <;> rfl
@[simp] theorem State.latchReady_burnD (s : State) (r : Nat) : (s.latchReady r).burnD = s.burnD := by
  unfold State.latchReady; split_ifs <;> rfl
@[simp] theorem State.latchReady_stages (s : State) (r : Nat) : (s.latchReady r).stages = s.stages := by
  unfold State.latchReady; split_ifs <;> rfl
@[simp] theorem State.latchReady_power (s : State) (r : Nat) : (s.latchReady r).power = s.power := by
  unfold State.latchReady; split_ifs <;> rfl
@[simp] theorem State.latchReady_faults (s : State) (r : Nat) : (s.latchReady r).faults = s.faults := by
  unfold State.latchReady; split_ifs <;> rfl
@[simp] theorem State.latchReady_beacon (s : State) (r : Nat) : (s.latchReady r).beacon = s.beacon := by
  unfold State.latchReady; split_ifs <;> rfl
@[simp] theorem State.latchReady_nv (s : State) (r : Nat) : (s.latchReady r).nv = s.nv := by
  unfold State.latchReady; split_ifs <;> rfl
@[simp] theorem State.latchReady_cal (s : State) (r : Nat) : (s.latchReady r).cal = s.cal := by
  unfold State.latchReady; split_ifs <;> rfl
@[simp] theorem State.latchReady_lift (s : State) (r : Nat) : (s.latchReady r).lift = s.lift := by
  unfold State.latchReady; split_ifs <;> rfl
@[simp] theorem State.latchReady_scene (s : State) (r : Nat) : (s.latchReady r).scene = s.scene := by
  unfold State.latchReady; split_ifs <;> rfl
@[simp] theorem State.latchReady_banks (s : State) (r : Nat) : (s.latchReady r).banks = s.banks := by
  unfold State.latchReady; split_ifs <;> rfl
@[simp] theorem State.latchReady_link (s : State) (r : Nat) : (s.latchReady r).link = s.link := by
  unfold State.latchReady; split_ifs <;> rfl
@[simp] theorem State.latchReady_care (s : State) (r : Nat) : (s.latchReady r).care = s.care := by
  unfold State.latchReady; split_ifs <;> rfl
@[simp] theorem State.latchReady_pair (s : State) (r : Nat) : (s.latchReady r).pair = s.pair := by
  unfold State.latchReady; split_ifs <;> rfl
@[simp] theorem State.latchReady_clock (s : State) (r : Nat) : (s.latchReady r).clock = s.clock := by
  unfold State.latchReady; split_ifs <;> rfl
@[simp] theorem State.latchReady_media (s : State) (r : Nat) : (s.latchReady r).media = s.media := by
  unfold State.latchReady; split_ifs <;> rfl
@[simp] theorem State.latchReady_memory (s : State) (r : Nat) : (s.latchReady r).memory = s.memory := by
  unfold State.latchReady; split_ifs <;> rfl
@[simp] theorem State.latchReady_net (s : State) (r : Nat) : (s.latchReady r).net = s.net := by
  unfold State.latchReady; split_ifs <;> rfl
@[simp] theorem State.latchReady_tx (s : State) (r : Nat) : (s.latchReady r).tx = s.tx := by
  unfold State.latchReady; split_ifs <;> rfl
@[simp] theorem State.evtPin_pending (s : State) (n : Nat) : (s.evtPin n).pending = s.pending := by
  unfold State.evtPin; split_ifs <;> rfl
@[simp] theorem State.evtPin_now (s : State) (n : Nat) : (s.evtPin n).now = s.now := by
  unfold State.evtPin; split_ifs <;> rfl
@[simp] theorem State.evtPin_free (s : State) (n : Nat) : (s.evtPin n).free = s.free := by
  unfold State.evtPin; split_ifs <;> rfl
@[simp] theorem State.evtPin_doms (s : State) (n : Nat) : (s.evtPin n).doms = s.doms := by
  unfold State.evtPin; split_ifs <;> rfl
@[simp] theorem State.evtPin_pendR (s : State) (n : Nat) : (s.evtPin n).pendR = s.pendR := by
  unfold State.evtPin; split_ifs <;> rfl
@[simp] theorem State.evtPin_pendD (s : State) (n : Nat) : (s.evtPin n).pendD = s.pendD := by
  unfold State.evtPin; split_ifs <;> rfl
@[simp] theorem State.evtPin_burnR (s : State) (n : Nat) : (s.evtPin n).burnR = s.burnR := by
  unfold State.evtPin; split_ifs <;> rfl
@[simp] theorem State.evtPin_burnD (s : State) (n : Nat) : (s.evtPin n).burnD = s.burnD := by
  unfold State.evtPin; split_ifs <;> rfl
@[simp] theorem State.evtPin_stages (s : State) (n : Nat) : (s.evtPin n).stages = s.stages := by
  unfold State.evtPin; split_ifs <;> rfl
@[simp] theorem State.evtPin_power (s : State) (n : Nat) : (s.evtPin n).power = s.power := by
  unfold State.evtPin; split_ifs <;> rfl
@[simp] theorem State.evtPin_faults (s : State) (n : Nat) : (s.evtPin n).faults = s.faults := by
  unfold State.evtPin; split_ifs <;> rfl
@[simp] theorem State.evtPin_beacon (s : State) (n : Nat) : (s.evtPin n).beacon = s.beacon := by
  unfold State.evtPin; split_ifs <;> rfl
@[simp] theorem State.evtPin_nv (s : State) (n : Nat) : (s.evtPin n).nv = s.nv := by
  unfold State.evtPin; split_ifs <;> rfl
@[simp] theorem State.evtPin_cal (s : State) (n : Nat) : (s.evtPin n).cal = s.cal := by
  unfold State.evtPin; split_ifs <;> rfl
@[simp] theorem State.evtPin_lift (s : State) (n : Nat) : (s.evtPin n).lift = s.lift := by
  unfold State.evtPin; split_ifs <;> rfl
@[simp] theorem State.evtPin_scene (s : State) (n : Nat) : (s.evtPin n).scene = s.scene := by
  unfold State.evtPin; split_ifs <;> rfl
@[simp] theorem State.evtPin_banks (s : State) (n : Nat) : (s.evtPin n).banks = s.banks := by
  unfold State.evtPin; split_ifs <;> rfl
@[simp] theorem State.evtPin_link (s : State) (n : Nat) : (s.evtPin n).link = s.link := by
  unfold State.evtPin; split_ifs <;> rfl
@[simp] theorem State.evtPin_care (s : State) (n : Nat) : (s.evtPin n).care = s.care := by
  unfold State.evtPin; split_ifs <;> rfl
@[simp] theorem State.evtPin_pair (s : State) (n : Nat) : (s.evtPin n).pair = s.pair := by
  unfold State.evtPin; split_ifs <;> rfl
@[simp] theorem State.evtPin_clock (s : State) (n : Nat) : (s.evtPin n).clock = s.clock := by
  unfold State.evtPin; split_ifs <;> rfl
@[simp] theorem State.evtPin_media (s : State) (n : Nat) : (s.evtPin n).media = s.media := by
  unfold State.evtPin; split_ifs <;> rfl
@[simp] theorem State.evtPin_memory (s : State) (n : Nat) : (s.evtPin n).memory = s.memory := by
  unfold State.evtPin; split_ifs <;> rfl
@[simp] theorem State.evtPin_net (s : State) (n : Nat) : (s.evtPin n).net = s.net := by
  unfold State.evtPin; split_ifs <;> rfl
@[simp] theorem State.evtPin_tx (s : State) (n : Nat) : (s.evtPin n).tx = s.tx := by
  unfold State.evtPin; split_ifs <;> rfl
@[simp] theorem State.evtPin_regs (s : State) (n : Nat) : (s.evtPin n).regs = s.regs := by
  unfold State.evtPin; split_ifs <;> rfl
@[simp] theorem State.tell_pending (s : State) : s.tell.pending = s.pending := by
  unfold State.tell; split <;> simp
@[simp] theorem State.tell_now (s : State) : s.tell.now = s.now := by
  unfold State.tell; split <;> simp
@[simp] theorem State.tell_free (s : State) : s.tell.free = s.free := by
  unfold State.tell; split <;> simp
@[simp] theorem State.tell_doms (s : State) : s.tell.doms = s.doms := by
  unfold State.tell; split <;> simp
@[simp] theorem State.tell_pendR (s : State) : s.tell.pendR = s.pendR := by
  unfold State.tell; split <;> simp
@[simp] theorem State.tell_pendD (s : State) : s.tell.pendD = s.pendD := by
  unfold State.tell; split <;> simp
@[simp] theorem State.tell_burnR (s : State) : s.tell.burnR = s.burnR := by
  unfold State.tell; split <;> simp
@[simp] theorem State.tell_burnD (s : State) : s.tell.burnD = s.burnD := by
  unfold State.tell; split <;> simp
@[simp] theorem State.tell_stages (s : State) : s.tell.stages = s.stages := by
  unfold State.tell; split <;> simp
@[simp] theorem State.tell_power (s : State) : s.tell.power = s.power := by
  unfold State.tell; split <;> simp
@[simp] theorem State.tell_faults (s : State) : s.tell.faults = s.faults := by
  unfold State.tell; split <;> simp
@[simp] theorem State.tell_beacon (s : State) : s.tell.beacon = s.beacon := by
  unfold State.tell; split <;> simp
@[simp] theorem State.tell_nv (s : State) : s.tell.nv = s.nv := by
  unfold State.tell; split <;> simp
@[simp] theorem State.tell_cal (s : State) : s.tell.cal = s.cal := by
  unfold State.tell; split <;> simp
@[simp] theorem State.tell_lift (s : State) : s.tell.lift = s.lift := by
  unfold State.tell; split <;> simp
@[simp] theorem State.tell_scene (s : State) : s.tell.scene = s.scene := by
  unfold State.tell; split <;> simp
@[simp] theorem State.tell_banks (s : State) : s.tell.banks = s.banks := by
  unfold State.tell; split <;> simp
@[simp] theorem State.tell_link (s : State) : s.tell.link = s.link := by
  unfold State.tell; split <;> simp
@[simp] theorem State.tell_care (s : State) : s.tell.care = s.care := by
  unfold State.tell; split <;> simp
@[simp] theorem State.tell_pair (s : State) : s.tell.pair = s.pair := by
  unfold State.tell; split <;> simp
@[simp] theorem State.tell_clock (s : State) : s.tell.clock = s.clock := by
  unfold State.tell; split <;> simp
@[simp] theorem State.tell_media (s : State) : s.tell.media = s.media := by
  unfold State.tell; split <;> simp
@[simp] theorem State.tell_memory (s : State) : s.tell.memory = s.memory := by
  unfold State.tell; split <;> simp
@[simp] theorem State.tell_net (s : State) : s.tell.net = s.net := by
  unfold State.tell; split <;> simp

@[simp] theorem State.tell_tx (s : State) : s.tell.tx = s.tx := by
  unfold State.tell; split <;> simp

theorem State.get_eventIf (s : State) (b : Bool) (n : Nat) {k : Nat} (h : k ≠ 0x204005) : (s.eventIf b n).get k = s.get k := by
  cases b
  · rfl
  · exact s.get_event n h

theorem State.get_latchReady (s : State) (r : Nat) {k : Nat} (h : k ≠ 0x201005) : (s.latchReady r).get k = s.get k := by
  unfold State.latchReady
  split
  · exact s.get_put_ne h _
  · rfl

/-- Telling of changes touches no object but the event sequence and the start-up time. -/
theorem State.get_tell (s : State) {k : Nat} (h : k ≠ 0x204005) (h' : k ≠ 0x201005) : s.tell.get k = s.get k := by
  have n : s.note.get k = s.get k := State.get_congr s.note_regs k
  unfold State.tell
  simp only [State.get_congr (State.evtPin_regs _ _)]
  split
  · exact n
  · rw [State.get_latchReady _ _ h', State.get_eventIf _ _ _ h, State.get_eventIf _ _ _ h, n]

@[simp] theorem State.dom_tell (s : State) (k : Nat) : s.tell.dom k = s.dom k := State.dom_congr s.tell_doms k

/-! ### Transmission changes the MACs' queues alone (R361) -/

@[simp] theorem State.transmit_pending (s : State) : s.transmit.pending = s.pending := rfl
@[simp] theorem State.transmit_now (s : State) : s.transmit.now = s.now := rfl
@[simp] theorem State.transmit_free (s : State) : s.transmit.free = s.free := rfl
@[simp] theorem State.transmit_out (s : State) : s.transmit.out = s.out := rfl
@[simp] theorem State.transmit_regs (s : State) : s.transmit.regs = s.regs := rfl
@[simp] theorem State.transmit_doms (s : State) : s.transmit.doms = s.doms := rfl
@[simp] theorem State.transmit_pendR (s : State) : s.transmit.pendR = s.pendR := rfl
@[simp] theorem State.transmit_pendD (s : State) : s.transmit.pendD = s.pendD := rfl
@[simp] theorem State.transmit_burnR (s : State) : s.transmit.burnR = s.burnR := rfl
@[simp] theorem State.transmit_burnD (s : State) : s.transmit.burnD = s.burnD := rfl
@[simp] theorem State.transmit_stages (s : State) : s.transmit.stages = s.stages := rfl
@[simp] theorem State.transmit_ctl (s : State) : s.transmit.ctl = s.ctl := rfl
@[simp] theorem State.transmit_power (s : State) : s.transmit.power = s.power := rfl
@[simp] theorem State.transmit_faults (s : State) : s.transmit.faults = s.faults := rfl
@[simp] theorem State.transmit_beacon (s : State) : s.transmit.beacon = s.beacon := rfl
@[simp] theorem State.transmit_nv (s : State) : s.transmit.nv = s.nv := rfl
@[simp] theorem State.transmit_cal (s : State) : s.transmit.cal = s.cal := rfl
@[simp] theorem State.transmit_lift (s : State) : s.transmit.lift = s.lift := rfl
@[simp] theorem State.transmit_scene (s : State) : s.transmit.scene = s.scene := rfl
@[simp] theorem State.transmit_banks (s : State) : s.transmit.banks = s.banks := rfl
@[simp] theorem State.transmit_link (s : State) : s.transmit.link = s.link := rfl
@[simp] theorem State.transmit_care (s : State) : s.transmit.care = s.care := rfl
@[simp] theorem State.transmit_pair (s : State) : s.transmit.pair = s.pair := rfl
@[simp] theorem State.transmit_clock (s : State) : s.transmit.clock = s.clock := rfl
@[simp] theorem State.transmit_media (s : State) : s.transmit.media = s.media := rfl
@[simp] theorem State.transmit_memory (s : State) : s.transmit.memory = s.memory := rfl
@[simp] theorem State.transmit_net (s : State) : s.transmit.net = s.net := rfl
@[simp] theorem State.get_transmit (s : State) (k : Nat) : s.transmit.get k = s.get k := rfl
@[simp] theorem State.dom_transmit (s : State) (k : Nat) : s.transmit.dom k = s.dom k := rfl

/-- What a command leaves: its own effect, the events of it, the stores canonical, the queue as it was. -/
def State.finish (s : State) (t : Nat) (f : State → State) : State := { (f (s.begin t)).tell.transmit.canon with pending := s.pending }

theorem act_eq (t : Nat) (s : State) (f : State → State) : act t s f = .next (s.finish t f) := rfl

theorem actIf_true {ok : Bool} (h : ok = true) (t : Nat) (s : State) (f : State → State) : actIf ok t s f = .next (s.finish t f) := by
  simp [actIf, h, act_eq]

theorem actIf_false {ok : Bool} (h : ok = false) (t : Nat) (s : State) (f : State → State) : actIf ok t s f = .fault .operandOutOfRange := by
  simp [actIf, h]

@[simp] theorem State.finish_pending (s : State) (t : Nat) (f : State → State) : (s.finish t f).pending = s.pending := rfl

@[simp] theorem State.finish_now (s : State) (t : Nat) (f : State → State) : (s.finish t f).now = (f (s.begin t)).now := by simp [State.finish]
@[simp] theorem State.finish_free (s : State) (t : Nat) (f : State → State) : (s.finish t f).free = (f (s.begin t)).free := by simp [State.finish]
@[simp] theorem State.finish_stages (s : State) (t : Nat) (f : State → State) : (s.finish t f).stages = (f (s.begin t)).stages := by simp [State.finish]
@[simp] theorem State.finish_power (s : State) (t : Nat) (f : State → State) : (s.finish t f).power = (f (s.begin t)).power := by simp [State.finish]
@[simp] theorem State.finish_faults (s : State) (t : Nat) (f : State → State) : (s.finish t f).faults = (f (s.begin t)).faults := by simp [State.finish]
@[simp] theorem State.finish_beacon (s : State) (t : Nat) (f : State → State) : (s.finish t f).beacon = (f (s.begin t)).beacon := by simp [State.finish]
@[simp] theorem State.finish_nv (s : State) (t : Nat) (f : State → State) : (s.finish t f).nv = (f (s.begin t)).nv := by simp [State.finish]
@[simp] theorem State.finish_cal (s : State) (t : Nat) (f : State → State) : (s.finish t f).cal = (f (s.begin t)).cal := by simp [State.finish]
@[simp] theorem State.finish_lift (s : State) (t : Nat) (f : State → State) : (s.finish t f).lift = (f (s.begin t)).lift := by simp [State.finish]
@[simp] theorem State.finish_scene (s : State) (t : Nat) (f : State → State) : (s.finish t f).scene = (f (s.begin t)).scene := by simp [State.finish]
@[simp] theorem State.finish_banks (s : State) (t : Nat) (f : State → State) : (s.finish t f).banks = (f (s.begin t)).banks := by simp [State.finish]
@[simp] theorem State.finish_link (s : State) (t : Nat) (f : State → State) : (s.finish t f).link = (f (s.begin t)).link := by simp [State.finish]
@[simp] theorem State.finish_care (s : State) (t : Nat) (f : State → State) : (s.finish t f).care = (f (s.begin t)).care := by simp [State.finish]
@[simp] theorem State.finish_pair (s : State) (t : Nat) (f : State → State) : (s.finish t f).pair = (f (s.begin t)).pair := by simp [State.finish]
@[simp] theorem State.finish_clock (s : State) (t : Nat) (f : State → State) : (s.finish t f).clock = (f (s.begin t)).clock := by simp [State.finish]
@[simp] theorem State.finish_media (s : State) (t : Nat) (f : State → State) : (s.finish t f).media = (f (s.begin t)).media := by simp [State.finish]
@[simp] theorem State.finish_memory (s : State) (t : Nat) (f : State → State) : (s.finish t f).memory = (f (s.begin t)).memory := by simp [State.finish]
@[simp] theorem State.finish_net (s : State) (t : Nat) (f : State → State) : (s.finish t f).net = (f (s.begin t)).net := by simp [State.finish]

theorem State.get_finish (s : State) (t : Nat) (f : State → State) {k : Nat} (h : k ≠ 0x204005) (h' : k ≠ 0x201005) :
    (s.finish t f).get k = (f (s.begin t)).get k := by
  have e : (s.finish t f).get k = (f (s.begin t)).tell.transmit.canon.get k := rfl
  rw [e, State.get_canon, State.get_transmit, State.get_tell _ h h']

theorem State.dom_finish (s : State) (t : Nat) (f : State → State) (k : Nat) : (s.finish t f).dom k = (f (s.begin t)).dom k := by
  have e : (s.finish t f).dom k = (f (s.begin t)).tell.transmit.canon.dom k := rfl
  rw [e, State.dom_canon, State.dom_transmit, State.dom_tell]

theorem State.finish_wf (s : State) (t : Nat) (f : State → State) : (s.finish t f).wf = true := (f (s.begin t)).tell.transmit.canon_wf

end Sys2Proof.Machine
end

