-- ==== Sys2Proof/Laws/Answers.lean ====
section
/-!
SUPPORT. Sys2Proof/Laws/Answers.lean: what follows from a meaning's form: act always answers, actIf where its operands are in
range; what a heard access does; the parts of the control path that the telling of events leaves alone.
-/

namespace Sys2Proof.Machine

/-! ### Meanings answer -/

theorem answers_act {t : Nat} {s : State} {f : State → State} {P : State → Prop} (h : P (s.finish t f)) : Answers (act t s f) P :=
  ⟨_, act_eq t s f, h⟩

theorem answers_actIf {ok : Bool} {t : Nat} {s : State} {f : State → State} {P : State → Prop} (hok : ok = true)
    (h : P (s.finish t f)) : Answers (actIf ok t s f) P :=
  ⟨_, actIf_true hok t s f, h⟩

/-! ### What a command's ending leaves of the values that wait, of the output, and of the control path -/

@[simp] theorem State.finish_lookup_pendR (s : State) (t : Nat) (f : State → State) (k : Nat) :
    lookup k (s.finish t f).pendR = lookup k (f (s.begin t)).pendR := by simp [State.finish]
@[simp] theorem State.finish_lookup_pendD (s : State) (t : Nat) (f : State → State) (k : Nat) :
    lookup k (s.finish t f).pendD = lookup k (f (s.begin t)).pendD := by simp [State.finish]
@[simp] theorem State.finish_lookup_burnR (s : State) (t : Nat) (f : State → State) (k : Nat) :
    lookup k (s.finish t f).burnR = lookup k (f (s.begin t)).burnR := by simp [State.finish]
@[simp] theorem State.finish_lookup_burnD (s : State) (t : Nat) (f : State → State) (k : Nat) :
    lookup k (s.finish t f).burnD = lookup k (f (s.begin t)).burnD := by simp [State.finish]

theorem State.mem_out_eventFrame {s : State} {b : Bytes} {o : Out} (h : o ∈ s.out) : o ∈ (s.eventFrame b).out := by
  unfold State.eventFrame
  split_ifs <;> simp [State.toEventDest, State.send, h]

theorem State.mem_out_eventIf {s : State} {c : Bool} {n : Nat} {o : Out} (h : o ∈ s.out) : o ∈ (s.eventIf c n).out := by
  cases c with
  | false => exact h
  | true => exact State.mem_out_eventFrame (s := s.put 0x204005 _) h

/-- The parts of the control path that telling leaves alone. -/
def SameControl (a b : Ctl) : Prop :=
  a.ports = b.ports ∧ a.transactions = b.transactions ∧ a.staged = b.staged ∧ a.fullResetAt = b.fullResetAt ∧ a.releasedAt = b.releasedAt

theorem SameControl.trans {a b c : Ctl} (h : SameControl a b) (h' : SameControl b c) : SameControl a c :=
  ⟨h.1.trans h'.1, h.2.1.trans h'.2.1, h.2.2.1.trans h'.2.2.1, h.2.2.2.1.trans h'.2.2.2.1, h.2.2.2.2.trans h'.2.2.2.2⟩

theorem State.out_latchReady (s : State) (r : Nat) : (s.latchReady r).out = s.out := by
  unfold State.latchReady; split <;> rfl

theorem State.sameControl_latchReady (s : State) (r : Nat) : SameControl (s.latchReady r).ctl s.ctl := by
  unfold State.latchReady; split <;> exact ⟨rfl, rfl, rfl, rfl, rfl⟩

theorem State.out_note (s : State) : s.note.out = s.out := by unfold State.note; rfl

theorem State.sameControl_note (s : State) : SameControl s.note.ctl s.ctl := by unfold State.note; exact ⟨rfl, rfl, rfl, rfl, rfl⟩

theorem State.mem_out_evtPin {s : State} {n : Nat} {o : Out} (h : o ∈ s.out) : o ∈ (s.evtPin n).out := by
  unfold State.evtPin
  split_ifs <;> simp [State.send, h]

theorem State.sameControl_evtPin (s : State) (n : Nat) : SameControl (s.evtPin n).ctl s.ctl := by
  unfold State.evtPin; split <;> exact ⟨rfl, rfl, rfl, rfl, rfl⟩

theorem State.mem_out_tell {s : State} {o : Out} (h : o ∈ s.out) : o ∈ s.tell.out := by
  have n : o ∈ s.note.out := by rw [State.out_note]; exact h
  unfold State.tell
  apply State.mem_out_evtPin
  apply State.mem_out_evtPin
  split
  · exact n
  · rw [State.out_latchReady]
    exact State.mem_out_eventIf (State.mem_out_eventIf n)

/-- What a command sent is still there when its events are told. -/
theorem State.mem_finish_out {s : State} {t : Nat} {f : State → State} {o : Out} (h : o ∈ (f (s.begin t)).out) :
    o ∈ (s.finish t f).out := State.mem_out_tell h

theorem State.sameControl_eventFrame (s : State) (b : Bytes) : SameControl (s.eventFrame b).ctl s.ctl := by
  unfold State.eventFrame
  split_ifs <;> exact ⟨rfl, rfl, rfl, rfl, rfl⟩

theorem State.sameControl_eventIf (s : State) (c : Bool) (n : Nat) : SameControl (s.eventIf c n).ctl s.ctl := by
  cases c with
  | false => exact ⟨rfl, rfl, rfl, rfl, rfl⟩
  | true => exact State.sameControl_eventFrame (s.put 0x204005 _) _

theorem State.sameControl_tell (s : State) : SameControl s.tell.ctl s.ctl := by
  unfold State.tell
  refine (State.sameControl_evtPin _ _).trans ((State.sameControl_evtPin _ _).trans ?_)
  split
  · exact s.sameControl_note
  · exact (State.sameControl_latchReady _ _).trans ((State.sameControl_eventIf _ _ _).trans
      ((State.sameControl_eventIf _ _ _).trans s.sameControl_note))

@[simp] theorem State.finish_ports (s : State) (t : Nat) (f : State → State) : (s.finish t f).ctl.ports = (f (s.begin t)).ctl.ports :=
  (State.sameControl_tell _).1
@[simp] theorem State.finish_transactions (s : State) (t : Nat) (f : State → State) :
    (s.finish t f).ctl.transactions = (f (s.begin t)).ctl.transactions := (State.sameControl_tell _).2.1
@[simp] theorem State.finish_staged (s : State) (t : Nat) (f : State → State) : (s.finish t f).ctl.staged = (f (s.begin t)).ctl.staged :=
  (State.sameControl_tell _).2.2.1
@[simp] theorem State.finish_fullResetAt (s : State) (t : Nat) (f : State → State) :
    (s.finish t f).ctl.fullResetAt = (f (s.begin t)).ctl.fullResetAt := (State.sameControl_tell _).2.2.2.1
@[simp] theorem State.finish_releasedAt (s : State) (t : Nat) (f : State → State) :
    (s.finish t f).ctl.releasedAt = (f (s.begin t)).ctl.releasedAt := (State.sameControl_tell _).2.2.2.2

/-! ### Host accesses -/

theorem State.hear_of_hears {s : State} {p : Path} (h : s.hears p = true) (f : State → State) : s.hear p f = f (s.heard p) := by
  cases p with
  | internal => simp_all [State.hears, State.hear, State.heard]
  | can q => simp_all [State.hears, State.hear, State.heard]
  | udp a =>
    simp only [State.hears, Bool.and_eq_true, beq_iff_eq] at h
    simp [State.hear, State.heard, h]

/-- A value that is taken is set and acknowledged; a slot's enable where its buffers fit (R260). -/
theorem State.hostWrite_value {s : State} {k : Nat} {data : Bytes} {o : Obj} (h : s.takesValue k data = true) (ho : objOf k = some o)
    (p : Path) (id : Option Nat) (now : Bool) (x : Given) (hx : x.fits = true) :
    s.hostWrite p id k data now x = (s.setScalar k (leNat data) o.acc x).reply p id k 0 := by
  simp only [State.takesValue, ho, Bool.and_eq_true, beq_iff_eq, bne_iff_ne, ne_eq] at h
  obtain ⟨hg, hd, hc⟩ := h
  have hf : s.roomLacks k (leNat data) x = false := by simp [State.roomLacks, hx]
  simp only [State.hostWrite, State.writeObject, hg, ho, hd, if_false, hf, hc, Bool.false_eq_true]

/-- A content that is taken is set and acknowledged. -/
theorem State.hostWrite_content {s : State} {k : Nat} {b : Bytes} {o : Obj} (h : s.takesContent k b = true) (ho : objOf k = some o)
    (p : Path) (id : Option Nat) (now : Bool) (x : Given) (hx : mustReadBack k = true → now = true ∧ x.readBack = true) :
    s.hostWrite p id k b now x = (s.setContentOf k o.acc b x).reply p id k (if k = 0x262002 ∧ !x.readBack then 0x08000020 else 0) := by
  simp only [State.takesContent, State.contentFits, ho, Bool.and_eq_true, beq_iff_eq, decide_eq_true_eq] at h
  obtain ⟨⟨⟨hg, hs⟩, hl⟩, ⟨hd, hlen⟩, hc⟩ := h
  have hr : s.refused k 0 = false := by
    simp only [State.startCode] at hs
    split at hs <;> try exact absurd hs (by decide)
    split at hs <;> try exact absurd hs (by decide)
    split at hs <;> try exact absurd hs (by decide)
    simp_all
  have hloose : s.looseRefused b.length b = false := by
    simp only [State.looseRefused]
    simp; omega
  have hb : looseBulk b = false := by
    simp only [looseBulk]
    simp; omega
  have hk : looseInput k b = false := by simp [looseInput, hb]
  have hin : s.intake b = (s, some b) := by simp [State.intake, hl]
  have hrb : (mustReadBack k && !x.readBack) = false := by
    cases hm : mustReadBack k <;> simp_all
  have hnow : (True ∧ (!mustReadBack k) = true) ∨ now = true := by
    cases hm : mustReadBack k <;> simp_all
  simp only [State.hostWrite, State.writeObject, hg, ho, hd, if_true, hs, State.arriveContent, hl, hnow, State.commitContent, hr,
    hloose, hk, hb, Bool.false_and, Bool.not_false, and_self, if_true, Bool.or_self, Bool.false_eq_true, if_false, hin, hlen, hc, hrb, Bool.not_true]

/-- A transfer that is taken whole is set and acknowledged. -/
theorem State.hostWrite_transfer {s : State} {k : Nat} {data b : Bytes} {o : Obj} (h : s.takesTransfer k data b = true)
    (ho : objOf k = some o) (p : Path) (id : Option Nat) (x : Given) (hx : mustReadBack k = true → x.readBack = true) :
    s.hostWrite p id k data true x = (s.setContentOf k o.acc b x).reply p id k (if k = 0x262002 ∧ !x.readBack then 0x08000020 else 0) := by
  simp only [State.takesTransfer, State.contentFits, ho, Bool.and_eq_true, beq_iff_eq] at h
  obtain ⟨⟨⟨hg, hs⟩, ht⟩, ⟨hd, hlen⟩, hc⟩ := h
  have hr : s.refused k 0 = false := by
    simp only [State.startCode] at hs
    split at hs <;> try exact absurd hs (by decide)
    split at hs <;> try exact absurd hs (by decide)
    split at hs <;> try exact absurd hs (by decide)
    simp_all
  have hrb : (mustReadBack k && !x.readBack) = false := by cases hm : mustReadBack k <;> simp_all
  have hin : s.looseRefused data.length data = false ∧ looseInput k data = false ∧ s.intake data = (s, some b) ∧ looseBulk data = false := by
    simp only [plainTransfer] at ht
    split at ht
    · rename_i hl
      cases ht
      have hb : looseBulk data = false := by
        simp only [looseBulk]
        simp; omega
      refine ⟨?_, by simp [looseInput, hb], by simp [State.intake, hl], hb⟩
      · simp only [State.looseRefused]
        simp; omega
    · rename_i hl
      split at ht
      · rename_i hb
        cases ht
        simp only [Bool.and_eq_true, beq_iff_eq] at hb
        obtain ⟨⟨⟨⟨h1, h2⟩, h3⟩, h4⟩, h5⟩ := hb
        exact ⟨by simp [State.looseRefused, h2], by simp [looseInput, looseBulk, h2], by simp [State.intake, hl, h1, h2, h3, h4, h5],
          by simp [looseBulk, h2]⟩
      · cases ht
  simp only [State.hostWrite, State.writeObject, hg, ho, hd, if_true, hs, State.arriveContent, or_true, State.commitContent, hr,
    hin.1, hin.2.1, hin.2.2.2, Bool.false_and, Bool.not_false, and_self, if_true, Bool.or_self, Bool.false_eq_true, if_false, hin.2.2.1, hlen, hc, hrb, Bool.not_true]

/-- A heard access of a taken value. -/
theorem State.access_value {s : State} {p : Path} {k : Nat} {data : Bytes} {o : Obj} (hp : s.hears p = true)
    (h : (s.heard p).takesValue k data = true) (ho : objOf k = some o) (now : Bool) (x : Given) (hx : x.fits = true) :
    s.access p k data now x = ((s.heard p).setScalar k (leNat data) o.acc x).reply p none k 0 := by
  rw [State.access, State.hear_of_hears hp, State.hostWrite_value h ho p none now x hx]

/-- A heard access of a taken content. -/
theorem State.access_content {s : State} {p : Path} {k : Nat} {b : Bytes} {o : Obj} (hp : s.hears p = true)
    (h : (s.heard p).takesContent k b = true) (ho : objOf k = some o) (now : Bool) (x : Given)
    (hx : mustReadBack k = true → now = true ∧ x.readBack = true) :
    s.access p k b now x = ((s.heard p).setContentOf k o.acc b x).reply p none k (if k = 0x262002 ∧ !x.readBack then 0x08000020 else 0) := by
  rw [State.access, State.hear_of_hears hp, State.hostWrite_content h ho p none now x hx]

/-- A heard access of a transfer that is taken whole. -/
theorem State.access_transfer {s : State} {p : Path} {k : Nat} {data b : Bytes} {o : Obj} (hp : s.hears p = true)
    (h : (s.heard p).takesTransfer k data b = true) (ho : objOf k = some o) (x : Given) (hx : mustReadBack k = true → x.readBack = true) :
    s.access p k data true x
      = ((s.heard p).setContentOf k o.acc b x).reply p none k (if k = 0x262002 ∧ !x.readBack then 0x08000020 else 0) := by
  rw [State.access, State.hear_of_hears hp, State.hostWrite_transfer h ho p none x hx]

end Sys2Proof.Machine
end

