-- ==== Sys2Proof/Laws/Meanings.lean ====
section
/-!
SUPPORT. Sys2Proof/Laws/Meanings.lean: what each command's arm is, with the shared operation it runs written out: one lemma per
constructor, true by definition.
-/

namespace Sys2Proof.Machine

theorem exec_registerWrite (t : Nat) (path : Path) (index sub : Nat) (data : Bytes) (s : State) : exec (.registerWrite t path index sub data) s =
  actIf (index < 65536 && sub < 256) t s fun s => s.access path (keyOf index sub) data := rfl

theorem exec_domainStagingCheck (t index : Nat) (check : ItemResult) (s : State) : exec (.domainStagingCheck t index check) s =
  act t s fun s => if s.served then s.checkStaged (keyOf index check.item) check.ok else s := rfl

theorem exec_udpRead (t source : Nat) (arrival : UdpArrival) (frame : Bytes) (s : State) : exec (.udpRead t source arrival frame) s =
  actIf (arrival.arrival.mac < 2) t s fun s => s.udpFrame source arrival frame := rfl

theorem exec_udpWrite (t source : Nat) (arrival : UdpArrival) (frame : Bytes) (s : State) : exec (.udpWrite t source arrival frame) s =
  actIf (arrival.arrival.mac < 2) t s fun s => s.udpFrame source arrival frame := rfl

theorem exec_udpBulkStart (t source : Nat) (arrival : UdpArrival) (frame : Bytes) (s : State) : exec (.udpBulkStart t source arrival frame) s =
  actIf (arrival.arrival.mac < 2) t s fun s => s.udpFrame source arrival frame := rfl

theorem exec_udpBulkData (t source : Nat) (arrival : UdpArrival) (frame : Bytes) (s : State) : exec (.udpBulkData t source arrival frame) s =
  actIf (arrival.arrival.mac < 2) t s fun s => s.udpFrame source arrival frame := rfl

theorem exec_transactionTimeout (t source transaction : Nat) (s : State) : exec (.transactionTimeout t source transaction) s =
  act t s fun s => s.transactionIdles source transaction := rfl

theorem exec_sdoTransfer (t port : Nat) (frame : SdoFrame) (s : State) : exec (.sdoTransfer t port frame) s =
  actIf (port < 2) t s fun s => s.sdoRequest port frame.cob frame.request := rfl

theorem exec_sdoTimeout (t port : Nat) (s : State) : exec (.sdoTimeout t port) s = actIf (port < 2) t s fun s => s.sdoIdles port := rfl

theorem exec_nmtStart (t port node : Nat) (s : State) : exec (.nmtStart t port node) s =
  actIf (port < 2) t s fun s => s.nmtTo port node .operational := rfl

theorem exec_nmtStop (t port node : Nat) (s : State) : exec (.nmtStop t port node) s =
  actIf (port < 2) t s fun s => s.nmtTo port node .stopped := rfl

theorem exec_nmtEnterPreOperational (t port node : Nat) (s : State) : exec (.nmtEnterPreOperational t port node) s =
  actIf (port < 2) t s fun s => s.nmtTo port node .preOperational := rfl

theorem exec_nmtResetCommunication (t port node : Nat) (s : State) : exec (.nmtResetCommunication t port node) s =
  actIf (port < 2) t s fun s => s.nmtReset port node := rfl

theorem exec_nmtResetNode (t port node : Nat) (s : State) : exec (.nmtResetNode t port node) s =
  actIf (port < 2) t s fun s => s.nmtReset port node := rfl

theorem exec_producerHeartbeat (t port : Nat) (s : State) : exec (.producerHeartbeat t port) s =
  actIf (port < 2) t s fun s => s.heartbeat port := rfl

theorem exec_emcyInhibitExpiry (t port : Nat) (s : State) : exec (.emcyInhibitExpiry t port) s =
  actIf (port < 2) t s fun s => if s.served then s.sendEmcy port else s := rfl

theorem exec_eventsLostFrame (t : Nat) (s : State) : exec (.eventsLostFrame t) s = act t s State.tellLost := rfl

theorem exec_eventAcknowledge (t : Nat) (path : Path) (sequence : Nat) (s : State) : exec (.eventAcknowledge t path sequence) s =
  act t s fun s => s.access path 0x204004 (leBytes 4 sequence) := rfl

theorem exec_fullReset (t : Nat) (path : Path) (value : Nat) (s : State) : exec (.fullReset t path value) s =
  act t s fun s => s.access path 0x202001 (leBytes 4 value) := rfl

theorem exec_fullResetExecute (t : Nat) (s : State) : exec (.fullResetExecute t) s = act t s State.executeReset := rfl

theorem exec_functionReset (t : Nat) (path : Path) (function : Nat) (s : State) : exec (.functionReset t path function) s =
  act t s fun s => s.access path 0x202002 (leBytes 1 function) := rfl

theorem exec_functionResetComplete (t function : Nat) (s : State) : exec (.functionResetComplete t function) s =
  actIf (function < 16) t s fun s => (s.completeFunctionReset function).settleEnables := rfl

theorem exec_requestRun (t : Nat) (path : Path) (s : State) : exec (.requestRun t path) s = act t s fun s => s.access path 0x210002 [0] := rfl

theorem exec_requestHold (t : Nat) (path : Path) (s : State) : exec (.requestHold t path) s = act t s fun s => s.access path 0x210002 [1] := rfl

theorem exec_requestSleep (t : Nat) (path : Path) (s : State) : exec (.requestSleep t path) s = act t s fun s => s.access path 0x210002 [2] := rfl

theorem exec_requestOff (t : Nat) (path : Path) (s : State) : exec (.requestOff t path) s = act t s fun s => s.access path 0x210002 [3] := rfl

theorem exec_powerEntryComplete (t : Nat) (s : State) : exec (.powerEntryComplete t) s = act t s State.completeEntry := rfl

theorem exec_pllLock (t : Nat) (domain : PllDomain) (s : State) : exec (.pllLock t domain) s =
  act t s fun s => (s.pllLocked domain).settleEnables.applyCap := rfl

theorem exec_thermalTripClear (t : Nat) (s : State) : exec (.thermalTripClear t) s = act t s State.clearTrip := rfl

theorem exec_canWake (t port : Nat) (s : State) : exec (.canWake t port) s =
  actIf (port < 2) t s fun s => if bitOf (s.get 0x210004) port then s.wake else s := rfl

theorem exec_wakeTimerExpiry (t : Nat) (s : State) : exec (.wakeTimerExpiry t) s = Sys2Proof.Machine.execWakeTimerExpiry t s := rfl

theorem exec_wakeTimerExpiry_acts (t : Nat) (s : State) :
    ∃ f, Sys2Proof.Machine.execWakeTimerExpiry t s = act t s f := ⟨_, rfl⟩

theorem exec_sleepWake (t : Nat) (_digestOk : Bool) (s : State) : exec (.sleepWake t digestOk) s = act t s State.sleepWake := rfl

theorem exec_commitRequest (t : Nat) (path : Path) (s : State) : exec (.commitRequest t path) s = act t s fun s => s.access path 0x400003 [1] := rfl

theorem exec_contentFrameTick (t : Nat) (s : State) : exec (.contentFrameTick t) s = act t s State.tickAndSettle := rfl

theorem exec_holdLimitExpiry (t layer : Nat) (s : State) : exec (.holdLimitExpiry t layer) s =
  actIf (layer < 16) t s fun s => s.expireHold layer := rfl

theorem exec_layerStale (t layer : Nat) (s : State) : exec (.layerStale t layer) s =
  actIf (layer < 16) t s fun s => s.staleLayer layer := rfl

theorem exec_safetyRerender (t port : Nat) (s : State) : exec (.safetyRerender t port) s =
  actIf (port < 8) t s fun s => s.rerender port := rfl

theorem exec_surfaceFormat (t : Nat) (path : Path) (surface format : Nat) (s : State) : exec (.surfaceFormat t path surface format) s =
  actIf (surface < 64) t s fun s => s.access path (surfaceK surface 1) (leBytes 1 format) := rfl

theorem exec_rayMapSwapRequest (t : Nat) (path : Path) (s : State) : exec (.rayMapSwapRequest t path) s =
  act t s fun s => s.access path 0x420001 [1] := rfl

theorem exec_rayMapSwapWithdraw (t : Nat) (path : Path) (s : State) : exec (.rayMapSwapWithdraw t path) s =
  act t s fun s => s.access path 0x420001 [0] := rfl

theorem exec_shadowGeometry (t : Nat) (path : Path) (data : Bytes) (readBackOk : Bool) (s : State) : exec (.shadowGeometry t path data readBackOk) s =
  act t s fun s => s.access path 0x420004 data true { readBack := readBackOk } := rfl

theorem exec_shadowEntries (t : Nat) (path : Path) (data : Bytes) (readBackOk : Bool) (s : State) : exec (.shadowEntries t path data readBackOk) s =
  act t s fun s => s.access path 0x420005 data true { readBack := readBackOk } := rfl

theorem exec_shadowEntryPatch (t : Nat) (path : Path) (data : Bytes) (readBackOk : Bool) (s : State) : exec (.shadowEntryPatch t path data readBackOk) s =
  act t s fun s => s.access path 0x420006 data true { readBack := readBackOk } := rfl

theorem exec_shadowCopyRequest (t : Nat) (path : Path) (s : State) : exec (.shadowCopyRequest t path) s =
  act t s fun s => s.access path 0x420007 [1] := rfl

theorem exec_tileBandIssue (t carver : Nat) (s : State) : exec (.tileBandIssue t carver) s =
  actIf (carver < 36) t s fun s => s.issueBand carver := rfl

theorem exec_tileBandComplete (t carver band epoch : Nat) (s : State) : exec (.tileBandComplete t carver band epoch) s =
  actIf (carver < 36) t s fun s => s.completeBand carver band epoch := rfl

theorem exec_witnessBufferComplete (t : Nat) (s : State) : exec (.witnessBufferComplete t) s = act t s State.completeWitness := rfl

theorem exec_goldenTile (t carver crc : Nat) (s : State) : exec (.goldenTile t carver crc) s =
  actIf (carver < 36) t s fun s => s.goldenTile carver crc := rfl

theorem exec_linkTraining (t locked : Nat) (capabilities : Bytes) (s : State) : exec (.linkTraining t locked capabilities) s =
  act t s fun s => s.finishTraining locked capabilities := rfl

theorem exec_trainingStepTimeout (t step : Nat) (s : State) : exec (.trainingStepTimeout t step) s =
  actIf (1 ≤ step && step ≤ 7) t s fun s => if s.inStep step then s.trainingFails else s := rfl

theorem exec_deskewSet (t : Nat) (s : State) : exec (.deskewSet t) s =
  act t s fun s =>
    if s.linkUp then s.deskewNow else s := rfl

theorem exec_idleRefresh (t : Nat) (s : State) : exec (.idleRefresh t) s =
  act t s fun s =>
    if s.link.trained && s.get 0x480001 == 3 && s.usable 0xA then s.refreshIdle else s := rfl

theorem exec_laneRetire (t lane : Nat) (_event : LaneEvent) (s : State) : exec (.laneRetire t lane event) s =
  actIf (lane < 18) t s fun s => if s.link.trained && s.served then s.retireLane lane else s := rfl

theorem exec_retrain (t : Nat) (_reason : RetrainReason) (s : State) : exec (.retrain t reason) s = act t s State.retrain := rfl

theorem exec_rectangleAllocate (t module column row columns rows : Nat) (s : State) : exec (.rectangleAllocate t module column row columns rows) s =
  actIf (module < 64) t s fun s => s.allocate module column row columns rows := rfl

theorem exec_update (t rectangle column row count : Nat) (s : State) : exec (.update t rectangle column row count) s =
  actIf (rectangle < 256) t s fun s => s.sendUpdate rectangle column row count := rfl

theorem exec_present (t : Nat) (s : State) : exec (.present t) s =
  act t s fun s =>
    s.sendPresent.startDueChecks := rfl

theorem exec_claim (t : Nat) (s : State) : exec (.claim t) s =
  act t s fun s => if s.acting && s.link.trained && s.usable 0xA && s.link.claiming.isNone && !s.link.claimOwed && s.get 0x480001 != 2 then s.sendClaim else s := rfl

theorem exec_readHubCapabilities (t : Nat) (s : State) : exec (.readHubCapabilities t) s =
  act t s fun s => if s.linkUp then s.linkRead 1 0xFF 0 else s := rfl

theorem exec_readModuleStatus (t module : Nat) (s : State) : exec (.readModuleStatus t module) s =
  onModule module t s fun s => s.linkRead 2 module 0 := rfl

theorem exec_readTile (t module column row : Nat) (s : State) : exec (.readTile t module column row) s =
  onModule module t s fun s => s.linkRead 3 module (column % 128 + 128 * (row % 256)) := rfl

theorem exec_readWindowChecksum (t module slot : Nat) (s : State) : exec (.readWindowChecksum t module slot) s = Sys2Proof.Machine.execReadWindowChecksum t module slot s := rfl

theorem exec_readWindowChecksum_acts (t module slot : Nat) (s : State) :
    ∃ f, Sys2Proof.Machine.execReadWindowChecksum t module slot s = actIf (module < 64) t s f := ⟨_, rfl⟩

theorem exec_readSenseResult (t module : Nat) (s : State) : exec (.readSenseResult t module) s =
  onModule module t s fun s => s.linkRead 0x11 module 0 := rfl

theorem exec_readModuleEvent (t module : Nat) (s : State) : exec (.readModuleEvent t module) s =
  onModule module t s fun s => s.linkRead 0x12 module 0 := rfl

theorem exec_discardStaged (t module : Nat) (s : State) : exec (.discardStaged t module) s =
  actIf (module < 64 || module == 0xFF) t s fun s => if s.linkUp then (s.linkControl 1 module 0 []).unstage module else s := rfl

theorem exec_setWindow (t module slot column row columns rows : Nat) (s : State) : exec (.setWindow t module slot column row columns rows) s =
  onModule module t s fun s => s.setWindow module (slot % 16) column row columns rows := rfl

theorem exec_driveTableChunk (t table offset length : Nat) (s : State) : exec (.driveTableChunk t table offset length) s =
  actIf (table < 8) t s fun s => s.sendChunk table offset length := rfl

theorem exec_driveTableCommit (t table : Nat) (s : State) : exec (.driveTableCommit t table) s =
  actIf (table < 8) t s fun s => s.commitTable table := rfl

theorem exec_presentationMode (t : Nat) (frameAtomic : Bool) (s : State) : exec (.presentationMode t frameAtomic) s =
  act t s fun s =>
    if s.linkUp && (s.get 0x490001 == 1) == frameAtomic && s.link.atomic != frameAtomic
        && s.link.toPresent.all (fun f => notBefore f s.link.modeFrom) then
      let s := s.linkControl 0x13 0xFF (if frameAtomic then 1 else 0) []
      { s with link := { s.link with atomic := frameAtomic } }
    else s := rfl

theorem exec_startSensing (t module : Nat) (s : State) : exec (.startSensing t module) s =
  onModule module t s fun s => s.linkControl 0x14 module 0 [] := rfl

theorem exec_ack (t : Nat) (packet : UpPacket) (s : State) : exec (.ack t packet) s =
  act t s fun s => (s.upstream 0x81 packet.bytes packet.edb fun h s => s.ackUpTo h.sequence).handoverStep := rfl

theorem exec_nak (t : Nat) (packet : UpPacket) (s : State) : exec (.nak t packet) s =
  act t s fun s => s.upstream 0x82 packet.bytes packet.edb fun h s => s.nakFrom h.sequence := rfl

theorem exec_readResponse (t : Nat) (packet : Bytes) (edb : Bool) (s : State) : exec (.readResponse t packet edb) s =
  act t s fun s => s.upstream 0x83 packet edb fun h s => s.readResponse h.module h.tag (upPayload packet) := rfl

theorem exec_status (t : Nat) (packet : UpPacket) (locked : Nat) (errors : List Nat) (s : State) : exec (.status t packet locked errors) s =
  act t s fun s => s.upstream 0x84 packet.bytes packet.edb fun _ s => s.laneStatus locked errors := rfl

theorem exec_retryTimeout (t : Nat) (s : State) : exec (.retryTimeout t) s = Sys2Proof.Machine.execRetryTimeout t s := rfl

theorem exec_retryTimeout_acts (t : Nat) (s : State) :
    ∃ f, Sys2Proof.Machine.execRetryTimeout t s = act t s f := ⟨_, rfl⟩

theorem exec_readTimeout (t tag : Nat) (s : State) : exec (.readTimeout t tag) s =
  actIf (tag < 256) t s fun s => s.readTimesOut tag := rfl

theorem exec_checkRequest (t : Nat) (path : Path) (data : Bytes) (s : State) : exec (.checkRequest t path data) s =
  act t s fun s => s.access path 0x490007 data := rfl

theorem exec_temperaturePoll (t module : Nat) (status : Bytes) (s : State) : exec (.temperaturePoll t module status) s =
  onModule module t s fun s =>
    let tag := s.link.nextTag
    let s := s.linkRead 2 module 0
    ({ s with link := { s.link with reads := s.link.reads.filter fun o => o.tag != tag || o.module != module } }).moduleStatus module status := rfl

theorem exec_temperatureReportLost (t module : Nat) (s : State) : exec (.temperatureReportLost t module) s =
  actIf (module < 64) t s fun s => s.reportLost module := rfl

theorem exec_driveTableWrite (t : Nat) (path : Path) (table : Nat) (data : Bytes) (s : State) : exec (.driveTableWrite t path table data) s =
  actIf (table < 8) t s fun s => s.access path (0x490018 + table) data true := rfl

theorem exec_driveTableVerify (t : Nat) (crcs : List Nat) (s : State) : exec (.driveTableVerify t crcs) s =
  act t s fun s => s.verifyTable crcs := rfl

theorem exec_stressCounterUpdate (t : Nat) (s : State) : exec (.stressCounterUpdate t) s = act t s State.updateStress := rfl

theorem exec_senseRequest (t : Nat) (path : Path) (module : Nat) (s : State) : exec (.senseRequest t path module) s =
  act t s fun s => s.access path 0x490039 (leBytes 1 module) := rfl

theorem exec_senseResultRead (t : Nat) (result : Bytes) (s : State) : exec (.senseResultRead t result) s = Sys2Proof.Machine.execSenseResultRead t result s := rfl

theorem exec_senseResultRead_acts (t : Nat) (result : Bytes) (s : State) :
    ∃ f, Sys2Proof.Machine.execSenseResultRead t result s = act t s f := ⟨_, rfl⟩

theorem exec_portEnable (t : Nat) (path : Path) (port value : Nat) (s : State) : exec (.portEnable t path port value) s =
  actIf (port < 8) t s fun s => s.access path (camK port 0 1) (leBytes 1 value) := rfl

theorem exec_frameStart (t port frameNumber : Nat) (s : State) : exec (.frameStart t port frameNumber) s =
  actIf (port < 8) t s fun s => (s.startFrame port frameNumber).unstale := rfl

theorem exec_lineReceive (t port channel dataType headerEcc : Nat) (crcOk : Bool) (samples : List Nat) (s : State) : exec (.lineReceive t port channel dataType headerEcc crcOk samples) s =
  actIf (port < 8) t s fun s => s.receiveLine port channel dataType headerEcc crcOk samples := rfl

theorem exec_frameEnd (t port : Nat) (s : State) : exec (.frameEnd t port) s =
  actIf (port < 8) t s fun s => if s.camOn port && s.usable 4 then s.endFrame port 0 else s := rfl

theorem exec_frameEndTimeout (t port : Nat) (s : State) : exec (.frameEndTimeout t port) s = Sys2Proof.Machine.execFrameEndTimeout t port s := rfl

theorem exec_frameEndTimeout_acts (t port : Nat) (s : State) :
    ∃ f, Sys2Proof.Machine.execFrameEndTimeout t port s = actIf (port < 8) t s f := ⟨_, rfl⟩

theorem exec_portLost (t port : Nat) (s : State) : exec (.portLost t port) s =
  actIf (port < 8) t s fun s => s.losePort port := rfl

theorem exec_ispFrameComplete (t : Nat) (job : JobResult) (s : State) : exec (.ispFrameComplete t job) s =
  actIf (job.item < 8) t s fun s => s.finishRaw job.item job.epoch := rfl

theorem exec_ispPipelineFail (t pipeline : Nat) (s : State) : exec (.ispPipelineFail t pipeline) s =
  actIf (pipeline < 4) t s fun s => s.failPipeline pipeline := rfl

theorem exec_cciWriteDeadline (t port : Nat) (s : State) : exec (.cciWriteDeadline t port) s =
  actIf (port < 8) t s fun s => s.cciDeadline port := rfl

theorem exec_cciWrite (t : Nat) (path : Path) (port : Nat) (data : Bytes) (s : State) : exec (.cciWrite t path port data) s =
  actIf (port < 8) t s fun s => s.access path (camK port 0x30 1) data := rfl

theorem exec_cciRead (t : Nat) (path : Path) (port : Nat) (data : Bytes) (s : State) : exec (.cciRead t path port data) s =
  actIf (port < 8) t s fun s => s.access path (camK port 0x30 1) data := rfl

theorem exec_cciTransactionComplete (t master : Nat) (acked : Bool) (data : Bytes) (s : State) : exec (.cciTransactionComplete t master acked data) s =
  actIf (master < 4) t s fun s => s.cciComplete master acked data := rfl

theorem exec_cciBusStuck (t master : Nat) (s : State) : exec (.cciBusStuck t master) s =
  actIf (master < 4) t s fun s => s.cciStuck master := rfl

theorem exec_cciBusRecovery (t master : Nat) (busFree : Bool) (s : State) : exec (.cciBusRecovery t master busFree) s =
  actIf (master < 4) t s fun s => s.cciRecover master busFree := rfl

theorem exec_pairEnable (t : Nat) (path : Path) (pair value : Nat) (s : State) : exec (.pairEnable t path pair value) s =
  actIf (pair < 4) t s fun s => s.access path (pairK pair 1) (leBytes 1 value) := rfl

theorem exec_stereoRowSearch (t : Nat) (job : JobResult) (row : Nat) (s : State) : exec (.stereoRowSearch t job row) s =
  actIf (job.item < 4) t s fun s => s.searchStereoRow job.item row job.epoch := rfl

theorem exec_stereoFrameAbandon (t pair : Nat) (s : State) : exec (.stereoFrameAbandon t pair) s =
  actIf (pair < 4) t s fun s => s.abandonSearch pair := rfl

theorem exec_motionSearch (t : Nat) (job : JobResult) (blockX blockY : Nat) (s : State) : exec (.motionSearch t job blockX blockY) s =
  actIf (job.item < 24) t s fun s => s.searchMotion job.item blockX blockY job.epoch := rfl

theorem exec_slalomEngineFail (t engine : Nat) (s : State) : exec (.slalomEngineFail t engine) s =
  actIf (engine < 2) t s fun s => s.failEngine engine := rfl

theorem exec_streamEnable (t : Nat) (path : Path) (stream : Nat) (s : State) : exec (.streamEnable t path stream) s =
  actIf (stream < 24) t s fun s => s.access path (streamK stream 1) [1] := rfl

theorem exec_streamDisable (t : Nat) (path : Path) (stream : Nat) (s : State) : exec (.streamDisable t path stream) s =
  actIf (stream < 24) t s fun s => s.access path (streamK stream 1) [0] := rfl

theorem exec_pictureCode (t stream headerBits : Nat) (ctuBits : List Nat) (slice : Bytes) (s : State) : exec (.pictureCode t stream headerBits ctuBits slice) s =
  actIf (stream < 24) t s fun s =>
    if s.usable 6 && s.running stream && !s.standby then s.codePicture stream { header := headerBits, ctus := ctuBits, slice } else s := rfl

theorem exec_sealMake (t : Nat) (result : ItemResult) (s : State) : exec (.sealMake t result) s =
  actIf (result.item < 24) t s fun s =>
    let stream := result.item
    let some_ := !(s.stream stream).unsealed.isEmpty
    let s := if result.ok then s.makeSeal stream false else s.loseSeal stream
    if some_ && (s.stream stream).closing && (s.stream stream).unsealed.isEmpty && s.usable 6 then s.closingPicture stream else s := rfl

theorem exec_encoderCoreFail (t core : Nat) (s : State) : exec (.encoderCoreFail t core) s =
  actIf (core < 2) t s fun s => s.failEncoder core := rfl

theorem exec_slotEnable (t : Nat) (path : Path) (slot : ItemResult) (value : Nat) (s : State) : exec (.slotEnable t path slot value) s =
  actIf (slot.item < 32) t s fun s => s.access path (slotK slot.item 1) (leBytes 1 value) (x := { fits := slot.ok }) := rfl

theorem exec_avtpReceive (t : Nat) (arrival : Arrival) (header : AvtpHeader) (sequence timestamp : Nat) (last : Bool) (payload : Bytes) (s : State) : exec (.avtpReceive t arrival header sequence timestamp last payload) s =
  actIf (arrival.mac < 2) t s fun s => s.receiveAvtp arrival header sequence timestamp last payload := rfl

theorem exec_pictureDecode (t slot : Nat) (unit : AccessUnit) (s : State) : exec (.pictureDecode t slot unit) s =
  actIf (slot < 32) t s fun s => (s.decodePicture slot unit).unstale := rfl

theorem exec_slotStarved (t slot : Nat) (s : State) : exec (.slotStarved t slot) s =
  actIf (slot < 32) t s fun s => s.starve slot := rfl

theorem exec_cycleBudgetOverrun (t slot : Nat) (unit : AccessUnit) (goodCtus : Nat) (s : State) : exec (.cycleBudgetOverrun t slot unit goodCtus) s =
  actIf (slot < 32) t s fun s => (s.overrun slot unit goodCtus).unstale := rfl

theorem exec_decoderCoreFail (t core : Nat) (s : State) : exec (.decoderCoreFail t core) s =
  actIf (core < 2) t s fun s => s.failDecoder core := rfl

theorem exec_hostJobCompress (t : Nat) (path : Path) (data : Bytes) (s : State) : exec (.hostJobCompress t path data) s =
  act t s fun s => s.access path 0x3C0008 data true := rfl

theorem exec_hostJobDecompress (t : Nat) (path : Path) (data : Bytes) (s : State) : exec (.hostJobDecompress t path data) s =
  act t s fun s => s.access path 0x3C0008 data true := rfl

theorem exec_groomerJobComplete (t : Nat) (verifyFailures : JobReport) (s : State) : exec (.groomerJobComplete t verifyFailures) s =
  act t s fun s => s.finishJob verifyFailures := rfl

theorem exec_blitList (t : Nat) (path : Path) (data : Bytes) (s : State) : exec (.blitList t path data) s =
  act t s fun s => s.access path 0x430001 data true := rfl

theorem exec_copy (draw : DrawInstant) (s : State) : exec (.copy draw) s = act draw.t s fun s => s.draw_ 1 draw.fetchLine := rfl

theorem exec_fill (draw : DrawInstant) (s : State) : exec (.fill draw) s = act draw.t s fun s => s.draw_ 2 draw.fetchLine := rfl

theorem exec_waitLine (t line : Nat) (s : State) : exec (.waitLine t line) s = act t s fun s => s.waitLine line := rfl

theorem exec_blitStep (t fetchLine : Nat) (s : State) : exec (.blitStep t fetchLine) s = act t s fun s => s.blitStep fetchLine := rfl

theorem exec_outputEnable (t : Nat) (path : Path) (output value : Nat) (trained : Bool) (s : State) : exec (.outputEnable t path output value trained) s =
  actIf (output < 2) t s fun s => s.access path (flatK output 1) (leBytes 1 value) false { trained := some trained } := rfl

theorem exec_flatTrainingRetry (t output : Nat) (trained : Bool) (s : State) : exec (.flatTrainingRetry t output trained) s =
  actIf (output < 2) t s fun s => s.retryFlat output trained := rfl

theorem exec_hpdChange (t output : Nat) (high trained : Bool) (s : State) : exec (.hpdChange t output high trained) s =
  actIf (output < 2) t s fun s => s.changeHpd output high trained := rfl

theorem exec_irqHpd (t output : Nat) (linkLost trained : Bool) (s : State) : exec (.irqHpd t output linkLost trained) s =
  actIf (output < 2) t s fun s => s.irqHpd output linkLost trained := rfl

theorem exec_scanCommit (t : Nat) (path : Path) (output : Nat) (s : State) : exec (.scanCommit t path output) s =
  actIf (output < 2) t s fun s => s.access path (flatK output 0x0A) [1] := rfl

theorem exec_scanLatch (t output : Nat) (s : State) : exec (.scanLatch t output) s =
  actIf (output < 2) t s fun s => s.latchFrame output := rfl

theorem exec_timingCommit (t : Nat) (path : Path) (output : Nat) (s : State) : exec (.timingCommit t path output) s =
  actIf (output < 2) t s fun s => s.access path (flatK output 5) [1] := rfl

theorem exec_timingApply (t output : Nat) (s : State) : exec (.timingApply t output) s =
  actIf (output < 2) t s fun s =>
    if (s.flat output).timingReady && s.flatRuns output && s.usable 0xC then s.applyTiming output else s := rfl

theorem exec_underrunLine (t output : Nat) (place : ScanPlace) (s : State) : exec (.underrunLine t output place) s =
  actIf (output < 2 && place.line < 4096 && place.pixel < 3840) t s fun s => s.underrun output place.line place.pixel := rfl

theorem exec_dramAccess (t : Nat) (client : DramClient) (rank chunk block : Nat) (op : DramOp) (symbols : List Nat) (s : State) : exec (.dramAccess t client rank chunk block op symbols) s =
  actIf (rank < 32 && block < 2048) t s fun s => s.dramAccess client rank chunk block op symbols := rfl

theorem exec_migrationChunkCopy (step : CopyStep) (s : State) : exec (.migrationChunkCopy step) s =
  act step.t s fun s => s.copyChunk step.reads := rfl

theorem exec_mr4Poll (t rank mr4 oscillator : Nat) (s : State) : exec (.mr4Poll t rank mr4 oscillator) s =
  actIf (rank < 32) t s fun s => s.pollRank rank mr4 oscillator := rfl

theorem exec_refresh (t rank : Nat) (class1Waiting : Bool) (s : State) : exec (.refresh t rank class1Waiting) s =
  actIf (rank < 32) t s fun s => s.refreshRank rank class1Waiting := rfl

theorem exec_powerDownEntry (t rank : Nat) (s : State) : exec (.powerDownEntry t rank) s =
  actIf (rank < 32) t s fun s => s.powerDown rank := rfl

theorem exec_patrolScrub (t rank chunk block : Nat) (symbols : List Nat) (s : State) : exec (.patrolScrub t rank chunk block symbols) s =
  actIf (rank < 32 && block < 2048) t s fun s => s.scrubRead rank chunk block symbols := rfl

theorem exec_channelTraining (t channel : Nat) (trained : Bool) (report : TrainingReport) (s : State) : exec (.channelTraining t channel trained report) s =
  actIf (channel < 16) t s fun s => s.trainChannel channel trained report := rfl

theorem exec_driftRecentre (t channel temperature : Nat) (converged : Bool) (s : State) : exec (.driftRecentre t channel temperature converged) s =
  actIf (channel < 16) t s fun s => s.driftRecentre channel temperature converged := rfl

theorem exec_recentreRetry (t channel : Nat) (converged : Bool) (s : State) : exec (.recentreRetry t channel converged) s =
  actIf (channel < 16) t s fun s => s.recentreAgain channel converged := rfl

theorem exec_sramScrub (t : Nat) (findings : List SramFinding) (s : State) : exec (.sramScrub t findings) s =
  actIf (findings.all SramFinding.ok) t s fun s => if s.served then findings.foldl State.sramFinding s else s := rfl

theorem exec_housekeepingSlot (t channel reading : Nat) (s : State) : exec (.housekeepingSlot t channel reading) s =
  actIf (channel < 32) t s fun s => s.housekeeping channel reading := rfl

theorem exec_ploughEvaluation (t : Nat) (s : State) : exec (.ploughEvaluation t) s = act t s State.evaluate := rfl

theorem exec_powerLimit (t : Nat) (path : Path) (milliwatts : Nat) (s : State) : exec (.powerLimit t path milliwatts) s =
  act t s fun s => s.access path 0x211001 (leBytes 2 milliwatts) := rfl

theorem exec_macLinkChange (t mac rate : Nat) (s : State) : exec (.macLinkChange t mac rate) s =
  actIf (mac < 2 && rate < 5) t s fun s => if s.served then (s.macLink mac rate).settleEnables else s := rfl

theorem exec_syncReceive (t : Nat) (arrival : PtpArrival) (masterTime : Nat) (s : State) : exec (.syncReceive t arrival masterTime) s =
  actIf (arrival.arrival.mac < 2) t s fun s => s.ptpArrives arrival fun s => s.sync arrival.arrival.mac masterTime := rfl

theorem exec_announceReceive (t : Nat) (arrival : PtpArrival) (data : Announce) (s : State) : exec (.announceReceive t arrival data) s =
  actIf (arrival.arrival.mac < 2) t s fun s => s.ptpArrives arrival fun s => s.announced arrival.arrival.mac data := rfl

theorem exec_announceTimeout (t mac : Nat) (s : State) : exec (.announceTimeout t mac) s =
  actIf (mac < 2) t s fun s => s.announceLost mac := rfl

theorem exec_syncSend (t mac : Nat) (s : State) : exec (.syncSend t mac) s = actIf (mac < 2) t s fun s => s.sendSync mac := rfl

theorem exec_frameLockEdge (t input : Nat) (s : State) : exec (.frameLockEdge t input) s =
  actIf (input < 4) t s fun s => s.lockEdge input := rfl

theorem exec_frameLockLost (t : Nat) (s : State) : exec (.frameLockLost t) s = act t s State.lockLost := rfl

theorem exec_outputMode (t : Nat) (path : Path) (output mode : Nat) (s : State) : exec (.outputMode t path output mode) s =
  actIf (output < 8) t s fun s => s.access path (outK output 1) (leBytes 1 mode) := rfl

theorem exec_timeOutEdge (t output : Nat) (s : State) : exec (.timeOutEdge t output) s =
  actIf (output < 8) t s fun s => s.outEdge output := rfl

theorem exec_captureEdge (t input : Nat) (rising : Bool) (width : Nat) (s : State) : exec (.captureEdge t input rising width) s =
  actIf (input < 4) t s fun s => s.captured input rising width := rfl

theorem exec_timestampsRead (t : Nat) (path : Path) (input : Nat) (s : State) : exec (.timestampsRead t path input) s =
  actIf (input < 4) t s fun s => s.accessRead path (capK input 4) := rfl

theorem exec_readinessDecision (t : Nat) (s : State) : exec (.readinessDecision t) s = act t s State.decideReadiness := rfl

theorem exec_readinessRepeat (t : Nat) (s : State) : exec (.readinessRepeat t) s = act t s State.repeatReadiness := rfl

theorem exec_readinessFrameReceive (t : Nat) (datagram : ReadinessArrival) (s : State) : exec (.readinessFrameReceive t datagram) s =
  actIf (datagram.udp.arrival.mac < 2) t s fun s => s.readinessArrives datagram := rfl

theorem exec_readinessDeadline (t : Nat) (s : State) : exec (.readinessDeadline t) s = act t s State.deadline := rfl

theorem exec_hbEdge (t : Nat) (s : State) : exec (.hbEdge t) s = act t s State.pinEdge := rfl

theorem exec_twinHeartbeat (t : Nat) (codeOk : Bool) (count state : Nat) (s : State) : exec (.twinHeartbeat t codeOk count state) s =
  act t s fun s => s.twinBeat codeOk count state := rfl

theorem exec_twinHeartbeatSend (t : Nat) (s : State) : exec (.twinHeartbeatSend t) s = act t s State.sendBeat := rfl

theorem exec_pathSilent (t : Nat) (twin : Bool) (s : State) : exec (.pathSilent t twin) s = act t s fun s => s.pathSilent twin := rfl

theorem exec_takeover (t : Nat) (s : State) : exec (.takeover t) s = act t s State.takeOver := rfl

theorem exec_roleDecision (t : Nat) (s : State) : exec (.roleDecision t) s = act t s State.decideRole := rfl

theorem exec_dualStandbyResolve (t : Nat) (s : State) : exec (.dualStandbyResolve t) s = act t s State.resolveStandby := rfl

theorem exec_health (t : Nat) (packet : TwinReport) (s : State) : exec (.health t packet) s =
  act t s fun s => s.twinTake packet.sequence fun s => s.healthReceive packet.report := rfl

theorem exec_healthSend (t : Nat) (s : State) : exec (.healthSend t) s =
  act t s fun s => if s.power.phase == .run || s.power.phase == .hold then s.sendHealth else s := rfl

theorem exec_mirror (t sequence : Nat) (records : Bytes) (s : State) : exec (.mirror t sequence records) s =
  act t s fun s => s.twinTake sequence fun s => s.mirrorReceive records := rfl

theorem exec_changed (t sequence offset : Nat) (bitmap : Bytes) (s : State) : exec (.changed t sequence offset bitmap) s =
  act t s fun s => s.twinTake sequence fun s => if s.pair.role = 1 then s else s.changedReceive offset bitmap := rfl

theorem exec_commit (t sequence epoch tag tick outcome : Nat) (s : State) : exec (.commit t sequence epoch tag tick outcome) s =
  act t s fun s => s.twinTake sequence fun s =>
    if s.pair.role = 1 then s else { s with pair := { s.pair with commitFor := some (epoch, tag, tick, outcome) } } := rfl

theorem exec_stress (t sequence offset : Nat) (data : Bytes) (s : State) : exec (.stress t sequence offset data) s =
  act t s fun s => s.twinTake sequence fun s => if s.pair.role = 1 then s else s.stressReceive offset data := rfl

theorem exec_statistics (t sequence port : Nat) (block : Bytes) (s : State) : exec (.statistics t sequence port block) s =
  actIf (port < 8) t s fun s => s.twinTake sequence fun s => if s.pair.role = 1 then s else s.statisticsReceive port block := rfl

theorem exec_handover (t sequence ownershipEpoch _mirrorSequence : Nat) (s : State) : exec (.handover t sequence ownershipEpoch mirrorSequence) s =
  act t s fun s => s.twinTake sequence fun s =>
    if s.pair.role = 2 then
      ({ s with pair := { s.pair with mirrorEpoch := max s.pair.mirrorEpoch ownershipEpoch } }).takeRole 0
    else s := rfl

theorem exec_hello (t sequence : Nat) (s : State) : exec (.hello t sequence) s =
  act t s fun s => s.twinTake sequence State.snapshot := rfl

theorem exec_twinLaneRetire (t : Nat) (found : TwinLaneReport) (s : State) : exec (.twinLaneRetire t found) s =
  actIf (found.lane < 5) t s fun s => s.twinFound found := rfl

theorem exec_roleHandover (t : Nat) (path : Path) (s : State) : exec (.roleHandover t path) s = act t s fun s => s.access path 0x230005 [1] := rfl

theorem exec_handoverTimeout (t : Nat) (s : State) : exec (.handoverTimeout t) s = act t s State.handoverFails := rfl

theorem exec_faultHandlingSlot (t : Nat) (s : State) : exec (.faultHandlingSlot t) s =
  act t s fun s => if s.served then s.handleFault else s := rfl

theorem exec_fullResetServe (t : Nat) (s : State) : exec (.fullResetServe t) s = act t s State.serveReset := rfl

theorem exec_beaconEntryWrite (t : Nat) (readBackOk : Bool) (rate : Nat) (s : State) : exec (.beaconEntryWrite t readBackOk rate) s =
  act t s fun s => s.writePending readBackOk rate := rfl

theorem exec_recoveryEntry (t : Nat) (s : State) : exec (.recoveryEntry t) s =
  act t s fun s => if s.served then s.queueRecovery else s := rfl

theorem exec_hostNote (t : Nat) (path : Path) (note : Bytes) (s : State) : exec (.hostNote t path note) s =
  act t s fun s => s.access path 0x22100D note true := rfl

theorem exec_beaconRead (t : Nat) (path : Path) (s : State) : exec (.beaconRead t path) s = act t s fun s => s.accessRead path 0x22100C := rfl

theorem exec_pfailGlitch (t : Nat) (s : State) : exec (.pfailGlitch t) s = Sys2Proof.Machine.execPfailGlitch t s := rfl

theorem exec_pfailGlitch_acts (t : Nat) (s : State) :
    ∃ f, Sys2Proof.Machine.execPfailGlitch t s = act t s f := ⟨_, rfl⟩

theorem exec_pfailRecognition (t : Nat) (s : State) : exec (.pfailRecognition t) s = act t s State.pfailRecognised := rfl

theorem exec_pfailRelease (t : Nat) (s : State) : exec (.pfailRelease t) s = act t s State.pfailReleased := rfl

theorem exec_pfailWaitForReset (t : Nat) (s : State) : exec (.pfailWaitForReset t) s = act t s State.pfailWaits := rfl

theorem exec_resetNAssert (t width : Nat) (s : State) : exec (.resetNAssert t width) s = act t s fun s => s.resetPulse width := rfl

theorem exec_coldStart (t : Nat) (facts : BootFacts) (s : State) : exec (.coldStart t facts) s =
  actIf (facts.cause < 8 && facts.sram.all SramFinding.ok && facts.sramColumns.all fun c => c.1 < 320 && c.2 < 576) t s fun s => s.coldStart facts := rfl

theorem exec_startupWritesResume (t : Nat) (s : State) : exec (.startupWritesResume t) s = act t s State.resumeWrites := rfl

theorem exec_watchdogReset (t : Nat) (s : State) : exec (.watchdogReset t) s =
  act t s fun s => if s.served || s.power.phase == .startup then s.resetNow 4 else s := rfl

theorem exec_lockstepMismatch (t : Nat) (s : State) : exec (.lockstepMismatch t) s =
  act t s fun s => if s.served || s.power.phase == .startup then s.resetNow 5 else s := rfl

theorem exec_xtalSwitch (t : Nat) (s : State) : exec (.xtalSwitch t) s = act t s fun s => s.put 0x213006 1 := rfl

theorem exec_calibrateBias (t first second : Nat) (withinBudget : Bool) (s : State) : exec (.calibrateBias t first second withinBudget) s =
  act t s fun s => s.calibrationStep 1 (withinBudget && first == second && decide (first < 64)) fun b => patch b 0 (leBytes 1 first) := rfl

theorem exec_calibrateOscillators (t rcTap : Nat) (sensorTaps : List Nat) (converged : Bool) (s : State) : exec (.calibrateOscillators t rcTap sensorTaps converged) s =
  act t s fun s => s.calibrationStep 2 (converged && tapsOk rcTap sensorTaps) fun b =>
    patch b 1 (leBytes 1 rcTap ++ sensorTaps.flatMap fun x => leBytes 1 x) := rfl

theorem exec_calibrateTemperature (t : Nat) (means : List Int) (steady : Bool) (s : State) : exec (.calibrateTemperature t means steady) s =
  act t s fun s => s.calibrateTemperature means steady := rfl

theorem exec_calibrateSram (t : Nat) (findings : List SramFinding) (finished : Bool) (s : State) : exec (.calibrateSram t findings finished) s =
  actIf (findings.all SramFinding.ok) t s fun s => s.calibrateSram findings finished := rfl

theorem exec_calibrationRunEnd (t : Nat) (s : State) : exec (.calibrationRunEnd t) s = act t s State.finishCalibration := rfl

theorem exec_otpBurn (t : Nat) (path : Path) (value : Nat) (s : State) : exec (.otpBurn t path value) s =
  act t s fun s => s.access path 0x261003 (leBytes 4 value) := rfl

theorem exec_otpBurnComplete (t : Nat) (readBackOk : Bool) (s : State) : exec (.otpBurnComplete t readBackOk) s =
  act t s fun s => s.finishBurn readBackOk := rfl

theorem exec_firmwareInstall (t : Nat) (path : Path) (image : Bytes) (readBackOk : Bool) (s : State) : exec (.firmwareInstall t path image readBackOk) s =
  act t s fun s => s.access path 0x262002 image true { readBack := readBackOk } := rfl

theorem exec_twinLinkTraining (t locked : Nat) (s : State) : exec (.twinLinkTraining t locked) s = act t s fun s => s.twinTrain locked := rfl

theorem exec_twinAck (t : Nat) (isNak : Bool) (sequence : Nat) (s : State) : exec (.twinAck t isNak sequence) s = Sys2Proof.Machine.execTwinAck t isNak sequence s := rfl

theorem exec_twinAck_acts (t : Nat) (isNak : Bool) (sequence : Nat) (s : State) :
    ∃ f, Sys2Proof.Machine.execTwinAck t isNak sequence s = act t s f := ⟨_, rfl⟩

theorem exec_twinRetryTimeout (t : Nat) (s : State) : exec (.twinRetryTimeout t) s = Sys2Proof.Machine.execTwinRetryTimeout t s := rfl

theorem exec_twinRetryTimeout_acts (t : Nat) (s : State) :
    ∃ f, Sys2Proof.Machine.execTwinRetryTimeout t s = act t s f := ⟨_, rfl⟩

theorem exec_blitterFault (t : Nat) (s : State) : exec (.blitterFault t) s = act t s State.failBlitter := rfl

theorem exec_carverFault (t carver : Nat) (s : State) : exec (.carverFault t carver) s =
  actIf (carver < 36) t s fun s => s.retireCarver carver := rfl

theorem exec_sealDeadline (t stream : Nat) (s : State) : exec (.sealDeadline t stream) s =
  actIf (stream < 24) t s fun s =>
    if (s.stream stream).unsealed.any fun u => decide (u.2 + 20000000 ≤ s.now) then s.onset 6 3 stream else s := rfl

theorem exec_laneLoopback (t lane : Nat) (passed : Bool) (s : State) : exec (.laneLoopback t lane passed) s =
  actIf (lane < 18) t s fun s =>
    if !(s.standby && s.link.trained && s.served) then s
    else
      let s := { s with pair := { s.pair with loopbackClean := if lane = 0 then passed else s.pair.loopbackClean && passed } }
      if passed then s else s.retireLane lane := rfl

theorem exec_announceSend (t mac : Nat) (s : State) : exec (.announceSend t mac) s = actIf (mac < 2) t s fun s => s.sendAnnounce mac := rfl

theorem exec_delayRequestResponse (t : Nat) (arrival : PtpArrival) (message : DelayMessage) (requester delay : Nat) (s : State) : exec (.delayRequestResponse t arrival message requester delay) s =
  actIf (arrival.arrival.mac < 2) t s fun s => s.delayMessage arrival message requester delay := rfl

theorem exec_arpNeighbourDiscovery (t : Nat) (arrival : Arrival) (v6 request : Bool) (sender senderMac target : Nat) (s : State) : exec (.arpNeighbourDiscovery t arrival v6 request sender senderMac target) s =
  actIf (arrival.mac < 2) t s fun s => s.arrives arrival fun s => s.neighbour arrival.mac v6 request sender senderMac target := rfl

theorem exec_icmpEcho (t : Nat) (arrival : Arrival) (v6 : Bool) (sender target : Nat) (data : Bytes) (s : State) : exec (.icmpEcho t arrival v6 sender target data) s =
  actIf (arrival.mac < 2) t s fun s => s.arrives arrival fun s => s.echo arrival.mac v6 sender target data := rfl

end Sys2Proof.Machine
end

