-- ==== Sys2Proof/Laws/PerInstr.lean ====
section
/-!
SUPPORT. Sys2Proof/Laws/PerInstr.lean: statements made of each command as syntax, one lemma per constructor.
-/

namespace Sys2Proof.Laws.NoWord

/-- The opcode table gives no row any bits: no word of it spells the command. -/
def Statement (i : Instr) : Prop := ∀ nbits w : Nat, decodeTableWord nbits w ≠ some i

theorem registerWrite (t : Nat) (path : Path) (index sub : Nat) (data : Bytes) : Statement (.registerWrite t path index sub data) := fun _ _ h => nomatch h
theorem domainStagingCheck (t index : Nat) (check : ItemResult) : Statement (.domainStagingCheck t index check) := fun _ _ h => nomatch h
theorem udpRead (t : Nat) (source : Nat) (arrival : UdpArrival) (frame : Bytes) : Statement (.udpRead t source arrival frame) := fun _ _ h => nomatch h
theorem udpWrite (t : Nat) (source : Nat) (arrival : UdpArrival) (frame : Bytes) : Statement (.udpWrite t source arrival frame) := fun _ _ h => nomatch h
theorem udpBulkStart (t : Nat) (source : Nat) (arrival : UdpArrival) (frame : Bytes) : Statement (.udpBulkStart t source arrival frame) := fun _ _ h => nomatch h
theorem udpBulkData (t : Nat) (source : Nat) (arrival : UdpArrival) (frame : Bytes) : Statement (.udpBulkData t source arrival frame) := fun _ _ h => nomatch h
theorem transactionTimeout (t : Nat) (source transaction : Nat) : Statement (.transactionTimeout t source transaction) := fun _ _ h => nomatch h
theorem sdoTransfer (t port : Nat) (frame : SdoFrame) : Statement (.sdoTransfer t port frame) := fun _ _ h => nomatch h
theorem sdoTimeout (t : Nat) (port : Nat) : Statement (.sdoTimeout t port) := fun _ _ h => nomatch h
theorem nmtStart (t : Nat) (port node : Nat) : Statement (.nmtStart t port node) := fun _ _ h => nomatch h
theorem nmtStop (t : Nat) (port node : Nat) : Statement (.nmtStop t port node) := fun _ _ h => nomatch h
theorem nmtEnterPreOperational (t : Nat) (port node : Nat) : Statement (.nmtEnterPreOperational t port node) := fun _ _ h => nomatch h
theorem nmtResetCommunication (t : Nat) (port node : Nat) : Statement (.nmtResetCommunication t port node) := fun _ _ h => nomatch h
theorem nmtResetNode (t : Nat) (port node : Nat) : Statement (.nmtResetNode t port node) := fun _ _ h => nomatch h
theorem producerHeartbeat (t : Nat) (port : Nat) : Statement (.producerHeartbeat t port) := fun _ _ h => nomatch h
theorem emcyInhibitExpiry (t : Nat) (port : Nat) : Statement (.emcyInhibitExpiry t port) := fun _ _ h => nomatch h
theorem eventsLostFrame (t : Nat) : Statement (.eventsLostFrame t) := fun _ _ h => nomatch h
theorem eventAcknowledge (t : Nat) (path : Path) (sequence : Nat) : Statement (.eventAcknowledge t path sequence) := fun _ _ h => nomatch h
theorem fullReset (t : Nat) (path : Path) (value : Nat) : Statement (.fullReset t path value) := fun _ _ h => nomatch h
theorem fullResetExecute (t : Nat) : Statement (.fullResetExecute t) := fun _ _ h => nomatch h
theorem functionReset (t : Nat) (path : Path) (function : Nat) : Statement (.functionReset t path function) := fun _ _ h => nomatch h
theorem functionResetComplete (t : Nat) (function : Nat) : Statement (.functionResetComplete t function) := fun _ _ h => nomatch h
theorem requestRun (t : Nat) (path : Path) : Statement (.requestRun t path) := fun _ _ h => nomatch h
theorem requestHold (t : Nat) (path : Path) : Statement (.requestHold t path) := fun _ _ h => nomatch h
theorem requestSleep (t : Nat) (path : Path) : Statement (.requestSleep t path) := fun _ _ h => nomatch h
theorem requestOff (t : Nat) (path : Path) : Statement (.requestOff t path) := fun _ _ h => nomatch h
theorem powerEntryComplete (t : Nat) : Statement (.powerEntryComplete t) := fun _ _ h => nomatch h
theorem pllLock (t : Nat) (domain : PllDomain) : Statement (.pllLock t domain) := fun _ _ h => nomatch h
theorem thermalTripClear (t : Nat) : Statement (.thermalTripClear t) := fun _ _ h => nomatch h
theorem canWake (t : Nat) (port : Nat) : Statement (.canWake t port) := fun _ _ h => nomatch h
theorem wakeTimerExpiry (t : Nat) : Statement (.wakeTimerExpiry t) := fun _ _ h => nomatch h
theorem sleepWake (t : Nat) (digestOk : Bool) : Statement (.sleepWake t digestOk) := fun _ _ h => nomatch h
theorem commitRequest (t : Nat) (path : Path) : Statement (.commitRequest t path) := fun _ _ h => nomatch h
theorem contentFrameTick (t : Nat) : Statement (.contentFrameTick t) := fun _ _ h => nomatch h
theorem holdLimitExpiry (t : Nat) (layer : Nat) : Statement (.holdLimitExpiry t layer) := fun _ _ h => nomatch h
theorem layerStale (t : Nat) (layer : Nat) : Statement (.layerStale t layer) := fun _ _ h => nomatch h
theorem safetyRerender (t : Nat) (port : Nat) : Statement (.safetyRerender t port) := fun _ _ h => nomatch h
theorem surfaceFormat (t : Nat) (path : Path) (surface format : Nat) : Statement (.surfaceFormat t path surface format) := fun _ _ h => nomatch h
theorem rayMapSwapRequest (t : Nat) (path : Path) : Statement (.rayMapSwapRequest t path) := fun _ _ h => nomatch h
theorem rayMapSwapWithdraw (t : Nat) (path : Path) : Statement (.rayMapSwapWithdraw t path) := fun _ _ h => nomatch h
theorem shadowGeometry (t : Nat) (path : Path) (data : Bytes) (readBackOk : Bool) : Statement (.shadowGeometry t path data readBackOk) := fun _ _ h => nomatch h
theorem shadowEntries (t : Nat) (path : Path) (data : Bytes) (readBackOk : Bool) : Statement (.shadowEntries t path data readBackOk) := fun _ _ h => nomatch h
theorem shadowEntryPatch (t : Nat) (path : Path) (data : Bytes) (readBackOk : Bool) : Statement (.shadowEntryPatch t path data readBackOk) := fun _ _ h => nomatch h
theorem shadowCopyRequest (t : Nat) (path : Path) : Statement (.shadowCopyRequest t path) := fun _ _ h => nomatch h
theorem tileBandIssue (t : Nat) (carver : Nat) : Statement (.tileBandIssue t carver) := fun _ _ h => nomatch h
theorem tileBandComplete (t : Nat) (carver band epoch : Nat) : Statement (.tileBandComplete t carver band epoch) := fun _ _ h => nomatch h
theorem witnessBufferComplete (t : Nat) : Statement (.witnessBufferComplete t) := fun _ _ h => nomatch h
theorem goldenTile (t : Nat) (carver crc : Nat) : Statement (.goldenTile t carver crc) := fun _ _ h => nomatch h
theorem linkTraining (t : Nat) (locked : Nat) (capabilities : Bytes) : Statement (.linkTraining t locked capabilities) := fun _ _ h => nomatch h
theorem trainingStepTimeout (t : Nat) (step : Nat) : Statement (.trainingStepTimeout t step) := fun _ _ h => nomatch h
theorem deskewSet (t : Nat) : Statement (.deskewSet t) := fun _ _ h => nomatch h
theorem idleRefresh (t : Nat) : Statement (.idleRefresh t) := fun _ _ h => nomatch h
theorem laneRetire (t : Nat) (lane : Nat) (event : LaneEvent) : Statement (.laneRetire t lane event) := fun _ _ h => nomatch h
theorem retrain (t : Nat) (reason : RetrainReason) : Statement (.retrain t reason) := fun _ _ h => nomatch h
theorem rectangleAllocate (t : Nat) (module column row columns rows : Nat) : Statement (.rectangleAllocate t module column row columns rows) := fun _ _ h => nomatch h
theorem update (t : Nat) (rectangle column row count : Nat) : Statement (.update t rectangle column row count) := fun _ _ h => nomatch h
theorem present (t : Nat) : Statement (.present t) := fun _ _ h => nomatch h
theorem claim (t : Nat) : Statement (.claim t) := fun _ _ h => nomatch h
theorem readHubCapabilities (t : Nat) : Statement (.readHubCapabilities t) := fun _ _ h => nomatch h
theorem readModuleStatus (t : Nat) (module : Nat) : Statement (.readModuleStatus t module) := fun _ _ h => nomatch h
theorem readTile (t : Nat) (module column row : Nat) : Statement (.readTile t module column row) := fun _ _ h => nomatch h
theorem readWindowChecksum (t : Nat) (module slot : Nat) : Statement (.readWindowChecksum t module slot) := fun _ _ h => nomatch h
theorem readSenseResult (t : Nat) (module : Nat) : Statement (.readSenseResult t module) := fun _ _ h => nomatch h
theorem readModuleEvent (t : Nat) (module : Nat) : Statement (.readModuleEvent t module) := fun _ _ h => nomatch h
theorem discardStaged (t : Nat) (module : Nat) : Statement (.discardStaged t module) := fun _ _ h => nomatch h
theorem setWindow (t : Nat) (module slot column row columns rows : Nat) : Statement (.setWindow t module slot column row columns rows) := fun _ _ h => nomatch h
theorem driveTableChunk (t : Nat) (table offset length : Nat) : Statement (.driveTableChunk t table offset length) := fun _ _ h => nomatch h
theorem driveTableCommit (t : Nat) (table : Nat) : Statement (.driveTableCommit t table) := fun _ _ h => nomatch h
theorem presentationMode (t : Nat) (frameAtomic : Bool) : Statement (.presentationMode t frameAtomic) := fun _ _ h => nomatch h
theorem startSensing (t : Nat) (module : Nat) : Statement (.startSensing t module) := fun _ _ h => nomatch h
theorem ack (t : Nat) (packet : UpPacket) : Statement (.ack t packet) := fun _ _ h => nomatch h
theorem nak (t : Nat) (packet : UpPacket) : Statement (.nak t packet) := fun _ _ h => nomatch h
theorem readResponse (t : Nat) (packet : Bytes) (edb : Bool) : Statement (.readResponse t packet edb) := fun _ _ h => nomatch h
theorem status (t : Nat) (packet : UpPacket) (locked : Nat) (errors : List Nat) : Statement (.status t packet locked errors) := fun _ _ h => nomatch h
theorem retryTimeout (t : Nat) : Statement (.retryTimeout t) := fun _ _ h => nomatch h
theorem readTimeout (t : Nat) (tag : Nat) : Statement (.readTimeout t tag) := fun _ _ h => nomatch h
theorem checkRequest (t : Nat) (path : Path) (data : Bytes) : Statement (.checkRequest t path data) := fun _ _ h => nomatch h
theorem temperaturePoll (t : Nat) (module : Nat) (status : Bytes) : Statement (.temperaturePoll t module status) := fun _ _ h => nomatch h
theorem temperatureReportLost (t : Nat) (module : Nat) : Statement (.temperatureReportLost t module) := fun _ _ h => nomatch h
theorem driveTableWrite (t : Nat) (path : Path) (table : Nat) (data : Bytes) : Statement (.driveTableWrite t path table data) := fun _ _ h => nomatch h
theorem driveTableVerify (t : Nat) (crcs : List Nat) : Statement (.driveTableVerify t crcs) := fun _ _ h => nomatch h
theorem stressCounterUpdate (t : Nat) : Statement (.stressCounterUpdate t) := fun _ _ h => nomatch h
theorem senseRequest (t : Nat) (path : Path) (module : Nat) : Statement (.senseRequest t path module) := fun _ _ h => nomatch h
theorem senseResultRead (t : Nat) (result : Bytes) : Statement (.senseResultRead t result) := fun _ _ h => nomatch h
theorem portEnable (t : Nat) (path : Path) (port value : Nat) : Statement (.portEnable t path port value) := fun _ _ h => nomatch h
theorem frameStart (t : Nat) (port frameNumber : Nat) : Statement (.frameStart t port frameNumber) := fun _ _ h => nomatch h
theorem lineReceive (t : Nat) (port channel dataType headerEcc : Nat) (crcOk : Bool) (samples : List Nat) : Statement (.lineReceive t port channel dataType headerEcc crcOk samples) := fun _ _ h => nomatch h
theorem frameEnd (t : Nat) (port : Nat) : Statement (.frameEnd t port) := fun _ _ h => nomatch h
theorem frameEndTimeout (t : Nat) (port : Nat) : Statement (.frameEndTimeout t port) := fun _ _ h => nomatch h
theorem portLost (t : Nat) (port : Nat) : Statement (.portLost t port) := fun _ _ h => nomatch h
theorem ispFrameComplete (t : Nat) (job : JobResult) : Statement (.ispFrameComplete t job) := fun _ _ h => nomatch h
theorem ispPipelineFail (t : Nat) (pipeline : Nat) : Statement (.ispPipelineFail t pipeline) := fun _ _ h => nomatch h
theorem cciWriteDeadline (t : Nat) (port : Nat) : Statement (.cciWriteDeadline t port) := fun _ _ h => nomatch h
theorem cciWrite (t : Nat) (path : Path) (port : Nat) (data : Bytes) : Statement (.cciWrite t path port data) := fun _ _ h => nomatch h
theorem cciRead (t : Nat) (path : Path) (port : Nat) (data : Bytes) : Statement (.cciRead t path port data) := fun _ _ h => nomatch h
theorem cciTransactionComplete (t : Nat) (master : Nat) (acked : Bool) (data : Bytes) : Statement (.cciTransactionComplete t master acked data) := fun _ _ h => nomatch h
theorem cciBusStuck (t : Nat) (master : Nat) : Statement (.cciBusStuck t master) := fun _ _ h => nomatch h
theorem cciBusRecovery (t : Nat) (master : Nat) (busFree : Bool) : Statement (.cciBusRecovery t master busFree) := fun _ _ h => nomatch h
theorem pairEnable (t : Nat) (path : Path) (pair value : Nat) : Statement (.pairEnable t path pair value) := fun _ _ h => nomatch h
theorem stereoRowSearch (t : Nat) (job : JobResult) (row : Nat) : Statement (.stereoRowSearch t job row) := fun _ _ h => nomatch h
theorem stereoFrameAbandon (t : Nat) (pair : Nat) : Statement (.stereoFrameAbandon t pair) := fun _ _ h => nomatch h
theorem motionSearch (t : Nat) (job : JobResult) (blockX blockY : Nat) : Statement (.motionSearch t job blockX blockY) := fun _ _ h => nomatch h
theorem slalomEngineFail (t : Nat) (engine : Nat) : Statement (.slalomEngineFail t engine) := fun _ _ h => nomatch h
theorem streamEnable (t : Nat) (path : Path) (stream : Nat) : Statement (.streamEnable t path stream) := fun _ _ h => nomatch h
theorem streamDisable (t : Nat) (path : Path) (stream : Nat) : Statement (.streamDisable t path stream) := fun _ _ h => nomatch h
theorem pictureCode (t : Nat) (stream : Nat) (headerBits : Nat) (ctuBits : List Nat) (slice : Bytes) : Statement (.pictureCode t stream headerBits ctuBits slice) := fun _ _ h => nomatch h
theorem sealMake (t : Nat) (result : ItemResult) : Statement (.sealMake t result) := fun _ _ h => nomatch h
theorem encoderCoreFail (t : Nat) (core : Nat) : Statement (.encoderCoreFail t core) := fun _ _ h => nomatch h
theorem slotEnable (t : Nat) (path : Path) (slot : ItemResult) (value : Nat) : Statement (.slotEnable t path slot value) := fun _ _ h => nomatch h
theorem avtpReceive (t : Nat) (arrival : Arrival) (header : AvtpHeader) (sequence timestamp : Nat) (last : Bool) (payload : Bytes) : Statement (.avtpReceive t arrival header sequence timestamp last payload) := fun _ _ h => nomatch h
theorem pictureDecode (t : Nat) (slot : Nat) (unit : AccessUnit) : Statement (.pictureDecode t slot unit) := fun _ _ h => nomatch h
theorem slotStarved (t : Nat) (slot : Nat) : Statement (.slotStarved t slot) := fun _ _ h => nomatch h
theorem cycleBudgetOverrun (t : Nat) (slot : Nat) (unit : AccessUnit) (goodCtus : Nat) : Statement (.cycleBudgetOverrun t slot unit goodCtus) := fun _ _ h => nomatch h
theorem decoderCoreFail (t : Nat) (core : Nat) : Statement (.decoderCoreFail t core) := fun _ _ h => nomatch h
theorem hostJobCompress (t : Nat) (path : Path) (data : Bytes) : Statement (.hostJobCompress t path data) := fun _ _ h => nomatch h
theorem hostJobDecompress (t : Nat) (path : Path) (data : Bytes) : Statement (.hostJobDecompress t path data) := fun _ _ h => nomatch h
theorem groomerJobComplete (t : Nat) (verifyFailures : JobReport) : Statement (.groomerJobComplete t verifyFailures) := fun _ _ h => nomatch h
theorem blitList (t : Nat) (path : Path) (data : Bytes) : Statement (.blitList t path data) := fun _ _ h => nomatch h
theorem copy (draw : DrawInstant) : Statement (.copy draw) := fun _ _ h => nomatch h
theorem fill (draw : DrawInstant) : Statement (.fill draw) := fun _ _ h => nomatch h
theorem waitLine (t : Nat) (line : Nat) : Statement (.waitLine t line) := fun _ _ h => nomatch h
theorem blitStep (t : Nat) (fetchLine : Nat) : Statement (.blitStep t fetchLine) := fun _ _ h => nomatch h
theorem outputEnable (t : Nat) (path : Path) (output value : Nat) (trained : Bool) : Statement (.outputEnable t path output value trained) := fun _ _ h => nomatch h
theorem flatTrainingRetry (t : Nat) (output : Nat) (trained : Bool) : Statement (.flatTrainingRetry t output trained) := fun _ _ h => nomatch h
theorem hpdChange (t : Nat) (output : Nat) (high : Bool) (trained : Bool) : Statement (.hpdChange t output high trained) := fun _ _ h => nomatch h
theorem irqHpd (t : Nat) (output : Nat) (linkLost : Bool) (trained : Bool) : Statement (.irqHpd t output linkLost trained) := fun _ _ h => nomatch h
theorem scanCommit (t : Nat) (path : Path) (output : Nat) : Statement (.scanCommit t path output) := fun _ _ h => nomatch h
theorem scanLatch (t : Nat) (output : Nat) : Statement (.scanLatch t output) := fun _ _ h => nomatch h
theorem timingCommit (t : Nat) (path : Path) (output : Nat) : Statement (.timingCommit t path output) := fun _ _ h => nomatch h
theorem timingApply (t : Nat) (output : Nat) : Statement (.timingApply t output) := fun _ _ h => nomatch h
theorem underrunLine (t output : Nat) (place : ScanPlace) : Statement (.underrunLine t output place) := fun _ _ h => nomatch h
theorem dramAccess (t : Nat) (client : DramClient) (rank chunk block : Nat) (op : DramOp) (symbols : List Nat) : Statement (.dramAccess t client rank chunk block op symbols) := fun _ _ h => nomatch h
theorem migrationChunkCopy (step : CopyStep) : Statement (.migrationChunkCopy step) := fun _ _ h => nomatch h
theorem mr4Poll (t : Nat) (rank mr4 oscillator : Nat) : Statement (.mr4Poll t rank mr4 oscillator) := fun _ _ h => nomatch h
theorem refresh (t : Nat) (rank : Nat) (class1Waiting : Bool) : Statement (.refresh t rank class1Waiting) := fun _ _ h => nomatch h
theorem powerDownEntry (t : Nat) (rank : Nat) : Statement (.powerDownEntry t rank) := fun _ _ h => nomatch h
theorem patrolScrub (t : Nat) (rank chunk block : Nat) (symbols : List Nat) : Statement (.patrolScrub t rank chunk block symbols) := fun _ _ h => nomatch h
theorem channelTraining (t : Nat) (channel : Nat) (trained : Bool) (report : TrainingReport) : Statement (.channelTraining t channel trained report) := fun _ _ h => nomatch h
theorem driftRecentre (t : Nat) (channel temperature : Nat) (converged : Bool) : Statement (.driftRecentre t channel temperature converged) := fun _ _ h => nomatch h
theorem recentreRetry (t : Nat) (channel : Nat) (converged : Bool) : Statement (.recentreRetry t channel converged) := fun _ _ h => nomatch h
theorem sramScrub (t : Nat) (findings : List SramFinding) : Statement (.sramScrub t findings) := fun _ _ h => nomatch h
theorem housekeepingSlot (t : Nat) (channel reading : Nat) : Statement (.housekeepingSlot t channel reading) := fun _ _ h => nomatch h
theorem ploughEvaluation (t : Nat) : Statement (.ploughEvaluation t) := fun _ _ h => nomatch h
theorem powerLimit (t : Nat) (path : Path) (milliwatts : Nat) : Statement (.powerLimit t path milliwatts) := fun _ _ h => nomatch h
theorem macLinkChange (t : Nat) (mac rate : Nat) : Statement (.macLinkChange t mac rate) := fun _ _ h => nomatch h
theorem syncReceive (t : Nat) (arrival : PtpArrival) (masterTime : Nat) : Statement (.syncReceive t arrival masterTime) := fun _ _ h => nomatch h
theorem announceReceive (t : Nat) (arrival : PtpArrival) (data : Announce) : Statement (.announceReceive t arrival data) := fun _ _ h => nomatch h
theorem announceTimeout (t : Nat) (mac : Nat) : Statement (.announceTimeout t mac) := fun _ _ h => nomatch h
theorem syncSend (t : Nat) (mac : Nat) : Statement (.syncSend t mac) := fun _ _ h => nomatch h
theorem frameLockEdge (t : Nat) (input : Nat) : Statement (.frameLockEdge t input) := fun _ _ h => nomatch h
theorem frameLockLost (t : Nat) : Statement (.frameLockLost t) := fun _ _ h => nomatch h
theorem outputMode (t : Nat) (path : Path) (output mode : Nat) : Statement (.outputMode t path output mode) := fun _ _ h => nomatch h
theorem timeOutEdge (t : Nat) (output : Nat) : Statement (.timeOutEdge t output) := fun _ _ h => nomatch h
theorem captureEdge (t : Nat) (input : Nat) (rising : Bool) (width : Nat) : Statement (.captureEdge t input rising width) := fun _ _ h => nomatch h
theorem timestampsRead (t : Nat) (path : Path) (input : Nat) : Statement (.timestampsRead t path input) := fun _ _ h => nomatch h
theorem readinessDecision (t : Nat) : Statement (.readinessDecision t) := fun _ _ h => nomatch h
theorem readinessRepeat (t : Nat) : Statement (.readinessRepeat t) := fun _ _ h => nomatch h
theorem readinessFrameReceive (t : Nat) (datagram : ReadinessArrival) : Statement (.readinessFrameReceive t datagram) := fun _ _ h => nomatch h
theorem readinessDeadline (t : Nat) : Statement (.readinessDeadline t) := fun _ _ h => nomatch h
theorem hbEdge (t : Nat) : Statement (.hbEdge t) := fun _ _ h => nomatch h
theorem twinHeartbeat (t : Nat) (codeOk : Bool) (count state : Nat) : Statement (.twinHeartbeat t codeOk count state) := fun _ _ h => nomatch h
theorem twinHeartbeatSend (t : Nat) : Statement (.twinHeartbeatSend t) := fun _ _ h => nomatch h
theorem pathSilent (t : Nat) (twin : Bool) : Statement (.pathSilent t twin) := fun _ _ h => nomatch h
theorem takeover (t : Nat) : Statement (.takeover t) := fun _ _ h => nomatch h
theorem roleDecision (t : Nat) : Statement (.roleDecision t) := fun _ _ h => nomatch h
theorem dualStandbyResolve (t : Nat) : Statement (.dualStandbyResolve t) := fun _ _ h => nomatch h
theorem health (t : Nat) (packet : TwinReport) : Statement (.health t packet) := fun _ _ h => nomatch h
theorem healthSend (t : Nat) : Statement (.healthSend t) := fun _ _ h => nomatch h
theorem mirror (t : Nat) (sequence : Nat) (records : Bytes) : Statement (.mirror t sequence records) := fun _ _ h => nomatch h
theorem changed (t : Nat) (sequence offset : Nat) (bitmap : Bytes) : Statement (.changed t sequence offset bitmap) := fun _ _ h => nomatch h
theorem commit (t : Nat) (sequence epoch tag tick outcome : Nat) : Statement (.commit t sequence epoch tag tick outcome) := fun _ _ h => nomatch h
theorem stress (t : Nat) (sequence offset : Nat) (data : Bytes) : Statement (.stress t sequence offset data) := fun _ _ h => nomatch h
theorem statistics (t : Nat) (sequence port : Nat) (block : Bytes) : Statement (.statistics t sequence port block) := fun _ _ h => nomatch h
theorem handover (t : Nat) (sequence ownershipEpoch mirrorSequence : Nat) : Statement (.handover t sequence ownershipEpoch mirrorSequence) := fun _ _ h => nomatch h
theorem hello (t : Nat) (sequence : Nat) : Statement (.hello t sequence) := fun _ _ h => nomatch h
theorem twinLaneRetire (t : Nat) (found : TwinLaneReport) : Statement (.twinLaneRetire t found) := fun _ _ h => nomatch h
theorem roleHandover (t : Nat) (path : Path) : Statement (.roleHandover t path) := fun _ _ h => nomatch h
theorem handoverTimeout (t : Nat) : Statement (.handoverTimeout t) := fun _ _ h => nomatch h
theorem faultHandlingSlot (t : Nat) : Statement (.faultHandlingSlot t) := fun _ _ h => nomatch h
theorem fullResetServe (t : Nat) : Statement (.fullResetServe t) := fun _ _ h => nomatch h
theorem beaconEntryWrite (t : Nat) (readBackOk : Bool) (rate : Nat) : Statement (.beaconEntryWrite t readBackOk rate) := fun _ _ h => nomatch h
theorem recoveryEntry (t : Nat) : Statement (.recoveryEntry t) := fun _ _ h => nomatch h
theorem hostNote (t : Nat) (path : Path) (note : Bytes) : Statement (.hostNote t path note) := fun _ _ h => nomatch h
theorem beaconRead (t : Nat) (path : Path) : Statement (.beaconRead t path) := fun _ _ h => nomatch h
theorem pfailGlitch (t : Nat) : Statement (.pfailGlitch t) := fun _ _ h => nomatch h
theorem pfailRecognition (t : Nat) : Statement (.pfailRecognition t) := fun _ _ h => nomatch h
theorem pfailRelease (t : Nat) : Statement (.pfailRelease t) := fun _ _ h => nomatch h
theorem pfailWaitForReset (t : Nat) : Statement (.pfailWaitForReset t) := fun _ _ h => nomatch h
theorem resetNAssert (t : Nat) (width : Nat) : Statement (.resetNAssert t width) := fun _ _ h => nomatch h
theorem coldStart (t : Nat) (facts : BootFacts) : Statement (.coldStart t facts) := fun _ _ h => nomatch h
theorem startupWritesResume (t : Nat) : Statement (.startupWritesResume t) := fun _ _ h => nomatch h
theorem watchdogReset (t : Nat) : Statement (.watchdogReset t) := fun _ _ h => nomatch h
theorem lockstepMismatch (t : Nat) : Statement (.lockstepMismatch t) := fun _ _ h => nomatch h
theorem xtalSwitch (t : Nat) : Statement (.xtalSwitch t) := fun _ _ h => nomatch h
theorem calibrateBias (t : Nat) (first second : Nat) (withinBudget : Bool) : Statement (.calibrateBias t first second withinBudget) := fun _ _ h => nomatch h
theorem calibrateOscillators (t : Nat) (rcTap : Nat) (sensorTaps : List Nat) (converged : Bool) : Statement (.calibrateOscillators t rcTap sensorTaps converged) := fun _ _ h => nomatch h
theorem calibrateTemperature (t : Nat) (means : List Int) (steady : Bool) : Statement (.calibrateTemperature t means steady) := fun _ _ h => nomatch h
theorem calibrateSram (t : Nat) (findings : List SramFinding) (finished : Bool) : Statement (.calibrateSram t findings finished) := fun _ _ h => nomatch h
theorem calibrationRunEnd (t : Nat) : Statement (.calibrationRunEnd t) := fun _ _ h => nomatch h
theorem otpBurn (t : Nat) (path : Path) (value : Nat) : Statement (.otpBurn t path value) := fun _ _ h => nomatch h
theorem otpBurnComplete (t : Nat) (readBackOk : Bool) : Statement (.otpBurnComplete t readBackOk) := fun _ _ h => nomatch h
theorem firmwareInstall (t : Nat) (path : Path) (image : Bytes) (readBackOk : Bool) : Statement (.firmwareInstall t path image readBackOk) := fun _ _ h => nomatch h
theorem twinLinkTraining (t : Nat) (locked : Nat) : Statement (.twinLinkTraining t locked) := fun _ _ h => nomatch h
theorem twinAck (t : Nat) (isNak : Bool) (sequence : Nat) : Statement (.twinAck t isNak sequence) := fun _ _ h => nomatch h
theorem twinRetryTimeout (t : Nat) : Statement (.twinRetryTimeout t) := fun _ _ h => nomatch h
theorem blitterFault (t : Nat) : Statement (.blitterFault t) := fun _ _ h => nomatch h
theorem carverFault (t : Nat) (carver : Nat) : Statement (.carverFault t carver) := fun _ _ h => nomatch h
theorem sealDeadline (t : Nat) (stream : Nat) : Statement (.sealDeadline t stream) := fun _ _ h => nomatch h
theorem laneLoopback (t : Nat) (lane : Nat) (passed : Bool) : Statement (.laneLoopback t lane passed) := fun _ _ h => nomatch h
theorem announceSend (t : Nat) (mac : Nat) : Statement (.announceSend t mac) := fun _ _ h => nomatch h
theorem delayRequestResponse (t : Nat) (arrival : PtpArrival) (message : DelayMessage) (requester delay : Nat) : Statement (.delayRequestResponse t arrival message requester delay) := fun _ _ h => nomatch h
theorem arpNeighbourDiscovery (t : Nat) (arrival : Arrival) (v6 : Bool) (request : Bool) (sender senderMac target : Nat) : Statement (.arpNeighbourDiscovery t arrival v6 request sender senderMac target) := fun _ _ h => nomatch h
theorem icmpEcho (t : Nat) (arrival : Arrival) (v6 : Bool) (sender target : Nat) (data : Bytes) : Statement (.icmpEcho t arrival v6 sender target data) := fun _ _ h => nomatch h

end Sys2Proof.Laws.NoWord
end

