-- ==== Sys2Proof/Laws/Raise.lean ====
section
/-!
SUPPORT. Sys2Proof/Laws/Raise.lean: what the Beacon's entries, raises, clears and emergencies leave alone: one lemma per
operation and part of the state that it does not touch.
-/

namespace Sys2Proof.Machine

/-! ### jobDone -/

@[simp] theorem State.jobDone_pending (s : State) (plain coded : Nat) (gain : Bool) : (s.jobDone plain coded gain).pending = s.pending := by
  unfold State.jobDone
  dsimp only
  split_ifs <;> simp
@[simp] theorem State.jobDone_now (s : State) (plain coded : Nat) (gain : Bool) : (s.jobDone plain coded gain).now = s.now := by
  unfold State.jobDone
  dsimp only
  split_ifs <;> simp
@[simp] theorem State.jobDone_free (s : State) (plain coded : Nat) (gain : Bool) : (s.jobDone plain coded gain).free = s.free := by
  unfold State.jobDone
  dsimp only
  split_ifs <;> simp
@[simp] theorem State.jobDone_doms (s : State) (plain coded : Nat) (gain : Bool) : (s.jobDone plain coded gain).doms = s.doms := by
  unfold State.jobDone
  dsimp only
  split_ifs <;> simp
@[simp] theorem State.jobDone_pendR (s : State) (plain coded : Nat) (gain : Bool) : (s.jobDone plain coded gain).pendR = s.pendR := by
  unfold State.jobDone
  dsimp only
  split_ifs <;> simp
@[simp] theorem State.jobDone_pendD (s : State) (plain coded : Nat) (gain : Bool) : (s.jobDone plain coded gain).pendD = s.pendD := by
  unfold State.jobDone
  dsimp only
  split_ifs <;> simp
@[simp] theorem State.jobDone_burnR (s : State) (plain coded : Nat) (gain : Bool) : (s.jobDone plain coded gain).burnR = s.burnR := by
  unfold State.jobDone
  dsimp only
  split_ifs <;> simp
@[simp] theorem State.jobDone_burnD (s : State) (plain coded : Nat) (gain : Bool) : (s.jobDone plain coded gain).burnD = s.burnD := by
  unfold State.jobDone
  dsimp only
  split_ifs <;> simp
@[simp] theorem State.jobDone_power (s : State) (plain coded : Nat) (gain : Bool) : (s.jobDone plain coded gain).power = s.power := by
  unfold State.jobDone
  dsimp only
  split_ifs <;> simp
@[simp] theorem State.jobDone_cal (s : State) (plain coded : Nat) (gain : Bool) : (s.jobDone plain coded gain).cal = s.cal := by
  unfold State.jobDone
  dsimp only
  split_ifs <;> simp
@[simp] theorem State.jobDone_lift (s : State) (plain coded : Nat) (gain : Bool) : (s.jobDone plain coded gain).lift = s.lift := by
  unfold State.jobDone
  dsimp only
  split_ifs <;> simp
@[simp] theorem State.jobDone_scene (s : State) (plain coded : Nat) (gain : Bool) : (s.jobDone plain coded gain).scene = s.scene := by
  unfold State.jobDone
  dsimp only
  split_ifs <;> simp
@[simp] theorem State.jobDone_banks (s : State) (plain coded : Nat) (gain : Bool) : (s.jobDone plain coded gain).banks = s.banks := by
  unfold State.jobDone
  dsimp only
  split_ifs <;> simp
@[simp] theorem State.jobDone_link (s : State) (plain coded : Nat) (gain : Bool) : (s.jobDone plain coded gain).link = s.link := by
  unfold State.jobDone
  dsimp only
  split_ifs <;> simp
@[simp] theorem State.jobDone_care (s : State) (plain coded : Nat) (gain : Bool) : (s.jobDone plain coded gain).care = s.care := by
  unfold State.jobDone
  dsimp only
  split_ifs <;> simp
@[simp] theorem State.jobDone_pair (s : State) (plain coded : Nat) (gain : Bool) : (s.jobDone plain coded gain).pair = s.pair := by
  unfold State.jobDone
  dsimp only
  split_ifs <;> simp
@[simp] theorem State.jobDone_clock (s : State) (plain coded : Nat) (gain : Bool) : (s.jobDone plain coded gain).clock = s.clock := by
  unfold State.jobDone
  dsimp only
  split_ifs <;> simp
@[simp] theorem State.jobDone_media (s : State) (plain coded : Nat) (gain : Bool) : (s.jobDone plain coded gain).media = s.media := by
  unfold State.jobDone
  dsimp only
  split_ifs <;> simp
@[simp] theorem State.jobDone_memory (s : State) (plain coded : Nat) (gain : Bool) : (s.jobDone plain coded gain).memory = s.memory := by
  unfold State.jobDone
  dsimp only
  split_ifs <;> simp
@[simp] theorem State.jobDone_net (s : State) (plain coded : Nat) (gain : Bool) : (s.jobDone plain coded gain).net = s.net := by
  unfold State.jobDone
  dsimp only
  split_ifs <;> simp

@[simp] theorem State.jobDone_tx (s : State) (plain coded : Nat) (gain : Bool) : (s.jobDone plain coded gain).tx = s.tx := by
  unfold State.jobDone
  dsimp only
  split_ifs <;> simp

/-! ### newEntry -/

@[simp] theorem State.newEntry_pending (s : State) (kind flags : Nat) (body payload : Bytes) : (s.newEntry kind flags body payload).1.pending = s.pending := rfl
@[simp] theorem State.newEntry_now (s : State) (kind flags : Nat) (body payload : Bytes) : (s.newEntry kind flags body payload).1.now = s.now := rfl
@[simp] theorem State.newEntry_free (s : State) (kind flags : Nat) (body payload : Bytes) : (s.newEntry kind flags body payload).1.free = s.free := rfl
@[simp] theorem State.newEntry_doms (s : State) (kind flags : Nat) (body payload : Bytes) : (s.newEntry kind flags body payload).1.doms = s.doms := rfl
@[simp] theorem State.newEntry_pendR (s : State) (kind flags : Nat) (body payload : Bytes) : (s.newEntry kind flags body payload).1.pendR = s.pendR := rfl
@[simp] theorem State.newEntry_pendD (s : State) (kind flags : Nat) (body payload : Bytes) : (s.newEntry kind flags body payload).1.pendD = s.pendD := rfl
@[simp] theorem State.newEntry_burnR (s : State) (kind flags : Nat) (body payload : Bytes) : (s.newEntry kind flags body payload).1.burnR = s.burnR := rfl
@[simp] theorem State.newEntry_burnD (s : State) (kind flags : Nat) (body payload : Bytes) : (s.newEntry kind flags body payload).1.burnD = s.burnD := rfl
@[simp] theorem State.newEntry_power (s : State) (kind flags : Nat) (body payload : Bytes) : (s.newEntry kind flags body payload).1.power = s.power := rfl
@[simp] theorem State.newEntry_cal (s : State) (kind flags : Nat) (body payload : Bytes) : (s.newEntry kind flags body payload).1.cal = s.cal := rfl
@[simp] theorem State.newEntry_lift (s : State) (kind flags : Nat) (body payload : Bytes) : (s.newEntry kind flags body payload).1.lift = s.lift := rfl
@[simp] theorem State.newEntry_scene (s : State) (kind flags : Nat) (body payload : Bytes) : (s.newEntry kind flags body payload).1.scene = s.scene := rfl
@[simp] theorem State.newEntry_banks (s : State) (kind flags : Nat) (body payload : Bytes) : (s.newEntry kind flags body payload).1.banks = s.banks := rfl
@[simp] theorem State.newEntry_link (s : State) (kind flags : Nat) (body payload : Bytes) : (s.newEntry kind flags body payload).1.link = s.link := rfl
@[simp] theorem State.newEntry_care (s : State) (kind flags : Nat) (body payload : Bytes) : (s.newEntry kind flags body payload).1.care = s.care := rfl
@[simp] theorem State.newEntry_pair (s : State) (kind flags : Nat) (body payload : Bytes) : (s.newEntry kind flags body payload).1.pair = s.pair := rfl
@[simp] theorem State.newEntry_clock (s : State) (kind flags : Nat) (body payload : Bytes) : (s.newEntry kind flags body payload).1.clock = s.clock := rfl
@[simp] theorem State.newEntry_media (s : State) (kind flags : Nat) (body payload : Bytes) : (s.newEntry kind flags body payload).1.media = s.media := rfl
@[simp] theorem State.newEntry_memory (s : State) (kind flags : Nat) (body payload : Bytes) : (s.newEntry kind flags body payload).1.memory = s.memory := rfl
@[simp] theorem State.newEntry_net (s : State) (kind flags : Nat) (body payload : Bytes) : (s.newEntry kind flags body payload).1.net = s.net := rfl

@[simp] theorem State.newEntry_tx (s : State) (kind flags : Nat) (body payload : Bytes) : (s.newEntry kind flags body payload).1.tx = s.tx := rfl

/-! ### beaconPut -/

@[simp] theorem State.beaconPut_pending (s : State) (e : Entry) : (s.beaconPut e).1.pending = s.pending := by
  unfold State.beaconPut
  dsimp only
  split_ifs <;> simp
@[simp] theorem State.beaconPut_now (s : State) (e : Entry) : (s.beaconPut e).1.now = s.now := by
  unfold State.beaconPut
  dsimp only
  split_ifs <;> simp
@[simp] theorem State.beaconPut_free (s : State) (e : Entry) : (s.beaconPut e).1.free = s.free := by
  unfold State.beaconPut
  dsimp only
  split_ifs <;> simp
@[simp] theorem State.beaconPut_doms (s : State) (e : Entry) : (s.beaconPut e).1.doms = s.doms := by
  unfold State.beaconPut
  dsimp only
  split_ifs <;> simp
@[simp] theorem State.beaconPut_pendR (s : State) (e : Entry) : (s.beaconPut e).1.pendR = s.pendR := by
  unfold State.beaconPut
  dsimp only
  split_ifs <;> simp
@[simp] theorem State.beaconPut_pendD (s : State) (e : Entry) : (s.beaconPut e).1.pendD = s.pendD := by
  unfold State.beaconPut
  dsimp only
  split_ifs <;> simp
@[simp] theorem State.beaconPut_burnR (s : State) (e : Entry) : (s.beaconPut e).1.burnR = s.burnR := by
  unfold State.beaconPut
  dsimp only
  split_ifs <;> simp
@[simp] theorem State.beaconPut_burnD (s : State) (e : Entry) : (s.beaconPut e).1.burnD = s.burnD := by
  unfold State.beaconPut
  dsimp only
  split_ifs <;> simp
@[simp] theorem State.beaconPut_power (s : State) (e : Entry) : (s.beaconPut e).1.power = s.power := by
  unfold State.beaconPut
  dsimp only
  split_ifs <;> simp
@[simp] theorem State.beaconPut_cal (s : State) (e : Entry) : (s.beaconPut e).1.cal = s.cal := by
  unfold State.beaconPut
  dsimp only
  split_ifs <;> simp
@[simp] theorem State.beaconPut_lift (s : State) (e : Entry) : (s.beaconPut e).1.lift = s.lift := by
  unfold State.beaconPut
  dsimp only
  split_ifs <;> simp
@[simp] theorem State.beaconPut_scene (s : State) (e : Entry) : (s.beaconPut e).1.scene = s.scene := by
  unfold State.beaconPut
  dsimp only
  split_ifs <;> simp
@[simp] theorem State.beaconPut_banks (s : State) (e : Entry) : (s.beaconPut e).1.banks = s.banks := by
  unfold State.beaconPut
  dsimp only
  split_ifs <;> simp
@[simp] theorem State.beaconPut_link (s : State) (e : Entry) : (s.beaconPut e).1.link = s.link := by
  unfold State.beaconPut
  dsimp only
  split_ifs <;> simp
@[simp] theorem State.beaconPut_care (s : State) (e : Entry) : (s.beaconPut e).1.care = s.care := by
  unfold State.beaconPut
  dsimp only
  split_ifs <;> simp
@[simp] theorem State.beaconPut_pair (s : State) (e : Entry) : (s.beaconPut e).1.pair = s.pair := by
  unfold State.beaconPut
  dsimp only
  split_ifs <;> simp
@[simp] theorem State.beaconPut_clock (s : State) (e : Entry) : (s.beaconPut e).1.clock = s.clock := by
  unfold State.beaconPut
  dsimp only
  split_ifs <;> simp
@[simp] theorem State.beaconPut_media (s : State) (e : Entry) : (s.beaconPut e).1.media = s.media := by
  unfold State.beaconPut
  dsimp only
  split_ifs <;> simp
@[simp] theorem State.beaconPut_memory (s : State) (e : Entry) : (s.beaconPut e).1.memory = s.memory := by
  unfold State.beaconPut
  dsimp only
  split_ifs <;> simp
@[simp] theorem State.beaconPut_net (s : State) (e : Entry) : (s.beaconPut e).1.net = s.net := by
  unfold State.beaconPut
  dsimp only
  split_ifs <;> simp

@[simp] theorem State.beaconPut_tx (s : State) (e : Entry) : (s.beaconPut e).1.tx = s.tx := by
  unfold State.beaconPut
  dsimp only
  split_ifs <;> simp

/-! ### contain -/

@[simp] theorem State.contain_pending (s : State) (fn cause : Nat) (e : Effect) : (s.contain fn cause e).pending = s.pending := by
  unfold State.contain
  split
  · rfl
  · split <;> rfl
  · rfl
@[simp] theorem State.contain_now (s : State) (fn cause : Nat) (e : Effect) : (s.contain fn cause e).now = s.now := by
  unfold State.contain
  split
  · rfl
  · split <;> rfl
  · rfl
@[simp] theorem State.contain_free (s : State) (fn cause : Nat) (e : Effect) : (s.contain fn cause e).free = s.free := by
  unfold State.contain
  split
  · rfl
  · split <;> rfl
  · rfl
@[simp] theorem State.contain_doms (s : State) (fn cause : Nat) (e : Effect) : (s.contain fn cause e).doms = s.doms := by
  unfold State.contain
  split
  · rfl
  · split <;> rfl
  · rfl
@[simp] theorem State.contain_pendR (s : State) (fn cause : Nat) (e : Effect) : (s.contain fn cause e).pendR = s.pendR := by
  unfold State.contain
  split
  · rfl
  · split <;> rfl
  · rfl
@[simp] theorem State.contain_pendD (s : State) (fn cause : Nat) (e : Effect) : (s.contain fn cause e).pendD = s.pendD := by
  unfold State.contain
  split
  · rfl
  · split <;> rfl
  · rfl
@[simp] theorem State.contain_burnR (s : State) (fn cause : Nat) (e : Effect) : (s.contain fn cause e).burnR = s.burnR := by
  unfold State.contain
  split
  · rfl
  · split <;> rfl
  · rfl
@[simp] theorem State.contain_burnD (s : State) (fn cause : Nat) (e : Effect) : (s.contain fn cause e).burnD = s.burnD := by
  unfold State.contain
  split
  · rfl
  · split <;> rfl
  · rfl
@[simp] theorem State.contain_power (s : State) (fn cause : Nat) (e : Effect) : (s.contain fn cause e).power = s.power := by
  unfold State.contain
  split
  · rfl
  · split <;> rfl
  · rfl
@[simp] theorem State.contain_cal (s : State) (fn cause : Nat) (e : Effect) : (s.contain fn cause e).cal = s.cal := by
  unfold State.contain
  split
  · rfl
  · split <;> rfl
  · rfl
@[simp] theorem State.contain_lift (s : State) (fn cause : Nat) (e : Effect) : (s.contain fn cause e).lift = s.lift := by
  unfold State.contain
  split
  · rfl
  · split <;> rfl
  · rfl
@[simp] theorem State.contain_scene (s : State) (fn cause : Nat) (e : Effect) : (s.contain fn cause e).scene = s.scene := by
  unfold State.contain
  split
  · rfl
  · split <;> rfl
  · rfl
@[simp] theorem State.contain_banks (s : State) (fn cause : Nat) (e : Effect) : (s.contain fn cause e).banks = s.banks := by
  unfold State.contain
  split
  · rfl
  · split <;> rfl
  · rfl
@[simp] theorem State.contain_link (s : State) (fn cause : Nat) (e : Effect) : (s.contain fn cause e).link = s.link := by
  unfold State.contain
  split
  · rfl
  · split <;> rfl
  · rfl
@[simp] theorem State.contain_care (s : State) (fn cause : Nat) (e : Effect) : (s.contain fn cause e).care = s.care := by
  unfold State.contain
  split
  · rfl
  · split <;> rfl
  · rfl
@[simp] theorem State.contain_pair (s : State) (fn cause : Nat) (e : Effect) : (s.contain fn cause e).pair = s.pair := by
  unfold State.contain
  split
  · rfl
  · split <;> rfl
  · rfl
@[simp] theorem State.contain_clock (s : State) (fn cause : Nat) (e : Effect) : (s.contain fn cause e).clock = s.clock := by
  unfold State.contain
  split
  · rfl
  · split <;> rfl
  · rfl
@[simp] theorem State.contain_media (s : State) (fn cause : Nat) (e : Effect) : (s.contain fn cause e).media = s.media := by
  unfold State.contain
  split
  · rfl
  · split <;> rfl
  · rfl
@[simp] theorem State.contain_memory (s : State) (fn cause : Nat) (e : Effect) : (s.contain fn cause e).memory = s.memory := by
  unfold State.contain
  split
  · rfl
  · split <;> rfl
  · rfl
@[simp] theorem State.contain_net (s : State) (fn cause : Nat) (e : Effect) : (s.contain fn cause e).net = s.net := by
  unfold State.contain
  split
  · rfl
  · split <;> rfl
  · rfl

@[simp] theorem State.contain_tx (s : State) (fn cause : Nat) (e : Effect) : (s.contain fn cause e).tx = s.tx := by
  unfold State.contain
  split
  · rfl
  · split <;> rfl
  · rfl

/-! ### countFault -/

@[simp] theorem State.countFault_pending (s : State) (f : FaultEntry) : (s.countFault f).pending = s.pending := by
  unfold State.countFault
  simp
@[simp] theorem State.countFault_now (s : State) (f : FaultEntry) : (s.countFault f).now = s.now := by
  unfold State.countFault
  simp
@[simp] theorem State.countFault_free (s : State) (f : FaultEntry) : (s.countFault f).free = s.free := by
  unfold State.countFault
  simp
@[simp] theorem State.countFault_doms (s : State) (f : FaultEntry) : (s.countFault f).doms = s.doms := by
  unfold State.countFault
  simp
@[simp] theorem State.countFault_pendR (s : State) (f : FaultEntry) : (s.countFault f).pendR = s.pendR := by
  unfold State.countFault
  simp
@[simp] theorem State.countFault_pendD (s : State) (f : FaultEntry) : (s.countFault f).pendD = s.pendD := by
  unfold State.countFault
  simp
@[simp] theorem State.countFault_burnR (s : State) (f : FaultEntry) : (s.countFault f).burnR = s.burnR := by
  unfold State.countFault
  simp
@[simp] theorem State.countFault_burnD (s : State) (f : FaultEntry) : (s.countFault f).burnD = s.burnD := by
  unfold State.countFault
  simp
@[simp] theorem State.countFault_power (s : State) (f : FaultEntry) : (s.countFault f).power = s.power := by
  unfold State.countFault
  simp
@[simp] theorem State.countFault_cal (s : State) (f : FaultEntry) : (s.countFault f).cal = s.cal := by
  unfold State.countFault
  simp
@[simp] theorem State.countFault_lift (s : State) (f : FaultEntry) : (s.countFault f).lift = s.lift := by
  unfold State.countFault
  simp
@[simp] theorem State.countFault_scene (s : State) (f : FaultEntry) : (s.countFault f).scene = s.scene := by
  unfold State.countFault
  simp
@[simp] theorem State.countFault_banks (s : State) (f : FaultEntry) : (s.countFault f).banks = s.banks := by
  unfold State.countFault
  simp
@[simp] theorem State.countFault_link (s : State) (f : FaultEntry) : (s.countFault f).link = s.link := by
  unfold State.countFault
  simp
@[simp] theorem State.countFault_care (s : State) (f : FaultEntry) : (s.countFault f).care = s.care := by
  unfold State.countFault
  simp
@[simp] theorem State.countFault_pair (s : State) (f : FaultEntry) : (s.countFault f).pair = s.pair := by
  unfold State.countFault
  simp
@[simp] theorem State.countFault_clock (s : State) (f : FaultEntry) : (s.countFault f).clock = s.clock := by
  unfold State.countFault
  simp
@[simp] theorem State.countFault_media (s : State) (f : FaultEntry) : (s.countFault f).media = s.media := by
  unfold State.countFault
  simp
@[simp] theorem State.countFault_memory (s : State) (f : FaultEntry) : (s.countFault f).memory = s.memory := by
  unfold State.countFault
  simp
@[simp] theorem State.countFault_net (s : State) (f : FaultEntry) : (s.countFault f).net = s.net := by
  unfold State.countFault
  simp

@[simp] theorem State.countFault_tx (s : State) (f : FaultEntry) : (s.countFault f).tx = s.tx := by
  unfold State.countFault
  simp

/-! ### queueFault -/

@[simp] theorem State.queueFault_pending (s : State) (f : FaultEntry) (start : Nat) : (s.queueFault f start).pending = s.pending := by
  unfold State.queueFault
  dsimp only
  split
  · rfl
  · split <;> simp
@[simp] theorem State.queueFault_now (s : State) (f : FaultEntry) (start : Nat) : (s.queueFault f start).now = s.now := by
  unfold State.queueFault
  dsimp only
  split
  · rfl
  · split <;> simp
@[simp] theorem State.queueFault_free (s : State) (f : FaultEntry) (start : Nat) : (s.queueFault f start).free = s.free := by
  unfold State.queueFault
  dsimp only
  split
  · rfl
  · split <;> simp
@[simp] theorem State.queueFault_doms (s : State) (f : FaultEntry) (start : Nat) : (s.queueFault f start).doms = s.doms := by
  unfold State.queueFault
  dsimp only
  split
  · rfl
  · split <;> simp
@[simp] theorem State.queueFault_pendR (s : State) (f : FaultEntry) (start : Nat) : (s.queueFault f start).pendR = s.pendR := by
  unfold State.queueFault
  dsimp only
  split
  · rfl
  · split <;> simp
@[simp] theorem State.queueFault_pendD (s : State) (f : FaultEntry) (start : Nat) : (s.queueFault f start).pendD = s.pendD := by
  unfold State.queueFault
  dsimp only
  split
  · rfl
  · split <;> simp
@[simp] theorem State.queueFault_burnR (s : State) (f : FaultEntry) (start : Nat) : (s.queueFault f start).burnR = s.burnR := by
  unfold State.queueFault
  dsimp only
  split
  · rfl
  · split <;> simp
@[simp] theorem State.queueFault_burnD (s : State) (f : FaultEntry) (start : Nat) : (s.queueFault f start).burnD = s.burnD := by
  unfold State.queueFault
  dsimp only
  split
  · rfl
  · split <;> simp
@[simp] theorem State.queueFault_power (s : State) (f : FaultEntry) (start : Nat) : (s.queueFault f start).power = s.power := by
  unfold State.queueFault
  dsimp only
  split
  · rfl
  · split <;> simp
@[simp] theorem State.queueFault_cal (s : State) (f : FaultEntry) (start : Nat) : (s.queueFault f start).cal = s.cal := by
  unfold State.queueFault
  dsimp only
  split
  · rfl
  · split <;> simp
@[simp] theorem State.queueFault_lift (s : State) (f : FaultEntry) (start : Nat) : (s.queueFault f start).lift = s.lift := by
  unfold State.queueFault
  dsimp only
  split
  · rfl
  · split <;> simp
@[simp] theorem State.queueFault_scene (s : State) (f : FaultEntry) (start : Nat) : (s.queueFault f start).scene = s.scene := by
  unfold State.queueFault
  dsimp only
  split
  · rfl
  · split <;> simp
@[simp] theorem State.queueFault_banks (s : State) (f : FaultEntry) (start : Nat) : (s.queueFault f start).banks = s.banks := by
  unfold State.queueFault
  dsimp only
  split
  · rfl
  · split <;> simp
@[simp] theorem State.queueFault_link (s : State) (f : FaultEntry) (start : Nat) : (s.queueFault f start).link = s.link := by
  unfold State.queueFault
  dsimp only
  split
  · rfl
  · split <;> simp
@[simp] theorem State.queueFault_care (s : State) (f : FaultEntry) (start : Nat) : (s.queueFault f start).care = s.care := by
  unfold State.queueFault
  dsimp only
  split
  · rfl
  · split <;> simp
@[simp] theorem State.queueFault_pair (s : State) (f : FaultEntry) (start : Nat) : (s.queueFault f start).pair = s.pair := by
  unfold State.queueFault
  dsimp only
  split
  · rfl
  · split <;> simp
@[simp] theorem State.queueFault_clock (s : State) (f : FaultEntry) (start : Nat) : (s.queueFault f start).clock = s.clock := by
  unfold State.queueFault
  dsimp only
  split
  · rfl
  · split <;> simp
@[simp] theorem State.queueFault_media (s : State) (f : FaultEntry) (start : Nat) : (s.queueFault f start).media = s.media := by
  unfold State.queueFault
  dsimp only
  split
  · rfl
  · split <;> simp
@[simp] theorem State.queueFault_memory (s : State) (f : FaultEntry) (start : Nat) : (s.queueFault f start).memory = s.memory := by
  unfold State.queueFault
  dsimp only
  split
  · rfl
  · split <;> simp
@[simp] theorem State.queueFault_net (s : State) (f : FaultEntry) (start : Nat) : (s.queueFault f start).net = s.net := by
  unfold State.queueFault
  dsimp only
  split
  · rfl
  · split <;> simp

@[simp] theorem State.queueFault_tx (s : State) (f : FaultEntry) (start : Nat) : (s.queueFault f start).tx = s.tx := by
  unfold State.queueFault
  dsimp only
  split
  · rfl
  · split <;> simp

/-! ### repeatFault -/

@[simp] theorem State.repeatFault_pending (s : State) (f : FaultEntry) (detail : Nat) : (s.repeatFault f detail).pending = s.pending := by
  unfold State.repeatFault
  simp
@[simp] theorem State.repeatFault_now (s : State) (f : FaultEntry) (detail : Nat) : (s.repeatFault f detail).now = s.now := by
  unfold State.repeatFault
  simp
@[simp] theorem State.repeatFault_free (s : State) (f : FaultEntry) (detail : Nat) : (s.repeatFault f detail).free = s.free := by
  unfold State.repeatFault
  simp
@[simp] theorem State.repeatFault_doms (s : State) (f : FaultEntry) (detail : Nat) : (s.repeatFault f detail).doms = s.doms := by
  unfold State.repeatFault
  simp
@[simp] theorem State.repeatFault_pendR (s : State) (f : FaultEntry) (detail : Nat) : (s.repeatFault f detail).pendR = s.pendR := by
  unfold State.repeatFault
  simp
@[simp] theorem State.repeatFault_pendD (s : State) (f : FaultEntry) (detail : Nat) : (s.repeatFault f detail).pendD = s.pendD := by
  unfold State.repeatFault
  simp
@[simp] theorem State.repeatFault_burnR (s : State) (f : FaultEntry) (detail : Nat) : (s.repeatFault f detail).burnR = s.burnR := by
  unfold State.repeatFault
  simp
@[simp] theorem State.repeatFault_burnD (s : State) (f : FaultEntry) (detail : Nat) : (s.repeatFault f detail).burnD = s.burnD := by
  unfold State.repeatFault
  simp
@[simp] theorem State.repeatFault_power (s : State) (f : FaultEntry) (detail : Nat) : (s.repeatFault f detail).power = s.power := by
  unfold State.repeatFault
  simp
@[simp] theorem State.repeatFault_cal (s : State) (f : FaultEntry) (detail : Nat) : (s.repeatFault f detail).cal = s.cal := by
  unfold State.repeatFault
  simp
@[simp] theorem State.repeatFault_lift (s : State) (f : FaultEntry) (detail : Nat) : (s.repeatFault f detail).lift = s.lift := by
  unfold State.repeatFault
  simp
@[simp] theorem State.repeatFault_scene (s : State) (f : FaultEntry) (detail : Nat) : (s.repeatFault f detail).scene = s.scene := by
  unfold State.repeatFault
  simp
@[simp] theorem State.repeatFault_banks (s : State) (f : FaultEntry) (detail : Nat) : (s.repeatFault f detail).banks = s.banks := by
  unfold State.repeatFault
  simp
@[simp] theorem State.repeatFault_link (s : State) (f : FaultEntry) (detail : Nat) : (s.repeatFault f detail).link = s.link := by
  unfold State.repeatFault
  simp
@[simp] theorem State.repeatFault_care (s : State) (f : FaultEntry) (detail : Nat) : (s.repeatFault f detail).care = s.care := by
  unfold State.repeatFault
  simp
@[simp] theorem State.repeatFault_pair (s : State) (f : FaultEntry) (detail : Nat) : (s.repeatFault f detail).pair = s.pair := by
  unfold State.repeatFault
  simp
@[simp] theorem State.repeatFault_clock (s : State) (f : FaultEntry) (detail : Nat) : (s.repeatFault f detail).clock = s.clock := by
  unfold State.repeatFault
  simp
@[simp] theorem State.repeatFault_media (s : State) (f : FaultEntry) (detail : Nat) : (s.repeatFault f detail).media = s.media := by
  unfold State.repeatFault
  simp
@[simp] theorem State.repeatFault_memory (s : State) (f : FaultEntry) (detail : Nat) : (s.repeatFault f detail).memory = s.memory := by
  unfold State.repeatFault
  simp
@[simp] theorem State.repeatFault_net (s : State) (f : FaultEntry) (detail : Nat) : (s.repeatFault f detail).net = s.net := by
  unfold State.repeatFault
  simp

@[simp] theorem State.repeatFault_tx (s : State) (f : FaultEntry) (detail : Nat) : (s.repeatFault f detail).tx = s.tx := by
  unfold State.repeatFault
  simp

/-! ### raiseCore -/

@[simp] theorem State.raiseCore_pending (s : State) (fn cause detail : Nat) (e : Effect) : (s.raiseCore fn cause detail e).pending = s.pending := by
  unfold State.raiseCore
  dsimp only
  split <;> simp
@[simp] theorem State.raiseCore_now (s : State) (fn cause detail : Nat) (e : Effect) : (s.raiseCore fn cause detail e).now = s.now := by
  unfold State.raiseCore
  dsimp only
  split <;> simp
@[simp] theorem State.raiseCore_free (s : State) (fn cause detail : Nat) (e : Effect) : (s.raiseCore fn cause detail e).free = s.free := by
  unfold State.raiseCore
  dsimp only
  split <;> simp
@[simp] theorem State.raiseCore_doms (s : State) (fn cause detail : Nat) (e : Effect) : (s.raiseCore fn cause detail e).doms = s.doms := by
  unfold State.raiseCore
  dsimp only
  split <;> simp
@[simp] theorem State.raiseCore_pendR (s : State) (fn cause detail : Nat) (e : Effect) : (s.raiseCore fn cause detail e).pendR = s.pendR := by
  unfold State.raiseCore
  dsimp only
  split <;> simp
@[simp] theorem State.raiseCore_pendD (s : State) (fn cause detail : Nat) (e : Effect) : (s.raiseCore fn cause detail e).pendD = s.pendD := by
  unfold State.raiseCore
  dsimp only
  split <;> simp
@[simp] theorem State.raiseCore_burnR (s : State) (fn cause detail : Nat) (e : Effect) : (s.raiseCore fn cause detail e).burnR = s.burnR := by
  unfold State.raiseCore
  dsimp only
  split <;> simp
@[simp] theorem State.raiseCore_burnD (s : State) (fn cause detail : Nat) (e : Effect) : (s.raiseCore fn cause detail e).burnD = s.burnD := by
  unfold State.raiseCore
  dsimp only
  split <;> simp
@[simp] theorem State.raiseCore_power (s : State) (fn cause detail : Nat) (e : Effect) : (s.raiseCore fn cause detail e).power = s.power := by
  unfold State.raiseCore
  dsimp only
  split <;> simp
@[simp] theorem State.raiseCore_cal (s : State) (fn cause detail : Nat) (e : Effect) : (s.raiseCore fn cause detail e).cal = s.cal := by
  unfold State.raiseCore
  dsimp only
  split <;> simp
@[simp] theorem State.raiseCore_lift (s : State) (fn cause detail : Nat) (e : Effect) : (s.raiseCore fn cause detail e).lift = s.lift := by
  unfold State.raiseCore
  dsimp only
  split <;> simp
@[simp] theorem State.raiseCore_scene (s : State) (fn cause detail : Nat) (e : Effect) : (s.raiseCore fn cause detail e).scene = s.scene := by
  unfold State.raiseCore
  dsimp only
  split <;> simp
@[simp] theorem State.raiseCore_banks (s : State) (fn cause detail : Nat) (e : Effect) : (s.raiseCore fn cause detail e).banks = s.banks := by
  unfold State.raiseCore
  dsimp only
  split <;> simp
@[simp] theorem State.raiseCore_link (s : State) (fn cause detail : Nat) (e : Effect) : (s.raiseCore fn cause detail e).link = s.link := by
  unfold State.raiseCore
  dsimp only
  split <;> simp
@[simp] theorem State.raiseCore_care (s : State) (fn cause detail : Nat) (e : Effect) : (s.raiseCore fn cause detail e).care = s.care := by
  unfold State.raiseCore
  dsimp only
  split <;> simp
@[simp] theorem State.raiseCore_pair (s : State) (fn cause detail : Nat) (e : Effect) : (s.raiseCore fn cause detail e).pair = s.pair := by
  unfold State.raiseCore
  dsimp only
  split <;> simp
@[simp] theorem State.raiseCore_clock (s : State) (fn cause detail : Nat) (e : Effect) : (s.raiseCore fn cause detail e).clock = s.clock := by
  unfold State.raiseCore
  dsimp only
  split <;> simp
@[simp] theorem State.raiseCore_media (s : State) (fn cause detail : Nat) (e : Effect) : (s.raiseCore fn cause detail e).media = s.media := by
  unfold State.raiseCore
  dsimp only
  split <;> simp
@[simp] theorem State.raiseCore_memory (s : State) (fn cause detail : Nat) (e : Effect) : (s.raiseCore fn cause detail e).memory = s.memory := by
  unfold State.raiseCore
  dsimp only
  split <;> simp
@[simp] theorem State.raiseCore_net (s : State) (fn cause detail : Nat) (e : Effect) : (s.raiseCore fn cause detail e).net = s.net := by
  unfold State.raiseCore
  dsimp only
  split <;> simp

@[simp] theorem State.raiseCore_tx (s : State) (fn cause detail : Nat) (e : Effect) : (s.raiseCore fn cause detail e).tx = s.tx := by
  unfold State.raiseCore
  dsimp only
  split <;> simp

/-! ### beaconAdd -/

@[simp] theorem State.beaconAdd_pending (s : State) (kind flags : Nat) (body payload : Bytes) : (s.beaconAdd kind flags body payload).pending = s.pending := by
  unfold State.beaconAdd
  dsimp only
  split <;> simp
@[simp] theorem State.beaconAdd_now (s : State) (kind flags : Nat) (body payload : Bytes) : (s.beaconAdd kind flags body payload).now = s.now := by
  unfold State.beaconAdd
  dsimp only
  split <;> simp
@[simp] theorem State.beaconAdd_free (s : State) (kind flags : Nat) (body payload : Bytes) : (s.beaconAdd kind flags body payload).free = s.free := by
  unfold State.beaconAdd
  dsimp only
  split <;> simp
@[simp] theorem State.beaconAdd_doms (s : State) (kind flags : Nat) (body payload : Bytes) : (s.beaconAdd kind flags body payload).doms = s.doms := by
  unfold State.beaconAdd
  dsimp only
  split <;> simp
@[simp] theorem State.beaconAdd_pendR (s : State) (kind flags : Nat) (body payload : Bytes) : (s.beaconAdd kind flags body payload).pendR = s.pendR := by
  unfold State.beaconAdd
  dsimp only
  split <;> simp
@[simp] theorem State.beaconAdd_pendD (s : State) (kind flags : Nat) (body payload : Bytes) : (s.beaconAdd kind flags body payload).pendD = s.pendD := by
  unfold State.beaconAdd
  dsimp only
  split <;> simp
@[simp] theorem State.beaconAdd_burnR (s : State) (kind flags : Nat) (body payload : Bytes) : (s.beaconAdd kind flags body payload).burnR = s.burnR := by
  unfold State.beaconAdd
  dsimp only
  split <;> simp
@[simp] theorem State.beaconAdd_burnD (s : State) (kind flags : Nat) (body payload : Bytes) : (s.beaconAdd kind flags body payload).burnD = s.burnD := by
  unfold State.beaconAdd
  dsimp only
  split <;> simp
@[simp] theorem State.beaconAdd_power (s : State) (kind flags : Nat) (body payload : Bytes) : (s.beaconAdd kind flags body payload).power = s.power := by
  unfold State.beaconAdd
  dsimp only
  split <;> simp
@[simp] theorem State.beaconAdd_cal (s : State) (kind flags : Nat) (body payload : Bytes) : (s.beaconAdd kind flags body payload).cal = s.cal := by
  unfold State.beaconAdd
  dsimp only
  split <;> simp
@[simp] theorem State.beaconAdd_lift (s : State) (kind flags : Nat) (body payload : Bytes) : (s.beaconAdd kind flags body payload).lift = s.lift := by
  unfold State.beaconAdd
  dsimp only
  split <;> simp
@[simp] theorem State.beaconAdd_scene (s : State) (kind flags : Nat) (body payload : Bytes) : (s.beaconAdd kind flags body payload).scene = s.scene := by
  unfold State.beaconAdd
  dsimp only
  split <;> simp
@[simp] theorem State.beaconAdd_banks (s : State) (kind flags : Nat) (body payload : Bytes) : (s.beaconAdd kind flags body payload).banks = s.banks := by
  unfold State.beaconAdd
  dsimp only
  split <;> simp
@[simp] theorem State.beaconAdd_link (s : State) (kind flags : Nat) (body payload : Bytes) : (s.beaconAdd kind flags body payload).link = s.link := by
  unfold State.beaconAdd
  dsimp only
  split <;> simp
@[simp] theorem State.beaconAdd_care (s : State) (kind flags : Nat) (body payload : Bytes) : (s.beaconAdd kind flags body payload).care = s.care := by
  unfold State.beaconAdd
  dsimp only
  split <;> simp
@[simp] theorem State.beaconAdd_pair (s : State) (kind flags : Nat) (body payload : Bytes) : (s.beaconAdd kind flags body payload).pair = s.pair := by
  unfold State.beaconAdd
  dsimp only
  split <;> simp
@[simp] theorem State.beaconAdd_clock (s : State) (kind flags : Nat) (body payload : Bytes) : (s.beaconAdd kind flags body payload).clock = s.clock := by
  unfold State.beaconAdd
  dsimp only
  split <;> simp
@[simp] theorem State.beaconAdd_media (s : State) (kind flags : Nat) (body payload : Bytes) : (s.beaconAdd kind flags body payload).media = s.media := by
  unfold State.beaconAdd
  dsimp only
  split <;> simp
@[simp] theorem State.beaconAdd_memory (s : State) (kind flags : Nat) (body payload : Bytes) : (s.beaconAdd kind flags body payload).memory = s.memory := by
  unfold State.beaconAdd
  dsimp only
  split <;> simp
@[simp] theorem State.beaconAdd_net (s : State) (kind flags : Nat) (body payload : Bytes) : (s.beaconAdd kind flags body payload).net = s.net := by
  unfold State.beaconAdd
  dsimp only
  split <;> simp

@[simp] theorem State.beaconAdd_tx (s : State) (kind flags : Nat) (body payload : Bytes) : (s.beaconAdd kind flags body payload).tx = s.tx := by
  unfold State.beaconAdd
  dsimp only
  split <;> simp

/-! ### raise -/

@[simp] theorem State.raise_pending (s : State) (fn cause detail : Nat) : (s.raise fn cause detail).pending = s.pending := by simp [State.raise]
@[simp] theorem State.raise_now (s : State) (fn cause detail : Nat) : (s.raise fn cause detail).now = s.now := by simp [State.raise]
@[simp] theorem State.raise_free (s : State) (fn cause detail : Nat) : (s.raise fn cause detail).free = s.free := by simp [State.raise]
@[simp] theorem State.raise_doms (s : State) (fn cause detail : Nat) : (s.raise fn cause detail).doms = s.doms := by simp [State.raise]
@[simp] theorem State.raise_pendR (s : State) (fn cause detail : Nat) : (s.raise fn cause detail).pendR = s.pendR := by simp [State.raise]
@[simp] theorem State.raise_pendD (s : State) (fn cause detail : Nat) : (s.raise fn cause detail).pendD = s.pendD := by simp [State.raise]
@[simp] theorem State.raise_burnR (s : State) (fn cause detail : Nat) : (s.raise fn cause detail).burnR = s.burnR := by simp [State.raise]
@[simp] theorem State.raise_burnD (s : State) (fn cause detail : Nat) : (s.raise fn cause detail).burnD = s.burnD := by simp [State.raise]
@[simp] theorem State.raise_power (s : State) (fn cause detail : Nat) : (s.raise fn cause detail).power = s.power := by simp [State.raise]
@[simp] theorem State.raise_cal (s : State) (fn cause detail : Nat) : (s.raise fn cause detail).cal = s.cal := by simp [State.raise]
@[simp] theorem State.raise_lift (s : State) (fn cause detail : Nat) : (s.raise fn cause detail).lift = s.lift := by simp [State.raise]
@[simp] theorem State.raise_scene (s : State) (fn cause detail : Nat) : (s.raise fn cause detail).scene = s.scene := by simp [State.raise]
@[simp] theorem State.raise_banks (s : State) (fn cause detail : Nat) : (s.raise fn cause detail).banks = s.banks := by simp [State.raise]
@[simp] theorem State.raise_link (s : State) (fn cause detail : Nat) : (s.raise fn cause detail).link = s.link := by simp [State.raise]
@[simp] theorem State.raise_care (s : State) (fn cause detail : Nat) : (s.raise fn cause detail).care = s.care := by simp [State.raise]
@[simp] theorem State.raise_pair (s : State) (fn cause detail : Nat) : (s.raise fn cause detail).pair = s.pair := by simp [State.raise]
@[simp] theorem State.raise_clock (s : State) (fn cause detail : Nat) : (s.raise fn cause detail).clock = s.clock := by simp [State.raise]
@[simp] theorem State.raise_media (s : State) (fn cause detail : Nat) : (s.raise fn cause detail).media = s.media := by simp [State.raise]
@[simp] theorem State.raise_memory (s : State) (fn cause detail : Nat) : (s.raise fn cause detail).memory = s.memory := by simp [State.raise]
@[simp] theorem State.raise_net (s : State) (fn cause detail : Nat) : (s.raise fn cause detail).net = s.net := by simp [State.raise]

@[simp] theorem State.raise_tx (s : State) (fn cause detail : Nat) : (s.raise fn cause detail).tx = s.tx := by simp [State.raise]

/-! ### onset -/

@[simp] theorem State.onset_pending (s : State) (fn cause item : Nat) : (s.onset fn cause item).pending = s.pending := by
  unfold State.onset
  split <;> simp
@[simp] theorem State.onset_now (s : State) (fn cause item : Nat) : (s.onset fn cause item).now = s.now := by
  unfold State.onset
  split <;> simp
@[simp] theorem State.onset_free (s : State) (fn cause item : Nat) : (s.onset fn cause item).free = s.free := by
  unfold State.onset
  split <;> simp
@[simp] theorem State.onset_doms (s : State) (fn cause item : Nat) : (s.onset fn cause item).doms = s.doms := by
  unfold State.onset
  split <;> simp
@[simp] theorem State.onset_pendR (s : State) (fn cause item : Nat) : (s.onset fn cause item).pendR = s.pendR := by
  unfold State.onset
  split <;> simp
@[simp] theorem State.onset_pendD (s : State) (fn cause item : Nat) : (s.onset fn cause item).pendD = s.pendD := by
  unfold State.onset
  split <;> simp
@[simp] theorem State.onset_burnR (s : State) (fn cause item : Nat) : (s.onset fn cause item).burnR = s.burnR := by
  unfold State.onset
  split <;> simp
@[simp] theorem State.onset_burnD (s : State) (fn cause item : Nat) : (s.onset fn cause item).burnD = s.burnD := by
  unfold State.onset
  split <;> simp
@[simp] theorem State.onset_power (s : State) (fn cause item : Nat) : (s.onset fn cause item).power = s.power := by
  unfold State.onset
  split <;> simp
@[simp] theorem State.onset_cal (s : State) (fn cause item : Nat) : (s.onset fn cause item).cal = s.cal := by
  unfold State.onset
  split <;> simp
@[simp] theorem State.onset_lift (s : State) (fn cause item : Nat) : (s.onset fn cause item).lift = s.lift := by
  unfold State.onset
  split <;> simp
@[simp] theorem State.onset_scene (s : State) (fn cause item : Nat) : (s.onset fn cause item).scene = s.scene := by
  unfold State.onset
  split <;> simp
@[simp] theorem State.onset_banks (s : State) (fn cause item : Nat) : (s.onset fn cause item).banks = s.banks := by
  unfold State.onset
  split <;> simp
@[simp] theorem State.onset_link (s : State) (fn cause item : Nat) : (s.onset fn cause item).link = s.link := by
  unfold State.onset
  split <;> simp
@[simp] theorem State.onset_care (s : State) (fn cause item : Nat) : (s.onset fn cause item).care = s.care := by
  unfold State.onset
  split <;> simp
@[simp] theorem State.onset_pair (s : State) (fn cause item : Nat) : (s.onset fn cause item).pair = s.pair := by
  unfold State.onset
  split <;> simp
@[simp] theorem State.onset_clock (s : State) (fn cause item : Nat) : (s.onset fn cause item).clock = s.clock := by
  unfold State.onset
  split <;> simp
@[simp] theorem State.onset_media (s : State) (fn cause item : Nat) : (s.onset fn cause item).media = s.media := by
  unfold State.onset
  split <;> simp
@[simp] theorem State.onset_memory (s : State) (fn cause item : Nat) : (s.onset fn cause item).memory = s.memory := by
  unfold State.onset
  split <;> simp
@[simp] theorem State.onset_net (s : State) (fn cause item : Nat) : (s.onset fn cause item).net = s.net := by
  unfold State.onset
  split <;> simp

@[simp] theorem State.onset_tx (s : State) (fn cause item : Nat) : (s.onset fn cause item).tx = s.tx := by
  unfold State.onset
  split <;> simp

/-! ### sendEmcy -/

@[simp] theorem State.sendEmcy_pending (s : State) (p : Nat) : (s.sendEmcy p).pending = s.pending := by
  unfold State.sendEmcy
  split
  · rfl
  · split
    · rfl
    · dsimp only
      split_ifs <;> simp
@[simp] theorem State.sendEmcy_now (s : State) (p : Nat) : (s.sendEmcy p).now = s.now := by
  unfold State.sendEmcy
  split
  · rfl
  · split
    · rfl
    · dsimp only
      split_ifs <;> simp
@[simp] theorem State.sendEmcy_free (s : State) (p : Nat) : (s.sendEmcy p).free = s.free := by
  unfold State.sendEmcy
  split
  · rfl
  · split
    · rfl
    · dsimp only
      split_ifs <;> simp
@[simp] theorem State.sendEmcy_doms (s : State) (p : Nat) : (s.sendEmcy p).doms = s.doms := by
  unfold State.sendEmcy
  split
  · rfl
  · split
    · rfl
    · dsimp only
      split_ifs <;> simp
@[simp] theorem State.sendEmcy_pendR (s : State) (p : Nat) : (s.sendEmcy p).pendR = s.pendR := by
  unfold State.sendEmcy
  split
  · rfl
  · split
    · rfl
    · dsimp only
      split_ifs <;> simp
@[simp] theorem State.sendEmcy_pendD (s : State) (p : Nat) : (s.sendEmcy p).pendD = s.pendD := by
  unfold State.sendEmcy
  split
  · rfl
  · split
    · rfl
    · dsimp only
      split_ifs <;> simp
@[simp] theorem State.sendEmcy_burnR (s : State) (p : Nat) : (s.sendEmcy p).burnR = s.burnR := by
  unfold State.sendEmcy
  split
  · rfl
  · split
    · rfl
    · dsimp only
      split_ifs <;> simp
@[simp] theorem State.sendEmcy_burnD (s : State) (p : Nat) : (s.sendEmcy p).burnD = s.burnD := by
  unfold State.sendEmcy
  split
  · rfl
  · split
    · rfl
    · dsimp only
      split_ifs <;> simp
@[simp] theorem State.sendEmcy_power (s : State) (p : Nat) : (s.sendEmcy p).power = s.power := by
  unfold State.sendEmcy
  split
  · rfl
  · split
    · rfl
    · dsimp only
      split_ifs <;> simp
@[simp] theorem State.sendEmcy_cal (s : State) (p : Nat) : (s.sendEmcy p).cal = s.cal := by
  unfold State.sendEmcy
  split
  · rfl
  · split
    · rfl
    · dsimp only
      split_ifs <;> simp
@[simp] theorem State.sendEmcy_lift (s : State) (p : Nat) : (s.sendEmcy p).lift = s.lift := by
  unfold State.sendEmcy
  split
  · rfl
  · split
    · rfl
    · dsimp only
      split_ifs <;> simp
@[simp] theorem State.sendEmcy_scene (s : State) (p : Nat) : (s.sendEmcy p).scene = s.scene := by
  unfold State.sendEmcy
  split
  · rfl
  · split
    · rfl
    · dsimp only
      split_ifs <;> simp
@[simp] theorem State.sendEmcy_banks (s : State) (p : Nat) : (s.sendEmcy p).banks = s.banks := by
  unfold State.sendEmcy
  split
  · rfl
  · split
    · rfl
    · dsimp only
      split_ifs <;> simp
@[simp] theorem State.sendEmcy_link (s : State) (p : Nat) : (s.sendEmcy p).link = s.link := by
  unfold State.sendEmcy
  split
  · rfl
  · split
    · rfl
    · dsimp only
      split_ifs <;> simp
@[simp] theorem State.sendEmcy_care (s : State) (p : Nat) : (s.sendEmcy p).care = s.care := by
  unfold State.sendEmcy
  split
  · rfl
  · split
    · rfl
    · dsimp only
      split_ifs <;> simp
@[simp] theorem State.sendEmcy_pair (s : State) (p : Nat) : (s.sendEmcy p).pair = s.pair := by
  unfold State.sendEmcy
  split
  · rfl
  · split
    · rfl
    · dsimp only
      split_ifs <;> simp
@[simp] theorem State.sendEmcy_clock (s : State) (p : Nat) : (s.sendEmcy p).clock = s.clock := by
  unfold State.sendEmcy
  split
  · rfl
  · split
    · rfl
    · dsimp only
      split_ifs <;> simp
@[simp] theorem State.sendEmcy_media (s : State) (p : Nat) : (s.sendEmcy p).media = s.media := by
  unfold State.sendEmcy
  split
  · rfl
  · split
    · rfl
    · dsimp only
      split_ifs <;> simp
@[simp] theorem State.sendEmcy_memory (s : State) (p : Nat) : (s.sendEmcy p).memory = s.memory := by
  unfold State.sendEmcy
  split
  · rfl
  · split
    · rfl
    · dsimp only
      split_ifs <;> simp
@[simp] theorem State.sendEmcy_net (s : State) (p : Nat) : (s.sendEmcy p).net = s.net := by
  unfold State.sendEmcy
  split
  · rfl
  · split
    · rfl
    · dsimp only
      split_ifs <;> simp

@[simp] theorem State.sendEmcy_tx (s : State) (p : Nat) : (s.sendEmcy p).tx = s.tx := by
  unfold State.sendEmcy
  split
  · rfl
  · split
    · rfl
    · dsimp only
      split_ifs <;> simp

/-! ### emergencyOn -/

@[simp] theorem State.emergencyOn_pending (s : State) (e : Emcy) (p : Nat) : (s.emergencyOn e p).pending = s.pending := by
  unfold State.emergencyOn
  split
  · rfl
  · split <;> simp
@[simp] theorem State.emergencyOn_now (s : State) (e : Emcy) (p : Nat) : (s.emergencyOn e p).now = s.now := by
  unfold State.emergencyOn
  split
  · rfl
  · split <;> simp
@[simp] theorem State.emergencyOn_free (s : State) (e : Emcy) (p : Nat) : (s.emergencyOn e p).free = s.free := by
  unfold State.emergencyOn
  split
  · rfl
  · split <;> simp
@[simp] theorem State.emergencyOn_doms (s : State) (e : Emcy) (p : Nat) : (s.emergencyOn e p).doms = s.doms := by
  unfold State.emergencyOn
  split
  · rfl
  · split <;> simp
@[simp] theorem State.emergencyOn_pendR (s : State) (e : Emcy) (p : Nat) : (s.emergencyOn e p).pendR = s.pendR := by
  unfold State.emergencyOn
  split
  · rfl
  · split <;> simp
@[simp] theorem State.emergencyOn_pendD (s : State) (e : Emcy) (p : Nat) : (s.emergencyOn e p).pendD = s.pendD := by
  unfold State.emergencyOn
  split
  · rfl
  · split <;> simp
@[simp] theorem State.emergencyOn_burnR (s : State) (e : Emcy) (p : Nat) : (s.emergencyOn e p).burnR = s.burnR := by
  unfold State.emergencyOn
  split
  · rfl
  · split <;> simp
@[simp] theorem State.emergencyOn_burnD (s : State) (e : Emcy) (p : Nat) : (s.emergencyOn e p).burnD = s.burnD := by
  unfold State.emergencyOn
  split
  · rfl
  · split <;> simp
@[simp] theorem State.emergencyOn_power (s : State) (e : Emcy) (p : Nat) : (s.emergencyOn e p).power = s.power := by
  unfold State.emergencyOn
  split
  · rfl
  · split <;> simp
@[simp] theorem State.emergencyOn_cal (s : State) (e : Emcy) (p : Nat) : (s.emergencyOn e p).cal = s.cal := by
  unfold State.emergencyOn
  split
  · rfl
  · split <;> simp
@[simp] theorem State.emergencyOn_lift (s : State) (e : Emcy) (p : Nat) : (s.emergencyOn e p).lift = s.lift := by
  unfold State.emergencyOn
  split
  · rfl
  · split <;> simp
@[simp] theorem State.emergencyOn_scene (s : State) (e : Emcy) (p : Nat) : (s.emergencyOn e p).scene = s.scene := by
  unfold State.emergencyOn
  split
  · rfl
  · split <;> simp
@[simp] theorem State.emergencyOn_banks (s : State) (e : Emcy) (p : Nat) : (s.emergencyOn e p).banks = s.banks := by
  unfold State.emergencyOn
  split
  · rfl
  · split <;> simp
@[simp] theorem State.emergencyOn_link (s : State) (e : Emcy) (p : Nat) : (s.emergencyOn e p).link = s.link := by
  unfold State.emergencyOn
  split
  · rfl
  · split <;> simp
@[simp] theorem State.emergencyOn_care (s : State) (e : Emcy) (p : Nat) : (s.emergencyOn e p).care = s.care := by
  unfold State.emergencyOn
  split
  · rfl
  · split <;> simp
@[simp] theorem State.emergencyOn_pair (s : State) (e : Emcy) (p : Nat) : (s.emergencyOn e p).pair = s.pair := by
  unfold State.emergencyOn
  split
  · rfl
  · split <;> simp
@[simp] theorem State.emergencyOn_clock (s : State) (e : Emcy) (p : Nat) : (s.emergencyOn e p).clock = s.clock := by
  unfold State.emergencyOn
  split
  · rfl
  · split <;> simp
@[simp] theorem State.emergencyOn_media (s : State) (e : Emcy) (p : Nat) : (s.emergencyOn e p).media = s.media := by
  unfold State.emergencyOn
  split
  · rfl
  · split <;> simp
@[simp] theorem State.emergencyOn_memory (s : State) (e : Emcy) (p : Nat) : (s.emergencyOn e p).memory = s.memory := by
  unfold State.emergencyOn
  split
  · rfl
  · split <;> simp
@[simp] theorem State.emergencyOn_net (s : State) (e : Emcy) (p : Nat) : (s.emergencyOn e p).net = s.net := by
  unfold State.emergencyOn
  split
  · rfl
  · split <;> simp

@[simp] theorem State.emergencyOn_tx (s : State) (e : Emcy) (p : Nat) : (s.emergencyOn e p).tx = s.tx := by
  unfold State.emergencyOn
  split
  · rfl
  · split <;> simp

/-! ### emergency -/

@[simp] theorem State.emergency_pending (s : State) (e : Emcy) : (s.emergency e).pending = s.pending := by
  unfold State.emergency
  split <;> simp
@[simp] theorem State.emergency_now (s : State) (e : Emcy) : (s.emergency e).now = s.now := by
  unfold State.emergency
  split <;> simp
@[simp] theorem State.emergency_free (s : State) (e : Emcy) : (s.emergency e).free = s.free := by
  unfold State.emergency
  split <;> simp
@[simp] theorem State.emergency_doms (s : State) (e : Emcy) : (s.emergency e).doms = s.doms := by
  unfold State.emergency
  split <;> simp
@[simp] theorem State.emergency_pendR (s : State) (e : Emcy) : (s.emergency e).pendR = s.pendR := by
  unfold State.emergency
  split <;> simp
@[simp] theorem State.emergency_pendD (s : State) (e : Emcy) : (s.emergency e).pendD = s.pendD := by
  unfold State.emergency
  split <;> simp
@[simp] theorem State.emergency_burnR (s : State) (e : Emcy) : (s.emergency e).burnR = s.burnR := by
  unfold State.emergency
  split <;> simp
@[simp] theorem State.emergency_burnD (s : State) (e : Emcy) : (s.emergency e).burnD = s.burnD := by
  unfold State.emergency
  split <;> simp
@[simp] theorem State.emergency_power (s : State) (e : Emcy) : (s.emergency e).power = s.power := by
  unfold State.emergency
  split <;> simp
@[simp] theorem State.emergency_cal (s : State) (e : Emcy) : (s.emergency e).cal = s.cal := by
  unfold State.emergency
  split <;> simp
@[simp] theorem State.emergency_lift (s : State) (e : Emcy) : (s.emergency e).lift = s.lift := by
  unfold State.emergency
  split <;> simp
@[simp] theorem State.emergency_scene (s : State) (e : Emcy) : (s.emergency e).scene = s.scene := by
  unfold State.emergency
  split <;> simp
@[simp] theorem State.emergency_banks (s : State) (e : Emcy) : (s.emergency e).banks = s.banks := by
  unfold State.emergency
  split <;> simp
@[simp] theorem State.emergency_link (s : State) (e : Emcy) : (s.emergency e).link = s.link := by
  unfold State.emergency
  split <;> simp
@[simp] theorem State.emergency_care (s : State) (e : Emcy) : (s.emergency e).care = s.care := by
  unfold State.emergency
  split <;> simp
@[simp] theorem State.emergency_pair (s : State) (e : Emcy) : (s.emergency e).pair = s.pair := by
  unfold State.emergency
  split <;> simp
@[simp] theorem State.emergency_clock (s : State) (e : Emcy) : (s.emergency e).clock = s.clock := by
  unfold State.emergency
  split <;> simp
@[simp] theorem State.emergency_media (s : State) (e : Emcy) : (s.emergency e).media = s.media := by
  unfold State.emergency
  split <;> simp
@[simp] theorem State.emergency_memory (s : State) (e : Emcy) : (s.emergency e).memory = s.memory := by
  unfold State.emergency
  split <;> simp
@[simp] theorem State.emergency_net (s : State) (e : Emcy) : (s.emergency e).net = s.net := by
  unfold State.emergency
  split <;> simp

@[simp] theorem State.emergency_tx (s : State) (e : Emcy) : (s.emergency e).tx = s.tx := by
  unfold State.emergency
  split <;> simp

/-! ### sweep -/

@[simp] theorem State.sweep_pending (s : State) : s.sweep.pending = s.pending := by
  unfold State.sweep
  dsimp only
  split_ifs <;> simp
@[simp] theorem State.sweep_now (s : State) : s.sweep.now = s.now := by
  unfold State.sweep
  dsimp only
  split_ifs <;> simp
@[simp] theorem State.sweep_free (s : State) : s.sweep.free = s.free := by
  unfold State.sweep
  dsimp only
  split_ifs <;> simp
@[simp] theorem State.sweep_doms (s : State) : s.sweep.doms = s.doms := by
  unfold State.sweep
  dsimp only
  split_ifs <;> simp
@[simp] theorem State.sweep_pendR (s : State) : s.sweep.pendR = s.pendR := by
  unfold State.sweep
  dsimp only
  split_ifs <;> simp
@[simp] theorem State.sweep_pendD (s : State) : s.sweep.pendD = s.pendD := by
  unfold State.sweep
  dsimp only
  split_ifs <;> simp
@[simp] theorem State.sweep_burnR (s : State) : s.sweep.burnR = s.burnR := by
  unfold State.sweep
  dsimp only
  split_ifs <;> simp
@[simp] theorem State.sweep_burnD (s : State) : s.sweep.burnD = s.burnD := by
  unfold State.sweep
  dsimp only
  split_ifs <;> simp
@[simp] theorem State.sweep_power (s : State) : s.sweep.power = s.power := by
  unfold State.sweep
  dsimp only
  split_ifs <;> simp
@[simp] theorem State.sweep_cal (s : State) : s.sweep.cal = s.cal := by
  unfold State.sweep
  dsimp only
  split_ifs <;> simp
@[simp] theorem State.sweep_lift (s : State) : s.sweep.lift = s.lift := by
  unfold State.sweep
  dsimp only
  split_ifs <;> simp
@[simp] theorem State.sweep_scene (s : State) : s.sweep.scene = s.scene := by
  unfold State.sweep
  dsimp only
  split_ifs <;> simp
@[simp] theorem State.sweep_banks (s : State) : s.sweep.banks = s.banks := by
  unfold State.sweep
  dsimp only
  split_ifs <;> simp
@[simp] theorem State.sweep_link (s : State) : s.sweep.link = s.link := by
  unfold State.sweep
  dsimp only
  split_ifs <;> simp
@[simp] theorem State.sweep_care (s : State) : s.sweep.care = s.care := by
  unfold State.sweep
  dsimp only
  split_ifs <;> simp
@[simp] theorem State.sweep_pair (s : State) : s.sweep.pair = s.pair := by
  unfold State.sweep
  dsimp only
  split_ifs <;> simp
@[simp] theorem State.sweep_clock (s : State) : s.sweep.clock = s.clock := by
  unfold State.sweep
  dsimp only
  split_ifs <;> simp
@[simp] theorem State.sweep_media (s : State) : s.sweep.media = s.media := by
  unfold State.sweep
  dsimp only
  split_ifs <;> simp
@[simp] theorem State.sweep_memory (s : State) : s.sweep.memory = s.memory := by
  unfold State.sweep
  dsimp only
  split_ifs <;> simp
@[simp] theorem State.sweep_net (s : State) : s.sweep.net = s.net := by
  unfold State.sweep
  dsimp only
  split_ifs <;> simp

@[simp] theorem State.sweep_tx (s : State) : s.sweep.tx = s.tx := by
  unfold State.sweep
  dsimp only
  split_ifs <;> simp

/-! ### settle -/

@[simp] theorem State.settle_pending (s : State) (fn cause item : Nat) : (s.settle fn cause item).pending = s.pending := by
  unfold State.settle
  dsimp only
  split_ifs <;> first | rfl | (split <;> simp)
@[simp] theorem State.settle_now (s : State) (fn cause item : Nat) : (s.settle fn cause item).now = s.now := by
  unfold State.settle
  dsimp only
  split_ifs <;> first | rfl | (split <;> simp)
@[simp] theorem State.settle_free (s : State) (fn cause item : Nat) : (s.settle fn cause item).free = s.free := by
  unfold State.settle
  dsimp only
  split_ifs <;> first | rfl | (split <;> simp)
@[simp] theorem State.settle_doms (s : State) (fn cause item : Nat) : (s.settle fn cause item).doms = s.doms := by
  unfold State.settle
  dsimp only
  split_ifs <;> first | rfl | (split <;> simp)
@[simp] theorem State.settle_pendR (s : State) (fn cause item : Nat) : (s.settle fn cause item).pendR = s.pendR := by
  unfold State.settle
  dsimp only
  split_ifs <;> first | rfl | (split <;> simp)
@[simp] theorem State.settle_pendD (s : State) (fn cause item : Nat) : (s.settle fn cause item).pendD = s.pendD := by
  unfold State.settle
  dsimp only
  split_ifs <;> first | rfl | (split <;> simp)
@[simp] theorem State.settle_burnR (s : State) (fn cause item : Nat) : (s.settle fn cause item).burnR = s.burnR := by
  unfold State.settle
  dsimp only
  split_ifs <;> first | rfl | (split <;> simp)
@[simp] theorem State.settle_burnD (s : State) (fn cause item : Nat) : (s.settle fn cause item).burnD = s.burnD := by
  unfold State.settle
  dsimp only
  split_ifs <;> first | rfl | (split <;> simp)
@[simp] theorem State.settle_power (s : State) (fn cause item : Nat) : (s.settle fn cause item).power = s.power := by
  unfold State.settle
  dsimp only
  split_ifs <;> first | rfl | (split <;> simp)
@[simp] theorem State.settle_cal (s : State) (fn cause item : Nat) : (s.settle fn cause item).cal = s.cal := by
  unfold State.settle
  dsimp only
  split_ifs <;> first | rfl | (split <;> simp)
@[simp] theorem State.settle_lift (s : State) (fn cause item : Nat) : (s.settle fn cause item).lift = s.lift := by
  unfold State.settle
  dsimp only
  split_ifs <;> first | rfl | (split <;> simp)
@[simp] theorem State.settle_scene (s : State) (fn cause item : Nat) : (s.settle fn cause item).scene = s.scene := by
  unfold State.settle
  dsimp only
  split_ifs <;> first | rfl | (split <;> simp)
@[simp] theorem State.settle_banks (s : State) (fn cause item : Nat) : (s.settle fn cause item).banks = s.banks := by
  unfold State.settle
  dsimp only
  split_ifs <;> first | rfl | (split <;> simp)
@[simp] theorem State.settle_link (s : State) (fn cause item : Nat) : (s.settle fn cause item).link = s.link := by
  unfold State.settle
  dsimp only
  split_ifs <;> first | rfl | (split <;> simp)
@[simp] theorem State.settle_care (s : State) (fn cause item : Nat) : (s.settle fn cause item).care = s.care := by
  unfold State.settle
  dsimp only
  split_ifs <;> first | rfl | (split <;> simp)
@[simp] theorem State.settle_pair (s : State) (fn cause item : Nat) : (s.settle fn cause item).pair = s.pair := by
  unfold State.settle
  dsimp only
  split_ifs <;> first | rfl | (split <;> simp)
@[simp] theorem State.settle_clock (s : State) (fn cause item : Nat) : (s.settle fn cause item).clock = s.clock := by
  unfold State.settle
  dsimp only
  split_ifs <;> first | rfl | (split <;> simp)
@[simp] theorem State.settle_media (s : State) (fn cause item : Nat) : (s.settle fn cause item).media = s.media := by
  unfold State.settle
  dsimp only
  split_ifs <;> first | rfl | (split <;> simp)
@[simp] theorem State.settle_memory (s : State) (fn cause item : Nat) : (s.settle fn cause item).memory = s.memory := by
  unfold State.settle
  dsimp only
  split_ifs <;> first | rfl | (split <;> simp)
@[simp] theorem State.settle_net (s : State) (fn cause item : Nat) : (s.settle fn cause item).net = s.net := by
  unfold State.settle
  dsimp only
  split_ifs <;> first | rfl | (split <;> simp)

@[simp] theorem State.settle_tx (s : State) (fn cause item : Nat) : (s.settle fn cause item).tx = s.tx := by
  unfold State.settle
  dsimp only
  split_ifs <;> first | rfl | (split <;> simp)

/-! ### settleAll -/

@[simp] theorem State.settleAll_pending (s : State) (fn cause : Nat) : (s.settleAll fn cause).pending = s.pending := by
  unfold State.settleAll
  generalize s.faults.standing.filter _ = l
  induction l generalizing s with
  | nil => rfl
  | cons x l ih => rw [List.foldl_cons, ih, State.settle_pending]
@[simp] theorem State.settleAll_now (s : State) (fn cause : Nat) : (s.settleAll fn cause).now = s.now := by
  unfold State.settleAll
  generalize s.faults.standing.filter _ = l
  induction l generalizing s with
  | nil => rfl
  | cons x l ih => rw [List.foldl_cons, ih, State.settle_now]
@[simp] theorem State.settleAll_free (s : State) (fn cause : Nat) : (s.settleAll fn cause).free = s.free := by
  unfold State.settleAll
  generalize s.faults.standing.filter _ = l
  induction l generalizing s with
  | nil => rfl
  | cons x l ih => rw [List.foldl_cons, ih, State.settle_free]
@[simp] theorem State.settleAll_doms (s : State) (fn cause : Nat) : (s.settleAll fn cause).doms = s.doms := by
  unfold State.settleAll
  generalize s.faults.standing.filter _ = l
  induction l generalizing s with
  | nil => rfl
  | cons x l ih => rw [List.foldl_cons, ih, State.settle_doms]
@[simp] theorem State.settleAll_pendR (s : State) (fn cause : Nat) : (s.settleAll fn cause).pendR = s.pendR := by
  unfold State.settleAll
  generalize s.faults.standing.filter _ = l
  induction l generalizing s with
  | nil => rfl
  | cons x l ih => rw [List.foldl_cons, ih, State.settle_pendR]
@[simp] theorem State.settleAll_pendD (s : State) (fn cause : Nat) : (s.settleAll fn cause).pendD = s.pendD := by
  unfold State.settleAll
  generalize s.faults.standing.filter _ = l
  induction l generalizing s with
  | nil => rfl
  | cons x l ih => rw [List.foldl_cons, ih, State.settle_pendD]
@[simp] theorem State.settleAll_burnR (s : State) (fn cause : Nat) : (s.settleAll fn cause).burnR = s.burnR := by
  unfold State.settleAll
  generalize s.faults.standing.filter _ = l
  induction l generalizing s with
  | nil => rfl
  | cons x l ih => rw [List.foldl_cons, ih, State.settle_burnR]
@[simp] theorem State.settleAll_burnD (s : State) (fn cause : Nat) : (s.settleAll fn cause).burnD = s.burnD := by
  unfold State.settleAll
  generalize s.faults.standing.filter _ = l
  induction l generalizing s with
  | nil => rfl
  | cons x l ih => rw [List.foldl_cons, ih, State.settle_burnD]
@[simp] theorem State.settleAll_power (s : State) (fn cause : Nat) : (s.settleAll fn cause).power = s.power := by
  unfold State.settleAll
  generalize s.faults.standing.filter _ = l
  induction l generalizing s with
  | nil => rfl
  | cons x l ih => rw [List.foldl_cons, ih, State.settle_power]
@[simp] theorem State.settleAll_cal (s : State) (fn cause : Nat) : (s.settleAll fn cause).cal = s.cal := by
  unfold State.settleAll
  generalize s.faults.standing.filter _ = l
  induction l generalizing s with
  | nil => rfl
  | cons x l ih => rw [List.foldl_cons, ih, State.settle_cal]
@[simp] theorem State.settleAll_lift (s : State) (fn cause : Nat) : (s.settleAll fn cause).lift = s.lift := by
  unfold State.settleAll
  generalize s.faults.standing.filter _ = l
  induction l generalizing s with
  | nil => rfl
  | cons x l ih => rw [List.foldl_cons, ih, State.settle_lift]
@[simp] theorem State.settleAll_scene (s : State) (fn cause : Nat) : (s.settleAll fn cause).scene = s.scene := by
  unfold State.settleAll
  generalize s.faults.standing.filter _ = l
  induction l generalizing s with
  | nil => rfl
  | cons x l ih => rw [List.foldl_cons, ih, State.settle_scene]
@[simp] theorem State.settleAll_banks (s : State) (fn cause : Nat) : (s.settleAll fn cause).banks = s.banks := by
  unfold State.settleAll
  generalize s.faults.standing.filter _ = l
  induction l generalizing s with
  | nil => rfl
  | cons x l ih => rw [List.foldl_cons, ih, State.settle_banks]
@[simp] theorem State.settleAll_link (s : State) (fn cause : Nat) : (s.settleAll fn cause).link = s.link := by
  unfold State.settleAll
  generalize s.faults.standing.filter _ = l
  induction l generalizing s with
  | nil => rfl
  | cons x l ih => rw [List.foldl_cons, ih, State.settle_link]
@[simp] theorem State.settleAll_care (s : State) (fn cause : Nat) : (s.settleAll fn cause).care = s.care := by
  unfold State.settleAll
  generalize s.faults.standing.filter _ = l
  induction l generalizing s with
  | nil => rfl
  | cons x l ih => rw [List.foldl_cons, ih, State.settle_care]
@[simp] theorem State.settleAll_pair (s : State) (fn cause : Nat) : (s.settleAll fn cause).pair = s.pair := by
  unfold State.settleAll
  generalize s.faults.standing.filter _ = l
  induction l generalizing s with
  | nil => rfl
  | cons x l ih => rw [List.foldl_cons, ih, State.settle_pair]
@[simp] theorem State.settleAll_clock (s : State) (fn cause : Nat) : (s.settleAll fn cause).clock = s.clock := by
  unfold State.settleAll
  generalize s.faults.standing.filter _ = l
  induction l generalizing s with
  | nil => rfl
  | cons x l ih => rw [List.foldl_cons, ih, State.settle_clock]
@[simp] theorem State.settleAll_media (s : State) (fn cause : Nat) : (s.settleAll fn cause).media = s.media := by
  unfold State.settleAll
  generalize s.faults.standing.filter _ = l
  induction l generalizing s with
  | nil => rfl
  | cons x l ih => rw [List.foldl_cons, ih, State.settle_media]
@[simp] theorem State.settleAll_memory (s : State) (fn cause : Nat) : (s.settleAll fn cause).memory = s.memory := by
  unfold State.settleAll
  generalize s.faults.standing.filter _ = l
  induction l generalizing s with
  | nil => rfl
  | cons x l ih => rw [List.foldl_cons, ih, State.settle_memory]
@[simp] theorem State.settleAll_net (s : State) (fn cause : Nat) : (s.settleAll fn cause).net = s.net := by
  unfold State.settleAll
  generalize s.faults.standing.filter _ = l
  induction l generalizing s with
  | nil => rfl
  | cons x l ih => rw [List.foldl_cons, ih, State.settle_net]

@[simp] theorem State.settleAll_tx (s : State) (fn cause : Nat) : (s.settleAll fn cause).tx = s.tx := by
  unfold State.settleAll
  generalize s.faults.standing.filter _ = l
  induction l generalizing s with
  | nil => rfl
  | cons x l ih => rw [List.foldl_cons, ih, State.settle_tx]

/-! ### Objects -/

/-- The objects that reporting writes: the event sequence, the fault and Beacon counts, and the Groomer's counts of the
payloads that Beacon entries compress (R52, R282, R410, R418). -/
def reportKeys : List Nat := [0x204005, 0x220003, 0x220005, 0x220006, 0x221007, 0x3C000A, 0x3C000B, 0x3C000E, 0x3C000F]

theorem ne_of_notReport {k j : Nat} (h : k ∉ reportKeys) (hj : j ∈ reportKeys) : k ≠ j := fun e => h (e ▸ hj)

theorem State.get_jobDone (s : State) (plain coded : Nat) (gain : Bool) {k : Nat} (h : k ∉ reportKeys) :
    (s.jobDone plain coded gain).get k = s.get k := by
  have e : (((s.bump 0x3C000A).bump 0x3C000E plain).bump 0x3C000F coded).get k = s.get k := by
    rw [State.get_bump_ne _ (ne_of_notReport h (by decide)), State.get_bump_ne _ (ne_of_notReport h (by decide)),
      State.get_bump_ne _ (ne_of_notReport h (by decide))]
  unfold State.jobDone
  dsimp only
  split
  · exact e
  · rw [State.get_bump_ne _ (ne_of_notReport h (by decide)), e]

theorem State.get_newEntry (s : State) (kind flags : Nat) (body payload : Bytes) {k : Nat} (_ : k ∉ reportKeys) :
    (s.newEntry kind flags body payload).1.get k = s.get k := rfl

theorem State.get_beaconPut (s : State) (e : Entry) {k : Nat} (h : k ∉ reportKeys) : (s.beaconPut e).1.get k = s.get k := by
  unfold State.beaconPut
  dsimp only
  split_ifs
  · rfl
  · rfl
  · rfl
  · exact State.get_bump_ne _ (ne_of_notReport h (by decide)) _
  · exact State.get_bump_ne _ (ne_of_notReport h (by decide)) _

theorem State.get_contain (s : State) (fn cause : Nat) (e : Effect) (k : Nat) : (s.contain fn cause e).get k = s.get k := by
  unfold State.contain
  split
  · rfl
  · split <;> rfl
  · rfl

theorem State.get_countFault (s : State) (f : FaultEntry) {k : Nat} (h : k ∉ reportKeys) : (s.countFault f).get k = s.get k := by
  have e : (s.countFault f).get k = (((s.put 0x204005 f.seq).bump 0x220003).put 0x220006 f.code).get k := rfl
  rw [e, State.get_put_ne _ (ne_of_notReport h (by decide)), State.get_bump_ne _ (ne_of_notReport h (by decide)),
    State.get_put_ne _ (ne_of_notReport h (by decide))]

theorem State.get_queueFault (s : State) (f : FaultEntry) (start : Nat) {k : Nat} (h : k ∉ reportKeys) :
    (s.queueFault f start).get k = s.get k := by
  unfold State.queueFault
  dsimp only
  split
  · rfl
  · split <;> exact State.get_bump_ne _ (ne_of_notReport h (by decide)) _

theorem State.get_raiseCore (s : State) (fn cause detail : Nat) (e : Effect) {k : Nat} (h : k ∉ reportKeys) :
    (s.raiseCore fn cause detail e).get k = s.get k := by
  unfold State.raiseCore
  dsimp only
  split
  · unfold State.repeatFault
    dsimp only
    rw [State.get_beaconPut _ _ h, State.get_newEntry _ _ _ _ _ h]
    exact State.get_contain _ _ _ _ _
  · rw [State.get_queueFault _ _ _ h, State.get_countFault _ _ h, State.get_contain]

theorem State.get_raise (s : State) (fn cause detail : Nat) {k : Nat} (h : k ∉ reportKeys) : (s.raise fn cause detail).get k = s.get k :=
  State.get_raiseCore _ _ _ _ _ h

theorem State.get_onset (s : State) (fn cause item : Nat) {k : Nat} (h : k ∉ reportKeys) : (s.onset fn cause item).get k = s.get k := by
  unfold State.onset
  split
  · rfl
  · rw [State.get_raise _ _ _ _ h]; rfl

theorem State.get_beaconAdd (s : State) (kind flags : Nat) (body payload : Bytes) {k : Nat} (h : k ∉ reportKeys) :
    (s.beaconAdd kind flags body payload).get k = s.get k := by
  unfold State.beaconAdd
  dsimp only
  split
  · rw [State.get_raiseCore _ _ _ _ _ h, State.get_beaconPut _ _ h, State.get_newEntry _ _ _ _ _ h]
  · rw [State.get_beaconPut _ _ h, State.get_newEntry _ _ _ _ _ h]

theorem State.get_sendEmcy (s : State) (p k : Nat) : (s.sendEmcy p).get k = s.get k := by
  unfold State.sendEmcy
  split
  · rfl
  · split
    · rfl
    · dsimp only
      split_ifs <;> rfl

theorem State.get_emergencyOn (s : State) (e : Emcy) (p k : Nat) : (s.emergencyOn e p).get k = s.get k := by
  unfold State.emergencyOn
  split
  · rfl
  · split
    · rw [State.get_sendEmcy]; rfl
    · rfl

theorem State.get_emergency (s : State) (e : Emcy) (k : Nat) : (s.emergency e).get k = s.get k := by
  unfold State.emergency
  split
  · rfl
  · rw [State.get_emergencyOn, State.get_emergencyOn]

theorem State.get_sweep (s : State) {k : Nat} (h : k ∉ reportKeys) : s.sweep.get k = s.get k := by
  unfold State.sweep
  dsimp only
  split_ifs
  · rw [State.get_raise _ _ _ _ h]
    have e := State.get_emergency
    exact (e _ _ k).trans ((State.get_event _ _ (ne_of_notReport h (by decide))).trans rfl)
  · exact (State.get_emergency _ _ k).trans ((State.get_event _ _ (ne_of_notReport h (by decide))).trans rfl)
  · rw [State.get_raise _ _ _ _ h]; rfl
  · rfl

theorem State.get_settle (s : State) (fn cause item : Nat) {k : Nat} (h : k ∉ reportKeys) : (s.settle fn cause item).get k = s.get k := by
  unfold State.settle
  dsimp only
  split_ifs
  · rfl
  · rfl
  · split
    · rfl
    · rw [State.get_sweep _ h, State.get_beaconAdd _ _ _ _ _ h]; rfl

theorem State.get_settleAll (s : State) (fn cause : Nat) {k : Nat} (h : k ∉ reportKeys) : (s.settleAll fn cause).get k = s.get k := by
  unfold State.settleAll
  generalize s.faults.standing.filter _ = l
  induction l generalizing s with
  | nil => rfl
  | cons x l ih => rw [List.foldl_cons, ih, State.get_settle _ _ _ _ h]

end Sys2Proof.Machine
end

