-- ==== Sys2Proof/Laws/Send.lean ====
section
/-!
SUPPORT. Sys2Proof/Laws/Send.lean: what answers, packets on the panel link and the twin link, and scene notices leave alone: one
lemma per operation and part of the state that it does not touch, and the objects that packets count.
-/

namespace Sys2Proof.Machine

/-! ### answer -/

@[simp] theorem State.answer_pending (s : State) (p : Path) (code : Nat) (data : Bytes) : (s.answer p code data).pending = s.pending := by
  unfold State.answer
  split <;> rfl
@[simp] theorem State.answer_now (s : State) (p : Path) (code : Nat) (data : Bytes) : (s.answer p code data).now = s.now := by
  unfold State.answer
  split <;> rfl
@[simp] theorem State.answer_free (s : State) (p : Path) (code : Nat) (data : Bytes) : (s.answer p code data).free = s.free := by
  unfold State.answer
  split <;> rfl
@[simp] theorem State.answer_doms (s : State) (p : Path) (code : Nat) (data : Bytes) : (s.answer p code data).doms = s.doms := by
  unfold State.answer
  split <;> rfl
@[simp] theorem State.answer_pendR (s : State) (p : Path) (code : Nat) (data : Bytes) : (s.answer p code data).pendR = s.pendR := by
  unfold State.answer
  split <;> rfl
@[simp] theorem State.answer_pendD (s : State) (p : Path) (code : Nat) (data : Bytes) : (s.answer p code data).pendD = s.pendD := by
  unfold State.answer
  split <;> rfl
@[simp] theorem State.answer_burnR (s : State) (p : Path) (code : Nat) (data : Bytes) : (s.answer p code data).burnR = s.burnR := by
  unfold State.answer
  split <;> rfl
@[simp] theorem State.answer_burnD (s : State) (p : Path) (code : Nat) (data : Bytes) : (s.answer p code data).burnD = s.burnD := by
  unfold State.answer
  split <;> rfl
@[simp] theorem State.answer_stages (s : State) (p : Path) (code : Nat) (data : Bytes) : (s.answer p code data).stages = s.stages := by
  unfold State.answer
  split <;> rfl
@[simp] theorem State.answer_ctl (s : State) (p : Path) (code : Nat) (data : Bytes) : (s.answer p code data).ctl = s.ctl := by
  unfold State.answer
  split <;> rfl
@[simp] theorem State.answer_power (s : State) (p : Path) (code : Nat) (data : Bytes) : (s.answer p code data).power = s.power := by
  unfold State.answer
  split <;> rfl
@[simp] theorem State.answer_faults (s : State) (p : Path) (code : Nat) (data : Bytes) : (s.answer p code data).faults = s.faults := by
  unfold State.answer
  split <;> rfl
@[simp] theorem State.answer_beacon (s : State) (p : Path) (code : Nat) (data : Bytes) : (s.answer p code data).beacon = s.beacon := by
  unfold State.answer
  split <;> rfl
@[simp] theorem State.answer_nv (s : State) (p : Path) (code : Nat) (data : Bytes) : (s.answer p code data).nv = s.nv := by
  unfold State.answer
  split <;> rfl
@[simp] theorem State.answer_cal (s : State) (p : Path) (code : Nat) (data : Bytes) : (s.answer p code data).cal = s.cal := by
  unfold State.answer
  split <;> rfl
@[simp] theorem State.answer_lift (s : State) (p : Path) (code : Nat) (data : Bytes) : (s.answer p code data).lift = s.lift := by
  unfold State.answer
  split <;> rfl
@[simp] theorem State.answer_scene (s : State) (p : Path) (code : Nat) (data : Bytes) : (s.answer p code data).scene = s.scene := by
  unfold State.answer
  split <;> rfl
@[simp] theorem State.answer_banks (s : State) (p : Path) (code : Nat) (data : Bytes) : (s.answer p code data).banks = s.banks := by
  unfold State.answer
  split <;> rfl
@[simp] theorem State.answer_link (s : State) (p : Path) (code : Nat) (data : Bytes) : (s.answer p code data).link = s.link := by
  unfold State.answer
  split <;> rfl
@[simp] theorem State.answer_care (s : State) (p : Path) (code : Nat) (data : Bytes) : (s.answer p code data).care = s.care := by
  unfold State.answer
  split <;> rfl
@[simp] theorem State.answer_pair (s : State) (p : Path) (code : Nat) (data : Bytes) : (s.answer p code data).pair = s.pair := by
  unfold State.answer
  split <;> rfl
@[simp] theorem State.answer_clock (s : State) (p : Path) (code : Nat) (data : Bytes) : (s.answer p code data).clock = s.clock := by
  unfold State.answer
  split <;> rfl
@[simp] theorem State.answer_media (s : State) (p : Path) (code : Nat) (data : Bytes) : (s.answer p code data).media = s.media := by
  unfold State.answer
  split <;> rfl
@[simp] theorem State.answer_memory (s : State) (p : Path) (code : Nat) (data : Bytes) : (s.answer p code data).memory = s.memory := by
  unfold State.answer
  split <;> rfl
@[simp] theorem State.answer_net (s : State) (p : Path) (code : Nat) (data : Bytes) : (s.answer p code data).net = s.net := by
  unfold State.answer
  split <;> rfl

/-! ### reply -/

@[simp] theorem State.reply_pending (s : State) (p : Path) (id : Option Nat) (k code : Nat) : (s.reply p id k code).pending = s.pending := by
  unfold State.reply
  split <;> simp
@[simp] theorem State.reply_now (s : State) (p : Path) (id : Option Nat) (k code : Nat) : (s.reply p id k code).now = s.now := by
  unfold State.reply
  split <;> simp
@[simp] theorem State.reply_free (s : State) (p : Path) (id : Option Nat) (k code : Nat) : (s.reply p id k code).free = s.free := by
  unfold State.reply
  split <;> simp
@[simp] theorem State.reply_doms (s : State) (p : Path) (id : Option Nat) (k code : Nat) : (s.reply p id k code).doms = s.doms := by
  unfold State.reply
  split <;> simp
@[simp] theorem State.reply_pendR (s : State) (p : Path) (id : Option Nat) (k code : Nat) : (s.reply p id k code).pendR = s.pendR := by
  unfold State.reply
  split <;> simp
@[simp] theorem State.reply_pendD (s : State) (p : Path) (id : Option Nat) (k code : Nat) : (s.reply p id k code).pendD = s.pendD := by
  unfold State.reply
  split <;> simp
@[simp] theorem State.reply_burnR (s : State) (p : Path) (id : Option Nat) (k code : Nat) : (s.reply p id k code).burnR = s.burnR := by
  unfold State.reply
  split <;> simp
@[simp] theorem State.reply_burnD (s : State) (p : Path) (id : Option Nat) (k code : Nat) : (s.reply p id k code).burnD = s.burnD := by
  unfold State.reply
  split <;> simp
@[simp] theorem State.reply_stages (s : State) (p : Path) (id : Option Nat) (k code : Nat) : (s.reply p id k code).stages = s.stages := by
  unfold State.reply
  split <;> simp
@[simp] theorem State.reply_ctl (s : State) (p : Path) (id : Option Nat) (k code : Nat) : (s.reply p id k code).ctl = s.ctl := by
  unfold State.reply
  split <;> simp
@[simp] theorem State.reply_power (s : State) (p : Path) (id : Option Nat) (k code : Nat) : (s.reply p id k code).power = s.power := by
  unfold State.reply
  split <;> simp
@[simp] theorem State.reply_faults (s : State) (p : Path) (id : Option Nat) (k code : Nat) : (s.reply p id k code).faults = s.faults := by
  unfold State.reply
  split <;> simp
@[simp] theorem State.reply_beacon (s : State) (p : Path) (id : Option Nat) (k code : Nat) : (s.reply p id k code).beacon = s.beacon := by
  unfold State.reply
  split <;> simp
@[simp] theorem State.reply_nv (s : State) (p : Path) (id : Option Nat) (k code : Nat) : (s.reply p id k code).nv = s.nv := by
  unfold State.reply
  split <;> simp
@[simp] theorem State.reply_cal (s : State) (p : Path) (id : Option Nat) (k code : Nat) : (s.reply p id k code).cal = s.cal := by
  unfold State.reply
  split <;> simp
@[simp] theorem State.reply_lift (s : State) (p : Path) (id : Option Nat) (k code : Nat) : (s.reply p id k code).lift = s.lift := by
  unfold State.reply
  split <;> simp
@[simp] theorem State.reply_scene (s : State) (p : Path) (id : Option Nat) (k code : Nat) : (s.reply p id k code).scene = s.scene := by
  unfold State.reply
  split <;> simp
@[simp] theorem State.reply_banks (s : State) (p : Path) (id : Option Nat) (k code : Nat) : (s.reply p id k code).banks = s.banks := by
  unfold State.reply
  split <;> simp
@[simp] theorem State.reply_link (s : State) (p : Path) (id : Option Nat) (k code : Nat) : (s.reply p id k code).link = s.link := by
  unfold State.reply
  split <;> simp
@[simp] theorem State.reply_care (s : State) (p : Path) (id : Option Nat) (k code : Nat) : (s.reply p id k code).care = s.care := by
  unfold State.reply
  split <;> simp
@[simp] theorem State.reply_pair (s : State) (p : Path) (id : Option Nat) (k code : Nat) : (s.reply p id k code).pair = s.pair := by
  unfold State.reply
  split <;> simp
@[simp] theorem State.reply_clock (s : State) (p : Path) (id : Option Nat) (k code : Nat) : (s.reply p id k code).clock = s.clock := by
  unfold State.reply
  split <;> simp
@[simp] theorem State.reply_media (s : State) (p : Path) (id : Option Nat) (k code : Nat) : (s.reply p id k code).media = s.media := by
  unfold State.reply
  split <;> simp
@[simp] theorem State.reply_memory (s : State) (p : Path) (id : Option Nat) (k code : Nat) : (s.reply p id k code).memory = s.memory := by
  unfold State.reply
  split <;> simp
@[simp] theorem State.reply_net (s : State) (p : Path) (id : Option Nat) (k code : Nat) : (s.reply p id k code).net = s.net := by
  unfold State.reply
  split <;> simp

/-! ### setSdo -/

@[simp] theorem State.setSdo_pending (s : State) (p : Nat) (o : Option SdoOpen) : (s.setSdo p o).pending = s.pending := by
  unfold State.setSdo
  split <;> rfl
@[simp] theorem State.setSdo_now (s : State) (p : Nat) (o : Option SdoOpen) : (s.setSdo p o).now = s.now := by
  unfold State.setSdo
  split <;> rfl
@[simp] theorem State.setSdo_free (s : State) (p : Nat) (o : Option SdoOpen) : (s.setSdo p o).free = s.free := by
  unfold State.setSdo
  split <;> rfl
@[simp] theorem State.setSdo_out (s : State) (p : Nat) (o : Option SdoOpen) : (s.setSdo p o).out = s.out := by
  unfold State.setSdo
  split <;> rfl
@[simp] theorem State.setSdo_doms (s : State) (p : Nat) (o : Option SdoOpen) : (s.setSdo p o).doms = s.doms := by
  unfold State.setSdo
  split <;> rfl
@[simp] theorem State.setSdo_pendR (s : State) (p : Nat) (o : Option SdoOpen) : (s.setSdo p o).pendR = s.pendR := by
  unfold State.setSdo
  split <;> rfl
@[simp] theorem State.setSdo_pendD (s : State) (p : Nat) (o : Option SdoOpen) : (s.setSdo p o).pendD = s.pendD := by
  unfold State.setSdo
  split <;> rfl
@[simp] theorem State.setSdo_burnR (s : State) (p : Nat) (o : Option SdoOpen) : (s.setSdo p o).burnR = s.burnR := by
  unfold State.setSdo
  split <;> rfl
@[simp] theorem State.setSdo_burnD (s : State) (p : Nat) (o : Option SdoOpen) : (s.setSdo p o).burnD = s.burnD := by
  unfold State.setSdo
  split <;> rfl
@[simp] theorem State.setSdo_stages (s : State) (p : Nat) (o : Option SdoOpen) : (s.setSdo p o).stages = s.stages := by
  unfold State.setSdo
  split <;> rfl
@[simp] theorem State.setSdo_power (s : State) (p : Nat) (o : Option SdoOpen) : (s.setSdo p o).power = s.power := by
  unfold State.setSdo
  split <;> rfl
@[simp] theorem State.setSdo_faults (s : State) (p : Nat) (o : Option SdoOpen) : (s.setSdo p o).faults = s.faults := by
  unfold State.setSdo
  split <;> rfl
@[simp] theorem State.setSdo_beacon (s : State) (p : Nat) (o : Option SdoOpen) : (s.setSdo p o).beacon = s.beacon := by
  unfold State.setSdo
  split <;> rfl
@[simp] theorem State.setSdo_nv (s : State) (p : Nat) (o : Option SdoOpen) : (s.setSdo p o).nv = s.nv := by
  unfold State.setSdo
  split <;> rfl
@[simp] theorem State.setSdo_cal (s : State) (p : Nat) (o : Option SdoOpen) : (s.setSdo p o).cal = s.cal := by
  unfold State.setSdo
  split <;> rfl
@[simp] theorem State.setSdo_lift (s : State) (p : Nat) (o : Option SdoOpen) : (s.setSdo p o).lift = s.lift := by
  unfold State.setSdo
  split <;> rfl
@[simp] theorem State.setSdo_scene (s : State) (p : Nat) (o : Option SdoOpen) : (s.setSdo p o).scene = s.scene := by
  unfold State.setSdo
  split <;> rfl
@[simp] theorem State.setSdo_banks (s : State) (p : Nat) (o : Option SdoOpen) : (s.setSdo p o).banks = s.banks := by
  unfold State.setSdo
  split <;> rfl
@[simp] theorem State.setSdo_link (s : State) (p : Nat) (o : Option SdoOpen) : (s.setSdo p o).link = s.link := by
  unfold State.setSdo
  split <;> rfl
@[simp] theorem State.setSdo_care (s : State) (p : Nat) (o : Option SdoOpen) : (s.setSdo p o).care = s.care := by
  unfold State.setSdo
  split <;> rfl
@[simp] theorem State.setSdo_pair (s : State) (p : Nat) (o : Option SdoOpen) : (s.setSdo p o).pair = s.pair := by
  unfold State.setSdo
  split <;> rfl
@[simp] theorem State.setSdo_clock (s : State) (p : Nat) (o : Option SdoOpen) : (s.setSdo p o).clock = s.clock := by
  unfold State.setSdo
  split <;> rfl
@[simp] theorem State.setSdo_media (s : State) (p : Nat) (o : Option SdoOpen) : (s.setSdo p o).media = s.media := by
  unfold State.setSdo
  split <;> rfl
@[simp] theorem State.setSdo_memory (s : State) (p : Nat) (o : Option SdoOpen) : (s.setSdo p o).memory = s.memory := by
  unfold State.setSdo
  split <;> rfl
@[simp] theorem State.setSdo_net (s : State) (p : Nat) (o : Option SdoOpen) : (s.setSdo p o).net = s.net := by
  unfold State.setSdo
  split <;> rfl

/-! ### unstageCan -/

@[simp] theorem State.unstageCan_pending (s : State) (p : Nat) : (s.unstageCan p).pending = s.pending := rfl
@[simp] theorem State.unstageCan_now (s : State) (p : Nat) : (s.unstageCan p).now = s.now := rfl
@[simp] theorem State.unstageCan_free (s : State) (p : Nat) : (s.unstageCan p).free = s.free := rfl
@[simp] theorem State.unstageCan_out (s : State) (p : Nat) : (s.unstageCan p).out = s.out := rfl
@[simp] theorem State.unstageCan_doms (s : State) (p : Nat) : (s.unstageCan p).doms = s.doms := rfl
@[simp] theorem State.unstageCan_pendR (s : State) (p : Nat) : (s.unstageCan p).pendR = s.pendR := rfl
@[simp] theorem State.unstageCan_pendD (s : State) (p : Nat) : (s.unstageCan p).pendD = s.pendD := rfl
@[simp] theorem State.unstageCan_burnR (s : State) (p : Nat) : (s.unstageCan p).burnR = s.burnR := rfl
@[simp] theorem State.unstageCan_burnD (s : State) (p : Nat) : (s.unstageCan p).burnD = s.burnD := rfl
@[simp] theorem State.unstageCan_stages (s : State) (p : Nat) : (s.unstageCan p).stages = s.stages := rfl
@[simp] theorem State.unstageCan_power (s : State) (p : Nat) : (s.unstageCan p).power = s.power := rfl
@[simp] theorem State.unstageCan_faults (s : State) (p : Nat) : (s.unstageCan p).faults = s.faults := rfl
@[simp] theorem State.unstageCan_beacon (s : State) (p : Nat) : (s.unstageCan p).beacon = s.beacon := rfl
@[simp] theorem State.unstageCan_nv (s : State) (p : Nat) : (s.unstageCan p).nv = s.nv := rfl
@[simp] theorem State.unstageCan_cal (s : State) (p : Nat) : (s.unstageCan p).cal = s.cal := rfl
@[simp] theorem State.unstageCan_lift (s : State) (p : Nat) : (s.unstageCan p).lift = s.lift := rfl
@[simp] theorem State.unstageCan_scene (s : State) (p : Nat) : (s.unstageCan p).scene = s.scene := rfl
@[simp] theorem State.unstageCan_banks (s : State) (p : Nat) : (s.unstageCan p).banks = s.banks := rfl
@[simp] theorem State.unstageCan_link (s : State) (p : Nat) : (s.unstageCan p).link = s.link := rfl
@[simp] theorem State.unstageCan_care (s : State) (p : Nat) : (s.unstageCan p).care = s.care := rfl
@[simp] theorem State.unstageCan_pair (s : State) (p : Nat) : (s.unstageCan p).pair = s.pair := rfl
@[simp] theorem State.unstageCan_clock (s : State) (p : Nat) : (s.unstageCan p).clock = s.clock := rfl
@[simp] theorem State.unstageCan_media (s : State) (p : Nat) : (s.unstageCan p).media = s.media := rfl
@[simp] theorem State.unstageCan_memory (s : State) (p : Nat) : (s.unstageCan p).memory = s.memory := rfl
@[simp] theorem State.unstageCan_net (s : State) (p : Nat) : (s.unstageCan p).net = s.net := rfl

/-! ### supersede -/

@[simp] theorem State.supersede_pending (s : State) (p : Nat) : (s.supersede p).pending = s.pending := by
  unfold State.supersede
  split <;> simp
@[simp] theorem State.supersede_now (s : State) (p : Nat) : (s.supersede p).now = s.now := by
  unfold State.supersede
  split <;> simp
@[simp] theorem State.supersede_free (s : State) (p : Nat) : (s.supersede p).free = s.free := by
  unfold State.supersede
  split <;> simp
@[simp] theorem State.supersede_doms (s : State) (p : Nat) : (s.supersede p).doms = s.doms := by
  unfold State.supersede
  split <;> simp
@[simp] theorem State.supersede_pendR (s : State) (p : Nat) : (s.supersede p).pendR = s.pendR := by
  unfold State.supersede
  split <;> simp
@[simp] theorem State.supersede_pendD (s : State) (p : Nat) : (s.supersede p).pendD = s.pendD := by
  unfold State.supersede
  split <;> simp
@[simp] theorem State.supersede_burnR (s : State) (p : Nat) : (s.supersede p).burnR = s.burnR := by
  unfold State.supersede
  split <;> simp
@[simp] theorem State.supersede_burnD (s : State) (p : Nat) : (s.supersede p).burnD = s.burnD := by
  unfold State.supersede
  split <;> simp
@[simp] theorem State.supersede_stages (s : State) (p : Nat) : (s.supersede p).stages = s.stages := by
  unfold State.supersede
  split <;> simp
@[simp] theorem State.supersede_power (s : State) (p : Nat) : (s.supersede p).power = s.power := by
  unfold State.supersede
  split <;> simp
@[simp] theorem State.supersede_faults (s : State) (p : Nat) : (s.supersede p).faults = s.faults := by
  unfold State.supersede
  split <;> simp
@[simp] theorem State.supersede_beacon (s : State) (p : Nat) : (s.supersede p).beacon = s.beacon := by
  unfold State.supersede
  split <;> simp
@[simp] theorem State.supersede_nv (s : State) (p : Nat) : (s.supersede p).nv = s.nv := by
  unfold State.supersede
  split <;> simp
@[simp] theorem State.supersede_cal (s : State) (p : Nat) : (s.supersede p).cal = s.cal := by
  unfold State.supersede
  split <;> simp
@[simp] theorem State.supersede_lift (s : State) (p : Nat) : (s.supersede p).lift = s.lift := by
  unfold State.supersede
  split <;> simp
@[simp] theorem State.supersede_scene (s : State) (p : Nat) : (s.supersede p).scene = s.scene := by
  unfold State.supersede
  split <;> simp
@[simp] theorem State.supersede_banks (s : State) (p : Nat) : (s.supersede p).banks = s.banks := by
  unfold State.supersede
  split <;> simp
@[simp] theorem State.supersede_link (s : State) (p : Nat) : (s.supersede p).link = s.link := by
  unfold State.supersede
  split <;> simp
@[simp] theorem State.supersede_care (s : State) (p : Nat) : (s.supersede p).care = s.care := by
  unfold State.supersede
  split <;> simp
@[simp] theorem State.supersede_pair (s : State) (p : Nat) : (s.supersede p).pair = s.pair := by
  unfold State.supersede
  split <;> simp
@[simp] theorem State.supersede_clock (s : State) (p : Nat) : (s.supersede p).clock = s.clock := by
  unfold State.supersede
  split <;> simp
@[simp] theorem State.supersede_media (s : State) (p : Nat) : (s.supersede p).media = s.media := by
  unfold State.supersede
  split <;> simp
@[simp] theorem State.supersede_memory (s : State) (p : Nat) : (s.supersede p).memory = s.memory := by
  unfold State.supersede
  split <;> simp
@[simp] theorem State.supersede_net (s : State) (p : Nat) : (s.supersede p).net = s.net := by
  unfold State.supersede
  split <;> simp

/-! ### heard -/

@[simp] theorem State.heard_pending (s : State) (p : Path) : (s.heard p).pending = s.pending := by
  unfold State.heard
  split <;> simp
@[simp] theorem State.heard_now (s : State) (p : Path) : (s.heard p).now = s.now := by
  unfold State.heard
  split <;> simp
@[simp] theorem State.heard_free (s : State) (p : Path) : (s.heard p).free = s.free := by
  unfold State.heard
  split <;> simp
@[simp] theorem State.heard_doms (s : State) (p : Path) : (s.heard p).doms = s.doms := by
  unfold State.heard
  split <;> simp
@[simp] theorem State.heard_pendR (s : State) (p : Path) : (s.heard p).pendR = s.pendR := by
  unfold State.heard
  split <;> simp
@[simp] theorem State.heard_pendD (s : State) (p : Path) : (s.heard p).pendD = s.pendD := by
  unfold State.heard
  split <;> simp
@[simp] theorem State.heard_burnR (s : State) (p : Path) : (s.heard p).burnR = s.burnR := by
  unfold State.heard
  split <;> simp
@[simp] theorem State.heard_burnD (s : State) (p : Path) : (s.heard p).burnD = s.burnD := by
  unfold State.heard
  split <;> simp
@[simp] theorem State.heard_stages (s : State) (p : Path) : (s.heard p).stages = s.stages := by
  unfold State.heard
  split <;> simp
@[simp] theorem State.heard_power (s : State) (p : Path) : (s.heard p).power = s.power := by
  unfold State.heard
  split <;> simp
@[simp] theorem State.heard_faults (s : State) (p : Path) : (s.heard p).faults = s.faults := by
  unfold State.heard
  split <;> simp
@[simp] theorem State.heard_beacon (s : State) (p : Path) : (s.heard p).beacon = s.beacon := by
  unfold State.heard
  split <;> simp
@[simp] theorem State.heard_nv (s : State) (p : Path) : (s.heard p).nv = s.nv := by
  unfold State.heard
  split <;> simp
@[simp] theorem State.heard_cal (s : State) (p : Path) : (s.heard p).cal = s.cal := by
  unfold State.heard
  split <;> simp
@[simp] theorem State.heard_lift (s : State) (p : Path) : (s.heard p).lift = s.lift := by
  unfold State.heard
  split <;> simp
@[simp] theorem State.heard_scene (s : State) (p : Path) : (s.heard p).scene = s.scene := by
  unfold State.heard
  split <;> simp
@[simp] theorem State.heard_banks (s : State) (p : Path) : (s.heard p).banks = s.banks := by
  unfold State.heard
  split <;> simp
@[simp] theorem State.heard_link (s : State) (p : Path) : (s.heard p).link = s.link := by
  unfold State.heard
  split <;> simp
@[simp] theorem State.heard_care (s : State) (p : Path) : (s.heard p).care = s.care := by
  unfold State.heard
  split <;> simp
@[simp] theorem State.heard_pair (s : State) (p : Path) : (s.heard p).pair = s.pair := by
  unfold State.heard
  split <;> simp
@[simp] theorem State.heard_clock (s : State) (p : Path) : (s.heard p).clock = s.clock := by
  unfold State.heard
  split <;> simp
@[simp] theorem State.heard_media (s : State) (p : Path) : (s.heard p).media = s.media := by
  unfold State.heard
  split <;> simp
@[simp] theorem State.heard_memory (s : State) (p : Path) : (s.heard p).memory = s.memory := by
  unfold State.heard
  split <;> simp
@[simp] theorem State.heard_net (s : State) (p : Path) : (s.heard p).net = s.net := by
  unfold State.heard
  split <;> simp

/-! ### drive -/

@[simp] theorem State.drive_pending (s : State) (l : List (Nat × List Symbol)) : (s.drive l).pending = s.pending := rfl
@[simp] theorem State.drive_now (s : State) (l : List (Nat × List Symbol)) : (s.drive l).now = s.now := rfl
@[simp] theorem State.drive_free (s : State) (l : List (Nat × List Symbol)) : (s.drive l).free = s.free := rfl
@[simp] theorem State.drive_doms (s : State) (l : List (Nat × List Symbol)) : (s.drive l).doms = s.doms := rfl
@[simp] theorem State.drive_pendR (s : State) (l : List (Nat × List Symbol)) : (s.drive l).pendR = s.pendR := rfl
@[simp] theorem State.drive_pendD (s : State) (l : List (Nat × List Symbol)) : (s.drive l).pendD = s.pendD := rfl
@[simp] theorem State.drive_burnR (s : State) (l : List (Nat × List Symbol)) : (s.drive l).burnR = s.burnR := rfl
@[simp] theorem State.drive_burnD (s : State) (l : List (Nat × List Symbol)) : (s.drive l).burnD = s.burnD := rfl
@[simp] theorem State.drive_stages (s : State) (l : List (Nat × List Symbol)) : (s.drive l).stages = s.stages := rfl
@[simp] theorem State.drive_ctl (s : State) (l : List (Nat × List Symbol)) : (s.drive l).ctl = s.ctl := rfl
@[simp] theorem State.drive_power (s : State) (l : List (Nat × List Symbol)) : (s.drive l).power = s.power := rfl
@[simp] theorem State.drive_faults (s : State) (l : List (Nat × List Symbol)) : (s.drive l).faults = s.faults := rfl
@[simp] theorem State.drive_beacon (s : State) (l : List (Nat × List Symbol)) : (s.drive l).beacon = s.beacon := rfl
@[simp] theorem State.drive_nv (s : State) (l : List (Nat × List Symbol)) : (s.drive l).nv = s.nv := rfl
@[simp] theorem State.drive_cal (s : State) (l : List (Nat × List Symbol)) : (s.drive l).cal = s.cal := rfl
@[simp] theorem State.drive_lift (s : State) (l : List (Nat × List Symbol)) : (s.drive l).lift = s.lift := rfl
@[simp] theorem State.drive_scene (s : State) (l : List (Nat × List Symbol)) : (s.drive l).scene = s.scene := rfl
@[simp] theorem State.drive_banks (s : State) (l : List (Nat × List Symbol)) : (s.drive l).banks = s.banks := rfl
@[simp] theorem State.drive_care (s : State) (l : List (Nat × List Symbol)) : (s.drive l).care = s.care := rfl
@[simp] theorem State.drive_pair (s : State) (l : List (Nat × List Symbol)) : (s.drive l).pair = s.pair := rfl
@[simp] theorem State.drive_clock (s : State) (l : List (Nat × List Symbol)) : (s.drive l).clock = s.clock := rfl
@[simp] theorem State.drive_media (s : State) (l : List (Nat × List Symbol)) : (s.drive l).media = s.media := rfl
@[simp] theorem State.drive_memory (s : State) (l : List (Nat × List Symbol)) : (s.drive l).memory = s.memory := rfl
@[simp] theorem State.drive_net (s : State) (l : List (Nat × List Symbol)) : (s.drive l).net = s.net := rfl
@[simp] theorem State.drive_regs (s : State) (l : List (Nat × List Symbol)) : (s.drive l).regs = s.regs := rfl
@[simp] theorem State.drive_link_retry (s : State) (l : List (Nat × List Symbol)) : (s.drive l).link.retry = s.link.retry := rfl
@[simp] theorem State.drive_link_nextSeq (s : State) (l : List (Nat × List Symbol)) : (s.drive l).link.nextSeq = s.link.nextSeq := rfl

/-! ### driveAll -/

@[simp] theorem State.driveAll_pending (s : State) (lanes : List Nat) (l : List Symbol) : (s.driveAll lanes l).pending = s.pending := rfl
@[simp] theorem State.driveAll_now (s : State) (lanes : List Nat) (l : List Symbol) : (s.driveAll lanes l).now = s.now := rfl
@[simp] theorem State.driveAll_free (s : State) (lanes : List Nat) (l : List Symbol) : (s.driveAll lanes l).free = s.free := rfl
@[simp] theorem State.driveAll_doms (s : State) (lanes : List Nat) (l : List Symbol) : (s.driveAll lanes l).doms = s.doms := rfl
@[simp] theorem State.driveAll_pendR (s : State) (lanes : List Nat) (l : List Symbol) : (s.driveAll lanes l).pendR = s.pendR := rfl
@[simp] theorem State.driveAll_pendD (s : State) (lanes : List Nat) (l : List Symbol) : (s.driveAll lanes l).pendD = s.pendD := rfl
@[simp] theorem State.driveAll_burnR (s : State) (lanes : List Nat) (l : List Symbol) : (s.driveAll lanes l).burnR = s.burnR := rfl
@[simp] theorem State.driveAll_burnD (s : State) (lanes : List Nat) (l : List Symbol) : (s.driveAll lanes l).burnD = s.burnD := rfl
@[simp] theorem State.driveAll_stages (s : State) (lanes : List Nat) (l : List Symbol) : (s.driveAll lanes l).stages = s.stages := rfl
@[simp] theorem State.driveAll_ctl (s : State) (lanes : List Nat) (l : List Symbol) : (s.driveAll lanes l).ctl = s.ctl := rfl
@[simp] theorem State.driveAll_power (s : State) (lanes : List Nat) (l : List Symbol) : (s.driveAll lanes l).power = s.power := rfl
@[simp] theorem State.driveAll_faults (s : State) (lanes : List Nat) (l : List Symbol) : (s.driveAll lanes l).faults = s.faults := rfl
@[simp] theorem State.driveAll_beacon (s : State) (lanes : List Nat) (l : List Symbol) : (s.driveAll lanes l).beacon = s.beacon := rfl
@[simp] theorem State.driveAll_nv (s : State) (lanes : List Nat) (l : List Symbol) : (s.driveAll lanes l).nv = s.nv := rfl
@[simp] theorem State.driveAll_cal (s : State) (lanes : List Nat) (l : List Symbol) : (s.driveAll lanes l).cal = s.cal := rfl
@[simp] theorem State.driveAll_lift (s : State) (lanes : List Nat) (l : List Symbol) : (s.driveAll lanes l).lift = s.lift := rfl
@[simp] theorem State.driveAll_scene (s : State) (lanes : List Nat) (l : List Symbol) : (s.driveAll lanes l).scene = s.scene := rfl
@[simp] theorem State.driveAll_banks (s : State) (lanes : List Nat) (l : List Symbol) : (s.driveAll lanes l).banks = s.banks := rfl
@[simp] theorem State.driveAll_care (s : State) (lanes : List Nat) (l : List Symbol) : (s.driveAll lanes l).care = s.care := rfl
@[simp] theorem State.driveAll_pair (s : State) (lanes : List Nat) (l : List Symbol) : (s.driveAll lanes l).pair = s.pair := rfl
@[simp] theorem State.driveAll_clock (s : State) (lanes : List Nat) (l : List Symbol) : (s.driveAll lanes l).clock = s.clock := rfl
@[simp] theorem State.driveAll_media (s : State) (lanes : List Nat) (l : List Symbol) : (s.driveAll lanes l).media = s.media := rfl
@[simp] theorem State.driveAll_memory (s : State) (lanes : List Nat) (l : List Symbol) : (s.driveAll lanes l).memory = s.memory := rfl
@[simp] theorem State.driveAll_net (s : State) (lanes : List Nat) (l : List Symbol) : (s.driveAll lanes l).net = s.net := rfl
@[simp] theorem State.driveAll_regs (s : State) (lanes : List Nat) (l : List Symbol) : (s.driveAll lanes l).regs = s.regs := rfl
@[simp] theorem State.driveAll_link_retry (s : State) (lanes : List Nat) (l : List Symbol) : (s.driveAll lanes l).link.retry = s.link.retry := rfl
@[simp] theorem State.driveAll_link_nextSeq (s : State) (lanes : List Nat) (l : List Symbol) : (s.driveAll lanes l).link.nextSeq = s.link.nextSeq := rfl

/-! ### driveOnly -/

@[simp] theorem State.driveOnly_pending (s : State) (lanes : List Nat) : (s.driveOnly lanes).pending = s.pending := rfl
@[simp] theorem State.driveOnly_now (s : State) (lanes : List Nat) : (s.driveOnly lanes).now = s.now := rfl
@[simp] theorem State.driveOnly_free (s : State) (lanes : List Nat) : (s.driveOnly lanes).free = s.free := rfl
@[simp] theorem State.driveOnly_doms (s : State) (lanes : List Nat) : (s.driveOnly lanes).doms = s.doms := rfl
@[simp] theorem State.driveOnly_pendR (s : State) (lanes : List Nat) : (s.driveOnly lanes).pendR = s.pendR := rfl
@[simp] theorem State.driveOnly_pendD (s : State) (lanes : List Nat) : (s.driveOnly lanes).pendD = s.pendD := rfl
@[simp] theorem State.driveOnly_burnR (s : State) (lanes : List Nat) : (s.driveOnly lanes).burnR = s.burnR := rfl
@[simp] theorem State.driveOnly_burnD (s : State) (lanes : List Nat) : (s.driveOnly lanes).burnD = s.burnD := rfl
@[simp] theorem State.driveOnly_stages (s : State) (lanes : List Nat) : (s.driveOnly lanes).stages = s.stages := rfl
@[simp] theorem State.driveOnly_ctl (s : State) (lanes : List Nat) : (s.driveOnly lanes).ctl = s.ctl := rfl
@[simp] theorem State.driveOnly_power (s : State) (lanes : List Nat) : (s.driveOnly lanes).power = s.power := rfl
@[simp] theorem State.driveOnly_faults (s : State) (lanes : List Nat) : (s.driveOnly lanes).faults = s.faults := rfl
@[simp] theorem State.driveOnly_beacon (s : State) (lanes : List Nat) : (s.driveOnly lanes).beacon = s.beacon := rfl
@[simp] theorem State.driveOnly_nv (s : State) (lanes : List Nat) : (s.driveOnly lanes).nv = s.nv := rfl
@[simp] theorem State.driveOnly_cal (s : State) (lanes : List Nat) : (s.driveOnly lanes).cal = s.cal := rfl
@[simp] theorem State.driveOnly_lift (s : State) (lanes : List Nat) : (s.driveOnly lanes).lift = s.lift := rfl
@[simp] theorem State.driveOnly_scene (s : State) (lanes : List Nat) : (s.driveOnly lanes).scene = s.scene := rfl
@[simp] theorem State.driveOnly_banks (s : State) (lanes : List Nat) : (s.driveOnly lanes).banks = s.banks := rfl
@[simp] theorem State.driveOnly_care (s : State) (lanes : List Nat) : (s.driveOnly lanes).care = s.care := rfl
@[simp] theorem State.driveOnly_pair (s : State) (lanes : List Nat) : (s.driveOnly lanes).pair = s.pair := rfl
@[simp] theorem State.driveOnly_clock (s : State) (lanes : List Nat) : (s.driveOnly lanes).clock = s.clock := rfl
@[simp] theorem State.driveOnly_media (s : State) (lanes : List Nat) : (s.driveOnly lanes).media = s.media := rfl
@[simp] theorem State.driveOnly_memory (s : State) (lanes : List Nat) : (s.driveOnly lanes).memory = s.memory := rfl
@[simp] theorem State.driveOnly_net (s : State) (lanes : List Nat) : (s.driveOnly lanes).net = s.net := rfl
@[simp] theorem State.driveOnly_regs (s : State) (lanes : List Nat) : (s.driveOnly lanes).regs = s.regs := rfl
@[simp] theorem State.driveOnly_link_retry (s : State) (lanes : List Nat) : (s.driveOnly lanes).link.retry = s.link.retry := rfl
@[simp] theorem State.driveOnly_link_nextSeq (s : State) (lanes : List Nat) : (s.driveOnly lanes).link.nextSeq = s.link.nextSeq := rfl

/-! ### countSet -/

@[simp] theorem State.countSet_pending (s : State) : s.countSet.pending = s.pending := rfl
@[simp] theorem State.countSet_now (s : State) : s.countSet.now = s.now := rfl
@[simp] theorem State.countSet_free (s : State) : s.countSet.free = s.free := rfl
@[simp] theorem State.countSet_out (s : State) : s.countSet.out = s.out := rfl
@[simp] theorem State.countSet_doms (s : State) : s.countSet.doms = s.doms := rfl
@[simp] theorem State.countSet_pendR (s : State) : s.countSet.pendR = s.pendR := rfl
@[simp] theorem State.countSet_pendD (s : State) : s.countSet.pendD = s.pendD := rfl
@[simp] theorem State.countSet_burnR (s : State) : s.countSet.burnR = s.burnR := rfl
@[simp] theorem State.countSet_burnD (s : State) : s.countSet.burnD = s.burnD := rfl
@[simp] theorem State.countSet_stages (s : State) : s.countSet.stages = s.stages := rfl
@[simp] theorem State.countSet_ctl (s : State) : s.countSet.ctl = s.ctl := rfl
@[simp] theorem State.countSet_power (s : State) : s.countSet.power = s.power := rfl
@[simp] theorem State.countSet_faults (s : State) : s.countSet.faults = s.faults := rfl
@[simp] theorem State.countSet_beacon (s : State) : s.countSet.beacon = s.beacon := rfl
@[simp] theorem State.countSet_nv (s : State) : s.countSet.nv = s.nv := rfl
@[simp] theorem State.countSet_cal (s : State) : s.countSet.cal = s.cal := rfl
@[simp] theorem State.countSet_lift (s : State) : s.countSet.lift = s.lift := rfl
@[simp] theorem State.countSet_scene (s : State) : s.countSet.scene = s.scene := rfl
@[simp] theorem State.countSet_banks (s : State) : s.countSet.banks = s.banks := rfl
@[simp] theorem State.countSet_care (s : State) : s.countSet.care = s.care := rfl
@[simp] theorem State.countSet_pair (s : State) : s.countSet.pair = s.pair := rfl
@[simp] theorem State.countSet_clock (s : State) : s.countSet.clock = s.clock := rfl
@[simp] theorem State.countSet_media (s : State) : s.countSet.media = s.media := rfl
@[simp] theorem State.countSet_memory (s : State) : s.countSet.memory = s.memory := rfl
@[simp] theorem State.countSet_net (s : State) : s.countSet.net = s.net := rfl
@[simp] theorem State.countSet_regs (s : State) : s.countSet.regs = s.regs := rfl
@[simp] theorem State.countSet_link_retry (s : State) : s.countSet.link.retry = s.link.retry := rfl
@[simp] theorem State.countSet_link_nextSeq (s : State) : s.countSet.link.nextSeq = s.link.nextSeq := rfl

/-! ### burstOut -/

@[simp] theorem State.burstOut_pending (s : State) (lanes : List Nat) : (s.burstOut lanes).pending = s.pending := rfl
@[simp] theorem State.burstOut_now (s : State) (lanes : List Nat) : (s.burstOut lanes).now = s.now := rfl
@[simp] theorem State.burstOut_free (s : State) (lanes : List Nat) : (s.burstOut lanes).free = s.free := rfl
@[simp] theorem State.burstOut_doms (s : State) (lanes : List Nat) : (s.burstOut lanes).doms = s.doms := rfl
@[simp] theorem State.burstOut_pendR (s : State) (lanes : List Nat) : (s.burstOut lanes).pendR = s.pendR := rfl
@[simp] theorem State.burstOut_pendD (s : State) (lanes : List Nat) : (s.burstOut lanes).pendD = s.pendD := rfl
@[simp] theorem State.burstOut_burnR (s : State) (lanes : List Nat) : (s.burstOut lanes).burnR = s.burnR := rfl
@[simp] theorem State.burstOut_burnD (s : State) (lanes : List Nat) : (s.burstOut lanes).burnD = s.burnD := rfl
@[simp] theorem State.burstOut_stages (s : State) (lanes : List Nat) : (s.burstOut lanes).stages = s.stages := rfl
@[simp] theorem State.burstOut_ctl (s : State) (lanes : List Nat) : (s.burstOut lanes).ctl = s.ctl := rfl
@[simp] theorem State.burstOut_power (s : State) (lanes : List Nat) : (s.burstOut lanes).power = s.power := rfl
@[simp] theorem State.burstOut_faults (s : State) (lanes : List Nat) : (s.burstOut lanes).faults = s.faults := rfl
@[simp] theorem State.burstOut_beacon (s : State) (lanes : List Nat) : (s.burstOut lanes).beacon = s.beacon := rfl
@[simp] theorem State.burstOut_nv (s : State) (lanes : List Nat) : (s.burstOut lanes).nv = s.nv := rfl
@[simp] theorem State.burstOut_cal (s : State) (lanes : List Nat) : (s.burstOut lanes).cal = s.cal := rfl
@[simp] theorem State.burstOut_lift (s : State) (lanes : List Nat) : (s.burstOut lanes).lift = s.lift := rfl
@[simp] theorem State.burstOut_scene (s : State) (lanes : List Nat) : (s.burstOut lanes).scene = s.scene := rfl
@[simp] theorem State.burstOut_banks (s : State) (lanes : List Nat) : (s.burstOut lanes).banks = s.banks := rfl
@[simp] theorem State.burstOut_care (s : State) (lanes : List Nat) : (s.burstOut lanes).care = s.care := rfl
@[simp] theorem State.burstOut_pair (s : State) (lanes : List Nat) : (s.burstOut lanes).pair = s.pair := rfl
@[simp] theorem State.burstOut_clock (s : State) (lanes : List Nat) : (s.burstOut lanes).clock = s.clock := rfl
@[simp] theorem State.burstOut_media (s : State) (lanes : List Nat) : (s.burstOut lanes).media = s.media := rfl
@[simp] theorem State.burstOut_memory (s : State) (lanes : List Nat) : (s.burstOut lanes).memory = s.memory := rfl
@[simp] theorem State.burstOut_net (s : State) (lanes : List Nat) : (s.burstOut lanes).net = s.net := rfl
@[simp] theorem State.burstOut_regs (s : State) (lanes : List Nat) : (s.burstOut lanes).regs = s.regs := rfl
@[simp] theorem State.burstOut_link_retry (s : State) (lanes : List Nat) : (s.burstOut lanes).link.retry = s.link.retry := rfl
@[simp] theorem State.burstOut_link_nextSeq (s : State) (lanes : List Nat) : (s.burstOut lanes).link.nextSeq = s.link.nextSeq := rfl

/-! ### applyMap -/

@[simp] theorem State.applyMap_pending (s : State) : s.applyMap.pending = s.pending := by
  unfold State.applyMap
  split
  · rfl
  · dsimp only
    split_ifs <;> rfl
@[simp] theorem State.applyMap_now (s : State) : s.applyMap.now = s.now := by
  unfold State.applyMap
  split
  · rfl
  · dsimp only
    split_ifs <;> rfl
@[simp] theorem State.applyMap_free (s : State) : s.applyMap.free = s.free := by
  unfold State.applyMap
  split
  · rfl
  · dsimp only
    split_ifs <;> rfl
@[simp] theorem State.applyMap_doms (s : State) : s.applyMap.doms = s.doms := by
  unfold State.applyMap
  split
  · rfl
  · dsimp only
    split_ifs <;> rfl
@[simp] theorem State.applyMap_pendR (s : State) : s.applyMap.pendR = s.pendR := by
  unfold State.applyMap
  split
  · rfl
  · dsimp only
    split_ifs <;> rfl
@[simp] theorem State.applyMap_pendD (s : State) : s.applyMap.pendD = s.pendD := by
  unfold State.applyMap
  split
  · rfl
  · dsimp only
    split_ifs <;> rfl
@[simp] theorem State.applyMap_burnR (s : State) : s.applyMap.burnR = s.burnR := by
  unfold State.applyMap
  split
  · rfl
  · dsimp only
    split_ifs <;> rfl
@[simp] theorem State.applyMap_burnD (s : State) : s.applyMap.burnD = s.burnD := by
  unfold State.applyMap
  split
  · rfl
  · dsimp only
    split_ifs <;> rfl
@[simp] theorem State.applyMap_stages (s : State) : s.applyMap.stages = s.stages := by
  unfold State.applyMap
  split
  · rfl
  · dsimp only
    split_ifs <;> rfl
@[simp] theorem State.applyMap_ctl (s : State) : s.applyMap.ctl = s.ctl := by
  unfold State.applyMap
  split
  · rfl
  · dsimp only
    split_ifs <;> rfl
@[simp] theorem State.applyMap_power (s : State) : s.applyMap.power = s.power := by
  unfold State.applyMap
  split
  · rfl
  · dsimp only
    split_ifs <;> rfl
@[simp] theorem State.applyMap_faults (s : State) : s.applyMap.faults = s.faults := by
  unfold State.applyMap
  split
  · rfl
  · dsimp only
    split_ifs <;> rfl
@[simp] theorem State.applyMap_beacon (s : State) : s.applyMap.beacon = s.beacon := by
  unfold State.applyMap
  split
  · rfl
  · dsimp only
    split_ifs <;> rfl
@[simp] theorem State.applyMap_nv (s : State) : s.applyMap.nv = s.nv := by
  unfold State.applyMap
  split
  · rfl
  · dsimp only
    split_ifs <;> rfl
@[simp] theorem State.applyMap_cal (s : State) : s.applyMap.cal = s.cal := by
  unfold State.applyMap
  split
  · rfl
  · dsimp only
    split_ifs <;> rfl
@[simp] theorem State.applyMap_lift (s : State) : s.applyMap.lift = s.lift := by
  unfold State.applyMap
  split
  · rfl
  · dsimp only
    split_ifs <;> rfl
@[simp] theorem State.applyMap_scene (s : State) : s.applyMap.scene = s.scene := by
  unfold State.applyMap
  split
  · rfl
  · dsimp only
    split_ifs <;> rfl
@[simp] theorem State.applyMap_banks (s : State) : s.applyMap.banks = s.banks := by
  unfold State.applyMap
  split
  · rfl
  · dsimp only
    split_ifs <;> rfl
@[simp] theorem State.applyMap_care (s : State) : s.applyMap.care = s.care := by
  unfold State.applyMap
  split
  · rfl
  · dsimp only
    split_ifs <;> rfl
@[simp] theorem State.applyMap_pair (s : State) : s.applyMap.pair = s.pair := by
  unfold State.applyMap
  split
  · rfl
  · dsimp only
    split_ifs <;> rfl
@[simp] theorem State.applyMap_clock (s : State) : s.applyMap.clock = s.clock := by
  unfold State.applyMap
  split
  · rfl
  · dsimp only
    split_ifs <;> rfl
@[simp] theorem State.applyMap_media (s : State) : s.applyMap.media = s.media := by
  unfold State.applyMap
  split
  · rfl
  · dsimp only
    split_ifs <;> rfl
@[simp] theorem State.applyMap_memory (s : State) : s.applyMap.memory = s.memory := by
  unfold State.applyMap
  split
  · rfl
  · dsimp only
    split_ifs <;> rfl
@[simp] theorem State.applyMap_net (s : State) : s.applyMap.net = s.net := by
  unfold State.applyMap
  split
  · rfl
  · dsimp only
    split_ifs <;> rfl
@[simp] theorem State.applyMap_regs (s : State) : s.applyMap.regs = s.regs := by
  unfold State.applyMap
  split
  · rfl
  · dsimp only
    split_ifs <;> rfl
@[simp] theorem State.applyMap_link_retry (s : State) : s.applyMap.link.retry = s.link.retry := by
  unfold State.applyMap
  split
  · rfl
  · dsimp only
    split_ifs <;> rfl
@[simp] theorem State.applyMap_link_nextSeq (s : State) : s.applyMap.link.nextSeq = s.link.nextSeq := by
  unfold State.applyMap
  split
  · rfl
  · dsimp only
    split_ifs <;> rfl

/-! ### burst -/

@[simp] theorem State.burst_pending (s : State) (lanes : List Nat) : (s.burst lanes).pending = s.pending := by
  unfold State.burst
  simp
@[simp] theorem State.burst_now (s : State) (lanes : List Nat) : (s.burst lanes).now = s.now := by
  unfold State.burst
  simp
@[simp] theorem State.burst_free (s : State) (lanes : List Nat) : (s.burst lanes).free = s.free := by
  unfold State.burst
  simp
@[simp] theorem State.burst_doms (s : State) (lanes : List Nat) : (s.burst lanes).doms = s.doms := by
  unfold State.burst
  simp
@[simp] theorem State.burst_pendR (s : State) (lanes : List Nat) : (s.burst lanes).pendR = s.pendR := by
  unfold State.burst
  simp
@[simp] theorem State.burst_pendD (s : State) (lanes : List Nat) : (s.burst lanes).pendD = s.pendD := by
  unfold State.burst
  simp
@[simp] theorem State.burst_burnR (s : State) (lanes : List Nat) : (s.burst lanes).burnR = s.burnR := by
  unfold State.burst
  simp
@[simp] theorem State.burst_burnD (s : State) (lanes : List Nat) : (s.burst lanes).burnD = s.burnD := by
  unfold State.burst
  simp
@[simp] theorem State.burst_stages (s : State) (lanes : List Nat) : (s.burst lanes).stages = s.stages := by
  unfold State.burst
  simp
@[simp] theorem State.burst_ctl (s : State) (lanes : List Nat) : (s.burst lanes).ctl = s.ctl := by
  unfold State.burst
  simp
@[simp] theorem State.burst_power (s : State) (lanes : List Nat) : (s.burst lanes).power = s.power := by
  unfold State.burst
  simp
@[simp] theorem State.burst_faults (s : State) (lanes : List Nat) : (s.burst lanes).faults = s.faults := by
  unfold State.burst
  simp
@[simp] theorem State.burst_beacon (s : State) (lanes : List Nat) : (s.burst lanes).beacon = s.beacon := by
  unfold State.burst
  simp
@[simp] theorem State.burst_nv (s : State) (lanes : List Nat) : (s.burst lanes).nv = s.nv := by
  unfold State.burst
  simp
@[simp] theorem State.burst_cal (s : State) (lanes : List Nat) : (s.burst lanes).cal = s.cal := by
  unfold State.burst
  simp
@[simp] theorem State.burst_lift (s : State) (lanes : List Nat) : (s.burst lanes).lift = s.lift := by
  unfold State.burst
  simp
@[simp] theorem State.burst_scene (s : State) (lanes : List Nat) : (s.burst lanes).scene = s.scene := by
  unfold State.burst
  simp
@[simp] theorem State.burst_banks (s : State) (lanes : List Nat) : (s.burst lanes).banks = s.banks := by
  unfold State.burst
  simp
@[simp] theorem State.burst_care (s : State) (lanes : List Nat) : (s.burst lanes).care = s.care := by
  unfold State.burst
  simp
@[simp] theorem State.burst_pair (s : State) (lanes : List Nat) : (s.burst lanes).pair = s.pair := by
  unfold State.burst
  simp
@[simp] theorem State.burst_clock (s : State) (lanes : List Nat) : (s.burst lanes).clock = s.clock := by
  unfold State.burst
  simp
@[simp] theorem State.burst_media (s : State) (lanes : List Nat) : (s.burst lanes).media = s.media := by
  unfold State.burst
  simp
@[simp] theorem State.burst_memory (s : State) (lanes : List Nat) : (s.burst lanes).memory = s.memory := by
  unfold State.burst
  simp
@[simp] theorem State.burst_net (s : State) (lanes : List Nat) : (s.burst lanes).net = s.net := by
  unfold State.burst
  simp
@[simp] theorem State.burst_regs (s : State) (lanes : List Nat) : (s.burst lanes).regs = s.regs := by
  unfold State.burst
  simp
@[simp] theorem State.burst_link_retry (s : State) (lanes : List Nat) : (s.burst lanes).link.retry = s.link.retry := by
  unfold State.burst
  simp
@[simp] theorem State.burst_link_nextSeq (s : State) (lanes : List Nat) : (s.burst lanes).link.nextSeq = s.link.nextSeq := by
  unfold State.burst
  simp

/-! ### endInterval -/

@[simp] theorem State.endInterval_pending (s : State) : s.endInterval.pending = s.pending := by
  unfold State.endInterval
  simp
@[simp] theorem State.endInterval_now (s : State) : s.endInterval.now = s.now := by
  unfold State.endInterval
  simp
@[simp] theorem State.endInterval_free (s : State) : s.endInterval.free = s.free := by
  unfold State.endInterval
  simp
@[simp] theorem State.endInterval_doms (s : State) : s.endInterval.doms = s.doms := by
  unfold State.endInterval
  simp
@[simp] theorem State.endInterval_pendR (s : State) : s.endInterval.pendR = s.pendR := by
  unfold State.endInterval
  simp
@[simp] theorem State.endInterval_pendD (s : State) : s.endInterval.pendD = s.pendD := by
  unfold State.endInterval
  simp
@[simp] theorem State.endInterval_burnR (s : State) : s.endInterval.burnR = s.burnR := by
  unfold State.endInterval
  simp
@[simp] theorem State.endInterval_burnD (s : State) : s.endInterval.burnD = s.burnD := by
  unfold State.endInterval
  simp
@[simp] theorem State.endInterval_stages (s : State) : s.endInterval.stages = s.stages := by
  unfold State.endInterval
  simp
@[simp] theorem State.endInterval_ctl (s : State) : s.endInterval.ctl = s.ctl := by
  unfold State.endInterval
  simp
@[simp] theorem State.endInterval_power (s : State) : s.endInterval.power = s.power := by
  unfold State.endInterval
  simp
@[simp] theorem State.endInterval_faults (s : State) : s.endInterval.faults = s.faults := by
  unfold State.endInterval
  simp
@[simp] theorem State.endInterval_beacon (s : State) : s.endInterval.beacon = s.beacon := by
  unfold State.endInterval
  simp
@[simp] theorem State.endInterval_nv (s : State) : s.endInterval.nv = s.nv := by
  unfold State.endInterval
  simp
@[simp] theorem State.endInterval_cal (s : State) : s.endInterval.cal = s.cal := by
  unfold State.endInterval
  simp
@[simp] theorem State.endInterval_lift (s : State) : s.endInterval.lift = s.lift := by
  unfold State.endInterval
  simp
@[simp] theorem State.endInterval_scene (s : State) : s.endInterval.scene = s.scene := by
  unfold State.endInterval
  simp
@[simp] theorem State.endInterval_banks (s : State) : s.endInterval.banks = s.banks := by
  unfold State.endInterval
  simp
@[simp] theorem State.endInterval_care (s : State) : s.endInterval.care = s.care := by
  unfold State.endInterval
  simp
@[simp] theorem State.endInterval_pair (s : State) : s.endInterval.pair = s.pair := by
  unfold State.endInterval
  simp
@[simp] theorem State.endInterval_clock (s : State) : s.endInterval.clock = s.clock := by
  unfold State.endInterval
  simp
@[simp] theorem State.endInterval_media (s : State) : s.endInterval.media = s.media := by
  unfold State.endInterval
  simp
@[simp] theorem State.endInterval_memory (s : State) : s.endInterval.memory = s.memory := by
  unfold State.endInterval
  simp
@[simp] theorem State.endInterval_net (s : State) : s.endInterval.net = s.net := by
  unfold State.endInterval
  simp
@[simp] theorem State.endInterval_regs (s : State) : s.endInterval.regs = s.regs := by
  unfold State.endInterval
  simp
@[simp] theorem State.endInterval_link_retry (s : State) : s.endInterval.link.retry = s.link.retry := by
  unfold State.endInterval
  simp
@[simp] theorem State.endInterval_link_nextSeq (s : State) : s.endInterval.link.nextSeq = s.link.nextSeq := by
  unfold State.endInterval
  simp

/-! ### dealOut -/

@[simp] theorem State.dealOut_pending (s : State) (l : List (List Symbol)) : (s.dealOut l).pending = s.pending := by
  unfold State.dealOut
  dsimp only
  split_ifs <;> simp
@[simp] theorem State.dealOut_now (s : State) (l : List (List Symbol)) : (s.dealOut l).now = s.now := by
  unfold State.dealOut
  dsimp only
  split_ifs <;> simp
@[simp] theorem State.dealOut_free (s : State) (l : List (List Symbol)) : (s.dealOut l).free = s.free := by
  unfold State.dealOut
  dsimp only
  split_ifs <;> simp
@[simp] theorem State.dealOut_doms (s : State) (l : List (List Symbol)) : (s.dealOut l).doms = s.doms := by
  unfold State.dealOut
  dsimp only
  split_ifs <;> simp
@[simp] theorem State.dealOut_pendR (s : State) (l : List (List Symbol)) : (s.dealOut l).pendR = s.pendR := by
  unfold State.dealOut
  dsimp only
  split_ifs <;> simp
@[simp] theorem State.dealOut_pendD (s : State) (l : List (List Symbol)) : (s.dealOut l).pendD = s.pendD := by
  unfold State.dealOut
  dsimp only
  split_ifs <;> simp
@[simp] theorem State.dealOut_burnR (s : State) (l : List (List Symbol)) : (s.dealOut l).burnR = s.burnR := by
  unfold State.dealOut
  dsimp only
  split_ifs <;> simp
@[simp] theorem State.dealOut_burnD (s : State) (l : List (List Symbol)) : (s.dealOut l).burnD = s.burnD := by
  unfold State.dealOut
  dsimp only
  split_ifs <;> simp
@[simp] theorem State.dealOut_stages (s : State) (l : List (List Symbol)) : (s.dealOut l).stages = s.stages := by
  unfold State.dealOut
  dsimp only
  split_ifs <;> simp
@[simp] theorem State.dealOut_ctl (s : State) (l : List (List Symbol)) : (s.dealOut l).ctl = s.ctl := by
  unfold State.dealOut
  dsimp only
  split_ifs <;> simp
@[simp] theorem State.dealOut_power (s : State) (l : List (List Symbol)) : (s.dealOut l).power = s.power := by
  unfold State.dealOut
  dsimp only
  split_ifs <;> simp
@[simp] theorem State.dealOut_faults (s : State) (l : List (List Symbol)) : (s.dealOut l).faults = s.faults := by
  unfold State.dealOut
  dsimp only
  split_ifs <;> simp
@[simp] theorem State.dealOut_beacon (s : State) (l : List (List Symbol)) : (s.dealOut l).beacon = s.beacon := by
  unfold State.dealOut
  dsimp only
  split_ifs <;> simp
@[simp] theorem State.dealOut_nv (s : State) (l : List (List Symbol)) : (s.dealOut l).nv = s.nv := by
  unfold State.dealOut
  dsimp only
  split_ifs <;> simp
@[simp] theorem State.dealOut_cal (s : State) (l : List (List Symbol)) : (s.dealOut l).cal = s.cal := by
  unfold State.dealOut
  dsimp only
  split_ifs <;> simp
@[simp] theorem State.dealOut_lift (s : State) (l : List (List Symbol)) : (s.dealOut l).lift = s.lift := by
  unfold State.dealOut
  dsimp only
  split_ifs <;> simp
@[simp] theorem State.dealOut_scene (s : State) (l : List (List Symbol)) : (s.dealOut l).scene = s.scene := by
  unfold State.dealOut
  dsimp only
  split_ifs <;> simp
@[simp] theorem State.dealOut_banks (s : State) (l : List (List Symbol)) : (s.dealOut l).banks = s.banks := by
  unfold State.dealOut
  dsimp only
  split_ifs <;> simp
@[simp] theorem State.dealOut_care (s : State) (l : List (List Symbol)) : (s.dealOut l).care = s.care := by
  unfold State.dealOut
  dsimp only
  split_ifs <;> simp
@[simp] theorem State.dealOut_pair (s : State) (l : List (List Symbol)) : (s.dealOut l).pair = s.pair := by
  unfold State.dealOut
  dsimp only
  split_ifs <;> simp
@[simp] theorem State.dealOut_clock (s : State) (l : List (List Symbol)) : (s.dealOut l).clock = s.clock := by
  unfold State.dealOut
  dsimp only
  split_ifs <;> simp
@[simp] theorem State.dealOut_media (s : State) (l : List (List Symbol)) : (s.dealOut l).media = s.media := by
  unfold State.dealOut
  dsimp only
  split_ifs <;> simp
@[simp] theorem State.dealOut_memory (s : State) (l : List (List Symbol)) : (s.dealOut l).memory = s.memory := by
  unfold State.dealOut
  dsimp only
  split_ifs <;> simp
@[simp] theorem State.dealOut_net (s : State) (l : List (List Symbol)) : (s.dealOut l).net = s.net := by
  unfold State.dealOut
  dsimp only
  split_ifs <;> simp
@[simp] theorem State.dealOut_regs (s : State) (l : List (List Symbol)) : (s.dealOut l).regs = s.regs := by
  unfold State.dealOut
  dsimp only
  split_ifs <;> simp
@[simp] theorem State.dealOut_link_retry (s : State) (l : List (List Symbol)) : (s.dealOut l).link.retry = s.link.retry := by
  unfold State.dealOut
  dsimp only
  split_ifs <;> simp
@[simp] theorem State.dealOut_link_nextSeq (s : State) (l : List (List Symbol)) : (s.dealOut l).link.nextSeq = s.link.nextSeq := by
  unfold State.dealOut
  dsimp only
  split_ifs <;> simp

/-! ### onLink -/

@[simp] theorem State.onLink_pending (s : State) (p : Packet) : (s.onLink p).pending = s.pending := by
  unfold State.onLink
  simp
@[simp] theorem State.onLink_now (s : State) (p : Packet) : (s.onLink p).now = s.now := by
  unfold State.onLink
  simp
@[simp] theorem State.onLink_free (s : State) (p : Packet) : (s.onLink p).free = s.free := by
  unfold State.onLink
  simp
@[simp] theorem State.onLink_doms (s : State) (p : Packet) : (s.onLink p).doms = s.doms := by
  unfold State.onLink
  simp
@[simp] theorem State.onLink_pendR (s : State) (p : Packet) : (s.onLink p).pendR = s.pendR := by
  unfold State.onLink
  simp
@[simp] theorem State.onLink_pendD (s : State) (p : Packet) : (s.onLink p).pendD = s.pendD := by
  unfold State.onLink
  simp
@[simp] theorem State.onLink_burnR (s : State) (p : Packet) : (s.onLink p).burnR = s.burnR := by
  unfold State.onLink
  simp
@[simp] theorem State.onLink_burnD (s : State) (p : Packet) : (s.onLink p).burnD = s.burnD := by
  unfold State.onLink
  simp
@[simp] theorem State.onLink_stages (s : State) (p : Packet) : (s.onLink p).stages = s.stages := by
  unfold State.onLink
  simp
@[simp] theorem State.onLink_ctl (s : State) (p : Packet) : (s.onLink p).ctl = s.ctl := by
  unfold State.onLink
  simp
@[simp] theorem State.onLink_power (s : State) (p : Packet) : (s.onLink p).power = s.power := by
  unfold State.onLink
  simp
@[simp] theorem State.onLink_faults (s : State) (p : Packet) : (s.onLink p).faults = s.faults := by
  unfold State.onLink
  simp
@[simp] theorem State.onLink_beacon (s : State) (p : Packet) : (s.onLink p).beacon = s.beacon := by
  unfold State.onLink
  simp
@[simp] theorem State.onLink_nv (s : State) (p : Packet) : (s.onLink p).nv = s.nv := by
  unfold State.onLink
  simp
@[simp] theorem State.onLink_cal (s : State) (p : Packet) : (s.onLink p).cal = s.cal := by
  unfold State.onLink
  simp
@[simp] theorem State.onLink_lift (s : State) (p : Packet) : (s.onLink p).lift = s.lift := by
  unfold State.onLink
  simp
@[simp] theorem State.onLink_scene (s : State) (p : Packet) : (s.onLink p).scene = s.scene := by
  unfold State.onLink
  simp
@[simp] theorem State.onLink_banks (s : State) (p : Packet) : (s.onLink p).banks = s.banks := by
  unfold State.onLink
  simp
@[simp] theorem State.onLink_care (s : State) (p : Packet) : (s.onLink p).care = s.care := by
  unfold State.onLink
  simp
@[simp] theorem State.onLink_pair (s : State) (p : Packet) : (s.onLink p).pair = s.pair := by
  unfold State.onLink
  simp
@[simp] theorem State.onLink_clock (s : State) (p : Packet) : (s.onLink p).clock = s.clock := by
  unfold State.onLink
  simp
@[simp] theorem State.onLink_media (s : State) (p : Packet) : (s.onLink p).media = s.media := by
  unfold State.onLink
  simp
@[simp] theorem State.onLink_memory (s : State) (p : Packet) : (s.onLink p).memory = s.memory := by
  unfold State.onLink
  simp
@[simp] theorem State.onLink_net (s : State) (p : Packet) : (s.onLink p).net = s.net := by
  unfold State.onLink
  simp

/-! ### linkEmitAs -/

@[simp] theorem State.linkEmitAs_pending (s : State) (epoch : Nat) (p : Packet) : (s.linkEmitAs epoch p).pending = s.pending := by
  unfold State.linkEmitAs
  simp
@[simp] theorem State.linkEmitAs_now (s : State) (epoch : Nat) (p : Packet) : (s.linkEmitAs epoch p).now = s.now := by
  unfold State.linkEmitAs
  simp
@[simp] theorem State.linkEmitAs_free (s : State) (epoch : Nat) (p : Packet) : (s.linkEmitAs epoch p).free = s.free := by
  unfold State.linkEmitAs
  simp
@[simp] theorem State.linkEmitAs_doms (s : State) (epoch : Nat) (p : Packet) : (s.linkEmitAs epoch p).doms = s.doms := by
  unfold State.linkEmitAs
  simp
@[simp] theorem State.linkEmitAs_pendR (s : State) (epoch : Nat) (p : Packet) : (s.linkEmitAs epoch p).pendR = s.pendR := by
  unfold State.linkEmitAs
  simp
@[simp] theorem State.linkEmitAs_pendD (s : State) (epoch : Nat) (p : Packet) : (s.linkEmitAs epoch p).pendD = s.pendD := by
  unfold State.linkEmitAs
  simp
@[simp] theorem State.linkEmitAs_burnR (s : State) (epoch : Nat) (p : Packet) : (s.linkEmitAs epoch p).burnR = s.burnR := by
  unfold State.linkEmitAs
  simp
@[simp] theorem State.linkEmitAs_burnD (s : State) (epoch : Nat) (p : Packet) : (s.linkEmitAs epoch p).burnD = s.burnD := by
  unfold State.linkEmitAs
  simp
@[simp] theorem State.linkEmitAs_stages (s : State) (epoch : Nat) (p : Packet) : (s.linkEmitAs epoch p).stages = s.stages := by
  unfold State.linkEmitAs
  simp
@[simp] theorem State.linkEmitAs_ctl (s : State) (epoch : Nat) (p : Packet) : (s.linkEmitAs epoch p).ctl = s.ctl := by
  unfold State.linkEmitAs
  simp
@[simp] theorem State.linkEmitAs_power (s : State) (epoch : Nat) (p : Packet) : (s.linkEmitAs epoch p).power = s.power := by
  unfold State.linkEmitAs
  simp
@[simp] theorem State.linkEmitAs_faults (s : State) (epoch : Nat) (p : Packet) : (s.linkEmitAs epoch p).faults = s.faults := by
  unfold State.linkEmitAs
  simp
@[simp] theorem State.linkEmitAs_beacon (s : State) (epoch : Nat) (p : Packet) : (s.linkEmitAs epoch p).beacon = s.beacon := by
  unfold State.linkEmitAs
  simp
@[simp] theorem State.linkEmitAs_nv (s : State) (epoch : Nat) (p : Packet) : (s.linkEmitAs epoch p).nv = s.nv := by
  unfold State.linkEmitAs
  simp
@[simp] theorem State.linkEmitAs_cal (s : State) (epoch : Nat) (p : Packet) : (s.linkEmitAs epoch p).cal = s.cal := by
  unfold State.linkEmitAs
  simp
@[simp] theorem State.linkEmitAs_lift (s : State) (epoch : Nat) (p : Packet) : (s.linkEmitAs epoch p).lift = s.lift := by
  unfold State.linkEmitAs
  simp
@[simp] theorem State.linkEmitAs_scene (s : State) (epoch : Nat) (p : Packet) : (s.linkEmitAs epoch p).scene = s.scene := by
  unfold State.linkEmitAs
  simp
@[simp] theorem State.linkEmitAs_banks (s : State) (epoch : Nat) (p : Packet) : (s.linkEmitAs epoch p).banks = s.banks := by
  unfold State.linkEmitAs
  simp
@[simp] theorem State.linkEmitAs_care (s : State) (epoch : Nat) (p : Packet) : (s.linkEmitAs epoch p).care = s.care := by
  unfold State.linkEmitAs
  simp
@[simp] theorem State.linkEmitAs_pair (s : State) (epoch : Nat) (p : Packet) : (s.linkEmitAs epoch p).pair = s.pair := by
  unfold State.linkEmitAs
  simp
@[simp] theorem State.linkEmitAs_clock (s : State) (epoch : Nat) (p : Packet) : (s.linkEmitAs epoch p).clock = s.clock := by
  unfold State.linkEmitAs
  simp
@[simp] theorem State.linkEmitAs_media (s : State) (epoch : Nat) (p : Packet) : (s.linkEmitAs epoch p).media = s.media := by
  unfold State.linkEmitAs
  simp
@[simp] theorem State.linkEmitAs_memory (s : State) (epoch : Nat) (p : Packet) : (s.linkEmitAs epoch p).memory = s.memory := by
  unfold State.linkEmitAs
  simp
@[simp] theorem State.linkEmitAs_net (s : State) (epoch : Nat) (p : Packet) : (s.linkEmitAs epoch p).net = s.net := by
  unfold State.linkEmitAs
  simp

/-! ### linkEmit -/

@[simp] theorem State.linkEmit_pending (s : State) (p : Packet) : (s.linkEmit p).pending = s.pending := by
  unfold State.linkEmit
  simp
@[simp] theorem State.linkEmit_now (s : State) (p : Packet) : (s.linkEmit p).now = s.now := by
  unfold State.linkEmit
  simp
@[simp] theorem State.linkEmit_free (s : State) (p : Packet) : (s.linkEmit p).free = s.free := by
  unfold State.linkEmit
  simp
@[simp] theorem State.linkEmit_doms (s : State) (p : Packet) : (s.linkEmit p).doms = s.doms := by
  unfold State.linkEmit
  simp
@[simp] theorem State.linkEmit_pendR (s : State) (p : Packet) : (s.linkEmit p).pendR = s.pendR := by
  unfold State.linkEmit
  simp
@[simp] theorem State.linkEmit_pendD (s : State) (p : Packet) : (s.linkEmit p).pendD = s.pendD := by
  unfold State.linkEmit
  simp
@[simp] theorem State.linkEmit_burnR (s : State) (p : Packet) : (s.linkEmit p).burnR = s.burnR := by
  unfold State.linkEmit
  simp
@[simp] theorem State.linkEmit_burnD (s : State) (p : Packet) : (s.linkEmit p).burnD = s.burnD := by
  unfold State.linkEmit
  simp
@[simp] theorem State.linkEmit_stages (s : State) (p : Packet) : (s.linkEmit p).stages = s.stages := by
  unfold State.linkEmit
  simp
@[simp] theorem State.linkEmit_ctl (s : State) (p : Packet) : (s.linkEmit p).ctl = s.ctl := by
  unfold State.linkEmit
  simp
@[simp] theorem State.linkEmit_power (s : State) (p : Packet) : (s.linkEmit p).power = s.power := by
  unfold State.linkEmit
  simp
@[simp] theorem State.linkEmit_faults (s : State) (p : Packet) : (s.linkEmit p).faults = s.faults := by
  unfold State.linkEmit
  simp
@[simp] theorem State.linkEmit_beacon (s : State) (p : Packet) : (s.linkEmit p).beacon = s.beacon := by
  unfold State.linkEmit
  simp
@[simp] theorem State.linkEmit_nv (s : State) (p : Packet) : (s.linkEmit p).nv = s.nv := by
  unfold State.linkEmit
  simp
@[simp] theorem State.linkEmit_cal (s : State) (p : Packet) : (s.linkEmit p).cal = s.cal := by
  unfold State.linkEmit
  simp
@[simp] theorem State.linkEmit_lift (s : State) (p : Packet) : (s.linkEmit p).lift = s.lift := by
  unfold State.linkEmit
  simp
@[simp] theorem State.linkEmit_scene (s : State) (p : Packet) : (s.linkEmit p).scene = s.scene := by
  unfold State.linkEmit
  simp
@[simp] theorem State.linkEmit_banks (s : State) (p : Packet) : (s.linkEmit p).banks = s.banks := by
  unfold State.linkEmit
  simp
@[simp] theorem State.linkEmit_care (s : State) (p : Packet) : (s.linkEmit p).care = s.care := by
  unfold State.linkEmit
  simp
@[simp] theorem State.linkEmit_pair (s : State) (p : Packet) : (s.linkEmit p).pair = s.pair := by
  unfold State.linkEmit
  simp
@[simp] theorem State.linkEmit_clock (s : State) (p : Packet) : (s.linkEmit p).clock = s.clock := by
  unfold State.linkEmit
  simp
@[simp] theorem State.linkEmit_media (s : State) (p : Packet) : (s.linkEmit p).media = s.media := by
  unfold State.linkEmit
  simp
@[simp] theorem State.linkEmit_memory (s : State) (p : Packet) : (s.linkEmit p).memory = s.memory := by
  unfold State.linkEmit
  simp
@[simp] theorem State.linkEmit_net (s : State) (p : Packet) : (s.linkEmit p).net = s.net := by
  unfold State.linkEmit
  simp

/-! ### linkSend -/

@[simp] theorem State.linkSend_pending (s : State) (p : Packet) : (s.linkSend p).pending = s.pending := by
  unfold State.linkSend
  split_ifs <;> simp
@[simp] theorem State.linkSend_now (s : State) (p : Packet) : (s.linkSend p).now = s.now := by
  unfold State.linkSend
  split_ifs <;> simp
@[simp] theorem State.linkSend_free (s : State) (p : Packet) : (s.linkSend p).free = s.free := by
  unfold State.linkSend
  split_ifs <;> simp
@[simp] theorem State.linkSend_doms (s : State) (p : Packet) : (s.linkSend p).doms = s.doms := by
  unfold State.linkSend
  split_ifs <;> simp
@[simp] theorem State.linkSend_pendR (s : State) (p : Packet) : (s.linkSend p).pendR = s.pendR := by
  unfold State.linkSend
  split_ifs <;> simp
@[simp] theorem State.linkSend_pendD (s : State) (p : Packet) : (s.linkSend p).pendD = s.pendD := by
  unfold State.linkSend
  split_ifs <;> simp
@[simp] theorem State.linkSend_burnR (s : State) (p : Packet) : (s.linkSend p).burnR = s.burnR := by
  unfold State.linkSend
  split_ifs <;> simp
@[simp] theorem State.linkSend_burnD (s : State) (p : Packet) : (s.linkSend p).burnD = s.burnD := by
  unfold State.linkSend
  split_ifs <;> simp
@[simp] theorem State.linkSend_stages (s : State) (p : Packet) : (s.linkSend p).stages = s.stages := by
  unfold State.linkSend
  split_ifs <;> simp
@[simp] theorem State.linkSend_ctl (s : State) (p : Packet) : (s.linkSend p).ctl = s.ctl := by
  unfold State.linkSend
  split_ifs <;> simp
@[simp] theorem State.linkSend_power (s : State) (p : Packet) : (s.linkSend p).power = s.power := by
  unfold State.linkSend
  split_ifs <;> simp
@[simp] theorem State.linkSend_faults (s : State) (p : Packet) : (s.linkSend p).faults = s.faults := by
  unfold State.linkSend
  split_ifs <;> simp
@[simp] theorem State.linkSend_beacon (s : State) (p : Packet) : (s.linkSend p).beacon = s.beacon := by
  unfold State.linkSend
  split_ifs <;> simp
@[simp] theorem State.linkSend_nv (s : State) (p : Packet) : (s.linkSend p).nv = s.nv := by
  unfold State.linkSend
  split_ifs <;> simp
@[simp] theorem State.linkSend_cal (s : State) (p : Packet) : (s.linkSend p).cal = s.cal := by
  unfold State.linkSend
  split_ifs <;> simp
@[simp] theorem State.linkSend_lift (s : State) (p : Packet) : (s.linkSend p).lift = s.lift := by
  unfold State.linkSend
  split_ifs <;> simp
@[simp] theorem State.linkSend_scene (s : State) (p : Packet) : (s.linkSend p).scene = s.scene := by
  unfold State.linkSend
  split_ifs <;> simp
@[simp] theorem State.linkSend_banks (s : State) (p : Packet) : (s.linkSend p).banks = s.banks := by
  unfold State.linkSend
  split_ifs <;> simp
@[simp] theorem State.linkSend_care (s : State) (p : Packet) : (s.linkSend p).care = s.care := by
  unfold State.linkSend
  split_ifs <;> simp
@[simp] theorem State.linkSend_pair (s : State) (p : Packet) : (s.linkSend p).pair = s.pair := by
  unfold State.linkSend
  split_ifs <;> simp
@[simp] theorem State.linkSend_clock (s : State) (p : Packet) : (s.linkSend p).clock = s.clock := by
  unfold State.linkSend
  split_ifs <;> simp
@[simp] theorem State.linkSend_media (s : State) (p : Packet) : (s.linkSend p).media = s.media := by
  unfold State.linkSend
  split_ifs <;> simp
@[simp] theorem State.linkSend_memory (s : State) (p : Packet) : (s.linkSend p).memory = s.memory := by
  unfold State.linkSend
  split_ifs <;> simp
@[simp] theorem State.linkSend_net (s : State) (p : Packet) : (s.linkSend p).net = s.net := by
  unfold State.linkSend
  split_ifs <;> simp

/-! ### openRead -/

@[simp] theorem State.openRead_pending (s : State) (code module argument expected : Nat) (known : Bool) (frame : Option Nat) : (s.openRead code module argument expected known frame).pending = s.pending := rfl
@[simp] theorem State.openRead_now (s : State) (code module argument expected : Nat) (known : Bool) (frame : Option Nat) : (s.openRead code module argument expected known frame).now = s.now := rfl
@[simp] theorem State.openRead_free (s : State) (code module argument expected : Nat) (known : Bool) (frame : Option Nat) : (s.openRead code module argument expected known frame).free = s.free := rfl
@[simp] theorem State.openRead_out (s : State) (code module argument expected : Nat) (known : Bool) (frame : Option Nat) : (s.openRead code module argument expected known frame).out = s.out := rfl
@[simp] theorem State.openRead_doms (s : State) (code module argument expected : Nat) (known : Bool) (frame : Option Nat) : (s.openRead code module argument expected known frame).doms = s.doms := rfl
@[simp] theorem State.openRead_pendR (s : State) (code module argument expected : Nat) (known : Bool) (frame : Option Nat) : (s.openRead code module argument expected known frame).pendR = s.pendR := rfl
@[simp] theorem State.openRead_pendD (s : State) (code module argument expected : Nat) (known : Bool) (frame : Option Nat) : (s.openRead code module argument expected known frame).pendD = s.pendD := rfl
@[simp] theorem State.openRead_burnR (s : State) (code module argument expected : Nat) (known : Bool) (frame : Option Nat) : (s.openRead code module argument expected known frame).burnR = s.burnR := rfl
@[simp] theorem State.openRead_burnD (s : State) (code module argument expected : Nat) (known : Bool) (frame : Option Nat) : (s.openRead code module argument expected known frame).burnD = s.burnD := rfl
@[simp] theorem State.openRead_stages (s : State) (code module argument expected : Nat) (known : Bool) (frame : Option Nat) : (s.openRead code module argument expected known frame).stages = s.stages := rfl
@[simp] theorem State.openRead_ctl (s : State) (code module argument expected : Nat) (known : Bool) (frame : Option Nat) : (s.openRead code module argument expected known frame).ctl = s.ctl := rfl
@[simp] theorem State.openRead_power (s : State) (code module argument expected : Nat) (known : Bool) (frame : Option Nat) : (s.openRead code module argument expected known frame).power = s.power := rfl
@[simp] theorem State.openRead_faults (s : State) (code module argument expected : Nat) (known : Bool) (frame : Option Nat) : (s.openRead code module argument expected known frame).faults = s.faults := rfl
@[simp] theorem State.openRead_beacon (s : State) (code module argument expected : Nat) (known : Bool) (frame : Option Nat) : (s.openRead code module argument expected known frame).beacon = s.beacon := rfl
@[simp] theorem State.openRead_nv (s : State) (code module argument expected : Nat) (known : Bool) (frame : Option Nat) : (s.openRead code module argument expected known frame).nv = s.nv := rfl
@[simp] theorem State.openRead_cal (s : State) (code module argument expected : Nat) (known : Bool) (frame : Option Nat) : (s.openRead code module argument expected known frame).cal = s.cal := rfl
@[simp] theorem State.openRead_lift (s : State) (code module argument expected : Nat) (known : Bool) (frame : Option Nat) : (s.openRead code module argument expected known frame).lift = s.lift := rfl
@[simp] theorem State.openRead_scene (s : State) (code module argument expected : Nat) (known : Bool) (frame : Option Nat) : (s.openRead code module argument expected known frame).scene = s.scene := rfl
@[simp] theorem State.openRead_banks (s : State) (code module argument expected : Nat) (known : Bool) (frame : Option Nat) : (s.openRead code module argument expected known frame).banks = s.banks := rfl
@[simp] theorem State.openRead_pair (s : State) (code module argument expected : Nat) (known : Bool) (frame : Option Nat) : (s.openRead code module argument expected known frame).pair = s.pair := rfl
@[simp] theorem State.openRead_clock (s : State) (code module argument expected : Nat) (known : Bool) (frame : Option Nat) : (s.openRead code module argument expected known frame).clock = s.clock := rfl
@[simp] theorem State.openRead_media (s : State) (code module argument expected : Nat) (known : Bool) (frame : Option Nat) : (s.openRead code module argument expected known frame).media = s.media := rfl
@[simp] theorem State.openRead_memory (s : State) (code module argument expected : Nat) (known : Bool) (frame : Option Nat) : (s.openRead code module argument expected known frame).memory = s.memory := rfl
@[simp] theorem State.openRead_net (s : State) (code module argument expected : Nat) (known : Bool) (frame : Option Nat) : (s.openRead code module argument expected known frame).net = s.net := rfl

/-! ### linkRead -/

@[simp] theorem State.linkRead_pending (s : State) (code module argument expected : Nat) (known : Bool) (frame : Option Nat) : (s.linkRead code module argument expected known frame).pending = s.pending := by
  unfold State.linkRead
  simp
@[simp] theorem State.linkRead_now (s : State) (code module argument expected : Nat) (known : Bool) (frame : Option Nat) : (s.linkRead code module argument expected known frame).now = s.now := by
  unfold State.linkRead
  simp
@[simp] theorem State.linkRead_free (s : State) (code module argument expected : Nat) (known : Bool) (frame : Option Nat) : (s.linkRead code module argument expected known frame).free = s.free := by
  unfold State.linkRead
  simp
@[simp] theorem State.linkRead_doms (s : State) (code module argument expected : Nat) (known : Bool) (frame : Option Nat) : (s.linkRead code module argument expected known frame).doms = s.doms := by
  unfold State.linkRead
  simp
@[simp] theorem State.linkRead_pendR (s : State) (code module argument expected : Nat) (known : Bool) (frame : Option Nat) : (s.linkRead code module argument expected known frame).pendR = s.pendR := by
  unfold State.linkRead
  simp
@[simp] theorem State.linkRead_pendD (s : State) (code module argument expected : Nat) (known : Bool) (frame : Option Nat) : (s.linkRead code module argument expected known frame).pendD = s.pendD := by
  unfold State.linkRead
  simp
@[simp] theorem State.linkRead_burnR (s : State) (code module argument expected : Nat) (known : Bool) (frame : Option Nat) : (s.linkRead code module argument expected known frame).burnR = s.burnR := by
  unfold State.linkRead
  simp
@[simp] theorem State.linkRead_burnD (s : State) (code module argument expected : Nat) (known : Bool) (frame : Option Nat) : (s.linkRead code module argument expected known frame).burnD = s.burnD := by
  unfold State.linkRead
  simp
@[simp] theorem State.linkRead_stages (s : State) (code module argument expected : Nat) (known : Bool) (frame : Option Nat) : (s.linkRead code module argument expected known frame).stages = s.stages := by
  unfold State.linkRead
  simp
@[simp] theorem State.linkRead_ctl (s : State) (code module argument expected : Nat) (known : Bool) (frame : Option Nat) : (s.linkRead code module argument expected known frame).ctl = s.ctl := by
  unfold State.linkRead
  simp
@[simp] theorem State.linkRead_power (s : State) (code module argument expected : Nat) (known : Bool) (frame : Option Nat) : (s.linkRead code module argument expected known frame).power = s.power := by
  unfold State.linkRead
  simp
@[simp] theorem State.linkRead_faults (s : State) (code module argument expected : Nat) (known : Bool) (frame : Option Nat) : (s.linkRead code module argument expected known frame).faults = s.faults := by
  unfold State.linkRead
  simp
@[simp] theorem State.linkRead_beacon (s : State) (code module argument expected : Nat) (known : Bool) (frame : Option Nat) : (s.linkRead code module argument expected known frame).beacon = s.beacon := by
  unfold State.linkRead
  simp
@[simp] theorem State.linkRead_nv (s : State) (code module argument expected : Nat) (known : Bool) (frame : Option Nat) : (s.linkRead code module argument expected known frame).nv = s.nv := by
  unfold State.linkRead
  simp
@[simp] theorem State.linkRead_cal (s : State) (code module argument expected : Nat) (known : Bool) (frame : Option Nat) : (s.linkRead code module argument expected known frame).cal = s.cal := by
  unfold State.linkRead
  simp
@[simp] theorem State.linkRead_lift (s : State) (code module argument expected : Nat) (known : Bool) (frame : Option Nat) : (s.linkRead code module argument expected known frame).lift = s.lift := by
  unfold State.linkRead
  simp
@[simp] theorem State.linkRead_scene (s : State) (code module argument expected : Nat) (known : Bool) (frame : Option Nat) : (s.linkRead code module argument expected known frame).scene = s.scene := by
  unfold State.linkRead
  simp
@[simp] theorem State.linkRead_banks (s : State) (code module argument expected : Nat) (known : Bool) (frame : Option Nat) : (s.linkRead code module argument expected known frame).banks = s.banks := by
  unfold State.linkRead
  simp
@[simp] theorem State.linkRead_pair (s : State) (code module argument expected : Nat) (known : Bool) (frame : Option Nat) : (s.linkRead code module argument expected known frame).pair = s.pair := by
  unfold State.linkRead
  simp
@[simp] theorem State.linkRead_clock (s : State) (code module argument expected : Nat) (known : Bool) (frame : Option Nat) : (s.linkRead code module argument expected known frame).clock = s.clock := by
  unfold State.linkRead
  simp
@[simp] theorem State.linkRead_media (s : State) (code module argument expected : Nat) (known : Bool) (frame : Option Nat) : (s.linkRead code module argument expected known frame).media = s.media := by
  unfold State.linkRead
  simp
@[simp] theorem State.linkRead_memory (s : State) (code module argument expected : Nat) (known : Bool) (frame : Option Nat) : (s.linkRead code module argument expected known frame).memory = s.memory := by
  unfold State.linkRead
  simp
@[simp] theorem State.linkRead_net (s : State) (code module argument expected : Nat) (known : Bool) (frame : Option Nat) : (s.linkRead code module argument expected known frame).net = s.net := by
  unfold State.linkRead
  simp

/-! ### linkControl -/

@[simp] theorem State.linkControl_pending (s : State) (command module argument : Nat) (payload : Bytes) : (s.linkControl command module argument payload).pending = s.pending := by
  unfold State.linkControl
  simp
@[simp] theorem State.linkControl_now (s : State) (command module argument : Nat) (payload : Bytes) : (s.linkControl command module argument payload).now = s.now := by
  unfold State.linkControl
  simp
@[simp] theorem State.linkControl_free (s : State) (command module argument : Nat) (payload : Bytes) : (s.linkControl command module argument payload).free = s.free := by
  unfold State.linkControl
  simp
@[simp] theorem State.linkControl_doms (s : State) (command module argument : Nat) (payload : Bytes) : (s.linkControl command module argument payload).doms = s.doms := by
  unfold State.linkControl
  simp
@[simp] theorem State.linkControl_pendR (s : State) (command module argument : Nat) (payload : Bytes) : (s.linkControl command module argument payload).pendR = s.pendR := by
  unfold State.linkControl
  simp
@[simp] theorem State.linkControl_pendD (s : State) (command module argument : Nat) (payload : Bytes) : (s.linkControl command module argument payload).pendD = s.pendD := by
  unfold State.linkControl
  simp
@[simp] theorem State.linkControl_burnR (s : State) (command module argument : Nat) (payload : Bytes) : (s.linkControl command module argument payload).burnR = s.burnR := by
  unfold State.linkControl
  simp
@[simp] theorem State.linkControl_burnD (s : State) (command module argument : Nat) (payload : Bytes) : (s.linkControl command module argument payload).burnD = s.burnD := by
  unfold State.linkControl
  simp
@[simp] theorem State.linkControl_stages (s : State) (command module argument : Nat) (payload : Bytes) : (s.linkControl command module argument payload).stages = s.stages := by
  unfold State.linkControl
  simp
@[simp] theorem State.linkControl_ctl (s : State) (command module argument : Nat) (payload : Bytes) : (s.linkControl command module argument payload).ctl = s.ctl := by
  unfold State.linkControl
  simp
@[simp] theorem State.linkControl_power (s : State) (command module argument : Nat) (payload : Bytes) : (s.linkControl command module argument payload).power = s.power := by
  unfold State.linkControl
  simp
@[simp] theorem State.linkControl_faults (s : State) (command module argument : Nat) (payload : Bytes) : (s.linkControl command module argument payload).faults = s.faults := by
  unfold State.linkControl
  simp
@[simp] theorem State.linkControl_beacon (s : State) (command module argument : Nat) (payload : Bytes) : (s.linkControl command module argument payload).beacon = s.beacon := by
  unfold State.linkControl
  simp
@[simp] theorem State.linkControl_nv (s : State) (command module argument : Nat) (payload : Bytes) : (s.linkControl command module argument payload).nv = s.nv := by
  unfold State.linkControl
  simp
@[simp] theorem State.linkControl_cal (s : State) (command module argument : Nat) (payload : Bytes) : (s.linkControl command module argument payload).cal = s.cal := by
  unfold State.linkControl
  simp
@[simp] theorem State.linkControl_lift (s : State) (command module argument : Nat) (payload : Bytes) : (s.linkControl command module argument payload).lift = s.lift := by
  unfold State.linkControl
  simp
@[simp] theorem State.linkControl_scene (s : State) (command module argument : Nat) (payload : Bytes) : (s.linkControl command module argument payload).scene = s.scene := by
  unfold State.linkControl
  simp
@[simp] theorem State.linkControl_banks (s : State) (command module argument : Nat) (payload : Bytes) : (s.linkControl command module argument payload).banks = s.banks := by
  unfold State.linkControl
  simp
@[simp] theorem State.linkControl_care (s : State) (command module argument : Nat) (payload : Bytes) : (s.linkControl command module argument payload).care = s.care := by
  unfold State.linkControl
  simp
@[simp] theorem State.linkControl_pair (s : State) (command module argument : Nat) (payload : Bytes) : (s.linkControl command module argument payload).pair = s.pair := by
  unfold State.linkControl
  simp
@[simp] theorem State.linkControl_clock (s : State) (command module argument : Nat) (payload : Bytes) : (s.linkControl command module argument payload).clock = s.clock := by
  unfold State.linkControl
  simp
@[simp] theorem State.linkControl_media (s : State) (command module argument : Nat) (payload : Bytes) : (s.linkControl command module argument payload).media = s.media := by
  unfold State.linkControl
  simp
@[simp] theorem State.linkControl_memory (s : State) (command module argument : Nat) (payload : Bytes) : (s.linkControl command module argument payload).memory = s.memory := by
  unfold State.linkControl
  simp
@[simp] theorem State.linkControl_net (s : State) (command module argument : Nat) (payload : Bytes) : (s.linkControl command module argument payload).net = s.net := by
  unfold State.linkControl
  simp

/-! ### twinEmit -/

@[simp] theorem State.twinEmit_pending (s : State) (p : Packet) : (s.twinEmit p).pending = s.pending := by
  unfold State.twinEmit
  rfl
@[simp] theorem State.twinEmit_now (s : State) (p : Packet) : (s.twinEmit p).now = s.now := by
  unfold State.twinEmit
  rfl
@[simp] theorem State.twinEmit_free (s : State) (p : Packet) : (s.twinEmit p).free = s.free := by
  unfold State.twinEmit
  rfl
@[simp] theorem State.twinEmit_doms (s : State) (p : Packet) : (s.twinEmit p).doms = s.doms := by
  unfold State.twinEmit
  rfl
@[simp] theorem State.twinEmit_pendR (s : State) (p : Packet) : (s.twinEmit p).pendR = s.pendR := by
  unfold State.twinEmit
  rfl
@[simp] theorem State.twinEmit_pendD (s : State) (p : Packet) : (s.twinEmit p).pendD = s.pendD := by
  unfold State.twinEmit
  rfl
@[simp] theorem State.twinEmit_burnR (s : State) (p : Packet) : (s.twinEmit p).burnR = s.burnR := by
  unfold State.twinEmit
  rfl
@[simp] theorem State.twinEmit_burnD (s : State) (p : Packet) : (s.twinEmit p).burnD = s.burnD := by
  unfold State.twinEmit
  rfl
@[simp] theorem State.twinEmit_stages (s : State) (p : Packet) : (s.twinEmit p).stages = s.stages := by
  unfold State.twinEmit
  rfl
@[simp] theorem State.twinEmit_ctl (s : State) (p : Packet) : (s.twinEmit p).ctl = s.ctl := by
  unfold State.twinEmit
  rfl
@[simp] theorem State.twinEmit_power (s : State) (p : Packet) : (s.twinEmit p).power = s.power := by
  unfold State.twinEmit
  rfl
@[simp] theorem State.twinEmit_faults (s : State) (p : Packet) : (s.twinEmit p).faults = s.faults := by
  unfold State.twinEmit
  rfl
@[simp] theorem State.twinEmit_beacon (s : State) (p : Packet) : (s.twinEmit p).beacon = s.beacon := by
  unfold State.twinEmit
  rfl
@[simp] theorem State.twinEmit_nv (s : State) (p : Packet) : (s.twinEmit p).nv = s.nv := by
  unfold State.twinEmit
  rfl
@[simp] theorem State.twinEmit_cal (s : State) (p : Packet) : (s.twinEmit p).cal = s.cal := by
  unfold State.twinEmit
  rfl
@[simp] theorem State.twinEmit_lift (s : State) (p : Packet) : (s.twinEmit p).lift = s.lift := by
  unfold State.twinEmit
  rfl
@[simp] theorem State.twinEmit_scene (s : State) (p : Packet) : (s.twinEmit p).scene = s.scene := by
  unfold State.twinEmit
  rfl
@[simp] theorem State.twinEmit_banks (s : State) (p : Packet) : (s.twinEmit p).banks = s.banks := by
  unfold State.twinEmit
  rfl
@[simp] theorem State.twinEmit_link (s : State) (p : Packet) : (s.twinEmit p).link = s.link := by
  unfold State.twinEmit
  rfl
@[simp] theorem State.twinEmit_care (s : State) (p : Packet) : (s.twinEmit p).care = s.care := by
  unfold State.twinEmit
  rfl
@[simp] theorem State.twinEmit_clock (s : State) (p : Packet) : (s.twinEmit p).clock = s.clock := by
  unfold State.twinEmit
  rfl
@[simp] theorem State.twinEmit_media (s : State) (p : Packet) : (s.twinEmit p).media = s.media := by
  unfold State.twinEmit
  rfl
@[simp] theorem State.twinEmit_memory (s : State) (p : Packet) : (s.twinEmit p).memory = s.memory := by
  unfold State.twinEmit
  rfl
@[simp] theorem State.twinEmit_net (s : State) (p : Packet) : (s.twinEmit p).net = s.net := by
  unfold State.twinEmit
  rfl

/-! ### twinSend -/

@[simp] theorem State.twinSend_pending (s : State) (kind tail : Nat) (payload : Bytes) : (s.twinSend kind tail payload).pending = s.pending := by
  unfold State.twinSend
  dsimp only
  split_ifs <;> simp
@[simp] theorem State.twinSend_now (s : State) (kind tail : Nat) (payload : Bytes) : (s.twinSend kind tail payload).now = s.now := by
  unfold State.twinSend
  dsimp only
  split_ifs <;> simp
@[simp] theorem State.twinSend_free (s : State) (kind tail : Nat) (payload : Bytes) : (s.twinSend kind tail payload).free = s.free := by
  unfold State.twinSend
  dsimp only
  split_ifs <;> simp
@[simp] theorem State.twinSend_doms (s : State) (kind tail : Nat) (payload : Bytes) : (s.twinSend kind tail payload).doms = s.doms := by
  unfold State.twinSend
  dsimp only
  split_ifs <;> simp
@[simp] theorem State.twinSend_pendR (s : State) (kind tail : Nat) (payload : Bytes) : (s.twinSend kind tail payload).pendR = s.pendR := by
  unfold State.twinSend
  dsimp only
  split_ifs <;> simp
@[simp] theorem State.twinSend_pendD (s : State) (kind tail : Nat) (payload : Bytes) : (s.twinSend kind tail payload).pendD = s.pendD := by
  unfold State.twinSend
  dsimp only
  split_ifs <;> simp
@[simp] theorem State.twinSend_burnR (s : State) (kind tail : Nat) (payload : Bytes) : (s.twinSend kind tail payload).burnR = s.burnR := by
  unfold State.twinSend
  dsimp only
  split_ifs <;> simp
@[simp] theorem State.twinSend_burnD (s : State) (kind tail : Nat) (payload : Bytes) : (s.twinSend kind tail payload).burnD = s.burnD := by
  unfold State.twinSend
  dsimp only
  split_ifs <;> simp
@[simp] theorem State.twinSend_stages (s : State) (kind tail : Nat) (payload : Bytes) : (s.twinSend kind tail payload).stages = s.stages := by
  unfold State.twinSend
  dsimp only
  split_ifs <;> simp
@[simp] theorem State.twinSend_ctl (s : State) (kind tail : Nat) (payload : Bytes) : (s.twinSend kind tail payload).ctl = s.ctl := by
  unfold State.twinSend
  dsimp only
  split_ifs <;> simp
@[simp] theorem State.twinSend_power (s : State) (kind tail : Nat) (payload : Bytes) : (s.twinSend kind tail payload).power = s.power := by
  unfold State.twinSend
  dsimp only
  split_ifs <;> simp
@[simp] theorem State.twinSend_faults (s : State) (kind tail : Nat) (payload : Bytes) : (s.twinSend kind tail payload).faults = s.faults := by
  unfold State.twinSend
  dsimp only
  split_ifs <;> simp
@[simp] theorem State.twinSend_beacon (s : State) (kind tail : Nat) (payload : Bytes) : (s.twinSend kind tail payload).beacon = s.beacon := by
  unfold State.twinSend
  dsimp only
  split_ifs <;> simp
@[simp] theorem State.twinSend_nv (s : State) (kind tail : Nat) (payload : Bytes) : (s.twinSend kind tail payload).nv = s.nv := by
  unfold State.twinSend
  dsimp only
  split_ifs <;> simp
@[simp] theorem State.twinSend_cal (s : State) (kind tail : Nat) (payload : Bytes) : (s.twinSend kind tail payload).cal = s.cal := by
  unfold State.twinSend
  dsimp only
  split_ifs <;> simp
@[simp] theorem State.twinSend_lift (s : State) (kind tail : Nat) (payload : Bytes) : (s.twinSend kind tail payload).lift = s.lift := by
  unfold State.twinSend
  dsimp only
  split_ifs <;> simp
@[simp] theorem State.twinSend_scene (s : State) (kind tail : Nat) (payload : Bytes) : (s.twinSend kind tail payload).scene = s.scene := by
  unfold State.twinSend
  dsimp only
  split_ifs <;> simp
@[simp] theorem State.twinSend_banks (s : State) (kind tail : Nat) (payload : Bytes) : (s.twinSend kind tail payload).banks = s.banks := by
  unfold State.twinSend
  dsimp only
  split_ifs <;> simp
@[simp] theorem State.twinSend_link (s : State) (kind tail : Nat) (payload : Bytes) : (s.twinSend kind tail payload).link = s.link := by
  unfold State.twinSend
  dsimp only
  split_ifs <;> simp
@[simp] theorem State.twinSend_care (s : State) (kind tail : Nat) (payload : Bytes) : (s.twinSend kind tail payload).care = s.care := by
  unfold State.twinSend
  dsimp only
  split_ifs <;> simp
@[simp] theorem State.twinSend_clock (s : State) (kind tail : Nat) (payload : Bytes) : (s.twinSend kind tail payload).clock = s.clock := by
  unfold State.twinSend
  dsimp only
  split_ifs <;> simp
@[simp] theorem State.twinSend_media (s : State) (kind tail : Nat) (payload : Bytes) : (s.twinSend kind tail payload).media = s.media := by
  unfold State.twinSend
  dsimp only
  split_ifs <;> simp
@[simp] theorem State.twinSend_memory (s : State) (kind tail : Nat) (payload : Bytes) : (s.twinSend kind tail payload).memory = s.memory := by
  unfold State.twinSend
  dsimp only
  split_ifs <;> simp
@[simp] theorem State.twinSend_net (s : State) (kind tail : Nat) (payload : Bytes) : (s.twinSend kind tail payload).net = s.net := by
  unfold State.twinSend
  dsimp only
  split_ifs <;> simp

/-! ### sendReadiness -/

@[simp] theorem State.sendReadiness_pending (s : State) (ready : Bool) : (s.sendReadiness ready).pending = s.pending := by
  unfold State.sendReadiness
  split <;> rfl
@[simp] theorem State.sendReadiness_now (s : State) (ready : Bool) : (s.sendReadiness ready).now = s.now := by
  unfold State.sendReadiness
  split <;> rfl
@[simp] theorem State.sendReadiness_free (s : State) (ready : Bool) : (s.sendReadiness ready).free = s.free := by
  unfold State.sendReadiness
  split <;> rfl
@[simp] theorem State.sendReadiness_doms (s : State) (ready : Bool) : (s.sendReadiness ready).doms = s.doms := by
  unfold State.sendReadiness
  split <;> rfl
@[simp] theorem State.sendReadiness_pendR (s : State) (ready : Bool) : (s.sendReadiness ready).pendR = s.pendR := by
  unfold State.sendReadiness
  split <;> rfl
@[simp] theorem State.sendReadiness_pendD (s : State) (ready : Bool) : (s.sendReadiness ready).pendD = s.pendD := by
  unfold State.sendReadiness
  split <;> rfl
@[simp] theorem State.sendReadiness_burnR (s : State) (ready : Bool) : (s.sendReadiness ready).burnR = s.burnR := by
  unfold State.sendReadiness
  split <;> rfl
@[simp] theorem State.sendReadiness_burnD (s : State) (ready : Bool) : (s.sendReadiness ready).burnD = s.burnD := by
  unfold State.sendReadiness
  split <;> rfl
@[simp] theorem State.sendReadiness_stages (s : State) (ready : Bool) : (s.sendReadiness ready).stages = s.stages := by
  unfold State.sendReadiness
  split <;> rfl
@[simp] theorem State.sendReadiness_ctl (s : State) (ready : Bool) : (s.sendReadiness ready).ctl = s.ctl := by
  unfold State.sendReadiness
  split <;> rfl
@[simp] theorem State.sendReadiness_power (s : State) (ready : Bool) : (s.sendReadiness ready).power = s.power := by
  unfold State.sendReadiness
  split <;> rfl
@[simp] theorem State.sendReadiness_faults (s : State) (ready : Bool) : (s.sendReadiness ready).faults = s.faults := by
  unfold State.sendReadiness
  split <;> rfl
@[simp] theorem State.sendReadiness_beacon (s : State) (ready : Bool) : (s.sendReadiness ready).beacon = s.beacon := by
  unfold State.sendReadiness
  split <;> rfl
@[simp] theorem State.sendReadiness_nv (s : State) (ready : Bool) : (s.sendReadiness ready).nv = s.nv := by
  unfold State.sendReadiness
  split <;> rfl
@[simp] theorem State.sendReadiness_cal (s : State) (ready : Bool) : (s.sendReadiness ready).cal = s.cal := by
  unfold State.sendReadiness
  split <;> rfl
@[simp] theorem State.sendReadiness_lift (s : State) (ready : Bool) : (s.sendReadiness ready).lift = s.lift := by
  unfold State.sendReadiness
  split <;> rfl
@[simp] theorem State.sendReadiness_scene (s : State) (ready : Bool) : (s.sendReadiness ready).scene = s.scene := by
  unfold State.sendReadiness
  split <;> rfl
@[simp] theorem State.sendReadiness_banks (s : State) (ready : Bool) : (s.sendReadiness ready).banks = s.banks := by
  unfold State.sendReadiness
  split <;> rfl
@[simp] theorem State.sendReadiness_link (s : State) (ready : Bool) : (s.sendReadiness ready).link = s.link := by
  unfold State.sendReadiness
  split <;> rfl
@[simp] theorem State.sendReadiness_care (s : State) (ready : Bool) : (s.sendReadiness ready).care = s.care := by
  unfold State.sendReadiness
  split <;> rfl
@[simp] theorem State.sendReadiness_pair (s : State) (ready : Bool) : (s.sendReadiness ready).pair = s.pair := by
  unfold State.sendReadiness
  split <;> rfl
@[simp] theorem State.sendReadiness_clock (s : State) (ready : Bool) : (s.sendReadiness ready).clock = s.clock := by
  unfold State.sendReadiness
  split <;> rfl
@[simp] theorem State.sendReadiness_media (s : State) (ready : Bool) : (s.sendReadiness ready).media = s.media := by
  unfold State.sendReadiness
  split <;> rfl
@[simp] theorem State.sendReadiness_memory (s : State) (ready : Bool) : (s.sendReadiness ready).memory = s.memory := by
  unfold State.sendReadiness
  split <;> rfl
@[simp] theorem State.sendReadiness_net (s : State) (ready : Bool) : (s.sendReadiness ready).net = s.net := by
  unfold State.sendReadiness
  split <;> rfl

/-! ### turnNotReady -/

@[simp] theorem State.turnNotReady_pending (s : State) : s.turnNotReady.pending = s.pending := by
  unfold State.turnNotReady
  dsimp only
  split_ifs <;> simp
@[simp] theorem State.turnNotReady_now (s : State) : s.turnNotReady.now = s.now := by
  unfold State.turnNotReady
  dsimp only
  split_ifs <;> simp
@[simp] theorem State.turnNotReady_free (s : State) : s.turnNotReady.free = s.free := by
  unfold State.turnNotReady
  dsimp only
  split_ifs <;> simp
@[simp] theorem State.turnNotReady_doms (s : State) : s.turnNotReady.doms = s.doms := by
  unfold State.turnNotReady
  dsimp only
  split_ifs <;> simp
@[simp] theorem State.turnNotReady_pendR (s : State) : s.turnNotReady.pendR = s.pendR := by
  unfold State.turnNotReady
  dsimp only
  split_ifs <;> simp
@[simp] theorem State.turnNotReady_pendD (s : State) : s.turnNotReady.pendD = s.pendD := by
  unfold State.turnNotReady
  dsimp only
  split_ifs <;> simp
@[simp] theorem State.turnNotReady_burnR (s : State) : s.turnNotReady.burnR = s.burnR := by
  unfold State.turnNotReady
  dsimp only
  split_ifs <;> simp
@[simp] theorem State.turnNotReady_burnD (s : State) : s.turnNotReady.burnD = s.burnD := by
  unfold State.turnNotReady
  dsimp only
  split_ifs <;> simp
@[simp] theorem State.turnNotReady_stages (s : State) : s.turnNotReady.stages = s.stages := by
  unfold State.turnNotReady
  dsimp only
  split_ifs <;> simp
@[simp] theorem State.turnNotReady_ctl (s : State) : s.turnNotReady.ctl = s.ctl := by
  unfold State.turnNotReady
  dsimp only
  split_ifs <;> simp
@[simp] theorem State.turnNotReady_power (s : State) : s.turnNotReady.power = s.power := by
  unfold State.turnNotReady
  dsimp only
  split_ifs <;> simp
@[simp] theorem State.turnNotReady_faults (s : State) : s.turnNotReady.faults = s.faults := by
  unfold State.turnNotReady
  dsimp only
  split_ifs <;> simp
@[simp] theorem State.turnNotReady_beacon (s : State) : s.turnNotReady.beacon = s.beacon := by
  unfold State.turnNotReady
  dsimp only
  split_ifs <;> simp
@[simp] theorem State.turnNotReady_nv (s : State) : s.turnNotReady.nv = s.nv := by
  unfold State.turnNotReady
  dsimp only
  split_ifs <;> simp
@[simp] theorem State.turnNotReady_cal (s : State) : s.turnNotReady.cal = s.cal := by
  unfold State.turnNotReady
  dsimp only
  split_ifs <;> simp
@[simp] theorem State.turnNotReady_lift (s : State) : s.turnNotReady.lift = s.lift := by
  unfold State.turnNotReady
  dsimp only
  split_ifs <;> simp
@[simp] theorem State.turnNotReady_scene (s : State) : s.turnNotReady.scene = s.scene := by
  unfold State.turnNotReady
  dsimp only
  split_ifs <;> simp
@[simp] theorem State.turnNotReady_banks (s : State) : s.turnNotReady.banks = s.banks := by
  unfold State.turnNotReady
  dsimp only
  split_ifs <;> simp
@[simp] theorem State.turnNotReady_link (s : State) : s.turnNotReady.link = s.link := by
  unfold State.turnNotReady
  dsimp only
  split_ifs <;> simp
@[simp] theorem State.turnNotReady_care (s : State) : s.turnNotReady.care = s.care := by
  unfold State.turnNotReady
  dsimp only
  split_ifs <;> simp
@[simp] theorem State.turnNotReady_pair (s : State) : s.turnNotReady.pair = s.pair := by
  unfold State.turnNotReady
  dsimp only
  split_ifs <;> simp
@[simp] theorem State.turnNotReady_clock (s : State) : s.turnNotReady.clock = s.clock := by
  unfold State.turnNotReady
  dsimp only
  split_ifs <;> simp
@[simp] theorem State.turnNotReady_media (s : State) : s.turnNotReady.media = s.media := by
  unfold State.turnNotReady
  dsimp only
  split_ifs <;> simp
@[simp] theorem State.turnNotReady_memory (s : State) : s.turnNotReady.memory = s.memory := by
  unfold State.turnNotReady
  dsimp only
  split_ifs <;> simp

/-! ### announceCommit -/

@[simp] theorem State.announceCommit_pending (s : State) : s.announceCommit.pending = s.pending := by
  unfold State.announceCommit
  dsimp only
  split_ifs <;> simp
@[simp] theorem State.announceCommit_now (s : State) : s.announceCommit.now = s.now := by
  unfold State.announceCommit
  dsimp only
  split_ifs <;> simp
@[simp] theorem State.announceCommit_free (s : State) : s.announceCommit.free = s.free := by
  unfold State.announceCommit
  dsimp only
  split_ifs <;> simp
@[simp] theorem State.announceCommit_doms (s : State) : s.announceCommit.doms = s.doms := by
  unfold State.announceCommit
  dsimp only
  split_ifs <;> simp
@[simp] theorem State.announceCommit_pendR (s : State) : s.announceCommit.pendR = s.pendR := by
  unfold State.announceCommit
  dsimp only
  split_ifs <;> simp
@[simp] theorem State.announceCommit_pendD (s : State) : s.announceCommit.pendD = s.pendD := by
  unfold State.announceCommit
  dsimp only
  split_ifs <;> simp
@[simp] theorem State.announceCommit_burnR (s : State) : s.announceCommit.burnR = s.burnR := by
  unfold State.announceCommit
  dsimp only
  split_ifs <;> simp
@[simp] theorem State.announceCommit_burnD (s : State) : s.announceCommit.burnD = s.burnD := by
  unfold State.announceCommit
  dsimp only
  split_ifs <;> simp
@[simp] theorem State.announceCommit_stages (s : State) : s.announceCommit.stages = s.stages := by
  unfold State.announceCommit
  dsimp only
  split_ifs <;> simp
@[simp] theorem State.announceCommit_ctl (s : State) : s.announceCommit.ctl = s.ctl := by
  unfold State.announceCommit
  dsimp only
  split_ifs <;> simp
@[simp] theorem State.announceCommit_power (s : State) : s.announceCommit.power = s.power := by
  unfold State.announceCommit
  dsimp only
  split_ifs <;> simp
@[simp] theorem State.announceCommit_faults (s : State) : s.announceCommit.faults = s.faults := by
  unfold State.announceCommit
  dsimp only
  split_ifs <;> simp
@[simp] theorem State.announceCommit_beacon (s : State) : s.announceCommit.beacon = s.beacon := by
  unfold State.announceCommit
  dsimp only
  split_ifs <;> simp
@[simp] theorem State.announceCommit_nv (s : State) : s.announceCommit.nv = s.nv := by
  unfold State.announceCommit
  dsimp only
  split_ifs <;> simp
@[simp] theorem State.announceCommit_cal (s : State) : s.announceCommit.cal = s.cal := by
  unfold State.announceCommit
  dsimp only
  split_ifs <;> simp
@[simp] theorem State.announceCommit_lift (s : State) : s.announceCommit.lift = s.lift := by
  unfold State.announceCommit
  dsimp only
  split_ifs <;> simp
@[simp] theorem State.announceCommit_scene (s : State) : s.announceCommit.scene = s.scene := by
  unfold State.announceCommit
  dsimp only
  split_ifs <;> simp
@[simp] theorem State.announceCommit_banks (s : State) : s.announceCommit.banks = s.banks := by
  unfold State.announceCommit
  dsimp only
  split_ifs <;> simp
@[simp] theorem State.announceCommit_link (s : State) : s.announceCommit.link = s.link := by
  unfold State.announceCommit
  dsimp only
  split_ifs <;> simp
@[simp] theorem State.announceCommit_care (s : State) : s.announceCommit.care = s.care := by
  unfold State.announceCommit
  dsimp only
  split_ifs <;> simp
@[simp] theorem State.announceCommit_clock (s : State) : s.announceCommit.clock = s.clock := by
  unfold State.announceCommit
  dsimp only
  split_ifs <;> simp
@[simp] theorem State.announceCommit_media (s : State) : s.announceCommit.media = s.media := by
  unfold State.announceCommit
  dsimp only
  split_ifs <;> simp
@[simp] theorem State.announceCommit_memory (s : State) : s.announceCommit.memory = s.memory := by
  unfold State.announceCommit
  dsimp only
  split_ifs <;> simp
@[simp] theorem State.announceCommit_net (s : State) : s.announceCommit.net = s.net := by
  unfold State.announceCommit
  dsimp only
  split_ifs <;> simp

/-! ### Objects -/

/-- The objects that packets on the panel link count. -/
def linkKeys : List Nat := [0x480010, 0x480015, 0x480016]

theorem State.get_answer (s : State) (p : Path) (code : Nat) (data : Bytes) (k : Nat) : (s.answer p code data).get k = s.get k := by
  unfold State.answer
  split <;> rfl
theorem State.get_reply (s : State) (p : Path) (id : Option Nat) (j code k : Nat) : (s.reply p id j code).get k = s.get k := by
  unfold State.reply
  split
  · rfl
  · exact State.get_answer _ _ _ _ _
theorem State.get_setSdo (s : State) (p : Nat) (o : Option SdoOpen) (k : Nat) : (s.setSdo p o).get k = s.get k := by
  unfold State.setSdo
  split <;> rfl
theorem State.get_supersede (s : State) (p k : Nat) : (s.supersede p).get k = s.get k := by
  unfold State.supersede
  split
  · exact (State.get_setSdo _ _ _ _).trans (State.get_answer _ _ _ _ _)
  · rfl
theorem State.get_heard (s : State) (p : Path) (k : Nat) : (s.heard p).get k = s.get k := by
  unfold State.heard
  split
  · exact State.get_supersede _ _ _
  · rfl
theorem State.dom_heard (s : State) (p : Path) (k : Nat) : (s.heard p).dom k = s.dom k := State.dom_congr (s.heard_doms p) k

theorem ne_of_notLink {k j : Nat} (h : k ∉ linkKeys) (hj : j ∈ linkKeys) : k ≠ j := fun e => h (e ▸ hj)

theorem State.get_onLink (s : State) (p : Packet) {k : Nat} (h : k ∉ linkKeys) : (s.onLink p).get k = s.get k := by
  have e : (s.onLink p).get k
      = ((s.dealOut (dealLanes s.link.map.length (framedSymbols s.link.map.length p.bytes))).bump 0x480015 p.framed).get k := rfl
  rw [e, State.get_bump_ne _ (ne_of_notLink h (by decide))]
  exact State.get_congr (State.dealOut_regs _ _) k
theorem State.get_linkEmitAs (s : State) (epoch : Nat) (p : Packet) {k : Nat} (h : k ∉ linkKeys) :
    (s.linkEmitAs epoch p).get k = s.get k := by
  unfold State.linkEmitAs
  dsimp only
  rw [State.get_put_ne _ (ne_of_notLink h (by decide))]
  exact State.get_onLink s _ h
theorem State.get_linkEmit (s : State) (p : Packet) {k : Nat} (h : k ∉ linkKeys) : (s.linkEmit p).get k = s.get k :=
  State.get_linkEmitAs s _ p h
theorem State.get_linkSend (s : State) (p : Packet) {k : Nat} (h : k ∉ linkKeys) : (s.linkSend p).get k = s.get k := by
  unfold State.linkSend
  split_ifs
  · rfl
  · exact State.get_linkEmit _ _ h
  · rfl
theorem State.get_linkRead (s : State) (code module argument expected : Nat) (known : Bool) (frame : Option Nat) {k : Nat}
    (h : k ∉ linkKeys) : (s.linkRead code module argument expected known frame).get k = s.get k := by
  unfold State.linkRead
  exact (State.get_linkSend _ _ h).trans rfl
theorem State.get_linkControl (s : State) (command module argument : Nat) (payload : Bytes) {k : Nat} (h : k ∉ linkKeys) :
    (s.linkControl command module argument payload).get k = s.get k := State.get_linkSend _ _ h
theorem State.get_twinSend (s : State) (kind tail : Nat) (payload : Bytes) (k : Nat) : (s.twinSend kind tail payload).get k = s.get k := by
  unfold State.twinSend
  dsimp only
  split_ifs <;> rfl

/-! ### A packet that finds room -/

/-- A packet sent on a free link with room stands last in the retry buffer, with the next number. -/
theorem State.retry_linkEmit (s : State) (p : Packet) :
    (s.linkEmit p).link.retry = s.link.retry ++ [{ p with seq := s.link.nextSeq, epoch := s.get 0x48000C, sentAt := s.now, sends := 1 }] := by
  unfold State.linkEmit State.linkEmitAs
  simp [State.onLink]

end Sys2Proof.Machine
end

