-- ==== Sys2Proof/Tests/Slice0.lean ====
section
/-!
SUPPORT. Sys2Proof/Tests/Slice0.lean: the author's own tests. The smoke test of WellFormed: one ill-formed term for each kind of check.
Then one witness theorem per obligation: for each of its clauses a concrete state and concrete operands that meet all of its
hypotheses together, and what the command answers there. Every test is one command on a small state.
-/

namespace Sys2Proof.Tests

set_option maxRecDepth 8000
set_option Elab.async false

open Sys2Proof Sys2Proof.Machine

/-- The command completes in a state with the property. -/
def next (o : Host.Outcome State Fault Refusal) (p : State → Bool) : Bool :=
  match o with
  | .next s => p s
  | _ => false

/-- Single, in Run, every function usable, some objects set, 1 µs after the release of RESET_N. -/
def up (regs : List (Nat × Nat)) : State :=
  { State.reset with
    now := 1000, regs := (0x201005, 5) :: regs, stages := List.replicate 16 .up
    ctl := { State.reset.ctl with releasedAt := some 0, readyLatched := true }
    power := { State.reset.power with phase := .run }, pair := { State.reset.pair with role := 0 } }

def running : State := up []

/-- UDP control on, from address 7 alone. -/
def udpOn : State := { up [(0x203101, 1), (0x280009, 0x44)] with doms := [(0x203103, leBytes 16 7)] }

/-- A broadcast frame on MAC 1, a datagram in one to the dictionary port, a PTP message in one. -/
def arrival : Arrival := ⟨1, 0xFFFFFFFFFFFF, 1518, false⟩
def onPort : UdpArrival := ⟨arrival, udpOn.get 0x203102⟩
def ptpIn : PtpArrival := ⟨arrival, 0, 0⟩
def video (stream : Nat) : AvtpHeader := ⟨stream, 3, 2, 3, true, true, false⟩

/-- A member of a pair, in a role: 1 active, 2 standby. -/
def member (role : Nat) (regs : List (Nat × Nat)) : State :=
  { up ((0x230001, 1) :: regs) with pair := { State.reset.pair with role := role } }

/-- A start from a power-up with one good firmware slot, every self-test passed. -/
def boot : BootFacts :=
  { cause := 1, strapB := false, slotOk := [true, true], slotReadable := true, sram := [], sramColumns := [], carversFailed := 0, ispFailed := 0,
    slalomFailed := 0, encoderFailed := 0, decoderFailed := 0, groomerFailed := false, blitterFailed := false }

/-- An access of the management cores' own path is heard, and the value, the content or the transfer passes every check. -/
def valueTaken (s : State) (t k : Nat) (b : Bytes) : Bool := (s.begin t).hears .internal && ((s.begin t).heard .internal).takesValue k b
def contentTaken (s : State) (t k : Nat) (b : Bytes) : Bool := (s.begin t).hears .internal && ((s.begin t).heard .internal).takesContent k b
def transferTaken (s : State) (t k : Nat) (data b : Bytes) : Bool :=
  (s.begin t).hears .internal && ((s.begin t).heard .internal).takesTransfer k data b

/-- A dictionary frame to the device. -/
def udpFrame (opcode key offset : Nat) (payload : Bytes) : Bytes := dictFrame opcode 9 key 0 offset payload

/-- An open bulk write of 0x2850.01 from address 7. -/
def openBulk : Transaction := { source := 7, dport := 30000, id := 9, key := 0x285001, total := 4, last := 1000 }

/-- An open download of 0x2850.01, and an open upload, on CAN port 0. -/
def sdoIn : SdoOpen := { upload := false, block := false, key := 0x285001, size := 20, data := [1], toggle := false, last := 1000 }
def sdoOut : SdoOpen := { upload := true, block := false, key := 0x285001, size := 20, data := [1, 2], toggle := true, last := 1000 }

/-- CAN port 0 on, with its state. -/
def canOn (c : CanPort) : State := { up [(0x203001, 1)] with ctl := { running.ctl with ports := [c, {}] } }

/-- Running, one function at another stage; and running with the Groomer failed. -/
def atStage (n : Nat) (x : Stage) : State := { running with stages := setNth running.stages n x }
def bare : State := atStage 8 .failed

/-- One Beacon entry stands in staging; one capture waits on input 3. -/
def note : Entry := { kind := 0x0C, flags := 0, seq := 4, time := 0, epoch := 0, frame := 0, body := [1, 0], payload := [9] }
def noted : State := { bare with beacon := { bare.beacon with staging := [note], nextSeq := 5 } }
def stamped : State := { bare with net := { bare.net with captures := List.replicate 3 {} ++ [{ queue := [(77, true)] }] } }

/-- Running, with another power state. -/
def powered (p : Power) : State := { running with power := p }
def runs : Power := { State.reset.power with phase := .run }

/-- A scene with camera layer 7 from port 3, policy 1, bound to a safety region of one tile; and a picture of that port. -/
def descriptor : Bytes :=
  patch (patch (patch (List.replicate 1600 0) 5 [1]) 480 (leBytes 1 2 ++ [0, 0, 1, 3, 0xFF, 0, 0, 0xFF, 0, 0xFF, 0xFF])) 1344
    (leBytes 2 0 ++ leBytes 2 0 ++ leBytes 2 1 ++ leBytes 2 1 ++ [0, 7] ++ leBytes 2 20)
def picture : Picture := { seq := 1, time := 5, endTime := 1000, width := 1, height := 1, rgb := [0], luma := [0] }
def viewing : State :=
  { up [(0x400002, 128)] with
    doms := [(0x400001, descriptor)], media := { State.reset.media with cams := List.replicate 3 {} ++ [{ pictures := [picture] }] ++ List.replicate 4 {} } }

/-- A shadow bank with the geometry of one lenslet, that can be patched; and a valid geometry of 1,920 × 1,080 pixels. -/
def lenslet : Bytes := [0, 0, 0, 0, 0, 0, 0, 0, 1, 0, 1, 0]
def shadowed (state : Nat) : State :=
  { up [(0x420003, state)] with banks := { geometry := [lenslet, lenslet], entries := [List.replicate 8 0, List.replicate 8 1], active := some 1, poisoned := [] } }
def oneModule : Bytes :=
  leBytes 2 0x4752 ++ [1, 0, 10, 10, 1, 1] ++ leBytes 2 192 ++ leBytes 2 108 ++ leBytes 4 45000 ++ leBytes 4 1 ++ leBytes 4 1 ++ leBytes 4 1
    ++ List.replicate 3108 0

/-- The Maelwin port owns the panel, its link trained. -/
def linkedWith (regs : List (Nat × Nat)) (l : Link) : State := { up ((0x480001, 2) :: regs) with link := { l with trained := true } }
def linked : State := linkedWith [] {}

/-- A map of one module is active, and the panel has that module; tile 0 has changed and is taken. -/
def panel : State :=
  { linkedWith [(0x48000F, 17)] { modules := 1 } with
    banks := { State.reset.banks with geometry := [[0, 0, 0, 0, 0, 0, 1, 1, 1, 0, 1, 0], []], active := some 0 }
    scene := { State.reset.scene with changed := [(0, 5)], taken := [0] } }

/-- An update rectangle of tile 0, and its claim. -/
def rect0 : Rect := { no := 0, module := 0, cls := 1, format := 1, column := 0, row := 0, columns := 1, rows := 1, frame := 0, supersede := false }
def claim0 (codes : List Nat) : Claim := { tile := 0, rect := 0, state := .queued, at_ := 0, codes := codes }
def claimed (codes : List Nat) : State :=
  { panel with
    link := { panel.link with rects := [rect0], claims := [claim0 codes] }, scene := { panel.scene with changed := [], taken := [] }
    lift := { panel.lift with carvers := setNth panel.lift.carvers 0 { active := true } } }

/-- The same under frame-atomic presentation. -/
def atomically (codes : List Nat) : State :=
  { claimed codes with regs := (0x490001, 1) :: (claimed codes).regs, link := { (claimed codes).link with atomic := true } }

/-- Carver 0 has the band of row 0 of module 0. -/
def banded : State :=
  { running with lift := { running.lift with carvers := setNth running.lift.carvers 0 { active := true, bands := 3, band := some { module := 0, row := 0, tiles := [], placement := 0 } } } }

/-- Every reading of a complete round: all rails and sensors, the sensors at some code. -/
def rounded (regs : List (Nat × Nat)) (sensor : Nat) : State :=
  { up regs with lift := { State.reset.lift with readings := List.replicate 12 (some sensor) ++ List.replicate 20 (some 0) } }

/-- An upstream packet from its kind, flags, sequence number, port byte, tag and payload, with its CRC; an open READ. -/
def upPacket (kind flags sequence ports tag : Nat) (payload : Bytes) : Bytes :=
  let b := leBytes 1 kind ++ leBytes 1 flags ++ leBytes 2 sequence ++ leBytes 4 0 ++ leBytes 1 ports ++ [0] ++ leBytes 2 payload.length
    ++ [0] ++ leBytes 1 tag ++ [0, 0] ++ payload
  b ++ leBytes 4 (crc32c b)
def quiet (kind sequence : Nat) (payload : Bytes) : Bytes := upPacket kind 0 sequence 16 3 payload
def read3 : OpenRead := { code := 1, tag := 3, module := 0, argument := 0, at_ := 0, tries := 1 }

/-- A packet of a kind that waits for its ACK, and a tile that is sent, with a claim of rectangle 1 behind it. -/
def unacked (kind : Nat) : Packet :=
  { kind, flags := 0, seq := 7, epoch := 0, module := 0, format := 0, spec := 0, payload := [1], tiles := [0], rect := 0, sentAt := 0, sends := 1 }
def sentTile (atomic : Bool) : State :=
  { panel with link := { panel.link with
      retry := [unacked 1], claims := [{ claim0 [] with state := .sent, atomic }, { claim0 [] with rect := 1 }], rects := [rect0] } }

/-- What a command sent as one packet. -/
def packetGone (kind module spec : Nat) (payload : Bytes) (s : State) : Bool :=
  s.link.retry.any fun p => p.kind == kind && p.module == module && p.spec == spec && p.payload == payload && decide (Out.maelwin p.bytes ∈ s.out)
def readGone (code module argument : Nat) (s : State) : Bool :=
  s.link.reads.any fun o => o.code == code && o.module == module && o.argument == argument && packetGone 4 module (code + 256 * o.tag + 65536 * argument) [] s

/-- A drive table under way: 16 bytes of table 7. -/
def driving (l : DriveLoad) : State := { linked with doms := [(0x49001F, List.replicate 16 5)], care := { linked.care with loads := [l] } }

/-- Camera port 7 enabled, in a state; camera frames, pictures and streams to go with it. -/
def camera (c : Cam) : State :=
  { up [(camK 7 0 1, 1), (camK 7 0 0x11, 1)] with media := { State.reset.media with cams := setNth State.reset.media.cams 7 c } }
def frame0 : CamFrame := { counter := 1, startTime := 1000, frameStartLocal := 1000 }
def cci0 : CciJob := { port := 5, exposure := false, read := true, device := 16, addressBytes := 2, address := 0, length := 1, data := [] }
def busy (m : CciMaster) : State := { running with media := { running.media with masters := setNth running.media.masters 3 m } }
def late0 : ExposureJob := { setId := 1, set := [], frame := 2, deadline := 2000, left := [] }

/-- A stereo pair, a stream, a slot, a flat output in a state. -/
def paired3 (on : Nat) (p : StereoPair) : State :=
  { up [(pairK 3 1, on)] with media := { State.reset.media with pairs := setNth State.reset.media.pairs 3 p } }
def streaming (state : Nat) (x : Stream) : State :=
  { up [(streamK 23 1, if state = 0 then 0 else 1), (streamK 23 0x10, state)] with
    media := { State.reset.media with codec := { State.reset.media.codec with streams := setNth State.reset.media.codec.streams 23 x },
                                      cams := setNth State.reset.media.cams 0 { pictures := [picture] } } }
/-- Stream 23 searches the motion of a picture against itself. -/
def moving : State :=
  let s := streaming 2 { reference := some picture, motionFor := some (1, 1) }
  { s with media := { s.media with motionQueue := [23], cams := setNth s.media.cams 0 { pictures := [{ picture with seq := 1 }] } } }
def decoding (state : Nat) (x : Slot) : State :=
  { up [(slotK 31 1, if state = 0 then 0 else 1), (slotK 31 8, state), (slotK 31 2, 77), (0x280001, 1), (0x280009, 1)] with
    memory := { State.reset.memory with ranks := List.replicate 32 { state := 2 } }
    media := { State.reset.media with codec := { State.reset.media.codec with slots := setNth State.reset.media.codec.slots 31 x } } }
def unit0 : AccessUnit :=
  { profile := 1, level := 183, field := true, takes := 1000000, writes := [], irap := true, rasl := false, event := .clean, width := 8, height := 8, bitDepth := 8, ctu := 16, bt601 := false
    fullRange := true, references := [], luma := List.replicate 64 16, cb := List.replicate 16 128, cr := List.replicate 16 128 }
def flat1 (state : Nat) (x : FlatOut) : State :=
  { up [(flatK 1 1, if state = 0 then 0 else 1), (flatK 1 0x0C, state)] with
    power := { State.reset.power with phase := .run, plls := [.flatLanes] }
    media := { State.reset.media with flats := setNth State.reset.media.flats 1 x } }

/-- A blit list of one command under way, on surfaces 0 and 1 of 2 × 1 texels of 2 bytes. -/
def blitting (b : Bytes) : State :=
  { up [(0x430002, 1), (0x430007, 1), (surfaceK 0 1, 1), (surfaceK 0 2, 2), (surfaceK 0 3, 1), (surfaceK 1 1, 1), (surfaceK 1 2, 2), (surfaceK 1 3, 1)] with
    doms := [(surfaceK 0 4, [1, 2, 3, 4]), (surfaceK 1 4, [5, 6, 7, 8])]
    media := { State.reset.media with blitter := { list := [b] } } }
def fillBytes : Bytes := [2, 0, 0xFF, 1] ++ leBytes 4 0 ++ leBytes 2 2 ++ leBytes 2 1 ++ leBytes 4 0 ++ leBytes 4 0xFFFFFFFF ++ [0xFF, 0, 1, 0] ++ List.replicate 8 0
def copyBytes : Bytes := [1, 0, 0, 1] ++ leBytes 4 0 ++ leBytes 2 2 ++ leBytes 2 1 ++ leBytes 4 0 ++ leBytes 4 0 ++ [0xFF, 0, 1, 0] ++ List.replicate 8 0
def waitBytes : Bytes := [3, 0, 0xFF, 0xFF] ++ List.replicate 16 0 ++ [0, 1] ++ leBytes 2 4 ++ List.replicate 8 0

/-- The same while output 1 runs. -/
def scanning (b : Bytes) : State := { blitting b with regs := (flatK 1 0x0C, 3) :: (blitting b).regs }

/-- Memory with rank 31 in a state, or channel 15; a block with one wrong symbol, and one with three. -/
def ranked (r : Rank) : State := { running with memory := { running.memory with ranks := setNth running.memory.ranks 31 r } }
def chan (c : Channel) : State := { running with memory := { running.memory with channels := setNth running.memory.channels 15 c } }
def wrong1 : List Nat := 1 :: List.replicate 35 0
def wrong3 : List Nat := [1, 2, 4, 0, 8] ++ List.replicate 31 0

/-- The clock in a state, PTP on both MACs; an Announce. -/
def clocked (regs : List (Nat × Nat)) : State := up ([(0x280009, 0x44)] ++ regs)
def announce : Announce := { priority1 := 1, clockClass := 6, clockAccuracy := 0, variance := 0, priority2 := 0, identity := 9, steps := 0 }

/-- A hold-all group with a commit request pending; member 2 of 3. -/
def group (g : Group) : State :=
  { up [(0x280009, 0x44), (0x286001, 1), (0x286003, 2), (0x286004, 3), (0x286005, 1)] with
    doms := [(0x286007, leBytes 18 5)], scene := { State.reset.scene with requested := true, requestAt := 5 }
    net := { State.reset.net with group := g } }
def readyFrame (value : Nat) : Bytes :=
  let b := leBytes 2 0x4752 ++ [1] ++ leBytes 1 value ++ leBytes 4 0 ++ leBytes 4 0 ++ leBytes 2 1 ++ List.replicate 14 0
  b ++ leBytes 4 (crc32c b)

/-- A member whose twin link is up, its pair state given. -/
def twin (p : Pair) : State := { member 1 [] with pair := { p with twinUp := true } }
/-- A pair state whose five twin lanes lock, lane 4 the spare. -/
def wired : Pair := { role := 1, twinLocked := 31, wire := { map := [0, 1, 2, 3], driven := [0, 1, 2, 3, 4] } }
def packet0 : Packet := { kind := 2, flags := 0, seq := 5, epoch := 0, module := 0, format := 0, spec := 0, payload := [], sentAt := 1000, sends := 1 }
def takenTwin (p : Pair) (seq : Nat) : Bool := (p.twinExpected == none || p.twinExpected == some seq) && p.role != 1

/-- A calibration run at a step. -/
def calibrating (next : Nat) : State := { bare with cal := { running.cal with run := some { mask := 15, next := next, trims := List.replicate 64 0 } } }

/-- A write of 0x4900.30 of 6,144 bytes has arrived, behind its bulk header. -/
def bytes6144 : Bytes := List.replicate 6144 1
def staged0 : Staged :=
  { key := 0x490030, path := .internal, id := none
    data := leBytes 2 0x4442 ++ leBytes 2 0 ++ leBytes 8 bytes6144.length ++ leBytes 4 (crc32c bytes6144) ++ bytes6144 }
def staging : State := { running with ctl := { running.ctl with staged := [staged0] } }

/-- A term with an item out of range is refused by each kind of check, and its command faults. -/
theorem test_wf_refuses :
    ((Instr.registerWrite 0 .internal 65536 0 []).wf = false ∧ (Instr.registerWrite 0 .internal 0 256 []).wf = false)
    ∧ ((Instr.sdoTransfer 0 2 ⟨0, .clientAbort⟩).wf = false ∧ (Instr.functionResetComplete 0 16).wf = false ∧ (Instr.layerStale 0 16).wf = false)
    ∧ ((Instr.safetyRerender 0 8).wf = false ∧ (Instr.surfaceFormat 0 .internal 64 0).wf = false ∧ (Instr.goldenTile 0 36 0).wf = false)
    ∧ ((Instr.trainingStepTimeout 0 0).wf = false ∧ (Instr.trainingStepTimeout 0 8).wf = false ∧ (Instr.laneRetire 0 18 .lockLost).wf = false)
    ∧ ((Instr.startSensing 0 64).wf = false ∧ (Instr.discardStaged 0 64).wf = false ∧ (Instr.discardStaged 0 0xFF).wf = true)
    ∧ ((Instr.update 0 256 0 0 1).wf = false ∧ (Instr.driveTableCommit 0 8).wf = false ∧ (Instr.readTimeout 0 256).wf = false)
    ∧ ((Instr.ispPipelineFail 0 4).wf = false ∧ (Instr.cciBusStuck 0 4).wf = false ∧ (Instr.stereoFrameAbandon 0 4).wf = false)
    ∧ ((Instr.sealMake 0 ⟨24, true⟩).wf = false ∧ (Instr.slotStarved 0 32).wf = false ∧ (Instr.encoderCoreFail 0 2).wf = false)
    ∧ ((Instr.underrunLine 0 0 ⟨4096, 0⟩).wf = false ∧ (Instr.underrunLine 0 0 ⟨0, 3840⟩).wf = false ∧ (Instr.scanLatch 0 2).wf = false ∧ (Instr.macLinkChange 0 0 5).wf = false)
    ∧ ((Instr.dramAccess 0 .other 32 0 0 ⟨none, false⟩ []).wf = false ∧ (Instr.dramAccess 0 .other 0 0 2048 ⟨none, false⟩ []).wf = false)
    ∧ ((Instr.channelTraining 0 16 true ⟨[], [], 0⟩).wf = false ∧ (Instr.housekeepingSlot 0 32 0).wf = false ∧ (Instr.twinLaneRetire 0 ⟨5, none⟩).wf = false)
    ∧ ((Instr.sramScrub 0 [{ pool := 0, macroNo := 192, row := 0, corrections := 0, double := false }]).wf = false)
    ∧ ((Instr.coldStart 0 { boot with cause := 8 }).wf = false ∧ (Instr.coldStart 0 boot).wf = true)
    ∧ ((match exec (.frameStart 0 8 0) running with | .fault .operandOutOfRange => true | _ => false) = true) := by
  decide +kernel

theorem test_StepRunsTheFrontCommand :
    ({ running with pending := [.pfailGlitch 5, .claim 6] }.pending = .pfailGlitch 5 :: [.claim 6])
    ∧ (next (step { running with pending := [.pfailGlitch 5, .claim 6] }) fun s => s.pending == [.claim 6] && s.get 0x213003 == 1) := by
  decide +kernel

theorem test_CommandsCompleteAndKeepTheQueue :
    ((Instr.frameStart 5 7 0).wf = true ∧ (Instr.frameStart 5 8 0).wf = false)
    ∧ (next (exec (.frameStart 5 7 0) { running with pending := [.claim 6] }) fun s => s.pending == [.claim 6]) := by
  decide +kernel

theorem test_EveryStepKeepsTheStoresCanonical :
    (running.wf = true ∧ next (step { running with pending := [.pfailGlitch 5] }) fun s => s.wf
        && s.regs == [(0x201005, 5), (0x204005, 1), (0x213003, 1)]) := by
  decide +kernel

theorem test_WellFormedQueuesRunToTheEnd :
    (([.pfailGlitch 5, .pfailGlitch 7, .claim 9] : List Instr).take 2 = [.pfailGlitch 5, .pfailGlitch 7] ∧ (Instr.pfailGlitch 5).wf = true
        ∧ (Instr.pfailGlitch 7).wf = true)
    ∧ (next (Host.Core.run Sys2Proof.core 2 { running with pending := [.pfailGlitch 5, .pfailGlitch 7, .claim 9] })
        fun s => s.pending == [.claim 9]) := by
  decide +kernel

theorem test_ResetHoldsTheDefaults :
    (State.reset.get 0x203102 = defaultOf 0x203102 ∧ State.reset.wf = true ∧ State.reset.served = false ∧ State.reset.fnState 0 = 0) := by
  decide +kernel

theorem test_LooseContainersDecodeToTheirInput :
    ((0 : Nat) < 2 ∧ 0 < ([7, 8, 9] : Bytes).length ∧ ([7, 8, 9] : Bytes).length ≤ 2 ^ 30)
    ∧ (looseDecode (looseEncodeWith 9 1 [0] [7, 8, 9]) = some [7, 8, 9]) := by
  decide +kernel

theorem test_PayloadsHaveTheirSizesAndCheck :
    ((tilePayload 0 []).length = 480 ∧ (tilePayload 1 (List.replicate 384 1023)).length = 240 ∧ crc32c (asciiBytes "123456789") = 0xE3069283) := by
  decide +kernel

theorem test_FaultCodesAreComposed :
    (({ fn := 15, cause := 255, cls := 15, seq := 0 } : FaultEntry).code = 0xFFFF)
    ∧ ((running.newFault 0xE 7 0 .unchanged).cls = 6) := by
  decide +kernel

theorem test_EventsAreNumberedWithoutZero :
    (nextEventSeq 0xFFFFFFFE = 0xFFFFFFFF ∧ nextEventSeq 0xFFFFFFFF = 1 ∧ seqAtOrBelow 0xFFFFFFFF 1 = true ∧ seqAtOrBelow 1 0xFFFFFFFF = false)
    ∧ ((up [(0x204005, 0xFFFFFFFF), (0x280009, 1)]).get 0x280009 ≠ 0
        ∧ ((up [(0x204005, 0xFFFFFFFF), (0x280009, 1)]).event 1).get 0x204005 = 1) := by
  decide +kernel

theorem test_RegisterWritesTakeEffectByAccessCode :
    (valueTaken running 2000 0x203105 (leBytes 2 700) = true ∧ next (exec (.registerWrite 2000 .internal 0x2031 5 (leBytes 2 700)) running)
        fun s => s.get 0x203105 == 700)
    ∧ (valueTaken running 2000 0x230001 [1] = true ∧ next (exec (.registerWrite 2000 .internal 0x2300 1 [1]) running)
        fun s => lookup 0x230001 s.burnR == some 1 && s.get 0x230001 == 0)
    ∧ (valueTaken running 2000 0x400002 [3, 0] = true ∧ next (exec (.registerWrite 2000 .internal 0x4000 2 [3, 0]) running)
        fun s => lookup 0x400002 s.pendR == some 3 && s.get 0x400002 == 0)
    ∧ (contentTaken running 2000 0x203103 (leBytes 16 7) = true ∧ next (exec (.registerWrite 2000 .internal 0x2031 3 (leBytes 16 7)) running)
        fun s => s.dom 0x203103 == leBytes 16 7)
    ∧ (contentTaken running 2000 0x261002 [] = true ∧ next (exec (.registerWrite 2000 .internal 0x2610 2 []) running)
        fun s => lookup 0x261002 s.burnD == some [])
    ∧ (contentTaken running 2000 0x400001 [] = false ∧ contentTaken running 2000 0x301002 (leBytes 16 1) = true
        ∧ next (exec (.registerWrite 2000 .internal 0x3010 2 (leBytes 16 1)) running) fun s => lookup 0x301002 s.pendD == some (leBytes 16 1)) := by
  decide +kernel

theorem test_WritesTurnedAwayChangeNothing :
    (running.gate 0x203109 true = 0x06090011 ∧ running.gate 0x203200 true = 0x06020000 ∧ running.gate 0x204005 true = 0x06010002
        ∧ running.gate 0x204004 false = 0x06010001)
    ∧ (next (exec (.registerWrite 2000 (.can 0) 0x2031 9 [0]) (canOn {})) fun s => s.out.contains (.answer (.can 0) (0x580 + s.nodeId) 0x06090011 []))
    ∧ ((atStage 3 .failed).fnState 3 = 4 ∧ running.ctl.fullResetAt = none) := by
  decide +kernel

theorem test_UdpAccessesAreAnswered :
    (udpOn.takesDatagram onPort = true ∧ udpOn.get 0x203101 = 1 ∧ udpOn.sourceAllowed 7 = true ∧ frameCrcOk (udpFrame 1 0x203105 0 []) = true
        ∧ frameFormOk (udpFrame 1 0x203105 0 []) = true ∧ (udpOn.begin 2000).readObject 0x203105 = (0, leBytes 2 (defaultOf 0x203105))
        ∧ next (exec (.udpRead 2000 7 onPort (udpFrame 1 0x203105 0 [])) udpOn) fun s =>
        decide (Out.udp 0 (udpOn.get 0x203102) 7 (udpOn.get 0x203102) (dictFrame 0x81 9 0x203105 0 0 (leBytes 2 (defaultOf 0x203105))) ∈ s.out))
    ∧ (frameFormOk (udpFrame 2 0x203105 0 [1, 2]) = true ∧ (udpOn.begin 2000).takesValue 0x203105 [1, 2] = true
        ∧ next (exec (.udpWrite 2000 7 onPort (udpFrame 2 0x203105 0 [1, 2])) udpOn) fun s => s.get 0x203105 == 513)
    ∧ ((udpOn.begin 2000).bulkCode 7 (frameOf (udpFrame 3 0x285001 0 (leBytes 8 16))) = 0
        ∧ next (exec (.udpBulkStart 2000 7 onPort (udpFrame 3 0x285001 0 (leBytes 8 16))) udpOn)
        fun s => s.ctl.transactions.length == 1)
    ∧ (next (exec (.udpBulkData 2000 7 onPort (udpFrame 4 0x285001 0 [5])) { udpOn with ctl := { udpOn.ctl with transactions := [openBulk] } })
        fun s => s.ctl.transactions.any fun y => y.data == [5] && y.last == 2000)
    ∧ (next (exec (.udpBulkData 2000 7 onPort (udpFrame 4 0x285001 1 [5])) { udpOn with ctl := { udpOn.ctl with transactions := [openBulk] } })
        fun s => decide (Out.udp 0 (udpOn.get 0x203102) 7 (udpOn.get 0x203102) (dictFrame 0x83 9 0x285001 0 0 []) ∈ s.out)) := by
  decide +kernel

theorem test_UdpTransactionsAreLimited :
    (udpOn.gate 0x285001 true = 0 ∧ (objOf 0x285001).any (fun o => o.ty == .dom) = true
        ∧ next (exec (.udpBulkStart 2000 7 onPort (udpFrame 3 0x285001 0 (leBytes 8 16))) { udpOn with ctl := { udpOn.ctl with transactions := (List.range 4).map fun i => { openBulk with id := i, key := 0x300000 + i } } })
        fun s => decide (Out.udp 0 (udpOn.get 0x203102) 7 (udpOn.get 0x203102) (dictFrame 0xEE 9 0x285001 0 0x05040005 []) ∈ s.out) && s.ctl.transactions.length == 4)
    ∧ (next (exec (.transactionTimeout 9000000000 7 9) { udpOn with ctl := { udpOn.ctl with transactions := [openBulk] } })
        fun s => decide (Out.udp 0 (udpOn.get 0x203102) 7 (udpOn.get 0x203102) (dictFrame 0xEE 9 0x285001 0 0x05040000 []) ∈ s.out) && s.ctl.transactions.isEmpty)
    ∧ (openBulk.last + udpOn.get 0x203105 * 1000000 < max udpOn.now 9000000000) := by
  decide +kernel

theorem test_SdoTransfersAreServed :
    ((canOn {}).canServes 0 = true ∧ (((canOn {}).begin 2000).supersede 0).takesValue 0x203105 [1, 2] = true
        ∧ next (exec (.sdoTransfer 2000 0 ⟨(0x600 + running.nodeId), .initiateDownload 0x2031 5 [1, 2]⟩) (canOn {})) fun s => s.get 0x203105 == 513
        && decide (Out.answer (.can 0) (0x580 + running.nodeId) 0 [] ∈ s.out))
    ∧ ((((canOn {}).begin 2000).supersede 0).readObject 0x203105 = (0, leBytes 2 (defaultOf 0x203105)) ∧ 2 ≤ (canOn {}).expeditedSize 0
        ∧ next (exec (.sdoTransfer 2000 0 ⟨(0x600 + running.nodeId), .initiateUpload 0x2031 5⟩) (canOn {}))
        fun s => decide (Out.answer (.can 0) (0x580 + running.nodeId) 0 (leBytes 2 (defaultOf 0x203105)) ∈ s.out))
    ∧ ((canOn { sdo := some sdoIn }).sdoOf 0 = some sdoIn
        ∧ next (exec (.sdoTransfer 2000 0 ⟨(0x600 + running.nodeId), .initiateUpload 0x2031 5⟩) (canOn { sdo := some sdoIn }))
        fun s => decide (Out.answer (.can 0) (0x580 + running.nodeId) 0x05040001 [] ∈ s.out))
    ∧ (sdoIn.toggle = false ∧ next (exec (.sdoTransfer 2000 0 ⟨(0x600 + running.nodeId), .downloadSegment false [2] false⟩) (canOn { sdo := some sdoIn })) fun s =>
        s.sdoOf 0 == some { sdoIn with data := [1, 2], toggle := true, last := 2000 })
    ∧ (sdoOut.toggle = true ∧ next (exec (.sdoTransfer 2000 0 ⟨(0x600 + running.nodeId), .uploadSegment true⟩) (canOn { sdo := some sdoOut }))
        fun s => decide (Out.answer (.can 0) (0x580 + running.nodeId) 0 [1, 2] ∈ s.out))
    ∧ (sdoIn.last + 500000000 ≤ max 1000 500001000 ∧ next (exec (.sdoTimeout 500001000 0) (canOn { sdo := some sdoIn })) fun s =>
        s.sdoOf 0 == none && decide (Out.answer (.can 0) (0x580 + running.nodeId) 0x05040000 [] ∈ s.out)) := by
  decide +kernel

theorem test_NmtCommandsSetThePortAlone :
    ((canOn {}).nmtHears 0 0 = true ∧ (canOn {}).nmtHears 0 (canOn {}).nodeId = true)
    ∧ (next (exec (.nmtStart 2000 0 0) (canOn {})) fun s => s.ctl.ports[0]? == some { ({} : CanPort) with nmt := .operational })
    ∧ (next (exec (.nmtStop 2000 0 0) (canOn {})) fun s => s.ctl.ports[0]? == some { ({} : CanPort) with nmt := .stopped })
    ∧ (next (exec (.nmtEnterPreOperational 2000 0 0) (canOn { nmt := .stopped })) fun s => s.ctl.ports[0]? == some ({} : CanPort))
    ∧ (next (exec (.nmtResetCommunication 2000 0 0) (canOn { nmt := .stopped })) fun s => decide (Out.can 0 (0x700 + s.nodeId) [0] ∈ s.out))
    ∧ (next (exec (.nmtResetNode 2000 0 0) (canOn { nmt := .stopped })) fun s => s.ctl.ports[0]? == some { heartbeatAt := 2000 }) := by
  decide +kernel

theorem test_MessagesAndEventsAreHanded :
    (next (exec (.producerHeartbeat 20000000 0) { canOn {} with regs := [(0x101700, 20), (0x201005, 5), (0x203001, 1)] })
        fun s => decide (Out.can 0 (0x700 + s.nodeId) [0x7F] ∈ s.out))
    ∧ ((canOn { emcy := [⟨1, 2, 3, 4⟩] }).portOn 0 = true
        ∧ next (exec (.emcyInhibitExpiry 2000 0) (canOn { emcy := [⟨1, 2, 3, 4⟩] })) fun s => s.ctl.ports[0]? == some { lastEmcy := some 2000 })
    ∧ (({ up [(0x203101, 1), (0x280009, 1)] with doms := [(0x203104, leBytes 18 5)], ctl := { running.ctl with eventsLost := 2, lastReady := 65535 } } : State).eventsOn = true
        ∧ next (exec (.eventsLostFrame 2000) { up [(0x203101, 1), (0x280009, 1)] with doms := [(0x203104, leBytes 18 5)], ctl := { running.ctl with eventsLost := 2, lastReady := 65535 } })
        fun s => s.ctl.eventsLost == 0 && !s.out.isEmpty)
    ∧ (valueTaken running 2000 0x204004 (leBytes 4 3) = true
        ∧ next (exec (.eventAcknowledge 2000 .internal 3) { running with faults := { running.faults with queue := [{ fn := 2, cause := 1, cls := 3, seq := 3 }] } })
        fun s => s.get 0x204004 == 3 && s.faults.queue.all (·.acked))
    ∧ (transferTaken bare 2000 0x22100D [1, 2] [1, 2] = true ∧ next (exec (.hostNote 2000 .internal [1, 2]) bare)
        fun s => s.beacon.staging.any fun e => e.kind == 0x0C && e.body == [2, 0] && e.payload == [1, 2])
    ∧ ((((noted.begin 2000).heard .internal).readObject 0x22100C).1 = 0 ∧ noted.beaconEntries.getLast?.any (fun e => e.seq + 1 == 5) = true
        ∧ next (exec (.beaconRead 2000 .internal) noted) fun s => s.get 0x22100B == 5)
    ∧ ((((stamped.begin 2000).heard .internal).readObject (capK 3 4)).1 = 0
        ∧ next (exec (.timestampsRead 2000 .internal 3) stamped) fun s => (s.capture 3).queue.isEmpty) := by
  decide +kernel

theorem test_DegradedShowsOnceUsable :
    (effectOf 6 1 = .degraded ∧ (atStage 6 .starting).power.phase = .run ∧ running.awaitsLock 6 = false)
    ∧ (((atStage 6 .starting).raise 6 1 0).fnState 6 = 1
        ∧ (((atStage 6 .starting).raise 6 1 0).stage 6 .up).fnState 6 = 3)
    ∧ ((nth (atStage 6 .resetting).stages 6 .off = .resetting)
        ∧ ((((atStage 6 .resetting).raise 6 1 0).stage 6 .up).fnState 6 = 3))
    ∧ (running.degradedBy 6 = false ∧ (running.raise 6 1 0).fnState 6 = 3)
    ∧ (stopsInHold 6 = true ∧ ((powered { runs with phase := .hold }).raise 6 1 0).fnState 6 = 0) := by
  decide +kernel

theorem test_ResetsBringTheDefaults :
    (next (exec (.fullResetExecute 20000000) { running with ctl := { running.ctl with fullResetAt := some 10000000 } })
        fun s => s.power.phase == .reset && s.power.nextCause == some 2)
    ∧ (next (exec (.fullResetServe 2000) { running with faults := { running.faults with resetRequested := true } })
        fun s => s.power.nextCause == some 3 && s.nv.resets == [2000])
    ∧ (next (exec (.watchdogReset 2000) running) fun s => s.power.nextCause == some 4 && decide (Out.pin .hbTx false ∈ s.out))
    ∧ (next (exec (.lockstepMismatch 2000) running) fun s => s.power.nextCause == some 5)
    ∧ (next (exec (.resetNAssert 2000 10000) (up [(0x213006, 1), (0x490003, 1)])) fun s => s.power.nextCause == some 1 && s.get 0x213006 == 1
        && s.get 0x490003 == defaultOf 0x490003) := by
  decide +kernel

theorem test_ResetRequestsAreTaken :
    (valueTaken running 2000 0x202001 (leBytes 4 0x9640) = true ∧ next (exec (.fullReset 2000 .internal 0x9640) running)
        fun s => s.ctl.fullResetAt == some 2000)
    ∧ (valueTaken running 2000 0x202002 [4] = true ∧ next (exec (.functionReset 2000 .internal 4) running) fun s => s.stages[4]? == some .resetting)
    ∧ (next (exec (.functionResetComplete 2000 4) (atStage 4 .resetting)) fun s => s.stages[4]? == some .up)
    ∧ (next (exec (.functionResetComplete 2000 0xA) (atStage 10 .resetting)) fun s => s.link.step == 1) := by
  decide +kernel

theorem test_PowerStatesAreServed :
    (valueTaken (powered { runs with phase := .hold, hostHold := true }) 2000 0x210002 [0] = true
        ∧ next (exec (.requestRun 2000 .internal) (powered { runs with phase := .hold, hostHold := true }))
        fun s => s.power.locking == [.carver, .media] && s.power.leavingHold)
    ∧ (valueTaken running 2000 0x210002 [1] = true ∧ next (exec (.requestHold 2000 .internal) running) fun s => s.power.phase == .hold
        && s.power.hostHold)
    ∧ (valueTaken running 2000 0x210002 [2] = true ∧ next (exec (.requestSleep 2000 .internal) running) fun s => s.power.phase == .enteringSleep
        && s.power.entryFrom == .run)
    ∧ (valueTaken running 2000 0x210002 [3] = true ∧ next (exec (.requestOff 2000 .internal) running) fun s => s.power.phase == .enteringOff)
    ∧ (next (exec (.powerEntryComplete 2000) (powered { runs with phase := .enteringSleep })) fun s => s.power.phase == .sleep
        && decide (Out.pin .pwrEnCore false ∈ s.out))
    ∧ (next (exec (.canWake 2000 1) { up [(0x210004, 2)] with power := { runs with phase := .off } }) fun s => s.power.waking
        && s.power.nextCause == some 6)
    ∧ (next (exec (.wakeTimerExpiry 2000) { up [(0x210004, 4)] with power := { runs with phase := .sleep, wakeTimerArmed := some 2000 } })
        fun s => s.power.waking && s.power.wakeTimerArmed == none)
    ∧ (next (exec (.sleepWake 2000 true) (powered { runs with phase := .sleep, waking := true })) fun s => s.power.phase == .run)
    ∧ (running.lift.invalid.any (fun b => !b) = true ∧ next (exec (.thermalTripClear 16000001) (powered { runs with phase := .hold, tripHold := true, coolSince := some 1 }))
        fun s => !s.power.tripHold)
    ∧ (next (exec (.pllLock 2000 .media) (powered { runs with phase := .hold, locking := [.media] })) fun s => s.power.locking == []) := by
  decide +kernel

theorem test_PowerFailureIsFollowed :
    (next (exec (.pfailGlitch 2000) (up [(0x213003, 0xFFFFFFFF)])) fun s => s.get 0x213003 == 0)
    ∧ (running.power.phase = .run ∧ running.power.pfailHold = false)
    ∧ (next (exec (.pfailRecognition 2000) (powered { runs with phase := .sleep })) fun s => s.power.phase == .sleep && s.get 0x213002 == 1)
    ∧ (next (exec (.pfailRelease 50000001) { up [(0x213001, 1)] with power := { runs with phase := .hold, pfailLow := true, pfailHold := true, pfailAt := some 1 } })
        fun s => !s.power.pfailHold && s.get 0x213004 == 1)
    ∧ (next (exec (.pfailRelease 50000002) { up [(0x213001, 1)] with power := { runs with phase := .hold, pfailLow := true, pfailHold := true, pfailAt := some 1 } })
        fun s => s.get 0x213001 == 2)
    ∧ (next (exec (.pfailWaitForReset 50000001) { up [(0x213001, 1)] with power := { runs with phase := .hold, pfailLow := true, pfailHold := true, pfailAt := some 1 } })
        fun s => s.get 0x213001 == 2)
    ∧ (next (exec (.xtalSwitch 2000) running) fun s => s.get 0x213006 == 1)
    ∧ (next (exec (.resetNAssert 2000 999) running) fun s => s.power == running.power && s.regs.length == 2) := by
  decide +kernel

theorem test_StartUpFaultsAndEntriesAreServed :
    ((Instr.coldStart 2000 boot).wf = true ∧ State.reset.power.phase = .reset ∧ State.reset.power.pfailLow = false ∧ State.reset.nv.records = [])
    ∧ (next (exec (.startupWritesResume 2000) { running with cal := { running.cal with paused := [(0x203103, leBytes 16 7)] } })
        fun s => s.dom 0x203103 == leBytes 16 7)
    ∧ (running.takesContent 0x203103 (leBytes 16 7) = true)
    ∧ (next (exec (.faultHandlingSlot 2000) { running with faults := { running.faults with queue := [{ fn := 2, cause := 1, cls := 3, seq := 3 }], slots := [(3, 2000)] } })
        fun s => s.faults.queue.all (·.handled) && s.get 0x100301 == 0x3201 * 65536 + 0xFF03)
    ∧ (next (exec (.beaconEntryWrite 2000 true 100) { bare with beacon := { bare.beacon with present := true, pending := [note] } })
        fun s => s.nv.journal.any (fun x => x.2 == note) && s.beacon.pending == [])
    ∧ (next (exec (.recoveryEntry 2000) { bare with beacon := { bare.beacon with dropped := some (1, 3) } })
        fun s => s.beacon.staging.any fun e => e.kind == 0x0D && e.body == leBytes 8 1 ++ leBytes 8 3 ++ [1]) := by
  decide +kernel

theorem test_SceneAndShadowWritesAreTaken :
    (valueTaken running 2000 0x400003 [1] = true ∧ next (exec (.commitRequest 2000 .internal) running) fun s => s.scene.requested
        && s.scene.requestAt == 2000)
    ∧ (valueTaken (shadowed 2) 2000 0x420001 [1] = true ∧ next (exec (.rayMapSwapRequest 2000 .internal) (shadowed 2)) fun s => s.get 0x420003 == 3)
    ∧ (valueTaken (shadowed 3) 2000 0x420001 [0] = true ∧ next (exec (.rayMapSwapWithdraw 2000 .internal) (shadowed 3))
        fun s => s.get 0x420003 == 2)
    ∧ (valueTaken running 2000 (surfaceK 63 1) [0] = true ∧ next (exec (.surfaceFormat 2000 .internal 63 0) running)
        fun s => s.get (surfaceK 63 1) == 0)
    ∧ (transferTaken (shadowed 2) 2000 0x420005 (leBytes 8 7) (leBytes 8 7) = true
        ∧ next (exec (.shadowEntries 2000 .internal (leBytes 8 7) true) (shadowed 2)) fun s => s.shadowEntryBytes == leBytes 8 7
        && s.activeEntries == List.replicate 8 1)
    ∧ (transferTaken (shadowed 2) 2000 0x420006 (leBytes 4 0 ++ leBytes 8 7) (leBytes 4 0 ++ leBytes 8 7) = true
        ∧ next (exec (.shadowEntryPatch 2000 .internal (leBytes 4 0 ++ leBytes 8 7) true) (shadowed 2)) fun s => s.shadowEntryBytes == leBytes 8 7)
    ∧ (valueTaken (shadowed 2) 2000 0x420007 [1] = true ∧ next (exec (.shadowCopyRequest 2000 .internal) (shadowed 2))
        fun s => s.shadowEntryBytes == List.replicate 8 1) := by
  decide +kernel

/-- The clause on 0x4200.04, with a geometry of 1,920 × 1,080 pixels behind a bulk header. -/
theorem test_shadowGeometry_taken :
    (transferTaken running 2000 0x420004 (leBytes 2 0x4442 ++ [0, 0] ++ leBytes 8 3136 ++ leBytes 4 (crc32c oneModule) ++ oneModule) oneModule = true)
    ∧ (next (exec (.shadowGeometry 2000 .internal (leBytes 2 0x4442 ++ [0, 0] ++ leBytes 8 3136 ++ leBytes 4 (crc32c oneModule) ++ oneModule) true) running)
        fun s => s.shadowGeometryBytes == oneModule) := by
  decide +kernel

theorem test_TicksAndLayerEventsAreTaken :
    ((running.begin 2000).tickNow = some { time := 0, number := 0, at_ := 0 }
        ∧ next (exec (.contentFrameTick 2000) running) fun s => s.net.lastTickLocal == some 0)
    ∧ (viewing.layerOn 7 = true ∧ ({ viewing with scene := { viewing.scene with layers := List.replicate 7 {} ++ [{ state := 2, notReadySince := some 5 }] } } : State).run 7 = { state := 2, notReadySince := some 5 }
        ∧ next (exec (.holdLimitExpiry 2000 7) { viewing with scene := { viewing.scene with layers := List.replicate 7 {} ++ [{ state := 2, notReadySince := some 5 }] } })
        fun s => (s.run 7).state == 3)
    ∧ (viewing.staleLimit 7 = some 20000000 ∧ next (exec (.layerStale 20000000 7) viewing) fun s => (s.run 7).stale
        && decide ((0xB, 2, 7) ∈ s.faults.standing))
    ∧ (((List.range 8).filter fun m => viewing.layerOn m && (viewing.layer m).kind == 2 && (viewing.layer m).colour == 3
        && viewing.safetyRegions.any fun r => r.bound == m) = [7]
        ∧ (viewing.begin 2000).pickVideo 7 (viewing.begin 2000).ptp = some (picture, none)
        ∧ next (exec (.safetyRerender 2000 3) viewing) fun s => nth s.media.shown 7 none == some picture && (s.run 7).state == 1)
    ∧ ((viewing.begin 2000).showsFrame 7 picture = false ∧ (viewing.begin 2000).targeted 2000 17 7 = false) := by
  decide +kernel

theorem test_CarversWorkAndAreChecked :
    (((claimed []).carver 0).working = true ∧ ((claimed []).carver 0).active = true ∧ (claimed []).nextBand = some (0, 0)
        ∧ 0 < (claimed []).get 0x25000A
        ∧ next (exec (.tileBandIssue 2000 0) (claimed [])) fun s => (s.carver 0).bands == 1 && (s.carver 0).band.any fun x => x.module == 0
        && x.row == 0)
    ∧ ((banded.carver 0).band.isSome = true ∧ next (exec (.tileBandComplete 2000 0 0 0) banded) fun s => (s.carver 0).band == none
        && s.get 0x250008 == 0)
    ∧ (next (exec (.tileBandComplete 2000 0 0 1) banded) fun s => s.get 0x250008 == 1)
    ∧ ((banded.carver 0).active = true ∧ banded.power.phase = .run ∧ banded.usable 9 = true)
    ∧ (next (exec (.carverFault 2000 0) banded) fun s => !(s.carver 0).working)
    ∧ (({ panel with regs := (0x410011, 1) :: panel.regs } : State).geometry.isSome = true
        ∧ ({ panel with regs := (0x410011, 1) :: panel.regs } : State).get 0x410011 ≠ 0)
    ∧ (next (exec (.witnessBufferComplete 2000) { panel with regs := (0x410011, 1) :: panel.regs, banks := { panel.banks with geometry := [[], []] } })
        fun s => s.get 0x410015 == 1 && s.media.witness.any fun w => w.width == 0) := by
  decide +kernel

theorem test_HousekeepingAndThePloughFollow :
    (next (exec (.housekeepingSlot 2000 31 70000) running) fun s => nth s.lift.readings 31 none == some 4464)
    ∧ (next (exec (.housekeepingSlot 2000 0 6431) running) fun s => nth s.lift.readings 0 none == some 6400)
    ∧ ((rounded [(0x211002, 6200)] 0x7000).ploughActs = true ∧ (rounded [(0x211002, 6200)] 0x7000).roundDone = true
        ∧ (rounded [(0x211002, 6200)] 0x7000).forced = false
        ∧ ((rounded [(0x211002, 6200)] 0x7000).validReadings.any fun v => decide ((rounded [] 0).geti 16 0x211003 ≤ v)) = true)
    ∧ (((rounded [(0x211002, 6200), (0x211001, 6500), (0x211004, 6000)] 0x100).validReadings.any fun v => decide ((rounded [] 0).geti 16 0x211003 ≤ v)) = false
        ∧ (rounded [(0x211002, 6200), (0x211001, 6500), (0x211004, 6000)] 0x100).get 0x211004 ≤ (rounded [(0x211002, 6200), (0x211001, 6500), (0x211004, 6000)] 0x100).get 0x211002
        ∧ (rounded [(0x211002, 6200), (0x211001, 6500), (0x211004, 6000)] 0x100).lift.clearSince + 16000000 ≤ max 1000 16000000
        ∧ next (exec (.ploughEvaluation 16000000) (rounded [(0x211002, 6200), (0x211001, 6500), (0x211004, 6000)] 0x100))
        fun s => s.get 0x211002 == 6500)
    ∧ (next (exec (.ploughEvaluation 2000) (rounded [(0x211002, 6200)] 0x7000)) fun s => s.get 0x211002 == 6000)
    ∧ (valueTaken running 2000 0x211001 (leBytes 2 6000) = true ∧ next (exec (.powerLimit 2000 .internal 6000) running)
        fun s => s.get 0x211002 == 6000 && s.get 0x211007 == 2) := by
  decide +kernel

theorem test_CompositingIsOpaqueAndOrderFree :
    ((compositeLoop [⟨1, 0, 9, 65536, 65536⟩, ⟨2, 0, 7, 65536, 65536⟩] 0 65536).2 = 0) := by
  decide +kernel

theorem test_LightBecomesItsCode :
    (colourOf 1 0 = 2 ∧ applyGain 65535 32768 = 65535 ∧ linkCode 0 [] ≤ 1023) := by
  decide +kernel

theorem test_LinksTrainAndLanesAreKept :
    (next (exec (.linkTraining 2000 0xFFFF (List.replicate 16 0)) { atStage 0xA .starting with link := { step := 1 } }) fun s => s.link.trained
        && s.get 0x480002 == 16 && s.get 0x480001 == 1 && s.link.claiming == some 1)
    ∧ (((List.range 18).filter fun l => bitOf 0xFFFF l && !bitOf (running.get 0x480004) l).length = 16)
    ∧ (next (exec (.linkTraining 2000 0x3FFFF (List.replicate 16 0)) { member 2 [] with stages := setNth running.stages 0xA .starting, link := { step := 1 } })
        fun s => s.link.trained && s.get 0x480001 == 3 && decide (Out.orderedSet false 3 0 0 ∈ s.out))
    ∧ (next (exec (.trainingStepTimeout 2000 7) { atStage 0xA .starting with link := { step := 6 } }) fun s => s.link.step == 1
        && s.link.fails == [2000])
    ∧ (next (exec (.trainingStepTimeout 2000 1) { atStage 0xA .starting with link := { step := 1, fails := [1, 2] } }) fun s => s.get 0x480001 == 5
        && s.faults.resetRequested)
    ∧ (next (exec (.retrain 2000 .deskewLost) linked) fun s => !s.link.trained && s.get 0x480001 == 4 && s.get 0x480013 == 1)
    ∧ (linked.linkUp = true ∧ next (exec (.deskewSet 2000) (linkedWith [] { deskew := 255 })) fun s => s.link.deskew == 0
        && decide (Out.orderedSet false 1 255 255 ∈ s.out))
    ∧ (next (exec (.idleRefresh 2000) { linked with regs := [(0x201005, 5), (0x480001, 3)] })
        fun s => s.out.count (.orderedSet false 4 0 0) == 2)
    ∧ (next (exec (.deskewSet 2000) (linkedWith [] { nextMap := some [4, 17] })) fun s => s.link.map == [4, 17] && s.scalarView 0x480003 == 2 ^ 17 + 16)
    ∧ (next (exec (.deskewSet 2000) (linkedWith [] { setsAhead := 2 })) fun s => s.link.setsAhead == 1)
    ∧ (next (exec (.idleRefresh 2000) { linkedWith [] { nextMap := some [4, 17] } with regs := [(0x201005, 5), (0x480001, 3)] })
        fun s => s.link.map == [4, 17] && s.link.nextMap == none)
    ∧ (next (exec (.laneRetire 2000 17 .lockLost) linked) fun s => s.get 0x480004 == 2 ^ 17)
    ∧ ((member 2 []).standby = true ∧ next (exec (.laneLoopback 2000 0 false) { member 2 [] with link := { trained := true } })
        fun s => bitOf (s.get 0x480004) 0 && !s.pair.loopbackClean)
    ∧ (next (exec (.claim 2000) { linked with regs := [(0x201005, 5), (0x480001, 3), (0x48000D, 6)] }) fun s => s.link.claiming == some 7
        && s.link.retry.any fun p => p.kind == 6 && p.epoch == 7) := by
  decide +kernel

theorem test_UpstreamPacketsAreTaken :
    (upCrcOk (0 :: quiet 0x82 7 []) = false ∧ quietPacket 0x82 (quiet 0x82 7 []) = true ∧ (upHeader (quiet 0x82 7 [])).sequence = 7
        ∧ (upHeader (quiet 0x83 7 [5])).tag = 3 ∧ upPayload (quiet 0x83 7 [5]) = [5])
    ∧ (next (exec (.nak 2000 ⟨0 :: quiet 0x82 7 [], false⟩) (linkedWith [(0x480011, 0xFFFFFFFF)] {})) fun s => s.get 0x480011 == 0)
    ∧ (next (exec (.readResponse 2000 [] false) linked) fun s => s.get 0x480011 == 1)
    ∧ (next (exec (.status 2000 ⟨[], true⟩ 0 []) linked) fun s => s.get 0x480011 == 0)
    ∧ (next (exec (.ack 2000 ⟨quiet 0x81 7 [], false⟩) (linkedWith [] { retry := [unacked 5] })) fun s => s.link.retry == [])
    ∧ (next (exec (.ack 2000 ⟨quiet 0x81 7 [], false⟩) (linkedWith [(0x480001, 3)] { retry := [{ unacked 6 with epoch := 9 }], claiming := some 9 }))
        fun s => s.link.retry == [] && s.get 0x48000C == 9 && s.get 0x480001 == 2 && s.link.claiming == none)
    ∧ (next (exec (.ack 2000 ⟨quiet 0x81 7 [], false⟩) (sentTile true)) fun s => s.ownerOf 0 == some { claim0 [] with state := .staged, atomic := true })
    ∧ (next (exec (.ack 2000 ⟨quiet 0x81 7 [], false⟩) (sentTile false)) fun s => s.get 0x410018 == 384
        && s.ownerOf 0 == some { claim0 [] with rect := 1 })
    ∧ (next (exec (.nak 2000 ⟨quiet 0x82 7 [], false⟩) (linkedWith [] { retry := [unacked 5] })) fun s => s.get 0x480010 == 1
        && s.link.retry == [{ unacked 5 with sends := 2, sentAt := 2000 }] && decide (Out.maelwin (unacked 5).bytes ∈ s.out))
    ∧ (next (exec (.retryTimeout 20000) (linkedWith [] { retry := [unacked 5] })) fun s =>
        s.link.retry == [{ unacked 5 with sends := 2, sentAt := 20000 }] && decide (Out.maelwin (unacked 5).bytes ∈ s.out))
    ∧ (next (exec (.retryTimeout 20000) (linkedWith [] { retry := [unacked 5, { unacked 5 with seq := 8, sends := 4 }] })) fun s =>
        s.get 0x480001 == 4 && !s.link.trained && s.link.retry.length == 2)
    ∧ (next (exec (.readResponse 2000 (quiet 0x83 7 ([0x11, 0x21, 0, 0] ++ leBytes 8 5)) false) (linkedWith [] { reads := [read3] }))
        fun s => s.link.reads == [] && s.link.modules == 5 && s.get 0x48000F == 17)
    ∧ (next (exec (.readTimeout 100000 3) (linkedWith [] { reads := [read3] })) fun s => s.link.reads.any fun x => x.tag == 3 && x.tries == 2)
    ∧ (next (exec (.readTimeout 100000 3) (linkedWith [] { reads := [{ read3 with tries := 2 }] })) fun s => s.link.reads == [])
    ∧ (next (exec (.status 2000 ⟨quiet 0x84 7 [], false⟩ 0x1FFFF (List.replicate 18 0)) (linkedWith [] { map := [17] })) fun s => bitOf (s.get 0x480004) 17
        && s.link.laneReports.length == 1) := by
  decide +kernel

theorem test_OwnershipLostEndsSending :
    (linked.acting = true ∧ linked.get 0x480001 = 2 ∧ next (exec (.status 2000 ⟨upPacket 0x84 1 7 16 0 [], false⟩ 0 []) linked) fun s => s.get 0x480001 == 3
        && !s.linkUp && s.faults.queue.any fun f => f.fn == 0xA && f.cause == 5 && !f.cleared)
    ∧ (bitOf 15 4 = false ∧ next (exec (.status 2000 ⟨upPacket 0x84 0 7 15 0 [], false⟩ 0 []) { member 1 [] with regs := [(0x201005, 5), (0x230001, 1), (0x480001, 2)], link := { trained := true } })
        fun s => s.get 0x480001 == 3 && s.pair.role == 2) := by
  decide +kernel

theorem test_RectanglesAreSentAndPresented :
    (panel.linkUp = true ∧ panel.mapServes = true ∧ panel.modulePresent 0 = true ∧ panel.moduleTiles 0 0 0 1 1 = [0] ∧ panel.ownerOf 0 = none
        ∧ panel.freeNumber (panel.classOf 0) = some 0)
    ∧ (next (exec (.rectangleAllocate 2000 0 0 0 1 1) panel) fun s => s.link.rects.any (fun r => r.no == 0 && r.columns == 1)
        && s.link.claims.any (fun c => c.tile == 0 && c.state == .queued) && s.scene.changed == [])
    ∧ ((claimed [1]).rectOf 0 = some rect0 ∧ (claimed [1]).ownerOf 0 = some (claim0 [1]) ∧ (claimed [1]).updateBlocked 0 = false
        ∧ (claimed [1]).canSend (tilePayload 1 [1]).length = true)
    ∧ (next (exec (.update 2000 0 0 0 1) (claimed [1])) fun s => packetGone 1 0 0 (tilePayload 1 [1]) s
        && s.link.claims.any (fun d => d.state == .sent) && lookup 0 s.care.expected == some (tileChecksum (tileHeld 1 [1])))
    ∧ ((atomically [1]).updateBlocked 0 = false ∧ next (exec (.update 2000 0 0 0 1) (atomically [1])) fun s => packetGone 1 0 0 (tilePayload 1 [1]) s
        && s.link.claims.any (fun d => d.state == .sent && d.atomic) && lookup 0 s.care.expected == none)
    ∧ (linked.canSend 92 = true ∧ linked.holdsBack linked.nextPresent = false
        ∧ next (exec (.present 2000) linked) (packetGone 2 0xFF linked.nextPresent []))
    ∧ (next (exec (.present 2000) (linkedWith [(0x490001, 1), (0x285004, 6)] { atomic := true, toPresent := [5, 6], fallenBack := [0] }))
        fun s => packetGone 2 0xFF 5 [] s && s.link.toPresent == [6] && s.link.fallenBack == [])
    ∧ (next (exec (.discardStaged 2000 0xFF) (linkedWith [] { claims := [{ claim0 [] with state := .staged }], rects := [rect0] }))
        fun s => packetGone 5 0xFF 1 [] s && s.link.claims.all fun c => c.state != .staged) := by
  decide +kernel

theorem test_ReadsAndControlsAreSent :
    (linked.canSend 0 = true ∧ next (exec (.readHubCapabilities 2000) linked) (readGone 1 0xFF 0))
    ∧ (next (exec (.readModuleStatus 2000 63) linked) (readGone 2 63 0))
    ∧ (next (exec (.readTile 2000 63 119 134) linked) (readGone 3 63 (119 + 128 * 134)))
    ∧ (next (exec (.readWindowChecksum 2000 63 15) linked) (readGone 0x10 63 15))
    ∧ (next (exec (.readSenseResult 2000 63) linked) (readGone 0x11 63 0))
    ∧ (next (exec (.readModuleEvent 2000 63) linked) (readGone 0x12 63 0))
    ∧ (linked.canSend 8 = true ∧ next (exec (.setWindow 2000 63 15 1 2 3 4) linked) (packetGone 5 63 (0x10 + 256 * 15) (leBytes 2 1 ++ leBytes 2 2 ++ leBytes 2 3 ++ leBytes 2 4)))
    ∧ ((driving { table := 7, offset := 0 }).canSend 16 = true ∧ next (exec (.driveTableChunk 2000 7 0 16) (driving { table := 7, offset := 0 }))
        fun s => packetGone 5 0xFF (0x11 + 256 * (2097152 * 7)) (List.replicate 16 5) s && s.loading == some { table := 7, offset := 16 })
    ∧ (next (exec (.driveTableCommit 2000 7) (driving { table := 7, offset := 16 }))
        fun s => packetGone 5 0xFF (0x12 + 256 * 7) (leBytes 4 16 ++ leBytes 4 (crc32c (List.replicate 16 5))) s)
    ∧ (next (exec (.presentationMode 2000 true) (linkedWith [(0x490001, 1)] {})) fun s => packetGone 5 0xFF (0x13 + 256) [] s && s.link.atomic)
    ∧ (next (exec (.startSensing 2000 63) linked) (packetGone 5 63 0x14 [])) := by
  decide +kernel

theorem test_LinkCommandsTouchTheLinkAlone :
    (next (exec (.setWindow 2000 63 15 1 2 3 4) linked) fun s => s.link.rects == linked.link.rects && s.media == linked.media
        && s.get 0x490003 == linked.get 0x490003) := by
  decide +kernel

theorem test_ModulesAreCaredFor :
    (contentTaken { running with link := { modules := 1 } } 2000 0x490007 (0 :: leBytes 2 119 ++ leBytes 2 134 ++ leBytes 2 1 ++ leBytes 2 1) = true
        ∧ next (exec (.checkRequest 2000 .internal (0 :: leBytes 2 119 ++ leBytes 2 134 ++ leBytes 2 1 ++ leBytes 2 1)) { running with link := { modules := 1 } })
        fun s => s.care.hostCheck == some (0, 119, 134, 1, 1))
    ∧ (linked.canSend 0 = true ∧ (({ linked with care := { linked.care with modules := setNth linked.care.modules 63 { band := 3 } } } : State).moduleCare 63).band ≠ 0xFF
        ∧ next (exec (.temperaturePoll 2000 63 (leBytes 8 0x0100)) { linked with care := { linked.care with modules := setNth linked.care.modules 63 { band := 3 } } })
        fun s => packetGone 4 63 2 [] s && (s.moduleCare 63).temperature == 0x100)
    ∧ (next (exec (.temperatureReportLost 1000000000 0) (linkedWith [] { modules := 1 })) fun s => (s.moduleCare 0).lost && s.stands 0xB 5 256)
    ∧ (transferTaken linked 2000 (0x490018 + 7) (List.replicate 64 0) (List.replicate 64 0) = (running.contentFits 0x49001F (List.replicate 64 0)))
    ∧ ((driving { table := 7, offset := 16, committedAt := some 5 }).loading = some { table := 7, offset := 16, committedAt := some 5 }
        ∧ next (exec (.driveTableVerify 2000 []) (driving { table := 7, offset := 16, committedAt := some 5 })) fun s => s.care.loads == [])
    ∧ (next (exec (.driveTableVerify 2000 [1]) { driving { table := 7, offset := 16, committedAt := some 5 } with link := { linked.link with modules := 1 } })
        fun s => s.loading == some { table := 7, offset := 0, retried := true })
    ∧ (running.standby = false ∧ (1000000001 - running.care.lastUpdate) / 1000000000 = 1 ∧ (running.care.levels.map (·.1)).Nodup)
    ∧ (valueTaken (linkedWith [] { modules := 2 ^ 63 }) 2000 0x490039 [63] = true
        ∧ next (exec (.senseRequest 2000 .internal 63) (linkedWith [] { modules := 2 ^ 63 })) fun s => s.care.sensing == some (63, 2000)
        && packetGone 5 63 0x14 [] s)
    ∧ (next (exec (.senseResultRead 20001000 []) { linked with care := { linked.care with sensing := some (63, 1000) } })
        fun s => s.care.sensing == none && s.get 0x49003B == 3) := by
  decide +kernel

theorem test_CamerasTakeFrames :
    (valueTaken running 2000 (camK 7 0 1) [1] = true ∧ next (exec (.portEnable 2000 .internal 7 1) running) fun s => s.camOn 7
        && s.get (camK 7 0 0x11) == 1 && (s.cam 7).enabledAt == 2000)
    ∧ (valueTaken (camera { frame := some frame0 }) 2000 (camK 7 0 1) [0] = true
        ∧ next (exec (.portEnable 2000 .internal 7 0) (camera { frame := some frame0 })) fun s => !s.camOn 7 && s.get (camK 7 0 0x12) == 0xFF
        && (s.cam 7).frame == none)
    ∧ ((camera {}).camOn 7 = true ∧ ((camera {}).cam 7).frame = none)
    ∧ (([0, 1, 2].find? fun e => imageTypes.contains 0x2C && (camera {}).selected 7 e == (0, 0x2C)) = some 0
        ∧ nth frame0.seen 0 0 < (camera {}).inHeight 7 ∧ (List.replicate 1920 1).length = (camera {}).inWidth 7)
    ∧ (next (exec (.lineReceive 2000 7 0 0x2C 0 true (List.replicate 1920 1)) (camera { frame := some frame0 }))
        fun s => (s.cam 7).frame.any fun f => f.rows == [(0, 0, some (List.replicate 1920 1))])
    ∧ (next (exec (.frameEnd 2000 7) (camera { frame := some frame0 })) fun s => (s.cam 7).frame == none && nth (s.cam 7).errors 0 0 == 1)
    ∧ (2 * frame0.frameStartLocal + 3 * (camera {}).period 7 ≤ 2 * 25002000
        ∧ next (exec (.frameEndTimeout 25002000 7) (camera { frame := some frame0 })) fun s => (s.cam 7).frame == none
        && nth (s.cam 7).errors 0 0 == 1)
    ∧ (((camera { raw := [frame0], processing := true }).cam 7).raw = [frame0] ∧ (camera {}).usable 4 = true
        ∧ next (exec (.ispFrameComplete 2000 ⟨7, 1⟩) (camera { raw := [frame0], processing := true })) fun s => s.get 0x250008 == 1)
    ∧ (next (exec (.ispPipelineFail 2000 3) running) fun s => nth s.media.pipelines 3 true == false && s.get 0x250007 == 2) := by
  decide +kernel

theorem test_LostPortsAreToldAndCleared :
    ((camera {}).camOn 7 = true ∧ ((camera {}).cam 7).lastSeenLocal + 3 * (camera {}).period 7 ≤ 60000000 ∧ (camera {}).stands 4 3 7 = false
        ∧ next (exec (.portLost 60000000 7) (camera {})) fun s => s.get (camK 7 0 0x11) == 3 && s.stands 4 3 7
        && s.faults.queue.any fun f => f.fn == 4 && f.cause == 3)
    ∧ ((({ camera {} with faults := { State.reset.faults with standing := [(4, 3, 7)], queue := [{ fn := 4, cause := 3, cls := 1, seq := 1 }] } } : State).faults.standing.filter fun x => x.1 == 4
        && x.2.1 == 3) = [(4, 3, 7)] ∧ (({ camera {} with faults := { State.reset.faults with standing := [(4, 3, 7)], queue := [{ fn := 4, cause := 3, cls := 1, seq := 1 }] } } : State).faults.queue.filter fun g => g.fn == 4
        && g.cause == 3 && !g.cleared).length = 1) := by
  decide +kernel

theorem test_ControlBusesServe :
    (contentTaken running 2000 (camK 7 0x30 1) [1, 16, 2, 5, 1, 1, 9] = true ∧ running.get (camK 7 0 0x0A) = 3
        ∧ next (exec (.cciWrite 2000 .internal 7 [1, 16, 2, 5, 1, 1, 9]) running) fun s => s.get (camK 7 0x30 3) == 1
        && (s.master 3).running.any fun j => j.address == 0x105 && j.data == [9])
    ∧ (contentTaken (busy { running := some cci0 }) 2000 (camK 6 0x30 1) [2, 16, 2, 5, 1, 64] = true
        ∧ next (exec (.cciRead 2000 .internal 6 [2, 16, 2, 5, 1, 64]) (busy { running := some cci0 })) fun s => s.get (camK 6 0x30 3) == 1
        && (s.master 3).queue.any fun j => j.read && j.length == 64)
    ∧ (next (exec (.cciTransactionComplete 2000 3 true [8, 9]) (busy { running := some cci0 })) fun s => s.get (camK 5 0x30 3) == 2
        && s.dom (camK 5 0x30 2) == [8])
    ∧ (next (exec (.cciTransactionComplete 2000 3 false []) (busy { running := some cci0 })) fun s => s.get (camK 5 0x30 3) == 3)
    ∧ (next (exec (.cciWriteDeadline 2000 7) (camera { jobs := [late0] })) fun s => s.get (camK 7 0x20 5) == 1
        && (s.cam 7).jobs == [{ late0 with late := true }])
    ∧ (next (exec (.cciBusStuck 2000 3) (busy { running := some cci0 })) fun s => (s.master 3).stuck && (s.master 3).running == none
        && s.stands 4 5 3)
    ∧ (next (exec (.cciBusRecovery 2000 3 true) (busy { stuck := true })) fun s => !(s.master 3).stuck && !s.stands 4 5 3) := by
  decide +kernel

theorem test_SlalomSearches :
    ((up [(camK 6 0 1, 1), (camK 7 0 1, 1)]).pairOn 3 = false ∧ valueTaken (up [(camK 6 0 1, 1), (camK 7 0 1, 1)]) 2000 (pairK 3 1) [1] = true)
    ∧ (valueTaken (paired3 1 {}) 2000 (pairK 3 1) [0] = true ∧ next (exec (.pairEnable 2000 .internal 3 0) (paired3 1 { rowsDone := 1 }))
        fun s => !s.pairOn 3 && s.stereo 3 == {})
    ∧ ((paired3 1 {}).pairOn 3 = true ∧ 0 + 1 < blocksY { picture with height := 8 } ∧ 0 < (paired3 1 {}).enginesUp)
    ∧ (next (exec (.stereoRowSearch 2000 ⟨3, 0⟩ 0) (paired3 1 { ref := some { picture with width := 0, height := 8 }, partner := some picture }))
        fun s => (s.stereo 3).rowsDone == 1 && (s.stereo 3).ref == some { picture with width := 0, height := 8 })
    ∧ (next (exec (.stereoFrameAbandon 2000 3) (paired3 1 { next := some (picture, picture, true), rowsDone := 1 }))
        fun s => (s.stereo 3).ref == some picture && (s.stereo 3).rowsDone == 0 && s.get 0x380006 == 1)
    ∧ ((paired3 1 {}).stereoFirst 3 = true
        ∧ next (exec (.stereoRowSearch 2000 ⟨3, 1⟩ 0) (paired3 1 { ref := some picture, partner := some picture })) fun s => s.get 0x250008 == 1)
    ∧ ((moving.nextSource 23).map (·.1.seq) = some picture.seq ∧ (moving.stream 23).motionFor = some (1, 1) ∧ moving.motionFirst 23 = true
        ∧ (motionBlocks picture)[0]? = some (0, 0) ∧ 0 < moving.enginesUp ∧ moving.usable 5 = true)
    ∧ (next (exec (.slalomEngineFail 2000 1) { running with media := { running.media with engines := [false, true] } }) fun s => s.enginesUp == 0
        && nth s.stages 5 .off == .failed) := by
  decide +kernel

theorem test_StreamsAreCodedAndSealed :
    (valueTaken (streaming 0 {}) 2000 (streamK 23 1) [1] = true)
    ∧ (valueTaken (streaming 2 {}) 2000 (streamK 23 1) [0] = true ∧ (streaming 2 {}).get (streamK 23 2) = 1
        ∧ next (exec (.streamDisable 2000 .internal 23) (streaming 2 { open_ := true })) fun s => s.get (streamK 23 0x10) == 3
        && (s.stream 23).closing && (s.stream 23).unsealed.length == 1)
    ∧ (next (exec (.streamDisable 2000 .internal 23) { streaming 2 {} with regs := (streamK 23 2, 2) :: (streaming 2 {}).regs })
        fun s => s.get (streamK 23 0x10) == 0)
    ∧ ((streaming 2 {}).running 23 = true ∧ (streaming 2 {}).standby = false ∧ (streaming 2 {}).nextSource 23 = some (picture, false)
        ∧ ({ header := 8, ctus := [8], slice := [0] } : Core).fits picture = true)
    ∧ (next (exec (.sealMake 2000 ⟨23, false⟩) (streaming 0 { unsealed := [(List.replicate 88 0, 1000)] })) fun s => (s.stream 23).unsealed == [])
    ∧ (((streaming 2 { unsealed := [(List.replicate 88 0, 1000)] }).stream 23).unsealed = (List.replicate 88 0, 1000) :: [])
    ∧ (next (exec (.sealDeadline 20001000 23) (streaming 2 { unsealed := [(List.replicate 88 0, 1000)] })) fun s => s.stands 6 3 23)
    ∧ (nth (streaming 2 { core := 1 }).media.codec.encCores 1 false = true ∧ (streaming 2 { core := 1 }).running 23 = true
        ∧ ((streaming 2 { core := 1 }).stream 23).core = 1) := by
  decide +kernel

theorem test_SlotsAreDecoded :
    (valueTaken (decoding 0 {}) 2000 (slotK 31 1) [1] = true ∧ next (exec (.slotEnable 2000 (.can 0) ⟨31, false⟩ 1) { decoding 0 {} with regs := (0x203001, 1) :: (decoding 0 {}).regs })
        fun s => s.out.any (fun o => o == .answer (.can 0) (0x580 + s.nodeId) 0x08000022 []) && !s.slotOn 31)
    ∧ (valueTaken (decoding 2 {}) 2000 (slotK 31 1) [0] = true ∧ next (exec (.slotEnable 2000 .internal ⟨31, true⟩ 0) (decoding 2 { overruns := 1 }))
        fun s => !s.slotOn 31 && s.get (slotK 31 8) == 0 && s.slot 31 == {})
    ∧ ((decoding 2 {}).receives ⟨0, 0xFFFFFFFFFFFF, 1518, false⟩ = true ∧ (decoding 2 {}).avtpAccepted (video 77) [1] = true ∧ ((List.range 32).find? fun j => (decoding 2 {}).slotOn j
        && (decoding 2 {}).get (slotK j 2) == 77) = some 31)
    ∧ (next (exec (.avtpReceive 2000 ⟨0, 0xFFFFFFFFFFFF, 1518, false⟩ (video 77) 5 0 true []) (decoding 2 { lastSeqs := [5] })) fun s => s.get 0x284007 == 1)
    ∧ (next (exec (.avtpReceive 2000 ⟨0, 0xFFFFFFFFFFFF, 1518, false⟩ (video 77) 6 0 false [1]) (decoding 2 { lastSeqs := [5] })) fun s => (s.slot 31).lastSeqs.getLast? == some 6)
    ∧ (next (exec (.avtpReceive 2000 ⟨0, 0xFFFFFFFFFFFF, 1518, false⟩ (video 78) 6 0 false [1]) (decoding 2 {})) fun s => s.net.unmatched == 1)
    ∧ ((decoding 2 {}).slotRuns 31 = true ∧ unit0.event = .clean ∧ (decoding 2 {}).badSps 31 unit0 = false ∧ unit0.takes ≤ (decoding 2 {}).cycleBudget 31
        ∧ (decoding 2 {}).cycleBudget 31 < 100000000 ∧ (decoding 2 {}).get (slotK 31 3) ≠ 3)
    ∧ (next (exec (.pictureDecode 2000 31 { unit0 with irap := false, rasl := true }) (decoding 2 { rasl := true, resync := false, units := [⟨5, false, [1]⟩] }))
        fun s => s.get (slotK 31 0x0C) == 1)
    ∧ (10000000000 ≤ (decoding 2 {}).get (slotK 31 6) * 200000000 ∧ next (exec (.slotStarved 200000000 31) (decoding 2 {}))
        fun s => s.get (slotK 31 8) == 4 && s.stands 7 5 31)
    ∧ (nth (decoding 2 {}).media.codec.decCores 0 false = true ∧ (decoding 2 {}).slotRuns 31 = true ∧ ((decoding 2 {}).slot 31).core = 0) := by
  decide +kernel

theorem test_HostJobsAreDone :
    (transferTaken running 2000 0x3C0008 [7] [7] = true ∧ running.get 0x3C0004 = 1 ∧ next (exec (.hostJobCompress 2000 .internal [7]) running)
        fun s => s.get 0x3C0007 == 1 && s.media.groomer.job == some { compress := true, level := 1, size := 1, input := [7] })
    ∧ (transferTaken (up [(0x3C0004, 2)]) 2000 0x3C0008 [7] [7] = true ∧ next (exec (.hostJobDecompress 2000 .internal [7]) (up [(0x3C0004, 2)]))
        fun s => s.media.groomer.job == some { compress := false, level := 1, size := 1, input := [7] })
    ∧ (running.groomerRuns = true ∧ running.beaconJob = none ∧ running.intakeWaits = false ∧ running.get 0x211007 ≠ 2)
    ∧ (next (exec (.groomerJobComplete 2000 ⟨3, []⟩) { running with media := { running.media with groomer := { job := some { compress := false, level := 1, size := 1, input := looseEncodeWith 1 1 [0] [7] } } } })
        fun s => s.get 0x3C0007 == 2 && s.dom 0x3C0009 == [7])
    ∧ (next (exec (.groomerJobComplete 2000 ⟨3, []⟩) { running with media := { running.media with groomer := { job := some { compress := false, level := 1, size := 1, input := [7] } } } })
        fun s => s.get 0x3C0007 == 4) := by
  decide +kernel

theorem test_OneBlitListRunsInOrder :
    (transferTaken { blitting [] with regs := (0x430002, 0) :: (blitting []).regs } 2000 0x430001 (leBytes 2 0x4C42 ++ [1, 0] ++ leBytes 2 1 ++ [0, 0] ++ fillBytes) (leBytes 2 0x4C42 ++ [1, 0] ++ leBytes 2 1 ++ [0, 0] ++ fillBytes) = true)
    ∧ (next (exec (.blitList 2000 .internal (leBytes 2 0x4C42 ++ [1, 0] ++ leBytes 2 1 ++ [0, 0] ++ fillBytes)) { blitting [] with regs := (0x430002, 0) :: (blitting []).regs })
        fun s => s.get 0x430002 == 1 && s.media.blitter == { list := [fillBytes] })
    ∧ ((blitting fillBytes).gate 0x430001 true = 0 ∧ (blitting fillBytes).held 0x430001 = false
        ∧ next (exec (.blitList 2000 (.can 0) fillBytes) { blitting fillBytes with regs := (0x203001, 1) :: (blitting fillBytes).regs })
        fun s => decide (Out.answer (.can 0) (0x580 + running.nodeId) 0x08000022 [] ∈ s.out))
    ∧ (next (exec (.fill ⟨2000, 0⟩) (blitting fillBytes)) fun s => s.media.blitter == {} && s.get 0x430002 == 3)
    ∧ (next (exec (.blitList 2000 .internal (leBytes 2 0x4C42 ++ [1, 0] ++ leBytes 2 1 ++ [0, 0] ++ waitBytes)) { blitting [] with regs := (0x430002, 0) :: (blitting []).regs })
        fun s => s.get 0x430002 == 3 && (s.dom 0x430004).drop 8 == List.replicate 8 0 ++ [1] ++ List.replicate 7 0)
    ∧ ((blitOf waitBytes).op = 3 ∧ (blitting []).flatRuns (blitOf waitBytes).wait = false) := by
  decide +kernel

theorem test_BlitsDraw :
    ((blitting fillBytes).blit.any (fun c => c.op == 2 && c.dst == 1 && c.chase == 0xFF && c.dstW == 2 && c.dstH == 1) = true)
    ∧ (next (exec (.fill ⟨2000, 0⟩) (blitting fillBytes)) fun s => s.dom (surfaceK 1 4) == [255, 255, 255, 255] && s.get (surfaceK 1 5) == 1)
    ∧ ((blitting copyBytes).blit.any (fun c => c.op == 1 && c.src == 0 && c.dst == 1) = true ∧ next (exec (.copy ⟨2000, 0⟩) (blitting copyBytes))
        fun s => s.dom (surfaceK 1 4) == [1, 2, 3, 4])
    ∧ ((scanning waitBytes).blit.any (fun c => c.op == 3 && c.wait == 1 && c.mark == 4) = true ∧ (scanning waitBytes).flatRuns 1 = true
        ∧ next (exec (.waitLine 2000 4) (scanning waitBytes)) fun s => (s.dom 0x430004).drop 16 == List.replicate 8 0)
    ∧ (next (exec (.blitterFault 2000) (blitting fillBytes)) fun s => s.get 0x430007 == 0 && s.get 0x430002 == 4) := by
  decide +kernel

theorem test_FlatOutputsFollow :
    (valueTaken (flat1 0 { hpd := true }) 2000 (flatK 1 1) [1] = true
        ∧ next (exec (.outputEnable 2000 .internal 1 1 true) (flat1 0 { hpd := true })) fun s => s.flatState 1 == 3)
    ∧ (next (exec (.outputEnable 2000 .internal 1 1 true) (flat1 0 {})) fun s => s.flatState 1 == 1)
    ∧ (valueTaken (flat1 3 {}) 2000 (flatK 1 1) [0] = true ∧ next (exec (.outputEnable 2000 .internal 1 0 true) (flat1 3 {}))
        fun s => s.flatState 1 == 0)
    ∧ (next (exec (.flatTrainingRetry 2000 1 false) (flat1 5 { retryAt := some 2000, hpd := true })) fun s => s.flatState 1 == 5
        && (s.flat 1).retryAt == some 1000002000 && s.stands 0xC 3 1)
    ∧ (next (exec (.hpdChange 2000 1 false true) (flat1 3 { hpd := true })) fun s => s.flatState 1 == 1 && s.stands 0xC 4 1)
    ∧ (next (exec (.hpdChange 2000 1 true false) (flat1 1 {})) fun s => s.flatState 1 == 5 && (s.flat 1).hpd)
    ∧ (((flat1 4 { resumeAt := 2001 }).begin 2000).flatScans 1 = true
        ∧ next (exec (.irqHpd 2000 1 true true) (flat1 4 { hpd := true, resumeAt := 2001 })) fun s => s.flatState 1 == 4
        && (s.flat 1).trained)
    ∧ (valueTaken (flat1 3 {}) 2000 (flatK 1 0x0A) [1] = true ∧ next (exec (.scanCommit 2000 .internal 1) (flat1 3 {}))
        fun s => (s.flat 1).scanCommit)
    ∧ (valueTaken (flat1 3 {}) 2000 (flatK 1 5) [1] = true ∧ next (exec (.timingCommit 2000 .internal 1) (flat1 3 {}))
        fun s => (s.flat 1).timingCommit)
    ∧ (next (exec (.scanLatch 2000 1) (flat1 3 { scanCommit := true })) fun s => s.flatState 1 == 3 && !(s.flat 1).scanCommit
        && s.get (flatK 1 0x0E) == 1)
    ∧ (next (exec (.timingApply 2000 1) { flat1 3 { timingReady := true, timingCommit := true } with pendD := [(flatK 1 4, List.replicate 24 1)] })
        fun s => s.dom (flatK 1 4) == List.replicate 24 1 && !(s.flat 1).timingCommit)
    ∧ (next (exec (.underrunLine 2000 1 ⟨4095, 3839⟩) (flat1 3 {})) fun s => s.get (flatK 1 0x10) == 1 && (s.flat 1).underrunInFrame
        && s.sentComponent 1 4095 3839 0 == 0) := by
  decide +kernel

/-- A state whose row selections come from a seed of its own. -/
def seeded (s : State) : State := { s with memory := { s.memory with channels := s.memory.channels.map fun c => { c with lfsr := some 1 } } }
/-- Two ranks with row 3 of bank 7 open. -/
def copying : State := seeded ((ranked { state := 4, open_ := [(7, 3, 2000)] }).setRank 30 { state := 5, open_ := [(7, 3, 2000)] })
/-- The spare rank 31 is the next that the scrub reads. -/
def sparing : State := let s := seeded (ranked { state := 3 }); { s with memory := { s.memory with scrubAt := (31, 0, 2047) } }

theorem test_MemoryIsKept :
    (((ranked { state := 2 }).readWord 31 0 2047 wrong1).1 = .corrected true ∧ (ranked { state := 2 }).served = true ∧ wrong1.length = 36
        ∧ 0 < chunksPerRank (running.get 0x240001)
        ∧ next (exec (.dramAccess 2000 .other 31 0 2047 ⟨none, true⟩ wrong1) (seeded (ranked { state := 2 }))) fun s => s.get 0x24000C == 1)
    ∧ (((ranked { state := 2, marked := 1 }).readWord 31 0 0 wrong3).1 = .uncorrectable ∧ privileged .other = false ∧ running.copiesOf ⟨31, 0⟩ = none)
    ∧ (next (exec (.dramAccess 2000 .other 31 0 2047 ⟨some (0, List.replicate 32 7), false⟩ []) (seeded (ranked { state := 2, poweredDown := true })))
        fun s => !(s.rank 31).poweredDown && !s.isPoison 31 0 2047 && decide (Out.dramWrite 31 0 2047 (List.replicate 32 7) ∈ s.out))
    ∧ (next (exec (.migrationChunkCopy ⟨2000, []⟩) { copying with memory := { copying.memory with migration := some ⟨31, 30, 7⟩, poison := [(31, 7, 5)] } })
        fun s => s.memory.migration == some ⟨31, 30, 8⟩ && s.isPoison 30 7 5)
    ∧ (chunksPerRank (running.get 0x240001) = 7281 ∧ 7280 + 1 = chunksPerRank (running.get 0x240001))
    ∧ (next (exec (.mr4Poll 2000 31 15 0) (ranked { state := 2 })) fun s => (s.rank 31).mr4 == 7 && s.stands 2 7 31)
    ∧ (next (exec (.refresh 2000 31 false) (ranked { state := 2, postponed := 8 })) fun s => (s.rank 31).postponed == 0
        && decide (Out.dram 15 1 0 ∈ s.out))
    ∧ (next (exec (.refresh 2000 31 true) (ranked { state := 2, postponed := 7 })) fun s => (s.rank 31).postponed == 8)
    ∧ (next (exec (.refresh 2000 31 true) (ranked { state := 2, postponed := 8 })) fun s => (s.rank 31).postponed == 0)
    ∧ (next (exec (.dramAccess 2000 .other 31 0 2047 ⟨some (0, List.replicate 32 7), false⟩ [])
        { copying with memory := { copying.memory with migration := some ⟨31, 30, 7⟩ } })
        fun s => !(s.rank 31).poweredDown && !(s.rank 30).poweredDown)
    ∧ (((ranked { state := 2 }).begin 2000).rankIdle 31 = true
        ∧ next (exec (.powerDownEntry 2000 31) (ranked { state := 2, open_ := [(1, 2, 3)] }))
        fun s => (s.rank 31).poweredDown && (s.rank 31).open_ == [])
    ∧ (sparing.memory.migration = none ∧ sparing.get 0x211007 ≠ 2 ∧ (sparing.begin 2000).scrubDue 31 0 2047 = true)
    ∧ (((sparing.rankState 31 2).begin 2000).scrubDue 31 0 2047 = true
        ∧ next (exec (.patrolScrub 2000 31 0 2047 wrong1) (sparing.rankState 31 2)) fun s => s.get 0x24000C == 1)
    ∧ (((atStage 2 .starting).fitted 15).zipIdx.all (fun p => nth [4, 4] p.2 0 == running.get 0x240001) = true
        ∧ next (exec (.channelTraining 2000 15 true ⟨[4, 4], [9, 9], 0x1900⟩) (atStage 2 .starting)) fun s => (s.channel 15).trained
          && (s.channel 15).baseline == 0x1900)
    ∧ (next (exec (.channelTraining 2000 15 false ⟨[], [], 0⟩) (atStage 2 .starting)) fun s => (s.channel 15).attempts == 1)
    ∧ (next (exec (.channelTraining 2000 15 false ⟨[], [], 0⟩) { chan { attempts := 1 } with stages := setNth running.stages 2 .starting })
        fun s => (s.channel 15).excluded)
    ∧ (next (exec (.driftRecentre 2000 15 65535 true) (chan { trained := true, retryAt := some 2001 })) fun s => (s.channel 15).temperature == 65535)
    ∧ (running.get 0x240009 * 256 ≤ (signed 16 0x3000 - signed 16 0).natAbs
        ∧ next (exec (.driftRecentre 2000 15 0x3000 true) (chan { trained := true, baseline := 0 })) fun s => (s.channel 15).baseline == 0x3000)
    ∧ (next (exec (.driftRecentre 2000 15 0x3000 false) (chan { trained := true, baseline := 0 })) fun s => s.get 0x240013 == 1
        && (s.channel 15).retryAt == some 1000002000)
    ∧ (next (exec (.recentreRetry 2000 15 true) (chan { trained := true, baseline := 0, temperature := 7, retryAt := some 2000 }))
        fun s => (s.channel 15).retryAt == none && (s.channel 15).baseline == 7)
    ∧ (SramFinding.ok { pool := 5, macroNo := 319, row := 4095, corrections := 2, double := false } = true
        ∧ next (exec (.sramScrub 2000 [{ pool := 5, macroNo := 319, row := 4095, corrections := 2, double := false }]) running)
        fun s => nth s.memory.corrections 5 0 == 2) := by
  decide +kernel

theorem test_RowCareTouchesItsRankAlone :
    (next (exec (.refresh 2000 31 false) (ranked { state := 2, postponed := 8 })) fun s => (s.rank 30) == (running.rank 30)
        && s.get 0x490003 == running.get 0x490003) := by
  decide +kernel

theorem test_TheNetworkClockIsKept :
    (running.get 0x280009 < 256 ∧ next (exec (.macLinkChange 2000 1 4) running) fun s => s.get 0x280009 / 16 == 4)
    ∧ (running.get 0x280002 = 1 ∧ next (exec (.macLinkChange 2000 1 0) (clocked [])) fun s => s.stands 0xD 1 1)
    ∧ ((clocked []).takesPtp ptpIn = true ∧ 1 < (clocked []).net.announces.length ∧ next (exec (.announceReceive 2000 ptpIn announce) (clocked []))
        fun s => nth s.net.announces 1 none == some announce)
    ∧ ((up [(0x281001, 2)]).ptpPort (1 - 1) = false ∧ (up [(0x281001, 2)]).get 0x281004 = 255
        ∧ next (exec (.announceReceive 2000 ptpIn announce) (clocked [(0x281001, 2)])) fun s => s.get 0x281009 == 1 && s.get 0x281008 == 9)
    ∧ (next (exec (.announceTimeout 2000 1) (up [(0x281001, 2), (0x281005, 2), (0x281009, 1)])) fun s => s.get 0x281005 == 3
        && s.get 0x281009 == 0xFF)
    ∧ ((((clocked []).begin 2000).ptp : Int) = 2000 ∧ next (exec (.syncReceive 2000 ptpIn 1002001) (clocked [(0x281005, 1), (0x281009, 1)]))
        fun s => s.clock.offset == 1000001 - 1000 + 1000 && s.get 0x28100B == 1)
    ∧ (next (exec (.syncReceive 2000 ptpIn 2099) { clocked [(0x281005, 1), (0x281009, 1)] with net := { State.reset.net with goodSyncs := 15 } })
        fun s => s.get 0x281005 == 2)
    ∧ ((clocked [(0x281005, 4)]).macHears 1 = true ∧ (clocked [(0x281005, 4)]).ptpPort 1 = true
        ∧ (clocked [(0x281005, 4)]).txRoom (.eth 1 0 []) = true
        ∧ ((clocked [(0x281005, 4)]).begin 2000).syncDue 1 = true ∧ next (exec (.syncSend 2000 1) (clocked [(0x281005, 4)])) fun s => s.net.syncSeq == 1
        && decide (Out.eth 1 0 ((clocked []).ptpHead true ++ [0, 0] ++ leBytes 8 2000) ∈ s.out)
        && decide ((1, 2000, Out.eth 1 0 ((clocked []).ptpHead true ++ [0, 0] ++ leBytes 8 2000)) ∈ s.tx.wire))
    ∧ ((clocked [(0x281004, 254), (0x281005, 4)]).ownCandidate.isSome = true)
    ∧ (next (exec (.delayRequestResponse 2000 ptpIn .asked 5 0) (clocked []))
        fun s => decide (Out.eth 1 3 ((clocked []).ptpHead false ++ leBytes 8 5 ++ leBytes 8 2000) ∈ s.out))
    ∧ (next (exec (.delayRequestResponse 2000 ptpIn .due 0 0) (clocked []))
        fun s => s.out.any fun o => match o with | .eth 1 2 _ => true | _ => false)
    ∧ ((clocked []).txRoom (.eth 1 2 []) = true)
    ∧ (next (exec (.delayRequestResponse 2000 ptpIn .answered 0 4294967295) (clocked [(0x281009, 1)])) fun s => s.get 0x281007 == 4294967295
        && nth s.net.lastPathDelay 1 0 == 4294967295)
    ∧ ((clocked [(0x280005, 7)]).receives arrival = true ∧ (clocked [(0x280005, 7)]).ownAddress false 7 = true)
    ∧ (next (exec (.icmpEcho 2000 arrival false 5 7 [1]) (clocked [(0x280005, 7)])) fun s => decide (Out.eth 1 6 (leBytes 16 5 ++ [1]) ∈ s.out))
    ∧ ((clocked []).receives { arrival with length := 1519 } = false
        ∧ next (exec (.icmpEcho 2000 { arrival with length := 1519 } false 5 7 [1]) (clocked [(0x280005, 7)])) fun s => s.get 0x28000A == 1) := by
  decide +kernel

theorem test_TimedPinsFollow :
    (next (exec (.frameLockEdge 2000 3) (up [(0x285003, 4)])) fun s => s.net.lastEdge == 2000 && !s.stands 0xD 7 0)
    ∧ ((up [(0x285003, 4)]).framePeriod < 10 * (((max 1000 2000 : Nat) : Int) + running.geti 32 0x285002 - (5 + running.framePeriod : Nat)).natAbs
        ∧ (up [(0x285003, 4)]).framePeriod < 10 * (((5000000 : Nat) : Int) + running.geti 32 0x285002 - (5 : Nat)).natAbs
        ∧ next (exec (.frameLockEdge 5000000 3) { up [(0x285003, 4)] with net := { State.reset.net with lastTickLocal := some 5 } })
        fun s => s.net.ignoredEdges == 1 && s.net.lastEdge == 0)
    ∧ (running.net.lastEdge + 8 * running.framePeriod ≤ 200000000 ∧ next (exec (.frameLockLost 200000000) (up [(0x285003, 1)]))
        fun s => s.stands 0xD 7 0)
    ∧ (valueTaken running 2000 (outK 7 1) [3] = true ∧ next (exec (.outputMode 2000 .internal 7 3) running) fun s => s.get (outK 7 1) == 3
        && (s.timeOut 7).mode == 3)
    ∧ (next (exec (.timeOutEdge 2000 7) { running with net := { running.net with outs := setNth running.net.outs 7 { mode := 1, start := 2000 } } })
        fun s => decide (Out.pin (.timeOut 7) true ∈ s.out) && (s.timeOut 7).fired && s.get (outK 7 6) == 2000)
    ∧ (running.outRuns 7 = true ∧ next (exec (.timeOutEdge 2000 7) { running with net := { running.net with outs := setNth running.net.outs 7 { active := true, pulseEnd := 2000 } } })
        fun s => decide (Out.pin (.timeOut 7) false ∈ s.out))
    ∧ ((up [(capK 3 1, 3)]).get (capK 3 2) = 100 ∧ next (exec (.captureEdge 2000 3 true 100) (up [(capK 3 1, 3)]))
        fun s => (s.capture 3).queue == [(2000, true)])
    ∧ (next (exec (.captureEdge 2000 3 false 100) { up [(capK 3 1, 3)] with net := { running.net with captures := setNth running.net.captures 3 { queue := List.replicate 16 (1, true) } } })
        fun s => (s.capture 3).queue.length == 16 && s.get (capK 3 6) == 1)
    ∧ (next (exec (.captureEdge 2000 3 true 99) (up [(capK 3 1, 1)])) fun s => (s.capture 3).queue == [] && s.get (capK 3 5) == 1) := by
  decide +kernel

theorem test_GroupsAgreeOnReadiness :
    ((group {}).receives arrival = true ∧ (group {}).holdAll = true ∧ (group {}).standby = false ∧ (group {}).groupInstant ≤ ((group {}).begin 2000).ptp + (group {}).get 0x286006 * 1000
        ∧ next (exec (.readinessDecision 2000) (group {})) fun s => s.net.group.decided.isSome && s.net.group.sends == 1)
    ∧ (next (exec (.readinessRepeat 2000) (group { decided := some true, sends := 2, nextSend := 2000 })) fun s => s.net.group.sends == 3
        && !s.out.isEmpty)
    ∧ (({ group {} with regs := (0x286006, 1) :: (0x400004, 1000000000) :: (group {}).regs } : State).groupInstant = 1000000000
        ∧ (({ group {} with regs := (0x400004, 1000000000) :: (group {}).regs } : State).begin 2000).beforeDeadline = true)
    ∧ (next (exec (.readinessFrameReceive 2000 ⟨⟨arrival, 0⟩, readyFrame 1⟩) { group {} with regs := (0x400004, 1000000000) :: (group {}).regs })
        fun s => s.net.group.ready == [1])
    ∧ (next (exec (.readinessFrameReceive 2000 ⟨⟨arrival, 0⟩, readyFrame 2⟩) { group {} with regs := (0x400004, 1000000000) :: (group {}).regs })
        fun s => s.net.group.notReady == [1])
    ∧ ((group {}).groupInstant ≤ ((group {}).begin 2000).ptp + 500000
        ∧ next (exec (.readinessDeadline 2000) (group { decided := some true, ready := [0] })) fun s => (s.dom 0x28600B).take 1 == [2]) := by
  decide +kernel

theorem test_HeartbeatsAreFollowed :
    ((member 1 []).paired = true ∧ (member 1 []).pair.lastPin = none ∧ next (exec (.hbEdge 2000) (member 1 []))
        fun s => s.pair.lastPin == some 2000)
    ∧ (next (exec (.hbEdge 2000) (twin { role := 1, lastPin := some 1801 })) fun s => s.pair.lastPin == some 1801 && s.get 0x23000D == 1)
    ∧ (next (exec (.twinHeartbeat 2000 true 0 5) (twin { role := 1, twinCount := some 255 })) fun s => s.pair.lastTwin == some 2000
        && s.pair.partnerState == 1 && s.pair.twinCount == some 0)
    ∧ (next (exec (.twinHeartbeat 2000 false 0 5) (twin { role := 1 })) fun s => s.pair == { State.reset.pair with role := 1, twinUp := true })
    ∧ (next (exec (.twinHeartbeatSend 2000) (twin { role := 1, sendCount := 255 })) fun s => s.pair.sendCount == 0 && !s.out.isEmpty)
    ∧ ((member 2 []).watches = true ∧ ((twin { role := 2, lastPin := some 1500 }).begin 2000).twinAlive = false
        ∧ ((twin { role := 2, lastPin := some 1500 }).begin 2000).pinAlive = true
        ∧ next (exec (.pathSilent 2000 true) (twin { role := 2, lastPin := some 1500 })) fun s => s.stands 0xE 1 0)
    ∧ (next (exec (.pathSilent 2000 false) (twin { role := 2, lastTwin := some 1500 })) fun s => s.stands 0xE 2 0)
    ∧ (((member 2 []).begin 20000).hubConfirms = false ∧ (member 2 []).lastHeartbeat + 6000 ≤ 20000
        ∧ next (exec (.pathSilent 20000 false) (member 2 [])) fun s => s.stands 0xE 6 0) := by
  decide +kernel

theorem test_RolesAreTakenAndGiven :
    (({ member 2 [(0x48000E, 8)] with link := { lastHeader := some 1000 } }.begin 2000).hubConfirms = true
        ∧ next (exec (.takeover 2000) { member 2 [(0x48000E, 8), (0x48000D, 4), (0x480001, 3)] with link := { lastHeader := some 1000, trained := true } })
        fun s => s.pair.role == 1 && s.get 0x230006 == 1 && s.link.claiming == some 5)
    ∧ (next (exec (.roleDecision 2000) { running with pair := State.reset.pair }) fun s => s.pair.role == 0)
    ∧ (next (exec (.roleDecision 2000) { member 4 [(0x480001, 5)] with pair := { State.reset.pair with twinUp := true, partnerState := 1, lastTwin := some 1000 } })
        fun s => s.pair.role == 2)
    ∧ (next (exec (.roleDecision 2000) { member 4 [(0x480001, 5)] with pair := { State.reset.pair with twinFails := [500] } }) fun s => s.pair.role == 1)
    ∧ (next (exec (.roleDecision 2000) { member 4 [(0x480001, 5)] with pair := { State.reset.pair with strapB := true, twinFailed := true } })
        fun s => s.pair.role == 2 && s.pair.waitingB)
    ∧ (next (exec (.dualStandbyResolve 10001000)
        { twin { role := 2, lastTwin := some 10000000, bothStandbySince := some 1000 } with link := { lastHeader := some 10000000 } })
        fun s => s.pair.role == 1)
    ∧ (valueTaken { twin { role := 1 } with doms := [(0x230009, [0, 0, 0, 2] ++ List.replicate 60 0)] } 2000 0x230005 [1] = true
        ∧ next (exec (.roleHandover 2000 .internal) { twin { role := 1 } with doms := [(0x230009, [0, 0, 0, 2] ++ List.replicate 60 0)] })
        fun s => s.pair.role == 2)
    ∧ (next (exec (.handoverTimeout 2001000) (twin { role := 1, yieldingSince := some 1000 })) fun s => s.pair.yieldingSince == none
        && s.pair.role == 1)
    ∧ (next (exec (.handover 2000 65535 3 4) (twin { role := 2, twinExpected := some 65535 })) fun s => s.pair.role == 1
        && s.pair.twinExpected == some 0) := by
  decide +kernel

theorem test_TwinPacketsAreTaken :
    (takenTwin { role := 2, twinExpected := some 65535 } 65535 = true
        ∧ next (exec (.mirror 2000 65535 ([1, 9] ++ List.replicate 14 0)) (twin { role := 2, twinExpected := some 65535, snapshotStep := 1 }))
        fun s => s.pair.snapshotStep == 2 && s.pair.twinExpected == some 0 && s.pair.mirror.any fun r => r.no == 9)
    ∧ (next (exec (.changed 2000 0 1 [0x81]) (twin { role := 2 })) fun s => s.pair.changedMirror.contains 8 && s.pair.changedMirror.contains 15
        && !s.pair.changedMirror.contains 9)
    ∧ (next (exec (.commit 2000 0 1 2 3 4) (twin { role := 2 })) fun s => s.pair.commitFor == some (1, 2, 3, 4))
    ∧ (({ twin { role := 2 } with banks := panel.banks } : State).blocks ≠ 0
        ∧ next (exec (.stress 2000 0 0 [7]) { twin { role := 2 } with banks := panel.banks }) fun s => (lookup 0 s.care.counters).getD 0 == 7)
    ∧ (next (exec (.stress 2000 0 0 []) (twin { role := 2, snapshotStep := 3 })) fun s => s.pair.mirrorCurrent)
    ∧ (next (exec (.statistics 2000 0 7 (leBytes 8 0 ++ leBytes 8 5)) (twin { role := 2 })) fun s => (s.cam 7).partnerTags.getLast? == some (5, 0))
    ∧ (next (exec (.hello 2000 0) (twin { role := 1 })) fun s => (s.pair.twinRetry ++ s.pair.twinWaiting).any fun p => p.kind == 2)
    ∧ (next (exec (.mirror 2000 6 []) (twin { role := 2, twinExpected := some 5 }))
        fun s => s.pair == { State.reset.pair with role := 2, twinUp := true, twinExpected := some 5 }
        && decide (Out.twin (twinAnswer 0x82 5 0) ∈ s.out)) := by
  decide +kernel

theorem test_TheTwinLinkIsKept :
    (((List.range 5).filter fun l => bitOf 0x1E l && !bitOf ((member 1 []).get 0x23000B) l).length = 4
        ∧ next (exec (.twinLinkTraining 2000 0x1E) (member 1 [])) fun s => s.pair.twinUp
        && (s.pair.twinRetry ++ s.pair.twinWaiting).any fun p => p.kind == 8)
    ∧ (next (exec (.twinLaneRetire 2000 ⟨4, some 1⟩) { twin { role := 1 } with regs := setEntry 1000 0x23000C 0 (twin {}).regs }) fun s => s.get 0x23000B == 16)
    ∧ ((twin wired).twinBeside [0, 1, 2, 3] = [4] ∧ next (exec (.twinLaneRetire 2000 ⟨1, none⟩) (twin wired)) fun s => s.pair.wire.map == [0, 1, 2, 3]
        && s.pair.wire.nextMap == some [0, 4, 2, 3])
    ∧ (next (exec (.twinLaneRetire 2000 ⟨4, some 1⟩) (twin wired)) fun s => s.get 0x23000B == 0 && !s.pair.prbsClean)
    ∧ (next (exec (.twinHeartbeatSend 2000) (twin { wired with wire := { wired.wire with nextMap := some [0, 4, 2, 3], phase := 256, driven := [] } }))
        fun s => s.pair.wire.map == [0, 4, 2, 3] && s.get 0x23000A == 0x1D && s.pair.wire.phase == 32)
    ∧ (next (exec (.twinAck 2000 false 5) (twin { role := 1, twinRetry := [packet0] })) fun s => s.pair.twinRetry == [])
    ∧ (next (exec (.twinAck 2000 true 5) (twin { role := 1, twinRetry := [packet0] }))
        fun s => s.pair.twinRetry == [{ packet0 with sends := 2, sentAt := 2000 }])
    ∧ (packet0.sentAt + 20000 ≤ 21000 ∧ next (exec (.twinRetryTimeout 21000) (twin { role := 1, twinRetry := [packet0] }))
        fun s => s.pair.twinRetry == [{ packet0 with sends := 2, sentAt := 21000 }])
    ∧ ((leBytes 4 (crc32c (List.replicate 60 1))).length = 4 ∧ leNat (leBytes 4 (crc32c (List.replicate 60 1))) = crc32c (List.replicate 60 1))
    ∧ ((twin { role := 1 }).pair.twinUp = true ∧ (twin { role := 1 }).power.phase = .run) := by
  decide +kernel

theorem test_ServiceRunsEndAsTheyRead :
    (next (exec (.calibrateBias 2000 63 63 true) (calibrating 1)) fun s => s.cal.run.any fun r => byteAt r.trims 0 == 63 && r.next == 2)
    ∧ (next (exec (.calibrateBias 2000 63 62 true) (calibrating 1)) fun s => s.cal.run == none && s.get 0x260004 == 3 && s.get 0x260005 == 1)
    ∧ (tapsOk 127 (List.replicate 12 15) = true ∧ next (exec (.calibrateOscillators 2000 127 (List.replicate 12 15) true) (calibrating 2))
        fun s => s.cal.run.any fun r => byteAt r.trims 1 == 127)
    ∧ ((calibrating 3).cal.run.any (fun r => r.next == 3) = true)
    ∧ (next (exec (.calibrateSram 2000 [] true) (calibrating 4)) fun s => s.cal.run.any fun r => r.next == 5)
    ∧ (next (exec (.calibrationRunEnd 2000) (calibrating 5)) fun s => s.cal.run == none && s.cal.calibrated && s.get 0x260004 == 2)
    ∧ (valueTaken running 2000 0x261003 (leBytes 4 0x4255524E) = true ∧ running.nv.nextGeneration = some 0
        ∧ next (exec (.otpBurn 2000 .internal 0x4255524E) running) fun s => s.get 0x261004 == 1 && s.cal.burning.any fun g => g.1 == 0
        && otpValid g.1 g.2)
    ∧ (next (exec (.otpBurnComplete 2000 true) { running with cal := { running.cal with burning := some (3, [1]) } })
        fun s => nth s.nv.otp 3 [] == [1] && s.get 0x261004 == 2)
    ∧ (next (exec (.otpBurnComplete 2000 false) { running with cal := { running.cal with burning := some (3, [1]) } })
        fun s => s.cal.burning == none && s.get 0x261004 == 3)
    ∧ (running.nv.slots.length = 2 ∧ running.installRefused = !running.beacon.present) := by
  decide +kernel

theorem test_HeldWritesChangeTheirObjectAlone :
    (valueTaken running 2000 0x203105 (leBytes 2 700) = true ∧ next (exec (.registerWrite 2000 .internal 0x2031 5 (leBytes 2 700)) running)
        fun s => s.get 0x490003 == running.get 0x490003 && s.media == running.media)
    ∧ (contentTaken running 2000 0x203103 (leBytes 16 7) = true ∧ next (exec (.registerWrite 2000 .internal 0x2031 3 (leBytes 16 7)) running)
        fun s => s.dom 0x285001 == running.dom 0x285001 && s.link == running.link) := by
  decide +kernel

theorem test_CamerasLeaveTheOtherUnits :
    (next (exec (.frameEnd 2000 7) (camera { frame := some frame0 })) fun s => s.power == running.power && s.memory == running.memory) := by
  decide +kernel

theorem test_OutputsLeaveTheOtherUnits :
    (next (exec (.underrunLine 2000 1 ⟨4095, 3839⟩) (flat1 3 {})) fun s => s.pair == running.pair && s.link == running.link) := by
  decide +kernel

theorem test_NetworkFramesLeaveThePicture :
    (next (exec (.captureEdge 2000 3 true 100) (up [(capK 3 1, 3)])) fun s => s.media == running.media
        && s.get 0x490003 == running.get 0x490003) := by
  decide +kernel

theorem test_HeartbeatsLeaveThePicture :
    (next (exec (.hbEdge 2000) (member 1 [])) fun s => s.media == running.media && s.link == running.link) := by
  decide +kernel

theorem bytes6144_length : bytes6144.length = 6144 := List.length_replicate

theorem leBytes_len (n v : Nat) : (leBytes n v).length = n := by
  induction n generalizing v with
  | zero => rfl
  | succ n ih => simp [leBytes, ih]

/-- The clause of UdpAccessesAreAnswered on a staged write of more than 1,024 bytes. -/
theorem test_stagedWrite_committed :
    staging.served = true ∧ (staging.ctl.staged.find? fun w => w.key == keyOf 0x4900 0x30) = some staged0
    ∧ staging.gate 0x490030 true = 0 ∧ staging.refused 0x490030 0 = false ∧ 1024 < staged0.data.length
    ∧ staging.contentFits 0x490030 bytes6144 = true := by
  refine ⟨by decide +kernel, rfl, by decide +kernel, by decide +kernel, ?_, ?_⟩
  · simp [staged0, bytes6144_length, leBytes_len]
  · have h : (objOf 0x490030).map (fun o => (o.ty, o.rng)) = some (.dom, .len 6144 6144 1) := by decide +kernel
    unfold State.contentFits
    cases g : objOf 0x490030 with
    | none => rw [g] at h; cases h
    | some o =>
      rw [g] at h
      have e : o.ty = .dom ∧ o.rng = .len 6144 6144 1 := by simpa using h
      simp only [e.1, e.2, lengthOk, bytes6144_length]
      rfl

/-- R279: a frame of RFC 8878 with one compressed block, of run-length literals and one sequence, whose content is the letter a a hundred
times; and XXH64 of no bytes (its specification's test vector). -/
theorem test_zstdFrame : zstdDecode 100 [40, 181, 47, 253, 32, 100, 69, 0, 0, 16, 97, 97, 1, 0, 63, 1, 44] = some (List.replicate 100 0x61) ∧ xxh64 [] = 0xEF46DB3751D8E999 := by
  decide +kernel

end Sys2Proof.Tests
end

section
/-!
PROOFS. The states of functions under a degrading cause (R471, O10), and the limits and the idle time of UDP transactions
(R49, O14).
-/

namespace Sys2Proof.Machine

/-! ### A list place that has been replaced -/

theorem nth_setNth_self {α : Type} {l : List α} {n : Nat} (h : n < l.length) (v d : α) : nth (setNth l n v) n d = v := by
  simp [nth, setNth, h]

/-! ### What the steps of a raise leave of stages, control path and degrading causes -/

@[simp] theorem State.beaconPut_stages (s : State) (e : Entry) : (s.beaconPut e).1.stages = s.stages := by
  unfold State.beaconPut
  dsimp only
  split_ifs <;> rfl
@[simp] theorem State.beaconPut_ctl (s : State) (e : Entry) : (s.beaconPut e).1.ctl = s.ctl := by
  unfold State.beaconPut
  dsimp only
  split_ifs <;> rfl
@[simp] theorem State.beaconPut_faults (s : State) (e : Entry) : (s.beaconPut e).1.faults = s.faults := by
  unfold State.beaconPut
  dsimp only
  split_ifs <;> rfl

@[simp] theorem State.repeatFault_stages (s : State) (f : FaultEntry) (detail : Nat) : (s.repeatFault f detail).stages = s.stages :=
  State.beaconPut_stages _ _
@[simp] theorem State.repeatFault_ctl (s : State) (f : FaultEntry) (detail : Nat) : (s.repeatFault f detail).ctl = s.ctl :=
  State.beaconPut_ctl _ _
@[simp] theorem State.repeatFault_degraded (s : State) (f : FaultEntry) (detail : Nat) :
    (s.repeatFault f detail).faults.degraded = s.faults.degraded := by
  simp [State.repeatFault, State.newEntry]

@[simp] theorem State.queueFault_stages (s : State) (f : FaultEntry) (start : Nat) : (s.queueFault f start).stages = s.stages := by
  unfold State.queueFault
  dsimp only
  split
  · rfl
  · split <;> rfl
@[simp] theorem State.queueFault_ctl (s : State) (f : FaultEntry) (start : Nat) : (s.queueFault f start).ctl = s.ctl := by
  unfold State.queueFault
  dsimp only
  split
  · rfl
  · split <;> rfl
@[simp] theorem State.queueFault_degraded (s : State) (f : FaultEntry) (start : Nat) :
    (s.queueFault f start).faults.degraded = s.faults.degraded := by
  unfold State.queueFault
  dsimp only
  split
  · rfl
  · split <;> rfl

@[simp] theorem State.countFault_stages (s : State) (f : FaultEntry) : (s.countFault f).stages = s.stages := rfl
@[simp] theorem State.countFault_ctl (s : State) (f : FaultEntry) : (s.countFault f).ctl = s.ctl := rfl
@[simp] theorem State.countFault_degraded (s : State) (f : FaultEntry) : (s.countFault f).faults.degraded = s.faults.degraded := rfl

@[simp] theorem State.contain_ctl (s : State) (fn cause : Nat) (e : Effect) : (s.contain fn cause e).ctl = s.ctl := by
  unfold State.contain
  split
  · rfl
  · split <;> rfl
  · rfl

/-- Stages change by a raise's containment alone (R403). -/
theorem State.raiseCore_stages (s : State) (fn cause detail : Nat) (e : Effect) :
    (s.raiseCore fn cause detail e).stages = (s.contain fn cause e).stages := by
  unfold State.raiseCore
  dsimp only
  split <;> simp

@[simp] theorem State.raiseCore_ctl (s : State) (fn cause detail : Nat) (e : Effect) : (s.raiseCore fn cause detail e).ctl = s.ctl := by
  unfold State.raiseCore
  dsimp only
  split <;> simp

/-- Degrading causes change by a raise's containment alone (R403). -/
theorem State.raiseCore_degraded (s : State) (fn cause detail : Nat) (e : Effect) :
    (s.raiseCore fn cause detail e).faults.degraded = (s.contain fn cause e).faults.degraded := by
  unfold State.raiseCore
  dsimp only
  split <;> simp

@[simp] theorem State.raise_ctl (s : State) (fn cause detail : Nat) : (s.raise fn cause detail).ctl = s.ctl :=
  State.raiseCore_ctl _ _ _ _ _

/-! ### Containment of a degrading cause (R471) -/

theorem State.contain_degraded_stages (s : State) (fn cause : Nat) : (s.contain fn cause .degraded).stages = s.stages := by
  simp only [State.contain]
  split <;> rfl

theorem State.contain_degraded_mem (s : State) (fn cause : Nat) : (fn, cause) ∈ (s.contain fn cause .degraded).faults.degraded := by
  simp only [State.contain]
  split
  · rename_i h
    simpa using h
  · simp

/-- A degrading cause moves no function to another stage. -/
theorem State.raise_stages_of_degrading {fn cause : Nat} (he : effectOf fn cause = .degraded) (s : State) (detail : Nat) :
    (s.raise fn cause detail).stages = s.stages := by
  rw [State.raise, State.raiseCore_stages, he, State.contain_degraded_stages]

/-- A degrading cause that is raised stands against its function. -/
theorem State.degradedBy_raise {fn cause : Nat} (he : effectOf fn cause = .degraded) (s : State) (detail : Nat) :
    (s.raise fn cause detail).degradedBy fn = true := by
  have hm : (fn, cause) ∈ (s.raise fn cause detail).faults.degraded := by
    rw [State.raise, State.raiseCore_degraded, he]
    exact s.contain_degraded_mem fn cause
  exact List.any_eq_true.2 ⟨_, hm, beq_self_eq_true fn⟩

/-! ### The state of a function, case by case (R60, R470, R471) -/

theorem State.awaitsLock_congr {s s' : State} (h : s'.power = s.power) (n : Nat) : s'.awaitsLock n = s.awaitsLock n := by
  simp only [State.awaitsLock, h]

theorem State.clocked_of_run {s : State} (h : s.power.phase = .run) (n : Nat) : s.clocked n = true := by
  simp [State.clocked, h]

theorem State.not_clocked_of_hold {s : State} {n : Nat} (h : s.power.phase = .hold) (hn : stopsInHold n = true) : s.clocked n = false := by
  simp [State.clocked, h, hn]

/-- Hold's Stopped comes before every standing cause (R470). -/
theorem State.fnState_of_not_clocked {s : State} {n : Nat} (h : s.clocked n = false) : s.fnState n = 0 := by
  simp [State.fnState, h]

theorem State.fnState_of_starting {s : State} {n : Nat} (hc : s.clocked n = true) (hs : nth s.stages n .off = .starting) :
    s.fnState n = 1 := by
  simp [State.fnState, hc, hs]

theorem State.fnState_of_resetting {s : State} {n : Nat} (hc : s.clocked n = true) (hs : nth s.stages n .off = .resetting) :
    s.fnState n = if s.now < s.ctl.functionResetAt + Config.resettingTime n then 5 else 1 := by
  simp [State.fnState, hc, hs]

/-- A usable function is Degraded while a degrading cause stands against it, and Ready otherwise (R471). -/
theorem State.fnState_of_up {s : State} {n : Nat} (hc : s.clocked n = true) (hs : nth s.stages n .off = .up)
    (hl : s.awaitsLock n = false) : s.fnState n = if s.degradedBy n then 3 else 2 := by
  simp [State.fnState, hc, hs, hl]

/-- Ready is a state of the stage up alone. -/
theorem State.up_of_fnState_ready {s : State} {n : Nat} (h : s.fnState n = 2) : nth s.stages n .off = .up := by
  unfold State.fnState at h
  split at h
  · cases h
  · split at h
    · cases h
    · split at h <;> cases h
    · cases h
    · assumption
    · cases h

/-- A function that becomes usable in Run shows what stands against it. -/
theorem State.fnState_stage_up {s : State} {n : Nat} (hn : n < s.stages.length) (hp : s.power.phase = .run)
    (hl : s.awaitsLock n = false) : (s.stage n .up).fnState n = if s.degradedBy n then 3 else 2 :=
  State.fnState_of_up (s := s.stage n .up) (State.clocked_of_run hp n) (nth_setNth_self hn .up .off) hl

/-- A function that is up when Run is entered again shows what stands against it. -/
theorem State.fnState_return_to_run {s : State} {n : Nat} {p : Power} (hp : s.power = p) (hs : nth s.stages n .off = .up)
    (hl : s.awaitsLock n = false) : ({ s with power := { p with phase := .run } }).fnState n = if s.degradedBy n then 3 else 2 := by
  subst hp
  exact State.fnState_of_up (s := { s with power := { s.power with phase := .run } }) (State.clocked_of_run rfl n) hs hl

/-! ### O10 -/

/-- Settles O10: a degrading cause is recorded against its function and moves no stage, so each state is read off the stage that the
function had, or is brought to. -/
theorem degradedShowsOnceUsable : Obligations.DegradedShowsOnceUsable := by
  intro s n cause detail hn he hl
  have hpow : (s.raise n cause detail).power = s.power := s.raise_power n cause detail
  have hst := State.raise_stages_of_degrading he s detail
  have hdeg := State.degradedBy_raise he s detail
  have hlock : (s.raise n cause detail).awaitsLock n = false := (State.awaitsLock_congr hpow n).trans hl
  constructor
  · intro hrun
    have hrun' : (s.raise n cause detail).power.phase = .run := by rw [hpow, hrun]
    have hck := State.clocked_of_run hrun n
    have hck' := State.clocked_of_run hrun' n
    have hup : ((s.raise n cause detail).stage n .up).fnState n = 3 := by
      rw [State.fnState_stage_up (by rw [hst]; exact hn) hrun' hlock, if_pos hdeg]
    refine ⟨fun hs => ⟨?_, hup⟩, fun hs => ⟨?_, hup⟩, fun hd => ?_, fun hr => ?_⟩
    · exact State.fnState_of_starting hck' (by rw [hst, hs])
    · rw [State.fnState_of_resetting hck' (by rw [hst, hs]), State.fnState_of_resetting hck hs, State.raise_now, State.raise_ctl]
    · rw [State.fnState_stage_up hn hrun hl, hd, if_neg Bool.false_ne_true]
    · rw [State.fnState_of_up hck' (by rw [hst, State.up_of_fnState_ready hr]) hlock, if_pos hdeg]
  · intro hhold hstop hs
    refine ⟨State.fnState_of_not_clocked (State.not_clocked_of_hold (by rw [hpow, hhold]) hstop), ?_, fun hd => ?_⟩
    · rw [State.fnState_return_to_run hpow (by rw [hst, hs]) hlock, if_pos hdeg]
    · rw [State.fnState_return_to_run rfl hs hl, hd, if_neg Bool.false_ne_true]

/-! ### Dictionary frames (R46, R377) -/

/-- A dictionary frame's magic is not a readiness frame's. -/
theorem State.readinessForm_of_frameFormOk {b : Bytes} (h : frameFormOk b = true) (s : State) (dport : Nat) :
    s.readinessForm dport b = false := by
  simp only [frameFormOk, Bool.and_eq_true, beq_iff_eq] at h
  obtain ⟨⟨⟨hmagic, -⟩, -⟩, -⟩ := h
  simp [State.readinessForm, hmagic]

/-- A well-formed frame of opcode 0x03 that comes past a MAC to the dictionary port from an allowed source is a bulk write's start. -/
theorem State.udpFrame_bulkStart {s : State} {a : Nat} {u : UdpArrival} {b : Bytes} (hu : s.takesDatagram u = true)
    (hon : s.get 0x203101 = 1) (ha : s.sourceAllowed a = true) (hcrc : frameCrcOk b = true) (hform : frameFormOk b = true)
    (hop : (frameOf b).opcode = 3) : s.udpFrame a u b = s.udpBulkStart a (frameOf b) := by
  simp only [State.takesDatagram, Bool.and_eq_true, beq_iff_eq] at hu
  obtain ⟨⟨-, hrec⟩, hport⟩ := hu
  simp [State.udpFrame, State.arrives, hrec, hon, hport, s.readinessForm_of_frameFormOk hform, ha, hcrc, hform, hop]

/-! ### A bulk write past a limit (R49) -/

theorem State.bulkCode_past_limit {s : State} {a : Nat} {f : Frame} {o : Obj} (hg : s.gate f.key true = 0) (ho : objOf f.key = some o)
    (hd : o.ty = .dom) (hlen : f.payload.length = 8) (hnew : (s.ctl.transactions.any fun x => x.source == a && x.id == f.tx) = false)
    (hlim : 4 ≤ s.openOf (fun b => b == a) ∨ 8 ≤ s.openOf (fun _ => true)) : s.bulkCode a f = 0x05040005 := by
  simp [State.bulkCode, hg, ho, hd, hlen, hnew, hlim]

/-- A bulk write with a code is aborted with it, and opens nothing. -/
theorem State.udpBulkStart_refused {s : State} {a : Nat} {f : Frame} (h : s.bulkCode a f ≠ 0) :
    s.udpBulkStart a f = s.udpAbort a f (s.bulkCode a f) := by
  unfold State.udpBulkStart
  split
  · rename_i h0
    exact absurd h0 h
  · rfl

/-! ### A transaction that idles (R49) -/

theorem State.transactionIdles_idle {s : State} {a id : Nat} {x : Transaction} (hs : s.served = true)
    (hx : (s.ctl.transactions.find? fun x => x.source == a && x.id == id) = some x) (hidle : x.last + s.get 0x203105 * 1000000 < s.now) :
    s.transactionIdles a id
      = (s.dropTransaction a id).send (.udp (s.get 0x280008) (s.get 0x203102) a (s.get 0x203102) (dictFrame 0xEE id x.key 0 0x05040000 [])) := by
  simp [State.transactionIdles, hx, hs, hidle]

theorem State.mem_dropTransaction {s : State} {a id : Nat} {y : Transaction} (h : y ∈ (s.dropTransaction a id).ctl.transactions) :
    y.source ≠ a ∨ y.id ≠ id := by
  have hy := (List.mem_filter.1 h).2
  simpa [imp_iff_not_or] using hy

/-! ### O14 -/

/-- Settles O14: a start past a limit has the code 0x0504_0005 and leaves the transactions alone; an idle transaction is dropped with
0x0504_0000, and no content is touched. -/
theorem udpTransactionsAreLimited : Obligations.UdpTransactionsAreLimited := by
  intro s t a hs hon
  constructor
  · intro u f o hu ha hcrc hform hop hg ho hd hlen hnew hlim
    have hmac : decide (u.arrival.mac < 2) = true := by
      simp only [State.takesDatagram, Bool.and_eq_true] at hu
      exact hu.1.1
    have hcode : (s.begin t).bulkCode a (frameOf f) = 0x05040005 := State.bulkCode_past_limit hg ho hd hlen hnew hlim
    have hrun : (s.begin t).udpFrame a u f = (s.begin t).udpAbort a (frameOf f) 0x05040005 := by
      rw [State.udpFrame_bulkStart (s := s.begin t) hu hon ha hcrc hform hop,
        State.udpBulkStart_refused (by rw [hcode]; decide), hcode]
    rw [exec_udpBulkStart]
    refine answers_actIf hmac ⟨State.mem_finish_out ?_, ?_⟩
    · rw [hrun]
      exact List.mem_append_right _ (List.mem_singleton_self _)
    · rw [State.finish_transactions, hrun]
      rfl
  · intro id x hx hidle
    have hrun := State.transactionIdles_idle (s := s.begin t) hs hx hidle
    rw [exec_transactionTimeout]
    refine answers_act ⟨State.mem_finish_out ?_, fun y hy => ?_, fun k => ?_⟩
    · rw [hrun]
      exact List.mem_append_right _ (List.mem_singleton_self _)
    · rw [State.finish_transactions, hrun] at hy
      exact State.mem_dropTransaction hy
    · rw [State.dom_finish, hrun]
      rfl

end Sys2Proof.Machine
end

section
/-!
PROOFS. The order in which the samples of a ray are composited, and an opaque sample's end of the ray (R69, R126, R127, O27).
-/

namespace Sys2Proof

/-! ### The front-to-back order of two samples (R69) -/

/-- x is taken before y, or level with it: greater depth first, and at one depth the lower stack rank. -/
def Sample.NotBehind (x y : Sample) : Prop := y.z < x.z ∨ (x.z = y.z ∧ x.rank ≤ y.rank)

theorem Sample.NotBehind.trans {x y w : Sample} (hxy : x.NotBehind y) (hyw : y.NotBehind w) : x.NotBehind w := by
  unfold Sample.NotBehind at *
  omega

theorem Sample.NotBehind.level {x y : Sample} (hxy : x.NotBehind y) (hyx : y.NotBehind x) : x.z = y.z ∧ x.rank = y.rank := by
  unfold Sample.NotBehind at *
  omega

theorem nearer_iff {x y : Sample} : nearer x y = true ↔ y.z < x.z ∨ (x.z = y.z ∧ x.rank < y.rank) := by
  simp [nearer]

theorem notBehind_of_nearer {x y : Sample} (h : nearer x y = true) : x.NotBehind y := by
  rw [nearer_iff] at h
  unfold Sample.NotBehind
  omega

theorem notBehind_of_not_nearer {x y : Sample} (h : ¬ nearer x y = true) : y.NotBehind x := by
  rw [nearer_iff] at h
  unfold Sample.NotBehind
  omega

/-! ### Insertion into a front-to-back list -/

theorem insertSample_perm (x : Sample) (l : List Sample) : (insertSample x l).Perm (x :: l) := by
  induction l with
  | nil => exact .refl _
  | cons y ys ih =>
    unfold insertSample
    split
    · exact .refl _
    · exact (ih.cons y).trans (.swap x y ys)

theorem insertSample_pairwise (x : Sample) {l : List Sample} (hl : l.Pairwise Sample.NotBehind) :
    (insertSample x l).Pairwise Sample.NotBehind := by
  induction l with
  | nil => exact List.pairwise_singleton _ x
  | cons y ys ih =>
    obtain ⟨hy, hys⟩ := List.pairwise_cons.1 hl
    unfold insertSample
    split
    next hxy =>
      refine List.pairwise_cons.2 ⟨fun w hw => ?_, hl⟩
      have hx : x.NotBehind y := notBehind_of_nearer hxy
      rcases List.mem_cons.1 hw with rfl | hw
      · exact hx
      · exact hx.trans (hy w hw)
    next hxy =>
      refine List.pairwise_cons.2 ⟨fun w hw => ?_, ih hys⟩
      rcases List.mem_cons.1 ((insertSample_perm x ys).mem_iff.1 hw) with rfl | hw
      · exact notBehind_of_not_nearer hxy
      · exact hy w hw

/-! ### The front-to-back list of a ray -/

theorem frontToBack_perm (l : List Sample) : (frontToBack l).Perm l := by
  induction l with
  | nil => exact .refl _
  | cons x xs ih => exact (insertSample_perm x _).trans (ih.cons x)

theorem frontToBack_pairwise (l : List Sample) : (frontToBack l).Pairwise Sample.NotBehind := by
  induction l with
  | nil => exact .nil
  | cons x xs ih => exact insertSample_pairwise x ih

theorem eq_of_level_of_pairwise {l : List Sample} (hl : l.Pairwise fun x y => x.z ≠ y.z ∨ x.rank ≠ y.rank) {x y : Sample}
    (hx : x ∈ l) (hy : y ∈ l) (h : x.z = y.z ∧ x.rank = y.rank) : x = y := by
  by_contra hne
  have : Std.Symm fun x y : Sample => x.z ≠ y.z ∨ x.rank ≠ y.rank := ⟨fun _ _ hab => hab.imp Ne.symm Ne.symm⟩
  rcases hl.forall hx hy hne with hz | hrank
  · exact hz h.1
  · exact hrank h.2

/-- Of samples with no depth and rank in common there is one front-to-back list, in whatever order they were fetched. -/
theorem frontToBack_eq_of_perm {l l' : List Sample} (hp : l.Perm l') (hl : l.Pairwise fun x y => x.z ≠ y.z ∨ x.rank ≠ y.rank) :
    frontToBack l = frontToBack l' := by
  refine List.Perm.eq_of_pairwise (fun x y hx hy hxy hyx => ?_) (frontToBack_pairwise l) (frontToBack_pairwise l')
    ((frontToBack_perm l).trans (hp.trans (frontToBack_perm l').symm))
  have hx : x ∈ l := (frontToBack_perm l).mem_iff.1 hx
  have hy : y ∈ l := hp.mem_iff.2 ((frontToBack_perm l').mem_iff.1 hy)
  exact eq_of_level_of_pairwise hl hx hy (hxy.level hyx)

/-! ### The compositor (R126, R127) -/

/-- A sample with alpha and opacity both 65,536 gives its own colour and leaves no transmittance, whatever lies behind it. -/
theorem compositeLoop_opaque {x : Sample} (ha : x.a = 65536) (ho : x.o = 65536) (rest : List Sample) (c t : Nat) :
    compositeLoop (x :: rest) c t = (c + (t * min x.c 65536 + 32768) / 65536, 0) := by
  have hstop (c : Nat) : compositeLoop rest c 0 = (c, 0) := by
    cases rest <;> simp [compositeLoop]
  have hcolour : (x.c * 65536 + 32768) / 65536 = x.c := by omega
  unfold compositeLoop
  split
  next ht => simp [ht]
  next => simp [ha, ho, hcolour, hstop]

theorem composite_le (l : List Sample) (bg : Nat) : composite l bg ≤ 65535 := Nat.min_le_right _ _

end Sys2Proof

namespace Sys2Proof.Machine

/-! ### O27 -/

/-- Settles O27: an opaque sample leaves the transmittance at 0, and the front-to-back list is the one sorted rearrangement of the samples. -/
theorem compositingIsOpaqueAndOrderFree : Obligations.CompositingIsOpaqueAndOrderFree := by
  refine ⟨fun x rest rest' c t ha ho => ?_, fun l l' => frontToBack_eq_of_perm, fun l => ⟨frontToBack_perm l, frontToBack_pairwise l⟩,
    composite_le⟩
  rw [compositeLoop_opaque ha ho rest, compositeLoop_opaque ha ho rest']
  exact ⟨rfl, rfl⟩

end Sys2Proof.Machine
end

section
/-!
PROOFS. The end of this port's ownership of the panel by the hub (R166, R383, O31).
-/

namespace Sys2Proof.Machine

/-! ### What a raise sends, and what it makes of the fault queue (R403, R404, R406) -/

@[simp] theorem State.contain_out (s : State) (fn cause : Nat) (e : Effect) : (s.contain fn cause e).out = s.out := by
  unfold State.contain
  split
  · rfl
  · split <;> rfl
  · rfl
@[simp] theorem State.contain_queue (s : State) (fn cause : Nat) (e : Effect) : (s.contain fn cause e).faults.queue = s.faults.queue := by
  unfold State.contain
  split
  · rfl
  · split <;> rfl
  · rfl

@[simp] theorem State.beaconPut_out (s : State) (e : Entry) : (s.beaconPut e).1.out = s.out := by
  unfold State.beaconPut
  dsimp only
  split_ifs <;> rfl

@[simp] theorem State.repeatFault_out (s : State) (f : FaultEntry) (detail : Nat) : (s.repeatFault f detail).out = s.out :=
  State.beaconPut_out _ _

@[simp] theorem State.queueFault_out (s : State) (f : FaultEntry) (start : Nat) : (s.queueFault f start).out = s.out := by
  unfold State.queueFault
  dsimp only
  split
  · rfl
  · split <;> rfl

theorem State.queueFault_queue_of_room {s : State} (h : s.faults.queue.length < 32) (f : FaultEntry) (start : Nat) :
    (s.queueFault f start).faults.queue = s.faults.queue ++ [f] := by
  simp [State.queueFault, h]

@[simp] theorem State.raiseCore_out (s : State) (fn cause detail : Nat) (e : Effect) : (s.raiseCore fn cause detail e).out = s.out := by
  unfold State.raiseCore
  dsimp only
  split
  · simp
  · exact (State.queueFault_out _ _ _).trans (State.contain_out _ _ _ _)

/-- An entry once a repeat of the fault with an event sequence has been counted (R404). -/
def FaultEntry.repeated (seq : Nat) (g : FaultEntry) : FaultEntry := if g.seq = seq then { g with repeats := g.repeats + 1 } else g

@[simp] theorem FaultEntry.repeated_fn (seq : Nat) (g : FaultEntry) : (g.repeated seq).fn = g.fn := by
  unfold FaultEntry.repeated
  split <;> rfl
@[simp] theorem FaultEntry.repeated_cause (seq : Nat) (g : FaultEntry) : (g.repeated seq).cause = g.cause := by
  unfold FaultEntry.repeated
  split <;> rfl
@[simp] theorem FaultEntry.repeated_cleared (seq : Nat) (g : FaultEntry) : (g.repeated seq).cleared = g.cleared := by
  unfold FaultEntry.repeated
  split <;> rfl

theorem State.repeatFault_queue (s : State) (f : FaultEntry) (detail : Nat) :
    (s.repeatFault f detail).faults.queue = s.faults.queue.map (FaultEntry.repeated f.seq) := by
  simp only [State.repeatFault, State.beaconPut_faults]
  rfl

/-- While the queue has room, a raise counts a repeat of an entry that stands uncleared, or adds an uncleared entry of its own. -/
theorem State.raiseCore_queue_cases {s : State} (h : s.faults.queue.length < 32) (fn cause detail : Nat) (e : Effect) :
    (s.raised fn cause ∧ ∃ seq, (s.raiseCore fn cause detail e).faults.queue = s.faults.queue.map (FaultEntry.repeated seq))
    ∨ ∃ f : FaultEntry, f.fn = fn ∧ f.cause = cause ∧ f.cleared = false
      ∧ (s.raiseCore fn cause detail e).faults.queue = s.faults.queue ++ [f] := by
  unfold State.raiseCore
  dsimp only
  split
  next f hf =>
    rw [State.contain_queue] at hf
    have hmatch := List.find?_some hf
    simp only [Bool.and_eq_true, beq_iff_eq, Bool.not_eq_true'] at hmatch
    obtain ⟨⟨hfn, hcause⟩, hclear⟩ := hmatch
    refine .inl ⟨⟨f, List.mem_of_find?_eq_some hf, hfn, hcause, hclear⟩, f.seq, ?_⟩
    rw [State.repeatFault_queue, State.contain_queue]
  next =>
    refine .inr ⟨(s.contain fn cause e).newFault fn cause detail e, rfl, rfl, rfl, ?_⟩
    have hqueue (f : FaultEntry) : ((s.contain fn cause e).countFault f).faults.queue = s.faults.queue := State.contain_queue s fn cause e
    rw [State.queueFault_queue_of_room (by rw [hqueue]; exact h), hqueue]

theorem State.raiseCore_queue_length {s : State} (h : s.faults.queue.length < 32) (fn cause detail : Nat) (e : Effect) :
    (s.raiseCore fn cause detail e).faults.queue.length ≤ s.faults.queue.length + 1 := by
  rcases State.raiseCore_queue_cases h fn cause detail e with ⟨-, seq, hq⟩ | ⟨f, -, -, -, hq⟩ <;> simp [hq]

theorem State.raised_map_repeated {s s' : State} {fn cause seq : Nat} (h : s.raised fn cause)
    (hq : s'.faults.queue = s.faults.queue.map (FaultEntry.repeated seq)) : s'.raised fn cause := by
  obtain ⟨f, hmem, hfn, hcause, hclear⟩ := h
  exact ⟨f.repeated seq, by rw [hq]; exact List.mem_map_of_mem hmem, by simp [hfn], by simp [hcause], by simp [hclear]⟩

theorem State.raised_raiseCore_self {s : State} (h : s.faults.queue.length < 32) (fn cause detail : Nat) (e : Effect) :
    (s.raiseCore fn cause detail e).raised fn cause := by
  rcases State.raiseCore_queue_cases h fn cause detail e with ⟨hr, seq, hq⟩ | ⟨f, hfn, hcause, hclear, hq⟩
  · exact State.raised_map_repeated hr hq
  · exact ⟨f, by simp [hq], hfn, hcause, hclear⟩

/-- While the queue has room, a raise leaves every other raised cause in it. -/
theorem State.raised_raiseCore {s : State} {fn cause : Nat} (hr : s.raised fn cause) (h : s.faults.queue.length < 32)
    (fn' cause' detail : Nat) (e : Effect) : (s.raiseCore fn' cause' detail e).raised fn cause := by
  rcases State.raiseCore_queue_cases h fn' cause' detail e with ⟨-, seq, hq⟩ | ⟨f, -, -, -, hq⟩
  · exact State.raised_map_repeated hr hq
  · obtain ⟨g, hmem, hg⟩ := hr
    exact ⟨g, by rw [hq]; exact List.mem_append_left _ hmem, hg⟩

theorem State.raised_congr {s s' : State} (h : s'.faults = s.faults) (fn cause : Nat) : s'.raised fn cause ↔ s.raised fn cause := by
  simp only [State.raised, h]

/-! ### What a Beacon entry sends and leaves in the fault queue (R414) -/

theorem State.beaconAdd_faults_cases (s : State) (kind flags : Nat) (body payload : Bytes) :
    (s.beaconAdd kind flags body payload).faults = s.faults
    ∨ ∃ s' : State, s'.faults = s.faults ∧ s.beaconAdd kind flags body payload = s'.raiseCore 0xF 0x03 0 .unchanged := by
  have hput (e : Entry) : ((s.newEntry kind flags body payload).1.beaconPut e).1.faults = s.faults := State.beaconPut_faults _ e
  unfold State.beaconAdd
  dsimp only
  split
  · exact .inr ⟨_, hput _, rfl⟩
  · exact .inl (hput _)

theorem State.raised_beaconAdd {s : State} {fn cause : Nat} (hr : s.raised fn cause) (h : s.faults.queue.length < 32)
    (kind flags : Nat) (body payload : Bytes) : (s.beaconAdd kind flags body payload).raised fn cause := by
  rcases s.beaconAdd_faults_cases kind flags body payload with hf | ⟨s', hf, heq⟩
  · exact (State.raised_congr hf fn cause).2 hr
  · rw [heq]
    exact State.raised_raiseCore ((State.raised_congr hf fn cause).2 hr) (by rw [hf]; exact h) _ _ _ _

@[simp] theorem State.beaconAdd_out (s : State) (kind flags : Nat) (body payload : Bytes) :
    (s.beaconAdd kind flags body payload).out = s.out := by
  unfold State.beaconAdd
  dsimp only
  split
  · exact (State.raiseCore_out _ _ _ _ _).trans (State.beaconPut_out _ _)
  · exact State.beaconPut_out _ _

/-! ### A role entry, and the health report (R391, R397) -/

theorem State.raised_settleRole {s : State} {fn cause : Nat} (hr : s.raised fn cause) (h : s.faults.queue.length < 32) (gap : Nat) :
    (s.settleRole gap).raised fn cause := by
  unfold State.settleRole
  split
  · exact hr
  · exact State.raised_beaconAdd (by exact hr) (by exact h) _ _ _ _

theorem State.settleRole_link (s : State) (gap : Nat) : (s.settleRole gap).link = s.link := by
  unfold State.settleRole
  split
  · rfl
  · exact State.beaconAdd_link _ _ _ _ _
theorem State.settleRole_role (s : State) (gap : Nat) : (s.settleRole gap).pair.role = s.pair.role := by
  unfold State.settleRole
  split
  · rfl
  · rw [State.beaconAdd_pair]
theorem State.settleRole_out (s : State) (gap : Nat) : (s.settleRole gap).out = s.out := by
  unfold State.settleRole
  split
  · rfl
  · exact State.beaconAdd_out _ _ _ _ _
theorem State.get_settleRole (s : State) (gap : Nat) {k : Nat} (h : k ∉ reportKeys) : (s.settleRole gap).get k = s.get k := by
  unfold State.settleRole
  split
  · rfl
  · exact State.get_beaconAdd _ _ _ _ _ h

theorem State.mem_out_twinSend {s : State} {kind tail : Nat} {payload : Bytes} {o : Out} (h : o ∈ s.out) :
    o ∈ (s.twinSend kind tail payload).out := by
  unfold State.twinSend
  dsimp only
  split_ifs <;> simp [State.twinEmit, State.putTwin, State.driveTwin, h]
theorem State.twinSend_role (s : State) (kind tail : Nat) (payload : Bytes) : (s.twinSend kind tail payload).pair.role = s.pair.role := by
  unfold State.twinSend
  dsimp only
  split_ifs <;> rfl

theorem State.sendHealth_link (s : State) : s.sendHealth.link = s.link := by
  unfold State.sendHealth
  split
  · rfl
  · exact State.twinSend_link _ _ _ _
theorem State.sendHealth_faults (s : State) : s.sendHealth.faults = s.faults := by
  unfold State.sendHealth
  split
  · rfl
  · exact State.twinSend_faults _ _ _ _
theorem State.sendHealth_role (s : State) : s.sendHealth.pair.role = s.pair.role := by
  unfold State.sendHealth
  split
  · rfl
  · exact State.twinSend_role _ _ _ _
theorem State.get_sendHealth (s : State) (k : Nat) : s.sendHealth.get k = s.get k := by
  unfold State.sendHealth
  split
  · rfl
  · exact State.get_twinSend _ _ _ _ _
theorem State.mem_out_sendHealth {s : State} {o : Out} (h : o ∈ s.out) : o ∈ s.sendHealth.out := by
  unfold State.sendHealth
  split
  · exact h
  · exact State.mem_out_twinSend h

/-! ### Giving up the panel (R144, R166) -/

@[simp] theorem State.dropPanel_faults (s : State) : s.dropPanel.faults = s.faults := by
  unfold State.dropPanel
  dsimp only
  split <;> rfl
@[simp] theorem State.dropPanel_pair (s : State) : s.dropPanel.pair = s.pair := by
  unfold State.dropPanel
  dsimp only
  split <;> rfl
@[simp] theorem State.get_dropPanel (s : State) (k : Nat) : s.dropPanel.get k = s.get k := by
  unfold State.dropPanel
  dsimp only
  split <;> rfl

theorem State.mem_out_dropPanel {s : State} {o : Out} (h : o ∈ s.out) : o ∈ s.dropPanel.out := by
  unfold State.dropPanel
  dsimp only
  split <;> simp [State.mark, State.driveOnly, State.driveAll, State.drive, h]

/-- A port that does not train tells the hub that it enters electrical idle. -/
theorem State.idleSet_mem_dropPanel {s : State} (h : s.link.step = 0) : Out.orderedSet false 3 0 0 ∈ s.dropPanel.out := by
  unfold State.dropPanel
  dsimp only
  simp [h, State.mark, State.driveOnly, State.driveAll, State.drive]

/-- The port is in standby with nothing to send or staged, and its electrical-idle set has gone out. -/
structure State.PanelGivenUp (s : State) : Prop where
  standby : s.get 0x480001 = 3
  retry : s.link.retry = []
  waiting : s.link.waiting = []
  rects : s.link.rects = []
  claims : s.link.claims = []
  idle : Out.orderedSet false 3 0 0 ∈ s.out

theorem State.PanelGivenUp.linkUp {s : State} (h : s.PanelGivenUp) : s.linkUp = false := by
  simp [State.linkUp, h.standby]

/-- What leaves the link, its state and the output alone leaves the panel given up. -/
theorem State.PanelGivenUp.of_frame {s s' : State} (h : s.PanelGivenUp) (hlink : s'.link = s.link) (hget : s'.get 0x480001 = s.get 0x480001)
    (hout : ∀ o ∈ s.out, o ∈ s'.out) : s'.PanelGivenUp where
  standby := hget.trans h.standby
  retry := hlink ▸ h.retry
  waiting := hlink ▸ h.waiting
  rects := hlink ▸ h.rects
  claims := hlink ▸ h.claims
  idle := hout _ h.idle

theorem State.panelGivenUp_dropPanel {s : State} (h : s.link.step = 0) : (s.dropPanel.put 0x480001 3).PanelGivenUp where
  standby := State.get_put_self _ _ _
  retry := rfl
  waiting := rfl
  rects := rfl
  claims := rfl
  idle := State.idleSet_mem_dropPanel h

theorem State.PanelGivenUp.dropPanel {s : State} (h : s.PanelGivenUp) : s.dropPanel.PanelGivenUp where
  standby := (s.get_dropPanel _).trans h.standby
  retry := rfl
  waiting := rfl
  rects := rfl
  claims := rfl
  idle := State.mem_out_dropPanel h.idle

theorem State.PanelGivenUp.put {s : State} (h : s.PanelGivenUp) {k : Nat} (hk : 0x480001 ≠ k) (v : Nat) : (s.put k v).PanelGivenUp :=
  h.of_frame rfl (s.get_put_ne hk v) fun _ ho => ho

theorem State.PanelGivenUp.raise {s : State} (h : s.PanelGivenUp) (fn cause detail : Nat) : (s.raise fn cause detail).PanelGivenUp :=
  h.of_frame (s.raise_link _ _ _) (s.get_raise _ _ _ (by decide)) fun _ ho => (State.raiseCore_out _ _ _ _ _).symm ▸ ho

theorem State.PanelGivenUp.settleRole {s : State} (h : s.PanelGivenUp) (gap : Nat) : (s.settleRole gap).PanelGivenUp :=
  h.of_frame (s.settleRole_link gap) (s.get_settleRole gap (by decide)) fun _ ho => (s.settleRole_out gap).symm ▸ ho

theorem State.PanelGivenUp.sendHealth {s : State} (h : s.PanelGivenUp) : s.sendHealth.PanelGivenUp :=
  h.of_frame s.sendHealth_link (s.get_sendHealth _) fun _ => State.mem_out_sendHealth

theorem State.PanelGivenUp.finish {s : State} {t : Nat} {f : State → State} (h : (f (s.begin t)).PanelGivenUp) :
    (s.finish t f).PanelGivenUp :=
  h.of_frame (s.finish_link t f) (s.get_finish t f (by decide) (by decide)) fun _ => State.mem_finish_out

/-! ### Becoming standby (R144, R394, R395) -/

/-- Every stream of a list waits for its source. -/
def State.waitStreams (s : State) (l : List Nat) : State := l.foldl (fun s n => s.put (streamK n 0x10) 1) s

theorem State.waitStreams_faults (s : State) (l : List Nat) : (s.waitStreams l).faults = s.faults := by
  induction l generalizing s with
  | nil => rfl
  | cons n l ih => exact ih _
theorem State.waitStreams_pair (s : State) (l : List Nat) : (s.waitStreams l).pair = s.pair := by
  induction l generalizing s with
  | nil => rfl
  | cons n l ih => exact ih _

theorem State.PanelGivenUp.waitStreams {s : State} (h : s.PanelGivenUp) {l : List Nat} (hl : ∀ n ∈ l, n < 24) :
    (s.waitStreams l).PanelGivenUp := by
  induction l generalizing s with
  | nil => exact h
  | cons n l ih =>
    have hn : n < 24 := hl n List.mem_cons_self
    have hk : 0x480001 ≠ streamK n 0x10 := by
      simp only [streamK, keyOf]
      omega
    exact ih (h.put hk 1) fun m hm => hl m (List.mem_cons_of_mem _ hm)

theorem State.lt_of_mem_streamsOn {s : State} {n : Nat} (h : n ∈ s.streamsOn) : n < 24 := List.mem_range.1 (List.mem_filter.1 h).1

/-- The member's role is a standby's (R383). -/
def State.standbyRole (s : State) : State := { s with pair := { s.pair with role := 2, yieldingSince := none } }

/-- A trained link is in a standby's state; exposure writes that have not begun are dropped. -/
def State.standbyLink (s : State) : State :=
  let s := if s.link.trained then s.put 0x480001 3 else s
  { s with media := { s.media with cams := s.media.cams.map fun (c : Cam) => { c with jobs := [] } } }

theorem State.becomeStandby_eq (s : State) :
    s.becomeStandby = s.dropPanel.standbyRole.standbyLink.waitStreams s.dropPanel.standbyRole.standbyLink.streamsOn := rfl

theorem State.standbyLink_faults (s : State) : s.standbyLink.faults = s.faults := by
  unfold State.standbyLink
  dsimp only
  split <;> rfl
theorem State.standbyLink_pair (s : State) : s.standbyLink.pair = s.pair := by
  unfold State.standbyLink
  dsimp only
  split <;> rfl
theorem State.standbyLink_link (s : State) : s.standbyLink.link = s.link := by
  unfold State.standbyLink
  dsimp only
  split <;> rfl
theorem State.standbyLink_out (s : State) : s.standbyLink.out = s.out := by
  unfold State.standbyLink
  dsimp only
  split <;> rfl
theorem State.get_standbyLink_of_standby {s : State} (h : s.get 0x480001 = 3) : s.standbyLink.get 0x480001 = 3 := by
  unfold State.standbyLink
  dsimp only
  split
  · exact s.get_put_self 0x480001 3
  · exact h

theorem State.becomeStandby_faults (s : State) : s.becomeStandby.faults = s.faults := by
  rw [State.becomeStandby_eq, State.waitStreams_faults, State.standbyLink_faults]
  exact s.dropPanel_faults
theorem State.becomeStandby_role (s : State) : s.becomeStandby.pair.role = 2 := by
  rw [State.becomeStandby_eq, State.waitStreams_pair, State.standbyLink_pair]
  rfl
theorem State.PanelGivenUp.becomeStandby {s : State} (h : s.PanelGivenUp) : s.becomeStandby.PanelGivenUp := by
  have hrole : s.dropPanel.standbyRole.PanelGivenUp := h.dropPanel.of_frame rfl rfl fun _ ho => ho
  have hlink : s.dropPanel.standbyRole.standbyLink.PanelGivenUp :=
    hrole.of_frame (State.standbyLink_link _) ((State.get_standbyLink_of_standby hrole.standby).trans hrole.standby.symm)
      fun _ ho => (State.standbyLink_out _).symm ▸ ho
  rw [State.becomeStandby_eq]
  exact hlink.waitStreams fun _ => State.lt_of_mem_streamsOn

/-! ### The end of the ownership (R166, R383) -/

/-- The panel is given up and cause 0x05 is raised, whatever the pair. -/
def State.endOwnership (s : State) : State := (s.dropPanel.put 0x480001 3).raise 0xA 5

/-- The fall from the active role is owed to the Beacon. -/
def State.oweRoleEntry (s : State) : State := { s with pair := { s.pair with roleEntry := some (1, s.roleView, 0x6E08) } }

/-- An active member of a pair then falls to standby, which it records and reports. -/
def State.fallToStandby (s : State) : State := ((s.becomeStandby.raise 0xE 8).oweRoleEntry.settleRole 0).sendHealth

theorem State.endOwnership_pair (s : State) : s.endOwnership.pair = s.pair := by
  rw [State.endOwnership, State.raise_pair, State.put_pair, State.dropPanel_pair]

theorem State.endOwnership_panelGivenUp {s : State} (h : s.link.step = 0) : s.endOwnership.PanelGivenUp :=
  (State.panelGivenUp_dropPanel h).raise 0xA 5 0

theorem State.endOwnership_raised {s : State} (h : s.faults.queue.length < 32) : s.endOwnership.raised 0xA 5 :=
  State.raised_raiseCore_self (by simpa using h) 0xA 5 0 _

theorem State.endOwnership_queue_length {s : State} (h : s.faults.queue.length < 32) :
    s.endOwnership.faults.queue.length ≤ s.faults.queue.length + 1 := by
  have hqueue : (s.dropPanel.put 0x480001 3).faults.queue = s.faults.queue := by simp
  rw [← hqueue]
  exact State.raiseCore_queue_length (by rwa [hqueue]) 0xA 5 0 _

theorem State.PanelGivenUp.oweRoleEntry {s : State} (h : s.PanelGivenUp) : s.oweRoleEntry.PanelGivenUp :=
  h.of_frame rfl rfl fun _ ho => ho

theorem State.PanelGivenUp.fallToStandby {s : State} (h : s.PanelGivenUp) : s.fallToStandby.PanelGivenUp :=
  ((h.becomeStandby.raise 0xE 8 0).oweRoleEntry.settleRole 0).sendHealth

theorem State.fallToStandby_role (s : State) : s.fallToStandby.pair.role = 2 := by
  rw [State.fallToStandby, State.sendHealth_role, State.settleRole_role]
  exact (congrArg (·.role) (State.raise_pair _ _ _ _)).trans s.becomeStandby_role

theorem State.raised_fallToStandby {s : State} {fn cause : Nat} (hr : s.raised fn cause) (h : s.faults.queue.length < 31) :
    s.fallToStandby.raised fn cause := by
  have hroom : s.becomeStandby.faults.queue.length < 32 := by
    rw [State.becomeStandby_faults]
    omega
  have hstill : (s.becomeStandby.raise 0xE 8).raised fn cause :=
    State.raised_raiseCore ((State.raised_congr s.becomeStandby_faults fn cause).2 hr) hroom _ _ _ _
  have hlen : (s.becomeStandby.raise 0xE 8).faults.queue.length < 32 := by
    have hle := State.raiseCore_queue_length hroom 0xE 8 0 (effectOf 0xE 8)
    rw [State.becomeStandby_faults] at hle
    exact lt_of_le_of_lt hle (by omega)
  rw [State.fallToStandby, State.raised_congr (State.sendHealth_faults _)]
  exact State.raised_settleRole (s := (s.becomeStandby.raise 0xE 8).oweRoleEntry) hstill hlen 0

/-- Outside training, ownership ends with the port in standby; only the active member of a pair has a role to fall from. -/
theorem State.loseOwnership_eq {s : State} (h : s.link.step = 0) :
    s.loseOwnership = if s.paired && s.pair.role == 1 then s.endOwnership.fallToStandby else s.endOwnership := by
  have hpair := s.endOwnership_pair
  unfold State.endOwnership at hpair
  simp only [State.loseOwnership, h, if_true, hpair]
  rfl

/-- The three entries that a fall to standby may add (0xA/0x05, 0xE/0x08 and 0xF/0x03) find room, so none displaces another (R406). -/
theorem State.loseOwnership_of_acting {s : State} (hact : s.acting = true) (hstep : s.link.step = 0) (hroom : s.faults.queue.length < 28) :
    s.loseOwnership.PanelGivenUp ∧ (s.paired = true → s.loseOwnership.pair.role = 2) ∧ s.loseOwnership.raised 0xA 5 := by
  have hgiven := State.endOwnership_panelGivenUp hstep
  have hraised : s.endOwnership.raised 0xA 5 := State.endOwnership_raised (by omega)
  have hlen : s.endOwnership.faults.queue.length ≤ s.faults.queue.length + 1 := State.endOwnership_queue_length (by omega)
  rw [State.loseOwnership_eq hstep]
  split
  next => exact ⟨hgiven.fallToStandby, fun _ => State.fallToStandby_role _, State.raised_fallToStandby hraised (by omega)⟩
  next hsingle =>
    refine ⟨hgiven, fun hpaired => absurd ?_ hsingle, hraised⟩
    simpa [State.acting, hpaired] using hact

/-! ### The header that shows it (R153, R166) -/

/-- What an upstream header tells is kept: the hub's epoch, its ports, the instant, and its flag [0] counted. -/
def State.headerTaken (s : State) (h : UpHeader) : State :=
  let s := (s.put 0x48000D h.hubEpoch).put 0x48000E h.ports
  let s := { s with link := { s.link with lastHeader := some s.now } }
  if bitOf h.flags 0 then s.bump 0x480012 else s

theorem State.get_headerTaken (s : State) (h : UpHeader) {k : Nat} (hk : k ∉ [0x48000D, 0x48000E, 0x480012]) :
    (s.headerTaken h).get k = s.get k := by
  simp only [List.mem_cons, List.not_mem_nil, or_false, not_or] at hk
  obtain ⟨hepoch, hports, hflags⟩ := hk
  have hput : ((s.put 0x48000D h.hubEpoch).put 0x48000E h.ports).get k = s.get k := by
    rw [State.get_put_ne _ hports, State.get_put_ne _ hepoch]
  unfold State.headerTaken
  dsimp only
  split
  · exact (State.get_bump_ne _ hflags 1).trans hput
  · exact hput
theorem State.headerTaken_step (s : State) (h : UpHeader) : (s.headerTaken h).link.step = s.link.step := by
  unfold State.headerTaken
  dsimp only
  split <;> rfl
theorem State.headerTaken_pair (s : State) (h : UpHeader) : (s.headerTaken h).pair = s.pair := by
  unfold State.headerTaken
  dsimp only
  split <;> rfl
theorem State.headerTaken_faults (s : State) (h : UpHeader) : (s.headerTaken h).faults = s.faults := by
  unfold State.headerTaken
  dsimp only
  split <;> rfl
theorem State.headerTaken_paired (s : State) (h : UpHeader) : (s.headerTaken h).paired = s.paired := by
  rw [State.paired, s.get_headerTaken h (by decide), State.paired]
theorem State.headerTaken_acting (s : State) (h : UpHeader) : (s.headerTaken h).acting = s.acting := by
  rw [State.acting, State.headerTaken_paired, State.headerTaken_pair, State.acting]

/-- A header shows this port that its ownership is lost, as the model judges it (R166). -/
def State.showsLoss (s : State) (h : UpHeader) : Bool :=
  let owner := s.get 0x480001 == 2 || ((s.get 0x480001 == 1 || s.get 0x480001 == 4) && s.link.owned)
  s.acting && ((bitOf h.flags 0 && (owner || s.link.claiming.isSome)) || (owner && !bitOf h.ports 4))

theorem State.upstream_of_showsLoss {s : State} {b : Bytes} (hs : s.served = true) (hcrc : upCrcOk b = true)
    (hloss : (s.headerTaken (upHeader b)).showsLoss (upHeader b) = true) (kind : Nat) (f : UpHeader → State → State) :
    s.upstream kind b false f = (s.headerTaken (upHeader b)).loseOwnership := by
  simp only [State.upstream, State.awake, hs, hcrc, if_true, Bool.not_true, Bool.false_eq_true, if_false]
  exact if_pos hloss

/-- A header of whatever packet that shows the owner another port, or flag [0], ends the ownership (R166). -/
theorem State.upstream_of_lost {s : State} {b : Bytes} (hs : s.served = true) (hcrc : upCrcOk b = true) (hact : s.acting = true)
    (howner : s.get 0x480001 = 2) (hlost : bitOf (upHeader b).flags 0 = true ∨ bitOf (upHeader b).ports 4 = false) (kind : Nat)
    (f : UpHeader → State → State) : s.upstream kind b false f = (s.headerTaken (upHeader b)).loseOwnership := by
  have hact' : (s.headerTaken (upHeader b)).acting = true := (s.headerTaken_acting _).trans hact
  have howner' : (s.headerTaken (upHeader b)).get 0x480001 = 2 := (s.get_headerTaken _ (by decide)).trans howner
  refine State.upstream_of_showsLoss hs hcrc ?_ kind f
  simpa [State.showsLoss, hact', howner'] using hlost

/-- Where the owner does not train and its fault queue has room, such a header ends with the panel and the active role given up and cause
0x05 raised. -/
theorem State.upstream_ends_ownership {s : State} {b : Bytes} (hs : s.served = true) (hcrc : upCrcOk b = true) (hact : s.acting = true)
    (howner : s.get 0x480001 = 2) (hstep : s.link.step = 0)
    (hlost : bitOf (upHeader b).flags 0 = true ∨ bitOf (upHeader b).ports 4 = false) (hroom : s.faults.queue.length < 28)
    (kind : Nat) (f : UpHeader → State → State) :
    (s.upstream kind b false f).PanelGivenUp ∧ (s.paired = true → (s.upstream kind b false f).pair.role = 2)
      ∧ (s.upstream kind b false f).raised 0xA 5 := by
  rw [State.upstream_of_lost hs hcrc hact howner hlost, ← s.headerTaken_paired (upHeader b)]
  refine State.loseOwnership_of_acting ((s.headerTaken_acting _).trans hact) ((s.headerTaken_step _).trans hstep) ?_
  rw [State.headerTaken_faults]
  exact hroom

/-! ### O31 -/

/-- Settles O31: the header brings the port to the loss of ownership, which gives up the panel, raises cause 0x05 with room for it in the
queue, and lets the active member of a pair fall to standby. -/
theorem ownershipLostEndsSending : Obligations.OwnershipLostEndsSending := by
  intro s t b locked errors hs hcrc hact howner hstep hlost hroom
  obtain ⟨hgiven, hrole, hraised⟩ := State.upstream_ends_ownership (s := s.begin t) hs hcrc hact howner hstep hlost hroom 0x84
    fun _ s => s.laneStatus locked errors
  have hend := State.PanelGivenUp.finish (f := fun s => s.upstream 0x84 b false fun _ s => s.laneStatus locked errors) hgiven
  rw [exec_status]
  refine answers_act ⟨hend.standby, hend.linkUp, hend.retry, hend.waiting, hend.rects, hend.claims, hend.idle, fun hpaired => ?_, ?_⟩
  · rw [State.finish_pair]
    exact hrole hpaired
  · exact (State.raised_congr (State.finish_faults _ _ _) 0xA 5).2 hraised

end Sys2Proof.Machine
end

section
/-!
PROOFS. What raises, ends of conditions and sweeps make of a cause that they are not about, and how a cause clears with its last item (R404,
R406).
-/

namespace Sys2Proof.Machine

/-! ### What stands and what is raised of one cause (R404) -/

/-- The items for which a cause stands. -/
def State.standingOf (s : State) (fn cause : Nat) : List (Nat × Nat × Nat) :=
  s.faults.standing.filter fun x => x.1 == fn && x.2.1 == cause

/-- The event sequences of a cause's entries in the queue that have not cleared. -/
def State.openSeqs (s : State) (fn cause : Nat) : List Nat :=
  (s.faults.queue.filter fun g => g.fn == fn && g.cause == cause && !g.cleared).map (·.seq)

theorem State.mem_openSeqs {s : State} {fn cause q : Nat} :
    q ∈ s.openSeqs fn cause ↔ ∃ g ∈ s.faults.queue, g.fn = fn ∧ g.cause = cause ∧ g.cleared = false ∧ g.seq = q := by
  simp [State.openSeqs, and_assoc]

theorem State.not_raised_of_openSeqs {s : State} {fn cause : Nat} (h : s.openSeqs fn cause = []) : ¬ s.raised fn cause := by
  rintro ⟨g, hmem, hfn, hcause, hclear⟩
  have hq : g.seq ∈ s.openSeqs fn cause := State.mem_openSeqs.2 ⟨g, hmem, hfn, hcause, hclear, rfl⟩
  simp [h] at hq

theorem State.stands_of_standingOf {s : State} {fn cause : Nat} (h : s.standingOf fn cause = []) (item : Nat) :
    s.stands fn cause item = false := by
  have hmem : (fn, cause, item) ∉ s.faults.standing := fun hin => by
    have hst : (fn, cause, item) ∈ s.standingOf fn cause := List.mem_filter.2 ⟨hin, by simp⟩
    simp [h] at hst
  simpa [State.stands] using hmem

/-- From one state to another a cause neither begins nor ceases to stand for an item, and is not raised anew. -/
structure State.NotRaising (fn cause : Nat) (s s' : State) : Prop where
  standing : s'.standingOf fn cause = s.standingOf fn cause
  entries : s'.openSeqs fn cause ⊆ s.openSeqs fn cause

section NotRaising
variable {fn cause fn' cause' : Nat} {s s' s'' : State}

theorem State.NotRaising.trans (h : s.NotRaising fn cause s') (h' : s'.NotRaising fn cause s'') : s.NotRaising fn cause s'' where
  standing := h'.standing.trans h.standing
  entries := List.Subset.trans h'.entries h.entries

theorem State.NotRaising.of_faults (h : s'.faults = s.faults) : s.NotRaising fn cause s' where
  standing := by rw [State.standingOf, h, State.standingOf]
  entries := by rw [State.openSeqs, h, State.openSeqs]; exact List.Subset.refl _

theorem State.NotRaising.refl (s : State) : s.NotRaising fn cause s := .of_faults rfl

theorem State.NotRaising.put (s : State) (k v : Nat) : s.NotRaising fn cause (s.put k v) := .of_faults (s.put_faults k v)

theorem State.NotRaising.setCam (s : State) (p : Nat) (c : Cam) : s.NotRaising fn cause (s.setCam p c) := .of_faults rfl

theorem State.NotRaising.foldl {α : Type} {f : State → α → State} (hf : ∀ (s : State) (a : α), s.NotRaising fn cause (f s a))
    (l : List α) (s : State) :
    s.NotRaising fn cause (l.foldl f s) := by
  induction l generalizing s with
  | nil => exact .refl s
  | cons a l ih => exact (hf s a).trans (ih (f s a))

/-- It is enough that an entry of the cause uncleared afterwards was uncleared before, under the same event sequence. -/
theorem State.NotRaising.of_queue (hst : s'.faults.standing = s.faults.standing)
    (hq : ∀ g ∈ s'.faults.queue, g.fn = fn → g.cause = cause → g.cleared = false →
      ∃ f ∈ s.faults.queue, f.fn = fn ∧ f.cause = cause ∧ f.cleared = false ∧ f.seq = g.seq) : s.NotRaising fn cause s' where
  standing := by rw [State.standingOf, hst, State.standingOf]
  entries := fun q hmem => by
    obtain ⟨g, hg, hfn, hcause, hclear, rfl⟩ := State.mem_openSeqs.1 hmem
    exact State.mem_openSeqs.2 (hq g hg hfn hcause hclear)

/-! #### Raises of other causes (R403, R404, R406) -/

theorem removeHandled_subset {l q : List FaultEntry} (h : removeHandled l = some q) : q ⊆ l := by
  induction l generalizing q with
  | nil => cases h
  | cons f l ih =>
    unfold removeHandled at h
    split at h
    · cases h
      exact List.subset_cons_self f l
    · obtain ⟨r, hr, rfl⟩ := Option.map_eq_some_iff.1 h
      exact List.cons_subset_cons f (ih hr)

theorem State.contain_standing (s : State) (fn cause : Nat) (e : Effect) :
    (s.contain fn cause e).faults.standing = s.faults.standing := by
  unfold State.contain
  split
  · rfl
  · split <;> rfl
  · rfl

theorem State.repeatFault_standing (s : State) (f : FaultEntry) (detail : Nat) :
    (s.repeatFault f detail).faults.standing = s.faults.standing := by
  simp [State.repeatFault, State.newEntry]

theorem State.queueFault_standing (s : State) (f : FaultEntry) (start : Nat) :
    (s.queueFault f start).faults.standing = s.faults.standing := by
  unfold State.queueFault
  dsimp only
  split
  · rfl
  · split <;> rfl

theorem State.raiseCore_standing (s : State) (fn cause detail : Nat) (e : Effect) :
    (s.raiseCore fn cause detail e).faults.standing = s.faults.standing := by
  unfold State.raiseCore
  dsimp only
  split
  · rw [State.repeatFault_standing, State.contain_standing]
  · rw [State.queueFault_standing]
    exact State.contain_standing s fn cause e

/-- Of what stood in the queue a new fault leaves some, and joins it itself if there is room (R406). -/
theorem State.mem_queueFault {f g : FaultEntry} {start : Nat} (h : g ∈ (s.queueFault f start).faults.queue) :
    g ∈ s.faults.queue ∨ g = f := by
  unfold State.queueFault at h
  dsimp only at h
  split at h
  · simpa using h
  · split at h
    next q hq =>
      rcases List.mem_append.1 (show g ∈ q ++ [f] from h) with hmem | hmem
      · exact .inl (removeHandled_subset hq hmem)
      · exact .inr (List.mem_singleton.1 hmem)
    next => exact .inl h

theorem State.NotRaising.repeatFault (s : State) (f : FaultEntry) (detail : Nat) : s.NotRaising fn cause (s.repeatFault f detail) := by
  refine .of_queue (s.repeatFault_standing f detail) fun g hg hfn hcause hclear => ?_
  rw [State.repeatFault_queue] at hg
  obtain ⟨x, hx, rfl⟩ := List.mem_map.1 hg
  simp only [FaultEntry.repeated_fn, FaultEntry.repeated_cause, FaultEntry.repeated_cleared] at hfn hcause hclear
  refine ⟨x, hx, hfn, hcause, hclear, ?_⟩
  unfold FaultEntry.repeated
  split <;> rfl

/-- A new fault of another cause. -/
theorem State.NotRaising.queueFault {f : FaultEntry} (hne : f.fn = fn → f.cause ≠ cause) (s : State) (start : Nat) :
    s.NotRaising fn cause (s.queueFault f start) := by
  refine .of_queue (s.queueFault_standing f start) fun g hg hfn hcause hclear => ?_
  rcases State.mem_queueFault hg with hmem | rfl
  · exact ⟨g, hmem, hfn, hcause, hclear, rfl⟩
  · exact absurd hcause (hne hfn)

theorem State.NotRaising.contain (s : State) (e : Effect) : s.NotRaising fn cause (s.contain fn' cause' e) :=
  .of_queue (s.contain_standing fn' cause' e) fun g hg hfn hcause hclear =>
    ⟨g, State.contain_queue s fn' cause' e ▸ hg, hfn, hcause, hclear, rfl⟩

theorem State.NotRaising.countFault (s : State) (f : FaultEntry) : s.NotRaising fn cause (s.countFault f) :=
  .of_queue rfl fun g hg hfn hcause hclear => ⟨g, hg, hfn, hcause, hclear, rfl⟩

theorem State.NotRaising.raiseCore (hne : fn' = fn → cause' ≠ cause) (s : State) (detail : Nat) (e : Effect) :
    s.NotRaising fn cause (s.raiseCore fn' cause' detail e) := by
  refine (State.NotRaising.contain (fn' := fn') (cause' := cause') s e).trans ?_
  unfold State.raiseCore
  dsimp only
  split
  · exact .repeatFault _ _ _
  · exact (State.NotRaising.countFault _ _).trans (.queueFault hne _ _)

theorem State.NotRaising.raise (hne : fn' = fn → cause' ≠ cause) (s : State) (detail : Nat) :
    s.NotRaising fn cause (s.raise fn' cause' detail) := .raiseCore hne s detail _

/-- A cause stands for one item more. -/
def State.stand (s : State) (fn cause item : Nat) : State :=
  { s with faults := { s.faults with standing := s.faults.standing ++ [(fn, cause, item)] } }

theorem State.onset_eq (s : State) (fn cause item : Nat) :
    s.onset fn cause item = if s.faults.standing.contains (fn, cause, item) then s else (s.stand fn cause item).raise fn cause item := rfl

theorem State.NotRaising.onset (hne : fn' = fn → cause' ≠ cause) (s : State) (item : Nat) :
    s.NotRaising fn cause (s.onset fn' cause' item) := by
  have hstand : s.NotRaising fn cause (s.stand fn' cause' item) := by
    refine ⟨?_, List.Subset.refl _⟩
    simpa [State.standingOf, State.stand] using hne
  rw [State.onset_eq]
  split
  · exact .refl s
  · exact hstand.trans (.raise hne _ _)

/-! #### Beacon entries, and what leaves the queue (R406, R414) -/

theorem State.NotRaising.beaconAdd (hne : 0xF = fn → 3 ≠ cause) (s : State) (kind flags : Nat) (body payload : Bytes) :
    s.NotRaising fn cause (s.beaconAdd kind flags body payload) := by
  rcases s.beaconAdd_faults_cases kind flags body payload with hf | ⟨s', hf, heq⟩
  · exact .of_faults hf
  · rw [heq]
    exact (State.NotRaising.of_faults hf).trans (.raiseCore hne s' 0 _)

theorem State.sendEmcy_faults (s : State) (p : Nat) : (s.sendEmcy p).faults = s.faults := by
  unfold State.sendEmcy
  split
  · rfl
  · split
    · rfl
    · dsimp only
      split_ifs <;> rfl

theorem State.emergencyOn_faults (s : State) (e : Emcy) (p : Nat) : (s.emergencyOn e p).faults = s.faults := by
  unfold State.emergencyOn
  split
  · rfl
  · split
    · exact State.sendEmcy_faults _ _
    · rfl

theorem State.emergency_faults (s : State) (e : Emcy) : (s.emergency e).faults = s.faults := by
  unfold State.emergency
  split
  · rfl
  · rw [State.emergencyOn_faults, State.emergencyOn_faults]

/-- The queue without the entries that may leave it. -/
def State.swept (s : State) : State :=
  { s with faults := { s.faults with
      queue := s.faults.queue.filter fun f => !f.leaves, left := s.faults.left ++ s.faults.queue.filter FaultEntry.leaves } }

theorem State.NotRaising.swept (s : State) : s.NotRaising fn cause s.swept :=
  .of_queue rfl fun g hg hfn hcause hclear => ⟨g, List.mem_of_mem_filter hg, hfn, hcause, hclear, rfl⟩

/-- The event and the emergency of a queue that has become empty (R43). -/
def State.tellEmptied (s : State) : State :=
  (s.event 2).emergency { code := 0, register := (s.event 2).errorRegister, fault := 0, seq := (s.event 2).get 0x204005 }

theorem State.tellEmptied_faults (s : State) : s.tellEmptied.faults = s.faults := by
  rw [State.tellEmptied, State.emergency_faults, State.event_faults]

/-- The entries that may leave the queue have done so, which is told where it became empty. -/
def State.sweepTold (s : State) : State :=
  if !s.faults.queue.isEmpty && s.swept.faults.queue.isEmpty then s.swept.tellEmptied else s.swept

/-- An overflow of the queue is no longer owed its fault. -/
def State.payOverflow (s : State) : State := { s with faults := { s.faults with overflowOwed := false } }

theorem State.sweep_eq (s : State) :
    s.sweep = if s.sweepTold.faults.overflowOwed && s.swept.faults.queue.length < 32 then s.sweepTold.payOverflow.raise 0 4
      else s.sweepTold := rfl

theorem State.NotRaising.sweepTold (s : State) : s.NotRaising fn cause s.sweepTold := by
  refine (State.NotRaising.swept s).trans (.of_faults ?_)
  unfold State.sweepTold
  split
  · exact State.tellEmptied_faults _
  · rfl

theorem State.NotRaising.payOverflow (s : State) : s.NotRaising fn cause s.payOverflow := ⟨rfl, List.Subset.refl _⟩

theorem State.NotRaising.sweep (hne : 0 = fn → 4 ≠ cause) (s : State) : s.NotRaising fn cause s.sweep := by
  rw [State.sweep_eq]
  split
  · exact (State.NotRaising.sweepTold s).trans ((State.NotRaising.payOverflow _).trans (.raise hne _ _))
  · exact .sweepTold s

/-! #### The end of a condition (R404) -/

/-- An item has left a cause's condition. -/
def State.unstand (s : State) (fn cause item : Nat) : State :=
  { s with faults := { s.faults with standing := s.faults.standing.filter fun x => x != (fn, cause, item) } }

/-- A cause no longer degrades its function. -/
def State.undegrade (s : State) (fn cause : Nat) : State :=
  { s with faults := { s.faults with degraded := s.faults.degraded.filter fun d => d != (fn, cause) } }

/-- The entry of an event sequence is marked as cleared. -/
def FaultEntry.clearedAt (seq : Nat) (g : FaultEntry) : FaultEntry := if g.seq = seq then { g with cleared := true } else g

/-- An entry has cleared, which goes into the Beacon record, and leaves the queue if it may. -/
def State.clearEntry (s : State) (f : FaultEntry) : State :=
  (({ s with faults := { s.faults with queue := s.faults.queue.map (FaultEntry.clearedAt f.seq) } } : State).beaconAdd 3 0
    (leBytes 2 f.code ++ leBytes 2 0 ++ leBytes 4 f.seq) []).sweep

theorem State.settle_eq (s : State) (fn cause item : Nat) :
    s.settle fn cause item =
      if !s.faults.standing.contains (fn, cause, item) then s
      else if (s.unstand fn cause item).faults.standing.any (fun x => x.1 == fn && x.2.1 == cause) || !clears fn cause then
        s.unstand fn cause item
      else match s.faults.queue.find? fun f => f.fn == fn && f.cause == cause && !f.cleared with
        | none => (s.unstand fn cause item).undegrade fn cause
        | some f => ((s.unstand fn cause item).undegrade fn cause).clearEntry f := rfl

theorem FaultEntry.clearedAt_fn (seq : Nat) (g : FaultEntry) : (g.clearedAt seq).fn = g.fn := by
  unfold FaultEntry.clearedAt
  split <;> rfl
theorem FaultEntry.clearedAt_cause (seq : Nat) (g : FaultEntry) : (g.clearedAt seq).cause = g.cause := by
  unfold FaultEntry.clearedAt
  split <;> rfl

/-- An entry that is uncleared after the mark is as it was, and bears another event sequence. -/
theorem FaultEntry.clearedAt_of_uncleared {seq : Nat} {g : FaultEntry} (h : (g.clearedAt seq).cleared = false) :
    g.clearedAt seq = g ∧ g.seq ≠ seq := by
  unfold FaultEntry.clearedAt at h ⊢
  split at h
  · cases h
  · rename_i hne
    exact ⟨if_neg hne, hne⟩

/-- Marking an entry as cleared, with the record and the sweep that follow, takes its event sequence from what is raised of a cause, and
raises nothing but a Beacon or queue overflow. -/
theorem State.openSeqs_clearEntry (hb : 0xF = fn → 3 ≠ cause) (ho : 0 = fn → 4 ≠ cause) (s : State) (f : FaultEntry) :
    (s.clearEntry f).standingOf fn cause = s.standingOf fn cause
      ∧ ∀ q ∈ (s.clearEntry f).openSeqs fn cause, q ∈ s.openSeqs fn cause ∧ q ≠ f.seq := by
  have hrest := (State.NotRaising.beaconAdd hb
    { s with faults := { s.faults with queue := s.faults.queue.map (FaultEntry.clearedAt f.seq) } } 3 0
    (leBytes 2 f.code ++ leBytes 2 0 ++ leBytes 4 f.seq) []).trans (.sweep ho _)
  refine ⟨hrest.standing, fun q hq => ?_⟩
  obtain ⟨g, hg, hfn, hcause, hclear, rfl⟩ := State.mem_openSeqs.1 (hrest.entries hq)
  obtain ⟨x, hx, rfl⟩ := List.mem_map.1 hg
  obtain ⟨hsame, hseq⟩ := FaultEntry.clearedAt_of_uncleared hclear
  rw [hsame] at hfn hcause hclear ⊢
  exact ⟨State.mem_openSeqs.2 ⟨x, hx, hfn, hcause, hclear, rfl⟩, hseq⟩

theorem State.NotRaising.settle (hne : fn' = fn → cause' ≠ cause) (hb : 0xF = fn → 3 ≠ cause) (ho : 0 = fn → 4 ≠ cause) (s : State)
    (item : Nat) : s.NotRaising fn cause (s.settle fn' cause' item) := by
  have hunstand : s.NotRaising fn cause (s.unstand fn' cause' item) := by
    refine ⟨?_, List.Subset.refl _⟩
    simp only [State.standingOf, State.unstand, List.filter_filter]
    refine List.filter_congr fun x _ => ?_
    by_cases hx : x = (fn', cause', item)
    · subst hx
      simpa using hne
    · simp [hx]
  rw [State.settle_eq]
  split
  · exact .refl s
  · split
    · exact hunstand
    · split
      · exact hunstand.trans ⟨rfl, List.Subset.refl _⟩
      · obtain ⟨hst, hopen⟩ := State.openSeqs_clearEntry hb ho ((s.unstand fn' cause' item).undegrade fn' cause') ‹_›
        exact hunstand.trans ⟨hst, fun q hq => (hopen q hq).1⟩

theorem State.NotRaising.follow (hne : fn' = fn → cause' ≠ cause) (hb : 0xF = fn → 3 ≠ cause) (ho : 0 = fn → 4 ≠ cause) (s : State)
    (b : Bool) (item : Nat) : s.NotRaising fn cause (s.follow b fn' cause' item) := by
  cases b with
  | true => exact .onset hne s item
  | false => exact .settle hne hb ho s item

/-- When the only item of a cause leaves its condition, the cause stands for none; where its uncleared entries bear one event sequence, none
stays raised. -/
theorem State.settle_last {item seq : Nat} (hclears : clears fn cause = true) (hb : 0xF = fn → 3 ≠ cause) (ho : 0 = fn → 4 ≠ cause)
    (hst : s.standingOf fn cause = [(fn, cause, item)]) (hopen : s.openSeqs fn cause ⊆ [seq]) :
    (s.settle fn cause item).standingOf fn cause = [] ∧ (s.settle fn cause item).openSeqs fn cause = [] := by
  have hmem : (fn, cause, item) ∈ s.faults.standing :=
    List.mem_of_mem_filter (show (fn, cause, item) ∈ s.standingOf fn cause by simp [hst])
  have hgone : (s.unstand fn cause item).standingOf fn cause = [] := by
    have hcomm : (s.unstand fn cause item).standingOf fn cause = (s.standingOf fn cause).filter fun x => x != (fn, cause, item) := by
      simp only [State.standingOf, State.unstand, List.filter_filter, Bool.and_comm]
    simp [hcomm, hst]
  have hnone : (s.unstand fn cause item).faults.standing.any (fun x => x.1 == fn && x.2.1 == cause) = false := by
    simpa [State.standingOf] using hgone
  rw [State.settle_eq, if_neg (by simpa using hmem), if_neg (by simp [hnone, hclears])]
  split
  next hfind =>
    refine ⟨hgone, List.eq_nil_iff_forall_not_mem.2 fun q hq => ?_⟩
    obtain ⟨g, hg, hfn, hcause, hclear, -⟩ := State.mem_openSeqs.1 hq
    exact List.find?_eq_none.1 hfind g hg (by simp [hfn, hcause, hclear])
  next f hfind =>
    obtain ⟨hstand, hleft⟩ := State.openSeqs_clearEntry hb ho ((s.unstand fn cause item).undegrade fn cause) f
    refine ⟨hstand.trans hgone, List.eq_nil_iff_forall_not_mem.2 fun q hq => ?_⟩
    obtain ⟨hq, hne⟩ := hleft q hq
    have hmatch := List.find?_some hfind
    simp only [Bool.and_eq_true, beq_iff_eq, Bool.not_eq_true'] at hmatch
    obtain ⟨⟨hfn, hcause⟩, hclear⟩ := hmatch
    have hf : f.seq ∈ s.openSeqs fn cause := State.mem_openSeqs.2 ⟨f, List.mem_of_find?_eq_some hfind, hfn, hcause, hclear, rfl⟩
    exact hne ((List.mem_singleton.1 (hopen hq)).trans (List.mem_singleton.1 (hopen hf)).symm)

end NotRaising

end Sys2Proof.Machine
end

section
/-!
PROOFS. The loss of a camera port and its end at the next Frame Start (R204, O37).
-/

namespace Sys2Proof.Machine

/-! ### The CCI masters (R217) -/

theorem State.cciRun_frame (s : State) (m : Nat) : (s.cciRun m).regs = s.regs ∧ (s.cciRun m).faults = s.faults := by
  unfold State.cciRun
  dsimp only
  split
  · exact ⟨rfl, rfl⟩
  · split
    · split <;> exact ⟨rfl, rfl⟩
    · split
      · exact ⟨rfl, rfl⟩
      · split <;> exact ⟨rfl, rfl⟩

/-! ### What leaves a port's state and the loss of ports alone -/

/-- The object of a port's state, 0x3n00.11, is apart from every object of another subindex. -/
theorem lossState_ne {p k : Nat} (h : k % 256 ≠ 0x11) : camK p 0 0x11 ≠ k := by
  rintro rfl
  simp only [camK, keyOf] at h
  omega

theorem widthOf_lossState {p : Nat} (hp : p < 8) : widthOf (camK p 0 0x11) = 8 :=
  (show ∀ p < 8, widthOf (camK p 0 0x11) = 8 by decide) p hp

theorem State.get_put_lossState {p v : Nat} (hp : p < 8) (hv : v < 256) (s : State) :
    (s.put (camK p 0 0x11) v).get (camK p 0 0x11) = v := by
  rw [State.get_put_self, widthOf_lossState hp]
  exact Nat.mod_eq_of_lt hv

theorem pairK_mod (k sub : Nat) : pairK k sub % 256 = sub % 256 := by
  simp only [pairK, keyOf]
  omega

theorem lossState_not_report (p : Nat) : camK p 0 0x11 ∉ reportKeys := fun h =>
  (show ∀ k ∈ reportKeys, k % 256 ≠ 0x11 by decide) _ h (by simp only [camK, keyOf]; omega)

/-- From one state to another a port's state object is kept, the loss of a port begins and ends for none, and is not raised anew. -/
structure State.LeavesLoss (p : Nat) (s s' : State) : Prop where
  state : s'.get (camK p 0 0x11) = s.get (camK p 0 0x11)
  cause : s.NotRaising 4 3 s'

section LeavesLoss
variable {p : Nat} {s s' s'' : State}

theorem State.LeavesLoss.trans (h : s.LeavesLoss p s') (h' : s'.LeavesLoss p s'') : s.LeavesLoss p s'' :=
  ⟨h'.state.trans h.state, h.cause.trans h'.cause⟩

/-- A step over parts of the state other than the scalar objects and the faults. -/
theorem State.LeavesLoss.of_frame (hregs : s'.regs = s.regs) (hf : s'.faults = s.faults) : s.LeavesLoss p s' :=
  ⟨State.get_congr hregs _, .of_faults hf⟩

theorem State.LeavesLoss.refl (s : State) : s.LeavesLoss p s := .of_frame rfl rfl

theorem State.LeavesLoss.setCam (s : State) (q : Nat) (c : Cam) : s.LeavesLoss p (s.setCam q c) := .of_frame rfl rfl
theorem State.LeavesLoss.setStereo (s : State) (k : Nat) (c : StereoPair) : s.LeavesLoss p (s.setStereo k c) := .of_frame rfl rfl
theorem State.LeavesLoss.setRun (s : State) (n : Nat) (r : LayerRun) : s.LeavesLoss p (s.setRun n r) := .of_frame rfl rfl

/-- A free value that is drawn first changes nothing of it. -/
theorem State.LeavesLoss.of_draw (h : s.draw.1.LeavesLoss p s') : s.LeavesLoss p s' := .trans (s' := s.draw.1) (.of_frame rfl rfl) h

theorem State.LeavesLoss.put {k : Nat} (hk : k % 256 ≠ 0x11) (s : State) (v : Nat) : s.LeavesLoss p (s.put k v) :=
  ⟨s.get_put_ne (lossState_ne hk) v, .of_faults rfl⟩

theorem State.LeavesLoss.bump {k : Nat} (hk : k % 256 ≠ 0x11) (s : State) (n : Nat) : s.LeavesLoss p (s.bump k n) :=
  .put hk s _

theorem State.LeavesLoss.foldl {α : Type} {f : State → α → State} (hf : ∀ (s : State) (a : α), s.LeavesLoss p (f s a)) (l : List α)
    (s : State) : s.LeavesLoss p (l.foldl f s) := by
  induction l generalizing s with
  | nil => exact .refl s
  | cons a l ih => exact (hf s a).trans (ih (f s a))

theorem State.LeavesLoss.raise {fn cause : Nat} (hne : fn = 4 → cause ≠ 3) (s : State) (detail : Nat) :
    s.LeavesLoss p (s.raise fn cause detail) := ⟨s.get_raise _ _ _ (lossState_not_report p), .raise hne s detail⟩

theorem State.LeavesLoss.onset {fn cause : Nat} (hne : fn = 4 → cause ≠ 3) (s : State) (item : Nat) :
    s.LeavesLoss p (s.onset fn cause item) := ⟨s.get_onset _ _ _ (lossState_not_report p), .onset hne s item⟩

theorem State.LeavesLoss.settle {fn cause : Nat} (hne : fn = 4 → cause ≠ 3) (s : State) (item : Nat) :
    s.LeavesLoss p (s.settle fn cause item) :=
  ⟨s.get_settle _ _ _ (lossState_not_report p), .settle hne (by decide) (by decide) s item⟩

theorem State.LeavesLoss.beaconAdd (s : State) (kind flags : Nat) (body payload : Bytes) :
    s.LeavesLoss p (s.beaconAdd kind flags body payload) :=
  ⟨s.get_beaconAdd _ _ _ _ (lossState_not_report p), .beaconAdd (by decide) s _ _ _ _⟩

theorem State.LeavesLoss.cciRun (s : State) (m : Nat) : s.LeavesLoss p (s.cciRun m) :=
  .of_frame (s.cciRun_frame m).1 (s.cciRun_frame m).2

/-! #### Pairing and searches (R231, R232, R235) -/

theorem State.LeavesLoss.countAbandoned (s : State) (k : Nat) : s.LeavesLoss p (s.countAbandoned k) := by
  refine .trans ?_ (.raise (by decide) _ k)
  exact (State.LeavesLoss.bump (by decide) s 1).trans (.setStereo _ k _)

theorem State.LeavesLoss.unpairedFrame (s : State) (k : Nat) : s.LeavesLoss p (s.unpairedFrame k) := by
  refine (State.LeavesLoss.bump (k := 0x380005) (by decide) s 1).trans ?_
  unfold State.unpairedFrame
  dsimp only
  split
  · exact (State.LeavesLoss.setStereo _ k _).trans (.onset (by decide) _ k)
  · exact .setStereo _ k _

theorem State.LeavesLoss.finishSearch (s : State) (k : Nat) (ref partner : Picture) : s.LeavesLoss p (s.finishSearch k ref partner) := by
  have hsub : pairK k 0x0B % 256 ≠ 0x11 := by
    rw [pairK_mod]
    decide
  exact (State.LeavesLoss.setStereo s k _).trans ((State.LeavesLoss.put hsub _ _).trans (.of_frame rfl rfl))

theorem State.LeavesLoss.searchRowOf (s : State) (k : Nat) (ref partner : Picture) : s.LeavesLoss p (s.searchRowOf k ref partner) := by
  unfold State.searchRowOf
  dsimp only
  split
  · exact (State.LeavesLoss.setStereo s.draw.1 k _).of_draw.trans (.finishSearch _ k ref partner)
  · exact (State.LeavesLoss.setStereo s.draw.1 k _).of_draw

theorem State.LeavesLoss.searchRows (k n : Nat) (s : State) : s.LeavesLoss p (searchRows k n s) := by
  induction n generalizing s with
  | zero => exact .refl s
  | succ n ih =>
    unfold Machine.searchRows
    split
    · exact (State.LeavesLoss.searchRowOf _ _ _ _).trans (ih _)
    · exact .refl s

theorem State.LeavesLoss.pairedFrame (s : State) (k : Nat) (ref partner : Picture) : s.LeavesLoss p (s.pairedFrame k ref partner) := by
  refine (State.LeavesLoss.settle (fn := 5) (cause := 2) (by decide) s k).trans ?_
  unfold State.pairedFrame
  generalize s.settle 5 2 k = s
  dsimp only
  have hbegin {c : StereoPair} {fresh : Bool} : s.LeavesLoss p ((s.setStereo k c).beginSearch k ref partner fresh) :=
    (State.LeavesLoss.setStereo s k c).trans (.setStereo _ k _)
  split
  · split
    · exact (State.LeavesLoss.setStereo s k _).trans ((State.LeavesLoss.countAbandoned _ k).trans (.setStereo _ k _))
    · exact (State.LeavesLoss.setStereo s k _).trans (.setStereo _ k _)
  · split
    · split
      · exact hbegin.trans ((State.LeavesLoss.setStereo _ k _).trans (.searchRows k _ _))
      · exact hbegin
    · exact hbegin

theorem State.LeavesLoss.settlePairs (k n : Nat) (s : State) : s.LeavesLoss p (settlePairs k n s) := by
  induction n generalizing s with
  | zero => exact .refl s
  | succ n ih =>
    unfold Machine.settlePairs
    dsimp only
    split
    · exact .refl s
    · split
      · exact .refl s
      · split
        · exact (State.LeavesLoss.setStereo s k _).trans ((State.LeavesLoss.pairedFrame _ k _ _).trans (ih _))
        · exact (State.LeavesLoss.setStereo s k _).trans ((State.LeavesLoss.unpairedFrame _ k).trans (ih _))

theorem State.LeavesLoss.settleFrames (s : State) : s.LeavesLoss p s.settleFrames :=
  .foldl (f := fun s k => (Machine.settlePairs k (s.stereo k).waitingRef.length s).dropPartners k)
    (fun s k => (State.LeavesLoss.settlePairs k _ s).trans (.setStereo _ k _)) _ s

/-! #### Frames through memory, and layers that are stale no longer (R92, R210) -/

theorem State.LeavesLoss.startProcessing (n : Nat) (s : State) : s.LeavesLoss p (startProcessing n s) := by
  induction n generalizing s with
  | zero => exact .refl s
  | succ n ih =>
    unfold Machine.startProcessing
    split
    · dsimp only
      split
      · split
        · exact (State.LeavesLoss.bump (by decide) s 1).trans ((State.LeavesLoss.setCam _ _ _).trans (ih _))
        · exact (State.LeavesLoss.setCam s _ _).trans (ih _)
      · exact .refl s
    · exact .refl s

theorem State.LeavesLoss.layerEntry (s : State) (n old : Nat) : s.LeavesLoss p (s.layerEntry n old) := by
  unfold State.layerEntry
  dsimp only
  split
  · exact .beaconAdd _ _ _ _ _
  · exact .refl s

theorem State.LeavesLoss.unstale (s : State) : s.LeavesLoss p s.unstale := by
  refine State.LeavesLoss.foldl (fun s n => ?_) _ s
  dsimp only
  split_ifs
  · exact (State.LeavesLoss.setRun s n _).trans ((State.LeavesLoss.layerEntry _ n 5).trans (.settle (by decide) _ n))
  · exact .refl s

end LeavesLoss

/-! ### The end of the earlier frame (R203, R210, R215) -/

theorem State.camError_faults (s : State) (p i n : Nat) : (s.camError p i n).faults = s.faults := rfl

theorem State.postStats_faults (s : State) (p : Nat) (f : CamFrame) (block : Bytes) : (s.postStats p f block).faults = s.faults := by
  unfold State.postStats
  dsimp only
  split
  · exact State.twinSend_faults _ _ _ _
  · rfl

theorem State.requestMotion_faults (s : State) (n : Nat) : (s.requestMotion n).faults = s.faults := by
  unfold State.requestMotion
  extract_lets st job
  split <;> rfl

section FrameEnd
variable {fn cause : Nat}

theorem State.NotRaising.camErrorIf (b : Prop) [Decidable b] (s : State) (p i n : Nat) :
    s.NotRaising fn cause (if b then s.camError p i n else s) := by
  split
  · exact .of_faults (s.camError_faults p i n)
  · exact .refl s

theorem State.NotRaising.requestMotions (s : State) (p : Nat) : s.NotRaising fn cause (s.requestMotions p) :=
  .foldl (fun s n => .of_faults (s.requestMotion_faults n)) _ s

theorem State.NotRaising.offerFrame (s : State) (p : Nat) (pic : Picture) : s.NotRaising fn cause (s.offerFrame p pic) := by
  refine State.NotRaising.foldl (fun s k => ?_) _ s
  dsimp only
  split_ifs <;> exact .of_faults rfl

end FrameEnd

theorem State.NotRaising.settleFrames (s : State) : s.NotRaising 4 3 s.settleFrames := (State.LeavesLoss.settleFrames (p := 0) s).cause

theorem State.NotRaising.startProcessing (n : Nat) (s : State) : s.NotRaising 4 3 (startProcessing n s) :=
  (State.LeavesLoss.startProcessing (p := 0) n s).cause

theorem State.NotRaising.processFrame (s : State) (p : Nat) (f : CamFrame) : s.NotRaising 4 3 (s.processFrame p f) := by
  have hpost (block : Bytes) : s.NotRaising 4 3 (s.postStats p f block) := .of_faults (s.postStats_faults p f block)
  have hdeliver (s : State) (c : Cam) (pic : Picture) :
      s.NotRaising 4 3 (((s.setCam p c).offerFrame p pic).settleFrames.requestMotions p) :=
    (State.NotRaising.setCam s p c).trans
      ((State.NotRaising.offerFrame _ p pic).trans ((State.NotRaising.settleFrames _).trans (.requestMotions _ p)))
  unfold State.processFrame
  extract_lets flags set planes first dev out luma lines posted
  split
  · exact (hpost _).trans (.settleFrames _)
  · exact (hpost _).trans (hdeliver _ _ _)

theorem State.NotRaising.pushRaw (s : State) (p : Nat) (f : CamFrame) : s.NotRaising 4 3 (s.pushRaw p f) := by
  unfold State.pushRaw
  extract_lets c i kept dropped pushed
  have hpushed : s.NotRaising 4 3 pushed := by
    unfold pushed
    split
    · exact .setCam s p _
    · split
      · exact .refl s
      · exact .of_faults (dropped.postStats_faults p _ _)
  exact hpushed.trans ((State.NotRaising.settleFrames _).trans (.startProcessing 8 _))

theorem State.NotRaising.endFrame (s : State) (p how : Nat) : s.NotRaising 4 3 (s.endFrame p how) := by
  unfold State.endFrame
  extract_lets c long
  split
  · exact .refl s
  · extract_lets short damaged flags f tooMany run taken short' long' damaged' ended
    have hcounted : s.NotRaising 4 3 damaged' :=
      (State.NotRaising.setCam s p _).trans ((State.NotRaising.camErrorIf _ taken p 0 1).trans
        ((State.NotRaising.camErrorIf _ short' p 1 1).trans (.camErrorIf _ long' p 6 1)))
    have hended : s.NotRaising 4 3 ended := by
      unfold ended
      split
      · exact hcounted.trans (.raise (by decide) _ p)
      · exact hcounted
    split
    · exact hended.trans (.pushRaw _ p _)
    · exact hended.trans (.processFrame _ p _)

/-! ### A Frame Start (R202, R207, R208, R212) -/

theorem State.NotRaising.shadowCommit {fn cause : Nat} (s : State) (p : Nat) : s.NotRaising fn cause (s.shadowCommit p) := by
  unfold State.shadowCommit
  extract_lets k bad checked
  have hchecked : checked.faults = s.faults := by
    unfold checked
    split <;> rfl
  exact .of_faults hchecked

theorem State.NotRaising.latchSet {fn cause : Nat} (s : State) (p counter : Nat) : s.NotRaising fn cause (s.latchSet p counter) :=
  .of_faults (State.cciRun_frame _ _).2

theorem State.NotRaising.reissueRaw {fn cause : Nat} (s : State) (n : Nat) : s.NotRaising fn cause (s.reissueRaw n) := by
  refine State.NotRaising.foldl (fun s p => ?_) _ s
  dsimp only
  split
  · split_ifs <;> exact .of_faults rfl
  · exact .refl s

theorem State.NotRaising.leavePipeline {fn cause : Nat} (s : State) (p n : Nat) : s.NotRaising fn cause (s.leavePipeline p n) := by
  unfold State.leavePipeline
  dsimp only
  split
  · exact (State.NotRaising.foldl (fun s q => .put s (camK q 0 0x12) 0xFF) _ s).trans (.put _ _ _)
  · exact .refl s

/-- An accepted Frame Start raises no loss in what comes before its end, which puts the port's state to 2, takes it out of the loss, and
lets its CCI master go on (R202, R204). -/
theorem State.startFrame_cases {s : State} {p : Nat} (hon : s.camOn p = true) (hu : s.usable 4 = true) (number : Nat) :
    ∃ (s₁ : State) (m : Nat), s.NotRaising 4 3 s₁
      ∧ s.startFrame p number = ((startProcessing 8 (s₁.put (camK p 0 0x11) 2).settleFrames).settle 4 3 p).cciRun m := by
  unfold State.startFrame
  rw [if_neg (by simp [hon, hu])]
  extract_lets ended c adv counter missing counted missed latch committed latched c₁ inForce c₂
  split
  extract_lets tagged
  split
  extract_lets slipped late was pipe again left placed f c₃ begun
  have hmissed : ended.NotRaising 4 3 missed := (State.NotRaising.put ended _ counter).trans (.camErrorIf _ counted p 7 missing)
  have hlatched : missed.NotRaising 4 3 latched := by
    refine (State.NotRaising.shadowCommit missed p).trans ?_
    unfold latched
    split
    · exact .latchSet committed p counter
    · exact .refl committed
  have hslipped : latched.NotRaising 4 3 slipped :=
    (State.NotRaising.setCam latched p c₂).trans ((State.NotRaising.put _ _ _).trans (.camErrorIf _ tagged p 10 1))
  have hlate : slipped.NotRaising 4 3 late := by
    unfold late
    split
    · exact .raise (by decide) slipped p
    · exact .refl slipped
  have hagain : late.NotRaising 4 3 again := by
    unfold again
    split
    · exact (State.NotRaising.put late _ _).trans (.reissueRaw late.nextPlacement was)
    · exact .refl late
  have hplaced : again.NotRaising 4 3 placed :=
    (State.NotRaising.leavePipeline again p pipe).trans
      ((State.NotRaising.put left _ pipe).trans (.follow (by decide) (by decide) (by decide) _ _ p))
  have hbegun : placed.NotRaising 4 3 begun := .setCam placed p _
  exact ⟨begun, begun.get (camK p 0 0x0A), (State.NotRaising.endFrame s p 0).trans (hmissed.trans (hlatched.trans
    (hslipped.trans (hlate.trans (hagain.trans (hplaced.trans hbegun)))))), rfl⟩

/-- The one port that was lost is lost no longer after its next Frame Start, nor is any other, and the cause's entry is cleared (R204). -/
theorem State.startFrame_ends_loss {s : State} {p seq : Nat} (hp : p < 8) (hon : s.camOn p = true) (hu : s.usable 4 = true)
    (hst : s.standingOf 4 3 = [(4, 3, p)]) (hopen : s.openSeqs 4 3 = [seq]) (number : Nat) :
    (s.startFrame p number).get (camK p 0 0x11) = 2 ∧ (s.startFrame p number).standingOf 4 3 = []
      ∧ (s.startFrame p number).openSeqs 4 3 = [] := by
  obtain ⟨s₁, m, hbefore, heq⟩ := State.startFrame_cases hon hu number
  have hrun : (s₁.put (camK p 0 0x11) 2).LeavesLoss p (startProcessing 8 (s₁.put (camK p 0 0x11) 2).settleFrames) :=
    (State.LeavesLoss.settleFrames _).trans (.startProcessing 8 _)
  have hlost : s.NotRaising 4 3 (startProcessing 8 (s₁.put (camK p 0 0x11) 2).settleFrames) :=
    hbefore.trans (.trans (.put s₁ _ 2) hrun.cause)
  obtain ⟨hstand, hraised⟩ := State.settle_last (seq := seq) (by decide) (by decide) (by decide) (hlost.standing.trans hst)
    (hopen ▸ hlost.entries)
  have hmaster := State.LeavesLoss.cciRun (p := p) ((startProcessing 8 (s₁.put (camK p 0 0x11) 2).settleFrames).settle 4 3 p) m
  rw [heq]
  refine ⟨?_, hmaster.cause.standing.trans hstand, List.subset_nil.1 (hraised ▸ hmaster.cause.entries)⟩
  rw [hmaster.state, State.get_settle _ _ _ _ (lossState_not_report p), hrun.state, State.get_put_lossState hp (by decide)]

/-! ### A port that is lost (R204) -/

theorem State.onset_stands (s : State) (fn cause item : Nat) : (s.onset fn cause item).stands fn cause item = true := by
  rw [State.onset_eq]
  split
  · assumption
  · rw [State.stands, State.raise, State.raiseCore_standing]
    simp [State.stand]

/-- A new onset of a cause, where the queue has room, raises it. -/
theorem State.raised_onset {s : State} {fn cause item : Nat} (hst : s.stands fn cause item = false)
    (hroom : s.faults.queue.length < 32) : (s.onset fn cause item).raised fn cause := by
  rw [State.onset_eq, if_neg (by simpa [State.stands] using hst)]
  exact State.raised_raiseCore_self (s := s.stand fn cause item) hroom _ _ _ _

theorem State.losePort_eq {s : State} {p : Nat} (hon : s.camOn p = true) (hu : s.usable 4 = true)
    (hlate : (s.cam p).lastSeenLocal + 3 * s.period p ≤ s.now) :
    s.losePort p = ((s.put (camK p 0 0x11) 3).cciRun (s.get (camK p 0 0x0A))).onset 4 3 p := by
  simp [State.losePort, hon, hu, hlate]

/-- A port without a Frame Start for three periods is lost, and the cause is raised where it did not stand. -/
theorem State.losePort_loses {s : State} {p : Nat} (hp : p < 8) (hon : s.camOn p = true) (hu : s.usable 4 = true)
    (hlate : (s.cam p).lastSeenLocal + 3 * s.period p ≤ s.now) (hst : s.stands 4 3 p = false) (hroom : s.faults.queue.length < 32) :
    (s.losePort p).get (camK p 0 0x11) = 3 ∧ (s.losePort p).stands 4 3 p = true ∧ (s.losePort p).raised 4 3 := by
  have hfaults : ((s.put (camK p 0 0x11) 3).cciRun (s.get (camK p 0 0x0A))).faults = s.faults :=
    (State.cciRun_frame _ _).2.trans (s.put_faults _ 3)
  rw [State.losePort_eq hon hu hlate]
  refine ⟨?_, State.onset_stands _ 4 3 p, State.raised_onset ?_ ?_⟩
  · rw [State.get_onset _ _ _ _ (lossState_not_report p), State.get_congr (State.cciRun_frame _ _).1,
      State.get_put_lossState hp (by decide)]
  · rw [State.stands, hfaults]
    exact hst
  · rw [hfaults]
    exact hroom

/-! ### O37 -/

theorem State.get_finish_lossState (s : State) (t : Nat) (f : State → State) (p : Nat) :
    (s.finish t f).get (camK p 0 0x11) = (f (s.begin t)).get (camK p 0 0x11) :=
  s.get_finish t f (lossState_ne (by decide)) (lossState_ne (by decide))

/-- Settles O37: a port that has seen no Frame Start for three periods goes to state 3 with a new onset of cause 0x03; nothing in a Frame
Start, nor in the layers after it, raises that cause, and its end takes the port out of it, which clears the one entry. -/
theorem lostPortsAreToldAndCleared : Obligations.LostPortsAreToldAndCleared := by
  intro s t p hp _ hon hu
  constructor
  · intro hlate hst hroom
    obtain ⟨hstate, hstands, hraised⟩ := State.losePort_loses (s := s.begin t) hp hon hu hlate hst hroom
    rw [exec_portLost]
    refine answers_actIf (decide_eq_true hp) ⟨?_, ?_, ?_⟩
    · rw [State.get_finish_lossState, hstate]
    · rw [State.stands, State.finish_faults]
      exact hstands
    · exact (State.raised_congr (State.finish_faults _ _ _) 4 3).2 hraised
  · intro n f hst hopen
    obtain ⟨hstate, hstanding, hentries⟩ := State.startFrame_ends_loss (s := s.begin t) (seq := f.seq) hp hon hu hst
      (congrArg (List.map FaultEntry.seq) hopen) n
    have hunstale := State.LeavesLoss.unstale (p := p) ((s.begin t).startFrame p n)
    have hend : ((s.begin t).startFrame p n).NotRaising 4 3 (s.finish t fun s => (s.startFrame p n).unstale) :=
      hunstale.cause.trans (.of_faults (State.finish_faults _ _ _))
    rw [exec_frameStart]
    refine answers_actIf (decide_eq_true hp) ⟨?_, ?_, ?_⟩
    · rw [State.get_finish_lossState, hunstale.state, hstate]
    · exact State.stands_of_standingOf (hend.standing.trans hstanding) p
    · exact State.not_raised_of_openSeqs (List.subset_nil.1 (hentries ▸ hend.entries))

end Sys2Proof.Machine
end

section
/-!
PROOFS. A blit list whose first command is a WAIT LINE, written as its output's timing blank ends (R287, R289, R302, O43).
-/

namespace Sys2Proof.Machine

/-! ### A list that is loaded, and the WAIT LINE it reaches -/

/-- A list is loaded, and none of its commands has been reached. -/
def State.loadList (s : State) (list : List Bytes) : State :=
  let s := ((s.put 0x430002 (if s.usable 0xC then 1 else 2)).put 0x430003 0).put 0x430005 0
  { s.putDom 0x430004 [] with media := { s.media with blitter := { list } } }

theorem State.startList_eq (s : State) (b : Bytes) :
    s.startList b = (s.loadList (cutBlocks 32 (fieldLE b 4 2) (b.drop 8))).reachBlit := rfl

theorem State.loadList_now (s : State) (list : List Bytes) : (s.loadList list).now = s.now := by
  simp only [State.loadList, State.putDom_now, State.put_now]
theorem State.loadList_media (s : State) (list : List Bytes) :
    (s.loadList list).media = { s.media with blitter := { list } } := rfl

theorem State.get_loadList (s : State) (list : List Bytes) (k : Nat) : (s.loadList list).get k =
    (((s.put 0x430002 (if s.usable 0xC then 1 else 2)).put 0x430003 0).put 0x430005 0).get k := rfl

/-- A loaded list runs where function 0xC is usable (R287). -/
theorem State.get_loadList_state {s : State} (hu : s.usable 0xC = true) (list : List Bytes) : (s.loadList list).get 0x430002 = 1 := by
  rw [State.get_loadList, State.get_put_ne _ (by decide), State.get_put_ne _ (by decide), if_pos hu, State.get_put_self]
  decide

theorem State.get_loadList_ne (s : State) {k : Nat} (h : k ∉ [0x430002, 0x430003, 0x430005]) (list : List Bytes) :
    (s.loadList list).get k = s.get k := by
  simp only [List.mem_cons, List.not_mem_nil, or_false, not_or] at h
  obtain ⟨hstate, hnumber, hprogress⟩ := h
  rw [State.get_loadList, State.get_put_ne _ hprogress, State.get_put_ne _ hnumber, State.get_put_ne _ hstate]

/-- Loading a list changes no flat output's state (R300). -/
theorem State.flatRuns_loadList (s : State) {k : Nat} (hk : k < 2) (list : List Bytes) : (s.loadList list).flatRuns k = s.flatRuns k := by
  have hget : (s.loadList list).get (flatK k 0x0C) = s.get (flatK k 0x0C) :=
    s.get_loadList_ne ((show ∀ k < 2, flatK k 0x0C ∉ [0x430002, 0x430003, 0x430005] by decide) k hk) list
  simp only [State.flatRuns, State.flatState, hget, State.loadList_now, State.loadList_media]

/-- A current command that is no WAIT LINE, or is one whose output runs, stays current, and no object changes (R289). -/
theorem State.reachBlit_regs {s : State} (h : ∀ c, s.blit = some c → c.op = 3 → s.flatRuns c.wait = true) :
    s.reachBlit.regs = s.regs := by
  unfold State.reachBlit
  cases s.media.blitter.list.length - s.media.blitter.current with
  | zero => rfl
  | succ n =>
    unfold reachWaits
    split
    · rfl
    next c hc =>
      split
      · rfl
      next hreach =>
        simp only [Bool.or_eq_true, bne_iff_ne, not_or, not_not] at hreach
        rw [if_pos (h c hc hreach.1)]

/-- The current command of a list just loaded is its first. -/
theorem State.blit_loadList {s : State} {w : Bytes} {list : List Bytes} {c : Blit} (h : (s.loadList (w :: list)).blit = some c) :
    c = blitOf w := by
  unfold State.blit at h
  split at h
  · exact (Option.some.inj h).symm
  · cases h

/-- A list that begins with a WAIT LINE runs and waits for the line, if the output runs as the list starts (R289). -/
theorem State.startList_waits {s : State} {b w : Bytes} {list : List Bytes}
    (hlist : cutBlocks 32 (fieldLE b 4 2) (b.drop 8) = w :: list) (hk : (blitOf w).wait < 2) (hu : s.usable 0xC = true)
    (hruns : s.flatRuns (blitOf w).wait = true) : (s.startList b).get 0x430002 = 1 := by
  rw [State.startList_eq, hlist, State.get_congr (State.reachBlit_regs fun c hc _ => ?_), State.get_loadList_state hu]
  rw [State.blit_loadList hc, State.flatRuns_loadList s hk, hruns]

/-- A heard write of a blit list that passes every check starts the list and is acknowledged (R287). -/
theorem State.access_blitList {s : State} {p : Path} {data b : Bytes} (hp : s.hears p = true)
    (h : (s.heard p).takesTransfer 0x430001 data b = true) :
    s.access p 0x430001 data true = ((s.heard p).startList b).reply p none 0x430001 0 := by
  obtain ⟨o, ho, hacc⟩ := Option.map_eq_some_iff.1 (show (objOf 0x430001).map (·.acc) = some .wo by decide)
  rw [State.access_transfer hp h ho {} (by decide), hacc]
  simp [State.setContentOf]

/-- The command that writes such a list leaves it running: it does not end at once (R289). -/
theorem exec_blitList_waits {s : State} {t : Nat} {p : Path} {data b w : Bytes} {list : List Bytes} (hp : (s.begin t).hears p = true)
    (htake : ((s.begin t).heard p).takesTransfer 0x430001 data b = true)
    (hlist : cutBlocks 32 (fieldLE b 4 2) (b.drop 8) = w :: list) (hk : (blitOf w).wait < 2)
    (hu : ((s.begin t).heard p).usable 0xC = true) (hruns : ((s.begin t).heard p).flatRuns (blitOf w).wait = true) :
    Answers (exec (.blitList t p data) s) fun s' => s'.get 0x430002 = 1 := by
  rw [exec_blitList]
  refine answers_act ?_
  rw [State.get_finish _ _ _ (by decide) (by decide), State.access_blitList hp htake, State.get_reply,
    State.startList_waits hlist hk hu hruns]

/-! ### The refutation -/

/-- The device in Run 1 µs after reset, every function usable, no list written; flat output 0 is enabled and in a timing blank that
ends at 2 µs. -/
def blankEnding : State :=
  { State.reset with
    now := 1000, regs := [(flatK 0 1, 1), (flatK 0 0x0C, 4)], stages := List.replicate 16 .up
    power := { State.reset.power with phase := .run, plls := [.flatLanes] }
    media := { State.reset.media with flats := [{ hpd := true, trained := true, scanAt := some (2000, 0), resumeAt := 2000 }, {}] } }

/-- A WAIT LINE for line 4 of output 0 (R288). -/
def waitCommand : Bytes := [3, 0, 0xFF, 0xFF] ++ List.replicate 18 0 ++ [4, 0] ++ List.replicate 8 0

/-- The blit list of that one command (R288). -/
def waitList : Bytes := [0x42, 0x4C, 1, 0, 1, 0, 0, 0] ++ waitCommand

theorem waitList_commands : cutBlocks 32 (fieldLE waitList 4 2) (waitList.drop 8) = [waitCommand] := by decide

/-- The blank has not ended at the state's own instant, and has at the command's. -/
theorem blankEnding_flatRuns :
    blankEnding.flatRuns (blitOf waitCommand).wait = false ∧ (blankEnding.begin 2000).flatRuns (blitOf waitCommand).wait = true := by
  decide

theorem blankEnding_takes_waitList : ((blankEnding.begin 2000).heard .internal).takesTransfer 0x430001 waitList waitList = true := by
  decide

/-- Refutes O43: its clause on a WAIT LINE that ends at once asks that the output not run at the instant of the state before, but the
command comes later. Where the output is in a timing blank that ends between the two (R302), it runs as the WAIT LINE is reached, and the
list waits for the line, as R289 says: 0x4300.02 is 1 and not 3. -/
theorem not_oneBlitListRunsInOrder : ¬ Obligations.OneBlitListRunsInOrder := by
  rintro ⟨hwrites, -⟩
  obtain ⟨hblank, hruns⟩ := blankEnding_flatRuns
  obtain ⟨s₁, hends, -, hended, -⟩ := ((hwrites blankEnding 2000 .internal waitList waitList (by decide)).1
    blankEnding_takes_waitList).2 waitCommand waitList_commands (by decide) hblank (by decide) (by decide) (by decide)
  obtain ⟨s₂, hwaits, hwaiting⟩ := exec_blitList_waits (s := blankEnding) (t := 2000) (p := .internal) (by decide)
    blankEnding_takes_waitList waitList_commands (by decide) (by decide) hruns
  obtain rfl : s₁ = s₂ := Host.Outcome.next.inj (hends.symm.trans hwaits)
  exact absurd (hended.symm.trans hwaiting) (by decide)

end Sys2Proof.Machine
end

section
/-!
PROOFS. The fields of a fault code, and the classes in use (R400, R401, O8).
-/

namespace Sys2Proof.Machine

/-! ### The bits of a code (R400) -/

section Code
variable {f : FaultEntry}

/-- A code is the function and the cause, 12 bits in all, under the class. -/
theorem FaultEntry.code_eq_cls_above (f : FaultEntry) : f.code = 4096 * f.cls + (256 * f.fn + f.cause) := by
  unfold FaultEntry.code
  omega

/-- A code is the cause, 8 bits, under the class and the function. -/
theorem FaultEntry.code_eq_cause_below (f : FaultEntry) : f.code = 256 * (16 * f.cls + f.fn) + f.cause := by
  unfold FaultEntry.code
  omega

theorem FaultEntry.fn_cause_lt (hfn : f.fn < 16) (hcause : f.cause < 256) : 256 * f.fn + f.cause < 4096 := by omega

theorem FaultEntry.code_lt (hcls : f.cls < 16) (hfn : f.fn < 16) (hcause : f.cause < 256) : f.code < 65536 := by
  have hlow := fn_cause_lt hfn hcause
  rw [f.code_eq_cls_above]
  omega

theorem FaultEntry.code_div_cls (hfn : f.fn < 16) (hcause : f.cause < 256) : f.code / 4096 = f.cls := by
  rw [f.code_eq_cls_above, Nat.mul_add_div (by decide), Nat.div_eq_of_lt (fn_cause_lt hfn hcause), Nat.add_zero]

theorem FaultEntry.code_div_fn (hfn : f.fn < 16) (hcause : f.cause < 256) : f.code / 256 % 16 = f.fn := by
  rw [f.code_eq_cause_below, Nat.mul_add_div (by decide), Nat.div_eq_of_lt hcause, Nat.add_zero, Nat.mul_add_mod,
    Nat.mod_eq_of_lt hfn]

theorem FaultEntry.code_mod_cause (hcause : f.cause < 256) : f.code % 256 = f.cause := by
  rw [f.code_eq_cause_below, Nat.mul_add_mod, Nat.mod_eq_of_lt hcause]

end Code

/-! ### The class of a raise (R401) -/

/-- Whichever rule of R401 is the first that matches, it gives one of the classes of R400. -/
theorem classOf_mem_used (fn cause : Nat) (e : Effect) : classOf fn cause e ∈ [1, 2, 3, 4, 5, 6, 7, 0xF] := by
  unfold classOf
  split
  case isTrue hdevice => decide
  split
  case isTrue hfailed => decide
  split
  case isTrue hsafety => decide
  split
  case isTrue hpower => decide
  split
  case isTrue hpair => decide
  split
  case isTrue hspare => decide
  split
  case isTrue hdegraded => decide
  case isFalse hnotice => decide

@[simp] theorem State.newFault_fn (s : State) (fn cause detail : Nat) (e : Effect) : (s.newFault fn cause detail e).fn = fn := rfl

@[simp] theorem State.newFault_cause (s : State) (fn cause detail : Nat) (e : Effect) :
    (s.newFault fn cause detail e).cause = cause := rfl

/-- A new fault is of a class in use: its class is the one R401 gives its raise. -/
theorem State.newFault_cls_mem_used (s : State) (fn cause detail : Nat) (e : Effect) :
    (s.newFault fn cause detail e).cls ∈ [1, 2, 3, 4, 5, 6, 7, 0xF] := classOf_mem_used fn cause e

/-- Settles O8: the class stands above the 12 bits of function and cause, the cause below the class and the function, and a new fault's
class is the one R401's first matching rule gives. -/
theorem faultCodesAreComposed : Obligations.FaultCodesAreComposed := by
  refine ⟨fun f hcls hfn hcause => ?_, fun s fn cause detail e => ?_⟩
  · exact ⟨FaultEntry.code_lt hcls hfn hcause, FaultEntry.code_div_cls hfn hcause, FaultEntry.code_div_fn hfn hcause,
      FaultEntry.code_mod_cause hcause⟩
  · exact ⟨s.newFault_cls_mem_used fn cause detail e, s.newFault_fn fn cause detail e, s.newFault_cause fn cause detail e⟩

end Sys2Proof.Machine
end

section
set_option Elab.async false
/-!
PROOFS. The form of every command's meaning, and what follows of it for steps and runs (O1 to O5).
-/

namespace Sys2Proof.Machine

/-! ### The form of a meaning -/

/-- Every command's meaning acts where its operands name items of the device, and faults where they do not (log entry 13). -/
theorem exec_eq_actIf (c : Instr) (s : State) : ∃ t f, exec c s = actIf c.wf t s f := by
  cases c <;> exact ⟨_, _, rfl⟩

theorem exec_of_wf {c : Instr} (h : c.wf = true) (s : State) : ∃ t f, exec c s = .next (s.finish t f) := by
  obtain ⟨t, f, he⟩ := exec_eq_actIf c s
  exact ⟨t, f, he.trans (actIf_true h t s f)⟩

theorem exec_of_not_wf {c : Instr} (h : c.wf = false) (s : State) : exec c s = .fault .operandOutOfRange := by
  obtain ⟨t, f, he⟩ := exec_eq_actIf c s
  exact he.trans (actIf_false h t s f)

/-- A command that completes has finished some effect. -/
theorem exec_next {c : Instr} {s s' : State} (h : exec c s = .next s') : ∃ t f, s' = s.finish t f := by
  cases hwf : c.wf with
  | true =>
    obtain ⟨t, f, he⟩ := exec_of_wf hwf s
    rw [he] at h
    exact ⟨t, f, (Host.Outcome.next.inj h).symm⟩
  | false =>
    rw [exec_of_not_wf hwf s] at h
    cases h

/-- Settles O2: a meaning is `actIf` of its operands' range, and `act` puts the queue back. -/
theorem commandsCompleteAndKeepTheQueue : Obligations.CommandsCompleteAndKeepTheQueue := by
  refine ⟨fun c s => ⟨fun h => ?_, fun h => exec_of_not_wf h s⟩, fun c s s' h => ?_⟩
  · obtain ⟨t, f, he⟩ := exec_of_wf h s
    exact ⟨_, he⟩
  · obtain ⟨t, f, rfl⟩ := exec_next h
    exact s.finish_pending t f

/-! ### Steps -/

theorem step_nil {s : State} (h : s.pending = []) : step s = .next s := by
  simp [step, h]

theorem step_cons {s : State} {c : Instr} {rest : List Instr} (h : s.pending = c :: rest) :
    step s = exec c { s with pending := rest } := by
  simp [step, h]

/-- Settles O1: the two cases of a step are those of the queue. -/
theorem stepRunsTheFrontCommand : Obligations.StepRunsTheFrontCommand := fun _ _ _ h => step_cons h

/-- Settles O3: a step on an empty queue is no change, and every command ends by making the stores canonical. -/
theorem everyStepKeepsTheStoresCanonical : Obligations.EveryStepKeepsTheStoresCanonical := by
  intro s s' hwf h
  cases hp : s.pending with
  | nil =>
    rw [step_nil hp] at h
    cases h
    exact hwf
  | cons c rest =>
    rw [step_cons hp] at h
    obtain ⟨t, f, rfl⟩ := exec_next h
    exact State.finish_wf _ t f

/-! ### Runs -/

/-- A well-formed command at the front of the queue is taken from it, and nothing else is. -/
theorem step_of_wf {s : State} {c : Instr} {rest : List Instr} (h : s.pending = c :: rest) (hc : c.wf = true) :
    ∃ s', step s = .next s' ∧ s'.pending = rest := by
  obtain ⟨t, f, he⟩ := exec_of_wf hc { s with pending := rest }
  exact ⟨_, (step_cons h).trans he, rfl⟩

theorem SafeRun.zero {s : State} {P : State → Prop} (h : P s) : SafeRun 0 s P := ⟨s, rfl, h⟩

theorem run_succ {k : Nat} {s s' : State} (hs : step s = .next s') :
    Host.Core.run Sys2Proof.core (k + 1) s = Host.Core.run Sys2Proof.core k s' := by
  have hcore : Sys2Proof.core.step s = .next s' := hs
  simp only [Host.Core.run, hcore]

theorem SafeRun.succ {k : Nat} {s s' : State} {P : State → Prop} (hs : step s = .next s') (h : SafeRun k s' P) : SafeRun (k + 1) s P := by
  obtain ⟨e, he, hP⟩ := h
  exact ⟨e, (run_succ hs).trans he, hP⟩

/-- Settles O4, by induction on the number of steps: a step takes one well-formed command, or idles on an empty queue. -/
theorem wellFormedQueuesRunToTheEnd : Obligations.WellFormedQueuesRunToTheEnd := by
  intro s k
  induction k generalizing s with
  | zero => exact fun _ => .zero rfl
  | succ k ih =>
    intro hwf
    cases hp : s.pending with
    | nil =>
      have hrun := ih s (by simp [hp])
      rw [hp, List.drop_nil] at hrun
      exact .succ (step_nil hp) hrun
    | cons c rest =>
      rw [hp, List.take_succ_cons] at hwf
      obtain ⟨s', hs', hrest⟩ := step_of_wf hp (hwf c List.mem_cons_self)
      rw [List.drop_succ_cons, ← hrest]
      exact .succ hs' (ih s' fun d hd => hwf d (List.mem_cons_of_mem c (hrest ▸ hd)))

/-! ### Reset -/

theorem clocked_reset (n : Nat) : State.reset.clocked n = false := rfl

/-- Settles O5: nothing is listed in reset, and no clock domain runs. -/
theorem resetHoldsTheDefaults : Obligations.ResetHoldsTheDefaults :=
  ⟨⟨fun _ => ⟨rfl, rfl, rfl, rfl, rfl, rfl⟩, fun n => State.fnState_of_not_clocked (clocked_reset n), rfl⟩, rfl⟩

end Sys2Proof.Machine
end

section
set_option Elab.async false
/-!
PROOFS. Little-endian fields read back (R10), and the Loose container's round trip (R278, R279, R281, O6).
-/

namespace Sys2Proof

/-! ### Little-endian fields (R10) -/

@[simp] theorem length_leBytes (n v : Nat) : (leBytes n v).length = n := by
  induction n generalizing v with
  | zero => rfl
  | succ n ih => simp [leBytes, ih]

theorem leNat_leBytes (n v : Nat) : leNat (leBytes n v) = v % 256 ^ n := by
  induction n generalizing v with
  | zero => simp [leBytes, leNat, Nat.mod_one]
  | succ n ih =>
    rw [leBytes, leNat, BitVec.toNat_ofNat, ih, pow_succ' 256]
    exact Nat.mod_mul.symm

/-- A field that begins behind a prefix is the field of the rest. -/
theorem fieldLE_append {a : Bytes} {o : Nat} (h : a.length ≤ o) (r : Bytes) (n : Nat) : fieldLE (a ++ r) o n = fieldLE r (o - a.length) n := by
  simp [fieldLE, List.drop_append, List.drop_eq_nil_of_le h]

theorem fieldLE_leBytes (n v : Nat) (r : Bytes) : fieldLE (leBytes n v ++ r) 0 n = v % 256 ^ n := by
  simp [fieldLE, leNat_leBytes]

/-- A byte behind a prefix is the byte of the rest. -/
theorem byteAt_append {a : Bytes} {o : Nat} (h : a.length ≤ o) (r : Bytes) : byteAt (a ++ r) o = byteAt r (o - a.length) := by
  simp [byteAt, List.getElem?_append_right h]

theorem byteAt_leBytes_one (v : Nat) (r : Bytes) : byteAt (leBytes 1 v ++ r) 0 = v % 256 := by
  simp [byteAt, leBytes]

/-- A table of 32-bit fields reads back. -/
theorem fieldLE_table {l : List Nat} (h : ∀ x ∈ l, x < 2 ^ 32) (r : Bytes) :
    ((List.range l.length).map fun i => fieldLE ((l.map (leBytes 4)).flatten ++ r) (4 * i) 4) = l := by
  induction l with
  | nil => rfl
  | cons x l ih =>
    obtain ⟨hx, hl⟩ := List.forall_mem_cons.1 h
    have htail (i : Nat) : fieldLE (((x :: l).map (leBytes 4)).flatten ++ r) (4 * (i + 1)) 4
        = fieldLE ((l.map (leBytes 4)).flatten ++ r) (4 * i) 4 := by
      rw [List.map_cons, List.flatten_cons, List.append_assoc, fieldLE_append (by simp), length_leBytes]
      rfl
    have hhead : fieldLE (((x :: l).map (leBytes 4)).flatten ++ r) 0 4 = x := by
      rw [List.map_cons, List.flatten_cons, List.append_assoc, fieldLE_leBytes]
      exact Nat.mod_eq_of_lt hx
    rw [List.length_cons, List.range_succ_eq_map, List.map_cons, List.map_map]
    congr 1
    simpa only [Function.comp_def, Nat.succ_eq_add_one, htail] using ih hl

/-! ### Cutting into blocks (R278) -/

theorem cutBlocks_succ {b : Bytes} (h : b ≠ []) (n k : Nat) : cutBlocks n (k + 1) b = b.take n :: cutBlocks n k (b.drop n) := by
  simp [cutBlocks, h]

@[simp] theorem cutBlocks_nil (n k : Nat) : cutBlocks n k [] = [] := by
  cases k <;> rfl

theorem length_cutBlocks {n : Nat} (hn : 0 < n) {k : Nat} {b : Bytes} (h : b.length ≤ n * k) :
    (cutBlocks n k b).length = (b.length + n - 1) / n := by
  induction k generalizing b with
  | zero =>
    obtain rfl : b = [] := List.eq_nil_of_length_eq_zero (by omega)
    simp [cutBlocks, Nat.div_eq_of_lt (Nat.sub_lt hn one_pos)]
  | succ k ih =>
    rcases eq_or_ne b [] with rfl | hb
    · simp [Nat.div_eq_of_lt (Nat.sub_lt hn one_pos)]
    have hpos : 0 < b.length := List.length_pos_iff.2 hb
    have hdrop : (b.drop n).length ≤ n * k := by
      rw [List.length_drop]
      rw [Nat.mul_succ] at h
      omega
    rw [cutBlocks_succ hb, List.length_cons, ih hdrop, List.length_drop]
    rcases Nat.le_total b.length n with hle | hle
    · rw [Nat.sub_eq_zero_of_le hle, Nat.div_eq_of_lt (by omega), Nat.div_eq_of_lt_le (k := 1) (by omega) (by omega)]
    · rw [show b.length + n - 1 = b.length - n + n - 1 + n by omega, Nat.add_div_right _ hn]

theorem length_le_of_mem_cutBlocks {n k : Nat} {b d : Bytes} (h : d ∈ cutBlocks n k b) : d.length ≤ n := by
  induction k generalizing b with
  | zero => cases h
  | succ k ih =>
    rcases eq_or_ne b [] with rfl | hb
    · simp at h
    rw [cutBlocks_succ hb] at h
    rcases List.mem_cons.1 h with rfl | h
    · exact List.length_take_le n b
    · exact ih h

/-! ### One block (R279, R281) -/

/-- A block as the container holds it: its length field and bytes give the block back. -/
structure HoldsBlock (e : Nat × Bytes) (d : Bytes) : Prop where
  field : e.1 < 2 ^ 32
  length : e.1 % 2 ^ 31 = e.2.length
  content : (if bitOf e.1 31 then some e.2 else zstdDecode d.length e.2) = some d

/-- A raw block has bit 31 set. -/
theorem holdsBlock_raw {d : Bytes} (h : d.length < 2 ^ 31) : HoldsBlock (2 ^ 31 + d.length, d) d where
  field := by dsimp only; omega
  length := by dsimp only; omega
  content := by
    have hbit : bitOf (2 ^ 31 + d.length) 31 = true := by
      simp only [bitOf, beq_iff_eq]
      omega
    rw [hbit, if_pos rfl]

/-- A coded block is one that decodes to itself. -/
theorem holdsBlock_looseCoded (level : Nat) {d : Bytes} (h : d.length < 2 ^ 31) : HoldsBlock (looseCoded level d) d := by
  unfold looseCoded
  dsimp only
  split
  next hz =>
    obtain ⟨hlt, hok⟩ := hz
    simp only [looseMismatch, Bool.not_eq_true', bne_eq_false_iff_eq] at hok
    have hbit : bitOf (zstdEncode level d).length 31 = false := by
      simp only [bitOf, beq_eq_false_iff_ne]
      omega
    exact ⟨by omega, Nat.mod_eq_of_lt (by omega), by simpa [hbit] using hok⟩
  next => exact holdsBlock_raw h

/-! ### The blocks in turn (R279) -/

theorem looseBlocks_cons {size l left : Nat} {ls : List Nat} {coded rest : Bytes} {d more : Bytes}
    (he : HoldsBlock (l, coded) d) (hd : d.length = min size left)
    (hmore : looseBlocks size ls (left - d.length) rest = some more) :
    looseBlocks size (l :: ls) left (coded ++ rest) = some (d ++ more) := by
  obtain ⟨-, hlen, hcontent⟩ := he
  dsimp only at hlen hcontent
  rw [hd] at hcontent hmore
  simp only [looseBlocks, hlen, List.take_left, List.drop_left, ne_eq, not_true_eq_false, if_false, hcontent, hd, hmore]

/-- What holds the blocks of an input, decoded in turn, is the input. -/
theorem looseBlocks_cutBlocks {n k : Nat} {b : Bytes} (hb : b.length ≤ n * k) {es : List (Nat × Bytes)}
    (h : List.Forall₂ HoldsBlock es (cutBlocks n k b)) :
    looseBlocks n (es.map (·.1)) b.length (es.map (·.2)).flatten = some b := by
  induction k generalizing b es with
  | zero =>
    obtain rfl : b = [] := List.eq_nil_of_length_eq_zero (by omega)
    cases h
    rfl
  | succ k ih =>
    rcases eq_or_ne b [] with rfl | hne
    · rw [cutBlocks_nil] at h
      cases h
      rfl
    rw [cutBlocks_succ hne] at h
    cases h with
    | cons he hes =>
      rw [Nat.mul_succ] at hb
      have hmore := ih (b := b.drop n) (by rw [List.length_drop]; omega) hes
      have htake : (b.take n).length = min n b.length := List.length_take
      have hleft : b.length - (b.take n).length = (b.drop n).length := by
        rw [htake, List.length_drop]
        omega
      rw [← hleft] at hmore
      have hall := looseBlocks_cons he htake hmore
      rwa [List.take_append_drop] at hall

/-! ### The container (R278) -/

/-- The blocks of an input as a container holds them. -/
def looseEntries (level sizeCode : Nat) (failed : List Nat) (b : Bytes) : List (Nat × Bytes) :=
  (looseCut sizeCode b).zipIdx.map fun p => if failed.contains p.2 then (2 ^ 31 + p.1.length, p.1) else looseCoded level p.1

theorem looseBlock_pos (code : Nat) : 0 < looseBlock code := by
  unfold looseBlock
  split <;> decide

theorem looseBlock_le (code : Nat) : looseBlock code ≤ 65536 := by
  unfold looseBlock
  split <;> decide

theorem length_le_cut (code : Nat) (b : Bytes) : b.length ≤ looseBlock code * (b.length / looseBlock code + 1) :=
  (Nat.lt_mul_div_succ b.length (looseBlock_pos code)).le

theorem holdsBlock_looseEntries (level sizeCode : Nat) (failed : List Nat) (b : Bytes) :
    List.Forall₂ HoldsBlock (looseEntries level sizeCode failed b) (looseCut sizeCode b) := by
  conv => arg 3; rw [← List.zipIdx_map_fst 0 (looseCut sizeCode b)]
  rw [looseEntries, List.forall₂_map_left_iff, List.forall₂_map_right_iff, List.forall₂_same]
  intro p hp
  have hmem : p.1 ∈ looseCut sizeCode b := List.zipIdx_map_fst 0 (looseCut sizeCode b) ▸ List.mem_map_of_mem hp
  have hlt : p.1.length < 2 ^ 31 := by
    have hle := (length_le_of_mem_cutBlocks hmem).trans (looseBlock_le sizeCode)
    omega
  split
  · exact holdsBlock_raw hlt
  · exact holdsBlock_looseCoded level hlt

theorem length_looseEntries (level sizeCode : Nat) (failed : List Nat) (b : Bytes) :
    (looseEntries level sizeCode failed b).length = (b.length + looseBlock sizeCode - 1) / looseBlock sizeCode := by
  rw [(holdsBlock_looseEntries level sizeCode failed b).length_eq, looseCut,
    length_cutBlocks (looseBlock_pos sizeCode) (length_le_cut sizeCode b)]

theorem looseEntries_field {level sizeCode : Nat} {failed : List Nat} {b : Bytes} :
    ∀ x ∈ (looseEntries level sizeCode failed b).map (·.1), x < 2 ^ 32 := by
  intro x hx
  obtain ⟨e, he, rfl⟩ := List.mem_map.1 hx
  obtain ⟨i, hi, rfl⟩ := List.mem_iff_getElem.1 he
  have hall := holdsBlock_looseEntries level sizeCode failed b
  exact (hall.get hi (hall.length_eq ▸ hi)).field

/-- What stands behind a container's header: the table of lengths, and the blocks. -/
def looseBody (es : List (Nat × Bytes)) : Bytes := ((es.map (·.1)).map (leBytes 4)).flatten ++ (es.map (·.2)).flatten

/-- A container of some entries: its header, and what stands behind it. -/
def looseContainer (sizeCode original : Nat) (es : List (Nat × Bytes)) : Bytes :=
  leBytes 2 0x4C5A ++ (leBytes 1 1 ++ (leBytes 1 sizeCode ++ (leBytes 8 original ++ (leBytes 4 es.length ++ looseBody es))))

theorem looseEncodeWith_eq (level sizeCode : Nat) (failed : List Nat) (b : Bytes) :
    looseEncodeWith level sizeCode failed b = looseContainer sizeCode b.length (looseEntries level sizeCode failed b) := by
  simp [looseEncodeWith, looseContainer, looseBody, looseEntries, Function.comp_def]

section Fields

variable (sizeCode original : Nat) (es : List (Nat × Bytes))

theorem looseContainer_magic : fieldLE (looseContainer sizeCode original es) 0 2 = 0x4C5A := by
  rw [looseContainer, fieldLE_leBytes]
  rfl

theorem looseContainer_version : byteAt (looseContainer sizeCode original es) 2 = 1 := by
  rw [looseContainer, byteAt_append (by simp), length_leBytes, byteAt_leBytes_one]

theorem looseContainer_sizeCode : byteAt (looseContainer sizeCode original es) 3 = sizeCode % 256 := by
  simp [looseContainer, byteAt_append, byteAt_leBytes_one]

theorem looseContainer_original : fieldLE (looseContainer sizeCode original es) 4 8 = original % 256 ^ 8 := by
  simp [looseContainer, fieldLE_append, fieldLE_leBytes]

theorem looseContainer_count : fieldLE (looseContainer sizeCode original es) 12 4 = es.length % 256 ^ 4 := by
  simp [looseContainer, fieldLE_append, fieldLE_leBytes]

theorem looseContainer_body (i : Nat) : fieldLE (looseContainer sizeCode original es) (16 + i) 4 = fieldLE (looseBody es) i 4 := by
  rw [looseContainer]
  iterate 5 rw [fieldLE_append (by simp; try omega)]
  simp only [length_leBytes]
  congr 1
  omega

theorem length_looseBody_table : ((es.map (·.1)).map (leBytes 4)).flatten.length = 4 * es.length := by
  simp [List.length_flatten, Function.comp_def, Nat.mul_comm]

theorem drop_looseContainer : (looseContainer sizeCode original es).drop (16 + 4 * es.length) = (es.map (·.2)).flatten := by
  have hhead : looseContainer sizeCode original es
      = (leBytes 2 0x4C5A ++ leBytes 1 1 ++ leBytes 1 sizeCode ++ leBytes 8 original ++ leBytes 4 es.length
        ++ ((es.map (·.1)).map (leBytes 4)).flatten) ++ (es.map (·.2)).flatten := by
    simp [looseContainer, looseBody]
  rw [hhead]
  refine List.drop_left' ?_
  simp only [List.length_append, length_leBytes, length_looseBody_table]

theorem length_looseContainer : 16 + 4 * es.length ≤ (looseContainer sizeCode original es).length := by
  have htable := length_looseBody_table es
  simp only [looseContainer, looseBody, List.length_append, length_leBytes]
  omega

end Fields

/-- A container whose header agrees with its input decodes to what its blocks give in turn (R279). -/
theorem looseDecode_looseContainer {sizeCode original : Nat} {es : List (Nat × Bytes)} (hsize : sizeCode < 2) (hpos : 0 < original)
    (hle : original ≤ 2 ^ 30) (hcount : es.length = (original + looseBlock sizeCode - 1) / looseBlock sizeCode)
    (hfields : ∀ x ∈ es.map (·.1), x < 2 ^ 32) :
    looseDecode (looseContainer sizeCode original es)
      = looseBlocks (looseBlock sizeCode) (es.map (·.1)) original (es.map (·.2)).flatten := by
  have hblock := looseBlock_pos sizeCode
  have hcode : sizeCode % 256 = sizeCode := Nat.mod_eq_of_lt (by omega)
  have horiginal : original % 256 ^ 8 = original := Nat.mod_eq_of_lt (by omega)
  have hlt : es.length < 256 ^ 4 := by
    have hq : es.length ≤ original + looseBlock sizeCode - 1 := hcount ▸ Nat.div_le_self _ _
    have hb := looseBlock_le sizeCode
    omega
  have htable : (List.range es.length).map (fun i => fieldLE (looseContainer sizeCode original es) (16 + 4 * i) 4) = es.map (·.1) := by
    simp only [looseContainer_body, looseBody]
    simpa using fieldLE_table hfields (es.map (·.2)).flatten
  have hlength := length_looseContainer sizeCode original es
  unfold looseDecode
  simp only [looseContainer_magic, looseContainer_version, looseContainer_sizeCode, looseContainer_original, looseContainer_count,
    hcode, horiginal, Nat.mod_eq_of_lt hlt, htable, drop_looseContainer]
  rw [if_neg]
  rintro (h | h | h | h | h | h | h)
  · exact h rfl
  · exact h rfl
  · omega
  · omega
  · omega
  · exact h hcount
  · omega

/-- The container of an input decodes to it (R281). -/
theorem looseDecode_looseEncodeWith {level sizeCode : Nat} {failed : List Nat} {b : Bytes} (hsize : sizeCode < 2) (hpos : 0 < b.length)
    (hlen : b.length ≤ 2 ^ 30) : looseDecode (looseEncodeWith level sizeCode failed b) = some b := by
  rw [looseEncodeWith_eq, looseDecode_looseContainer hsize hpos hlen (length_looseEntries level sizeCode failed b) looseEntries_field]
  exact looseBlocks_cutBlocks (length_le_cut sizeCode b) (holdsBlock_looseEntries level sizeCode failed b)

end Sys2Proof

namespace Sys2Proof.Machine

/-- Settles O6: each block is held raw or decodes to itself, so the blocks in turn give the input back. -/
theorem looseContainersDecodeToTheirInput : Obligations.LooseContainersDecodeToTheirInput :=
  fun _ _ _ _ hsize hpos hlen => looseDecode_looseEncodeWith hsize hpos hlen

end Sys2Proof.Machine
end

section
set_option Elab.async false
/-!
PROOFS. Event sequence numbers (R52, O9), tile payloads and the CRC's check value (R151, R152, O7), and the arithmetic from light to
link code (R96, R128, R129, O28).
-/

namespace Sys2Proof

/-! ### Tile payloads (R151) -/

theorem length_encodeColour (fmt : Nat) (channels : List (List Nat)) : (encodeColour fmt channels).length = colourBytes fmt :=
  length_leBytes _ _

theorem length_tilePayload_zero (codes : List Nat) : (tilePayload 0 codes).length = 480 := length_leBytes _ _

theorem length_tilePayload_packed {fmt : Nat} (h : fmt ≠ 0) (codes : List Nat) : (tilePayload fmt codes).length = 8 * colourBytes fmt := by
  simp only [tilePayload, if_neg h, List.length_flatten, List.map_map, Function.comp_def, length_encodeColour, List.map_const', List.sum_replicate,
    List.length_range, smul_eq_mul]

/-! ### Light and its code (R128, R129) -/

theorem applyGain_le (c g : Nat) : applyGain c g ≤ 65535 := Nat.min_le_left _ _

theorem applyGain_unity {c : Nat} (h : c < 65536) : applyGain c 32768 = c := by
  unfold applyGain
  omega

theorem linkCode_le (v : Nat) (e : List Nat) : linkCode v e ≤ 1023 := Nat.min_le_left _ _

end Sys2Proof

namespace Sys2Proof.Machine

/-- Settles O7: a payload is 480 raw bytes, or eight Packed blocks. -/
theorem payloadsHaveTheirSizesAndCheck : Obligations.PayloadsHaveTheirSizesAndCheck := by
  refine ⟨fun codes => ⟨length_tilePayload_zero codes, ?_, ?_, ?_⟩, by decide +kernel⟩
  all_goals exact length_tilePayload_packed (by decide) codes

/-- Settles O28: the figures are those of the definitions, and the bounds their clamps. -/
theorem lightBecomesItsCode : Obligations.LightBecomesItsCode := by
  refine ⟨fun p _ => ⟨rfl, rfl⟩, fun c g hc => ⟨applyGain_unity hc, ?_, applyGain_le c g⟩, by decide, by decide +kernel, linkCode_le⟩
  simp [applyGain]

/-! ### Event sequence numbers (R52) -/

theorem nextEventSeq_of_lt {n : Nat} (h : n < 0xFFFFFFFF) : nextEventSeq n = n + 1 := if_neg (by omega)

theorem nextEventSeq_ne_zero (n : Nat) : nextEventSeq n ≠ 0 := by
  unfold nextEventSeq
  split <;> omega

theorem seqAtOrBelow_iff {a b : Nat} (ha : a < 2 ^ 32) :
    seqAtOrBelow a b = true ↔ (b + (2 ^ 32 - a)) % 2 ^ 32 < 2 ^ 31 := by
  rw [seqAtOrBelow, decide_eq_true_eq, Nat.add_sub_assoc ha.le]

/-- With a MAC link up an event frame leaves at once, or not at all: it takes no number of its own. -/
theorem State.eventFrame_regs_of_link {s : State} (h : s.get 0x280009 ≠ 0) (b : Bytes) : (s.eventFrame b).regs = s.regs := by
  unfold State.eventFrame
  split
  · rfl
  · rfl

theorem State.get_event_sequence {s : State} (h : s.get 0x280009 ≠ 0) (kind : Nat) :
    (s.event kind).get 0x204005 = nextEventSeq (s.get 0x204005) % 2 ^ 32 := by
  have hlink : (s.put 0x204005 (nextEventSeq (s.get 0x204005))).get 0x280009 ≠ 0 := by
    rw [State.get_put_ne _ (by decide)]
    exact h
  exact (State.get_congr (State.eventFrame_regs_of_link hlink _) _).trans (s.get_put_self 0x204005 _)

/-- Settles O9: the numbers wrap past 0, and an event with a MAC link up takes the next one alone. -/
theorem eventsAreNumberedWithoutZero : Obligations.EventsAreNumberedWithoutZero :=
  ⟨rfl, rfl, rfl, fun _ => nextEventSeq_of_lt, nextEventSeq_ne_zero, fun _ _ ha _ => seqAtOrBelow_iff ha,
    fun _ kind h => State.get_event_sequence h kind⟩

end Sys2Proof.Machine
end

section
set_option Elab.async false
/-!
PROOFS. Register writes: what takes effect at once or waits, what is turned away, and what a held value leaves alone
(R8, R50, R61, R65; O11, O12, O56).
-/

namespace Sys2Proof.Machine

/-! ### Answers -/

theorem State.answered_answer (s : State) (p : Path) (code : Nat) (data : Bytes) : (s.answer p code data).answered p code data := by
  cases p with
  | internal => exact .inl rfl
  | can q => exact .inr ⟨_, List.mem_append_right _ (List.mem_singleton_self _)⟩
  | udp a => exact .inr ⟨_, List.mem_append_right _ (List.mem_singleton_self _)⟩

/-- A row's own access carries no transaction: its reply is the plain answer. -/
theorem State.reply_none (s : State) (p : Path) (k code : Nat) : s.reply p none k code = s.answer p code := by
  cases p <;> rfl

theorem State.answered_reply (s : State) (p : Path) (k code : Nat) : (s.reply p none k code).answered p code [] := by
  rw [State.reply_none]
  exact s.answered_answer p code []

theorem State.answered_finish {s : State} {t : Nat} {f : State → State} {p : Path} {code : Nat} {data : Bytes}
    (h : (f (s.begin t)).answered p code data) : (s.finish t f).answered p code data :=
  h.imp_right fun ⟨cob, hm⟩ => ⟨cob, State.mem_finish_out hm⟩

/-! ### The gate before a value is looked at (R61, R63, R65) -/

@[simp] theorem State.supersede_fullResetAt (s : State) (q : Nat) : (s.supersede q).ctl.fullResetAt = s.ctl.fullResetAt := by
  unfold State.supersede State.setSdo
  split
  · split <;> rfl
  · rfl

@[simp] theorem State.heard_fullResetAt (s : State) (p : Path) : (s.heard p).ctl.fullResetAt = s.ctl.fullResetAt := by
  cases p with
  | can q => exact s.supersede_fullResetAt q
  | internal | udp => rfl

theorem State.clocked_congr {s s' : State} (h : s'.power = s.power) (n : Nat) : s'.clocked n = s.clocked n := by
  unfold State.clocked
  rw [h]

theorem State.usable_congr {s s' : State} (hstages : s'.stages = s.stages) (hpower : s'.power = s.power) (n : Nat) :
    s'.usable n = s.usable n := by
  rw [State.usable, State.clocked_congr hpower, State.awaitsLock_congr hpower, hstages, State.usable]

theorem State.hasFailed_congr {s s' : State} (hstages : s'.stages = s.stages) (hpower : s'.power = s.power) (n : Nat) :
    s'.hasFailed n = s.hasFailed n := by
  rw [State.hasFailed, State.clocked_congr hpower, hstages, State.hasFailed]

/-- The gate looks at a full reset that is acknowledged, at stages and at the power state alone. -/
theorem State.gate_congr {s s' : State} (hreset : s'.ctl.fullResetAt = s.ctl.fullResetAt) (hstages : s'.stages = s.stages)
    (hpower : s'.power = s.power) (k : Nat) (write : Bool) : s'.gate k write = s.gate k write := by
  simp only [State.gate, State.ownerFailed, State.usable_congr hstages hpower, State.hasFailed_congr hstages hpower, hreset]
  rfl

theorem State.gate_begin (s : State) (t k : Nat) (write : Bool) : (s.begin t).gate k write = s.gate k write :=
  State.gate_congr rfl rfl rfl k write

theorem State.gate_heard (s : State) (p : Path) (k : Nat) (write : Bool) : (s.heard p).gate k write = s.gate k write :=
  State.gate_congr (s.heard_fullResetAt p) (s.heard_stages p) (s.heard_power p) k write

theorem State.gate_of_no_object {s : State} {k : Nat} (hr : s.ctl.fullResetAt = none) (ho : objOf k = none) (write : Bool) :
    s.gate k write = if indexExists (k / 256) then 0x06090011 else 0x06020000 := by
  simp [State.gate, hr, ho]

theorem State.gate_of_readOnly {s : State} {k : Nat} {o : Obj} (hr : s.ctl.fullResetAt = none) (ho : objOf k = some o)
    (ha : o.acc = .ro ∨ o.acc = .const) : s.gate k true = 0x06010002 := by
  simp [State.gate, hr, ho, ha]

theorem State.gate_of_writeOnly {s : State} {k : Nat} {o : Obj} (hr : s.ctl.fullResetAt = none) (ho : objOf k = some o)
    (ha : o.acc = .wo) : s.gate k false = 0x06010001 := by
  simp [State.gate, hr, ho, ha]

/-- Failed is a state of the stage failed alone. -/
theorem State.hasFailed_of_fnState {s : State} {n : Nat} (h : s.fnState n = 4) : s.hasFailed n = true := by
  unfold State.fnState at h
  unfold State.hasFailed
  split at h
  · cases h
  next hc =>
    rw [Bool.not_eq_true, Bool.not_eq_false'] at hc
    split at h
    next hst => simp [hc, hst]
    · split at h <;> cases h
    · cases h
    · repeat' split at h
      all_goals cases h
    · cases h

theorem State.gate_of_failed {s : State} {k : Nat} {o : Obj} (hr : s.ctl.fullResetAt = none) (ho : objOf k = some o)
    (hro : o.acc ≠ .ro) (hconst : o.acc ≠ .const) (hrwO : o.acc ≠ .rwO) (hf : s.fnState (functionOf k) = 4) (h1 : k ≠ 0x202001)
    (h2 : k ≠ 0x204004) : s.gate k true = 0x08000022 := by
  have howner : s.ownerFailed k = true := by simp [State.ownerFailed, h1, h2, State.hasFailed_of_fnState hf]
  simp [State.gate, hr, ho, hro, hconst, hrwO, howner]

/-- A write that does not pass the gate is answered with the gate's code. -/
theorem State.hostWrite_of_gate {s : State} {k : Nat} (h : s.gate k true ≠ 0) (p : Path) (id : Option Nat) (data : Bytes) (now : Bool)
    (x : Given) : s.hostWrite p id k data now x = s.reply p id k (s.gate k true) := by
  have hw : s.writeObject p id k data now x = (s, some (s.gate k true)) := by
    unfold State.writeObject
    split
    next hg _ => exact absurd hg h
    next => rfl
  rw [State.hostWrite, hw]

theorem State.access_of_gate {s : State} {p : Path} {k : Nat} (hp : s.hears p = true) (h : s.gate k true ≠ 0) (data : Bytes) (now : Bool)
    (x : Given) : s.access p k data now x = (s.heard p).reply p none k (s.gate k true) := by
  rw [State.access, State.hear_of_hears hp, State.hostWrite_of_gate (by rwa [State.gate_heard]), State.gate_heard]

/-! ### What is only answered -/

/-- Nothing but what was sent and the port's open transfer differs. -/
structure OnlyAnswered (s s' : State) : Prop where
  objects : SameObjects s s'
  pending : SamePending s s'
  system : SameSystem s s'
  picture : SamePicture s s'
  links : SameLinks s s'

theorem State.onlyAnswered_reply (s : State) (t : Nat) (p : Path) (k code : Nat) {f : State → State}
    (h : f (s.begin t) = ((s.begin t).heard p).reply p none k code) : OnlyAnswered s (s.finish t f) where
  objects := ⟨fun j h1 h2 => by rw [State.get_finish _ _ _ h1 h2, h, State.get_reply, State.get_heard, State.get_begin],
    fun j => by rw [State.dom_finish, h, State.dom_congr (State.reply_doms _ _ _ _ _), State.dom_heard, State.dom_begin]⟩
  pending := by simp [SamePending, h]
  system := by simp [SameSystem, h]
  picture := by simp [SamePicture, h]
  links := by simp [SameLinks, h]

theorem keyOf_in_range {index sub : Nat} (hi : index < 65536) (hsub : sub < 256) :
    (decide (index < 65536) && decide (sub < 256)) = true := by
  simp [hi, hsub]

/-- Settles O12: a write that the gate turns away is answered and no more; the gate's codes are read off its cases. -/
theorem writesTurnedAwayChangeNothing : Obligations.WritesTurnedAwayChangeNothing := by
  refine ⟨fun s t index sub p data hi hsub hp hg => ?_, fun s k hr => ⟨fun ho => State.gate_of_no_object hr ho true,
    fun o ho ha => State.gate_of_readOnly hr ho ha, fun o ho ha => State.gate_of_writeOnly hr ho ha,
    fun o ho hro hconst hrwO hf h1 h2 => State.gate_of_failed hr ho hro hconst hrwO hf h1 h2⟩⟩
  have hrun := State.access_of_gate (s := s.begin t) (k := keyOf index sub) hp (by rwa [State.gate_begin]) data false {}
  rw [State.gate_begin] at hrun
  rw [exec_registerWrite]
  have hsame := s.onlyAnswered_reply t p _ _ (f := fun s => s.access p (keyOf index sub) data) hrun
  refine answers_actIf (keyOf_in_range hi hsub) ⟨State.answered_finish ?_, hsame.objects, hsame.pending, hsame.system, hsame.picture,
    hsame.links⟩
  exact hrun ▸ State.answered_reply _ _ _ _

end Sys2Proof.Machine
end

section
set_option Elab.async false
/-!
PROOFS. What a register write that passes every check does, by its access code (R8, R50; O11), and a held value that does more than be
held (O56).
-/

namespace Sys2Proof

theorem leNat_lt (b : Bytes) : leNat b < 2 ^ (8 * b.length) := by
  induction b with
  | nil => simp [leNat]
  | cons x b ih =>
    have hx := x.isLt
    rw [leNat, List.length_cons, Nat.mul_succ, pow_add]
    omega

end Sys2Proof

namespace Sys2Proof.Machine

/-! ### The held objects (R8) -/

theorem acc_of_heldScalar : ∀ k ∈ heldScalars, (objOf k).map (·.acc) = some .rwI := by decide +kernel

theorem acc_of_heldContent : ∀ k ∈ heldContents, (objOf k).map (·.acc) = some .rwI := by decide +kernel

theorem heldScalar_ne : ∀ k ∈ heldScalars, k ≠ 0x204005 ∧ k ≠ 0x201005 := by decide

theorem heldContent_not_mustReadBack : ∀ k ∈ heldContents, mustReadBack k = false := by decide

/-- A held object's write sets it; a frame rate or phase has the ticks sought anew besides (R379). -/
theorem State.effect_of_held (s : State) (v : Nat) (x : Given) :
    ∀ k ∈ heldScalars, s.effect k v x = if k = 0x285002 then (s.put k v).seekTick else s.put k v := by
  simp only [heldScalars, List.forall_mem_cons]
  and_intros
  all_goals first | rfl | exact List.forall_mem_nil _

theorem State.setContentOf_of_held (s : State) (b : Bytes) (x : Given) :
    ∀ k ∈ heldContents, s.setContentOf k .rwI b x = if k = 0x285001 then (s.putDom k b).seekTick else s.putDom k b := by
  simp only [heldContents, List.forall_mem_cons]
  and_intros
  all_goals first | rfl | exact List.forall_mem_nil _

theorem State.get_setScalar_held {s : State} {k v : Nat} (hk : k ∈ heldScalars) (x : Given) :
    (s.setScalar k v .rwI x).get k = v % 2 ^ widthOf k := by
  show (s.effect k v x).get k = _
  rw [s.effect_of_held v x k hk]
  split <;> exact s.get_put_self k v

theorem State.dom_setContentOf_held {s : State} {k : Nat} (hk : k ∈ heldContents) (b : Bytes) (x : Given) :
    (s.setContentOf k .rwI b x).dom k = b := by
  rw [s.setContentOf_of_held b x k hk]
  split <;> exact s.dom_putDom_self k b

/-! ### Values that wait (R50) -/

theorem State.get_sendReadiness (s : State) (ready : Bool) (k : Nat) : (s.sendReadiness ready).get k = s.get k := by
  unfold State.sendReadiness
  split <;> rfl

theorem State.get_turnNotReady (s : State) (k : Nat) : s.turnNotReady.get k = s.get k := by
  unfold State.turnNotReady
  dsimp only
  split
  · rfl
  · split
    · exact s.get_sendReadiness false k
    · rfl

theorem State.get_announceCommit (s : State) (k : Nat) : s.announceCommit.get k = s.get k := by
  unfold State.announceCommit
  split
  · rfl
  · exact State.get_twinSend _ _ _ _ _

theorem State.get_sceneWrite (s : State) (k : Nat) : s.sceneWrite.get k = s.get k := by
  unfold State.sceneWrite
  dsimp only
  split
  · exact (State.get_announceCommit _ _).trans (State.get_turnNotReady _ _)
  · exact State.get_turnNotReady _ _

theorem State.sceneWrite_pendR (s : State) : s.sceneWrite.pendR = s.pendR := by
  unfold State.sceneWrite
  dsimp only
  split <;> simp

theorem State.sceneWrite_pendD (s : State) : s.sceneWrite.pendD = s.pendD := by
  unfold State.sceneWrite
  dsimp only
  split <;> simp

theorem State.sceneWrite_doms (s : State) : s.sceneWrite.doms = s.doms := by
  unfold State.sceneWrite
  dsimp only
  split <;> simp

theorem State.pendScalar_waits (s : State) (k v : Nat) :
    lookup k (s.pendScalar k v).pendR = some v ∧ (s.pendScalar k v).get k = s.get k := by
  unfold State.pendScalar
  dsimp only
  split
  · rw [State.sceneWrite_pendR, State.get_sceneWrite]
    exact ⟨lookup_insertKey_self _ _ _, rfl⟩
  · exact ⟨lookup_insertKey_self _ _ _, rfl⟩

theorem State.pendContent_waits (s : State) (k : Nat) (b : Bytes) :
    lookup k (s.pendContent k b).pendD = some b ∧ (s.pendContent k b).dom k = s.dom k := by
  unfold State.pendContent
  dsimp only
  split
  · rw [State.sceneWrite_pendD, State.dom_congr (State.sceneWrite_doms _)]
    exact ⟨lookup_insertKey_self _ _ _, rfl⟩
  · exact ⟨lookup_insertKey_self _ _ _, rfl⟩

theorem State.setContentOf_rwO (s : State) (k : Nat) (b : Bytes) (x : Given) :
    s.setContentOf k .rwO b x = { s with burnD := insertKey k b s.burnD } := if_pos rfl

theorem State.setContentOf_rwE (s : State) (k : Nat) (b : Bytes) (x : Given) : s.setContentOf k .rwE b x = s.pendContent k b :=
  (if_neg (by decide)).trans (if_pos rfl)

/-! ### The value that a write carries (R65) -/

/-- A value that passes the checks has its object's width. -/
theorem State.leNat_of_takesValue {s : State} {k : Nat} {data : Bytes} {o : Obj} (h : s.takesValue k data = true) (ho : objOf k = some o) :
    leNat data % 2 ^ widthOf k = leNat data := by
  simp only [State.takesValue, ho, Bool.and_eq_true, beq_iff_eq] at h
  obtain ⟨-, -, hcode⟩ := h
  have hlen : data.length = o.ty.width / 8 := by
    by_contra hne
    simp [State.scalarCode, hne] at hcode
  have hw : 8 * (o.ty.width / 8) = o.ty.width := by cases o.ty <;> rfl
  have hlt := leNat_lt data
  rw [hlen, hw] at hlt
  rw [widthOf, ho]
  exact Nat.mod_eq_of_lt hlt

/-- The two objects that events and start-up count are read-only. -/
theorem ne_counted_of_acc {k : Nat} {o : Obj} (ho : objOf k = some o) (ha : o.acc ≠ .ro) : k ≠ 0x204005 ∧ k ≠ 0x201005 := by
  have hobj : ∀ j ∈ [0x204005, 0x201005], (objOf j).map (·.acc) = some .ro := by decide +kernel
  refine ⟨?_, ?_⟩ <;> rintro rfl
  · exact ha (by simpa [ho] using hobj 0x204005 (by decide))
  · exact ha (by simpa [ho] using hobj 0x201005 (by decide))

/-- What must read back waits for no burn and no epoch. -/
theorem acc_of_mustReadBack {k : Nat} {o : Obj} (hm : mustReadBack k = true) (ho : objOf k = some o) : o.acc ≠ .rwO ∧ o.acc ≠ .rwE := by
  have hobj : ∀ j ∈ [0x420004, 0x420005, 0x420006], ∀ o, objOf j = some o → o.acc ≠ .rwO ∧ o.acc ≠ .rwE := by decide +kernel
  simp only [mustReadBack, decide_eq_true_eq] at hm
  exact hobj k (by simp; omega) o ho

/-! ### The end of a write that is taken -/

section Taken

variable {s u : State} {t : Nat} {p : Path} {k code : Nat} {f : State → State} (h : f (s.begin t) = u.reply p none k code)
include h

theorem State.finish_taken_answered : (s.finish t f).answered p code [] := by
  refine State.answered_finish ?_
  rw [h]
  exact u.answered_reply p k code

theorem State.finish_taken_get {j : Nat} (hj : j ≠ 0x204005 ∧ j ≠ 0x201005) : (s.finish t f).get j = u.get j := by
  rw [State.get_finish _ _ _ hj.1 hj.2, h, State.get_reply]

theorem State.finish_taken_dom (j : Nat) : (s.finish t f).dom j = u.dom j := by
  rw [State.dom_finish, h, State.dom_congr (State.reply_doms _ _ _ _ _)]

end Taken

/-- Settles O11, by access code: a value to be burned or one for an epoch joins those that wait, and a held one is set. -/
theorem registerWritesTakeEffectByAccessCode : Obligations.RegisterWritesTakeEffectByAccessCode := by
  intro s t index sub p data o hi hsub ho hp
  refine ⟨fun htakes => ?_, fun htakes => ?_⟩
  · have hrun := State.access_value hp htakes ho false {} rfl
    have hget := State.finish_taken_get (f := fun s => s.access p (keyOf index sub) data) (j := keyOf index sub) hrun
    rw [exec_registerWrite]
    refine answers_actIf (keyOf_in_range hi hsub) ⟨State.finish_taken_answered hrun, fun ha => ⟨?_, ?_⟩, fun ha hne => ?_, fun hheld => ?_⟩
    · simp [hrun, State.setScalar, ha]
    · rw [hget (ne_counted_of_acc ho (by simp [ha])), ha]
      exact State.get_heard _ _ _
    · have hset : ((s.begin t).heard p).setScalar (keyOf index sub) (leNat data) o.acc {}
          = ((s.begin t).heard p).pendScalar (keyOf index sub) (leNat data) := by
        simp [State.setScalar, ha, hne]
      obtain ⟨hwaits, hkeeps⟩ := ((s.begin t).heard p).pendScalar_waits (keyOf index sub) (leNat data)
      rw [State.finish_lookup_pendR, hrun, State.reply_pendR, hget (ne_counted_of_acc ho (by simp [ha])), hset]
      exact ⟨hwaits, hkeeps.trans (State.get_heard _ _ _)⟩
    · have ha : o.acc = .rwI := by simpa [ho] using acc_of_heldScalar _ hheld
      rw [hget (heldScalar_ne _ hheld), ha, State.get_setScalar_held hheld, State.leNat_of_takesValue htakes ho]
  · rw [exec_registerWrite]
    cases hm : mustReadBack (keyOf index sub) with
    | true =>
      obtain ⟨hburns, hepoch⟩ := acc_of_mustReadBack hm ho
      refine answers_actIf (keyOf_in_range hi hsub) ⟨fun ha => absurd ha hburns, fun ha => absurd ha hepoch, fun hheld => ?_⟩
      rw [heldContent_not_mustReadBack _ hheld] at hm
      cases hm
    | false =>
      have hrun := State.access_content hp htakes ho false {} (by simp [hm])
      have hdom := State.finish_taken_dom (f := fun s => s.access p (keyOf index sub) data) hrun (keyOf index sub)
      refine answers_actIf (keyOf_in_range hi hsub) ⟨fun ha => ⟨?_, ?_⟩, fun ha => ?_, fun hheld => ?_⟩
      · rw [State.finish_lookup_burnD, hrun, State.reply_burnD, ha, State.setContentOf_rwO]
        exact lookup_insertKey_self _ _ _
      · rw [hdom, ha, State.setContentOf_rwO]
        exact State.dom_heard _ _ _
      · obtain ⟨hwaits, hkeeps⟩ := ((s.begin t).heard p).pendContent_waits (keyOf index sub) data
        rw [State.finish_lookup_pendD, hrun, State.reply_pendD, hdom, ha, State.setContentOf_rwE]
        exact ⟨hwaits, hkeeps.trans (State.dom_heard _ _ _)⟩
      · have ha : o.acc = .rwI := by simpa [ho] using acc_of_heldContent _ hheld
        rw [hdom, ha, State.dom_setContentOf_held hheld]

/-! ### A held value that does more (R379) -/

/-- A frame phase that is taken has the ticks sought anew. -/
theorem State.setScalar_framePhase (s : State) (v : Nat) (x : Given) : (s.setScalar 0x285002 v .rwI x).net.tickAfter = some s.ptp := rfl

/-- The device in Run, every function usable, no ticks sought. -/
def runningIdle : State :=
  { State.reset with stages := List.replicate 16 .up, power := { State.reset.power with phase := .run } }

/-- Refutes O56: the frame phase 0x2850.02 stands among the held objects, and a write of it has the content-frame ticks sought anew from
then on (R379), in the network's state. With no ticks sought before, a phase of 0 written over the management cores' own path leaves that
state changed. -/
theorem not_heldWritesChangeTheirObjectAlone : ¬ Obligations.HeldWritesChangeTheirObjectAlone := by
  intro h
  have hp : (runningIdle.begin 0).hears .internal = true := by decide
  have htakes : ((runningIdle.begin 0).heard .internal).takesValue 0x285002 [0, 0, 0, 0] = true := by decide +kernel
  obtain ⟨o, ho⟩ : ∃ o, objOf 0x285002 = some o := Option.isSome_iff_exists.1 (by decide +kernel)
  have ha : o.acc = .rwI := by simpa [ho] using acc_of_heldScalar 0x285002 (by decide)
  have hrun := State.access_value hp htakes ho false {} rfl
  have hnext := exec_registerWrite 0 .internal 0x2850 2 [0, 0, 0, 0] runningIdle
  rw [actIf_true (by decide)] at hnext
  obtain ⟨-, -, -, -, -, -, -, -, hnet⟩ := (h runningIdle _ 0 0x2850 2 .internal [0, 0, 0, 0] (by decide) (by decide) hp hnext).1 (by decide) htakes
  rw [State.finish_net] at hnet
  have hticks := congrArg Net.tickAfter ((congrArg State.net hrun).symm.trans hnet)
  rw [State.reply_net, ha, State.setScalar_framePhase] at hticks
  cases hticks

end Sys2Proof.Machine
end

section
set_option Elab.async false
/-!
PROOFS. NMT commands, heartbeats, emergencies and lost events on the CAN ports (R41, R42, R44, R53; O16), and acknowledgements, host
notes and reads with removal (R52, R379, R406, R412, R419; O17).
-/

namespace Sys2Proof.Machine

/-! ### A CAN port with a change (R40 to R44) -/

theorem State.setPort_self {s : State} {q : Nat} {c : CanPort} (h : s.ctl.ports[q]? = some c) (f : CanPort → CanPort) :
    (s.setPort q f).ctl.ports[q]? = some (f c) := by
  simp [State.setPort, modAt, h]

theorem State.setPort_ne (s : State) {q r : Nat} (h : r ≠ q) (f : CanPort → CanPort) : (s.setPort q f).ctl.ports[r]? = s.ctl.ports[r]? := by
  simp [State.setPort, modAt, List.getElem?_modify_ne, h.symm]

/-- A state that differs in the control path and in what was sent alone. -/
def ControlOnly (s u : State) : Prop := ∃ c o, u = { s with ctl := c, out := o }

theorem ControlOnly.refl (s : State) : ControlOnly s s := ⟨_, _, rfl⟩

theorem ControlOnly.onlyAnswered {s : State} {t : Nat} {f : State → State} (h : ControlOnly (s.begin t) (f (s.begin t))) :
    OnlyAnswered s (s.finish t f) := by
  obtain ⟨c, o, h⟩ := h
  refine ⟨⟨fun j h1 h2 => ?_, fun j => ?_⟩, ?_, ?_, ?_, ?_⟩
  · rw [State.get_finish _ _ _ h1 h2, h]
    rfl
  · rw [State.dom_finish, h]
    rfl
  · simp [SamePending, h]
  · simp [SameSystem, h]
  · simp [SamePicture, h]
  · simp [SameLinks, h]

/-! ### NMT commands (R42) -/

theorem State.nmtTo_of_hears {s : State} {q node : Nat} (h : s.nmtHears q node = true) (n : Nmt) :
    s.nmtTo q node n = s.setPort q fun c => { c with nmt := n } := if_pos h

theorem State.nmtReset_of_hears {s : State} {q node : Nat} (h : s.nmtHears q node = true) :
    s.nmtReset q node = ((s.unstageCan q).setPort q fun c => { c with nmt := .preOperational, sdo := none }).bootUp q := if_pos h

theorem State.nmtTo_controlOnly (s : State) (q node : Nat) (n : Nmt) : ControlOnly s (s.nmtTo q node n) := by
  unfold State.nmtTo
  split <;> exact ⟨_, _, rfl⟩

theorem State.nmtReset_controlOnly (s : State) (q node : Nat) : ControlOnly s (s.nmtReset q node) := by
  unfold State.nmtReset
  split <;> exact ⟨_, _, rfl⟩

theorem State.nmtTo_ne (s : State) {q r : Nat} (h : r ≠ q) (node : Nat) (n : Nmt) :
    (s.nmtTo q node n).ctl.ports[r]? = s.ctl.ports[r]? := by
  unfold State.nmtTo
  split
  · exact s.setPort_ne h _
  · rfl

theorem State.nmtReset_ne (s : State) {q r : Nat} (h : r ≠ q) (node : Nat) :
    (s.nmtReset q node).ctl.ports[r]? = s.ctl.ports[r]? := by
  unfold State.nmtReset
  split
  · exact (State.setPort_ne _ h _).trans (State.setPort_ne _ h _)
  · rfl

/-- A command to set a port's state, on a port that hears it. -/
theorem State.finish_nmtTo {s : State} {t q node : Nat} {c : CanPort} (hc : s.ctl.ports[q]? = some c) (h : s.nmtHears q node = true)
    (n : Nmt) : (s.finish t fun s => s.nmtTo q node n).ctl.ports[q]? = some { c with nmt := n } := by
  rw [State.finish_ports, State.nmtTo_of_hears (s := s.begin t) h]
  exact State.setPort_self hc _

/-- A reset of a port's communication, on a port that hears it: the boot-up message, and the port anew. -/
theorem State.finish_nmtReset {s : State} {t q node : Nat} {c : CanPort} (hc : s.ctl.ports[q]? = some c) (h : s.nmtHears q node = true) :
    Out.can q (0x700 + s.nodeId) [0] ∈ (s.finish t fun s => s.nmtReset q node).out
      ∧ (s.finish t fun s => s.nmtReset q node).ctl.ports[q]?
        = some { c with nmt := .preOperational, sdo := none, heartbeatAt := max s.now t } := by
  have hrun := State.nmtReset_of_hears (s := s.begin t) h
  refine ⟨State.mem_finish_out ?_, ?_⟩
  · rw [hrun]
    exact List.mem_append_right _ (List.mem_singleton_self _)
  · rw [State.finish_ports, hrun]
    refine State.setPort_self (c := { c with nmt := .preOperational, sdo := none }) ?_ _
    exact State.setPort_self (s := (s.begin t).unstageCan q) hc _

/-- What a command on a CAN port may touch: the port, and what it sends. -/
theorem finish_port_alone {s s' : State} {t q : Nat} {f : State → State} (hnext : actIf (q < 2) t s f = .next s')
    (hctl : ∀ s, ControlOnly s (f s)) (hne : ∀ (s : State) r, r ≠ q → (f s).ctl.ports[r]? = s.ctl.ports[r]?) :
    SameObjects s s' ∧ SamePending s s' ∧ SameSystem s s' ∧ SamePicture s s' ∧ SameLinks s s'
      ∧ ∀ r, r ≠ q → s'.ctl.ports[r]? = s.ctl.ports[r]? := by
  cases hq : decide (q < 2) with
  | false =>
    rw [hq, actIf_false rfl] at hnext
    cases hnext
  | true =>
    rw [hq, actIf_true rfl] at hnext
    obtain rfl := (Host.Outcome.next.inj hnext).symm
    have hsame := (hctl (s.begin t)).onlyAnswered
    exact ⟨hsame.objects, hsame.pending, hsame.system, hsame.picture, hsame.links,
      fun r hr => by rw [State.finish_ports, hne _ r hr, State.begin_ctl]⟩

/-- Settles O16: a command sets its port's record, and its effect is that and what the port sends. -/
theorem nmtCommandsSetThePortAlone : Obligations.NmtCommandsSetThePortAlone := by
  refine ⟨fun s t q node c hq hc h => ?_, fun s s' t q node h => ?_⟩
  · have hq : decide (q < 2) = true := decide_eq_true hq
    exact ⟨answers_actIf hq (State.finish_nmtTo hc h _), answers_actIf hq (State.finish_nmtTo hc h _),
      answers_actIf hq (State.finish_nmtTo hc h _), answers_actIf hq (State.finish_nmtReset hc h), answers_actIf hq (State.finish_nmtReset hc h)⟩
  · rcases h with h | h | h | h | h
    · exact finish_port_alone h (fun s => s.nmtTo_controlOnly q node _) fun s r hr => s.nmtTo_ne hr node _
    · exact finish_port_alone h (fun s => s.nmtTo_controlOnly q node _) fun s r hr => s.nmtTo_ne hr node _
    · exact finish_port_alone h (fun s => s.nmtTo_controlOnly q node _) fun s r hr => s.nmtTo_ne hr node _
    · exact finish_port_alone h (fun s => s.nmtReset_controlOnly q node) fun s r hr => s.nmtReset_ne hr node
    · exact finish_port_alone h (fun s => s.nmtReset_controlOnly q node) fun s r hr => s.nmtReset_ne hr node

end Sys2Proof.Machine
end

section
set_option Elab.async false
/-!
PROOFS. Heartbeats, emergencies and lost events (R41, R44, R53), acknowledgements (R52, R406), host notes (R412), and reads that remove what
they read (R379, R419): O17.
-/

namespace Sys2Proof.Machine

/-! ### Accesses of objects in effect at once (R8) -/

/-- The object's values take effect at the write. -/
def immediate (k : Nat) : Bool := (objOf k).any fun o => o.acc == .rwI || o.acc == .wo

theorem immediate_cases {k : Nat} {o : Obj} (h : immediate k = true) (ho : objOf k = some o) : o.acc = .rwI ∨ o.acc = .wo := by
  simpa [immediate, ho] using h

theorem objOf_of_immediate {k : Nat} (h : immediate k = true) : ∃ o, objOf k = some o := by
  cases ho : objOf k with
  | none => simp [immediate, ho] at h
  | some o => exact ⟨o, rfl⟩

/-- A heard access of a taken value has its effect and is acknowledged. -/
theorem State.access_effect {s : State} {p : Path} {k : Nat} {data : Bytes} (hi : immediate k = true) (hp : s.hears p = true)
    (h : (s.heard p).takesValue k data = true) (now : Bool) (x : Given) (hx : x.fits = true) :
    s.access p k data now x = ((s.heard p).effect k (leNat data) x).reply p none k 0 := by
  obtain ⟨o, ho⟩ := objOf_of_immediate hi
  rw [State.access_value hp h ho now x hx]
  rcases immediate_cases hi ho with ha | ha
  all_goals rw [ha]; rfl

/-- An access in effect at once sets its content alike, whether it can be read or not. -/
theorem State.setContentOf_of_immediate {s : State} {k : Nat} {o : Obj} (hi : immediate k = true) (ho : objOf k = some o) (b : Bytes)
    (x : Given) : s.setContentOf k o.acc b x = s.setContentOf k .rwI b x := by
  rcases immediate_cases hi ho with ha | ha
  · rw [ha]
  · rw [ha]
    rfl

/-- A heard access of a taken content has its effect and is acknowledged. -/
theorem State.access_contentEffect {s : State} {p : Path} {k : Nat} {b : Bytes} (hi : immediate k = true) (hp : s.hears p = true)
    (h : (s.heard p).takesContent k b = true) (hk : mustReadBack k = false) (himage : k ≠ 0x262002) (now : Bool) (x : Given) :
    s.access p k b now x = ((s.heard p).setContentOf k .rwI b x).reply p none k 0 := by
  obtain ⟨o, ho⟩ := objOf_of_immediate hi
  rw [State.access_content hp h ho now x (by simp [hk]), State.setContentOf_of_immediate hi ho, if_neg fun h => himage h.1]

/-- A heard access of a transfer that is taken whole has its effect and is acknowledged. -/
theorem State.access_transferEffect {s : State} {p : Path} {k : Nat} {data b : Bytes} (hi : immediate k = true) (hp : s.hears p = true)
    (h : (s.heard p).takesTransfer k data b = true) (himage : k ≠ 0x262002) (x : Given) (hx : mustReadBack k = true → x.readBack = true) :
    s.access p k data true x = ((s.heard p).setContentOf k .rwI b x).reply p none k 0 := by
  obtain ⟨o, ho⟩ := objOf_of_immediate hi
  rw [State.access_transfer hp h ho x hx, State.setContentOf_of_immediate hi ho, if_neg fun h => himage h.1]

/-- A heard read hands the content out and removes what it removes. -/
theorem State.accessRead_of_hears {s : State} {p : Path} {k : Nat} {b : Bytes} (hp : s.hears p = true)
    (h : (s.heard p).readObject k = (0, b)) : s.accessRead p k = ((s.heard p).afterRead k).answer p 0 b := by
  rw [State.accessRead, State.hear_of_hears hp, h]
  rfl

/-! ### Heartbeats and emergencies (R41, R44) -/

theorem State.heartbeat_of_due {s : State} {q : Nat} {c : CanPort} (hs : s.served = true) (hc : s.ctl.ports[q]? = some c)
    (hon : s.portOn q = true) (hperiod : s.get 0x101700 ≠ 0) (hdue : c.heartbeatAt + s.get 0x101700 * 1000000 ≤ s.now) :
    s.heartbeat q = (s.send (.can q (0x700 + s.nodeId) (leBytes 1 c.nmt.code))).setPort q fun c => { c with heartbeatAt := s.now } := by
  simp [State.heartbeat, hc, hs, hon, hperiod, hdue]

/-- A port's record once the first emergency that waits there has left. -/
def CanPort.emcySent (c : CanPort) (rest : List Emcy) (now : Nat) : CanPort :=
  { c with emcy := rest, lastEmcy := some now, overflowing := false }

theorem State.sendEmcy_of_due {s : State} {q : Nat} {c : CanPort} {e : Emcy} {rest : List Emcy} (hc : s.ctl.ports[q]? = some c)
    (hon : s.portOn q = true) (henabled : bitOf (s.get 0x101400) 31 = false) (hnmt : c.nmt ≠ .stopped) (he : c.emcy = e :: rest)
    (hdue : ∀ l, c.lastEmcy = some l → l + s.get 0x101500 * 100000 ≤ s.now) :
    (s.sendEmcy q).out = s.out ++ [.can q (s.get 0x101400 % 2048) e.bytes]
      ∧ (s.sendEmcy q).ctl.ports = setNth s.ctl.ports q (c.emcySent rest s.now) := by
  have hlast : (match c.lastEmcy with | none => true | some l => decide (l + s.get 0x101500 * 100000 ≤ s.now)) = true := by
    split
    · rfl
    next l hl => exact decide_eq_true (hdue l hl)
  have hsends : (s.portOn q && !bitOf (s.get 0x101400) 31 && c.nmt != .stopped
      && match c.lastEmcy with | none => true | some l => decide (l + s.get 0x101500 * 100000 ≤ s.now)) = true := by
    rw [hlast, hon, henabled]
    simpa using hnmt
  unfold State.sendEmcy
  rw [hc]
  dsimp only
  rw [he]
  dsimp only
  rw [if_pos (by exact hsends)]
  exact ⟨rfl, rfl⟩

/-! ### Lost events (R53) -/

/-- With a MAC link up an event frame leaves the control path alone. -/
theorem State.eventFrame_ctl_of_link {s : State} (h : s.get 0x280009 ≠ 0) (b : Bytes) : (s.eventFrame b).ctl = s.ctl := by
  unfold State.eventFrame
  split
  · rfl
  · rfl

theorem State.event_ctl_of_link {s : State} (h : s.get 0x280009 ≠ 0) (kind : Nat) : (s.event kind).ctl = s.ctl := by
  refine State.eventFrame_ctl_of_link ?_ _
  rwa [State.get_put_ne _ (by decide)]

theorem State.eventIf_ctl_of_link {s : State} (h : s.get 0x280009 ≠ 0) (b : Bool) (kind : Nat) : (s.eventIf b kind).ctl = s.ctl := by
  cases b
  · rfl
  · exact State.event_ctl_of_link h kind

theorem State.latchReady_eventsLost (s : State) (r : Nat) : (s.latchReady r).ctl.eventsLost = s.ctl.eventsLost := by
  unfold State.latchReady
  split <;> rfl

theorem State.evtPin_eventsLost (s : State) (n : Nat) : (s.evtPin n).ctl.eventsLost = s.ctl.eventsLost := by
  unfold State.evtPin
  split <;> rfl

theorem State.note_eventsLost (s : State) : s.note.ctl.eventsLost = s.ctl.eventsLost := by
  unfold State.note
  rfl

/-- With a MAC link up the events of a command are not lost. -/
theorem State.tell_eventsLost_of_link {s : State} (h : s.get 0x280009 ≠ 0) : s.tell.ctl.eventsLost = s.ctl.eventsLost := by
  have hnote : s.note.get 0x280009 ≠ 0 := by rwa [State.get_congr s.note_regs]
  have htold (b : Bool) (kind : Nat) : (s.note.eventIf b kind).get 0x280009 ≠ 0 := by
    rwa [State.get_eventIf _ _ _ (by decide)]
  unfold State.tell
  rw [State.evtPin_eventsLost, State.evtPin_eventsLost]
  dsimp only
  split
  · exact s.note_eventsLost
  · rw [State.latchReady_eventsLost, State.eventIf_ctl_of_link (htold _ _), State.eventIf_ctl_of_link hnote, State.note_eventsLost]

theorem State.finish_eventsLost_of_link {s : State} {t : Nat} {f : State → State} (h : (f (s.begin t)).get 0x280009 ≠ 0) :
    (s.finish t f).ctl.eventsLost = (f (s.begin t)).ctl.eventsLost := State.tell_eventsLost_of_link h

/-- The state once the lost events are about to be told. -/
def State.lostTold (s : State) : State := { s with ctl := { s.ctl with eventsLost := 0 } }

theorem State.tellLost_of_room {s : State} (hlost : s.ctl.eventsLost ≠ 0) (hroom : s.ctl.eventFrames.length < 64) (hs : s.served = true)
    (hon : s.eventsOn = true) (hlink : s.get 0x280009 ≠ 0) :
    s.tellLost = s.lostTold.toEventDest (s.eventPayload 5 s.ctl.eventsLost s.ctl.lostSeq s.ctl.lostTime) := by
  have hcond : ¬ (s.ctl.eventsLost = 0 ∨ 64 ≤ s.ctl.eventFrames.length ∨ (!s.served) = true) := by
    simp [hlost, hroom, hs]
  have hon' : s.lostTold.eventsOn = true := hon
  have hlink' : s.lostTold.get 0x280009 ≠ 0 := hlink
  have hframe : s.lostTold.eventFrame (s.eventPayload 5 s.ctl.eventsLost s.ctl.lostSeq s.ctl.lostTime)
      = s.lostTold.toEventDest (s.eventPayload 5 s.ctl.eventsLost s.ctl.lostSeq s.ctl.lostTime) := by
    simp [State.eventFrame, hon', hlink']
  exact (if_neg hcond).trans hframe

/-! ### Acknowledgements (R52, R406) -/

theorem State.sweep_queue_of_no_overflow {s : State} (h : s.faults.overflowOwed = false) :
    s.sweep.faults.queue = s.faults.queue.filter fun f => !f.leaves := by
  have htold : s.sweepTold.faults = s.swept.faults := by
    unfold State.sweepTold
    split
    · exact State.tellEmptied_faults _
    · rfl
  have howed : s.sweepTold.faults.overflowOwed = false := by rw [htold]; exact h
  rw [State.sweep_eq, howed, Bool.false_and, if_neg (by decide), htold]
  rfl

theorem State.ackEvents_queue {s : State} (h : s.faults.overflowOwed = false) (v : Nat) :
    (s.ackEvents v).faults.queue = (s.faults.queue.map (fun f => if seqAtOrBelow f.seq v then { f with acked := true } else f)).filter fun f => !f.leaves :=
  State.sweep_queue_of_no_overflow (s := { s.put 0x204004 v with faults :=
    { s.faults with queue := s.faults.queue.map (fun f => if seqAtOrBelow f.seq v then { f with acked := true } else f) } }) h

theorem State.get_ackEvents (s : State) (v : Nat) : (s.ackEvents v).get 0x204004 = v % 2 ^ 32 := by
  unfold State.ackEvents
  rw [State.get_sweep _ (by decide)]
  exact s.get_put_self 0x204004 v

/-! ### Beacon entries (R412, R414) -/

theorem mem_keepNewest {limit : Nat} {e : Entry} (h : e.size ≤ limit) (l : List Entry) : e ∈ keepNewest limit (l ++ [e]) := by
  induction l with
  | nil => simp [keepNewest, pendingBytes, h]
  | cons x l ih =>
    simp only [List.cons_append, keepNewest]
    split
    · exact List.mem_cons_of_mem _ ih
    · exact ih

/-- A small entry that finds nothing pending is kept in staging, and waits where the journal takes entries. -/
theorem State.beaconPut_of_nothing_pending {s : State} {e : Entry} (hp : s.beacon.pending = []) (hk : e.aboveLimit = false)
    (hsize : e.size ≤ 57344) :
    (s.beaconPut e).2 = false ∧ (s.beaconPut e).1.beacon.staging = keepNewest 4194304 (s.beacon.staging ++ [e])
      ∧ (s.beacon.present = true → s.beacon.stagingOnly = false → (s.beaconPut e).1.beacon.pending = [e]) := by
  have hfit : ordinaryBytes [] + e.size ≤ 57344 := by simpa [ordinaryBytes] using hsize
  unfold State.beaconPut
  dsimp only
  split
  next h =>
    refine ⟨rfl, rfl, fun hpresent hstaging => ?_⟩
    simp [hpresent, hstaging] at h
  next h =>
    rw [hk, hp]
    simp [dropFor, hfit]

theorem State.beaconAdd_of_nothing_pending {s : State} {kind flags : Nat} {body payload : Bytes} (hp : s.beacon.pending = [])
    (hk : (s.newEntry kind flags body payload).2.aboveLimit = false) (hsize : (s.newEntry kind flags body payload).2.size ≤ 57344) :
    (s.newEntry kind flags body payload).2 ∈ (s.beaconAdd kind flags body payload).beacon.staging
      ∧ (s.beacon.present = true → s.beacon.stagingOnly = false →
        (s.beaconAdd kind flags body payload).beacon.pending = [(s.newEntry kind flags body payload).2]) := by
  obtain ⟨hkept, hstaging, hpending⟩ :=
    State.beaconPut_of_nothing_pending (s := (s.newEntry kind flags body payload).1) (by exact hp) hk hsize
  have hadd : s.beaconAdd kind flags body payload
      = ((s.newEntry kind flags body payload).1.beaconPut (s.newEntry kind flags body payload).2).1 := by
    unfold State.beaconAdd
    dsimp only
    rw [hkept]
    rfl
  rw [hadd, hstaging]
  exact ⟨mem_keepNewest (by omega) _, hpending⟩

/-! ### Reads with removal (R379, R419) -/

theorem State.get_afterRead_entries {s : State} {e : Entry} (h : s.beaconEntries.getLast? = some e) (hlt : e.seq + 1 < 2 ^ 64) :
    (s.afterRead 0x22100C).get 0x22100B = e.seq + 1 := by
  have hread : s.afterRead 0x22100C = s.put 0x22100B (e.seq + 1) := by
    simp [State.afterRead, State.advanceRead, h]
  rw [hread, State.get_put_self]
  exact Nat.mod_eq_of_lt hlt

theorem State.afterRead_timestamps (s : State) {n : Nat} (h : n < 4) : s.afterRead (capK n 4) = s.takeTimestamps n := by
  have hk : capK n 4 = (0x2830 + n) * 256 + 4 := rfl
  have hn : capK n 4 / 256 - 0x2830 = n := by omega
  unfold State.afterRead
  rw [if_neg (by omega), if_pos (by omega), hn]

theorem State.takeTimestamps_queue (s : State) (n : Nat) : ((s.takeTimestamps n).capture n).queue = [] := by
  rcases Nat.lt_or_ge n s.net.captures.length with h | h
  · exact congrArg Capture.queue (nth_setNth_self h _ _)
  · simp [State.takeTimestamps, State.capture, State.setCapture, nth, setNth, h]

/-! ### O17 -/

/-- The heartbeat that falls due leaves, and its time starts anew. -/
theorem finish_heartbeat {s : State} {t q : Nat} {c : CanPort} (hs : s.served = true) (hc : s.ctl.ports[q]? = some c)
    (hon : s.portOn q = true) (hperiod : s.get 0x101700 ≠ 0) (hdue : c.heartbeatAt + s.get 0x101700 * 1000000 ≤ max s.now t) :
    Out.can q (0x700 + s.nodeId) (leBytes 1 c.nmt.code) ∈ (s.finish t fun s => s.heartbeat q).out
      ∧ (s.finish t fun s => s.heartbeat q).ctl.ports[q]? = some { c with heartbeatAt := max s.now t } := by
  have hrun := State.heartbeat_of_due (s := s.begin t) hs hc hon hperiod hdue
  refine ⟨State.mem_finish_out ?_, ?_⟩
  · rw [hrun]
    exact List.mem_append_right _ (List.mem_singleton_self _)
  · rw [State.finish_ports, hrun]
    exact State.setPort_self (s := (s.begin t).send _) hc _

/-- The first emergency that waits leaves once the inhibit time has passed. -/
theorem finish_sendEmcy {s : State} {t q : Nat} {c : CanPort} {e : Emcy} {rest : List Emcy} (hs : s.served = true)
    (hc : s.ctl.ports[q]? = some c) (hon : s.portOn q = true) (henabled : bitOf (s.get 0x101400) 31 = false) (hnmt : c.nmt ≠ .stopped)
    (he : c.emcy = e :: rest) (hdue : ∀ l, c.lastEmcy = some l → l + s.get 0x101500 * 100000 ≤ max s.now t) :
    Out.can q (s.get 0x101400 % 2048) e.bytes ∈ (s.finish t fun s => if s.served then s.sendEmcy q else s).out
      ∧ (s.finish t fun s => if s.served then s.sendEmcy q else s).ctl.ports[q]? = some (c.emcySent rest (max s.now t)) := by
  obtain ⟨hout, hports⟩ := State.sendEmcy_of_due (s := s.begin t) hc hon henabled hnmt he hdue
  have hrun : (if (s.begin t).served then (s.begin t).sendEmcy q else s.begin t) = (s.begin t).sendEmcy q := if_pos hs
  refine ⟨State.mem_finish_out ?_, ?_⟩
  · rw [hrun, hout]
    exact List.mem_append_right _ (List.mem_singleton_self _)
  · obtain ⟨hlt, -⟩ := List.getElem?_eq_some_iff.1 hc
    rw [State.finish_ports, hrun, hports]
    exact List.getElem?_set_self hlt

/-- The frame that tells of lost events leaves at once over a MAC link. -/
theorem finish_tellLost {s : State} {t : Nat} (hs : s.served = true) (hlost : s.ctl.eventsLost ≠ 0) (hroom : s.ctl.eventFrames.length < 64)
    (hon : s.eventsOn = true) (hlink : s.get 0x280009 ≠ 0) :
    (s.finish t State.tellLost).ctl.eventsLost = 0
      ∧ Out.udp (s.get 0x280008) (s.get 0x203102) (leNat ((s.dom 0x203104).take 16)) (fieldLE (s.dom 0x203104) 16 2)
          (dictFrame 0xE0 0 0 0 0 ((s.begin t).eventPayload 5 s.ctl.eventsLost s.ctl.lostSeq s.ctl.lostTime))
        ∈ (s.finish t State.tellLost).out := by
  have hrun := State.tellLost_of_room (s := s.begin t) hlost hroom hs hon hlink
  have hlink' : (s.begin t).tellLost.get 0x280009 ≠ 0 := by
    rw [hrun]
    exact hlink
  refine ⟨?_, State.mem_finish_out ?_⟩
  · rw [State.finish_eventsLost_of_link hlink', hrun]
    rfl
  · rw [hrun]
    exact List.mem_append_right _ (List.mem_singleton_self _)

/-- An acknowledgement marks what it covers, and what may leave the queue does. -/
theorem finish_acknowledge {s : State} {t v : Nat} {p : Path} (hp : (s.begin t).hears p = true)
    (htakes : ((s.begin t).heard p).takesValue 0x204004 (leBytes 4 v) = true) (ho : s.faults.overflowOwed = false) (hv : v < 2 ^ 32) :
    (s.finish t fun s => s.access p 0x204004 (leBytes 4 v)).answered p 0 []
      ∧ (s.finish t fun s => s.access p 0x204004 (leBytes 4 v)).get 0x204004 = v
      ∧ (s.finish t fun s => s.access p 0x204004 (leBytes 4 v)).faults.queue
        = (s.faults.queue.map (fun f => if seqAtOrBelow f.seq v then { f with acked := true } else f)).filter fun f => !f.leaves := by
  have hv' : leNat (leBytes 4 v) = v := (leNat_leBytes 4 v).trans (Nat.mod_eq_of_lt hv)
  have hrun := State.access_effect (by decide +kernel) hp htakes false {} rfl
  rw [hv'] at hrun
  have heffect : ((s.begin t).heard p).effect 0x204004 v {} = ((s.begin t).heard p).ackEvents v := rfl
  rw [heffect] at hrun
  refine ⟨State.finish_taken_answered hrun, ?_, ?_⟩
  · rw [State.finish_taken_get (f := fun s => s.access p 0x204004 (leBytes 4 v)) hrun (by decide), State.get_ackEvents]
    exact Nat.mod_eq_of_lt hv
  · rw [State.finish_faults, hrun, State.reply_faults, State.ackEvents_queue (by rw [State.heard_faults]; exact ho), State.heard_faults]
    rfl

/-- A host note becomes an entry in staging, and where the journal takes entries the one that waits. -/
theorem finish_hostNote {s : State} {t : Nat} {p : Path} {data note : Bytes} (hp : (s.begin t).hears p = true)
    (htakes : ((s.begin t).heard p).takesTransfer 0x22100D data note = true) (hpending : s.beacon.pending = []) :
    (s.finish t fun s => s.access p 0x22100D data true).answered p 0 []
      ∧ ∃ e ∈ (s.finish t fun s => s.access p 0x22100D data true).beacon.staging, e.kind = 0x0C ∧ e.seq = s.beacon.nextSeq
        ∧ e.body = leBytes 2 note.length ∧ e.payload = note ∧ e.job = (!note.isEmpty && s.groomerRuns)
        ∧ (s.beacon.present = true → s.beacon.stagingOnly = false →
          (s.finish t fun s => s.access p 0x22100D data true).beacon.pending = [e]) := by
  have hrun := State.access_transferEffect (by decide +kernel) hp htakes (by decide) {} fun _ => rfl
  have hlen : note.length ≤ 4096 := by
    have hobj : (objOf 0x22100D).map (·.rng) = some (.len 1 4096 1) := by decide +kernel
    simp only [State.takesTransfer, State.contentFits, Bool.and_eq_true] at htakes
    obtain ⟨-, hfits⟩ := htakes
    cases ho : objOf 0x22100D with
    | none => simp [ho] at hobj
    | some o =>
      simp only [ho, Option.map_some, Option.some.injEq] at hobj
      simp only [ho, hobj, lengthOk, Bool.and_eq_true, decide_eq_true_eq] at hfits
      exact hfits.1.2.1.2
  have hbeacon : ((s.begin t).heard p).beacon = s.beacon := by rw [State.heard_beacon, State.begin_beacon]
  obtain ⟨hmem, halone⟩ := State.beaconAdd_of_nothing_pending (s := (s.begin t).heard p) (kind := 0x0C) (flags := 0)
    (body := leBytes 2 note.length) (payload := note) (by rw [hbeacon, hpending]) rfl (by
      simp only [State.newEntry, Entry.size, Entry.units]
      omega)
  have hjob : ((s.begin t).heard p).groomerRuns = s.groomerRuns := by
    simp only [State.groomerRuns, State.usable_congr (((s.begin t).heard_stages p).trans (s.begin_stages t))
      (((s.begin t).heard_power p).trans (s.begin_power t)), State.heard_power, State.begin_power]
  refine ⟨State.finish_taken_answered hrun, (((s.begin t).heard p).newEntry 0x0C 0 (leBytes 2 note.length) note).2, ?_, rfl, ?_, rfl, rfl, ?_, ?_⟩
  · rw [State.finish_beacon, hrun, State.reply_beacon]
    exact hmem
  · exact congrArg Beacon.nextSeq hbeacon
  · exact congrArg (!note.isEmpty && ·) hjob
  · rw [State.finish_beacon, hrun, State.reply_beacon, ← hbeacon]
    exact halone

/-- A read of the journal's entries moves its start past the last one handed out. -/
theorem finish_beaconRead {s : State} {t : Nat} {p : Path} {b : Bytes} {e : Entry} (hp : (s.begin t).hears p = true)
    (hread : ((s.begin t).heard p).readObject 0x22100C = (0, b)) (hlast : s.beaconEntries.getLast? = some e) (hlt : e.seq + 1 < 2 ^ 64) :
    (s.finish t fun s => s.accessRead p 0x22100C).answered p 0 b
      ∧ (s.finish t fun s => s.accessRead p 0x22100C).get 0x22100B = e.seq + 1 := by
  have hrun := State.accessRead_of_hears hp hread
  have hentries : ((s.begin t).heard p).beaconEntries = s.beaconEntries := by
    simp only [State.beaconEntries, State.heard_nv, State.heard_beacon, State.get_heard, State.begin_nv, State.begin_beacon, State.get_begin]
  refine ⟨State.answered_finish ?_, ?_⟩
  · rw [hrun]
    exact State.answered_answer _ _ _ _
  · rw [State.get_finish _ _ _ (by decide) (by decide), hrun, State.get_answer]
    exact State.get_afterRead_entries (hentries ▸ hlast) hlt

/-- A read of captured timestamps empties their queue. -/
theorem finish_timestampsRead {s : State} {t input : Nat} {p : Path} {b : Bytes} (hp : (s.begin t).hears p = true) (hi : input < 4)
    (hread : ((s.begin t).heard p).readObject (capK input 4) = (0, b)) :
    (s.finish t fun s => s.accessRead p (capK input 4)).answered p 0 b
      ∧ ((s.finish t fun s => s.accessRead p (capK input 4)).capture input).queue = [] := by
  have hrun := State.accessRead_of_hears hp hread
  rw [State.afterRead_timestamps _ hi] at hrun
  refine ⟨State.answered_finish ?_, ?_⟩
  · rw [hrun]
    exact State.answered_answer _ _ _ _
  · rw [State.capture, State.finish_net, hrun, State.answer_net]
    exact State.takeTimestamps_queue _ input

/-- Settles O17: each message or entry is due by its hypotheses, and its handling is one step of its unit. -/
theorem messagesAndEventsAreHanded : Obligations.MessagesAndEventsAreHanded := by
  refine ⟨fun s t q c hq hs => ⟨fun hc hon hperiod hdue => ?_, fun e rest hc hon henabled hnmt he hdue => ?_,
    fun hlost hroom hon hlink => ?_⟩, fun s t v p hp htakes ho hv => ?_, fun s t p hp => ⟨fun data note htakes hpending => ?_,
    fun b e hread hlast hlt => ?_, fun input b hi hread => ?_⟩⟩
  · rw [exec_producerHeartbeat]
    exact answers_actIf (decide_eq_true hq) (finish_heartbeat hs hc hon hperiod hdue)
  · rw [exec_emcyInhibitExpiry]
    exact answers_actIf (decide_eq_true hq) (finish_sendEmcy hs hc hon henabled hnmt he hdue)
  · rw [exec_eventsLostFrame]
    exact answers_act (finish_tellLost hs hlost hroom hon hlink)
  · rw [exec_eventAcknowledge]
    exact answers_act (finish_acknowledge hp htakes ho hv)
  · rw [exec_hostNote]
    exact answers_act (finish_hostNote hp htakes hpending)
  · rw [exec_beaconRead]
    exact answers_act (finish_beaconRead hp hread hlast hlt)
  · rw [exec_timestampsRead]
    exact answers_actIf (decide_eq_true hi) (finish_timestampsRead hp hi hread)

end Sys2Proof.Machine
end

section
set_option Elab.async false
/-!
PROOFS. A staged write whose CAN port serves no longer (R40, R55): the refutation of O13.
-/

namespace Sys2Proof.Machine

/-! ### Telling answers nothing (R52 to R54) -/

section Answer

variable {s : State} {p : Path} {cob code : Nat} {data : Bytes}

theorem State.answer_of_mem_eventFrame {b : Bytes} (h : Out.answer p cob code data ∈ (s.eventFrame b).out) :
    Out.answer p cob code data ∈ s.out := by
  unfold State.eventFrame at h
  split_ifs at h
  · exact h
  · simpa [State.toEventDest] using h
  · exact h
  · exact h
  · exact h

theorem State.answer_of_mem_eventIf {b : Bool} {kind : Nat} (h : Out.answer p cob code data ∈ (s.eventIf b kind).out) :
    Out.answer p cob code data ∈ s.out := by
  cases b
  · exact h
  · exact State.answer_of_mem_eventFrame (s := s.put 0x204005 _) h

theorem State.answer_of_mem_evtPin {n : Nat} (h : Out.answer p cob code data ∈ (s.evtPin n).out) : Out.answer p cob code data ∈ s.out := by
  unfold State.evtPin at h
  split at h
  · exact h
  · simpa [State.send] using h

theorem State.answer_of_mem_tell (h : Out.answer p cob code data ∈ s.tell.out) : Out.answer p cob code data ∈ s.out := by
  unfold State.tell at h
  have htold := State.answer_of_mem_evtPin (State.answer_of_mem_evtPin h)
  split at htold
  · rwa [State.out_note] at htold
  · rw [State.out_latchReady] at htold
    have hnote := State.answer_of_mem_eventIf (State.answer_of_mem_eventIf htold)
    rwa [State.out_note] at hnote

end Answer

/-- What a command has answered, its own effect has. -/
theorem State.answer_of_mem_finish {s : State} {t : Nat} {f : State → State} {p : Path} {cob code : Nat} {data : Bytes}
    (h : Out.answer p cob code data ∈ (s.finish t f).out) : Out.answer p cob code data ∈ (f (s.begin t)).out :=
  State.answer_of_mem_tell h

/-! ### The check of a staged write (R55) -/

/-- A transfer behind a bulk header of format 0x00 is set, or changes nothing. -/
theorem State.commitContent_uncoded {s : State} {k : Nat} {o : Obj} {data : Bytes} {x : Given} (hlen : 1024 < data.length)
    (hform : byteAt data 2 = 0) : (s.commitContent k o data x).1 = s ∨ ∃ b, (s.commitContent k o data x).1 = s.setContentOf k o.acc b x := by
  have hintake : s.intake data = (s, (s.intake data).2) := by
    simp [State.intake, hform, show ¬ data.length ≤ 1024 by omega]
  unfold State.commitContent
  split
  · exact .inl rfl
  split
  · exact .inl rfl
  · rw [hintake]
    cases (s.intake data).2 with
    | none => exact .inl rfl
    | some b =>
      dsimp only
      split
      · exact .inl rfl
      · exact .inr ⟨b, rfl⟩

/-- The state once the staged writes of an object have left. -/
def State.unstaged (s : State) (k : Nat) : State := { s with ctl := { s.ctl with staged := s.ctl.staged.filter fun y => y.key != k } }

theorem State.checkStaged_of_plain {s : State} {k : Nat} {w : Staged} {o : Obj} (hw : (s.ctl.staged.find? fun w => w.key == k) = some w)
    (hplain : looseBulk w.data = false) (hg : s.gate k true = 0) (ho : objOf k = some o) (readBack : Bool) :
    s.checkStaged k readBack = ((s.unstaged k).commitContent k o w.data { readBack }).1.replyStaged w
      ((s.unstaged k).commitContent k o w.data { readBack }).2 := by
  have hg' : (s.unstaged k).gate k true = 0 := (State.gate_congr rfl rfl rfl k true).trans hg
  unfold State.checkStaged
  rw [hw]
  simp only [hplain, Bool.false_and, Bool.false_eq_true, if_false]
  change (match (s.unstaged k).gate k true, objOf k with
    | 0, some o => ((s.unstaged k).commitContent k o w.data { readBack }).1.replyStaged w
        ((s.unstaged k).commitContent k o w.data { readBack }).2
    | c, _ => (s.unstaged k).replyStaged w c) = _
  rw [hg', ho]
  rfl

/-- A CAN port that serves no longer is told nothing. -/
theorem State.replyStaged_of_stopped {s : State} {w : Staged} {q : Nat} (hw : w.path = .can q) (h : s.canServes q = false) (code : Nat) :
    s.replyStaged w code = s := by
  simp [State.replyStaged, hw, h]

/-! ### The counterexample -/

/-- A transfer of stress weights over port 0, whole and behind its bulk header (R55, R196). -/
def stagedWeights (b : Bytes) : Staged :=
  { key := 0x490030, path := .can 0, id := none
    data := leBytes 2 0x4442 ++ leBytes 2 0 ++ leBytes 8 b.length ++ leBytes 4 (crc32c b) ++ b }

/-- The device in Run, every function usable; the transfer waits for its check, and port 0 has been stopped since (R42). -/
def stoppedPort (b : Bytes) : State :=
  { runningIdle with ctl := { runningIdle.ctl with ports := [{ nmt := .stopped }, {}], staged := [stagedWeights b] } }

theorem stoppedPort_waits (b : Bytes) :
    ((stoppedPort b).ctl.staged.find? fun w => w.key == keyOf 0x4900 0x30) = some (stagedWeights b) :=
  List.find?_cons_of_pos (a := stagedWeights b) (by exact beq_self_eq_true _)

theorem stoppedPort_gate (b : Bytes) : (stoppedPort b).gate 0x490030 true = 0 := by
  have h : (stoppedPort b).gate 0x490030 true = runningIdle.gate 0x490030 true := State.gate_congr rfl rfl rfl _ _
  exact h.trans (by decide +kernel)

theorem byteAt_stagedWeights (b : Bytes) : byteAt (stagedWeights b).data 2 = 0 := rfl

theorem objOf_weights : ∃ o, objOf 0x490030 = some o ∧ o.ty = .dom ∧ o.acc = .rwI ∧ o.rng = .len 6144 6144 1 := by
  have h : (objOf 0x490030).map (fun o => (o.ty, o.acc, o.rng)) = some (.dom, .rwI, .len 6144 6144 1) := by decide +kernel
  cases ho : objOf 0x490030 with
  | none => simp [ho] at h
  | some o => exact ⟨o, rfl, by simpa [ho] using h⟩

section Weights

variable {b : Bytes} (hb : b.length = 6144)
include hb

theorem length_stagedWeights : 1024 < (stagedWeights b).data.length := by
  simp only [stagedWeights, List.length_append, length_leBytes, hb]
  decide

theorem contentFits_weights (s : State) : s.contentFits 0x490030 b = true := by
  obtain ⟨o, ho, hty, -, hrng⟩ := objOf_weights
  simp only [State.contentFits, ho, hty, hrng, lengthOk, hb]
  rfl

/-- The check of the waiting transfer sends nothing. -/
theorem checkStaged_stoppedPort : (((stoppedPort b).begin 0).checkStaged 0x490030 true).out = [] := by
  obtain ⟨o, ho, -, ha, -⟩ := objOf_weights
  have hplain : looseBulk (stagedWeights b).data = false := by
    rw [looseBulk, byteAt_stagedWeights]
    simp
  have hrun := State.checkStaged_of_plain (s := (stoppedPort b).begin 0) (k := 0x490030) (stoppedPort_waits b) hplain
    ((State.gate_begin _ _ _ _).trans (stoppedPort_gate b)) ho true
  have hstopped : (((stoppedPort b).begin 0).unstaged 0x490030).canServes 0 = false := rfl
  rcases State.commitContent_uncoded (s := ((stoppedPort b).begin 0).unstaged 0x490030) (k := 0x490030) (o := o)
    (x := { readBack := true }) (length_stagedWeights hb) (byteAt_stagedWeights b) with h | ⟨c, h⟩
  · rw [hrun, h, State.replyStaged_of_stopped rfl hstopped]
    rfl
  · have hset : (((stoppedPort b).begin 0).unstaged 0x490030).setContentOf 0x490030 .rwI c { readBack := true }
        = (((stoppedPort b).begin 0).unstaged 0x490030).putDom 0x490030 c := rfl
    rw [hrun, h, ha, hset, State.replyStaged_of_stopped (w := stagedWeights b) (q := 0) rfl (by exact hstopped)]
    rfl

end Weights

/-- Refutes O13: its clause on staged writes has every one answered, but a transfer that came over a CAN port may wait for its check while
the port is stopped (R42), which then serves no channel to answer on (R40). Stress weights staged over port 0 are checked, and nothing is
sent. -/
theorem not_udpAccessesAreAnswered : ¬ Obligations.UdpAccessesAreAnswered := by
  rintro ⟨-, -, hstaged⟩
  obtain ⟨b, hb⟩ : ∃ b : Bytes, b.length = 6144 := ⟨List.replicate 6144 1, List.length_replicate⟩
  obtain ⟨s', hnext, -, hanswered, -⟩ := hstaged (stoppedPort b) 0 0x4900 0x30 (stagedWeights b) b true rfl (by decide)
    (stoppedPort_waits b) rfl (stoppedPort_gate b) rfl rfl (length_stagedWeights hb) (contentFits_weights hb _) (by rw [hb]; decide)
  rw [exec_domainStagingCheck, act_eq] at hnext
  obtain rfl := Host.Outcome.next.inj hnext
  rcases hanswered with hpath | ⟨cob, hmem⟩
  · cases hpath
  · have hout := State.answer_of_mem_finish hmem
    have hserved : ((stoppedPort b).begin 0).served = true := rfl
    rw [if_pos hserved] at hout
    exact List.not_mem_nil (checkStaged_stoppedPort hb ▸ hout)

end Sys2Proof.Machine
end

section
set_option Elab.async false
/-!
PROOFS. SDO transfers over the CAN ports (R40, R65): O15.
-/

namespace Sys2Proof.Machine

/-! ### The server channel of a port (R40) -/

/-- Answers on a port's server channel carry the COB-ID of this node. -/
theorem State.mem_answer_can {s u : State} (h : u.nodeId = s.nodeId) (q code : Nat) (b : Bytes) :
    Out.answer (.can q) (0x580 + s.nodeId) code b ∈ (u.answer (.can q) code b).out := by
  rw [← h]
  exact List.mem_append_right _ (List.mem_singleton_self _)

theorem State.nodeId_congr {s u : State} (hget : u.get 0x200003 = s.get 0x200003) (hpair : u.pair = s.pair) : u.nodeId = s.nodeId := by
  rw [State.nodeId, State.nodeId, hget, hpair]

theorem State.nodeId_heard (s : State) (p : Path) : (s.heard p).nodeId = s.nodeId :=
  State.nodeId_congr (State.get_heard _ _ _) (State.heard_pair _ _)

theorem State.mem_out_answer {s : State} {o : Out} (h : o ∈ s.out) (p : Path) (code : Nat) (b : Bytes) : o ∈ (s.answer p code b).out := by
  unfold State.answer
  split
  · exact h
  · exact List.mem_append_left _ h

theorem State.afterRead_out (s : State) (k : Nat) : (s.afterRead k).out = s.out := by
  unfold State.afterRead State.advanceRead State.takeTimestamps
  split_ifs
  · split <;> rfl
  · rfl
  · rfl

theorem State.afterRead_pair (s : State) (k : Nat) : (s.afterRead k).pair = s.pair := by
  unfold State.afterRead State.advanceRead State.takeTimestamps
  split_ifs
  · split <;> rfl
  · rfl
  · rfl

/-- A read removes nothing of the objects but where the entries were read up to (R419). -/
theorem State.get_afterRead_ne (s : State) (k : Nat) {j : Nat} (hj : j ≠ 0x22100B) : (s.afterRead k).get j = s.get j := by
  unfold State.afterRead State.advanceRead State.takeTimestamps
  split_ifs
  · split
    · exact State.get_put_ne _ hj _
    · rfl
  · rfl
  · rfl

theorem State.nodeId_afterRead (s : State) (k : Nat) : (s.afterRead k).nodeId = s.nodeId :=
  State.nodeId_congr (State.get_afterRead_ne _ _ (by decide)) (State.afterRead_pair _ _)

theorem State.setSdo_self {s : State} {q : Nat} {o : SdoOpen} (h : s.sdoOf q = some o) (r : Option SdoOpen) : (s.setSdo q r).sdoOf q = r := by
  obtain ⟨c, hc, -⟩ := Option.bind_eq_some_iff.1 h
  have hlt : q < s.ctl.ports.length := (List.getElem?_eq_some_iff.1 hc).1
  simp [State.setSdo, State.sdoOf, setNth, hlt]

theorem State.sdoOf_congr {s u : State} (h : u.ctl.ports = s.ctl.ports) (q : Nat) : u.sdoOf q = s.sdoOf q := by
  rw [State.sdoOf, State.sdoOf, h]

theorem State.sdoOf_finish (s : State) (t : Nat) (f : State → State) (q : Nat) : (s.finish t f).sdoOf q = (f (s.begin t)).sdoOf q :=
  State.sdoOf_congr (State.finish_ports _ _ _) q

theorem State.sdoOf_answer (s : State) (p : Path) (code : Nat) (b : Bytes) (q : Nat) : (s.answer p code b).sdoOf q = s.sdoOf q :=
  State.sdoOf_congr (congrArg _ (State.answer_ctl _ _ _ _)) q

/-! ### Requests (R40) -/

section Request

variable {s : State} {q : Nat}

theorem State.clientCob_ne (s : State) : (0x600 + s.nodeId != s.clientCob) = false := bne_self_eq_false _

section Served

variable (h : s.canServes q = true) (index sub : Nat) (data : Bytes) (toggle last : Bool)
include h

theorem State.sdoRequest_download :
    s.sdoRequest q (0x600 + s.nodeId) (.initiateDownload index sub data) = s.access (.can q) (keyOf index sub) data := by
  simp [State.sdoRequest, State.access, State.hear, h, s.clientCob_ne, blockRequest]

theorem State.sdoRequest_upload : s.sdoRequest q (0x600 + s.nodeId) (.initiateUpload index sub) = s.sdoOpenUpload q index sub false := by
  simp [State.sdoRequest, h, s.clientCob_ne, blockRequest]

theorem State.sdoRequest_downloadSegment :
    s.sdoRequest q (0x600 + s.nodeId) (.downloadSegment toggle data last) = s.sdoOn q false false (s.sdoSegment q toggle data last) := by
  simp [State.sdoRequest, h, s.clientCob_ne, blockRequest]

theorem State.sdoRequest_uploadSegment :
    s.sdoRequest q (0x600 + s.nodeId) (.uploadSegment toggle) = s.sdoOn q true false (s.sdoNextSegment q toggle) := by
  simp [State.sdoRequest, h, s.clientCob_ne, blockRequest]

end Served

theorem State.sdoOn_of_open {o : SdoOpen} (h : s.sdoOf q = some o) {upload block : Bool} (hu : o.upload = upload) (hb : o.block = block)
    (f : SdoOpen → State) : s.sdoOn q upload block f = f o := by
  simp [State.sdoOn, h, hu, hb]

/-- An upload that fits one message is answered with the content (R40). -/
theorem State.sdoOpenUpload_expedited {index sub : Nat} {b : Bytes} (h : (s.supersede q).readObject (keyOf index sub) = (0, b))
    (hsize : b.length ≤ ((s.supersede q).afterRead (keyOf index sub)).expeditedSize q) :
    s.sdoOpenUpload q index sub false = ((s.supersede q).afterRead (keyOf index sub)).answer (.can q) 0 b := by
  simp [State.sdoOpenUpload, h, hsize]

/-- What was sent before an upload stays sent. -/
theorem State.mem_sdoOpenUpload {o : Out} (h : o ∈ (s.supersede q).out) (index sub : Nat) (block : Bool) :
    o ∈ (s.sdoOpenUpload q index sub block).out := by
  unfold State.sdoOpenUpload
  dsimp only
  split
  · split
    · exact State.mem_out_answer (by rwa [State.afterRead_out]) _ _ _
    · exact State.mem_out_answer (by rwa [State.setSdo_out, State.afterRead_out]) _ _ _
  · exact State.mem_out_answer h _ _ _

/-- A new initiate aborts the transfer that is open (R40). -/
theorem State.mem_supersede {o : SdoOpen} (h : s.sdoOf q = some o) : Out.answer (.can q) (0x580 + s.nodeId) 0x05040001 [] ∈ (s.supersede q).out := by
  rw [State.supersede, if_pos (by simp [h])]
  exact (State.setSdo_out _ _ _).symm ▸ State.mem_answer_can rfl q _ _

/-- A segment in its turn is kept. -/
theorem State.sdoSegment_of_turn {o : SdoOpen} {data : Bytes} (hloose : s.looseStart o.size o.data (o.data ++ data) = false) :
    s.sdoSegment q o.toggle data false o
      = (s.setSdo q (some { o with data := o.data ++ data, toggle := !o.toggle, last := s.now })).answer (.can q) 0 := by
  simp [State.sdoSegment, hloose]

/-- A segment that is asked for in its turn is handed out. -/
theorem State.mem_sdoNextSegment (o : SdoOpen) :
    Out.answer (.can q) (0x580 + s.nodeId) 0 (o.data.take (s.segmentSize q)) ∈ (s.sdoNextSegment q o.toggle o).out := by
  rw [State.sdoNextSegment, if_neg (by simp)]
  exact State.mem_answer_can (State.nodeId_congr (State.get_setSdo _ _ _ _) (State.setSdo_pair _ _ _)) _ _ _

end Request

theorem nodeId_not_held : ∀ k ∈ heldScalars, 0x200003 ≠ k := by decide

/-- A held value leaves this node's number alone: that is read again after a burn alone (R8). -/
theorem State.nodeId_effect_held (s : State) {k : Nat} (hk : k ∈ heldScalars) (v : Nat) (x : Given) : (s.effect k v x).nodeId = s.nodeId := by
  rw [s.effect_of_held v x k hk]
  have hput : (s.put k v).get 0x200003 = s.get 0x200003 := State.get_put_ne _ (nodeId_not_held k hk) _
  split
  · exact State.nodeId_congr (s := s) (u := (s.put k v).seekTick) hput rfl
  · exact State.nodeId_congr hput rfl

theorem immediate_of_heldScalar : ∀ k ∈ heldScalars, immediate k = true := by decide +kernel

/-- A held value that is downloaded takes effect and is acknowledged (R8, R40). -/
theorem State.access_held {s : State} {q k : Nat} {data : Bytes} (hserves : s.canServes q = true) (hk : k ∈ heldScalars)
    (h : (s.supersede q).takesValue k data = true) :
    s.access (.can q) k data = ((s.supersede q).effect k (leNat data) {}).answer (.can q) 0 :=
  State.access_effect (p := .can q) (immediate_of_heldScalar k hk) hserves h false {} rfl

theorem State.get_access_held {s : State} {q k : Nat} {data : Bytes} (hk : k ∈ heldScalars)
    (h : (s.supersede q).takesValue k data = true) : ((s.supersede q).effect k (leNat data) {}).get k = leNat data := by
  obtain ⟨o, ho⟩ := objOf_of_immediate (immediate_of_heldScalar k hk)
  exact (State.get_setScalar_held hk {}).trans (State.leNat_of_takesValue h ho)

theorem expeditedSize_congr {s u : State} {q : Nat} (h : u.get (0x203001 + q) = s.get (0x203001 + q)) :
    u.expeditedSize q = s.expeditedSize q := by
  rw [State.expeditedSize, State.expeditedSize, h]

/-- A transfer without progress for 500 ms is aborted (R65). -/
theorem State.sdoIdles_of_due {s : State} {q : Nat} {o : SdoOpen} (ho : s.sdoOf q = some o) (hserves : s.canServes q = true)
    (hdue : o.last + 500000000 ≤ s.now) : s.sdoIdles q = s.sdoAbort q 0x05040000 := by
  simp [State.sdoIdles, ho, hserves, hdue]

/-- Settles O15, request by request. -/
theorem sdoTransfersAreServed : Obligations.SdoTransfersAreServed := by
  refine ⟨fun s t q index sub data hq hserves => ?_, fun s t q o hq hserves ho hdue => ?_⟩
  · have hup : (s.begin t).sdoRequest q (0x600 + s.nodeId) _ = _ := State.sdoRequest_upload (s := s.begin t) hserves index sub
    have hnode : ((s.begin t).supersede q).nodeId = s.nodeId := State.nodeId_heard (s.begin t) (.can q)
    have hqs := decide_eq_true hq
    simp only [exec_sdoTransfer]
    refine ⟨fun hheld htakes => ?_, fun b hread hsize => ?_, fun o ho => ?_, fun o toggle ho hu hb ht hloose => ?_,
      fun o toggle ho hu hb ht => ?_⟩
    · have hrun : (s.begin t).sdoRequest q (0x600 + s.nodeId) (.initiateDownload index sub data) = _ :=
        (State.sdoRequest_download (s := s.begin t) hserves index sub data).trans (State.access_held (s := s.begin t) hserves hheld htakes)
      refine answers_actIf hqs ⟨?_, State.mem_finish_out ?_⟩
      · rw [State.get_finish _ _ _ (heldScalar_ne _ hheld).1 (heldScalar_ne _ hheld).2, hrun, State.get_answer]
        exact State.get_access_held hheld htakes
      · rw [hrun]
        exact State.mem_answer_can ((State.nodeId_effect_held _ hheld _ _).trans hnode) q 0 []
    · refine answers_actIf hqs (State.mem_finish_out ?_)
      have hsize' : (((s.begin t).supersede q).afterRead (keyOf index sub)).expeditedSize q = s.expeditedSize q :=
        expeditedSize_congr ((State.get_afterRead_ne _ _ (by omega)).trans (State.get_supersede _ _ _))
      rw [hup, State.sdoOpenUpload_expedited hread (hsize'.symm ▸ hsize)]
      exact State.mem_answer_can ((State.nodeId_afterRead _ _).trans hnode) q 0 b
    · refine answers_actIf hqs (State.mem_finish_out ?_)
      rw [hup]
      exact State.mem_sdoOpenUpload (State.mem_supersede (s := s.begin t) ho) index sub false
    · have hrun : (s.begin t).sdoRequest q (0x600 + s.nodeId) (.downloadSegment toggle data false) = _ :=
        (State.sdoRequest_downloadSegment (s := s.begin t) hserves data toggle false).trans (State.sdoOn_of_open (s := s.begin t) ho hu hb _)
      rw [ht, State.sdoSegment_of_turn hloose] at hrun
      refine answers_actIf hqs ⟨?_, State.mem_finish_out ?_⟩
      · rw [State.sdoOf_finish, ht, hrun, State.sdoOf_answer]
        exact State.setSdo_self (s := s.begin t) ho _
      · rw [ht, hrun]
        exact State.mem_answer_can (State.nodeId_congr (s := s.begin t) (State.get_setSdo _ _ _ _) (State.setSdo_pair _ _ _)) q 0 []
    · have hrun : (s.begin t).sdoRequest q (0x600 + s.nodeId) (.uploadSegment toggle) = _ :=
        (State.sdoRequest_uploadSegment (s := s.begin t) hserves toggle).trans (State.sdoOn_of_open (s := s.begin t) ho hu hb _)
      refine answers_actIf hqs (State.mem_finish_out ?_)
      rw [hrun, ht]
      exact State.mem_sdoNextSegment (s := s.begin t) o
  · have hrun := State.sdoIdles_of_due (s := s.begin t) ho hserves hdue
    rw [exec_sdoTimeout]
    refine answers_actIf (decide_eq_true hq) ⟨?_, State.mem_finish_out ?_⟩
    · rw [State.sdoOf_finish, hrun, State.sdoAbort, State.sdoOf_answer]
      exact State.setSdo_self (s := s.begin t) ho none
    · rw [hrun]
      exact State.mem_answer_can (State.nodeId_congr (s := s.begin t) (State.get_setSdo _ _ _ _) (State.setSdo_pair _ _ _)) q _ []

end Sys2Proof.Machine
end

section
set_option Elab.async false
/-!
PROOFS. Full resets (R50, R62, R63, R408, R423): O18.
-/

namespace Sys2Proof.Machine

/-! ### What is kept over a reset (R62, R423) -/

theorem lookup_filter_key {α : Type} (l : List (Nat × α)) (p : Nat → Bool) (k : Nat) :
    lookup k (l.filter fun x => p x.1) = if p k then lookup k l else none := by
  induction l with
  | nil => simp
  | cons x l ih =>
    obtain ⟨j, v⟩ := x
    by_cases hj : j = k
    · subst hj
      cases hp : p j <;> simp [lookup_cons, hp, ih]
    · cases hp : p j <;> simp [lookup_cons, hp, hj, ih]

/-- The objects that the always-on domain keeps over a reset: the crystal switch, and in Sleep the power-fail counts (R62). -/
def State.alwaysOn (s : State) : List Nat := [0x213006] ++ if s.power.phase == .sleep then [0x213002, 0x213003, 0x213004, 0x213005] else []

theorem State.not_mem_alwaysOn (s : State) {k : Nat} (h : k < 0x213002 ∨ 0x213006 < k) : k ∉ s.alwaysOn := by
  unfold State.alwaysOn
  split <;> simp <;> omega

theorem State.get_hardReset (s : State) (cause k : Nat) :
    (s.hardReset cause).get k = if s.alwaysOn.contains k then s.get k else defaultOf k := by
  show (lookup k (s.regs.filter fun x => s.alwaysOn.contains x.1)).getD (defaultOf k) = _
  rw [lookup_filter_key]
  split <;> rfl

theorem State.drivePins_eq (l : List (Pin × Bool)) (s : State) :
    l.foldl (fun (s : State) (p : Pin × Bool) => s.send (.pin p.1 p.2)) s = { s with out := s.out ++ l.map fun p => .pin p.1 p.2 } := by
  induction l generalizing s with
  | nil => simp
  | cons p l ih =>
    rw [List.foldl_cons, ih]
    simp [State.send]

/-- In reset the pins alone have been driven. -/
theorem State.resetNow_eq (s : State) (cause : Nat) :
    ∃ o, s.resetNow cause = { s.spoilBurn.retireSource.hardReset cause with out := o } ∧ Out.pin .hbTx false ∈ o :=
  ⟨_, State.drivePins_eq _ _, List.mem_append_right _ (List.mem_cons_self ..)⟩

theorem State.get_storeTrims (s : State) (k : Nat) : s.storeTrims.get k = s.get k := by
  unfold State.storeTrims
  split <;> rfl

theorem State.get_addRepair (s : State) (entry : Bytes) (k : Nat) : (s.addRepair entry).get k = s.get k := by
  unfold State.addRepair
  dsimp only
  split
  · rfl
  · exact State.get_storeTrims _ k

theorem State.get_retireSource (s : State) (k : Nat) : s.retireSource.get k = s.get k := by
  unfold State.retireSource
  split
  · exact State.get_addRepair _ _ k
  · rfl

theorem State.get_spoilBurn (s : State) {k : Nat} (hk : k ∉ reportKeys) (h : k ≠ 0x261004) : s.spoilBurn.get k = s.get k := by
  unfold State.spoilBurn
  split
  · rfl
  · dsimp only
    split
    · exact State.get_put_ne _ h _
    · exact (State.get_raise _ _ _ _ hk).trans (State.get_put_ne _ h _)

theorem State.get_calibrationEntry (s : State) (kind outcome steps failed item version : Nat) (payload : Bytes) {k : Nat}
    (hk : k ∉ reportKeys) : (s.calibrationEntry kind outcome steps failed item version payload).get k = s.get k :=
  State.get_beaconAdd _ _ _ _ _ hk

/-- An abandoned calibration run changes its own objects alone (R438). -/
theorem State.get_abandonCalibration (s : State) {k : Nat} (hk : k ∉ reportKeys) (h4 : k ≠ 0x260004) (h5 : k ≠ 0x260005) :
    s.abandonCalibration.get k = s.get k := by
  unfold State.abandonCalibration
  split
  · show (State.calibrationEntry _ _ _ _ _ _ _ _).get k = _
    rw [State.get_calibrationEntry _ _ _ _ _ _ _ _ hk, State.get_raise _ _ _ _ hk, State.get_put_ne _ h5, State.get_put_ne _ h4]
    rfl
  · rfl

/-! ### A command that ends in reset -/

/-- A command that resets the device leaves every object at its default. -/
theorem State.atDefaults_of_resetNow {s u : State} {t cause : Nat} {f : State → State} (hrun : f (s.begin t) = u.resetNow cause)
    (hkeeps : u.get 0x213006 = s.get 0x213006) : AtDefaults s (s.finish t f) cause := by
  obtain ⟨o, hreset, hpin⟩ := u.resetNow_eq cause
  rw [hreset] at hrun
  set r := u.spoilBurn.retireSource with hr
  have hget (k : Nat) : (f (s.begin t)).get k = if r.alwaysOn.contains k then r.get k else defaultOf k := by
    rw [hrun]
    exact r.get_hardReset cause k
  have hpower : (s.finish t f).power.phase = .reset := by
    rw [State.finish_power, hrun]
    rfl
  have hnotserved : (f (s.begin t)).served = false := by
    rw [hrun]
    rfl
  refine ⟨hpower, ?_, State.mem_finish_out (hrun ▸ hpin), fun k hk => ?_, fun k => ?_, fun n => ?_, fun k => ⟨?_, ?_, ?_, ?_⟩, ?_, ?_⟩
  · rw [State.finish_power, hrun]
    rfl
  · have htold : (s.finish t f).get k = (f (s.begin t)).get k := by
      show ((f (s.begin t)).tell.transmit.canon).get k = _
      rw [State.get_canon, State.get_transmit]
      simp [State.tell, hnotserved, State.get_congr (State.evtPin_regs _ _), State.get_congr (State.note_regs _)]
    rw [htold, hget, if_neg (by simpa using r.not_mem_alwaysOn hk)]
  · rw [State.dom_finish, hrun]
    rfl
  · have hclocked : (s.finish t f).clocked n = false := by
      unfold State.clocked
      rw [hpower]
    simp [State.fnState, hclocked]
  · rw [State.finish_lookup_pendR, hrun]
    rfl
  · rw [State.finish_lookup_pendD, hrun]
    rfl
  · rw [State.finish_lookup_burnR, hrun]
    rfl
  · rw [State.finish_lookup_burnD, hrun]
    rfl
  · rw [State.get_finish _ _ _ (by decide) (by decide), hget, if_pos (by simp [State.alwaysOn]), hr, State.get_retireSource,
      State.get_spoilBurn _ (by decide) (by decide), hkeeps]
  · rw [State.finish_faults, hrun]
    rfl

/-- A request of the fault manager that this member serves itself resets the device (R408). -/
theorem State.serveReset_of_due {s : State} (hreq : s.faults.resetRequested = true) (hserved : s.served = true) (hrole : s.pair.role ≠ 1)
    (hpair : s.paired = true ∨ s.get 0x220007 ≠ 1) (hfew : (s.nv.resets.filter fun t => decide (s.now < t + 600000000000)).length < 3) :
    ∃ u : State, s.serveReset = u.resetNow 3 ∧ u.get 0x213006 = s.get 0x213006 := by
  refine ⟨{ s.abandonCalibration with nv := { s.abandonCalibration.nv with resets := s.abandonCalibration.nv.resets ++ [s.abandonCalibration.now] } },
    ?_, State.get_abandonCalibration s (by decide) (by decide) (by decide)⟩
  have halone : (!s.paired && s.get 0x220007 == 1) = false := by
    rcases hpair with h | h <;> simp [h]
  have hother : (s.pair.role == 1) = false := by simpa using hrole
  simp only [State.serveReset, hreq, hserved, halone, hother, Bool.not_true, Bool.or_self, Bool.false_eq_true, if_false, Bool.false_and,
    if_neg (Nat.not_le.2 hfew)]

/-- Settles O18: every cause ends in the same reset. -/
theorem resetsBringTheDefaults : Obligations.ResetsBringTheDefaults := by
  refine fun s t => ⟨fun a ha hdue => ?_, fun hreq hserved hrole hpair hfew => ?_, fun hserved => ⟨?_, ?_⟩, fun w hw hphase => ?_⟩
  · rw [exec_fullResetExecute]
    have hrun : (s.begin t).executeReset = (s.begin t).resetNow 2 := by
      simp only [State.executeReset, State.begin_ctl, ha]
      exact if_pos hdue
    exact answers_act (State.atDefaults_of_resetNow hrun rfl)
  · rw [exec_fullResetServe]
    obtain ⟨u, hrun, hkeeps⟩ := State.serveReset_of_due (s := s.begin t) hreq hserved hrole hpair hfew
    exact answers_act (State.atDefaults_of_resetNow hrun hkeeps)
  · rw [exec_watchdogReset]
    exact answers_act (State.atDefaults_of_resetNow (if_pos (by exact Bool.or_eq_true_iff.2 (.inl hserved))) rfl)
  · rw [exec_lockstepMismatch]
    exact answers_act (State.atDefaults_of_resetNow (if_pos (by exact Bool.or_eq_true_iff.2 (.inl hserved))) rfl)
  · rw [exec_resetNAssert]
    have hphase' : (s.power.phase == .reset) = false := by simpa using hphase
    have hrun : (s.begin t).resetPulse w = (s.begin t).resetNow 1 := by
      simp [State.resetPulse, hphase', hw, show ¬ w < 1000 by omega]
    exact answers_act (State.atDefaults_of_resetNow hrun rfl)

end Sys2Proof.Machine
end

section
set_option Elab.async false
/-!
PROOFS. What commands leave alone: frames over the units and the objects, and what the reporting of faults and Beacon entries leaves of
them; heartbeats of the pair (R384, R388 to R390; O60).
-/

namespace Sys2Proof.Machine

/-! ### Frames -/

/-- A state without its instant, its free values, its output, its control path, its reports and its scalar objects. -/
def State.core (s : State) : State :=
  { s with now := 0, free := 0, out := [], regs := [], ctl := {}, faults := {}, beacon := {}, tx := {} }

/-- Two states agree in a view of them, and in the scalar objects that a frame names. -/
def Keeps (view : State → State) (objs : Nat → Bool) (s u : State) : Prop :=
  view u = view s ∧ ∀ k, objs k = true → u.get k = s.get k

section

variable {view : State → State} {objs : Nat → Bool} {s u w : State}

theorem Keeps.refl (s : State) : Keeps view objs s s := ⟨rfl, fun _ _ => rfl⟩

theorem Keeps.trans (h : Keeps view objs s u) (h' : Keeps view objs u w) : Keeps view objs s w :=
  ⟨h'.1.trans h.1, fun k hk => (h'.2 k hk).trans (h.2 k hk)⟩

/-- A change outside the view that touches no scalar object. -/
theorem Keeps.of_regs (h : view u = view s) (hr : u.regs = s.regs) : Keeps view objs s u :=
  ⟨h, fun _ _ => State.get_congr hr _⟩

/-- A frame over the whole core is one over any view of it. -/
theorem Keeps.of_core (h : Keeps State.core objs s u) : Keeps (fun s => view s.core) objs s u := ⟨congrArg view h.1, h.2⟩

theorem Keeps.mono {objs' : Nat → Bool} (h : Keeps view objs s u) (hk : ∀ k, objs' k = true → objs k = true) :
    Keeps view objs' s u := ⟨h.1, fun k h' => h.2 k (hk k h')⟩

theorem Keeps.ite {c : Prop} [Decidable c] {f g : State} (hf : Keeps view objs s f) (hg : Keeps view objs s g) :
    Keeps view objs s (if c then f else g) := by
  split
  · exact hf
  · exact hg

theorem Keeps.put {k : Nat} (hk : objs k = false) (s : State) (v : Nat)
    (hv : ∀ (s : State) r, view { s with regs := r } = view s := by intros; rfl) : Keeps view objs s (s.put k v) :=
  ⟨hv s _, fun j hj => State.get_put_ne _ (fun e => by simp [e, hk] at hj) _⟩

theorem Keeps.bump {k : Nat} (hk : objs k = false) (s : State) (n : Nat)
    (hv : ∀ (s : State) r, view { s with regs := r } = view s := by intros; rfl) : Keeps view objs s (s.bump k n) :=
  ⟨hv s _, fun j hj => State.get_bump_ne _ (fun e => by simp [e, hk] at hj) _⟩

theorem Keeps.send (s : State) (o : Out) (hv : ∀ (s : State) l, view { s with out := l } = view s := by intros; rfl) :
    Keeps view objs s (s.send o) := Keeps.of_regs (hv s _) rfl

/-- A fold of framed steps. -/
theorem Keeps.foldl {α : Type} {step : State → α → State} (h : ∀ s x, Keeps view objs s (step s x)) (l : List α) (s : State) :
    Keeps view objs s (l.foldl step s) := by
  induction l generalizing s with
  | nil => exact .refl s
  | cons x l ih => exact (h s x).trans (ih _)

end

/-! ### Reports (R403, R404, R410) -/

/-- The objects that reporting leaves alone. -/
def notReport (k : Nat) : Bool := !reportKeys.contains k

theorem not_mem_of_notReport {k : Nat} (h : notReport k = true) : k ∉ reportKeys := by simpa [notReport] using h

/-- What reporting leaves alone: the whole core, and every object but its counts. -/
abbrev Reported (s u : State) : Prop := Keeps State.core notReport s u

theorem State.core_beaconPut (s : State) (e : Entry) : (s.beaconPut e).1.core = s.core := by
  unfold State.beaconPut
  dsimp only
  split_ifs <;> rfl

theorem State.core_contain {e : Effect} (he : e ≠ .failed) (s : State) (fn cause : Nat) : (s.contain fn cause e).core = s.core := by
  unfold State.contain
  split
  · rfl
  · split <;> rfl
  · contradiction

theorem State.core_repeatFault (s : State) (f : FaultEntry) (detail : Nat) : (s.repeatFault f detail).core = s.core := by
  unfold State.repeatFault
  exact State.core_beaconPut _ _

theorem State.core_put (s : State) (k v : Nat) : (s.put k v).core = s.core := rfl

theorem State.core_countFault (s : State) (f : FaultEntry) : (s.countFault f).core = s.core := by
  unfold State.countFault
  exact (State.core_put ((s.put 0x204005 f.seq).bump 0x220003) 0x220006 f.code).trans
    ((State.core_put (s.put 0x204005 f.seq) 0x220003 _).trans (State.core_put s 0x204005 f.seq))

theorem State.core_queueFault (s : State) (f : FaultEntry) (start : Nat) : (s.queueFault f start).core = s.core := by
  unfold State.queueFault
  dsimp only
  split
  · rfl
  · split <;> rfl

theorem State.core_raiseCore {e : Effect} (he : e ≠ .failed) (s : State) (fn cause detail : Nat) :
    (s.raiseCore fn cause detail e).core = s.core := by
  unfold State.raiseCore
  dsimp only
  split
  · rw [State.core_repeatFault, State.core_contain he]
  · rw [State.core_queueFault, State.core_countFault, State.core_contain he]

section

variable {fn cause : Nat} (he : effectOf fn cause ≠ .failed)
include he

theorem Reported.raise (s : State) (detail : Nat) : Reported s (s.raise fn cause detail) :=
  ⟨State.core_raiseCore he s fn cause detail, fun _ hk => State.get_raise _ _ _ _ (not_mem_of_notReport hk)⟩

theorem Reported.onset (s : State) (item : Nat) : Reported s (s.onset fn cause item) := by
  refine ⟨?_, fun _ hk => State.get_onset _ _ _ _ (not_mem_of_notReport hk)⟩
  unfold State.onset
  split
  · rfl
  · exact State.core_raiseCore he _ fn cause item

end

theorem Reported.beaconAdd (s : State) (kind flags : Nat) (body payload : Bytes) : Reported s (s.beaconAdd kind flags body payload) := by
  refine ⟨?_, fun _ hk => State.get_beaconAdd _ _ _ _ _ (not_mem_of_notReport hk)⟩
  unfold State.beaconAdd
  dsimp only
  split
  · exact (State.core_raiseCore (by decide) _ _ _ _).trans (State.core_beaconPut _ _)
  · exact State.core_beaconPut _ _

theorem State.core_eventFrame (s : State) (b : Bytes) : (s.eventFrame b).core = s.core := by
  unfold State.eventFrame
  dsimp only
  split_ifs <;> rfl

theorem State.core_sendEmcy (s : State) (q : Nat) : (s.sendEmcy q).core = s.core := by
  unfold State.sendEmcy
  split
  · rfl
  · split
    · rfl
    · dsimp only
      split_ifs <;> rfl

theorem State.core_emergencyOn (s : State) (e : Emcy) (q : Nat) : (s.emergencyOn e q).core = s.core := by
  unfold State.emergencyOn
  split
  · rfl
  · split
    · exact State.core_sendEmcy _ _
    · rfl

theorem State.core_emergency (s : State) (e : Emcy) : (s.emergency e).core = s.core := by
  unfold State.emergency
  split
  · rfl
  · exact (State.core_emergencyOn _ _ _).trans (State.core_emergencyOn _ _ _)

theorem State.core_emptied (s : State) (e : State → Emcy) : ((s.event 2).emergency (e (s.event 2))).core = s.core :=
  (State.core_emergency _ _).trans (State.core_eventFrame _ _)

theorem State.core_sweep (s : State) : s.sweep.core = s.core := by
  unfold State.sweep
  dsimp only
  split_ifs
  · exact (State.core_raiseCore (by decide) _ _ _ _).trans (State.core_emptied _ fun u => _)
  · exact State.core_emptied _ fun u => _
  · exact State.core_raiseCore (by decide) _ _ _ _
  · rfl

theorem Reported.settle (s : State) (fn cause item : Nat) : Reported s (s.settle fn cause item) := by
  refine ⟨?_, fun _ hk => State.get_settle _ _ _ _ (not_mem_of_notReport hk)⟩
  unfold State.settle
  dsimp only
  split_ifs
  · rfl
  · rfl
  · split
    · rfl
    · exact (State.core_sweep _).trans (Reported.beaconAdd _ _ _ _ _).1

theorem Reported.settleAll (s : State) (fn cause : Nat) : Reported s (s.settleAll fn cause) :=
  Keeps.foldl (fun s _ => Reported.settle s fn cause _) _ s

theorem Reported.follow {fn cause : Nat} (he : effectOf fn cause ≠ .failed) (s : State) (b : Bool) (item : Nat) :
    Reported s (s.follow b fn cause item) := Keeps.ite (Reported.onset he s item) (Reported.settle s fn cause item)

/-! ### Heartbeats of the pair (R384, R388 to R390) -/

/-- The objects outside the indices of events, faults, the pair and the Groomer's counts. -/
def besidePairObjects (k : Nat) : Bool := k / 65536 != 0x23 && k / 65536 != 0x20 && k / 65536 != 0x22 && k / 65536 != 0x3C

def State.sansPair (s : State) : State := { s with pair := {} }

/-- What a heartbeat may change is the pair, and what reporting changes. -/
abbrev PairOnly (s u : State) : Prop := Keeps (fun s => State.sansPair s.core) besidePairObjects s u

theorem notReport_of_besidePair {k : Nat} (h : besidePairObjects k = true) : notReport k = true := by
  by_contra hn
  have hk : k ∈ reportKeys := by simpa [notReport] using hn
  exact absurd h ((by decide : ∀ k ∈ reportKeys, ¬ besidePairObjects k = true) k hk)

theorem Reported.pairOnly {s u : State} (h : Reported s u) : PairOnly s u := (Keeps.mono h fun _ => notReport_of_besidePair).of_core

/-- A change of the pair and of the output alone. -/
theorem PairOnly.update (s : State) (p : Pair) (o : List Out) : PairOnly s { s with pair := p, out := o } := Keeps.of_regs rfl rfl

theorem PairOnly.pathSteady (s : State) (cause : Nat) (since : Option Nat) : PairOnly s (s.pathSteady cause since) := by
  unfold State.pathSteady
  split
  · exact .ite (.trans (Reported.settle _ _ _ _).pairOnly (Reported.settle _ _ _ _).pairOnly) (.refl s)
  · exact .refl s

theorem PairOnly.pinEdge (s : State) : PairOnly s s.pinEdge := by
  unfold State.pinEdge
  dsimp only
  refine .ite (.refl s) (.ite (.trans ?_ (.ite (Reported.onset (by decide) _ _).pairOnly (.refl _))) ?_)
  · exact .trans (PairOnly.update s _ _) (.bump rfl _ _)
  · exact .trans (PairOnly.update s _ _) (PairOnly.pathSteady _ _ _)

theorem PairOnly.twinBeat (s : State) (codeOk : Bool) (count state : Nat) : PairOnly s (s.twinBeat codeOk count state) := by
  unfold State.twinBeat
  dsimp only
  refine .ite (.refl s) (.ite (PairOnly.update s _ _) (.trans ?_ (.ite (Reported.follow (by decide) _ _ _).pairOnly (.refl _))))
  exact .trans (PairOnly.update s _ _) (PairOnly.pathSteady _ _ _)

theorem PairOnly.driveTwin (s : State) (l : List (Nat × List Symbol)) : PairOnly s (s.driveTwin l) := PairOnly.update s _ _

theorem PairOnly.twinOnly (s : State) (lanes : List Nat) : PairOnly s (s.twinOnly lanes) :=
  .trans (PairOnly.driveTwin s _) (PairOnly.update _ _ _)

theorem PairOnly.applyTwinMap (s : State) : PairOnly s s.applyTwinMap := by
  unfold State.applyTwinMap
  split
  · exact .refl s
  · exact .trans (.trans (PairOnly.update s _ _) (.put rfl _ _)) (PairOnly.twinOnly _ _)

theorem PairOnly.twinFill (s : State) (n : Nat) : PairOnly s (s.twinFill n) := .trans (PairOnly.update s _ _) (PairOnly.driveTwin _ _)

theorem PairOnly.twinDeskew (s : State) : PairOnly s s.twinDeskew :=
  .trans (.trans (.trans (.send s _) (PairOnly.driveTwin _ _)) (PairOnly.update _ _ _)) (PairOnly.applyTwinMap _)

theorem PairOnly.twinInterval (s : State) : PairOnly s s.twinInterval := by
  unfold State.twinInterval
  exact .ite (.trans (.trans (PairOnly.twinFill _ _) (PairOnly.twinDeskew _)) (PairOnly.twinFill _ _)) (PairOnly.twinFill _ _)

theorem PairOnly.sendBeat (s : State) : PairOnly s s.sendBeat := by
  unfold State.sendBeat
  exact .ite (.trans (.trans (.trans (PairOnly.twinInterval s) (PairOnly.driveTwin _ _)) (.send _ _)) (PairOnly.update _ _ _)) (.refl s)

theorem PairOnly.pathSilent (s : State) (twin : Bool) : PairOnly s (s.pathSilent twin) := by
  unfold State.pathSilent
  dsimp only
  refine .ite (.refl s) (.trans (.ite (PairOnly.update s _ _) (.refl s)) (.ite ?_ (.ite (Reported.onset (by decide) _ _).pairOnly (.refl _))))
  exact (Reported.onset (by cases twin <;> decide) _ _).pairOnly

/-- What a meaning leaves is what its command's effect leaves, told. -/
theorem eq_finish_of_act {s s' : State} {t : Nat} {f : State → State} (h : act t s f = .next s') : s' = s.finish t f := by
  rw [act_eq] at h
  exact (Host.Outcome.next.inj h).symm

theorem eq_finish_of_actIf {s s' : State} {ok : Bool} {t : Nat} {f : State → State} (h : actIf ok t s f = .next s') : s' = s.finish t f := by
  cases ok
  · cases h
  · exact eq_finish_of_act h

section Finish

variable {view : State → State} {objs : Nat → Bool} {s : State} {t : Nat} {f : State → State}
  (h : Keeps view objs (s.begin t) (f (s.begin t)))
include h

omit h in
/-- A part of the state that the view shows stays. -/
theorem Keeps.field_of {u w : State} (h : Keeps view objs u w) {α : Type} {field : State → α} (hv : ∀ u, field (view u) = field u) :
    field w = field u := by
  rw [← hv w, ← hv u, h.1]

/-- A part of the state that the view shows, and the ending of a command leaves alone, stays. -/
theorem Keeps.finish_field {α : Type} {field : State → α} (hv : ∀ u, field (view u) = field u)
    (hf : field (s.finish t f) = field (f (s.begin t))) (hb : field (s.begin t) = field s) : field (s.finish t f) = field s := by
  rw [hf, ← hb, h.field_of hv]

theorem Keeps.finish_get {k : Nat} (hk : objs k = true) (h1 : k ≠ 0x204005) (h2 : k ≠ 0x201005) : (s.finish t f).get k = s.get k := by
  rw [State.get_finish _ _ _ h1 h2]
  exact h.2 k hk

/-- No value that waits is lost or new, where the view shows them. -/
theorem Keeps.finish_pending (hv : ∀ u : State, (view u).pendR = u.pendR ∧ (view u).pendD = u.pendD
    ∧ (view u).burnR = u.burnR ∧ (view u).burnD = u.burnD) : SamePending s (s.finish t f) := by
  obtain ⟨hr, hd, hbr, hbd⟩ := hv (f (s.begin t))
  rw [h.1] at hr hd hbr hbd
  obtain ⟨hr', hd', hbr', hbd'⟩ := hv (s.begin t)
  refine ⟨fun k => ?_, fun k => ?_, fun k => ?_, fun k => ?_⟩
  · rw [State.finish_lookup_pendR, ← hr, hr', State.begin_pendR]
  · rw [State.finish_lookup_pendD, ← hd, hd', State.begin_pendD]
  · rw [State.finish_lookup_burnR, ← hbr, hbr', State.begin_burnR]
  · rw [State.finish_lookup_burnD, ← hbd, hbd', State.begin_burnD]

end Finish

/-- Settles O60: the pair alone is in view. -/
theorem heartbeatsLeaveThePicture : Obligations.HeartbeatsLeaveThePicture := by
  intro s s' t a b x h
  rw [exec_hbEdge, exec_twinHeartbeat, exec_twinHeartbeatSend, exec_pathSilent] at h
  obtain ⟨f, rfl, hkeeps⟩ : ∃ f : State → State, s' = s.finish t f ∧ PairOnly (s.begin t) (f (s.begin t)) := by
    rcases h with h | h | h | h
    · exact ⟨_, eq_finish_of_act h, PairOnly.pinEdge _⟩
    · exact ⟨_, eq_finish_of_act h, PairOnly.twinBeat _ x a b⟩
    · exact ⟨_, eq_finish_of_act h, PairOnly.sendBeat _⟩
    · exact ⟨_, eq_finish_of_act h, PairOnly.pathSilent _ x⟩
  refine ⟨hkeeps.finish_field (fun _ => rfl) (by simp) rfl, hkeeps.finish_field (fun _ => rfl) (by simp) rfl,
    hkeeps.finish_field (fun _ => rfl) (by simp) rfl, hkeeps.finish_field (fun _ => rfl) (by simp) rfl,
    ⟨hkeeps.finish_field (fun _ => rfl) (by simp) rfl, hkeeps.finish_field (fun _ => rfl) (by simp) rfl,
    hkeeps.finish_field (fun _ => rfl) (by simp) rfl, hkeeps.finish_field (fun _ => rfl) (by simp) rfl,
    hkeeps.finish_field (fun _ => rfl) (by simp) rfl, hkeeps.finish_field (fun _ => rfl) (by simp) rfl⟩,
    hkeeps.finish_field (fun _ => rfl) (by simp) rfl, hkeeps.finish_field (fun _ => rfl) (by simp) rfl,
    hkeeps.finish_field (fun _ => rfl) (by simp) rfl, hkeeps.finish_pending fun _ => ⟨rfl, rfl, rfl, rfl⟩, fun k h23 h20 h22 h3c => ?_⟩
  exact hkeeps.finish_get (by simp [besidePairObjects, h23, h20, h22, h3c]) (by omega) (by omega)

end Sys2Proof.Machine
end

section
set_option Elab.async false
/-!
PROOFS. What network frames and timed inputs leave alone (R360 to R374; O59).
-/

namespace Sys2Proof.Machine

/-- The objects outside the indices of events, faults, the network and the Groomer's counts. -/
def besideNetObjects (k : Nat) : Bool := k / 65536 != 0x28 && k / 65536 != 0x20 && k / 65536 != 0x22 && k / 65536 != 0x3C

def State.sansNet (s : State) : State := { s with net := {} }

/-- What a network frame may change is the network, and what reporting changes. -/
abbrev NetOnly (s u : State) : Prop := Keeps (fun s => State.sansNet s.core) besideNetObjects s u

theorem notReport_of_besideNet {k : Nat} (h : besideNetObjects k = true) : notReport k = true := by
  by_contra hn
  have hk : k ∈ reportKeys := by simpa [notReport] using hn
  exact absurd h ((by decide : ∀ k ∈ reportKeys, ¬ besideNetObjects k = true) k hk)

theorem Reported.netOnly {s u : State} (h : Reported s u) : NetOnly s u := (Keeps.mono h fun _ => notReport_of_besideNet).of_core

/-- A change of the network alone. -/
theorem NetOnly.update (s : State) (n : Net) : NetOnly s { s with net := n } := Keeps.of_regs rfl rfl

theorem besideNetObjects_index {n j sub : Nat} (hj : 0x2800 ≤ j ∧ j + n < 0x2900) (hsub : sub < 256) :
    besideNetObjects (keyOf (j + n) sub) = false := by
  have h : keyOf (j + n) sub / 65536 = 0x28 := by
    unfold keyOf
    omega
  simp [besideNetObjects, h]

theorem NetOnly.ethSend (s : State) (mac kind : Nat) (data : Bytes) : NetOnly s (s.ethSend mac kind data) := by
  unfold State.ethSend
  exact .ite (.refl s) (.ite (.send s _) (.trans (.bump rfl s _) (Reported.raise (by decide) _ _).netOnly))

/-- A frame that does not come past its MAC changes counts of the network at most. -/
theorem NetOnly.arrives {s : State} {f : State → State} (hf : NetOnly s (f s)) (a : Arrival) : NetOnly s (s.arrives a f) := by
  unfold State.arrives
  exact .ite hf (.ite (.bump rfl s _) (.refl s))

theorem NetOnly.sendSync (s : State) (mac : Nat) : NetOnly s (s.sendSync mac) := by
  unfold State.sendSync
  exact .ite (.refl s) (.trans (NetOnly.ethSend s _ _ _) (NetOnly.update _ _))

theorem NetOnly.sendAnnounce (s : State) (mac : Nat) : NetOnly s (s.sendAnnounce mac) := by
  unfold State.sendAnnounce
  split
  · exact .ite (.refl s) (NetOnly.ethSend s _ _ _)
  · exact .refl s

theorem NetOnly.pathDelay (s : State) (mac : Nat) (message : DelayMessage) (requester delay : Nat) :
    NetOnly s (s.pathDelay mac message requester delay) := by
  cases message with
  | asked => exact .ite (NetOnly.ethSend s _ _ _) (.refl s)
  | answered => exact .trans (NetOnly.update s _) (.ite (.put rfl _ _) (.refl _))
  | due => exact .ite (NetOnly.ethSend s _ _ _) (.refl s)

theorem NetOnly.delayMessage (s : State) (a : PtpArrival) (message : DelayMessage) (requester delay : Nat) :
    NetOnly s (s.delayMessage a message requester delay) := by
  unfold State.delayMessage
  exact .ite (.ite (NetOnly.pathDelay s _ _ _ _) (.refl s)) (NetOnly.arrives (.ite (NetOnly.pathDelay s _ _ _ _) (.refl s)) _)

theorem NetOnly.neighbour (s : State) (mac : Nat) (v6 request : Bool) (sender senderMac target : Nat) :
    NetOnly s (s.neighbour mac v6 request sender senderMac target) := by
  unfold State.neighbour
  exact .ite (.refl s) (.trans (NetOnly.update s _) (.ite (NetOnly.ethSend _ _ _ _) (.refl _)))

theorem NetOnly.echo (s : State) (mac : Nat) (v6 : Bool) (sender target : Nat) (data : Bytes) :
    NetOnly s (s.echo mac v6 sender target data) := .ite (NetOnly.ethSend s _ _ _) (.refl s)

theorem NetOnly.accepted (s : State) (late : Option Nat) :
    NetOnly s (({ s with net := { s.net with lastEdge := s.now, lateEdge := late } }).settle 0xD 7) :=
  .trans (NetOnly.update s _) (Reported.settle _ _ _ _).netOnly

theorem NetOnly.lockEdge (s : State) (input : Nat) : NetOnly s (s.lockEdge input) := by
  unfold State.lockEdge
  refine .ite (.refl s) ?_
  dsimp only
  split
  · exact NetOnly.accepted s _
  · exact .ite (NetOnly.accepted s _) (.ite (NetOnly.accepted s _) (NetOnly.update s _))

theorem NetOnly.lockLost (s : State) : NetOnly s s.lockLost := .ite (Reported.onset (by decide) _ _).netOnly (.refl s)

theorem NetOnly.captureOverrun (s : State) {n : Nat} (h : n < 4) : NetOnly s (s.captureOverrun n) := by
  have hk : besideNetObjects (capK n 6) = false := besideNetObjects_index (by omega) (by decide)
  unfold State.captureOverrun
  dsimp only
  refine .trans (.bump hk s 1) ?_
  exact .ite (.trans (NetOnly.update _ _) (Reported.raise (by decide) _ _).netOnly) (.refl _)

theorem NetOnly.captured (s : State) {n : Nat} (h : n < 4) (rising : Bool) (width : Nat) : NetOnly s (s.captured n rising width) := by
  have hk : besideNetObjects (capK n 5) = false := besideNetObjects_index (by omega) (by decide)
  unfold State.captured
  refine .ite (.refl s) (.trans (NetOnly.update s _) (.ite (.bump hk _ _) (.ite (.refl _) ?_)))
  exact .ite (NetOnly.captureOverrun _ h) (NetOnly.update _ _)

theorem of_actIf_next {s s' : State} {ok : Bool} {t : Nat} {f : State → State} (h : actIf ok t s f = .next s') :
    ok = true ∧ s' = s.finish t f := by
  refine ⟨?_, eq_finish_of_actIf h⟩
  cases ok
  · cases h
  · rfl

/-- Settles O59: the network alone is in view. -/
theorem networkFramesLeaveThePicture : Obligations.NetworkFramesLeaveThePicture := by
  intro s s' t n a b c x y data p m r h
  rw [exec_syncSend, exec_announceSend, exec_delayRequestResponse, exec_arpNeighbourDiscovery, exec_icmpEcho, exec_frameLockEdge,
    exec_frameLockLost, exec_captureEdge] at h
  obtain ⟨f, rfl, hkeeps⟩ : ∃ f : State → State, s' = s.finish t f ∧ NetOnly (s.begin t) (f (s.begin t)) := by
    rcases h with h | h | h | h | h | h | h | h
    · exact ⟨_, eq_finish_of_actIf h, NetOnly.sendSync _ n⟩
    · exact ⟨_, eq_finish_of_actIf h, NetOnly.sendAnnounce _ n⟩
    · exact ⟨_, eq_finish_of_actIf h, NetOnly.delayMessage _ p m a b⟩
    · exact ⟨_, eq_finish_of_actIf h, NetOnly.arrives (NetOnly.neighbour _ _ x y a b c) r⟩
    · exact ⟨_, eq_finish_of_actIf h, NetOnly.arrives (NetOnly.echo _ _ x a b data) r⟩
    · exact ⟨_, eq_finish_of_actIf h, NetOnly.lockEdge _ n⟩
    · exact ⟨_, eq_finish_of_act h, NetOnly.lockLost _⟩
    · obtain ⟨hn, h⟩ := of_actIf_next h
      exact ⟨_, h, NetOnly.captured _ (of_decide_eq_true hn) x a⟩
  have hfields : SamePicture s (s.finish t f) := by
    and_intros <;> exact hkeeps.finish_field (fun _ => rfl) (by simp) rfl
  refine ⟨hkeeps.finish_field (fun _ => rfl) (by simp) rfl, hkeeps.finish_field (fun _ => rfl) (by simp) rfl,
    hkeeps.finish_field (fun _ => rfl) (by simp) rfl, hkeeps.finish_field (fun _ => rfl) (by simp) rfl, hfields,
    hkeeps.finish_field (fun _ => rfl) (by simp) rfl, hkeeps.finish_field (fun _ => rfl) (by simp) rfl,
    hkeeps.finish_field (fun _ => rfl) (by simp) rfl, hkeeps.finish_pending fun _ => ⟨rfl, rfl, rfl, rfl⟩, fun k h28 h20 h22 h3c => ?_⟩
  exact hkeeps.finish_get (by simp [besideNetObjects, h28, h20, h22, h3c]) (by omega) (by omega)

end Sys2Proof.Machine
end

section
set_option Elab.async false
/-!
PROOFS. Refresh and power-down entry of a rank (R315, R318; O47).
-/

namespace Sys2Proof.Machine

theorem nth_setNth_ne {α : Type} (l : List α) {n m : Nat} (h : m ≠ n) (v d : α) : nth (setNth l n v) m d = nth l m d := by
  simp [nth, setNth, h.symm]

/-- A state that differs in one rank, and in what was sent. -/
def RankOnly (r : Nat) (s u : State) : Prop :=
  ∃ ranks out, u = { s with memory := { s.memory with ranks }, out } ∧ ∀ q, q ≠ r → nth ranks q {} = s.rank q

section

variable {r : Nat} {s u : State}

theorem RankOnly.refl (s : State) : RankOnly r s s := ⟨_, _, rfl, fun _ _ => rfl⟩

theorem RankOnly.setRank (s : State) (x : Rank) : RankOnly r s (s.setRank r x) := ⟨_, _, rfl, fun _ hq => nth_setNth_ne _ hq x {}⟩

theorem RankOnly.send (h : RankOnly r s u) (o : Out) : RankOnly r s (u.send o) := by
  obtain ⟨ranks, out, rfl, hq⟩ := h
  exact ⟨ranks, out ++ [o], rfl, hq⟩

theorem RankOnly.sends {α : Type} (h : RankOnly r s u) (o : α → Out) (l : List α) : RankOnly r s (l.foldl (fun s x => s.send (o x)) u) := by
  induction l generalizing u with
  | nil => exact h
  | cons x l ih => exact ih (h.send (o x))

end

theorem State.refreshRank_rankOnly (s : State) (r : Nat) (waiting : Bool) : RankOnly r s (s.refreshRank r waiting) := by
  unfold State.refreshRank
  dsimp only
  split_ifs
  · exact .refl s
  · exact .setRank s _
  · exact ((RankOnly.setRank s _).sends (fun _ => _) _).sends (fun v => _) _

theorem State.powerDown_rankOnly (s : State) (r : Nat) : RankOnly r s (s.powerDown r) := by
  unfold State.powerDown
  dsimp only
  split_ifs
  · exact .refl s
  · exact .setRank s _

/-- Settles O47: one rank alone is changed. -/
theorem rowCareTouchesItsRankAlone : Obligations.RowCareTouchesItsRankAlone := by
  intro s s' t r waiting h
  rw [exec_refresh, exec_powerDownEntry] at h
  obtain ⟨f, rfl, ranks, out, hrun, hq⟩ : ∃ f : State → State, s' = s.finish t f ∧ RankOnly r (s.begin t) (f (s.begin t)) := by
    rcases h with h | h
    · exact ⟨_, eq_finish_of_actIf h, State.refreshRank_rankOnly _ r waiting⟩
    · exact ⟨_, eq_finish_of_actIf h, State.powerDown_rankOnly _ r⟩
  refine ⟨⟨fun k h1 h2 => ?_, fun k => ?_⟩, ?_, ?_, ?_, ?_, ?_, ?_, ?_, ?_, ?_, ?_, fun q hne => ?_⟩
  · rw [State.get_finish _ _ _ h1 h2, hrun]
    rfl
  · rw [State.dom_finish, hrun]
    rfl
  · simp [SamePending, hrun]
  · simp [SameSystem, hrun]
  · simp [SameLinks, hrun]
  · simp [hrun]
  · simp [hrun]
  · simp [hrun]
  · simp [hrun]
  · simp [hrun]
  · simp [hrun]
  · simp [hrun]
  · rw [State.rank, State.finish_memory, hrun]
    exact hq q hne

end Sys2Proof.Machine
end

section
set_option Elab.async false
/-!
PROOFS. What READs, CONTROLs of one packet, deskew sets and idle bursts leave alone (R141, R144, R150; O34).
-/

namespace Sys2Proof.Machine

/-- The objects other than the lanes in use and the counts of bytes and of buffer occupancy. -/
def besideLinkObjects (k : Nat) : Bool := !([0x480003, 0x480015, 0x480016].contains k)

/-- A state without its output, its scalar objects, the link but for what it has to deliver, and the list of lost READs with the times of
the checks. -/
def State.sansLink (s : State) : State :=
  { s with
    now := 0, out := [], regs := [], ctl := {}, tx := {}
    link := { rects := s.link.rects, claims := s.link.claims, toPresent := s.link.toPresent }
    care := { s.care with lostReads := [], checkTimes := [] } }

/-- What a packet or a set on the link may change. -/
abbrev LinkOnly (s u : State) : Prop := Keeps State.sansLink besideLinkObjects s u

/-- A change of the link that leaves what it has to deliver. -/
theorem LinkOnly.update (s : State) (l : Link) (hrects : l.rects = s.link.rects := by rfl) (hclaims : l.claims = s.link.claims := by rfl)
    (hpresent : l.toPresent = s.link.toPresent := by rfl) : LinkOnly s { s with link := l } := by
  refine Keeps.of_regs ?_ rfl
  simp only [State.sansLink, hrects, hclaims, hpresent]

theorem LinkOnly.drive (s : State) (l : List (Nat × List Symbol)) : LinkOnly s (s.drive l) := Keeps.of_regs rfl rfl

theorem LinkOnly.driveAll (s : State) (lanes : List Nat) (l : List Symbol) : LinkOnly s (s.driveAll lanes l) := Keeps.of_regs rfl rfl

theorem LinkOnly.driveOnly (s : State) (lanes : List Nat) : LinkOnly s (s.driveOnly lanes) := Keeps.of_regs rfl rfl

theorem LinkOnly.burstOut (s : State) (lanes : List Nat) : LinkOnly s (s.burstOut lanes) := Keeps.of_regs rfl rfl

/-- A lane map in force changes the lanes alone. -/
theorem LinkOnly.mapInForce (s : State) (m : List Nat) : LinkOnly s { s with link := { s.link with map := m, nextMap := none } } :=
  Keeps.of_regs rfl rfl

theorem LinkOnly.applyMap (s : State) : LinkOnly s s.applyMap := by
  unfold State.applyMap
  split
  · exact .refl s
  · exact .trans (LinkOnly.mapInForce s _) (.ite (.refl _) (.trans (.ite (.refl _) (LinkOnly.burstOut _ _)) (LinkOnly.driveOnly _ _)))

theorem LinkOnly.burst (s : State) (lanes : List Nat) : LinkOnly s (s.burst lanes) :=
  .trans (LinkOnly.burstOut s lanes) (LinkOnly.applyMap _)

theorem LinkOnly.endInterval (s : State) : LinkOnly s s.endInterval := .trans (Keeps.of_regs rfl rfl) (LinkOnly.applyMap _)

theorem LinkOnly.dealOut (s : State) (l : List (List Symbol)) : LinkOnly s (s.dealOut l) := by
  unfold State.dealOut
  dsimp only
  refine .ite (.trans (LinkOnly.drive s _) (LinkOnly.update _ _)) ?_
  refine .trans ?_ (LinkOnly.update _ _)
  refine .trans ?_ (LinkOnly.drive _ _)
  refine .trans ?_ (LinkOnly.endInterval _)
  exact .trans (LinkOnly.drive s _) (LinkOnly.update _ _)

theorem LinkOnly.onLink (s : State) (p : Packet) : LinkOnly s (s.onLink p) := by
  unfold State.onLink
  dsimp only
  exact .trans (.trans (.trans (LinkOnly.dealOut s _) (Keeps.send _ _)) (Keeps.bump rfl _ _)) (LinkOnly.update _ _)

theorem LinkOnly.linkEmitAs (s : State) (epoch : Nat) (p : Packet) : LinkOnly s (s.linkEmitAs epoch p) := by
  unfold State.linkEmitAs
  dsimp only
  exact .trans (.trans (LinkOnly.onLink s _) (LinkOnly.update _ _)) (Keeps.put rfl _ _)

theorem LinkOnly.linkSend (s : State) (p : Packet) : LinkOnly s (s.linkSend p) :=
  .ite (.refl s) (.ite (LinkOnly.linkEmitAs s _ p) (Keeps.of_regs rfl rfl))

theorem LinkOnly.linkRead (s : State) (code module argument expected : Nat) (known : Bool) (frame : Option Nat) :
    LinkOnly s (s.linkRead code module argument expected known frame) :=
  .trans (u := s.openRead code module argument expected known frame) (Keeps.of_regs rfl rfl) (LinkOnly.linkSend _ _)

theorem LinkOnly.linkControl (s : State) (command module argument : Nat) (payload : Bytes) :
    LinkOnly s (s.linkControl command module argument payload) := LinkOnly.linkSend s _

theorem LinkOnly.timeChecks (s : State) (frame : Nat) : LinkOnly s (s.timeChecks frame) := .ite (.refl s) (Keeps.of_regs rfl rfl)

theorem LinkOnly.readWindow (s : State) (frame m slot column row columns rows : Nat) :
    LinkOnly s (s.readWindow frame m slot column row columns rows) := .trans (LinkOnly.timeChecks s _) (LinkOnly.linkRead _ _ _ _ _ _ _)

theorem LinkOnly.deskewNow (s : State) : LinkOnly s s.deskewNow := .ite (LinkOnly.endInterval s) (Keeps.of_regs rfl rfl)

theorem LinkOnly.sendMapOn (s : State) (lanes : List Nat) : LinkOnly s (s.sendMapOn lanes) :=
  .trans (Keeps.of_regs rfl rfl) (Keeps.foldl (fun s _ => Keeps.send s _) lanes _)

theorem LinkOnly.refreshIdle (s : State) : LinkOnly s s.refreshIdle := by
  unfold State.refreshIdle
  dsimp only
  exact .trans (.trans (.trans (LinkOnly.burstOut s _) (.ite (LinkOnly.sendMapOn _ _) (.refl _))) (LinkOnly.burst _ _)) (LinkOnly.driveAll _ _ _)

/-- The checksum of a whole module, or of a slot's window. -/
theorem LinkOnly.readWindowChecksum {s s' : State} {t m slot : Nat} (h : exec (.readWindowChecksum t m slot) s = .next s') :
    ∃ f : State → State, s' = s.finish t f ∧ LinkOnly (s.begin t) (f (s.begin t)) := by
  rw [exec_readWindowChecksum] at h
  refine ⟨_, eq_finish_of_actIf h, .ite ?_ (.refl _)⟩
  dsimp only
  split
  · exact LinkOnly.readWindow _ _ _ _ _ _ _ _
  · split
    · exact LinkOnly.readWindow _ _ _ _ _ _ _ _
    · exact .trans (LinkOnly.timeChecks _ _) (LinkOnly.linkRead _ _ _ _ _ _ _)

/-- A command of one module, framed when its effect is. -/
theorem LinkOnly.onModule {s s' : State} {t m : Nat} {f : State → State} (hf : ∀ u, LinkOnly u (f u)) (h : onModule m t s f = .next s') :
    ∃ f : State → State, s' = s.finish t f ∧ LinkOnly (s.begin t) (f (s.begin t)) :=
  ⟨_, eq_finish_of_actIf h, .ite (hf _) (.refl _)⟩

/-- A record of panel care that differs in the two lists alone. -/
theorem care_of_lists {c d : Care} (h : { d with lostReads := [], checkTimes := [] } = { c with lostReads := [], checkTimes := [] }) :
    d = { c with lostReads := d.lostReads, checkTimes := d.checkTimes } := by
  cases c
  cases d
  simp only [Care.mk.injEq] at h ⊢
  simp [h]

/-- Settles O34: the link alone is changed. -/
theorem linkCommandsTouchTheLinkAlone : Obligations.LinkCommandsTouchTheLinkAlone := by
  intro s s' t m slot column row columns rows h
  rw [exec_readHubCapabilities, exec_readModuleStatus, exec_readTile, exec_readSenseResult, exec_readModuleEvent, exec_setWindow,
    exec_startSensing, exec_deskewSet, exec_idleRefresh] at h
  obtain ⟨f, rfl, hkeeps⟩ : ∃ f : State → State, s' = s.finish t f ∧ LinkOnly (s.begin t) (f (s.begin t)) := by
    rcases h with h | h | h | h | h | h | h | h | h | h
    · exact ⟨_, eq_finish_of_act h, .ite (LinkOnly.linkRead _ _ _ _ _ _ _) (.refl _)⟩
    · exact LinkOnly.onModule (fun u => LinkOnly.linkRead u _ _ _ _ _ _) h
    · exact LinkOnly.onModule (fun u => LinkOnly.linkRead u _ _ _ _ _ _) h
    · exact LinkOnly.readWindowChecksum h
    · exact LinkOnly.onModule (fun u => LinkOnly.linkRead u _ _ _ _ _ _) h
    · exact LinkOnly.onModule (fun u => LinkOnly.linkRead u _ _ _ _ _ _) h
    · exact LinkOnly.onModule (fun u => LinkOnly.linkControl u _ _ _ _) h
    · exact LinkOnly.onModule (fun u => LinkOnly.linkControl u _ _ _ _) h
    · exact ⟨_, eq_finish_of_act h, .ite (LinkOnly.deskewNow _) (.refl _)⟩
    · exact ⟨_, eq_finish_of_act h, .ite (LinkOnly.refreshIdle _) (.refl _)⟩
  have hcare : (s.finish t f).care = { s.care with lostReads := (s.finish t f).care.lostReads, checkTimes := (s.finish t f).care.checkTimes } := by
    rw [State.finish_care]
    exact care_of_lists (congrArg State.care hkeeps.1)
  refine ⟨fun k h3 h15 h16 h1 h2 => hkeeps.finish_get (by simp [besideLinkObjects, h3, h15, h16]) h1 h2, fun k => ?_,
    hkeeps.finish_pending fun _ => ⟨rfl, rfl, rfl, rfl⟩, ?_, ?_, ?_, ?_, ?_, ?_, hcare, ?_, ?_, ?_, ?_, ?_, ?_⟩
  · rw [State.dom_finish]
    exact State.dom_congr (congrArg State.doms hkeeps.1) k
  · and_intros <;> exact hkeeps.finish_field (fun _ => rfl) (by simp) rfl
  · exact hkeeps.finish_field (field := State.lift) (fun _ => rfl) (by simp) rfl
  · exact hkeeps.finish_field (field := State.scene) (fun _ => rfl) (by simp) rfl
  · exact hkeeps.finish_field (field := State.banks) (fun _ => rfl) (by simp) rfl
  · exact hkeeps.finish_field (field := State.media) (fun _ => rfl) (by simp) rfl
  · exact hkeeps.finish_field (field := State.memory) (fun _ => rfl) (by simp) rfl
  · exact hkeeps.finish_field (field := State.pair) (fun _ => rfl) (by simp) rfl
  · exact hkeeps.finish_field (field := State.clock) (fun _ => rfl) (by simp) rfl
  · exact hkeeps.finish_field (field := State.net) (fun _ => rfl) (by simp) rfl
  · exact hkeeps.finish_field (field := fun u => u.link.rects) (fun _ => rfl) (by simp) rfl
  · exact hkeeps.finish_field (field := fun u => u.link.claims) (fun _ => rfl) (by simp) rfl
  · exact hkeeps.finish_field (field := fun u => u.link.toPresent) (fun _ => rfl) (by simp) rfl

end Sys2Proof.Machine
end

section
set_option Elab.async false
/-!
PROOFS. What cameras, control buses and searches leave alone (R200 to R242; O57).
-/

namespace Sys2Proof.Machine

/-! ### Frames of the media units -/

/-- No object is named. -/
def noObjects (_ : Nat) : Bool := false

/-- A state without its media units, its objects, what waits for an epoch, and its reports. -/
def State.sansMedia (s : State) : State := { s.core with doms := [], pendR := [], pendD := [], media := {} }

/-- The media units alone, and objects and reports, are changed. -/
abbrev MediaOnly (s u : State) : Prop := Keeps State.sansMedia noObjects s u

/-- The same, and functions that have failed. -/
abbrev MediaFails (s u : State) : Prop := Keeps (fun s => { s.sansMedia with stages := [] }) noObjects s u

/-- The same, and the pair's packets. -/
abbrev CameraOnly (s u : State) : Prop := Keeps (fun s => { s.sansMedia with stages := [], pair := {} }) noObjects s u

theorem Keeps.of_view {view : State → State} {objs : Nat → Bool} {s u : State} (h : view u = view s) (ho : ∀ k, objs k = false) :
    Keeps view objs s u := ⟨h, fun k hk => by simp [ho k] at hk⟩

theorem MediaOnly.fails {s u : State} (h : MediaOnly s u) : MediaFails s u :=
  .of_view (congrArg (fun s : State => { s with stages := [] }) h.1) fun _ => rfl

theorem MediaFails.camera {s u : State} (h : MediaFails s u) : CameraOnly s u :=
  .of_view (congrArg (fun s : State => { s with pair := {} }) h.1) fun _ => rfl

theorem MediaOnly.camera {s u : State} (h : MediaOnly s u) : CameraOnly s u := h.fails.camera

theorem Reported.media {s u : State} (h : Reported s u) : MediaOnly s u :=
  .of_view (congrArg (fun s : State => { s with doms := [], pendR := [], pendD := [], media := {} }) h.1) fun _ => rfl

section Basic

variable (s : State)

theorem MediaOnly.update (m : Media) : MediaOnly s { s with media := m } := Keeps.of_view rfl fun _ => rfl

theorem MediaOnly.put (k v : Nat) : MediaOnly s (s.put k v) := Keeps.put rfl s v

theorem MediaOnly.bump (k n : Nat) : MediaOnly s (s.bump k n) := Keeps.bump rfl s n

theorem MediaOnly.putDom (k : Nat) (b : Bytes) : MediaOnly s (s.putDom k b) := Keeps.of_view rfl fun _ => rfl

theorem MediaOnly.send (o : Out) : MediaOnly s (s.send o) := Keeps.of_view rfl fun _ => rfl

theorem MediaOnly.draw : MediaOnly s s.draw.1 := Keeps.of_view rfl fun _ => rfl

theorem MediaOnly.applyPending (p : Nat → Bool) : MediaOnly s (s.applyPending p) := Keeps.of_view rfl fun _ => rfl

theorem MediaOnly.setCam (p : Nat) (c : Cam) : MediaOnly s (s.setCam p c) := MediaOnly.update s _

theorem MediaOnly.setStereo (k : Nat) (c : StereoPair) : MediaOnly s (s.setStereo k c) := MediaOnly.update s _

theorem MediaOnly.setStream (n : Nat) (c : Stream) : MediaOnly s (s.setStream n c) := MediaOnly.update s _

theorem MediaOnly.setSlot (k : Nat) (c : Slot) : MediaOnly s (s.setSlot k c) := MediaOnly.update s _

theorem MediaOnly.setMaster (m : Nat) (c : CciMaster) : MediaOnly s (s.setMaster m c) := MediaOnly.update s _

theorem MediaOnly.staleResult : MediaOnly s s.staleResult := MediaOnly.bump s _ _

theorem MediaOnly.nextPlacement : MediaOnly s s.nextPlacement := MediaOnly.put s _ _

theorem MediaOnly.camError (p i n : Nat) : MediaOnly s (s.camError p i n) := MediaOnly.setCam s _ _

theorem MediaOnly.camPacket (p i : Nat) : MediaOnly s (s.camPacket p i) := MediaOnly.setCam s _ _

theorem MediaOnly.raise {fn cause : Nat} (he : effectOf fn cause ≠ .failed) (detail : Nat) : MediaOnly s (s.raise fn cause detail) :=
  (Reported.raise he s detail).media

theorem MediaOnly.onset {fn cause : Nat} (he : effectOf fn cause ≠ .failed) (item : Nat) : MediaOnly s (s.onset fn cause item) :=
  (Reported.onset he s item).media

theorem MediaOnly.settle (fn cause item : Nat) : MediaOnly s (s.settle fn cause item) := (Reported.settle s fn cause item).media

theorem MediaOnly.follow {fn cause : Nat} (he : effectOf fn cause ≠ .failed) (b : Bool) (item : Nat) :
    MediaOnly s (s.follow b fn cause item) := (Reported.follow he s b item).media

/-- A cause whatever its effect. -/
theorem MediaFails.raiseCore (fn cause detail : Nat) (e : Effect) : MediaFails s (s.raiseCore fn cause detail e) := by
  have hcontain : MediaFails s (s.contain fn cause e) := by
    unfold State.contain
    split
    · exact .refl s
    · exact .ite (.refl s) (.of_view rfl fun _ => rfl)
    · exact .of_view rfl fun _ => rfl
  unfold State.raiseCore
  dsimp only
  split
  · exact hcontain.trans (.of_view (congrArg (fun s : State => { s with doms := [], pendR := [], pendD := [], media := {}, stages := [] })
      (State.core_repeatFault _ _ _)) fun _ => rfl)
  · exact hcontain.trans (.of_view (congrArg (fun s : State => { s with doms := [], pendR := [], pendD := [], media := {}, stages := [] })
      ((State.core_queueFault _ _ _).trans (State.core_countFault _ _))) fun _ => rfl)

end Basic

/-! ### The control buses (R213, R216 to R218) -/

section Bus

variable (s : State)

theorem MediaOnly.shadowCommit (p : Nat) : MediaOnly s (s.shadowCommit p) := by
  unfold State.shadowCommit
  dsimp only
  refine .trans ?_ (MediaOnly.applyPending _ _)
  exact .ite (.of_view rfl fun _ => rfl) (.refl s)

theorem MediaOnly.lateSet (p setId frame : Nat) : MediaOnly s (s.lateSet p setId frame) :=
  .trans (.trans (MediaOnly.setCam s _ _) (MediaOnly.bump _ _ _)) (MediaOnly.raise _ (by decide) _)

theorem MediaOnly.lateJob (p : Nat) : MediaOnly s (s.lateJob p) := by
  unfold State.lateJob
  split
  · exact .refl s
  · exact .ite (.refl s) (.trans (MediaOnly.setCam s _ _) (MediaOnly.lateSet _ _ _ _))

theorem MediaOnly.cciRun (m : Nat) : MediaOnly s (s.cciRun m) := by
  unfold State.cciRun
  dsimp only
  refine .ite (.refl s) ?_
  split
  · split
    · exact .refl s
    · exact .trans (MediaOnly.setMaster s _ _) (MediaOnly.send _ _)
  · split
    · exact .refl s
    · exact .ite (.trans (MediaOnly.setMaster s _ _) (MediaOnly.send _ _)) (.refl s)

theorem MediaOnly.cciAll : MediaOnly s s.cciAll := Keeps.foldl (fun s m => MediaOnly.cciRun s m) _ s

theorem MediaOnly.cciComplete (m : Nat) (acked : Bool) (data : Bytes) : MediaOnly s (s.cciComplete m acked data) := by
  unfold State.cciComplete
  dsimp only
  split
  · exact .refl s
  · refine .trans (MediaOnly.setMaster s m { s.master m with running := none }) (.ite ?_ ?_)
    · exact .trans (.trans (MediaOnly.put _ _ _) (.ite (MediaOnly.putDom _ _ _) (.refl _))) (MediaOnly.cciRun _ _)
    · split
      · exact MediaOnly.cciRun _ _
      · refine .ite (.trans (MediaOnly.setCam _ _ _) (MediaOnly.cciRun _ _)) ?_
        exact .trans (.trans (.ite (MediaOnly.lateJob _ _) (.refl _)) (MediaOnly.setCam _ _ _)) (MediaOnly.cciRun _ _)

theorem MediaOnly.cciStuck (m : Nat) : MediaOnly s (s.cciStuck m) := by
  unfold State.cciStuck
  dsimp only
  refine .ite (.refl s) (.trans (.trans ?_ (MediaOnly.send _ _)) (MediaOnly.onset _ (by decide) _))
  refine .trans (MediaOnly.setMaster s m { s.master m with running := none, stuck := true }) ?_
  split
  · exact .refl _
  next j _ =>
    refine .ite (MediaOnly.put _ _ _) (.trans (MediaOnly.lateJob _ j.port) ?_)
    split
    · exact .refl _
    · exact MediaOnly.setCam _ _ _

theorem MediaOnly.cciRecover (m : Nat) (free : Bool) : MediaOnly s (s.cciRecover m free) := by
  unfold State.cciRecover
  dsimp only
  refine .ite (.refl s) (.trans (MediaOnly.send s _) (.ite ?_ (.refl _)))
  exact .trans (.trans (MediaOnly.setMaster _ _ _) (MediaOnly.settle _ _ _ _)) (MediaOnly.cciRun _ _)

theorem MediaOnly.cciDeadline (p : Nat) : MediaOnly s (s.cciDeadline p) := by
  unfold State.cciDeadline
  split
  · exact .refl s
  · exact .ite (MediaOnly.lateJob s p) (.refl s)

end Bus

/-! ### Pairing and searches (R229 to R239) -/

section Search

variable (s : State)

theorem MediaOnly.requestMotion (n : Nat) : MediaOnly s (s.requestMotion n) := by
  unfold State.requestMotion
  exact .ite (.refl s) (.trans (MediaOnly.setStream s _ _) (MediaOnly.update _ _))

theorem MediaOnly.requestMotions (source : Nat) : MediaOnly s (s.requestMotions source) :=
  Keeps.foldl (fun s n => MediaOnly.requestMotion s n) _ s

theorem MediaOnly.beginSearch (k : Nat) (ref partner : Picture) (previous : Bool) : MediaOnly s (s.beginSearch k ref partner previous) :=
  MediaOnly.setStereo s _ _

theorem MediaOnly.countAbandoned (k : Nat) : MediaOnly s (s.countAbandoned k) :=
  .trans (.trans (MediaOnly.bump s _ _) (MediaOnly.setStereo _ _ _)) (MediaOnly.raise _ (by decide) _)

theorem MediaOnly.unpairedFrame (k : Nat) : MediaOnly s (s.unpairedFrame k) :=
  .trans (.trans (MediaOnly.bump s 0x380005 1) (MediaOnly.setStereo _ _ _)) (.ite (MediaOnly.onset _ (by decide) _) (.refl _))

theorem MediaOnly.storeDepth (kind source seq time w h : Nat) (damaged concealed : Bool) (codes : List Nat) :
    MediaOnly s (s.storeDepth kind source seq time w h damaged concealed codes) := MediaOnly.update s _

theorem MediaOnly.finishSearch (k : Nat) (ref partner : Picture) : MediaOnly s (s.finishSearch k ref partner) := by
  unfold State.finishSearch
  dsimp only
  refine .trans ?_ (MediaOnly.storeDepth _ _ _ _ _ _ _ _ _ _)
  exact .trans (.trans (MediaOnly.setStereo s _ _) (MediaOnly.put _ _ _)) (MediaOnly.putDom _ _ _)

theorem MediaOnly.searchRowOf (k : Nat) (ref partner : Picture) : MediaOnly s (s.searchRowOf k ref partner) :=
  .trans (.trans (MediaOnly.draw s) (MediaOnly.setStereo _ _ _)) (.ite (MediaOnly.finishSearch _ _ _ _) (.refl _))

theorem MediaOnly.searchRows (k n : Nat) : MediaOnly s (searchRows k n s) := by
  induction n generalizing s with
  | zero => exact .refl s
  | succ n ih =>
    unfold Sys2Proof.Machine.searchRows
    split
    · exact .trans (MediaOnly.searchRowOf s _ _ _) (ih _)
    · exact .refl s

theorem MediaOnly.pairedFrame (k : Nat) (ref partner : Picture) : MediaOnly s (s.pairedFrame k ref partner) := by
  unfold State.pairedFrame
  dsimp only
  have hbegun := Keeps.trans (MediaOnly.settle s 5 2 k) (MediaOnly.setStereo _ k
    { (s.settle 5 2 k).stereo k with unpairedRun := 0, fresh := false, early := none })
  split
  · exact hbegun.trans (.trans (.ite (MediaOnly.countAbandoned _ _) (.refl _)) (MediaOnly.setStereo _ _ _))
  · refine hbegun.trans (.trans (MediaOnly.beginSearch _ k ref partner (!((s.settle 5 2 k).stereo k).fresh)) ?_)
    split
    · exact .ite (.trans (MediaOnly.setStereo _ _ _) (MediaOnly.searchRows _ _ _)) (.refl _)
    · exact .refl _

theorem MediaOnly.settlePairs (k n : Nat) : MediaOnly s (settlePairs k n s) := by
  induction n generalizing s with
  | zero => exact .refl s
  | succ n ih =>
    unfold Sys2Proof.Machine.settlePairs
    dsimp only
    split
    · exact .refl s
    · refine .ite (.refl s) ?_
      split
      · exact .trans (.trans (MediaOnly.setStereo s _ _) (MediaOnly.pairedFrame _ _ _ _)) (ih _)
      · exact .trans (.trans (MediaOnly.setStereo s _ _) (MediaOnly.unpairedFrame _ _)) (ih _)

theorem MediaOnly.settleFrames : MediaOnly s s.settleFrames :=
  Keeps.foldl (fun s k => .trans (MediaOnly.settlePairs s k _) (MediaOnly.setStereo _ _ _)) _ s

theorem MediaOnly.offerFrame (port : Nat) (pic : Picture) : MediaOnly s (s.offerFrame port pic) :=
  Keeps.foldl (fun s _ => .ite (MediaOnly.setStereo s _ _) (.ite (MediaOnly.setStereo s _ _) (.refl s))) _ s

theorem MediaOnly.searchStereoRow (k row epoch : Nat) : MediaOnly s (s.searchStereoRow k row epoch) := by
  unfold State.searchStereoRow
  dsimp only
  refine .ite (.refl s) ?_
  split
  · exact .ite (MediaOnly.staleResult s) (.ite (MediaOnly.searchRowOf s _ _ _) (.refl s))
  · split
    · exact .ite (MediaOnly.staleResult s) (.ite (MediaOnly.setStereo s _ _) (.refl s))
    · exact MediaOnly.staleResult s

theorem MediaOnly.abandonSearch (k : Nat) : MediaOnly s (s.abandonSearch k) := by
  unfold State.abandonSearch
  split
  · exact .trans (MediaOnly.countAbandoned s _) (MediaOnly.beginSearch _ _ _ _ _)
  · exact .refl s

theorem MediaOnly.searchMotion (n bx by_ epoch : Nat) : MediaOnly s (s.searchMotion n bx by_ epoch) := by
  unfold State.searchMotion
  dsimp only
  split
  · refine .ite (.refl s) (.ite (MediaOnly.staleResult s) (.ite ?_ (.refl s)))
    exact .trans (MediaOnly.setStream s _ _) (.ite (MediaOnly.update _ _) (.refl _))
  · exact .ite (MediaOnly.staleResult s) (.refl s)

theorem MediaFails.failEngine (e : Nat) : MediaFails s (s.failEngine e) := by
  unfold State.failEngine
  dsimp only
  refine .ite (.refl s) (.trans (MediaOnly.fails ?_) (MediaFails.raiseCore _ _ _ _ _))
  refine .trans (.trans (.trans (.trans (.trans (MediaOnly.update s _) (MediaOnly.put _ _ _)) (MediaOnly.put _ _ _))
    (MediaOnly.nextPlacement _)) (Keeps.foldl (fun s k => ?_) _ _)) (Keeps.foldl (fun s n => ?_) _ _)
  · refine .ite (.trans (MediaOnly.setStereo s _ _) (MediaOnly.bump _ _ _)) ?_
    split
    · exact .ite (.trans (MediaOnly.setStereo s _ _) (MediaOnly.bump _ _ _)) (.refl s)
    · exact .refl s
  · exact .ite (.trans (MediaOnly.setStream s _ _) (MediaOnly.bump _ _ _)) (.refl s)

end Search

end Sys2Proof.Machine
end

section
set_option Elab.async false
/-!
PROOFS. What the frames of the camera ports leave alone (R200 to R215; O57).
-/

namespace Sys2Proof.Machine

section Frames

variable (s : State)

theorem CameraOnly.pairUpdate (p : Pair) (o : List Out) : CameraOnly s { s with pair := p, out := o } := Keeps.of_view rfl fun _ => rfl

theorem CameraOnly.twinSend (kind tail : Nat) (payload : Bytes) : CameraOnly s (s.twinSend kind tail payload) := by
  unfold State.twinSend
  dsimp only
  exact .ite (.refl s) (.ite (CameraOnly.pairUpdate s _ _) (CameraOnly.pairUpdate s _ _))

theorem CameraOnly.postStats (p : Nat) (f : CamFrame) (block : Bytes) : CameraOnly s (s.postStats p f block) := by
  unfold State.postStats
  dsimp only
  refine .trans ?_ (.ite (CameraOnly.twinSend _ _ _ _) (.refl _))
  exact MediaOnly.camera (.trans (.trans (MediaOnly.setCam s _ _) (MediaOnly.putDom _ _ _)) (MediaOnly.putDom _ _ _))

theorem CameraOnly.processFrame (p : Nat) (f : CamFrame) : CameraOnly s (s.processFrame p f) := by
  unfold State.processFrame
  dsimp only
  refine .trans (CameraOnly.postStats s p f _) (.ite (MediaOnly.settleFrames _).camera (MediaOnly.camera ?_))
  refine .trans (.trans ?_ (MediaOnly.settleFrames _)) (MediaOnly.requestMotions _ _)
  exact .trans (MediaOnly.setCam _ _ _) (MediaOnly.offerFrame _ _ _)

theorem MediaOnly.startProcessing (n : Nat) : MediaOnly s (startProcessing n s) := by
  induction n generalizing s with
  | zero => exact .refl s
  | succ n ih =>
    unfold Sys2Proof.Machine.startProcessing
    split
    · dsimp only
      split
      · exact .trans (.trans (.ite (MediaOnly.bump s _ _) (.refl s)) (MediaOnly.setCam _ _ _)) (ih _)
      · exact .refl s
    · exact .refl s

theorem MediaOnly.reissueRaw (n : Nat) : MediaOnly s (s.reissueRaw n) := by
  refine Keeps.foldl (fun s p => ?_) _ s
  dsimp only
  split
  · exact .ite (MediaOnly.setCam s _ _) (.refl s)
  · exact .refl s

theorem CameraOnly.pushRaw (p : Nat) (f : CamFrame) : CameraOnly s (s.pushRaw p f) := by
  unfold State.pushRaw
  dsimp only
  refine .trans ?_ (MediaOnly.camera (.trans (MediaOnly.settleFrames _) (MediaOnly.startProcessing _ _)))
  refine .ite (MediaOnly.setCam s _ _).camera ?_
  split
  · exact .refl s
  · exact .trans (MediaOnly.camera (.trans (MediaOnly.setCam s _ _) (MediaOnly.camError _ _ _ _))) (CameraOnly.postStats _ _ _ _)

theorem CameraOnly.endFrame (p how : Nat) : CameraOnly s (s.endFrame p how) := by
  unfold State.endFrame
  dsimp only
  split
  · exact .refl s
  · refine .trans (MediaOnly.camera ?_) (.ite (CameraOnly.pushRaw _ _ _) (CameraOnly.processFrame _ _ _))
    refine .trans ?_ (.ite (MediaOnly.raise _ (by decide) _) (.refl _))
    refine .trans ?_ (.ite (MediaOnly.camError _ _ _ _) (.refl _))
    refine .trans ?_ (.ite (MediaOnly.camError _ _ _ _) (.refl _))
    exact .trans (MediaOnly.setCam s _ _) (.ite (MediaOnly.camError _ _ _ _) (.refl _))

theorem CameraOnly.addLine (p e : Nat) (samples : Option (List Nat)) : CameraOnly s (s.addLine p e samples) := by
  unfold State.addLine
  dsimp only
  split
  · exact (MediaOnly.camError s _ _ _).camera
  · refine .ite (.trans (MediaOnly.camError s p 5 1).camera (.ite (CameraOnly.endFrame _ _ _) (.refl _))) (MediaOnly.camera ?_)
    refine .trans ?_ (.ite (MediaOnly.camError _ _ _ _) (.refl _))
    refine .trans ?_ (.ite (MediaOnly.camError _ _ _ _) (.refl _))
    exact .trans (MediaOnly.setCam s _ _) (.ite (MediaOnly.camError _ _ _ _) (.refl _))

/-- The errors of a line's packet are counted (R199). -/
def State.lineCounted (s : State) (p ecc : Nat) (crcOk : Bool) : State :=
  let s := if ecc = 1 then s.camPacket p 1 else if ecc = 2 then s.camPacket p 2 else s
  if ecc < 2 && !crcOk then s.camPacket p 3 else s

/-- Embedded data join the frame (R215). -/
def State.embed (s : State) (p : Nat) (samples : List Nat) : State :=
  let c := s.cam p
  match c.frame with
  | none => s
  | some f => s.setCam p { c with frame := some { f with embedded := (f.embedded ++ samples.map (BitVec.ofNat 8)).take 4096 } }

/-- A line goes to the exposure that its stream selects, or is embedded data (R200, R201). -/
def State.lineTaken (s : State) (p channel dataType ecc : Nat) (crcOk : Bool) (samples : List Nat) : State :=
  match [0, 1, 2].find? fun e => imageTypes.contains dataType && s.selected p e == (channel, dataType) with
  | some e => s.addLine p e (if ecc < 2 ∧ crcOk ∧ !samples.isEmpty then some samples else none)
  | none =>
    if dataType = 0x12 ∧ s.selected p 3 = (channel, dataType) then if ecc < 2 && crcOk then s.embed p samples else s
    else if ecc = 2 then s else s.camError p 9

theorem State.receiveLine_eq (p channel dataType ecc : Nat) (crcOk : Bool) (samples : List Nat) :
    s.receiveLine p channel dataType ecc crcOk samples = if !s.camOn p || !s.usable 4 then s else if ecc = 3 then s.camPacket p 0
      else (s.lineCounted p ecc crcOk).lineTaken p channel dataType ecc crcOk samples := rfl

theorem MediaOnly.lineCounted (p ecc : Nat) (crcOk : Bool) : MediaOnly s (s.lineCounted p ecc crcOk) :=
  .trans (.ite (MediaOnly.camPacket s _ _) (.ite (MediaOnly.camPacket s _ _) (.refl s))) (.ite (MediaOnly.camPacket _ _ _) (.refl _))

theorem MediaOnly.embed (p : Nat) (samples : List Nat) : MediaOnly s (s.embed p samples) := by
  unfold State.embed
  dsimp only
  split
  · exact .refl s
  · exact MediaOnly.setCam s _ _

theorem CameraOnly.lineTaken (p channel dataType ecc : Nat) (crcOk : Bool) (samples : List Nat) :
    CameraOnly s (s.lineTaken p channel dataType ecc crcOk samples) := by
  unfold State.lineTaken
  split
  · exact CameraOnly.addLine s _ _ _
  · exact .ite (.ite (MediaOnly.embed s _ _).camera (.refl s)) (.ite (.refl s) (MediaOnly.camError s _ _ _).camera)

theorem CameraOnly.receiveLine (p channel dataType ecc : Nat) (crcOk : Bool) (samples : List Nat) :
    CameraOnly s (s.receiveLine p channel dataType ecc crcOk samples) := by
  rw [State.receiveLine_eq]
  exact .ite (.refl s) (.ite (MediaOnly.camPacket s _ _).camera
    (.trans (MediaOnly.lineCounted s p ecc crcOk).camera (CameraOnly.lineTaken _ _ _ _ _ _ _)))

theorem MediaOnly.leavePipeline (p n : Nat) : MediaOnly s (s.leavePipeline p n) :=
  .ite (.trans (Keeps.foldl (fun s _ => MediaOnly.put s _ _) _ s) (MediaOnly.nextPlacement _)) (.refl s)

theorem MediaOnly.latchSet (p counter : Nat) : MediaOnly s (s.latchSet p counter) :=
  .trans (MediaOnly.setCam s _ _) (MediaOnly.cciRun _ _)

theorem CameraOnly.startFrame (p number : Nat) : CameraOnly s (s.startFrame p number) := by
  unfold State.startFrame
  refine .ite (.refl s) (.trans (CameraOnly.endFrame s p 0) (MediaOnly.camera ?_))
  generalize s.endFrame p 0 = s
  dsimp only
  refine .trans (.trans (.trans (.trans ?_ (MediaOnly.settleFrames _)) (MediaOnly.startProcessing _ _)) (MediaOnly.settle _ _ _ _))
    (MediaOnly.cciRun _ _)
  refine .trans (.trans (.trans ?_ (MediaOnly.follow _ (by decide) _ _)) (MediaOnly.setCam _ _ _)) (MediaOnly.put _ _ _)
  refine .trans (.trans (.trans ?_ (.ite (.trans (MediaOnly.nextPlacement _) (MediaOnly.reissueRaw _ _)) (.refl _)))
    (MediaOnly.leavePipeline _ _ _)) (MediaOnly.put _ _ _)
  refine .trans (.trans ?_ (.ite (MediaOnly.camError _ _ _ _) (.refl _))) (.ite (MediaOnly.raise _ (by decide) _) (.refl _))
  refine .trans (.trans (.trans ?_ (.ite (MediaOnly.latchSet _ _ _) (.refl _))) (MediaOnly.setCam _ _ _)) (MediaOnly.put _ _ _)
  exact .trans (.trans (MediaOnly.put s _ _) (.ite (MediaOnly.camError _ _ _ _) (.refl _))) (MediaOnly.shadowCommit _ _)

theorem MediaOnly.losePort (p : Nat) : MediaOnly s (s.losePort p) :=
  .ite (.trans (.trans (MediaOnly.put s _ _) (MediaOnly.cciRun _ _)) (MediaOnly.onset _ (by decide) _)) (.refl s)

theorem CameraOnly.finishRaw (p epoch : Nat) : CameraOnly s (s.finishRaw p epoch) := by
  unfold State.finishRaw
  dsimp only
  refine .ite (.refl s) ?_
  split
  · refine .ite ?_ (MediaOnly.staleResult s).camera
    exact .trans (.trans (MediaOnly.setCam s _ _).camera (CameraOnly.processFrame _ _ _)) (MediaOnly.startProcessing _ _).camera
  · exact (MediaOnly.staleResult s).camera

theorem MediaFails.failPipeline (n : Nat) : MediaFails s (s.failPipeline n) := by
  unfold State.failPipeline
  dsimp only
  refine .ite (.refl s) (.trans (MediaOnly.fails ?_) (MediaFails.raiseCore _ _ _ _ _))
  refine .trans (.trans (.trans ?_ (MediaOnly.nextPlacement _)) (MediaOnly.reissueRaw _ _)) (MediaOnly.startProcessing _ _)
  exact .trans (MediaOnly.update s _) (Keeps.foldl (fun s p => .ite (MediaOnly.setCam s _ _) (.refl s)) _ _)

end Frames

/-! ### Layers that a frame makes current again (R91) -/

/-- The media units, failed functions, and the run state of layers. -/
abbrev OutputsOnly (s u : State) : Prop :=
  Keeps (fun s => { s.sansMedia with stages := [], scene := { s.scene with layers := [] } }) noObjects s u

/-- The same, and the pair's packets. -/
abbrev LayersToo (s u : State) : Prop :=
  Keeps (fun s => { s.sansMedia with stages := [], pair := {}, scene := { s.scene with layers := [] } }) noObjects s u

theorem MediaFails.outputs {s u : State} (h : MediaFails s u) : OutputsOnly s u :=
  .of_view (congrArg (fun s : State => { s with scene := { s.scene with layers := [] } }) h.1) fun _ => rfl

theorem MediaOnly.outputs {s u : State} (h : MediaOnly s u) : OutputsOnly s u := h.fails.outputs

theorem OutputsOnly.layersToo {s u : State} (h : OutputsOnly s u) : LayersToo s u :=
  .of_view (congrArg (fun s : State => { s with pair := {} }) h.1) fun _ => rfl

theorem CameraOnly.layersToo {s u : State} (h : CameraOnly s u) : LayersToo s u :=
  .of_view (congrArg (fun s : State => { s with scene := { s.scene with layers := [] } }) h.1) fun _ => rfl

theorem OutputsOnly.setRun (s : State) (n : Nat) (r : LayerRun) : OutputsOnly s (s.setRun n r) := .of_view rfl fun _ => rfl

theorem OutputsOnly.layerEntry (s : State) (n old : Nat) : OutputsOnly s (s.layerEntry n old) :=
  .ite (Reported.beaconAdd s _ _ _ _).media.outputs (.refl s)

theorem OutputsOnly.unstale (s : State) : OutputsOnly s s.unstale :=
  Keeps.foldl (fun s n => .ite
    (.trans (.trans (OutputsOnly.setRun s n _) (OutputsOnly.layerEntry _ _ _)) (MediaOnly.settle _ 0xB 2 n).outputs) (.refl s)) _ s

/-- A scene that differs in its layers' run state alone. -/
theorem scene_of_layers {c d : Scene} (h : { d with layers := [] } = { c with layers := [] }) : d = { c with layers := d.layers } := by
  cases c
  cases d
  simp only [Scene.mk.injEq] at h ⊢
  simp [h]

/-- A command of the cameras and searches other than a Frame Start. -/
def cameraCommand (s s' : State) (t n a b c d : Nat) (ok : Bool) (samples : List Nat) (data : Bytes) : Prop :=
  exec (.lineReceive t n a b c ok samples) s = .next s' ∨ exec (.frameEnd t n) s = .next s' ∨ exec (.frameEndTimeout t n) s = .next s'
    ∨ exec (.portLost t n) s = .next s' ∨ exec (.ispFrameComplete t ⟨n, a⟩) s = .next s' ∨ exec (.ispPipelineFail t n) s = .next s'
    ∨ exec (.cciWriteDeadline t n) s = .next s' ∨ exec (.cciTransactionComplete t n ok data) s = .next s'
    ∨ exec (.cciBusStuck t n) s = .next s' ∨ exec (.cciBusRecovery t n ok) s = .next s' ∨ exec (.stereoRowSearch t ⟨n, d⟩ a) s = .next s'
    ∨ exec (.stereoFrameAbandon t n) s = .next s' ∨ exec (.motionSearch t ⟨n, d⟩ a b) s = .next s'
    ∨ exec (.slalomEngineFail t n) s = .next s'

theorem CameraOnly.endFrameTimeout {s s' : State} {t n : Nat} (h : exec (.frameEndTimeout t n) s = .next s') :
    ∃ f : State → State, s' = s.finish t f ∧ CameraOnly (s.begin t) (f (s.begin t)) := by
  rw [exec_frameEndTimeout] at h
  refine ⟨_, eq_finish_of_actIf h, ?_⟩
  split
  · exact .ite (CameraOnly.endFrame _ _ _) (.refl _)
  · exact .refl _

theorem cameraOnly_of_command {s s' : State} {t n a b c d : Nat} {ok : Bool} {samples : List Nat} {data : Bytes}
    (h : cameraCommand s s' t n a b c d ok samples data) :
    ∃ f : State → State, s' = s.finish t f ∧ CameraOnly (s.begin t) (f (s.begin t)) := by
  unfold cameraCommand at h
  rw [exec_lineReceive, exec_frameEnd, exec_portLost, exec_ispFrameComplete, exec_ispPipelineFail, exec_cciWriteDeadline,
    exec_cciTransactionComplete, exec_cciBusStuck, exec_cciBusRecovery, exec_stereoRowSearch, exec_stereoFrameAbandon, exec_motionSearch,
    exec_slalomEngineFail] at h
  rcases h with h | h | h | h | h | h | h | h | h | h | h | h | h | h
  · exact ⟨_, eq_finish_of_actIf h, CameraOnly.receiveLine _ _ _ _ _ _ _⟩
  · exact ⟨_, eq_finish_of_actIf h, .ite (CameraOnly.endFrame _ _ _) (.refl _)⟩
  · exact CameraOnly.endFrameTimeout h
  · exact ⟨_, eq_finish_of_actIf h, (MediaOnly.losePort _ n).camera⟩
  · exact ⟨_, eq_finish_of_actIf h, CameraOnly.finishRaw _ _ _⟩
  · exact ⟨_, eq_finish_of_actIf h, (MediaFails.failPipeline _ n).camera⟩
  · exact ⟨_, eq_finish_of_actIf h, (MediaOnly.cciDeadline _ n).camera⟩
  · exact ⟨_, eq_finish_of_actIf h, (MediaOnly.cciComplete _ n ok data).camera⟩
  · exact ⟨_, eq_finish_of_actIf h, (MediaOnly.cciStuck _ n).camera⟩
  · exact ⟨_, eq_finish_of_actIf h, (MediaOnly.cciRecover _ n ok).camera⟩
  · exact ⟨_, eq_finish_of_actIf h, (MediaOnly.searchStereoRow _ _ _ _).camera⟩
  · exact ⟨_, eq_finish_of_actIf h, (MediaOnly.abandonSearch _ n).camera⟩
  · exact ⟨_, eq_finish_of_actIf h, (MediaOnly.searchMotion _ _ _ _ _).camera⟩
  · exact ⟨_, eq_finish_of_actIf h, (MediaFails.failEngine _ n).camera⟩

/-- Settles O57: the media units, the pair's packets, objects and reports alone are changed. -/
theorem camerasLeaveTheOtherUnits : Obligations.CamerasLeaveTheOtherUnits := by
  intro s s' t n a b c d ok samples data h
  obtain ⟨f, rfl, hkeeps, hscene⟩ : ∃ f : State → State, s' = s.finish t f ∧ LayersToo (s.begin t) (f (s.begin t))
      ∧ (exec (.frameStart t n a) s = .next s' ∨ s'.scene = s.scene) := by
    rcases h with h | h
    · have hrun := h
      rw [exec_frameStart] at hrun
      exact ⟨_, eq_finish_of_actIf hrun, .trans (CameraOnly.startFrame _ n a).layersToo (OutputsOnly.unstale _).layersToo, .inl h⟩
    · obtain ⟨f, rfl, hkeeps⟩ := cameraOnly_of_command h
      exact ⟨f, rfl, hkeeps.layersToo, .inr (hkeeps.finish_field (fun _ => rfl) (by simp) rfl)⟩
  have hlayers : (s.finish t f).scene = { s.scene with layers := (s.finish t f).scene.layers } := by
    rw [State.finish_scene]
    exact scene_of_layers (congrArg State.scene hkeeps.1)
  have hburnR : (f (s.begin t)).burnR = s.burnR := hkeeps.field_of fun _ => rfl
  have hburnD : (f (s.begin t)).burnD = s.burnD := hkeeps.field_of fun _ => rfl
  refine ⟨hkeeps.finish_field (fun _ => rfl) (by simp) rfl, hkeeps.finish_field (fun _ => rfl) (by simp) rfl,
    hkeeps.finish_field (fun _ => rfl) (by simp) rfl, hkeeps.finish_field (fun _ => rfl) (by simp) rfl, hlayers, hscene,
    hkeeps.finish_field (fun _ => rfl) (by simp) rfl, hkeeps.finish_field (fun _ => rfl) (by simp) rfl,
    hkeeps.finish_field (fun _ => rfl) (by simp) rfl, hkeeps.finish_field (fun _ => rfl) (by simp) rfl,
    hkeeps.finish_field (fun _ => rfl) (by simp) rfl, hkeeps.finish_field (fun _ => rfl) (by simp) rfl, fun k => ?_, fun k => ?_⟩
  · rw [State.finish_lookup_burnR, hburnR]
  · rw [State.finish_lookup_burnD, hburnD]

end Sys2Proof.Machine
end

section
set_option Elab.async false
/-!
PROOFS. What the decoder, the Groomer and the flat outputs leave alone (R261 to R266, R279 to R286, R298 to R302; O58).
-/

namespace Sys2Proof.Machine

/-! ### The decoder's slots (R261 to R266) -/

section Slots

variable (s : State)

theorem MediaOnly.settleSlot (k : Nat) : MediaOnly s (s.settleSlot k) := by
  unfold State.settleSlot
  refine .ite (.refl s) (.ite (.ite (.trans (MediaOnly.put s _ _) (MediaOnly.setSlot _ _ _)) (.refl s)) (.ite (.refl s) ?_))
  exact .trans (.trans (MediaOnly.put s _ _) (MediaOnly.setSlot _ _ _)) (MediaOnly.settle _ _ _ _)

theorem MediaOnly.decoderObjects : MediaOnly s s.decoderObjects := .trans (MediaOnly.put s _ _) (MediaOnly.put _ _ _)

/-- A picture's counts, and cause 0x03 where it wrote outside its buffers (R263, R264). -/
theorem MediaOnly.storePicture (k : Nat) (u : AccessUnit) (upTo : Option Nat) (time : Nat) (gap : Bool) :
    MediaOnly s (s.storePicture k u upTo time gap) := by
  unfold State.storePicture
  dsimp only
  refine .trans ?_ (.ite (.trans (MediaOnly.setSlot _ _ _) (MediaOnly.storeDepth _ _ _ _ _ _ _ _ _ _)) (MediaOnly.setSlot _ _ _))
  refine .trans (.trans (.trans ?_ (MediaOnly.put _ _ _)) (MediaOnly.put _ _ _)) (.ite (.refl _) (MediaOnly.raise _ (by decide) _))
  refine .trans (.trans ?_ (.ite (MediaOnly.bump _ _ _) (.refl _))) (.ite (MediaOnly.bump _ _ _) (.refl _))
  exact .trans (MediaOnly.bump s _ _) (MediaOnly.bump _ _ _)

theorem MediaOnly.decodeUnit (k : Nat) (u : AccessUnit) (upTo : Option Nat) : MediaOnly s (s.decodeUnit k u upTo) := by
  unfold State.decodeUnit
  split
  · exact .refl s
  next unit rest _ =>
    dsimp only
    refine .trans (.trans (MediaOnly.setSlot s k { s.slot k with units := rest, lastUnit := s.now, starved := false })
      (MediaOnly.settle _ 7 5 k)) ?_
    refine .ite (.trans (.trans (.trans (MediaOnly.setSlot _ _ _) (MediaOnly.put _ _ _)) (MediaOnly.bump _ _ _)) (MediaOnly.raise _ (by decide) _)) ?_
    refine .ite (.trans (MediaOnly.put _ _ _) (MediaOnly.bump _ _ _)) ?_
    refine .ite (.trans (MediaOnly.setSlot _ _ _) (MediaOnly.storePicture _ _ _ _ _ _)) ?_
    exact .ite (.trans (.ite (MediaOnly.put _ _ _) (.refl _)) (MediaOnly.bump _ _ _)) (MediaOnly.storePicture _ _ _ _ _ _)

theorem MediaOnly.decodePicture (k : Nat) (u : AccessUnit) : MediaOnly s (s.decodePicture k u) :=
  .ite (.trans (MediaOnly.setSlot s _ _) (MediaOnly.decodeUnit _ _ _ _)) (.refl s)

theorem MediaOnly.overrun (k : Nat) (u : AccessUnit) (good : Nat) : MediaOnly s (s.overrun k u good) :=
  .ite (.refl s) (.trans (.trans (MediaOnly.decodeUnit s k u (some good)) (MediaOnly.setSlot _ _ _))
    (.ite (MediaOnly.raise _ (by decide) _) (.refl _)))

theorem MediaOnly.starve (k : Nat) : MediaOnly s (s.starve k) :=
  .ite (.trans (.trans (MediaOnly.setSlot s _ _) (MediaOnly.put _ _ _)) (MediaOnly.onset _ (by decide) _)) (.refl s)

theorem MediaOnly.moveSlot (k : Nat) : MediaOnly s (s.moveSlot k) := by
  unfold State.moveSlot
  dsimp only
  refine .trans (MediaOnly.setSlot s k { s.slot k with suspended := true, resync := true }) ?_
  split
  · exact .trans (MediaOnly.setSlot _ _ _) (MediaOnly.put _ _ _)
  · exact .trans (MediaOnly.put _ _ _) (MediaOnly.raise _ (by decide) _)

theorem MediaFails.failDecoder (core : Nat) : MediaFails s (s.failDecoder core) := by
  unfold State.failDecoder
  dsimp only
  refine .ite (.refl s) (.trans ?_ (MediaOnly.fails (.trans (Keeps.foldl (fun s k => MediaOnly.moveSlot s k) _ _) (MediaOnly.decoderObjects _))))
  exact .trans (MediaOnly.update s _).fails (MediaFails.raiseCore _ _ _ _ _)

end Slots

/-! ### The Groomer's jobs (R279 to R286) -/

section Jobs

variable (s : State)

theorem MediaOnly.jobDone (plain coded : Nat) (gain : Bool) : MediaOnly s (s.jobDone plain coded gain) := by
  unfold State.jobDone
  dsimp only
  refine .trans ?_ (.ite (.refl _) (MediaOnly.bump _ _ _))
  exact .trans (.trans (MediaOnly.bump s _ _) (MediaOnly.bump _ _ _)) (MediaOnly.bump _ _ _)

theorem MediaOnly.nextClient : MediaOnly s s.nextClient := MediaOnly.update s _

theorem MediaFails.verifyFails : MediaFails s s.verifyFails :=
  .trans (MediaOnly.fails (.trans (MediaOnly.bump s 0x3C000D 1) (MediaOnly.update _ _))) (MediaFails.raiseCore _ _ _ _ _)

theorem MediaFails.finishHostJob (failed : List Nat) : MediaFails s (s.finishHostJob failed) := by
  unfold State.finishHostJob
  split
  · exact .refl s
  next j _ =>
    refine .trans (MediaOnly.update s { s.media with groomer := { s.media.groomer with job := none } }).fails (.ite ?_ ?_)
    · refine .trans (MediaOnly.fails ?_) (Keeps.foldl (fun s _ => MediaFails.verifyFails s) _ _)
      exact .trans (MediaOnly.jobDone _ _ _ _) (.ite (.trans (MediaOnly.put _ _ _) (MediaOnly.putDom _ _ _)) (MediaOnly.put _ _ _))
    · split
      · exact MediaOnly.fails (.trans (.trans (MediaOnly.jobDone _ _ _ _) (MediaOnly.put _ _ _)) (MediaOnly.putDom _ _ _))
      · exact MediaOnly.fails (.trans (.trans (MediaOnly.bump _ _ _) (MediaOnly.bump _ _ _)) (MediaOnly.put _ _ _))

theorem MediaFails.finishBeaconJob (e : Entry) (failed : List Nat) : MediaFails s (s.finishBeaconJob e failed) := by
  unfold State.finishBeaconJob
  dsimp only
  refine .trans ?_ (Keeps.foldl (fun s _ => MediaFails.verifyFails s) _ _)
  exact .trans (MediaOnly.jobDone s _ _ _).fails (.of_view rfl fun _ => rfl)

theorem MediaFails.finishJob (report : JobReport) : MediaFails s (s.finishJob report) := by
  unfold State.finishJob
  refine .ite (.refl s) (.ite ?_ (.ite (.trans (MediaFails.finishHostJob s _) (MediaOnly.nextClient _).fails) (.refl s)))
  split
  · exact .trans (MediaFails.finishBeaconJob s _ _) (MediaOnly.nextClient _).fails
  · exact .refl s

end Jobs

/-! ### The flat outputs (R298 to R302) -/

section Flats

variable (s : State)

theorem MediaOnly.setFlat (k : Nat) (f : FlatOut) : MediaOnly s (s.setFlat k f) := MediaOnly.update s _

theorem MediaOnly.scansFrom (k line : Nat) : MediaOnly s (s.scansFrom k line) := MediaOnly.setFlat s _ _

theorem MediaOnly.startVideo (k : Nat) : MediaOnly s (s.startVideo k) :=
  .ite (.refl s) (.trans (MediaOnly.put s _ _) (MediaOnly.scansFrom _ _ _))

theorem MediaOnly.trainFlat (k : Nat) (ok : Bool) : MediaOnly s (s.trainFlat k ok) := by
  unfold State.trainFlat
  dsimp only
  refine .trans (.of_view (u := { s with out := s.out ++ (s.trainingSteps k).map fun n => Out.aux k n }) rfl fun _ => rfl) (.ite ?_ ?_)
  · exact .trans (.trans (MediaOnly.setFlat _ _ _) (MediaOnly.startVideo _ _)) (MediaOnly.settle _ _ _ _)
  · exact .trans (.trans (MediaOnly.setFlat _ _ _) (MediaOnly.put _ _ _)) (MediaOnly.onset _ (by decide) _)

/-- The staged set with the surface's format takes effect where its commit waits (R301). -/
def State.scanCommitted (s : State) (k : Nat) : State :=
  let f := s.flat k
  if f.scanCommit then
    let s := s.applyPending fun key => [6, 7, 8, 9].any fun sub => key == flatK k sub
    s.setFlat k { f with
      scanCommit := false
      latched := some (s.get (flatK k 6), s.get (flatK k 7), s.get (flatK k 8), s.get (flatK k 9), s.get (surfaceK (s.get (flatK k 7)) 1)) }
  else s

theorem MediaOnly.latchScan (k : Nat) : MediaOnly s (s.latchScan k) := by
  unfold State.latchScan
  dsimp only
  have hcommit : MediaOnly s (s.scanCommitted k) := .ite (.trans (MediaOnly.applyPending s _) (MediaOnly.setFlat _ _ _)) (.refl s)
  split
  · exact hcommit.trans (MediaOnly.setFlat _ _ _)
  · exact hcommit

theorem MediaOnly.applyTiming (k : Nat) : MediaOnly s (s.applyTiming k) := by
  unfold State.applyTiming
  dsimp only
  refine .trans (.trans (MediaOnly.applyPending s fun key => key == flatK k 4) (MediaOnly.setFlat _ k
    { (s.applyPending fun key => key == flatK k 4).flat k with timingCommit := false, timingReady := false })) ?_
  exact .ite (.refl _) (.ite (MediaOnly.scansFrom _ _ _) (.trans (MediaOnly.put _ _ _) (MediaOnly.setFlat _ _ _)))

theorem MediaOnly.changeHpd (k : Nat) (high trained : Bool) : MediaOnly s (s.changeHpd k high trained) := by
  unfold State.changeHpd
  refine .trans (MediaOnly.setFlat s k { s.flat k with hpd := high }) (.ite (.ite ?_ (.ite (.refl _) ?_)) (.refl _))
  · exact .trans (MediaOnly.settle _ _ _ _) (.ite (MediaOnly.trainFlat _ _ _) (.refl _))
  · exact .trans (.trans (MediaOnly.setFlat _ _ _) (.ite (MediaOnly.put _ _ _) (.refl _))) (MediaOnly.onset _ (by decide) _)

theorem MediaOnly.irqHpd (k : Nat) (lost trained : Bool) : MediaOnly s (s.irqHpd k lost trained) :=
  .ite (MediaOnly.trainFlat s _ _) (.refl s)

theorem MediaOnly.retryFlat (k : Nat) (trained : Bool) : MediaOnly s (s.retryFlat k trained) := by
  unfold State.retryFlat
  split
  · exact .ite (MediaOnly.trainFlat s _ _) (.refl s)
  · exact .refl s

theorem MediaOnly.latchFrame (k : Nat) : MediaOnly s (s.latchFrame k) := by
  unfold State.latchFrame
  dsimp only
  refine .ite (.refl s) (.trans ?_ (.ite (MediaOnly.settle _ _ _ _) (.ite (MediaOnly.onset _ (by decide) _) (.refl _))))
  exact .trans (.trans (.trans (MediaOnly.latchScan s k) (MediaOnly.setFlat _ _ _)) (MediaOnly.bump _ _ _)) (MediaOnly.put _ _ _)

theorem MediaOnly.underrun (k line pixel : Nat) : MediaOnly s (s.underrun k line pixel) :=
  .ite (.trans (MediaOnly.bump s _ _) (MediaOnly.setFlat _ _ _)) (.refl s)

end Flats

/-- Settles O58: the media units, objects, reports and the run state of layers alone are changed. -/
theorem outputsLeaveTheOtherUnits : Obligations.OutputsLeaveTheOtherUnits := by
  intro s s' t n line pixel good u a b failures h
  rw [exec_pictureDecode, exec_slotStarved, exec_cycleBudgetOverrun, exec_decoderCoreFail, exec_groomerJobComplete, exec_flatTrainingRetry,
    exec_hpdChange, exec_irqHpd, exec_scanLatch, exec_timingApply, exec_underrunLine, exec_sealDeadline] at h
  obtain ⟨f, rfl, hkeeps⟩ : ∃ f : State → State, s' = s.finish t f ∧ OutputsOnly (s.begin t) (f (s.begin t)) := by
    rcases h with h | h | h | h | h | h | h | h | h | h | h | h
    · exact ⟨_, eq_finish_of_actIf h, .trans (MediaOnly.decodePicture _ n u).outputs (OutputsOnly.unstale _)⟩
    · exact ⟨_, eq_finish_of_actIf h, (MediaOnly.starve _ n).outputs⟩
    · exact ⟨_, eq_finish_of_actIf h, .trans (MediaOnly.overrun _ n u good).outputs (OutputsOnly.unstale _)⟩
    · exact ⟨_, eq_finish_of_actIf h, (MediaFails.failDecoder _ n).outputs⟩
    · exact ⟨_, eq_finish_of_act h, (MediaFails.finishJob _ failures).outputs⟩
    · exact ⟨_, eq_finish_of_actIf h, (MediaOnly.retryFlat _ n a).outputs⟩
    · exact ⟨_, eq_finish_of_actIf h, (MediaOnly.changeHpd _ n a b).outputs⟩
    · exact ⟨_, eq_finish_of_actIf h, (MediaOnly.irqHpd _ n a b).outputs⟩
    · exact ⟨_, eq_finish_of_actIf h, (MediaOnly.latchFrame _ n).outputs⟩
    · exact ⟨_, eq_finish_of_actIf h, .ite (MediaOnly.applyTiming _ n).outputs (.refl _)⟩
    · exact ⟨_, eq_finish_of_actIf h, (MediaOnly.underrun _ n line pixel).outputs⟩
    · exact ⟨_, eq_finish_of_actIf h, .ite (MediaOnly.onset _ (by decide) n).outputs (.refl _)⟩
  have hlayers : (s.finish t f).scene = { s.scene with layers := (s.finish t f).scene.layers } := by
    rw [State.finish_scene]
    exact scene_of_layers (congrArg State.scene hkeeps.1)
  have hburnR : (f (s.begin t)).burnR = s.burnR := hkeeps.field_of fun _ => rfl
  have hburnD : (f (s.begin t)).burnD = s.burnD := hkeeps.field_of fun _ => rfl
  refine ⟨hkeeps.finish_field (fun _ => rfl) (by simp) rfl, hkeeps.finish_field (fun _ => rfl) (by simp) rfl,
    hkeeps.finish_field (fun _ => rfl) (by simp) rfl, hkeeps.finish_field (fun _ => rfl) (by simp) rfl, hlayers,
    hkeeps.finish_field (fun _ => rfl) (by simp) rfl, hkeeps.finish_field (fun _ => rfl) (by simp) rfl,
    hkeeps.finish_field (fun _ => rfl) (by simp) rfl, hkeeps.finish_field (fun _ => rfl) (by simp) rfl,
    hkeeps.finish_field (fun _ => rfl) (by simp) rfl, hkeeps.finish_field (fun _ => rfl) (by simp) rfl,
    hkeeps.finish_field (fun _ => rfl) (by simp) rfl, fun k => ?_, fun k => ?_⟩
  · rw [State.finish_lookup_burnR, hburnR]
  · rw [State.finish_lookup_burnD, hburnD]

end Sys2Proof.Machine
end

section
set_option Elab.async false
/-!
PROOFS. Full reset requests and function resets (R61, R63, R64; O19).
-/

namespace Sys2Proof.Machine

/-! ### What the enables of a usable function bring (R61) -/

section Enables

variable (s : State)

/-- The media units, the network and the carvers alone, and objects and reports, are changed. -/
abbrev EnablesOnly (s u : State) : Prop := Keeps (fun s => { s.sansMedia with net := {}, lift := {} }) noObjects s u

theorem MediaOnly.enables {s u : State} (h : MediaOnly s u) : EnablesOnly s u :=
  .of_view (congrArg (fun s : State => { s with net := {}, lift := {} }) h.1) fun _ => rfl

theorem MediaOnly.startPort (p : Nat) : MediaOnly s (s.startPort p) :=
  .trans (.trans (MediaOnly.put s _ _) (MediaOnly.put _ _ _)) (MediaOnly.setCam _ _ _)

theorem MediaOnly.stopPort (p : Nat) : MediaOnly s (s.stopPort p) :=
  .trans (.trans (.trans (MediaOnly.put s _ _) (MediaOnly.put _ _ _)) (MediaOnly.setCam _ _ _)) (MediaOnly.cciAll _)

theorem MediaOnly.settlePort (p : Nat) : MediaOnly s (s.settlePort p) :=
  .ite (.refl s) (.ite (.ite (MediaOnly.startPort s p) (.refl s)) (.ite (.refl s) (MediaOnly.stopPort s p)))

theorem MediaOnly.endSegment (n flags : Nat) : MediaOnly s (s.endSegment n flags) := .ite (.refl s) (MediaOnly.setStream s _ _)

theorem MediaOnly.newChain (n : Nat) : MediaOnly s (s.newChain n) := by
  unfold State.newChain
  dsimp only
  refine .trans (.trans (MediaOnly.endSegment s n 0) (MediaOnly.setStream _ n
    { (s.endSegment n 0).stream n with reference := none, motion := [], motionPrev := [], motionFor := none })) ?_
  exact .ite (.refl _) (.trans (.trans (MediaOnly.draw _) (MediaOnly.put _ _ _)) (MediaOnly.setStream _ _ _))

theorem MediaOnly.startStream (n : Nat) : MediaOnly s (s.startStream n) :=
  .trans (.trans (.trans (MediaOnly.put s _ _) (MediaOnly.setStream _ _ _)) (MediaOnly.newChain _ _)) (MediaOnly.requestMotion _ _)

theorem MediaOnly.stopStream (n : Nat) : MediaOnly s (s.stopStream n) :=
  .ite (.trans (.trans (MediaOnly.setStream s _ _) (MediaOnly.endSegment _ _ _)) (MediaOnly.put _ _ _))
    (.trans (MediaOnly.setStream s _ _) (MediaOnly.put _ _ _))

theorem MediaOnly.settleStream (n : Nat) : MediaOnly s (s.settleStream n) :=
  .ite (.refl s) (.ite (.ite (MediaOnly.startStream s n) (.refl s)) (.ite (.refl s) (MediaOnly.stopStream s n)))

theorem MediaOnly.restartFlat (k : Nat) (retrain : Bool) : MediaOnly s (s.restartFlat k retrain) :=
  .ite (.refl s) (.ite (MediaOnly.put s _ _) (.ite (MediaOnly.put s _ _) (.ite (MediaOnly.startVideo s k)
    (.trans (MediaOnly.put s _ _) (MediaOnly.setFlat _ _ _)))))

theorem MediaOnly.settleFlat (k : Nat) : MediaOnly s (s.settleFlat k none) := by
  unfold State.settleFlat
  refine .ite (.refl s) (.ite (.ite (MediaOnly.restartFlat s _ _) (.ite (MediaOnly.restartFlat s _ _) (.ite (.refl s) ?_))) (.ite (.refl s) ?_))
  · exact .trans (MediaOnly.setFlat s _ _) (MediaOnly.restartFlat _ _ _)
  · exact .trans (MediaOnly.setFlat s _ _) (MediaOnly.put _ _ _)

theorem MediaOnly.completeBlit (skipped : Bool) : MediaOnly s (s.completeBlit skipped) :=
  .trans (MediaOnly.putDom s 0x430004 _) (.ite (.trans (.trans (MediaOnly.put _ _ _) (MediaOnly.put _ _ _)) (MediaOnly.update _ _))
    (.trans (.trans (MediaOnly.put _ _ _) (MediaOnly.bump _ _ _)) (MediaOnly.update _ _)))

theorem MediaOnly.reachWaits (n : Nat) : MediaOnly s (reachWaits n s) := by
  induction n generalizing s with
  | zero => exact .refl s
  | succ n ih =>
    unfold Sys2Proof.Machine.reachWaits
    split
    · exact .refl s
    · exact .ite (.refl s) (.ite (MediaOnly.update s _) (.trans (MediaOnly.completeBlit s true) (ih _)))

theorem MediaOnly.resumeList : MediaOnly s s.resumeList := .ite (.trans (MediaOnly.put s _ _) (MediaOnly.reachWaits _ _)) (.refl s)

theorem EnablesOnly.setTimeOut (n : Nat) (o : TimeOut) : EnablesOnly s (s.setTimeOut n o) := .of_view rfl fun _ => rfl

theorem EnablesOnly.fireOut (n at_ : Nat) (late : Bool) : EnablesOnly s (s.fireOut n at_ late) :=
  .trans (EnablesOnly.setTimeOut s n _) (MediaOnly.enables (.trans (.trans (MediaOnly.put _ _ _) (MediaOnly.update _ _)) (MediaOnly.send _ _)))

/-- A pulse whose width has passed ends (R373). -/
def State.pulseEnded (s : State) (n : Nat) : State :=
  let o := s.timeOut n
  if o.active && decide (o.pulseEnd ≤ s.now) then (s.setTimeOut n { o with active := false }).send (.pin (.timeOut n) (o.polarity == 1)) else s

/-- An instant that has come drives its edge (R373). -/
def State.edgeDriven (s : State) (n : Nat) : State :=
  if (s.timeOut n).active || !s.outRuns n then s
  else match s.edgeDue (s.timeOut n) with
    | some (at_, late) => s.fireOut n at_ late
    | none => s

theorem State.outEdge_eq (n : Nat) : s.outEdge n = (s.pulseEnded n).edgeDriven n := rfl

theorem EnablesOnly.pulseEnded (n : Nat) : EnablesOnly s (s.pulseEnded n) :=
  .ite (.trans (EnablesOnly.setTimeOut s _ _) (MediaOnly.send _ _).enables) (.refl s)

theorem EnablesOnly.edgeDriven (n : Nat) : EnablesOnly s (s.edgeDriven n) := by
  unfold State.edgeDriven
  refine .ite (.refl s) ?_
  split
  · exact EnablesOnly.fireOut s _ _ _
  · exact .refl s

theorem EnablesOnly.outEdge (n : Nat) : EnablesOnly s (s.outEdge n) := by
  rw [State.outEdge_eq]
  exact .trans (EnablesOnly.pulseEnded s n) (EnablesOnly.edgeDriven _ n)

theorem EnablesOnly.applyOutput (n : Nat) : EnablesOnly s (s.applyOutput n) := by
  unfold State.applyOutput
  dsimp only
  refine .trans ?_ (.ite (EnablesOnly.outEdge _ _) (.refl _))
  exact .trans (EnablesOnly.setTimeOut s _ _) (.ite (.refl _) (MediaOnly.send _ _).enables)

theorem EnablesOnly.settleOutput (n : Nat) : EnablesOnly s (s.settleOutput n) := .ite (EnablesOnly.applyOutput s n) (.refl s)

theorem EnablesOnly.settleEnables : EnablesOnly s s.settleEnables := by
  unfold State.settleEnables
  dsimp only
  refine .trans (.trans (MediaOnly.enables ?_) (Keeps.foldl (fun s n => EnablesOnly.settleOutput s n) _ _)) (MediaOnly.cciAll _).enables
  refine .trans (.trans ?_ (Keeps.foldl (fun s k => MediaOnly.settleFlat s k) _ _)) (MediaOnly.resumeList _)
  refine .trans ?_ (Keeps.foldl (fun s k => MediaOnly.settleSlot s k) _ _)
  exact .trans (Keeps.foldl (fun s p => MediaOnly.settlePort s p) _ s) (Keeps.foldl (fun s n => MediaOnly.settleStream s n) _ _)

theorem EnablesOnly.setCarver (i : Nat) (c : Carver) : EnablesOnly s (s.setCarver i c) := .of_view rfl fun _ => rfl

theorem EnablesOnly.tuneCarver (i : Nat) : EnablesOnly s (s.tuneCarver i) :=
  .ite (.trans (EnablesOnly.setCarver s _ _) (MediaOnly.nextPlacement _).enables) (.ite (EnablesOnly.setCarver s _ _) (.ite (.refl s)
    (.ite (EnablesOnly.setCarver s _ _) (.trans (EnablesOnly.setCarver s _ _) (MediaOnly.nextPlacement _).enables))))

theorem EnablesOnly.applyCap : EnablesOnly s s.applyCap := .ite (Keeps.foldl (fun s i => EnablesOnly.tuneCarver s i) _ s) (.refl s)

end Enables

theorem EnablesOnly.stages {s u : State} (h : EnablesOnly s u) : u.stages = s.stages := h.field_of fun _ => rfl

theorem EnablesOnly.link {s u : State} (h : EnablesOnly s u) : u.link = s.link := h.field_of fun _ => rfl

/-! ### Function resets (R64) -/

theorem State.abortIntake_stages (s : State) : s.abortIntake.stages = s.stages := by
  have h (l : List Staged) (s : State) : (l.foldl (fun s w => s.replyStaged w 0x08000022) s).stages = s.stages := by
    induction l generalizing s with
    | nil => rfl
    | cons w l ih =>
      rw [List.foldl_cons, ih]
      unfold State.replyStaged
      split
      · split
        · exact State.reply_stages _ _ _ _ _
        · rfl
      · exact State.reply_stages _ _ _ _ _
  exact h _ _

theorem State.stopPanel_stages (s : State) : s.stopPanel.stages = s.stages := rfl

theorem State.dropPanel_stages (s : State) : s.dropPanel.stages = s.stages := by
  unfold State.dropPanel
  dsimp only
  split <;> rfl

/-- The work that a reset discards leaves every function where it is. -/
theorem State.dropWork_stages (s : State) (n : Nat) : (s.dropWork n).stages = s.stages := by
  unfold State.dropWork
  split
  · rfl
  · rfl
  · exact EnablesOnly.stages (Keeps.foldl (fun s n => (MediaOnly.newChain s n).enables) _ s)
  · rfl
  · unfold State.endHostJob
    split <;> rfl
  · rfl
  · exact (State.stopPanel_stages _).trans (State.dropPanel_stages s)
  · dsimp only
    split <;> rfl
  · unfold State.resetFlats
    dsimp only
    refine EnablesOnly.stages (MediaOnly.enables (.trans ?_ (Keeps.foldl (fun s k => MediaOnly.restartFlat s k true) _ _)))
    exact .trans (.ite (MediaOnly.put s _ _) (.refl s)) (MediaOnly.update _ _)
  · rfl

theorem State.nth_stage_self {s : State} {n : Nat} (h : n < s.stages.length) (x : Stage) : nth (s.stage n x).stages n .off = x :=
  nth_setNth_self h x .off

theorem lt_of_stage {s : State} {n : Nat} (h : nth s.stages n .off ≠ .off) : n < s.stages.length := by
  by_contra hn
  exact h (by simp [nth, List.getElem?_eq_none (Nat.not_lt.1 hn)])

theorem State.resetFunction_stage {s : State} {n : Nat} (h : n < s.stages.length) : nth (s.resetFunction n).stages n .off = .resetting :=
  State.nth_stage_self (s := s.dropWork n) (by rwa [State.dropWork_stages]) .resetting

/-- A function reset that is written makes its function Resetting, DOMAIN intake given up before the Groomer's (R64, R284). -/
theorem State.effect_functionReset_stage {s : State} {n v : Nat} (hv : v = n) (h : n < s.stages.length) :
    nth (s.effect 0x202002 v {}).stages n .off = .resetting := by
  subst hv
  show nth ((if v = 8 then s.abortIntake else s).resetFunction v).stages v .off = .resetting
  refine State.resetFunction_stage ?_
  split
  · rwa [State.abortIntake_stages]
  · exact h

theorem State.abandonCalibration_now (s : State) : s.abandonCalibration.now = s.now := by
  unfold State.abandonCalibration
  split
  · exact (State.beaconAdd_now _ _ _ _ _).trans (State.raise_now _ _ _ _)
  · rfl

/-- A full reset that is acknowledged is noted with its instant (R63). -/
theorem State.requestReset_at (s : State) : s.requestReset.ctl.fullResetAt = some s.now :=
  congrArg some ((State.beaconAdd_now _ _ _ _ _).trans s.abandonCalibration_now)

theorem State.completeFunctionReset_stage {s : State} {n : Nat} (h : nth s.stages n .off = .resetting) (hn : n ≠ 0xA) :
    nth (s.completeFunctionReset n).stages n .off = .up := by
  have hup := State.nth_stage_self (lt_of_stage (n := n) (by rw [h]; decide)) .up
  unfold State.completeFunctionReset
  rw [h, if_neg (by decide), if_neg hn]
  dsimp only
  split
  · rw [(EnablesOnly.applyCap _).stages, hup]
  · exact hup

theorem State.applyMap_training (s : State) : s.applyMap.link.step = s.link.step ∧ s.applyMap.link.trained = s.link.trained := by
  unfold State.applyMap
  split
  · exact ⟨rfl, rfl⟩
  · dsimp only
    split_ifs <;> exact ⟨rfl, rfl⟩

theorem State.burst_step (s : State) (lanes : List Nat) : (s.burst lanes).link.step = s.link.step := (s.burstOut lanes).applyMap_training.1

theorem State.burst_trained (s : State) (lanes : List Nat) : (s.burst lanes).link.trained = s.link.trained :=
  (s.burstOut lanes).applyMap_training.2

/-- The panel link trains again. -/
theorem State.beginTraining_begun {s : State} (h : 0xA < s.stages.length) (state : Nat) : nth (s.beginTraining state).stages 0xA .off = .starting
    ∧ (s.beginTraining state).link.step = 1 ∧ (s.beginTraining state).link.trained = false := by
  refine ⟨?_, ?_, ?_⟩
  · unfold State.beginTraining
    dsimp only
    rw [State.burst_stages, State.driveOnly_stages, State.put_stages]
    exact State.nth_stage_self (s := { s with link := _ }) h _
  · exact State.burst_step _ _
  · exact State.burst_trained _ _

/-- Settles O19, request by request and completion by completion. -/
theorem resetRequestsAreTaken : Obligations.ResetRequestsAreTaken := by
  refine ⟨fun s t p hp => ⟨fun v htakes => ?_, fun n hn hlt htakes => ?_⟩, fun s t n hn hstage => ⟨fun hne => ?_, fun ha => ?_⟩⟩
  · have hrun : (s.begin t).access p 0x202001 (leBytes 4 v) = _ := State.access_effect (by decide +kernel) hp htakes false {} rfl
    rw [exec_fullReset]
    refine answers_act ⟨State.finish_taken_answered hrun, ?_⟩
    rw [State.finish_fullResetAt, hrun, State.reply_ctl]
    exact (State.requestReset_at _).trans (congrArg some (State.heard_now _ _))
  · have hrun : (s.begin t).access p 0x202002 (leBytes 1 n) = _ := State.access_effect (by decide +kernel) hp htakes false {} rfl
    rw [exec_functionReset]
    refine answers_act ⟨State.finish_taken_answered hrun, ?_⟩
    rw [State.finish_stages, hrun, State.reply_stages]
    exact State.effect_functionReset_stage (by rw [leNat_leBytes]; omega) (by rwa [State.heard_stages])
  · rw [exec_functionResetComplete]
    refine answers_actIf (decide_eq_true hn) ?_
    rw [State.finish_stages, (EnablesOnly.settleEnables _).stages]
    exact State.completeFunctionReset_stage (s := s.begin t) hstage hne
  · subst ha
    have hbegun := State.beginTraining_begun (s := s.begin t) (lt_of_stage (by rw [State.begin_stages, hstage]; decide)) 1
    have hrun : (s.begin t).completeFunctionReset 0xA = (s.begin t).beginTraining 1 := by
      unfold State.completeFunctionReset
      rw [State.begin_stages, hstage]
      rfl
    rw [exec_functionResetComplete]
    refine answers_actIf (decide_eq_true hn) ?_
    rw [State.finish_stages, State.finish_link, (EnablesOnly.settleEnables _).stages, (EnablesOnly.settleEnables _).link, hrun]
    exact hbegun

end Sys2Proof.Machine
end

section
set_option Elab.async false
/-!
PROOFS. Power states and power failure (R25 to R31, R425 to R428; O20, O21).
-/

namespace Sys2Proof.Machine

/-! ### What keeps the power state -/

section Power

variable (s : State)

/-- The power state but for the PLLs and the return to Run under way. -/
def State.powerView (s : State) : State := { power := { s.power with plls := [], locking := [], leavingHold := false } }

/-- The power state is changed in its PLLs at most. -/
abbrev PowerKept (s u : State) : Prop := Keeps State.powerView noObjects s u

theorem PowerKept.of_power {s u : State} (h : u.power = s.power) : PowerKept s u :=
  .of_view (by unfold State.powerView; rw [h]) fun _ => rfl

theorem PowerKept.phase {s u : State} (h : PowerKept s u) : u.power.phase = s.power.phase :=
  h.field_of (field := fun s : State => s.power.phase) fun _ => rfl

theorem EnablesOnly.power {s u : State} (h : EnablesOnly s u) : u.power = s.power :=
  h.field_of (field := fun s : State => s.power) fun _ => rfl

theorem EnablesOnly.powerKept {s u : State} (h : EnablesOnly s u) : PowerKept s u := PowerKept.of_power h.power

theorem MediaOnly.powerKept {s u : State} (h : MediaOnly s u) : PowerKept s u := h.enables.powerKept

theorem State.needPll_powerView (d : PllDomain) (b : Bool) : (s.needPll d b).powerView = s.powerView := by
  unfold State.needPll
  split_ifs <;> rfl

theorem State.setPhase_power (ph : Phase) : (s.setPhase ph).power = { s.power with phase := ph } := by
  unfold State.setPhase
  dsimp only
  split
  · rfl
  · exact State.beaconAdd_power _ _ _ _ _

theorem PowerKept.needPll (d : PllDomain) (b : Bool) : PowerKept s (s.needPll d b) := .of_view (s.needPll_powerView d b) fun _ => rfl

theorem PowerKept.stopPlls : PowerKept s s.stopPlls :=
  .trans (.of_view rfl fun _ => rfl) (Keeps.foldl (fun s d => PowerKept.needPll s d false) _ _)

theorem MediaOnly.haltMedia : MediaOnly s s.haltMedia := by
  unfold State.haltMedia
  dsimp only
  refine .trans (.trans (u := s.haltCameras) (MediaOnly.update s _) (.ite (MediaOnly.put _ _ _) (.refl _))) (Keeps.foldl (fun s k => ?_) _ _)
  exact .ite (.trans (MediaOnly.put s _ _) (MediaOnly.setFlat _ _ _)) (.refl s)

/-- The carvers and the media stop. -/
theorem State.stopped_power : (s.stopCarvers.haltMedia).power = s.power := (MediaOnly.haltMedia s.stopCarvers).enables.power

/-! ### What a recognised power failure leaves of the power state (R416) -/

theorem State.calibrationEntry_power (a b c d e f : Nat) (l : Bytes) : (s.calibrationEntry a b c d e f l).power = s.power :=
  State.beaconAdd_power _ _ _ _ _

theorem State.endAbandoned_power (r : CalRun) : (s.endCalibration r 4 0).power = s.power := by
  exact (State.calibrationEntry_power _ _ _ _ _ _ _ _).trans (State.raise_power _ _ _ _)

theorem State.abandonCalibration_power : s.abandonCalibration.power = s.power := by
  unfold State.abandonCalibration
  split
  · exact s.endAbandoned_power _
  · rfl

theorem State.spoilBurn_power : s.spoilBurn.power = s.power := by
  unfold State.spoilBurn
  split
  · rfl
  · dsimp only
    split
    · rfl
    · exact State.raise_power _ _ _ _

theorem PowerKept.replyStaged (w : Staged) (code : Nat) : PowerKept s (s.replyStaged w code) := by
  unfold State.replyStaged
  refine PowerKept.of_power ?_
  split
  · split
    · exact State.reply_power _ _ _ _ _
    · rfl
  · exact State.reply_power _ _ _ _ _

theorem PowerKept.stopInstall : PowerKept s s.stopInstall := by
  unfold State.stopInstall
  split
  · exact .refl s
  · dsimp only
    refine .trans (PowerKept.of_power ?_) (PowerKept.replyStaged _ _ _)
    exact State.calibrationEntry_power _ _ _ _ _ _ _ _

theorem PowerKept.endHostJob : PowerKept s s.endHostJob := by
  unfold State.endHostJob
  split
  · exact .refl s
  · exact MediaOnly.powerKept (.trans (.trans (MediaOnly.update s _) (MediaOnly.put _ _ _)) (MediaOnly.nextClient _))

theorem PowerKept.abortIntake : PowerKept s s.abortIntake :=
  .trans (.trans (u := { s with ctl := { s.ctl with staged := s.ctl.staged.filter fun w => !looseBulk w.data } }) (PowerKept.of_power rfl)
    (Keeps.foldl (fun s w => PowerKept.replyStaged s w _) _ _)) (MediaOnly.nextClient _).powerKept

theorem MediaOnly.makeSeal (n : Nat) (flush : Bool) : MediaOnly s (s.makeSeal n flush) := by
  unfold State.makeSeal
  dsimp only
  split
  · exact .refl s
  · refine .trans ?_ (.ite (MediaOnly.settle _ _ _ _) (.refl _))
    refine .trans ?_ (Reported.beaconAdd _ _ _ _ _).media
    refine .trans ?_ (MediaOnly.setStream _ _ _)
    exact .trans (.trans (.trans (MediaOnly.putDom s _ _) (MediaOnly.put _ _ _)) (MediaOnly.bump _ _ _)) (MediaOnly.put _ _ _)

theorem MediaOnly.sealAtPfail : MediaOnly s s.sealAtPfail :=
  Keeps.foldl (fun s n => .ite (.trans (MediaOnly.endSegment s n 32) (Keeps.foldl (fun s _ => MediaOnly.makeSeal s n true) _ _)) (.refl s)) _ s

/-- The journal and the Beacon alone are changed. -/
abbrev JournalOnly (s u : State) : Prop := Keeps (fun s => { s.core with nv := {}, now := s.now }) (fun _ => true) s u

theorem JournalOnly.writeEntry (e : Entry) : JournalOnly s (s.writeEntry e) := by
  unfold State.writeEntry
  exact .ite (.of_regs rfl rfl) (.of_regs rfl rfl)

theorem JournalOnly.flush : JournalOnly s s.flush := by
  unfold State.flush
  refine .ite (.refl s) (.trans (Keeps.foldl (fun s e => JournalOnly.writeEntry s e) (flushOrder s.beacon.pending) s) (.of_regs rfl rfl))

theorem State.flush_power : s.flush.power = s.power := (JournalOnly.flush s).field_of (field := fun s : State => s.power) fun _ => rfl

theorem PowerKept.applyLevel : PowerKept s s.applyLevel :=
  .trans (PowerKept.of_power (by simp only [State.put_power])) (EnablesOnly.applyCap _).powerKept

/-- A power failure is counted; a calibration run or a burn under way ends. -/
def State.failureCounted (s : State) : State :=
  let s := ((if s.get 0x213001 = 2 then s else s.put 0x213001 1).bump 0x213002).abandonCalibration
  match s.cal.burning with
  | some (g, _) => s.spoilBurn.calibrationEntry 2 3 0 0 g 0 []
  | none => s

/-- A power failure is a cause of Hold from now on. -/
def State.failureNoted (s : State) : State :=
  { s with power := { s.power with pfailAt := some s.now, pfailHold := true, pfailLow := true, pfailFromRun := s.fromRun } }

/-- A power failure brings the limit down and is entered in the Beacon. -/
def State.failureEntered (s : State) : State :=
  let waiting := pendingBytes s.beacon.pending
  ((s.put 0x211002 6000).put 0x211008 (s.get 0x211008 ||| 4)).beaconAdd 0x0A 2 (leBytes 8 s.ptp ++ leBytes 4 waiting) []

/-- What a power failure ends and writes once Hold is entered. -/
def State.failureSecured (s : State) : State :=
  let s := (s.applyLevel).stopInstall.endHostJob.abortIntake
  let s := s.sealAtPfail.flush
  let (s, d) := s.draw
  s.put 0x22100E (d % 5001)

theorem State.powerFails_eq : s.powerFails = s.failureCounted.failureNoted.failureEntered.enterHold.failureSecured := by
  unfold State.powerFails State.failureSecured State.failureEntered State.failureNoted State.failureCounted
  rfl

theorem State.failureCounted_now : s.failureCounted.now = s.now := by
  have hpre : (((if s.get 0x213001 = 2 then s else s.put 0x213001 1).bump 0x213002).abandonCalibration).now = s.now := by
    rw [State.abandonCalibration_now, State.bump_now]
    split_ifs <;> rfl
  unfold State.failureCounted
  dsimp only
  split
  · refine (State.beaconAdd_now _ _ _ _ _).trans (Eq.trans ?_ hpre)
    unfold State.spoilBurn
    split
    · rfl
    · dsimp only
      split
      · rfl
      · exact State.raise_now _ _ _ _
  · exact hpre

theorem State.failureCounted_power : s.failureCounted.power = s.power := by
  have hpre : (((if s.get 0x213001 = 2 then s else s.put 0x213001 1).bump 0x213002).abandonCalibration).power = s.power := by
    rw [State.abandonCalibration_power, State.bump_power]
    split_ifs <;> rfl
  unfold State.failureCounted
  dsimp only
  split
  · exact (State.calibrationEntry_power _ _ _ _ _ _ _ _).trans ((State.spoilBurn_power _).trans hpre)
  · exact hpre

theorem State.failureEntered_power : s.failureEntered.power = s.power := State.beaconAdd_power _ _ _ _ _

theorem PowerKept.failureSecured : PowerKept s s.failureSecured := by
  have hdraw (s : State) : PowerKept s (s.draw.1.put 0x22100E (s.draw.2 % 5001)) := PowerKept.of_power rfl
  refine .trans (.trans ?_ (PowerKept.of_power (State.flush_power _))) (hdraw _)
  refine .trans ?_ (MediaOnly.sealAtPfail _).powerKept
  exact .trans (.trans (.trans (PowerKept.applyLevel s) (PowerKept.stopInstall _)) (PowerKept.endHostJob _)) (PowerKept.abortIntake _)

/-- Hold entered from Run or Hold leaves the rest of the power state but for the PLLs. -/
theorem State.enterHold_powerView {s : State} (h : s.power.phase = .run ∨ s.power.phase = .hold) :
    s.enterHold.powerView = { s.powerView with power := { s.powerView.power with phase := .hold } } := by
  unfold State.enterHold
  rcases h with h | h <;> rw [h]
  · dsimp only
    have hstop : (s.stopCarvers.haltMedia.stopPlls).powerView = s.powerView := by
      rw [(PowerKept.stopPlls _).1]
      unfold State.powerView
      rw [s.stopped_power]
    have := congrArg (fun s : State => { s with power := { s.power with phase := .hold } }) hstop
    refine Eq.trans ?_ this
    unfold State.powerView
    rw [State.setPhase_power]
  · dsimp only
    rw [(PowerKept.stopPlls s).1]
    unfold State.powerView
    rw [← h]

theorem State.failureNoted_phase : s.failureNoted.power.phase = s.power.phase := rfl

/-- A power failure in Run or Hold. -/
theorem State.powerFails_power {s : State} (h : s.power.phase = .run ∨ s.power.phase = .hold) : s.powerFails.power.phase = .hold
    ∧ s.powerFails.power.pfailHold = true ∧ s.powerFails.power.pfailLow = true ∧ s.powerFails.power.pfailAt = some s.now := by
  have hnoted : s.failureCounted.failureNoted.failureEntered.power = s.failureCounted.failureNoted.power := State.failureEntered_power _
  have hheld := State.enterHold_powerView (s := s.failureCounted.failureNoted.failureEntered)
    (by rw [hnoted, State.failureNoted_phase, State.failureCounted_power]; exact h)
  have hview := (PowerKept.failureSecured s.failureCounted.failureNoted.failureEntered.enterHold).1.trans hheld
  rw [← State.powerFails_eq] at hview
  generalize s.powerFails = u at hview ⊢
  refine ⟨congrArg (fun s : State => s.power.phase) hview, ?_, ?_, ?_⟩
  · exact (congrArg (fun s : State => s.power.pfailHold) hview).trans (congrArg (fun p : Power => p.pfailHold) hnoted)
  · exact (congrArg (fun s : State => s.power.pfailLow) hview).trans (congrArg (fun p : Power => p.pfailLow) hnoted)
  · have hat : s.failureCounted.failureNoted.power.pfailAt = some s.failureCounted.now := rfl
    refine (congrArg (fun s : State => s.power.pfailAt) hview).trans ((congrArg (fun p : Power => p.pfailAt) hnoted).trans ?_)
    rw [hat, State.failureCounted_now]

/-! ### Release of PFAIL_N (R425) -/

/-- The objects of a power failure (0x2130). -/
def pfailObjects (k : Nat) : Bool := k / 256 == 0x2130

/-- The power state is changed in its PLLs at most, and the objects of a power failure are kept. -/
abbrev FailureKept (s u : State) : Prop := Keeps State.powerView pfailObjects s u

theorem FailureKept.settleAll (fn cause : Nat) : FailureKept s (s.settleAll fn cause) :=
  ⟨congrArg State.powerView (a₁ := (s.settleAll fn cause).core) (a₂ := s.core) (Reported.settleAll s fn cause).1, fun k hk => (Reported.settleAll s fn cause).2 k (by
    have : k / 256 = 0x2130 := by simpa [pfailObjects] using hk
    simp [notReport, reportKeys]
    omega)⟩

theorem FailureKept.atConfigured : FailureKept s s.atConfigured :=
  .ite (.trans (.put (k := 0x211008) rfl s _) (FailureKept.settleAll _ _ _)) (.refl s)

theorem FailureKept.climbing : FailureKept s s.climbing := .ite (FailureKept.atConfigured s) (.put (k := 0x211008) rfl s _)

theorem FailureKept.needPll (d : PllDomain) (b : Bool) : FailureKept s (s.needPll d b) :=
  .of_regs (s.needPll_powerView d b) (by unfold State.needPll; split_ifs <;> rfl)

theorem FailureKept.tryLeaveHold : FailureKept s s.tryLeaveHold :=
  .ite (.trans (u := { s with power := { s.power with leavingHold := true } }) (.of_regs rfl rfl)
    (Keeps.foldl (fun s d => FailureKept.needPll s d true) _ _)) (.refl s)

theorem FailureKept.causeCleared (b : Bool) : FailureKept s (s.causeCleared b) := .ite (FailureKept.tryLeaveHold s) (.refl s)

/-- A release within 50 ms, once its time is kept. -/
def State.releasedInTime (s : State) : State :=
  let s := (s.put 0x213001 0).bump 0x213004
  { s with power := { s.power with pfailHold := false, pfailAt := none } }

/-- What a release in time ends: the limit climbs, and Run returns. -/
def State.failureOver (s : State) : State :=
  let s := (if s.forced then s else s.put 0x211008 (bitsClear (s.get 0x211008) 4)).climbing
  s.restartClear.causeCleared s.power.pfailFromRun

theorem FailureKept.failureOver : FailureKept s s.failureOver := by
  unfold State.failureOver
  dsimp only
  refine .trans (.trans ?_ (.of_regs rfl rfl)) (FailureKept.causeCleared _ _)
  exact .trans (.ite (.refl s) (.put (k := 0x211008) rfl s _)) (FailureKept.climbing _)

/-- PFAIL_N is high once more, and how long it was low is kept. -/
def State.pfailRisen (s : State) (a : Nat) : State :=
  ({ s with power := { s.power with pfailLow := false } }).pfailDuration a

theorem State.pfailReleased_hold {s : State} {a : Nat} (hphase : s.power.phase = .hold) (hlow : s.power.pfailLow = true)
    (hat : s.power.pfailAt = some a) : s.pfailReleased =
      if (s.pfailRisen a).get 0x213001 = 1 ∧ s.now ≤ a + 50000000 then (s.pfailRisen a).releasedInTime.failureOver
      else { (s.pfailRisen a).put 0x213001 2 with power := { (s.pfailRisen a).power with pfailHold := false } } := by
  unfold State.pfailReleased State.pfailRisen State.pfailDuration
  rw [hlow, if_neg (by decide)]
  dsimp only
  rw [hphase, hat]
  rfl

theorem State.pfailRisen_state (a : Nat) : (s.pfailRisen a).get 0x213001 = s.get 0x213001 := State.get_put_ne _ (by decide) _

theorem State.pfailRisen_count (a : Nat) : (s.pfailRisen a).get 0x213004 = s.get 0x213004 := State.get_put_ne _ (by decide) _

theorem width_pfailState : widthOf 0x213001 = 8 := by decide +kernel

theorem State.get_pfailState (v : Nat) (hv : v < 256) : (s.put 0x213001 v).get 0x213001 = v := by
  rw [State.get_put_self, width_pfailState, Nat.mod_eq_of_lt (by omega)]

theorem State.get_bump_32 {k : Nat} (hk : widthOf k = 32) : (s.bump k).get k = (s.get k + 1) % 2 ^ 32 := by
  rw [State.get_bump_self, hk]

theorem State.releasedInTime_get : s.releasedInTime.get 0x213001 = 0
    ∧ s.releasedInTime.get 0x213004 = (s.get 0x213004 + 1) % 2 ^ 32 := by
  refine ⟨?_, ?_⟩
  · exact (State.get_bump_ne _ (by decide) _).trans (State.get_pfailState _ 0 (by decide))
  · refine (State.get_bump_32 (s.put 0x213001 0) (by decide +kernel)).trans ?_
    rw [State.get_put_ne _ (by decide)]

/-- A power failure in Sleep is counted. -/
def State.sleepFailure (s : State) : State := ((s.put 0x213001 1).bump 0x213002).put 0x213005 0

theorem State.sleepFailure_get (s : State) :
    s.sleepFailure.get 0x213001 = 1 ∧ s.sleepFailure.get 0x213002 = (s.get 0x213002 + 1) % 2 ^ 32 := by
  unfold State.sleepFailure
  rw [State.get_put_ne (k := 0x213005) _ (by decide), State.get_put_ne (k := 0x213005) _ (by decide), State.get_bump_ne _ (by decide),
    State.get_bump_32 _ (by decide +kernel), State.get_put_ne (j := 0x213002) _ (by decide)]
  exact ⟨State.get_pfailState s 1 (by decide), rfl⟩

theorem State.pfailWaits_get {s : State} {a : Nat} (hlow : s.power.pfailLow = true) (hat : s.power.pfailAt = some a)
    (hstate : s.get 0x213001 = 1) (ht : a + 50000000 ≤ s.now) : s.pfailWaits.get 0x213001 = 2 := by
  unfold State.pfailWaits
  rw [hat]
  dsimp only
  rw [hlow, hstate, decide_eq_false (Nat.not_lt.mpr ht)]
  simp only [Bool.not_true, Bool.false_or, bne_self_eq_false, Bool.false_eq_true, if_false]
  split
  · exact State.get_pfailState _ 2 (by decide)
  · exact State.get_pfailState _ 2 (by decide)

end Power

/-- Settles O21, clause by clause: what PFAIL_N brings, and what short pulses leave alone. -/
theorem powerFailureIsFollowed : Obligations.PowerFailureIsFollowed := by
  refine ⟨fun s t => ⟨fun hr ho => ?_, fun hphase hheld => ?_, fun hphase hlow => ?_, fun a hphase hlow hat hstate ht => ?_,
    fun a hphase hlow hat ht => ?_, fun a hlow hat hstate ht => ?_, ?_⟩, fun s s' t w => ⟨fun hw h => ?_, fun h => ?_⟩⟩
  · rw [exec_pfailGlitch]
    refine answers_act ?_
    rw [State.get_finish _ _ _ (by decide) (by decide)]
    have hrun : (match (s.begin t).power.phase with | .reset | .off => s.begin t | _ => (s.begin t).bump 0x213003) = (s.begin t).bump 0x213003 := by
      split
      · contradiction
      · contradiction
      · rfl
    exact (congrArg (fun s : State => s.get 0x213003) hrun).trans (State.get_bump_32 _ (by decide +kernel))
  · rw [exec_pfailRecognition]
    refine answers_act ?_
    have hrun : (s.begin t).pfailRecognised = (s.begin t).powerFails := by
      unfold State.pfailRecognised
      rw [State.begin_power, hheld]
      rcases hphase with h | h <;> rw [h] <;> rfl
    rw [State.finish_power, hrun]
    exact State.powerFails_power hphase
  · have hrun : (s.begin t).pfailRecognised = { (s.begin t).sleepFailure with
        power := { s.power with pfailAt := some (max s.now t), pfailLow := true, sleepPfail := true } } := by
      unfold State.pfailRecognised
      rw [State.begin_power, hphase, hlow]
      rfl
    rw [exec_pfailRecognition]
    refine answers_act ?_
    rw [State.finish_power, State.get_finish _ _ _ (by decide) (by decide), State.get_finish _ _ _ (by decide) (by decide), hrun]
    obtain ⟨hstate, hcount⟩ := (s.begin t).sleepFailure_get
    exact ⟨hphase, (State.get_congr rfl _).trans hstate, (State.get_congr rfl _).trans hcount, rfl⟩
  · have hrun : (s.begin t).pfailReleased = (((s.begin t).pfailRisen a).releasedInTime).failureOver := by
      rw [State.pfailReleased_hold (s := s.begin t) hphase hlow hat, if_pos ⟨((s.begin t).pfailRisen_state a).trans hstate, ht⟩]
    have hover := FailureKept.failureOver (((s.begin t).pfailRisen a).releasedInTime)
    rw [exec_pfailRelease]
    refine answers_act ?_
    rw [State.finish_power, State.get_finish _ _ _ (by decide) (by decide), State.get_finish _ _ _ (by decide) (by decide), hrun,
      hover.2 _ rfl, hover.2 _ rfl, (State.releasedInTime_get _).1, (State.releasedInTime_get _).2]
    refine ⟨hover.field_of (field := fun s : State => s.power.pfailHold) fun _ => rfl,
      hover.field_of (field := fun s : State => s.power.pfailLow) fun _ => rfl, rfl, ?_⟩
    rw [State.pfailRisen_count, State.get_begin]
  · have hrun := State.pfailReleased_hold (s := s.begin t) hphase hlow hat
    rw [if_neg fun h => absurd h.2 (Nat.not_le.mpr ht)] at hrun
    rw [exec_pfailRelease]
    refine answers_act ?_
    rw [State.finish_power, State.get_finish _ _ _ (by decide) (by decide), hrun]
    exact ⟨hphase, (State.get_congr rfl _).trans (State.get_pfailState _ 2 (by decide))⟩
  · rw [exec_pfailWaitForReset]
    refine answers_act ?_
    rw [State.get_finish _ _ _ (by decide) (by decide)]
    exact State.pfailWaits_get (s := s.begin t) hlow hat hstate ht
  · rw [exec_xtalSwitch]
    refine answers_act ?_
    rw [State.get_finish _ _ _ (by decide) (by decide), State.get_put_self, show widthOf 0x213006 = 8 by decide +kernel]
    rfl
  · rw [exec_resetNAssert] at h
    rw [eq_finish_of_act h]
    have hrun : (s.begin t).resetPulse w = s.begin t := by
      unfold State.resetPulse
      rw [if_pos hw, ite_self]
    obtain ⟨hobj, hpend, hsys, hpic, hlinks⟩ := ControlOnly.onlyAnswered (s := s) (t := t)
      (f := fun s => s.resetPulse w) (by rw [hrun]; exact .refl _)
    exact ⟨hobj, hpend, hsys, hpic, hlinks⟩
  · obtain ⟨f, rfl, r, hr, hrun⟩ : ∃ f : State → State, s' = s.finish t f ∧ ∃ r, (∀ k, k ≠ 0x213003 → k ≠ 0x213006 →
        ({ s with regs := r } : State).get k = s.get k) ∧ f (s.begin t) = { s.begin t with regs := r } := by
      rw [exec_pfailGlitch, exec_xtalSwitch] at h
      rcases h with h | h
      · refine ⟨_, eq_finish_of_act h, ?_⟩
        dsimp only
        split
        · exact ⟨s.regs, fun _ _ _ => rfl, rfl⟩
        · exact ⟨s.regs, fun _ _ _ => rfl, rfl⟩
        · exact ⟨_, fun k hk _ => State.get_bump_ne s hk 1, rfl⟩
      · exact ⟨_, eq_finish_of_act h, _, fun k _ hk => State.get_put_ne s hk 1, rfl⟩
    refine ⟨fun k h1 h2 h3 h4 => ?_, fun k => ?_, ?_, ?_, ?_, ?_⟩
    · rw [State.get_finish _ _ _ h3 h4, hrun]
      exact hr k h1 h2
    · rw [State.dom_finish, hrun]
      rfl
    · simp [SamePending, hrun]
    · simp [SameSystem, hrun]
    · simp [SamePicture, hrun]
    · simp [SameLinks, hrun]

end Sys2Proof.Machine
end

section
set_option Elab.async false
/-!
PROOFS. Power requests, entries, wakes, trips and PLL locks (R28 to R31; O20).
-/

namespace Sys2Proof.Machine

/-! ### What has been sent stays sent -/

/-- Everything sent so far stays sent, and more may follow. -/
abbrev OutGrows (s u : State) : Prop := s.out <+: u.out

theorem OutGrows.of_out {s u : State} (h : u.out = s.out) : OutGrows s u := by
  unfold OutGrows
  rw [h]

theorem OutGrows.foldl {α : Type} {step : State → α → State} (h : ∀ s x, OutGrows s (step s x)) (l : List α) (s : State) :
    OutGrows s (l.foldl step s) := by
  induction l generalizing s with
  | nil => exact List.prefix_rfl
  | cons x l ih => exact (h s x).trans (ih _)

section Sending

variable (s : State)

theorem OutGrows.send (o : Out) : OutGrows s (s.send o) := List.prefix_append _ _

theorem OutGrows.drive (l : List (Nat × List Symbol)) : OutGrows s (s.drive l) := List.prefix_append _ _

theorem OutGrows.driveTwin (l : List (Nat × List Symbol)) : OutGrows s (s.driveTwin l) := List.prefix_append _ _

theorem OutGrows.stopPanel : OutGrows s s.stopPanel := OutGrows.drive s _

theorem OutGrows.stopTwin : OutGrows s s.stopTwin := OutGrows.driveTwin s _

theorem OutGrows.quietOutputs : OutGrows s s.quietOutputs := by
  unfold State.quietOutputs
  refine OutGrows.foldl (fun s n => ?_) _ s
  dsimp only
  split
  · exact OutGrows.send { s with net := _ } _
  · exact List.prefix_rfl

end Sending

/-! ### PLLs -/

section Plls

variable (s : State)

theorem State.needPll_mem (d : PllDomain) : d ∈ (s.needPll d true).power.plls ∧ (d ∉ s.power.plls → d ∈ (s.needPll d true).power.locking) := by
  unfold State.needPll
  rw [if_pos rfl]
  split
  · rename_i h
    exact ⟨List.contains_iff_mem.mp h, fun hn => absurd (List.contains_iff_mem.mp h) hn⟩
  · exact ⟨List.mem_append_right _ (List.mem_singleton_self d), fun _ => List.mem_append_right _ (List.mem_singleton_self d)⟩

/-- A PLL that a domain needs stays on, and stays to lock, while others start. -/
theorem State.needPll_keeps (d e : PllDomain) : (e ∈ s.power.plls → e ∈ (s.needPll d true).power.plls)
    ∧ (e ∈ s.power.locking → e ∈ (s.needPll d true).power.locking) := by
  unfold State.needPll
  rw [if_pos rfl]
  split
  · exact ⟨id, id⟩
  · exact ⟨List.mem_append_left _, List.mem_append_left _⟩

theorem State.needPll_plls (d e : PllDomain) (h : e ≠ d) (hn : e ∉ s.power.plls) : e ∉ (s.needPll d true).power.plls := by
  unfold State.needPll
  rw [if_pos rfl]
  split
  · exact hn
  · simpa [hn] using h

theorem State.needPlls_keeps (l : List PllDomain) (e : PllDomain) :
    (e ∈ s.power.plls → e ∈ (l.foldl (fun (s : State) d => s.needPll d true) s).power.plls)
      ∧ (e ∈ s.power.locking → e ∈ (l.foldl (fun (s : State) d => s.needPll d true) s).power.locking) := by
  induction l generalizing s with
  | nil => exact ⟨id, id⟩
  | cons d l ih => exact ⟨fun h => (ih _).1 ((s.needPll_keeps d e).1 h), fun h => (ih _).2 ((s.needPll_keeps d e).2 h)⟩

theorem State.needPlls_mem (l : List PllDomain) (e : PllDomain) (he : e ∈ l) :
    e ∈ (l.foldl (fun (s : State) d => s.needPll d true) s).power.plls
      ∧ (e ∉ s.power.plls → e ∈ (l.foldl (fun (s : State) d => s.needPll d true) s).power.locking) := by
  induction l generalizing s with
  | nil => cases he
  | cons d l ih =>
    by_cases hd : e = d
    · subst hd
      obtain ⟨hon, hlocking⟩ := s.needPll_mem e
      exact ⟨(State.needPlls_keeps _ l e).1 hon, fun hn => (State.needPlls_keeps _ l e).2 (hlocking hn)⟩
    · obtain ⟨hon, hlocking⟩ := ih (s.needPll d true) ((List.mem_cons.mp he).resolve_left hd)
      exact ⟨hon, fun hn => hlocking (s.needPll_plls d e hd hn)⟩

/-- PLLs that start where they are needed are on, and lock unless they were on. -/
theorem State.startPlls_mem {l : List PllDomain} {e : PllDomain} (he : e ∈ l) (hw : s.pllWanted e = true) :
    e ∈ (s.startPlls l).power.plls ∧ (e ∉ s.power.plls → e ∈ (s.startPlls l).power.locking) :=
  s.needPlls_mem _ e (List.mem_filter.mpr ⟨he, hw⟩)

end Plls

/-! ### Power requests (R28, R30) -/

/-- A value that passes the checks is not refused for what is under way. -/
theorem State.refused_of_takesValue {s : State} {k : Nat} {data : Bytes} (h : s.takesValue k data = true) : s.refused k (leNat data) = false := by
  unfold State.takesValue at h
  cases ho : objOf k with
  | none => simp [ho] at h
  | some o =>
    simp only [ho, Bool.and_eq_true, beq_iff_eq] at h
    obtain ⟨-, -, hcode⟩ := h
    by_contra hr
    rw [Bool.not_eq_false] at hr
    unfold State.scalarCode at hcode
    dsimp only at hcode
    split_ifs at hcode

theorem State.powerRefused_of_takesValue {s : State} {data : Bytes} (h : s.takesValue 0x210002 data = true) :
    s.powerRefused (leNat data) = false := State.refused_of_takesValue h

/-- A power request that the checks let pass meets no power failure. -/
theorem State.pfailState_of_takesValue {s : State} {data : Bytes} (h : s.takesValue 0x210002 data = true) : s.get 0x213001 = 0 := by
  have hr := State.powerRefused_of_takesValue h
  simp only [State.powerRefused, Bool.or_eq_false_iff] at hr
  obtain ⟨⟨⟨-, hstate⟩, -⟩, -⟩ := hr
  simpa using hstate

/-- The state that a request is answered from. -/
theorem State.powerRequest_of_still {s : State} {v : Nat} (h : s.power.phase = .run ∨ s.power.phase = .hold) : s.powerRequest v =
    match v with
    | 0 => ({ s.put 0x210002 v with power := { s.power with hostHold := false } }).tryLeaveHold
    | 1 => ({ s.put 0x210002 v with power := { s.power with hostHold := true } }).enterHold
    | 2 => (s.put 0x210002 v).beginEntry .enteringSleep
    | _ => (s.put 0x210002 v).beginEntry .enteringOff := by
  have hentering : ((s.put 0x210002 v).power.phase == .enteringSleep || (s.put 0x210002 v).power.phase == .enteringOff) = false := by
    rw [State.put_power]
    rcases h with h | h <;> rw [h] <;> rfl
  unfold State.powerRequest
  dsimp only
  rw [hentering]
  rfl

theorem State.beginEntry_power (s : State) (ph : Phase) :
    (s.beginEntry ph).power = { s.power with phase := ph, leavingHold := false, entryFrom := s.power.phase, later := none } := by
  have hstopped : (if s.power.phase == .run then s.stopCarvers.haltMedia else s).power = s.power := by
    split
    · exact s.stopped_power
    · rfl
  unfold State.beginEntry
  dsimp only
  rw [State.setPhase_power]
  dsimp only
  rw [hstopped]

theorem State.tryLeaveHold_leaves {s : State} (hphase : s.power.phase = .hold) (hcauses : s.holdCauses = 0) (hleaving : s.power.leavingHold = false)
    (hstate : s.get 0x213001 ≠ 2) : s.tryLeaveHold = ({ s with power := { s.power with leavingHold := true } }).startPlls heldDomains := by
  unfold State.tryLeaveHold
  rw [if_pos (by simp [hphase, hcauses, hleaving, hstate])]

theorem State.startPlls_leaving (s : State) (l : List PllDomain) : (s.startPlls l).power.leavingHold = s.power.leavingHold
    ∧ (s.startPlls l).power.hostHold = s.power.hostHold := by
  unfold State.startPlls
  induction l.filter s.pllWanted generalizing s with
  | nil => exact ⟨rfl, rfl⟩
  | cons d l ih =>
    have hone : (s.needPll d true).power.leavingHold = s.power.leavingHold ∧ (s.needPll d true).power.hostHold = s.power.hostHold := by
      unfold State.needPll
      split_ifs <;> exact ⟨rfl, rfl⟩
    exact ⟨(ih _).1.trans hone.1, (ih _).2.trans hone.2⟩

/-- A request for Run with no other cause of Hold left. -/
theorem State.powerRequest_run {s : State} (hphase : s.power.phase = .hold) (htrip : s.power.tripHold = false) (hpfail : s.power.pfailHold = false)
    (hleaving : s.power.leavingHold = false) (hstate : s.get 0x213001 = 0) :
    (s.powerRequest 0).power.hostHold = false ∧ (s.powerRequest 0).power.leavingHold = true
      ∧ ∀ d, d = .carver ∨ d = .media → d ∈ (s.powerRequest 0).power.plls ∧ (d ∉ s.power.plls → d ∈ (s.powerRequest 0).power.locking) := by
  have hrun : s.powerRequest 0 = ({ s.put 0x210002 0 with power := { s.power with hostHold := false, leavingHold := true } }).startPlls heldDomains := by
    rw [State.powerRequest_of_still (.inr hphase)]
    exact State.tryLeaveHold_leaves (s := { s.put 0x210002 0 with power := { s.power with hostHold := false } }) hphase
      (by simp [State.holdCauses, htrip, hpfail]) hleaving
      (fun h => absurd ((State.get_congr (s' := s.put 0x210002 0) rfl _).symm.trans h) (by
        rw [State.get_put_ne _ (by decide), hstate]
        decide))
  rw [hrun]
  refine ⟨(State.startPlls_leaving _ _).2, (State.startPlls_leaving _ _).1, fun d hd => ?_⟩
  rcases hd with rfl | rfl
  · exact State.startPlls_mem _ (by decide) rfl
  · exact State.startPlls_mem _ (by decide) rfl

theorem State.powerRequest_hold {s : State} (h : s.power.phase = .run) :
    (s.powerRequest 1).power.phase = .hold ∧ (s.powerRequest 1).power.hostHold = true := by
  rw [State.powerRequest_of_still (.inl h)]
  have hview := State.enterHold_powerView (s := { s.put 0x210002 1 with power := { s.power with hostHold := true } }) (.inl h)
  exact ⟨congrArg (fun s : State => s.power.phase) hview, congrArg (fun s : State => s.power.hostHold) hview⟩

theorem State.powerRequest_entry {s : State} (h : s.power.phase = .run ∨ s.power.phase = .hold) :
    ((s.powerRequest 2).power.phase = .enteringSleep ∧ (s.powerRequest 2).power.entryFrom = s.power.phase)
      ∧ (s.powerRequest 3).power.phase = .enteringOff ∧ (s.powerRequest 3).power.entryFrom = s.power.phase := by
  have hentry (v : Nat) (ph : Phase) := State.beginEntry_power (s.put 0x210002 v) ph
  have hsleep : s.powerRequest 2 = (s.put 0x210002 2).beginEntry .enteringSleep := State.powerRequest_of_still h
  have hoff : s.powerRequest 3 = (s.put 0x210002 3).beginEntry .enteringOff := State.powerRequest_of_still h
  rw [hsleep, hoff, hentry, hentry]
  exact ⟨⟨rfl, rfl⟩, rfl, rfl⟩

/-! ### Entries (R28, R29) -/

/-- An entry's flush, and the end of a trip that does not stay. -/
def State.entryFlushed (s : State) : State := if s.tripStays then s.flush else (s.flush).settleAll 1 2

theorem State.entryFlushed_kept (s : State) : s.entryFlushed.power = s.power ∧ s.entryFlushed.lift = s.lift ∧ s.entryFlushed.now = s.now
    ∧ s.entryFlushed.get 0x210005 = s.get 0x210005 := by
  have hlift : s.flush.lift = s.lift := (JournalOnly.flush s).field_of (field := fun s : State => s.lift) fun _ => rfl
  have hnow : s.flush.now = s.now := (JournalOnly.flush s).field_of (field := fun s : State => s.now) fun _ => rfl
  have hget : s.flush.get 0x210005 = s.get 0x210005 := (JournalOnly.flush s).2 _ rfl
  unfold State.entryFlushed
  split
  · exact ⟨s.flush_power, hlift, hnow, hget⟩
  · exact ⟨(State.settleAll_power _ _ _).trans s.flush_power, (State.settleAll_lift _ _ _).trans hlift, (State.settleAll_now _ _ _).trans hnow,
      ((Reported.settleAll _ 1 2).2 _ (by decide)).trans hget⟩

theorem State.entryFlushed_power (s : State) : s.entryFlushed.power = s.power := s.entryFlushed_kept.1

/-- An entry's end in the power state. -/
def State.entryEnded (s : State) (off : Bool) : State :=
  { s with power := { s.power with
      phase := if off then .off else .sleep, hostHold := false, tripHold := s.tripStays, plls := [], locking := []
      wakeTimerArmed := if s.get 0x210005 = 0 then none else some (s.now + s.get 0x210005 * 1000000000) } }

/-- An entry's pins. -/
def State.entryPins (s : State) (off : Bool) : State :=
  let s := s.send (.pin .pwrEnCore false)
  if off then (s.send (.pin .pwrEnDdr false)).send (.pin .xspiResetN false) else s.send (.dram 16 2 1)

/-- The links and outputs stop. -/
def State.unitsQuiet (s : State) : State := (((s.send (.pin .hbTx false)).stopPanel).stopTwin).quietOutputs.quietMacs

theorem State.quietOutputs_units (s : State) :
    s.quietOutputs.power = s.power ∧ s.quietOutputs.link = s.link ∧ s.quietOutputs.pair = s.pair := by
  unfold State.quietOutputs
  induction List.range 8 generalizing s with
  | nil => exact ⟨rfl, rfl, rfl⟩
  | cons n l ih =>
    obtain ⟨hp, hl, hr⟩ := ih (if (nth s.net.outs n {}).active then
      ({ s with net := { s.net with outs := setNth s.net.outs n { nth s.net.outs n {} with active := false } } }).send
        (.pin (.timeOut n) ((nth s.net.outs n {}).polarity == 1)) else s)
    refine ⟨hp.trans ?_, hl.trans ?_, hr.trans ?_⟩ <;> split <;> rfl

theorem State.entryPins_power (s : State) (off : Bool) : (s.entryPins off).power = s.power := by cases off <;> rfl

theorem State.quietMacs_units (s : State) : s.quietMacs.power = s.power ∧ s.quietMacs.link = s.link ∧ s.quietMacs.pair = s.pair
    ∧ s.quietMacs.out = s.out := ⟨rfl, rfl, rfl, rfl⟩

theorem State.linksStopped (s : State) : s.stopPanel.stopTwin.power = s.power ∧ s.stopPanel.stopTwin.link.trained = false
    ∧ s.stopPanel.stopTwin.pair.twinUp = false := ⟨rfl, rfl, rfl⟩

theorem State.unitsQuiet_units (s : State) : s.unitsQuiet.power = s.power ∧ s.unitsQuiet.link.trained = false ∧ s.unitsQuiet.pair.twinUp = false := by
  obtain ⟨hp, hl, hr⟩ := State.linksStopped (s.send (.pin .hbTx false))
  unfold State.unitsQuiet
  obtain ⟨hp', hl', hr', -⟩ := State.quietMacs_units (s.send (.pin .hbTx false)).stopPanel.stopTwin.quietOutputs
  obtain ⟨hp'', hl'', hr''⟩ := State.quietOutputs_units (s.send (.pin .hbTx false)).stopPanel.stopTwin
  rw [hp', hl', hr', hp'', hl'', hr'', hp, hl, hr]
  exact ⟨rfl, rfl, rfl⟩

theorem OutGrows.unitsQuiet (s : State) : OutGrows s s.unitsQuiet := by
  unfold State.unitsQuiet OutGrows
  rw [(State.quietMacs_units _).2.2.2]
  exact (OutGrows.send s (.pin .hbTx false)).trans ((OutGrows.stopPanel _).trans ((OutGrows.stopTwin _).trans (OutGrows.quietOutputs _)))

theorem State.mem_entryPins (s : State) (off : Bool) : Out.pin .pwrEnCore false ∈ (s.entryPins off).out := by
  cases off <;> simp [State.entryPins]

theorem State.completeEntry_of_none {s : State} {off : Bool} (h : s.power.phase = if off then .enteringOff else .enteringSleep)
    (hlater : s.power.later = none) : s.completeEntry = ((s.entryFlushed.entryEnded off).entryPins off).unitsQuiet.serveHeldWake := by
  have hnone : ((s.entryFlushed.entryEnded off).entryPins off).unitsQuiet.power.later = none := by
    rw [(State.unitsQuiet_units _).1, State.entryPins_power]
    exact (congrArg Power.later s.entryFlushed_power).trans hlater
  unfold State.completeEntry
  cases off <;> simp only [Bool.false_eq_true, if_false, if_true] at h <;> rw [h] <;> extract_lets f s1 p s2 s3 s4 s5
  · have hended : s2 = s.entryFlushed.entryEnded false := rfl
    have hpins : s4 = s2.entryPins false := rfl
    have hquiet : s5 = s4.unitsQuiet := rfl
    rw [hquiet, hpins, hended, hnone]
  · have hended : s2 = s.entryFlushed.entryEnded true := rfl
    have hpins : s4 = s2.entryPins true := rfl
    have hquiet : s5 = s4.unitsQuiet := rfl
    rw [hquiet, hpins, hended, hnone]

/-- An entry that nothing follows and no wake waited for is done. -/
theorem State.completeEntry_done {s : State} {off : Bool} (h : s.power.phase = if off then .enteringOff else .enteringSleep)
    (hlater : s.power.later = none) (hwake : s.power.wakeHeld = false) :
    s.completeEntry.power = { s.power with
        phase := if off then .off else .sleep, hostHold := false, tripHold := s.tripStays, plls := [], locking := []
        wakeTimerArmed := if s.get 0x210005 = 0 then none else some (s.now + s.get 0x210005 * 1000000000) }
      ∧ s.completeEntry.link.trained = false ∧ s.completeEntry.pair.twinUp = false ∧ Out.pin .pwrEnCore false ∈ s.completeEntry.out := by
  obtain ⟨hpower, hlift, hnow, hget⟩ := s.entryFlushed_kept
  obtain ⟨hquiet, htrained, htwin⟩ := ((s.entryFlushed.entryEnded off).entryPins off).unitsQuiet_units
  have hended : ((s.entryFlushed.entryEnded off).entryPins off).unitsQuiet.power = (s.entryFlushed.entryEnded off).power :=
    hquiet.trans (State.entryPins_power _ _)
  have hheld : ((s.entryFlushed.entryEnded off).entryPins off).unitsQuiet.power.wakeHeld = false := by
    rw [hended]
    exact (congrArg Power.wakeHeld hpower).trans hwake
  rw [State.completeEntry_of_none h hlater, State.serveHeldWake, if_neg (by rw [hheld]; decide), hended]
  refine ⟨?_, htrained, htwin, (OutGrows.unitsQuiet _).subset (State.mem_entryPins _ _)⟩
  unfold State.entryEnded State.tripStays
  dsimp only
  rw [hpower, hlift, hnow, hget]

/-! ### Wakes (R28, R31) -/

/-- A wake that nothing holds up. -/
theorem State.wake_starts {s : State} (hlow : s.power.pfailLow = false) (h : s.power.phase = .sleep ∨ s.power.phase = .off) :
    s.wake.power.waking = true ∧ Out.pin .pwrEnCore true ∈ s.wake.out ∧ (s.power.phase = .off → s.wake.power.nextCause = some 6)
      ∧ s.wake.power.wakeTimerArmed = s.power.wakeTimerArmed := by
  unfold State.wake
  rcases h with h | h <;> rw [h, hlow]
  · exact ⟨rfl, by simp, fun h => by simp at h, rfl⟩
  · exact ⟨rfl, by simp, fun _ => rfl, rfl⟩


/-- A wake from Sleep or a return to Run is changed at most in what it leaves besides. -/
abbrev PhaseKept (s u : State) : Prop :=
  Keeps (fun s => { power := { phase := s.power.phase, waking := s.power.waking } }) noObjects s u

theorem PowerKept.phaseKept {s u : State} (h : PowerKept s u) : PhaseKept s u :=
  .of_view (congrArg (fun s : State => ({ power := { phase := s.power.phase, waking := s.power.waking } } : State)) (a₁ := u.powerView)
    (a₂ := s.powerView) h.1) fun _ => rfl

theorem PhaseKept.of_power {s u : State} (h : u.power = s.power) : PhaseKept s u := (PowerKept.of_power h).phaseKept

theorem FailureKept.powerKept {s u : State} (h : FailureKept s u) : PowerKept s u := .of_view h.1 fun _ => rfl

section Waking

variable (s : State)

theorem PhaseKept.startRun : PhaseKept s s.startRun := by
  unfold State.startRun
  dsimp only
  refine .trans (u := { s with lift := { s.lift with haveFrame := false } }) (PhaseKept.of_power rfl) (.ite ?_ (.refl _))
  refine .trans ?_ (.of_regs rfl rfl)
  exact .trans (PhaseKept.of_power (State.put_power _ 0x211002 6000)) (FailureKept.climbing _).powerKept.phaseKept

theorem PhaseKept.relock : PhaseKept s s.relock :=
  PowerKept.phaseKept (Keeps.foldl (fun s d => PowerKept.needPll s d true) _ s)

theorem State.bootUps_power : s.bootUps.power = s.power := by
  unfold State.bootUps
  simp only [List.foldl_cons, List.foldl_nil]
  split_ifs <;> rfl

theorem State.beginTraining_power (n : Nat) : (s.beginTraining n).power = s.power := by
  unfold State.beginTraining
  dsimp only
  rw [State.burst_power, State.driveOnly_power]
  rfl

/-- A wake from Sleep, in the state it returns to. -/
def State.awoken (s : State) : State :=
  { s with power := { s.power with phase := if s.power.hostHold || s.power.tripHold then .hold else .run, waking := false, wakeTimerArmed := none } }

/-- The ports are pre-operational after a wake from Sleep. -/
def State.returnedPorts (s : State) : State :=
  { s with ctl := { s.ctl with lastPower := 2, ports := s.ctl.ports.map fun q => { q with nmt := .preOperational } } }

/-- What Run starts with after a wake from Sleep. -/
def State.returnedRun (s : State) : State := (if s.power.phase == .hold then s else (s.put 0x210002 0).startRun.applyLevel).seekTick

/-- What Run and Hold start with after a wake from Sleep. -/
def State.returnedUnits (s : State) : State :=
  let s := ((s.relock.twinDown).put 0x280009 0).send (.dram 16 2 2)
  if nth s.stages 0xD .off == .failed then s else s.stage 0xD .starting

/-- A wake from Sleep notes a power failure that came in Sleep, and the links train. -/
def State.reopened (s : State) : State :=
  let s : State := { s with care := { s.care with lastUpdate := s.now } }
  let s : State := { s with memory := { s.memory with ranks := s.memory.ranks.map fun (x : Rank) => { x with updateDue := decide (2 ≤ x.state) } } }
  let s := if s.power.sleepPfail then
      ({ s with power := { s.power with sleepPfail := false } }).beaconAdd 0x0A 0 (List.replicate 12 0) []
    else s
  let s := s.bootUps.send (.pin .hbTx true)
  let s := if nth s.stages 0xA .off == .failed then s else s.beginTraining 1
  s.settleEnables

theorem State.sleepWake_wakes (h : s.power.phase = .sleep) (hwaking : s.power.waking = true) (hdram : s.power.dramLost = false)
    (hlow : s.power.pfailLow = false) : s.sleepWake = s.awoken.returnedPorts.returnedRun.returnedUnits.reopened := by
  unfold State.sleepWake
  rw [if_neg (by simp [h, hwaking, hdram, hlow])]
  rfl

theorem PhaseKept.returnedRun : PhaseKept s s.returnedRun := by
  have hrun : PhaseKept s ((s.put 0x210002 0).startRun.applyLevel) :=
    .trans (.trans (PhaseKept.of_power (s.put_power 0x210002 0)) (PhaseKept.startRun _)) (PowerKept.applyLevel _).phaseKept
  unfold State.returnedRun
  exact .trans (.ite (.refl s) hrun) (PhaseKept.of_power rfl)

theorem PhaseKept.returnedUnits : PhaseKept s s.returnedUnits := by
  have hlocked : PhaseKept s (((s.relock.twinDown).put 0x280009 0).send (.dram 16 2 2)) := .trans (PhaseKept.relock s) (PhaseKept.of_power rfl)
  exact .trans hlocked (.ite (.refl _) (PhaseKept.of_power rfl))

theorem PhaseKept.returned : PhaseKept s s.returnedPorts.returnedRun.returnedUnits :=
  .trans (.trans (u := s.returnedPorts) (PhaseKept.of_power rfl) (PhaseKept.returnedRun _)) (PhaseKept.returnedUnits _)

theorem PhaseKept.reopened : PhaseKept s s.reopened := by
  unfold State.reopened
  extract_lets c s1 m s2 p s3 s4 s5
  have h2 : PhaseKept s s2 := .of_regs rfl rfl
  have h3 : PhaseKept s2 s3 := .ite (.trans (u := { s2 with power := { s2.power with sleepPfail := false } }) (.of_regs rfl rfl)
    (PhaseKept.of_power (State.beaconAdd_power _ _ _ _ _))) (.refl s2)
  have h4 : PhaseKept s3 s4 := .trans (PhaseKept.of_power s3.bootUps_power) (PhaseKept.of_power rfl)
  have h5 : PhaseKept s4 s5 := .ite (.refl s4) (PhaseKept.of_power (s4.beginTraining_power 1))
  exact .trans (.trans (.trans (.trans h2 h3) h4) h5) (EnablesOnly.settleEnables s5).powerKept.phaseKept

end Waking

/-- A trip that has cooled clears. -/
theorem State.clearTrip_clears {s : State} {c : Nat} (hc : s.power.coolSince = some c) (htrip : s.power.tripHold = true) (ht : c + 16000000 ≤ s.now)
    (hvalid : s.lift.invalid.any (fun b => !b) = true) : s.clearTrip.power.tripHold = false := by
  unfold State.clearTrip
  rw [hc]
  dsimp only
  rw [if_pos (by simp [htrip, ht, hvalid])]
  have hsettled : PowerKept { s with power := { s.power with tripHold := false } }
      (({ s with power := { s.power with tripHold := false } }).settleAll 1 2) := PowerKept.of_power (State.settleAll_power _ _ _)
  generalize ({ s with power := { s.power with tripHold := false } }).settleAll 1 2 = u at hsettled ⊢
  have hclear : PowerKept u ({ u.climbing with lift := { u.lift with clearSince := u.now } }) :=
    .trans (FailureKept.climbing u).powerKept (.of_regs rfl rfl)
  refine ((hsettled.trans hclear).trans (FailureKept.causeCleared _ _).powerKept).field_of (field := fun s : State => s.power.tripHold) fun _ => rfl

/-- Settles O20, clause by clause. -/
theorem powerStatesAreServed : Obligations.PowerStatesAreServed := by
  refine ⟨fun s t p hp => ⟨fun htakes hphase htrip hpfail hleaving => ?_, fun htakes hphase => ?_, fun htakes hphase => ?_, fun htakes hphase => ?_⟩,
    fun s t => ⟨fun hphase hlater hwake => ?_, fun q hq hbit hlow hphase => ?_, fun a hat ha hbit hlow hphase => ?_,
      fun ok hphase hwaking hdram hlow hhost htrip => ?_, fun c hc htrip ht hvalid => ?_, fun d hd => ?_⟩⟩
  · have hrun : (s.begin t).access p 0x210002 [0] = _ := State.access_effect (by decide +kernel) hp htakes false {} rfl
    have hstate := State.pfailState_of_takesValue htakes
    have hpower : ((s.begin t).heard p).power = s.power := State.heard_power _ _
    rw [exec_requestRun]
    refine answers_act ⟨State.finish_taken_answered hrun, ?_⟩
    rw [State.finish_power, hrun, State.reply_power]
    rw [← hpower] at hphase htrip hpfail hleaving ⊢
    exact State.powerRequest_run hphase htrip hpfail hleaving hstate
  · have hrun : (s.begin t).access p 0x210002 [1] = _ := State.access_effect (by decide +kernel) hp htakes false {} rfl
    rw [exec_requestHold]
    refine answers_act ⟨State.finish_taken_answered hrun, ?_⟩
    rw [State.finish_power, hrun, State.reply_power]
    exact State.powerRequest_hold (by rw [State.heard_power]; exact hphase)
  · have hrun : (s.begin t).access p 0x210002 [2] = _ := State.access_effect (by decide +kernel) hp htakes false {} rfl
    have hpower : ((s.begin t).heard p).power = s.power := State.heard_power _ _
    rw [exec_requestSleep]
    refine answers_act ⟨State.finish_taken_answered hrun, ?_⟩
    rw [State.finish_power, hrun, State.reply_power]
    rw [← hpower] at hphase ⊢
    exact (State.powerRequest_entry hphase).1
  · have hrun : (s.begin t).access p 0x210002 [3] = _ := State.access_effect (by decide +kernel) hp htakes false {} rfl
    have hpower : ((s.begin t).heard p).power = s.power := State.heard_power _ _
    rw [exec_requestOff]
    refine answers_act ⟨State.finish_taken_answered hrun, ?_⟩
    rw [State.finish_power, hrun, State.reply_power]
    rw [← hpower] at hphase ⊢
    exact (State.powerRequest_entry hphase).2
  · obtain ⟨off, hoff⟩ : ∃ off : Bool, s.power.phase = if off then .enteringOff else .enteringSleep := by
      rcases hphase with h | h
      · exact ⟨false, h⟩
      · exact ⟨true, h⟩
    have hdone := State.completeEntry_done (s := s.begin t) hoff hlater hwake
    rw [exec_powerEntryComplete]
    refine answers_act ?_
    rw [State.finish_power, State.finish_link, State.finish_pair]
    obtain ⟨hpower, htrained, htwin, hpin⟩ := hdone
    rw [hpower, htrained, htwin]
    refine ⟨?_, rfl, rfl, rfl, rfl, rfl, rfl, State.mem_finish_out hpin⟩
    cases off <;> simp [hoff]
  · rw [exec_canWake]
    refine answers_actIf (decide_eq_true hq) ?_
    have hrun : (if bitOf ((s.begin t).get 0x210004) q then (s.begin t).wake else s.begin t) = (s.begin t).wake := if_pos hbit
    obtain ⟨hwaking, hpin, hcause, -⟩ := State.wake_starts (s := s.begin t) hlow hphase
    rw [State.finish_power, hrun]
    exact ⟨hwaking, State.mem_finish_out (by rw [hrun]; exact hpin), hcause⟩
  · have hrun : (match (s.begin t).power.wakeTimerArmed with
        | some at_ =>
          if bitOf ((s.begin t).get 0x210004) 2 && decide (at_ ≤ (s.begin t).now) then
            ({ s.begin t with power := { (s.begin t).power with wakeTimerArmed := none } }).wake
          else s.begin t
        | none => s.begin t) = ({ s.begin t with power := { s.power with wakeTimerArmed := none } }).wake := by
      rw [State.begin_power, hat]
      exact if_pos (by rw [State.get_begin, hbit]; exact decide_eq_true ha)
    obtain ⟨hwaking, -, -, harmed⟩ := State.wake_starts (s := { s.begin t with power := { s.power with wakeTimerArmed := none } }) hlow hphase
    rw [exec_wakeTimerExpiry]
    refine answers_act ?_
    rw [State.finish_power]
    exact ⟨(congrArg (fun s : State => s.power.waking) hrun).trans hwaking, (congrArg (fun s : State => s.power.wakeTimerArmed) hrun).trans harmed⟩
  · have hkept := (PhaseKept.returned (s.begin t).awoken).trans (PhaseKept.reopened _)
    rw [← State.sleepWake_wakes (s.begin t) hphase hwaking hdram hlow] at hkept
    rw [exec_sleepWake (digestOk := ok) t ok s]
    refine answers_act ?_
    rw [State.finish_power]
    refine ⟨(hkept.field_of (field := fun s : State => s.power.phase) fun _ => rfl).trans ?_,
      hkept.field_of (field := fun s : State => s.power.waking) fun _ => rfl⟩
    show (if s.power.hostHold || s.power.tripHold then Phase.hold else .run) = .run
    rw [hhost, htrip]
    rfl
  · rw [exec_thermalTripClear]
    refine answers_act ?_
    rw [State.finish_power]
    exact State.clearTrip_clears (s := s.begin t) hc htrip ht hvalid
  · rw [exec_pllLock]
    refine answers_act ?_
    rw [State.finish_power, (EnablesOnly.applyCap _).power, (EnablesOnly.settleEnables _).power]
    rfl

end Sys2Proof.Machine
end

section
set_option Elab.async false
/-!
PROOFS. Scene, surface and shadow-bank commands (R76, R84, R108 to R110; O23).
-/

namespace Sys2Proof.Machine

/-! ### Accesses whose effect is known (R8) -/

/-- A value in effect at once: its answer, and what it leaves. -/
theorem finish_effect {s : State} {t : Nat} {p : Path} {k : Nat} {data : Bytes} {u : State} (hi : immediate k = true) (hp : (s.begin t).hears p = true)
    (h : ((s.begin t).heard p).takesValue k data = true) (he : ((s.begin t).heard p).effect k (leNat data) {} = u) :
    (s.begin t).access p k data = u.reply p none k 0 ∧ (s.finish t fun s => s.access p k data).answered p 0 [] := by
  have hrun := State.access_effect hi hp h false {} rfl
  rw [he] at hrun
  exact ⟨hrun, State.finish_taken_answered hrun⟩

/-- A transfer in effect at once, the like. -/
theorem finish_transfer {s : State} {t : Nat} {p : Path} {k : Nat} {data b : Bytes} {u : State} (hi : immediate k = true)
    (hp : (s.begin t).hears p = true) (h : ((s.begin t).heard p).takesTransfer k data b = true) (himage : k ≠ 0x262002)
    (he : ((s.begin t).heard p).setContentOf k .rwI b { readBack := true } = u) :
    (s.begin t).access p k data true { readBack := true } = u.reply p none k 0
      ∧ (s.finish t fun s => s.access p k data true { readBack := true }).answered p 0 [] := by
  have hrun := State.access_transferEffect hi hp h himage { readBack := true } fun _ => rfl
  rw [he] at hrun
  exact ⟨hrun, State.finish_taken_answered hrun⟩

/-! ### The commit request (R84) -/

theorem State.requestCommit_scene {s : State} (h : s.grouped = false) :
    s.requestCommit.scene.requested = true ∧ s.requestCommit.scene.requestAt = s.now := by
  have hannounces : s.requestCommit
      = ({ s with scene := { s.scene with requested := true, requestAt := s.now, refused := false } }).announceCommit := by
    unfold State.requestCommit
    exact if_neg (by rw [show State.grouped { s with scene := { s.scene with requested := true, requestAt := s.now, refused := false } } = false from h]
                     simp)
  rw [hannounces, State.announceCommit_scene]
  exact ⟨rfl, rfl⟩

/-! ### Swap requests (R109, R110) -/

theorem width_shadowState : widthOf 0x420003 = 8 := by decide +kernel

theorem State.get_shadowState (s : State) (v : Nat) (hv : v < 256) : (s.put 0x420003 v).get 0x420003 = v := by
  rw [State.get_put_self, width_shadowState, Nat.mod_eq_of_lt (by omega)]

theorem State.get_pendScalar (s : State) (j v k : Nat) : (s.pendScalar j v).get k = s.get k := by
  unfold State.pendScalar
  dsimp only
  split
  · rw [State.get_sceneWrite]
    rfl
  · rfl

/-- A swap request makes the shadow Requested. -/
theorem State.writeSwap_request (s : State) : lookup 0x420001 (s.writeSwap 1).pendR = some 1 ∧ (s.writeSwap 1).get 0x420003 = 3 := by
  refine ⟨(State.pendScalar_waits _ _ _).1, ?_⟩
  exact (State.get_pendScalar _ _ _ _).trans (s.get_shadowState 3 (by decide))

/-- A withdrawal makes a shadow that was Requested Valid. -/
theorem State.writeSwap_withdraw (s : State) : lookup 0x420001 (s.writeSwap 0).pendR = some 0
    ∧ (s.writeSwap 0).get 0x420003 = if s.get 0x420003 = 3 then 2 else s.get 0x420003 := by
  refine ⟨(State.pendScalar_waits _ _ _).1, (State.get_pendScalar _ _ _ _).trans ?_⟩
  rw [if_neg (by decide)]
  split
  · exact s.get_shadowState 2 (by decide)
  · rfl

/-- A swap request or its withdrawal that passes the checks. -/
theorem finish_swap {s : State} {t : Nat} {p : Path} {data : Bytes} (hp : (s.begin t).hears p = true)
    (h : ((s.begin t).heard p).takesValue 0x420001 data = true) :
    (s.begin t).access p 0x420001 data = (((s.begin t).heard p).writeSwap (leNat data)).reply p none 0x420001 0 := by
  obtain ⟨o, ho, ha⟩ : ∃ o, objOf 0x420001 = some o ∧ o.acc = .rwE := by
    have hrwE : (objOf 0x420001).map (·.acc) = some .rwE := by decide +kernel
    cases ho : objOf 0x420001 with
    | none => simp [ho] at hrwE
    | some o => exact ⟨o, rfl, by simpa [ho] using hrwE⟩
  rw [State.access_value hp h ho false {} rfl, ha]
  rfl

/-! ### The shadow bank (R108 to R110) -/

section Shadow

variable {s : State}

theorem State.shadow_ne_active {b : Nat} (h : s.banks.active = some b) : b ≠ s.shadow := by
  unfold State.shadow
  rw [h]
  dsimp only
  omega

variable (g e : Bytes) (n : Nat)

/-- A write of the shadow bank leaves the bank in force as it was. -/
theorem State.setShadow_active : (s.setShadow g e n).activeGeometry = s.activeGeometry ∧ (s.setShadow g e n).activeEntries = s.activeEntries := by
  unfold State.activeGeometry State.activeEntries
  have hactive : (s.setShadow g e n).banks.active = s.banks.active := rfl
  rw [hactive]
  cases h : s.banks.active with
  | none => exact ⟨rfl, rfl⟩
  | some b => exact ⟨nth_setNth_ne _ (State.shadow_ne_active h) _ _, nth_setNth_ne _ (State.shadow_ne_active h) _ _⟩

theorem State.setShadow_geometry (h : s.shadow < s.banks.geometry.length) : (s.setShadow g e n).shadowGeometryBytes = g :=
  nth_setNth_self h g []

theorem State.setShadow_entries (h : s.shadow < s.banks.entries.length) : (s.setShadow g e n).shadowEntryBytes = e :=
  nth_setNth_self h e []

theorem State.setShadow_state (hn : n < 256) : (s.setShadow g e n).get 0x420003 = n := s.get_shadowState n hn

end Shadow

/-- States whose banks are the same hold the same geometries and entries. -/
theorem State.banks_congr {s u : State} (h : u.banks = s.banks) : u.shadow = s.shadow ∧ u.shadowGeometryBytes = s.shadowGeometryBytes
    ∧ u.shadowEntryBytes = s.shadowEntryBytes ∧ u.activeGeometry = s.activeGeometry ∧ u.activeEntries = s.activeEntries := by
  unfold State.shadowGeometryBytes State.shadowEntryBytes State.activeGeometry State.activeEntries State.shadow
  rw [h]
  exact ⟨rfl, rfl, rfl, rfl, rfl⟩

/-! ### Surface formats (R76) -/

theorem immediate_surfaceFormat : ∀ n < 64, immediate (surfaceK n 1) = true ∧ widthOf (surfaceK n 1) = 8 := by decide +kernel

theorem State.effect_surfaceFormat (s : State) {n : Nat} (hn : n < 64) (v : Nat) : s.effect (surfaceK n 1) v {} = s.setFormat n v := by
  have hi : surfaceK n 1 / 256 = 0x4080 + n := by unfold surfaceK keyOf; omega
  have hs : surfaceK n 1 % 256 = 1 := by unfold surfaceK keyOf; omega
  have ht : surfaceK n 1 / 65536 = 0x40 := by omega
  unfold State.effect
  dsimp only
  rw [hi, hs, ht, if_neg (by omega), if_neg (by omega), if_neg (by omega), if_neg (by omega), if_pos (by omega), if_pos rfl, Nat.add_sub_cancel_left]

theorem State.placeChunk_regs {s : State} {r : State × Place} (h : s.placeChunk = some r) : r.1.regs = s.regs := by
  unfold State.placeChunk State.placeOff at h
  obtain ⟨c, -, rfl⟩ := Option.map_eq_some_iff.mp h
  unfold State.takeChunk
  split <;> rfl

theorem placeChunks_regs (n : Nat) (on : List Place) (s : State) : ∀ r, placeChunks n on s = some r → r.1.regs = s.regs := by
  induction n generalizing on s with
  | zero =>
    rintro r ⟨⟩
    rfl
  | succ n ih =>
    intro r h
    unfold placeChunks at h
    split at h
    · cases h
    · rename_i u p hp
      exact (ih _ _ r h).trans (State.placeChunk_regs hp)

theorem State.get_setFormat (s : State) {n v : Nat} (hn : n < 64) (hv : v < 256) : (s.setFormat n v).get (surfaceK n 1) = v := by
  have hput (u : State) : ((u.put (surfaceK n 1) v).put (surfaceK n 5) 0).get (surfaceK n 1) = v := by
    rw [State.get_put_ne _ (by unfold surfaceK keyOf; omega), State.get_put_self, (immediate_surfaceFormat n hn).2]
    exact Nat.mod_eq_of_lt hv
  unfold State.setFormat
  dsimp only
  split
  · exact (State.get_congr rfl _).trans (hput _)
  · split
    · rename_i u on h
      exact (State.get_congr (placeChunks_regs _ _ _ _ h) _).trans (hput _)
    · exact (State.get_congr rfl _).trans (hput _)

/-- The banks after a command that is answered. -/
theorem finish_banks_of_run {s u : State} {t k code : Nat} {p : Path} {f : State → State} (h : f (s.begin t) = u.reply p none k code) :
    (s.finish t f).banks = u.banks := by
  rw [State.finish_banks, h, State.reply_banks]

/-- Settles O23, command by command. -/
theorem sceneAndShadowWritesAreTaken : Obligations.SceneAndShadowWritesAreTaken := by
  refine ⟨fun s t p hp => ⟨fun htakes hg => ?_, fun htakes => ?_, fun htakes => ?_, fun n v hn hv htakes => ?_⟩,
    fun s t p data b hp hgeo hent => ⟨fun htakes => ?_, fun htakes => ?_, fun htakes => ?_, fun htakes => ?_⟩⟩
  · obtain ⟨hrun, hanswered⟩ := finish_effect (by decide +kernel) hp htakes (rfl : _ = ((s.begin t).heard p).requestCommit)
    obtain ⟨hreq, hat⟩ := State.requestCommit_scene (s := (s.begin t).heard p) (by unfold State.grouped; rw [State.get_heard]; exact hg)
    rw [exec_commitRequest]
    refine answers_act ⟨hanswered, ?_⟩
    rw [State.finish_scene, hrun, State.reply_scene]
    exact ⟨hreq, hat.trans (State.heard_now _ _)⟩
  · have hrun := finish_swap hp htakes
    obtain ⟨hpend, hstate⟩ := ((s.begin t).heard p).writeSwap_request
    rw [exec_rayMapSwapRequest]
    refine answers_act ⟨State.finish_taken_answered hrun, ?_, ?_⟩
    · rw [State.finish_taken_get (f := fun s => s.access p 0x420001 [1]) hrun (by decide)]
      exact hstate
    · rw [State.finish_lookup_pendR, hrun, State.reply_pendR]
      exact hpend
  · have hrun := finish_swap hp htakes
    obtain ⟨hpend, hstate⟩ := ((s.begin t).heard p).writeSwap_withdraw
    rw [exec_rayMapSwapWithdraw]
    refine answers_act ⟨State.finish_taken_answered hrun, ?_, ?_⟩
    · rw [State.finish_lookup_pendR, hrun, State.reply_pendR]
      exact hpend
    · rw [State.finish_taken_get (f := fun s => s.access p 0x420001 [0]) hrun (by decide)]
      exact hstate.trans (by rw [State.get_heard]; rfl)
  · obtain ⟨himm, hwidth⟩ := immediate_surfaceFormat n hn
    obtain ⟨hrun, hanswered⟩ := finish_effect himm hp htakes (State.effect_surfaceFormat _ hn _)
    rw [exec_surfaceFormat]
    refine answers_actIf (decide_eq_true hn) ⟨hanswered, ?_⟩
    rw [State.finish_taken_get (f := fun s => s.access p (surfaceK n 1) (leBytes 1 v)) hrun (by unfold surfaceK keyOf; omega),
      leNat_leBytes, Nat.mod_eq_of_lt (by omega)]
    exact State.get_setFormat _ hn hv
  · obtain ⟨hrun, hanswered⟩ := finish_transfer (by decide +kernel) hp htakes (by decide) (rfl : _ = ((s.begin t).heard p).setGeometry b)
    obtain ⟨-, hg, -, ha, he⟩ := State.banks_congr (finish_banks_of_run (f := fun s => s.access p 0x420004 data true { readBack := true }) hrun)
    obtain ⟨hs, hg', -, ha', he'⟩ := State.banks_congr (s := s) (u := (s.begin t).heard p) (State.heard_banks _ _)
    rw [exec_shadowGeometry]
    refine answers_act ⟨hanswered, ?_, ?_, ?_⟩
    · rw [hg]
      exact State.setShadow_geometry _ _ _ (by rw [hs, State.heard_banks]; exact hgeo)
    · rw [ha, ← ha']
      exact (State.setShadow_active _ _ _).1
    · rw [he, ← he']
      exact (State.setShadow_active _ _ _).2
  · obtain ⟨hrun, hanswered⟩ := finish_transfer (by decide +kernel) hp htakes (by decide)
      (rfl : _ = ((s.begin t).heard p).setShadow ((s.begin t).heard p).shadowGeometryBytes b 2)
    obtain ⟨-, hg, hb, -, he⟩ := State.banks_congr (finish_banks_of_run (f := fun s => s.access p 0x420005 data true { readBack := true }) hrun)
    obtain ⟨hs, hg', -, -, he'⟩ := State.banks_congr (s := s) (u := (s.begin t).heard p) (State.heard_banks _ _)
    rw [exec_shadowEntries]
    refine answers_act ⟨hanswered, ?_, ?_, ?_, ?_⟩
    · rw [hb]
      exact State.setShadow_entries _ _ _ (by rw [hs, State.heard_banks]; exact hent)
    · rw [State.finish_taken_get (f := fun s => s.access p 0x420005 data true { readBack := true }) hrun (by decide)]
      exact State.setShadow_state _ _ _ (by decide)
    · rw [hg, State.setShadow_geometry _ _ _ (by rw [hs, State.heard_banks]; exact hgeo), hg']
    · rw [he, (State.setShadow_active _ _ _).2, he']
  · obtain ⟨hrun, hanswered⟩ := finish_transfer (by decide +kernel) hp htakes (by decide)
      (rfl : _ = ((s.begin t).heard p).setShadow ((s.begin t).heard p).shadowGeometryBytes (patched b ((s.begin t).heard p).shadowEntryBytes) 2)
    obtain ⟨-, -, hb, -, he⟩ := State.banks_congr (finish_banks_of_run (f := fun s => s.access p 0x420006 data true { readBack := true }) hrun)
    obtain ⟨hs, -, hb', -, he'⟩ := State.banks_congr (s := s) (u := (s.begin t).heard p) (State.heard_banks _ _)
    rw [exec_shadowEntryPatch]
    refine answers_act ⟨hanswered, ?_, ?_, ?_⟩
    · rw [State.finish_taken_get (f := fun s => s.access p 0x420006 data true { readBack := true }) hrun (by decide)]
      exact State.setShadow_state _ _ _ (by decide)
    · rw [hb, State.setShadow_entries _ _ _ (by rw [hs, State.heard_banks]; exact hent), hb']
    · rw [he, (State.setShadow_active _ _ _).2, he']
  · obtain ⟨hrun, hanswered⟩ := finish_effect (by decide +kernel) hp htakes
      (rfl : _ = ((s.begin t).heard p).setShadow ((s.begin t).heard p).activeGeometry ((s.begin t).heard p).activeEntries 2)
    obtain ⟨-, hg, hb, -, -⟩ := State.banks_congr (finish_banks_of_run (f := fun s => s.access p 0x420007 [1]) hrun)
    obtain ⟨hs, -, -, ha', he'⟩ := State.banks_congr (s := s) (u := (s.begin t).heard p) (State.heard_banks _ _)
    rw [exec_shadowCopyRequest]
    refine answers_act ⟨hanswered, ?_, ?_, ?_⟩
    · rw [State.finish_taken_get (f := fun s => s.access p 0x420007 [1]) hrun (by decide)]
      exact State.setShadow_state _ _ _ (by decide)
    · rw [hg, State.setShadow_geometry _ _ _ (by rw [hs, State.heard_banks]; exact hgeo), ha']
    · rw [hb, State.setShadow_entries _ _ _ (by rw [hs, State.heard_banks]; exact hent), he']

end Sys2Proof.Machine
end

section
set_option Elab.async false
/-!
PROOFS. Carvers, golden tiles and the witness buffer (R32, R135, R346 to R348; O25); housekeeping readings and the power limit (R335, R339,
R355; O26).
-/

namespace Sys2Proof.Machine

/-! ### Bands issued and completed (R346, R347) -/

section Bands

variable {s : State} {i : Nat}

theorem State.notesRendered_lift (l : List Claim) (s : State) : (l.foldl (fun (s : State) x => s.noteRendered x.tile) s).lift = s.lift := by
  induction l generalizing s with
  | nil => rfl
  | cons x l ih => exact ih _

/-- A carver that takes a band holds it, at the placement epoch in force. -/
theorem State.takeBand_carver (h : i < s.lift.carvers.length) (b : Nat × Nat) : ((s.takeBand i b).carver i).bands = (s.carver i).bands + 1
    ∧ ∃ x, ((s.takeBand i b).carver i).band = some x ∧ x.module = b.1 ∧ x.row = b.2 ∧ x.placement = s.get 0x250007 := by
  unfold State.takeBand
  extract_lets cs band c pj s1 placed l s2
  have hlift : (cs.foldl (fun (s : State) x => s.noteRendered x.tile) s2).lift = s2.lift := State.notesRendered_lift cs s2
  have hcarver : (cs.foldl (fun (s : State) x => s.noteRendered x.tile) s2).carver i = { c with band := some band, bands := c.bands + 1 } := by
    unfold State.carver
    rw [hlift]
    exact nth_setNth_self h _ _
  rw [hcarver]
  exact ⟨rfl, band, rfl, rfl, rfl, rfl⟩

theorem State.issueBand_takes {b : Nat × Nat} (hrun : s.power.phase = .run) (husable : s.usable 9 = true) (hacting : s.acting = true)
    (hworks : (s.carver i).working = true) (hactive : (s.carver i).active = true) (hstop : (s.carver i).stopping = false)
    (hband : (s.carver i).band = none) (hbands : (s.carver i).bands < s.get 0x25000A) (hnext : s.nextBand = some b) :
    s.issueBand i = s.takeBand i b := by
  unfold State.issueBand
  dsimp only
  rw [if_pos (by simp [hrun, husable, hacting, hworks, hactive, hstop, hband, hbands]), hnext]

theorem State.giveCodes_lift (l : List (Nat × Nat × List Nat)) (s : State) : (l.foldl State.giveCodes s).lift = s.lift := by
  induction l generalizing s with
  | nil => rfl
  | cons x l ih =>
    refine (ih _).trans ?_
    unfold State.giveCodes
    split
    · rfl
    · split <;> rfl

/-- A result at the epoch of its job's issue leaves the carver without a band. -/
theorem State.completeBand_accepted {x : Band} (h : i < s.lift.carvers.length) (hband : (s.carver i).band = some x)
    (hstop : (s.carver i).stopping = false) : ((s.completeBand i (x.module * 135 + x.row) x.placement).carver i).band = none := by
  have hlift := State.giveCodes_lift x.tiles s
  unfold State.completeBand
  dsimp only
  rw [hband]
  dsimp only
  rw [if_pos ⟨rfl, rfl⟩, hstop, State.tuneIf, if_neg (by decide)]
  exact congrArg Carver.band (nth_setNth_self (by rw [hlift]; exact h) _ _)

theorem State.completeBand_stale {x : Band} {n epoch : Nat} (hband : (s.carver i).band = some x) (hne : epoch ≠ x.placement) :
    s.completeBand i n epoch = s.bump 0x250008 := by
  unfold State.completeBand
  dsimp only
  rw [hband]
  dsimp only
  rw [if_neg fun h => hne h.2.symm]

end Bands

/-! ### Retirement and golden tiles (R32, R347, R348) -/

section Retirement

variable (s : State)

/-- Which carvers work. -/
def Carver.worksOnly (c : Carver) : Carver := { working := c.working }

/-- No carver is retired or comes back. -/
abbrev WorkersKept (s u : State) : Prop :=
  Keeps (fun s => { lift := { carvers := s.lift.carvers.map Carver.worksOnly } }) noObjects s u

theorem WorkersKept.of_carvers {s u : State} (h : u.lift.carvers = s.lift.carvers) : WorkersKept s u :=
  .of_view (congrArg (fun l : List Carver => ({ lift := { carvers := l.map Carver.worksOnly } } : State)) h) fun _ => rfl

theorem nth_map {α β : Type} (f : α → β) (l : List α) (n : Nat) (d : α) : nth (l.map f) n (f d) = f (nth l n d) := by
  simp only [nth, List.getElem?_map]
  cases l[n]? <;> rfl

theorem WorkersKept.working {s u : State} (h : WorkersKept s u) (i : Nat) : (u.carver i).working = (s.carver i).working := by
  have hmap : u.lift.carvers.map Carver.worksOnly = s.lift.carvers.map Carver.worksOnly := congrArg (fun s : State => s.lift.carvers) h.1
  have hone (s : State) : (nth (s.lift.carvers.map Carver.worksOnly) i (Carver.worksOnly {})).working = (s.carver i).working := by
    rw [nth_map]
    rfl
  rw [← hone u, ← hone s, hmap]

theorem setNth_map_same {α β : Type} (f : α → β) (l : List α) (n : Nat) (v d : α) (h : f v = f (nth l n d)) :
    (setNth l n v).map f = l.map f := by
  unfold setNth
  rw [List.map_set, h]
  refine List.ext_getElem? fun j => ?_
  rw [List.getElem?_set]
  split
  · rename_i hj
    subst hj
    split
    · rename_i hlt
      rw [List.length_map] at hlt
      simp [nth, hlt]
    · rename_i hlt
      rw [List.getElem?_eq_none (Nat.le_of_not_lt hlt)]
  · rfl

theorem WorkersKept.setCarver (i : Nat) {c : Carver} (h : c.working = (s.carver i).working) : WorkersKept s (s.setCarver i c) :=
  .of_view (congrArg (fun l : List Carver => ({ lift := { carvers := l } } : State))
    (setNth_map_same _ _ _ _ {} (by unfold Carver.worksOnly; rw [h]; rfl))) fun _ => rfl

theorem WorkersKept.nextPlacement : WorkersKept s s.nextPlacement := .of_carvers rfl

theorem WorkersKept.tuneCarver (i : Nat) : WorkersKept s (s.tuneCarver i) :=
  .ite (.trans (WorkersKept.setCarver s i (c := { s.carver i with active := true, stopping := false }) rfl) (WorkersKept.nextPlacement _))
    (.ite (WorkersKept.setCarver s i rfl) (.ite (.refl s) (.ite (WorkersKept.setCarver s i rfl)
      (.trans (WorkersKept.setCarver s i (c := { s.carver i with active := false, stopping := false }) rfl) (WorkersKept.nextPlacement _)))))

theorem WorkersKept.applyCap : WorkersKept s s.applyCap := .ite (Keeps.foldl (fun s i => WorkersKept.tuneCarver s i) _ s) (.refl s)

theorem WorkersKept.takeBand (i : Nat) (b : Nat × Nat) : WorkersKept s (s.takeBand i b) := by
  unfold State.takeBand
  extract_lets cs band c pj s1 placed l s2
  have h1 : WorkersKept s s1 := WorkersKept.setCarver s i rfl
  have h2 : WorkersKept s1 s2 := WorkersKept.of_carvers rfl
  exact .trans (.trans h1 h2) (WorkersKept.of_carvers (congrArg Lift.carvers (State.notesRendered_lift cs s2)))

theorem WorkersKept.reissueBand (b : Band) : WorkersKept s (s.reissueBand b) := by
  unfold State.reissueBand
  dsimp only
  split
  · exact .trans (u := s.bump 0x250009) (WorkersKept.of_carvers rfl) (WorkersKept.takeBand _ _ _)
  · exact WorkersKept.of_carvers rfl

theorem WorkersKept.addRepair (e : Bytes) : WorkersKept s (s.addRepair e) := by
  refine WorkersKept.of_carvers ?_
  unfold State.addRepair State.storeTrims
  dsimp only
  split_ifs <;> rfl

theorem WorkersKept.reported {s u : State} (h : Reported s u) : WorkersKept s u :=
  .of_view (congrArg (fun s : State => ({ lift := { carvers := s.lift.carvers.map Carver.worksOnly } } : State)) (a₁ := u.core) (a₂ := s.core) h.1)
    fun _ => rfl

/-- The carver is out of use, and the rest of its retirement follows. -/
def State.carverOut (s : State) (i : Nat) : State :=
  s.setCarver i { s.carver i with working := false, active := false, stopping := false, band := none, since := [] }

theorem State.retireCarver_kept {s : State} {i : Nat} (h : (s.carver i).working = true) : WorkersKept (s.carverOut i) (s.retireCarver i) := by
  unfold State.retireCarver
  dsimp only
  rw [h, if_neg (by decide)]
  refine .trans ?_ (WorkersKept.applyCap _)
  refine .trans ?_ (WorkersKept.reported (Reported.follow (by decide) _ _ _))
  have hout : WorkersKept (s.carverOut i) (((s.carverOut i).nextPlacement.raise 3 1 i).mark (s.carver i).since) :=
    .trans (.trans (WorkersKept.nextPlacement _) (WorkersKept.reported (Reported.raise (by decide) _ _))) (WorkersKept.of_carvers rfl)
  have hrepaired := (hout.trans (WorkersKept.addRepair _ [4, BitVec.ofNat 8 i])).trans (u := _)
    (WorkersKept.of_carvers (s := (((s.carverOut i).nextPlacement.raise 3 1 i).mark (s.carver i).since).addRepair [4, BitVec.ofNat 8 i])
      (u := { (((s.carverOut i).nextPlacement.raise 3 1 i).mark (s.carver i).since).addRepair [4, BitVec.ofNat 8 i] with
        pair := { ((((s.carverOut i).nextPlacement.raise 3 1 i).mark (s.carver i).since).addRepair [4, BitVec.ofNat 8 i]).pair with goldenAll := false } }) rfl)
  split
  · exact hrepaired.trans (WorkersKept.reissueBand _ _)
  · exact hrepaired

theorem State.carverOut_working {s : State} {i : Nat} (h : i < s.lift.carvers.length) : ((s.carverOut i).carver i).working = false :=
  congrArg Carver.working (nth_setNth_self h _ _)

theorem State.retireCarver_working {s : State} {i : Nat} (h : i < s.lift.carvers.length) (hw : (s.carver i).working = true) :
    ((s.retireCarver i).carver i).working = false := ((State.retireCarver_kept hw).working i).trans (State.carverOut_working h)

/-- A golden tile of an active carver is judged by its CRC. -/
theorem State.goldenTile_judged {s : State} {i crc : Nat} (hrun : s.power.phase = .run) (husable : s.usable 9 = true)
    (hworks : (s.carver i).working = true) (hactive : (s.carver i).active = true) : s.goldenTile i crc =
      if crc = Config.goldenTileCrc then s.setCarver i { s.carver i with bands := 0, since := [] } else (s.bump 0x25000B).retireCarver i := by
  unfold State.goldenTile
  rw [if_neg (by simp [hrun, husable, hworks, hactive])]

/-! ### The witness buffer (R135) -/

theorem State.requestMotion_kept (n : Nat) : (s.requestMotion n).regs = s.regs ∧ (s.requestMotion n).scene = s.scene
    ∧ (s.requestMotion n).media.witness = s.media.witness := by
  unfold State.requestMotion
  extract_lets st job queue u
  split
  · exact ⟨rfl, rfl, rfl⟩
  · exact ⟨rfl, rfl, rfl⟩

theorem State.requestMotions_kept (source : Nat) : (s.requestMotions source).regs = s.regs ∧ (s.requestMotions source).scene = s.scene
    ∧ (s.requestMotions source).media.witness = s.media.witness := by
  unfold State.requestMotions
  induction (List.range 24).filter fun n => s.get (streamK n 3) == source generalizing s with
  | nil => exact ⟨rfl, rfl, rfl⟩
  | cons n l ih =>
    obtain ⟨hregs, hscene, hwitness⟩ := s.requestMotion_kept n
    obtain ⟨hregs', hscene', hwitness'⟩ := ih (s.requestMotion n)
    exact ⟨hregs'.trans hregs, hscene'.trans hscene, hwitness'.trans hwitness⟩

/-- A witness buffer that is complete is counted and shown, and the next begins empty. -/
theorem State.completeWitness_shown {s : State} {g : Geometry} (hg : s.geometry = some g) (hon : s.get 0x410011 ≠ 0) :
    s.completeWitness.get 0x410015 = (s.get 0x410015 + 1) % 2 ^ 32 ∧ s.completeWitness.scene.witness = []
      ∧ ∃ w, s.completeWitness.media.witness = some w ∧ w.width = s.witnessSize.1 ∧ w.height = s.witnessSize.2 := by
  unfold State.completeWitness
  rw [hg]
  dsimp only
  rw [if_neg hon]
  obtain ⟨hregs, hscene, hwitness⟩ := State.requestMotions_kept _ 0x10
  rw [State.get_congr hregs, hscene, hwitness]
  exact ⟨State.get_bump_32 s (by decide +kernel), rfl, _, rfl, rfl, rfl⟩

end Retirement

/-- Settles O25, command by command. -/
theorem carversWorkAndAreChecked : Obligations.CarversWorkAndAreChecked := by
  refine ⟨fun s t i hi hlt => ⟨fun b hrun husable hacting hworks hactive hstop hband hbands hnext => ?_, fun x hband hstop => ⟨?_, fun epoch hne => ?_⟩⟩,
    fun s t i hi hlt => ⟨fun hrun husable hworks hactive => ⟨?_, fun crc hne => ?_⟩, fun hworks => ?_, fun g hg hon => ?_⟩⟩
  · rw [exec_tileBandIssue]
    refine answers_actIf (decide_eq_true hi) ?_
    have htakes : (s.begin t).issueBand i = (s.begin t).takeBand i b :=
      State.issueBand_takes hrun husable hacting hworks hactive hstop hband hbands hnext
    unfold State.carver
    rw [State.finish_lift, htakes]
    exact State.takeBand_carver (s := s.begin t) hlt b
  · rw [exec_tileBandComplete]
    refine answers_actIf (decide_eq_true hi) ?_
    unfold State.carver
    rw [State.finish_lift]
    exact State.completeBand_accepted (s := s.begin t) hlt hband hstop
  · have hstale : (s.begin t).completeBand i (x.module * 135 + x.row) epoch = (s.begin t).bump 0x250008 := State.completeBand_stale hband hne
    rw [exec_tileBandComplete]
    refine answers_actIf (decide_eq_true hi) ?_
    rw [State.get_finish _ _ _ (by decide) (by decide), State.finish_link, State.finish_lift, hstale]
    exact ⟨State.get_bump_32 _ (by decide +kernel), rfl, rfl⟩
  · have hgood : (s.begin t).goldenTile i Config.goldenTileCrc = (s.begin t).setCarver i { s.carver i with bands := 0, since := [] } := by
      rw [State.goldenTile_judged (s := s.begin t) hrun husable hworks hactive, if_pos rfl]
      rfl
    rw [exec_goldenTile]
    refine answers_actIf (decide_eq_true hi) ?_
    unfold State.carver
    rw [State.finish_lift, hgood]
    have hself := nth_setNth_self (l := s.lift.carvers) hlt { s.carver i with bands := 0, since := [] } {}
    exact ⟨congrArg Carver.bands hself, (congrArg Carver.working hself).trans hworks⟩
  · have hbad : (s.begin t).goldenTile i crc = ((s.begin t).bump 0x25000B).retireCarver i := by
      rw [State.goldenTile_judged (s := s.begin t) hrun husable hworks hactive, if_neg hne]
    rw [exec_goldenTile]
    refine answers_actIf (decide_eq_true hi) ?_
    unfold State.carver
    rw [State.finish_lift, hbad]
    exact State.retireCarver_working (s := (s.begin t).bump 0x25000B) hlt hworks
  · rw [exec_carverFault]
    refine answers_actIf (decide_eq_true hi) ?_
    unfold State.carver
    rw [State.finish_lift]
    exact State.retireCarver_working (s := s.begin t) hlt hworks
  · rw [exec_witnessBufferComplete]
    refine answers_act ?_
    rw [State.get_finish _ _ _ (by decide) (by decide), State.finish_scene, State.finish_media]
    exact State.completeWitness_shown (s := s.begin t) hg hon

/-! ### Housekeeping readings (R335) -/

section Housekeeping

variable (s : State)

/-- The readings of the channels are kept. -/
abbrev ReadingsKept (s u : State) : Prop := Keeps (fun s => { lift := { readings := s.lift.readings } }) noObjects s u

theorem ReadingsKept.of_readings {s u : State} (h : u.lift.readings = s.lift.readings) : ReadingsKept s u :=
  .of_view (congrArg (fun l : List (Option Nat) => ({ lift := { readings := l } } : State)) h) fun _ => rfl

theorem ReadingsKept.of_lift {s u : State} (h : u.lift = s.lift) : ReadingsKept s u := .of_readings (congrArg Lift.readings h)

theorem ReadingsKept.excludeSensor (i : Nat) : ReadingsKept s (s.excludeSensor i) := by
  unfold State.excludeSensor
  refine .ite (.refl s) ?_
  dsimp only
  exact .trans (.trans (u := { s with lift := { s.lift with invalid := setNth s.lift.invalid i true } }) (ReadingsKept.of_readings rfl)
    (ReadingsKept.of_lift (State.put_lift _ 0x212004 _))) (ReadingsKept.of_lift (State.raiseCore_lift _ _ _ _ _))

theorem ReadingsKept.judgeSensor (i : Nat) : ReadingsKept s (s.judgeSensor i) := by
  unfold State.judgeSensor
  split
  · exact .refl s
  · refine .ite (.refl s) (.ite (ReadingsKept.excludeSensor s i) ?_)
    dsimp only
    exact .trans (u := { s with lift := { s.lift with outliers := setNth s.lift.outliers i _ } }) (ReadingsKept.of_readings rfl)
      (.ite (.refl _) (ReadingsKept.excludeSensor _ i))

theorem ReadingsKept.judgeRail (r : Nat) : ReadingsKept s (s.judgeRail r) := by
  unfold State.judgeRail
  extract_lets w v out no ni l u
  have hwindows : ReadingsKept s u := ReadingsKept.of_readings rfl
  exact .trans hwindows (.ite (ReadingsKept.of_lift (State.onset_lift _ _ _ _)) (.ite (ReadingsKept.of_lift (State.settle_lift _ _ _ _)) (.refl u)))

theorem State.stopPlls_lift : s.stopPlls.lift = s.lift := by
  unfold State.stopPlls heldDomains
  simp only [List.foldl_cons, List.foldl_nil]
  rfl

theorem State.setPhase_lift (ph : Phase) : (s.setPhase ph).lift = s.lift := by
  unfold State.setPhase
  dsimp only
  split
  · rfl
  · exact State.beaconAdd_lift _ _ _ _ _

theorem MediaOnly.lift {s u : State} (h : MediaOnly s u) : u.lift = s.lift := h.field_of (field := fun s : State => s.lift) fun _ => rfl

theorem ReadingsKept.enterHold : ReadingsKept s s.enterHold := by
  unfold State.enterHold
  split
  · refine .trans ?_ (ReadingsKept.of_lift (State.setPhase_lift _ _))
    refine .trans ?_ (ReadingsKept.of_lift (State.stopPlls_lift _))
    exact .trans (u := s.stopCarvers) (ReadingsKept.of_readings rfl) (ReadingsKept.of_lift (MediaOnly.haltMedia _).lift)
  · exact ReadingsKept.of_lift (State.setPhase_lift _ _)
  · exact ReadingsKept.of_lift (State.setPhase_lift _ _)
  · exact ReadingsKept.of_lift (State.stopPlls_lift _)

theorem ReadingsKept.trip : ReadingsKept s s.trip := by
  unfold State.trip
  refine .ite (.refl s) ?_
  extract_lets u v
  have hraised : ReadingsKept s ((s.bump 0x21100A).onset 1 2) :=
    .trans (ReadingsKept.of_lift (State.bump_lift s 0x21100A 1)) (ReadingsKept.of_lift (State.onset_lift _ 1 2 0))
  have hlimit : ReadingsKept s v :=
    .trans (.trans hraised (ReadingsKept.of_lift (State.put_lift _ 0x211002 6000))) (ReadingsKept.of_lift (State.put_lift u 0x211008 _))
  exact .trans (.trans (u := { v with power := { v.power with tripHold := true, coolSince := none, tripFromRun := v.fromRun, slowStart := true } })
    hlimit (ReadingsKept.of_readings rfl)) (ReadingsKept.enterHold _)

theorem ReadingsKept.judgeTemperature : ReadingsKept s s.judgeTemperature := by
  have hhottest : ReadingsKept s s.hottest.followCooling := by
    unfold State.hottest
    split <;> exact ReadingsKept.of_lift rfl
  exact .trans hhottest (.ite (ReadingsKept.trip _) (.refl _))

theorem ReadingsKept.endRound : ReadingsKept s s.endRound := by
  have hcounted : ReadingsKept s (s.bump 0x212005) := ReadingsKept.of_lift rfl
  refine .trans hcounted (.ite (.refl _) ?_)
  have hmeasured (u : State) : ReadingsKept u (u.put 0x211004 u.measuredPower) := ReadingsKept.of_lift rfl
  refine .trans (hmeasured _) (.ite (.refl _) (.trans ?_ (ReadingsKept.judgeTemperature _)))
  exact .trans (Keeps.foldl (fun s i => ReadingsKept.judgeSensor s i) (List.range 12) _)
    (Keeps.foldl (fun s r => ReadingsKept.judgeRail s r) (List.range 10) _)

/-- What is kept of a channel's reading. -/
def kept (ch reading : Nat) : Nat := if ch < 12 then roundSensor reading else reading % 65536

theorem State.housekeeping_reading {s : State} {ch reading : Nat} (hlt : ch < s.lift.readings.length) (hr : s.power.phase ≠ .reset)
    (ho : s.power.phase ≠ .off) : nth (s.housekeeping ch reading).lift.readings ch none = some (kept ch reading) := by
  have hset : nth ({ s with lift := { s.lift with readings := setNth s.lift.readings ch (some (kept ch reading)) } } : State).lift.readings ch none
      = some (kept ch reading) := nth_setNth_self hlt _ _
  have hkept : ReadingsKept { s with lift := { s.lift with readings := setNth s.lift.readings ch (some (kept ch reading)) } }
      (s.housekeeping ch reading) := by
    unfold State.housekeeping
    split
    · contradiction
    · contradiction
    · exact .trans (.trans (.ite (ReadingsKept.excludeSensor _ _) (.refl _)) (.ite (ReadingsKept.judgeTemperature _) (.refl _)))
        (.ite (ReadingsKept.endRound _) (.refl _))
  rw [hkept.field_of (field := fun s : State => s.lift.readings) fun _ => rfl]
  exact hset

/-! ### The effective limit (R339, R355) -/

/-- The objects of the two limits and of the DRAM state that follows them. -/
def limitObjects (k : Nat) : Bool := k == 0x211001 || k == 0x211002 || k == 0x211007

/-- The limits are kept. -/
abbrev LimitsKept (s u : State) : Prop := Keeps (fun _ => {}) limitObjects s u

theorem LimitsKept.reported {s u : State} (h : Reported s u) : LimitsKept s u :=
  ⟨rfl, fun k hk => h.2 k (by
    simp only [limitObjects, Bool.or_eq_true, beq_iff_eq] at hk
    rcases hk with (rfl | rfl) | rfl <;> decide)⟩

theorem LimitsKept.atConfigured : LimitsKept s s.atConfigured :=
  .ite (.trans (.put (k := 0x211008) rfl s _) (LimitsKept.reported (Reported.settleAll _ _ _))) (.refl s)

theorem LimitsKept.tuneCarver (i : Nat) : LimitsKept s (s.tuneCarver i) := by
  have hset (s : State) (c : Carver) : LimitsKept s (s.setCarver i c) := .of_regs rfl rfl
  have hnext (s : State) : LimitsKept s s.nextPlacement := .put (k := 0x250007) rfl s _
  exact .ite (.trans (hset s _) (hnext _)) (.ite (hset s _) (.ite (.refl s) (.ite (hset s _) (.trans (hset s _) (hnext _)))))

theorem LimitsKept.applyCap : LimitsKept s s.applyCap := .ite (Keeps.foldl (fun s i => LimitsKept.tuneCarver s i) _ s) (.refl s)

theorem LimitsKept.followFloorPower : LimitsKept s s.followFloorPower := by
  have hsince (s : State) (o : Option Nat) : LimitsKept s { s with lift := { s.lift with overSince := o } } := .of_regs rfl rfl
  exact .ite (.trans (hsince s _) (.ite (LimitsKept.reported (Reported.onset (by decide) _ _)) (.refl _)))
    (.trans (hsince s _) (.ite (LimitsKept.reported (Reported.settle _ _ _ _)) (.refl _)))

theorem width_limit : widthOf 0x211001 = 16 ∧ widthOf 0x211002 = 16 ∧ widthOf 0x211007 = 8 := by decide +kernel

/-- The level that follows the limit leaves the limit as it is, and shows its DRAM state. -/
theorem State.applyLevel_get : s.applyLevel.get 0x211001 = s.get 0x211001 ∧ s.applyLevel.get 0x211002 = s.get 0x211002
    ∧ s.applyLevel.get 0x211007 = (ploughLevel (s.get 0x211002)).2.2 := by
  have hstate : (ploughLevel (s.get 0x211002)).2.2 % 2 ^ 8 = (ploughLevel (s.get 0x211002)).2.2 := by
    unfold ploughLevel
    split_ifs <;> rfl
  unfold State.applyLevel
  extract_lets l m cap clock
  have hcap := LimitsKept.applyCap (((s.put 0x211005 cap).put 0x211006 clock).put 0x211007 l.2.2)
  rw [hcap.2 _ rfl, hcap.2 _ rfl, hcap.2 _ rfl, State.get_put_self, width_limit.2.2, hstate]
  refine ⟨?_, ?_, rfl⟩
  · rw [State.get_put_ne _ (by decide), State.get_put_ne _ (by decide), State.get_put_ne _ (by decide)]
  · rw [State.get_put_ne _ (by decide), State.get_put_ne _ (by decide), State.get_put_ne _ (by decide)]

/-- A hot sensor brings the limit down by one step. -/
theorem State.ploughStep_down {s : State} (hhot : (s.validReadings.any fun v => decide (s.geti 16 0x211003 ≤ v)) = true)
    (hfloor : 6000 < s.get 0x211002) (hlt : s.get 0x211002 < 2 ^ 16) : s.ploughStep.get 0x211002 = max 6000 (s.get 0x211002 - 500) := by
  unfold State.ploughStep
  extract_lets eff hot over_ s1 s2 s3
  have hh : hot = true := hhot
  have heff : eff = s.get 0x211002 := rfl
  rw [hh, Bool.true_or, if_pos rfl, if_neg (Nat.not_le.mpr hfloor), if_pos rfl]
  rw [(LimitsKept.reported (Reported.onset (by decide) _ _)).2 _ rfl]
  have h2 : s2.get 0x211002 = max 6000 (s.get 0x211002 - 500) := by
    refine (State.get_bump_ne _ (by decide) _).trans ((State.get_put_self _ _ _).trans ?_)
    rw [width_limit.2.1, heff, Nat.mod_eq_of_lt (by omega)]
  exact (State.get_put_ne _ (by decide) _).trans h2

/-- 16 ms clear bring the limit up by one step. -/
theorem State.ploughStep_up {s : State} (hcool : (s.validReadings.any fun v => decide (s.geti 16 0x211003 ≤ v)) = false)
    (hpower : s.get 0x211004 ≤ s.get 0x211002) (hbelow : s.get 0x211002 < s.get 0x211001) (hlt : s.get 0x211001 < 2 ^ 16)
    (hclear : s.lift.clearSince + 16000000 ≤ s.now) : s.ploughStep.get 0x211002 = min (s.get 0x211001) (s.get 0x211002 + 500) := by
  unfold State.ploughStep
  extract_lets eff hot over_
  have hh : hot = false := hcool
  have ho : over_ = false := decide_eq_false (Nat.not_lt.mpr hpower)
  rw [hh, ho, if_neg (by decide), if_pos ⟨hbelow, hclear⟩, (LimitsKept.atConfigured _).2 _ rfl]
  refine (State.get_congr rfl _).trans ((State.get_put_self _ _ _).trans ?_)
  have heff : eff = s.get 0x211002 := rfl
  rw [width_limit.2.1, heff, Nat.mod_eq_of_lt (by omega)]

/-- The state in which an evaluation takes its step. -/
def State.evaluated (s : State) : State :=
  let s := { s with lift := { s.lift with powerSum := s.lift.powerSum + s.get 0x211004, powerCount := s.lift.powerCount + 1 } }
  s.put 0x211008 (bitsClear (s.get 0x211008) 4)

theorem State.evaluate_steps {s : State} (hacts : s.ploughActs = true) (hround : s.roundDone = true) (hforced : s.forced = false) :
    s.evaluate = s.evaluated.ploughStep.followFloorPower.applyLevel := by
  unfold State.evaluate
  rw [hacts, hround, if_neg (by decide)]
  extract_lets l u v
  have hu : u.forced = false := hforced
  have hv : v = s.evaluated.ploughStep := if_neg (by rw [hu]; decide)
  rw [hv]

theorem State.get_evaluate {s : State} (hacts : s.ploughActs = true) (hround : s.roundDone = true) (hforced : s.forced = false) :
    s.evaluate.get 0x211002 = s.evaluated.ploughStep.get 0x211002 := by
  rw [State.evaluate_steps hacts hround hforced, (State.applyLevel_get _).2.1, (LimitsKept.followFloorPower _).2 _ rfl]

theorem State.get_evaluated {k : Nat} (h : k ≠ 0x211008) : s.evaluated.get k = s.get k := (State.get_put_ne _ h _).trans rfl

/-- A lower configured limit holds at once. -/
theorem State.setLimit_get {s : State} {mw : Nat} (hmw : mw < 2 ^ 16) : (s.setLimit mw).get 0x211001 = mw
    ∧ (s.setLimit mw).get 0x211002 = min mw (s.get 0x211002) ∧ (s.setLimit mw).get 0x211007 = (ploughLevel (min mw (s.get 0x211002))).2.2 := by
  unfold State.setLimit
  extract_lets old s1 s2 s3
  have h1 : s1.get 0x211001 = mw ∧ s1.get 0x211002 = s.get 0x211002 := by
    refine ⟨(State.get_put_self _ _ _).trans ?_, State.get_put_ne _ (by decide) _⟩
    rw [width_limit.1, Nat.mod_eq_of_lt hmw]
  have h2 : s2.get 0x211001 = mw ∧ s2.get 0x211002 = min mw (s.get 0x211002) := by
    have hs2 : s2 = if mw < s1.get 0x211002 then s1.put 0x211002 mw else s1 := rfl
    rw [hs2, h1.2]
    split
    · rename_i hless
      refine ⟨(State.get_put_ne _ (by decide) _).trans h1.1, (State.get_put_self _ _ _).trans ?_⟩
      rw [width_limit.2.1, Nat.mod_eq_of_lt hmw, Nat.min_eq_left hless.le]
    · rename_i hless
      rw [Nat.min_eq_right (Nat.not_lt.mp hless)]
      exact h1
  have h3 : LimitsKept s2 s3 := .ite (LimitsKept.atConfigured s2) (.refl s2)
  rw [(State.applyLevel_get s3).1, (State.applyLevel_get s3).2.1, (State.applyLevel_get s3).2.2, h3.2 _ rfl, h3.2 _ rfl, h2.1, h2.2]
  exact ⟨rfl, rfl, rfl⟩

end Housekeeping

/-- Settles O26, clause by clause. -/
theorem housekeepingAndThePloughFollow : Obligations.HousekeepingAndThePloughFollow := by
  refine fun s t => ⟨fun ch reading hch hlt hr ho => ?_, fun hacts hround hforced hhot hfloor hlt => ?_,
    fun hacts hround hforced hcool hpower hbelow hlt hclear => ?_, fun p mw hp hmw htakes _ => ?_⟩
  · rw [exec_housekeepingSlot]
    refine answers_actIf (decide_eq_true hch) ?_
    rw [State.finish_lift]
    exact State.housekeeping_reading (s := s.begin t) hlt hr ho
  · rw [exec_ploughEvaluation]
    refine answers_act ?_
    rw [State.get_finish _ _ _ (by decide) (by decide), State.get_evaluate (s := s.begin t) hacts hround hforced]
    have heff : (s.begin t).evaluated.get 0x211002 = s.get 0x211002 := State.get_evaluated _ (by decide)
    have hset : (s.begin t).evaluated.get 0x211003 = s.get 0x211003 := State.get_evaluated _ (by decide)
    rw [State.ploughStep_down (by unfold State.geti at hhot ⊢; rw [hset]; exact hhot) (by rw [heff]; exact hfloor) (by rw [heff]; exact hlt), heff]
  · rw [exec_ploughEvaluation]
    refine answers_act ?_
    rw [State.get_finish _ _ _ (by decide) (by decide), State.get_evaluate (s := s.begin t) hacts hround hforced]
    have heff : (s.begin t).evaluated.get 0x211002 = s.get 0x211002 := State.get_evaluated _ (by decide)
    have hset : (s.begin t).evaluated.get 0x211003 = s.get 0x211003 := State.get_evaluated _ (by decide)
    have hcfg : (s.begin t).evaluated.get 0x211001 = s.get 0x211001 := State.get_evaluated _ (by decide)
    have hmeasured : (s.begin t).evaluated.get 0x211004 = s.get 0x211004 := State.get_evaluated _ (by decide)
    rw [State.ploughStep_up (by unfold State.geti at hcool ⊢; rw [hset]; exact hcool) (by rw [hmeasured, heff]; exact hpower)
      (by rw [heff, hcfg]; exact hbelow) (by rw [hcfg]; exact hlt) hclear, heff, hcfg]
  · obtain ⟨hrun, hanswered⟩ := finish_effect (by decide +kernel) hp htakes (rfl : _ = ((s.begin t).heard p).setLimit (leNat (leBytes 2 mw)))
    rw [leNat_leBytes, Nat.mod_eq_of_lt (by omega)] at hrun
    obtain ⟨hcfg, heff, hlevel⟩ := State.setLimit_get (s := (s.begin t).heard p) hmw
    rw [exec_powerLimit]
    refine answers_act ⟨hanswered, ?_⟩
    have hget (k : Nat) (hk : k ≠ 0x204005 ∧ k ≠ 0x201005) := State.finish_taken_get (f := fun s => s.access p 0x211001 (leBytes 2 mw)) hrun hk
    rw [hget _ (by decide), hget _ (by decide), hget _ (by decide), hcfg, heff, hlevel, State.get_heard]
    exact ⟨rfl, rfl, rfl⟩

end Sys2Proof.Machine
end

section
set_option Elab.async false
/-!
PROOFS. What goes out on the panel link's lanes, and READ and CONTROL packets (R141, R150, R172, R175, R182, R185, R194; O33).
-/

namespace Sys2Proof.Machine

/-! ### The wire (R140, R141) -/

/-- The link without its lanes: their map, what is driven on them, and what has been sent on them since the last deskew set. -/
def Link.sansLanes (l : Link) : Link :=
  { l with
    deskew := 0, map := [], nextMap := none, driven := [], disparity := [], prbs := 0, frameSymbols := 0, setSymbols := 0, setsAhead := 0 }

/-- The objects other than the count of bytes. -/
def besideBytes (k : Nat) : Bool := k != 0x480015

/-- The lanes alone, and what is sent on them, are changed. -/
abbrev WireOnly (s u : State) : Prop :=
  Keeps (fun s => { s with out := [], regs := [], link := s.link.sansLanes }) besideBytes s u

section Wire

variable (s : State)

/-- A change of the lanes. -/
theorem WireOnly.lanes (l : Link) (h : l.sansLanes = s.link.sansLanes := by rfl) : WireOnly s { s with link := l } :=
  .of_regs (congrArg (fun l : Link => { s with out := [], regs := [], link := l }) h) rfl

theorem WireOnly.drive (l : List (Nat × List Symbol)) : WireOnly s (s.drive l) := .of_regs rfl rfl

theorem WireOnly.driveAll (lanes : List Nat) (l : List Symbol) : WireOnly s (s.driveAll lanes l) := .of_regs rfl rfl

theorem WireOnly.driveOnly (lanes : List Nat) : WireOnly s (s.driveOnly lanes) := .of_regs rfl rfl

theorem WireOnly.burstOut (lanes : List Nat) : WireOnly s (s.burstOut lanes) := .of_regs rfl rfl

theorem WireOnly.applyMap : WireOnly s s.applyMap := by
  unfold State.applyMap
  split
  · exact .refl s
  next m _ =>
    exact .trans (WireOnly.lanes s { s.link with map := m, nextMap := none }) (.ite (.refl _) (.trans (.ite (.refl _) (WireOnly.burstOut _ _)) (WireOnly.driveOnly _ _)))

theorem WireOnly.burst (lanes : List Nat) : WireOnly s (s.burst lanes) := .trans (WireOnly.burstOut s lanes) (WireOnly.applyMap _)

theorem WireOnly.endInterval : WireOnly s s.endInterval := .trans (.of_regs rfl rfl) (WireOnly.applyMap _)

theorem WireOnly.dealOut (l : List (List Symbol)) : WireOnly s (s.dealOut l) := by
  unfold State.dealOut
  dsimp only
  refine .ite (.trans (WireOnly.drive s _) (WireOnly.lanes _ _)) ?_
  refine .trans ?_ (WireOnly.lanes _ _)
  refine .trans ?_ (WireOnly.drive _ _)
  refine .trans ?_ (WireOnly.endInterval _)
  exact .trans (WireOnly.drive s _) (WireOnly.lanes _ _)

theorem WireOnly.onLink (p : Packet) : WireOnly s (s.onLink p) := by
  unfold State.onLink
  dsimp only
  exact .trans (.trans (.trans (WireOnly.dealOut s _) (Keeps.send _ _)) (Keeps.bump rfl _ _)) (WireOnly.lanes _ _)

theorem OutGrows.applyMap : OutGrows s s.applyMap := by
  unfold State.applyMap
  split
  · exact List.prefix_rfl
  · dsimp only
    split
    · exact List.prefix_rfl
    · split
      · exact OutGrows.drive _ _
      · exact ((OutGrows.send _ _).trans (OutGrows.drive _ _)).trans (OutGrows.drive _ _)

theorem OutGrows.endInterval : OutGrows s s.endInterval := by
  unfold State.endInterval
  extract_lets sets l s1 p l2 s2 s3
  clear_value p
  have h1 : OutGrows s s1 := List.prefix_append _ _
  have h2 : OutGrows s1 s2 := OutGrows.drive _ _
  have h3 : OutGrows s2 s3 := (OutGrows.send _ _).trans (OutGrows.drive _ _)
  exact ((h1.trans h2).trans h3).trans (OutGrows.applyMap s3.countSet)

theorem OutGrows.dealOut (l : List (List Symbol)) : OutGrows s (s.dealOut l) := by
  unfold State.dealOut
  extract_lets n room s0 l0 s1 l1 s2 s3
  split
  · exact OutGrows.drive s _
  · have h1 : OutGrows s s1 := OutGrows.drive s _
    have h2 : OutGrows s1 s2 := OutGrows.endInterval { s1 with link := { l1 with setSymbols := 1020, setsAhead := l1.setsAhead + 1 } }
    have h3 : OutGrows s2 s3 := OutGrows.drive s2 _
    exact (h1.trans h2).trans h3

theorem OutGrows.onLink (p : Packet) : OutGrows s (s.onLink p) := by
  have hdealt := OutGrows.dealOut s (dealLanes s.link.map.length (framedSymbols s.link.map.length p.bytes))
  unfold State.onLink
  generalize s.dealOut (dealLanes s.link.map.length (framedSymbols s.link.map.length p.bytes)) = u at hdealt ⊢
  exact hdealt.trans (OutGrows.send u _)

theorem State.mem_onLink (p : Packet) : Out.maelwin p.bytes ∈ (s.onLink p).out := List.mem_append_right _ (List.mem_singleton_self _)

/-! ### A packet that goes out (R154) -/

/-- A packet as it is sent the first time. -/
def State.stamped (s : State) (epoch : Nat) (p : Packet) : Packet := { p with seq := s.link.nextSeq, epoch, sentAt := s.now, sends := 1 }

/-- The link once a packet has gone out: it is held for its acknowledgement, and a READ counts from now. -/
def Link.holding (l : Link) (p : Packet) (now : Nat) : Link :=
  { l with
    nextSeq := (l.nextSeq + 1) % 65536, retry := l.retry ++ [p]
    reads := if p.kind = 4 then l.reads.map fun (o : OpenRead) => if o.tag = p.spec / 256 % 256 ∧ o.module = p.module then { o with at_ := now } else o
      else l.reads }

theorem State.onLink_link (p : Packet) : (s.onLink p).link.sansLanes = s.link.sansLanes ∧ (s.onLink p).now = s.now :=
  ⟨(WireOnly.onLink s p).field_of (field := fun s : State => s.link.sansLanes) fun _ => rfl,
    (WireOnly.onLink s p).field_of (field := fun s : State => s.now) fun _ => rfl⟩

/-- A packet that goes out changes the lanes, the counts, and what is held for acknowledgement. -/
theorem State.linkEmitAs_link (epoch : Nat) (p : Packet) :
    (s.linkEmitAs epoch p).link.sansLanes = (s.link.sansLanes.holding (s.stamped epoch p) s.now).sansLanes := by
  obtain ⟨hlink, hnow⟩ := s.onLink_link (s.stamped epoch p)
  have hholding : (s.linkEmitAs epoch p).link = (s.onLink (s.stamped epoch p)).link.holding (s.stamped epoch p) (s.onLink (s.stamped epoch p)).now :=
    rfl
  have hsans (l : Link) (q : Packet) (n : Nat) : (l.holding q n).sansLanes = (l.sansLanes.holding q n).sansLanes := rfl
  rw [hholding, hsans, hlink, hnow]

theorem State.linkEmitAs_out (epoch : Nat) (p : Packet) : (s.linkEmitAs epoch p).out = (s.onLink (s.stamped epoch p)).out := rfl

theorem OutGrows.linkEmitAs (epoch : Nat) (p : Packet) : OutGrows s (s.linkEmitAs epoch p) := by
  have h := OutGrows.onLink s (s.stamped epoch p)
  unfold OutGrows at h ⊢
  rwa [State.linkEmitAs_out]

/-- A packet that goes out is held last, with the next number, and its bytes are sent. -/
theorem State.linkEmitAs_sent (epoch : Nat) (p : Packet) : (s.linkEmitAs epoch p).link.retry = s.link.retry ++ [s.stamped epoch p]
    ∧ Out.maelwin (s.stamped epoch p).bytes ∈ (s.linkEmitAs epoch p).out := by
  refine ⟨(congrArg Link.retry (s.linkEmitAs_link epoch p) :), ?_⟩
  rw [State.linkEmitAs_out]
  exact s.mem_onLink _

/-- A packet finds the link up, nothing that waits before it, and room. -/
theorem State.linkSend_of_canSend {n : Nat} (h : s.canSend n = true) {p : Packet} (hp : p.payload.length ≤ n) : s.linkSend p = s.linkEmit p := by
  simp only [State.canSend, Bool.and_eq_true, decide_eq_true_eq] at h
  obtain ⟨⟨⟨⟨hup, hacting⟩, hwaiting⟩, hroom⟩, hcount⟩ := h
  have hstate : s.get 0x480001 = 2 := by
    simp only [State.linkUp, Bool.and_eq_true, beq_iff_eq] at hup
    exact hup.2
  have hsends : s.linkSends = true := by
    unfold State.linkSends
    rw [hacting, hstate]
    rfl
  have hfits : s.linkRoom p = true := by
    simp only [State.linkRoom, Bool.and_eq_true, decide_eq_true_eq]
    exact ⟨by unfold Packet.framed; omega, hcount⟩
  unfold State.linkSend
  rw [hsends, if_neg (by decide), if_pos (by rw [hup, hwaiting, hfits]; rfl)]

/-- A packet that the link has room for is sent. -/
theorem State.linkSend_sent {n : Nat} (h : s.canSend n = true) {kind module spec : Nat} {payload : Bytes} (hp : payload.length ≤ n) :
    (s.linkSend (packetOf kind module spec payload)).sentPacket kind module spec payload := by
  rw [s.linkSend_of_canSend h hp]
  obtain ⟨hretry, hout⟩ := s.linkEmitAs_sent (s.get 0x48000C) (packetOf kind module spec payload)
  refine ⟨s.stamped (s.get 0x48000C) (packetOf kind module spec payload), ?_, rfl, rfl, rfl, rfl, hout⟩
  unfold State.linkEmit
  rw [hretry]
  exact List.mem_append_right _ (List.mem_singleton_self _)

/-- A packet sent in a command has been sent when it ends. -/
theorem State.finish_sentPacket {s : State} {t kind module spec : Nat} {payload : Bytes} {f : State → State}
    (h : (f (s.begin t)).sentPacket kind module spec payload) : (s.finish t f).sentPacket kind module spec payload := by
  obtain ⟨p, hp, hkind, hmodule, hspec, hpayload, hout⟩ := h
  exact ⟨p, by rw [State.finish_link]; exact hp, hkind, hmodule, hspec, hpayload, State.mem_finish_out hout⟩

theorem State.openRead_mem (code module argument expected : Nat) (known : Bool) (frame : Option Nat) :
    ∃ o ∈ (s.openRead code module argument expected known frame).link.reads,
      o.code = code ∧ o.module = module ∧ o.argument = argument ∧ o.tag = s.link.nextTag :=
  ⟨_, List.mem_append_right _ (List.mem_singleton_self _), rfl, rfl, rfl, rfl⟩

/-- A READ that goes out counts from now. -/
theorem State.mem_reads_linkEmit (p : Packet) {o : OpenRead} (h : o ∈ s.link.reads) :
    (if p.kind = 4 ∧ o.tag = p.spec / 256 % 256 ∧ o.module = p.module then { o with at_ := s.now } else o) ∈ (s.linkEmit p).link.reads := by
  have hreads : (s.linkEmit p).link.reads = (s.link.holding (s.stamped (s.get 0x48000C) p) s.now).reads :=
    (congrArg Link.reads (s.linkEmitAs_link (s.get 0x48000C) p) :)
  rw [hreads]
  unfold Link.holding State.stamped
  dsimp only
  by_cases hk : p.kind = 4
  · rw [if_pos hk]
    have := List.mem_map_of_mem (f := fun (o : OpenRead) =>
      if o.tag = p.spec / 256 % 256 ∧ o.module = p.module then { o with at_ := s.now } else o) h
    simpa only [hk, true_and] using this
  · rw [if_neg hk, if_neg fun hand => hk hand.1]
    exact h

/-- A READ goes out with a new tag, and stays open. -/
theorem State.linkRead_sent {module : Nat} (h : s.canSend 0 = true) (code argument expected : Nat) (known : Bool) (frame : Option Nat) :
    (s.linkRead code module argument expected known frame).readSent code module argument := by
  have hopen : (s.openRead code module argument expected known frame).canSend 0 = true := h
  have hsent := State.linkSend_sent (s.openRead code module argument expected known frame) hopen
    (kind := 4) (module := module) (spec := code + 256 * s.link.nextTag + 65536 * argument) (payload := []) (Nat.zero_le _)
  have hreads : ∃ o ∈ ((s.openRead code module argument expected known frame).linkEmit
      (packetOf 4 module (code + 256 * s.link.nextTag + 65536 * argument) [])).link.reads,
        o.code = code ∧ o.module = module ∧ o.argument = argument ∧ o.tag = s.link.nextTag := by
    obtain ⟨o, ho, hcode, hmodule, hargument, htag⟩ := s.openRead_mem code module argument expected known frame
    refine ⟨_, State.mem_reads_linkEmit _ _ ho, ?_⟩
    split
    · exact ⟨hcode, hmodule, hargument, htag⟩
    · exact ⟨hcode, hmodule, hargument, htag⟩
  obtain ⟨o, ho, hcode, hmodule, hargument, htag⟩ := hreads
  refine ⟨o, ?_, hcode, hmodule, hargument, ?_⟩
  · unfold State.linkRead
    rwa [State.linkSend_of_canSend _ hopen (Nat.zero_le _)]
  · rw [htag]
    exact hsent

theorem State.finish_readSent {s : State} {t code module argument : Nat} {f : State → State}
    (h : (f (s.begin t)).readSent code module argument) : (s.finish t f).readSent code module argument := by
  obtain ⟨o, ho, hcode, hmodule, hargument, hsent⟩ := h
  exact ⟨o, by rw [State.finish_link]; exact ho, hcode, hmodule, hargument, State.finish_sentPacket hsent⟩

theorem State.linkUp_of_canSend {n : Nat} (h : s.canSend n = true) : s.linkUp = true := by
  simp only [State.canSend, Bool.and_eq_true] at h
  exact h.1.1.1.1

/-- A window checksum's READ, once the check's time is kept. -/
theorem State.readWindow_sent {m slot : Nat} (h : s.canSend 0 = true) (frame column row columns rows : Nat) :
    (s.readWindow frame m slot column row columns rows).readSent 0x10 m slot := by
  have htimed : (s.timeChecks frame).canSend 0 = true := by
    unfold State.timeChecks
    split
    · exact h
    · exact h
  exact State.linkRead_sent _ htimed _ _ _ _ _

end Wire

/-- What a command leaves depends on what its work makes of the state it begins in. -/
theorem State.finish_congr {s : State} {t : Nat} {f g : State → State} (h : f (s.begin t) = g (s.begin t)) : s.finish t f = s.finish t g := by
  unfold State.finish
  rw [h]

/-- A command on a module of a link that is up. -/
theorem answers_onModule {s : State} {t m : Nat} {f : State → State} {P : State → Prop} (hm : m < 64) (hup : s.linkUp = true)
    (h : P (s.finish t f)) : Answers (onModule m t s f) P := by
  refine answers_actIf (decide_eq_true hm) ?_
  have hrun : (s.finish t fun s => if s.linkUp then f s else s) = s.finish t f := State.finish_congr (if_pos hup)
  rwa [hrun]

section Controls

variable {s : State} {t m : Nat}

/-- A READ on a module. -/
theorem answers_read (hm : m < 64) (h : s.canSend 0 = true) (code argument : Nat) :
    Answers (onModule m t s fun s => s.linkRead code m argument) fun s' => s'.readSent code m argument :=
  answers_onModule hm (State.linkUp_of_canSend _ h) (State.finish_readSent (State.linkRead_sent (s.begin t) h code argument 0 false none))

/-- A CONTROL on a module. -/
theorem answers_control (hm : m < 64) {n command argument : Nat} {payload : Bytes} (h : s.canSend n = true) (hp : payload.length ≤ n) :
    Answers (onModule m t s fun s => s.linkControl command m argument payload) fun s' => s'.sentPacket 5 m (command + 256 * argument) payload :=
  answers_onModule hm (State.linkUp_of_canSend _ h) (State.finish_sentPacket (f := fun s => s.linkControl command m argument payload)
    (State.linkSend_sent (s.begin t) h hp))

end Controls

theorem State.setLoading_loading (s : State) (l : DriveLoad) : (s.setLoading l).loading = some l := rfl

theorem State.finish_loading (s : State) (t : Nat) (f : State → State) : (s.finish t f).loading = (f (s.begin t)).loading := by
  unfold State.loading
  rw [State.finish_care]

/-- A drive table's next chunk goes out. -/
theorem State.sendChunk_sends {s : State} {table length : Nat} {l : DriveLoad} (hl : s.loading = some l) (hlt : l.table = table)
    (hnone : l.committedAt = none) (hone : 1 ≤ length) (hmax : length ≤ 3840) (hfits : l.offset + length ≤ (s.dom (0x490018 + table)).length)
    (hup : s.linkUp = true) : s.sendChunk table l.offset length = (s.linkControl 0x11 0xFF (l.offset + 2097152 * table)
      (((s.dom (0x490018 + table)).drop l.offset).take length)).setLoading { l with offset := l.offset + length } := by
  unfold State.sendChunk
  rw [hl]
  exact if_pos ⟨hlt, rfl, hnone, hone, hmax, hfits, hup⟩

/-- A drive table whose chunks have gone out is committed. -/
theorem State.commitTable_sends {s : State} {table : Nat} {l : DriveLoad} (hl : s.loading = some l) (hlt : l.table = table)
    (hnone : l.committedAt = none) (hoffset : l.offset = (s.dom (0x490018 + table)).length) (hup : s.linkUp = true) :
    s.commitTable table = (s.linkControl 0x12 0xFF table (leBytes 4 l.offset
      ++ leBytes 4 (crc32c (s.dom (0x490018 + table))))).setLoading { l with committedAt := some s.now } := by
  unfold State.commitTable
  rw [hl]
  dsimp only
  rw [if_pos ⟨hlt, hoffset, hnone, hup⟩, ← hoffset]

/-- The modules take a presentation mode. -/
def State.inMode (s : State) (atomic : Bool) : State := { s with link := { s.link with atomic := atomic } }

/-- Settles O33, packet by packet. -/
theorem readsAndControlsAreSent : Obligations.ReadsAndControlsAreSent := by
  refine ⟨fun s t m hm h => ⟨?_, ?_, fun column row hc hr => ?_, fun slot hslot => ?_, ?_, ?_⟩,
    fun s t m hm => ⟨fun slot column row columns rows hslot h => ?_, fun table length l htable hl hlt hnone hone hmax hfits h => ?_,
      fun table l htable hl hlt hnone hoffset h => ?_, fun atomic hset hne hbefore h => ?_, fun h => ?_⟩⟩
  · rw [exec_readHubCapabilities]
    refine answers_act (State.finish_readSent ?_)
    have hup : (s.begin t).linkUp = true := State.linkUp_of_canSend s h
    rw [if_pos hup]
    exact State.linkRead_sent (s.begin t) h 1 0 0 false none
  · rw [exec_readModuleStatus]
    exact answers_read hm h 2 0
  · rw [exec_readTile]
    have := answers_read (t := t) hm h 3 (column % 128 + 128 * (row % 256))
    rwa [Nat.mod_eq_of_lt (by omega : column < 128), Nat.mod_eq_of_lt (by omega : row < 256)] at this ⊢
  · rw [exec_readWindowChecksum]
    refine answers_onModule hm (State.linkUp_of_canSend _ h) (State.finish_readSent ?_)
    split
    · rename_i h0
      subst h0
      exact State.readWindow_sent (s.begin t) h _ _ _ _ _
    · split
      · exact State.readWindow_sent (s.begin t) h _ _ _ _ _
      · have htimed : ((s.begin t).timeChecks ((s.begin t).get 0x285004)).canSend 0 = true := by
          unfold State.timeChecks
          split
          · exact h
          · exact h
        rw [Nat.mod_eq_of_lt hslot]
        exact State.linkRead_sent _ htimed _ _ _ _ _
  · rw [exec_readSenseResult]
    exact answers_read hm h 0x11 0
  · rw [exec_readModuleEvent]
    exact answers_read hm h 0x12 0
  · rw [exec_setWindow, Nat.mod_eq_of_lt hslot]
    exact answers_control hm h (by simp [length_leBytes])
  · have hrun : (s.begin t).sendChunk table l.offset length = ((s.begin t).linkControl 0x11 0xFF (l.offset + 2097152 * table)
        (((s.dom (0x490018 + table)).drop l.offset).take length)).setLoading { l with offset := l.offset + length } :=
      State.sendChunk_sends (s := s.begin t) hl hlt hnone hone hmax hfits (State.linkUp_of_canSend s h)
    rw [exec_driveTableChunk]
    refine answers_actIf (decide_eq_true htable) ⟨State.finish_sentPacket ?_, ?_⟩
    · rw [hrun]
      exact State.linkSend_sent (s.begin t) h (by rw [List.length_take]; exact Nat.min_le_left _ _)
    · rw [State.finish_loading, hrun]
      rfl
  · have hrun : (s.begin t).commitTable table = ((s.begin t).linkControl 0x12 0xFF table
        (leBytes 4 l.offset ++ leBytes 4 (crc32c (s.dom (0x490018 + table))))).setLoading { l with committedAt := some (max s.now t) } :=
      State.commitTable_sends (s := s.begin t) hl hlt hnone hoffset (State.linkUp_of_canSend s h)
    rw [exec_driveTableCommit]
    refine answers_actIf (decide_eq_true htable) ⟨State.finish_sentPacket ?_, ?_⟩
    · rw [hrun]
      exact State.linkSend_sent (s.begin t) h (by simp [length_leBytes])
    · rw [State.finish_loading, hrun]
      rfl
  · have hup : (s.begin t).linkUp = true := State.linkUp_of_canSend s h
    have hmode : ((s.begin t).get 0x490001 == 1) = atomic := by
      rw [State.get_begin, hset]
      cases atomic <;> rfl
    have hbefore' : (s.begin t).link.toPresent.all (fun f => notBefore f (s.begin t).link.modeFrom) = true := hbefore
    have hne' : ((s.begin t).link.atomic != atomic) = true := bne_iff_ne.mpr hne
    rw [exec_presentationMode]
    suffices hsends : ∀ f : State → State, f (s.begin t) = ((s.begin t).linkControl 0x13 0xFF (if atomic then 1 else 0) []).inMode atomic →
        Answers (act t s f) fun s' => s'.sentPacket 5 0xFF (0x13 + 256 * (if atomic then 1 else 0)) [] ∧ s'.link.atomic = atomic by
      refine hsends _ (if_pos ?_)
      rw [hup, hmode, hbefore', hne', beq_self_eq_true]
      rfl
    refine fun f hrun => answers_act ⟨State.finish_sentPacket ?_, ?_⟩
    · rw [hrun]
      exact State.linkSend_sent (s.begin t) (n := 0) h (Nat.zero_le _)
    · rw [State.finish_link, hrun]
      rfl
  · rw [exec_startSensing]
    exact answers_control hm h (argument := 0) (Nat.zero_le _)

end Sys2Proof.Machine
end

section
set_option Elab.async false
/-!
PROOFS. Frame lock (R369; O49).
-/

namespace Sys2Proof.Machine

/-- The device in reset, with frame lock on input 0 all the same. -/
def lockedInReset : State := State.reset.put 0x285003 1

theorem lockEdge_of_not_served {s : State} (h : s.served = false) (input : Nat) : s.lockEdge input = s := by simp [State.lockEdge, h]

/-- Refutes O49: its first clause asks nothing of the phase of power, and before Run no edge of the frame lock is taken (R369 rests on a
device that serves). In reset with input 0 chosen, an edge at 5 ns leaves the latest accepted edge at 0. -/
theorem not_timedPinsFollow : ¬ Obligations.TimedPinsFollow := by
  intro h
  obtain ⟨s', hnext, hedge, -⟩ := ((h lockedInReset 5 0).1 (by decide) (by decide +kernel)).1 rfl
  rw [exec_frameLockEdge] at hnext
  obtain rfl := eq_finish_of_actIf hnext
  rw [State.finish_net, lockEdge_of_not_served (by decide +kernel)] at hedge
  exact absurd hedge (by decide +kernel)

end Sys2Proof.Machine
end

section
set_option Elab.async false
/-!
PROOFS. Readiness of a frame group (R377; O50).
-/

namespace Sys2Proof.Machine

/-- In reset, a hold-all member with a commit under way that has decided it is not ready. -/
def decidedInReset : State :=
  let s := (State.reset.put 0x286001 1).put 0x286005 1
  { s with scene := { s.scene with requested := true }, net := { s.net with group := { decided := some false } } }

theorem repeatReadiness_of_not_served {s : State} (h : s.served = false) : s.repeatReadiness = s := by
  unfold State.repeatReadiness
  dsimp only
  split
  · rfl
  · simp [h]

/-- Refutes O50: its clause on repeats asks nothing of the phase of power, and before Run no frame is repeated. In reset a hold-all member
that decided and has sent none of its three frames has sent none after a repeat either. -/
theorem not_groupsAgreeOnReadiness : ¬ Obligations.GroupsAgreeOnReadiness := by
  intro h
  obtain ⟨s', hnext, hsends, -⟩ := (h decidedInReset 0 (by decide +kernel)).2.1 false (by decide +kernel) rfl (by decide) (by decide)
  rw [exec_readinessRepeat] at hnext
  obtain rfl := eq_finish_of_act hnext
  rw [State.finish_net, repeatReadiness_of_not_served (by decide +kernel)] at hsends
  exact absurd hsends (by decide +kernel)

end Sys2Proof.Machine
end

section
set_option Elab.async false
/-!
PROOFS. Acknowledgements on the twin link (R386; O54).
-/

namespace Sys2Proof.Machine

/-- The twin-packet acknowledgement takes every packet it covers out of the retry buffer, where none waits and no handover drains. -/
theorem State.twinAck_twinRetry {s : State} {t n : Nat} (hserved : s.served = true) (hwaiting : s.pair.twinWaiting = [])
    (hyields : s.pair.yieldingSince = none) :
    Answers (exec (.twinAck t false n) s) fun s' => s'.pair.twinRetry = s.pair.twinRetry.drop (coveredBy n s.pair.twinRetry) := by
  rw [exec_twinAck, execTwinAck]
  refine answers_act ?_
  rw [State.finish_pair]
  have hserved' : (s.begin t).served = true := hserved
  simp [hserved', drainTwin, State.handoverStep, hwaiting, hyields]

/-- A packet of the retry buffer. -/
def unackedTwin : Packet := packetOf 2 0 0 []

/-- A paired member in Run that holds two unacknowledged packets of one number. -/
def twinNumbers : State :=
  let s := State.reset.put 0x230001 1
  { s with power := { s.power with phase := .run }, pair := { s.pair with twinRetry := [unackedTwin, unackedTwin] } }

/-- Refutes O54: its clause on acknowledgements has the first packet alone leave the retry buffer, for every buffer; an acknowledgement
takes every packet up to its number (R154, R386), and nothing in the statement keeps the second packet's number off the first's. -/
theorem not_theTwinLinkIsKept : ¬ Obligations.TheTwinLinkIsKept := by
  intro h
  obtain ⟨-, -, -, -, -, hack, -⟩ := h twinNumbers 0 (by decide +kernel)
  obtain ⟨s', hnext, hretry⟩ := (hack unackedTwin [unackedTwin] rfl rfl (by decide)).1 rfl rfl
  obtain ⟨u, hnext', hretry'⟩ := State.twinAck_twinRetry (s := twinNumbers) (t := 0) (n := unackedTwin.seq) rfl rfl rfl
  obtain rfl : s' = u := Host.Outcome.next.inj (hnext.symm.trans hnext')
  exact absurd (hretry.symm.trans hretry') (by decide)

end Sys2Proof.Machine
end

section
set_option Elab.async false
/-!
PROOFS. Which causes stand (R404), and the heartbeats of the pair (R384, R388 to R390; O51).
-/

namespace Sys2Proof.Machine

/-! ### Standing causes (R404) -/

theorem State.sendEmcy_standing (s : State) (q : Nat) : (s.sendEmcy q).faults.standing = s.faults.standing := by
  unfold State.sendEmcy
  split
  · rfl
  · split
    · rfl
    · dsimp only
      split_ifs <;> rfl

theorem State.emergencyOn_standing (s : State) (e : Emcy) (q : Nat) : (s.emergencyOn e q).faults.standing = s.faults.standing := by
  unfold State.emergencyOn
  split
  · rfl
  · split
    · exact State.sendEmcy_standing _ _
    · rfl

theorem State.emergency_standing (s : State) (e : Emcy) : (s.emergency e).faults.standing = s.faults.standing := by
  unfold State.emergency
  split
  · rfl
  · rw [State.emergencyOn_standing, State.emergencyOn_standing]

theorem State.emptied_standing (s : State) (e : State → Emcy) :
    ((s.event 2).emergency (e (s.event 2))).faults.standing = s.faults.standing := by
  rw [State.emergency_standing, State.event_faults]

theorem State.sweep_standing (s : State) : s.sweep.faults.standing = s.faults.standing := by
  unfold State.sweep
  dsimp only
  split_ifs
  · exact (State.raiseCore_standing _ _ _ _ _).trans (State.emptied_standing _ fun u => _)
  · exact State.emptied_standing _ fun u => _
  · exact State.raiseCore_standing _ _ _ _ _
  · rfl

theorem State.beaconAdd_standing (s : State) (kind flags : Nat) (body payload : Bytes) :
    (s.beaconAdd kind flags body payload).faults.standing = s.faults.standing := by
  have hput : (((s.newEntry kind flags body payload).1.beaconPut (s.newEntry kind flags body payload).2).1).faults = s.faults :=
    State.beaconPut_faults _ _
  unfold State.beaconAdd
  dsimp only
  split
  · rw [State.raiseCore_standing, hput]
  · rw [hput]

theorem State.raise_standing (s : State) (fn cause item : Nat) : (s.raise fn cause item).faults.standing = s.faults.standing :=
  State.raiseCore_standing _ _ _ _ _

theorem State.onset_standing (s : State) (fn cause item : Nat) : (s.onset fn cause item).faults.standing
    = if s.stands fn cause item then s.faults.standing else s.faults.standing ++ [(fn, cause, item)] := by
  rw [State.onset_eq]
  split_ifs with h h' h'
  · rfl
  · exact absurd h h'
  · exact absurd h' h
  · rw [State.raise_standing, State.stand]

/-- An item that leaves its cause's condition leaves the others as they were. -/
theorem State.settle_standing (s : State) (fn cause item : Nat) :
    (s.settle fn cause item).faults.standing = s.faults.standing.filter fun x => x != (fn, cause, item) := by
  rw [State.settle_eq]
  split_ifs with hout hmore
  · refine (List.filter_eq_self.2 fun x hx => ?_).symm
    have hne : x ≠ (fn, cause, item) := by
      rintro rfl
      simp [hx] at hout
    simpa using hne
  · rfl
  · split
    · rfl
    · exact (State.sweep_standing _).trans (State.beaconAdd_standing _ _ _ _ _)

theorem State.stands_onset (s : State) (fn cause item f c i : Nat) :
    (s.onset fn cause item).stands f c i = (s.stands f c i || decide ((f, c, i) = (fn, cause, item))) := by
  rw [State.stands, State.onset_standing]
  cases hst : s.stands fn cause item with
  | false => simp [State.stands]
  | true =>
    by_cases h : (f, c, i) = (fn, cause, item)
    · obtain ⟨rfl, rfl, rfl⟩ : f = fn ∧ c = cause ∧ i = item := by simpa using h
      simpa [State.stands] using hst
    · rw [decide_eq_false h, Bool.or_false]
      rfl

theorem State.stands_settle (s : State) (fn cause item f c i : Nat) :
    (s.settle fn cause item).stands f c i = (s.stands f c i && decide ((f, c, i) ≠ (fn, cause, item))) := by
  rw [State.stands, State.settle_standing, Bool.eq_iff_iff]
  simp only [State.stands, List.contains_iff_mem, List.mem_filter, Bool.and_eq_true, bne_iff_ne, decide_eq_true_eq]

@[simp] theorem State.stands_onset_self (s : State) (fn cause item : Nat) : (s.onset fn cause item).stands fn cause item = true := by
  simp [State.stands_onset]

@[simp] theorem State.stands_settle_self (s : State) (fn cause item : Nat) : (s.settle fn cause item).stands fn cause item = false := by
  simp [State.stands_settle]

@[simp] theorem State.stands_follow_self (s : State) (b : Bool) (fn cause item : Nat) :
    (s.follow b fn cause item).stands fn cause item = b := by
  cases b <;> simp [State.follow]

theorem State.stands_congr {s u : State} (h : u.faults.standing = s.faults.standing) (fn cause item : Nat) :
    u.stands fn cause item = s.stands fn cause item := by rw [State.stands, h, State.stands]

@[simp] theorem State.stands_raise (s : State) (fn cause item f c i : Nat) : (s.raise fn cause item).stands f c i = s.stands f c i :=
  State.stands_congr (State.raise_standing _ _ _ _) _ _ _

@[simp] theorem State.stands_finish (s : State) (t : Nat) (f : State → State) (fn cause item : Nat) :
    (s.finish t f).stands fn cause item = (f (s.begin t)).stands fn cause item := by rw [State.stands, State.finish_faults, State.stands]

/-! ### Edges and silence on the heartbeat paths (R388, R390) -/

theorem Reported.pair {s u : State} (h : Reported s u) : u.pair = s.pair := h.field_of (field := fun s => s.pair) fun _ => rfl

theorem Reported.pathSteady (s : State) (cause : Nat) (since : Option Nat) : Reported s (s.pathSteady cause since) := by
  unfold State.pathSteady
  split
  · exact .ite (.trans (Reported.settle _ _ _ _) (Reported.settle _ _ _ _)) (.refl s)
  · exact .refl s

theorem notReport_chatter : notReport 0x23000D = true := by decide

/-- An edge 200 ns or more after the last valid one is valid itself. -/
theorem State.pinEdge_of_valid {s : State} (hpaired : s.paired = true) (hserved : s.served = true)
    (hlate : ∀ l, s.pair.lastPin = some l → l + 200 ≤ s.now) :
    s.pinEdge = ({ s with pair := { s.pair with lastPin := some s.now, pinValidSince := if s.pinAlive then s.pair.pinValidSince else some s.now } } :
      State).pathSteady 2 (if s.pinAlive then s.pair.pinValidSince else some s.now) := by
  cases hl : s.pair.lastPin with
  | none => simp [State.pinEdge, hpaired, hserved, hl]
  | some l =>
    have hn : ¬ s.now < l + 200 := Nat.not_lt.2 (hlate l hl)
    simp [State.pinEdge, hpaired, hserved, hl, hn]

/-- An edge earlier than that is chatter, which is counted. -/
theorem State.pinEdge_of_chatter {s : State} (hpaired : s.paired = true) (hserved : s.served = true) {l : Nat}
    (hl : s.pair.lastPin = some l) (hearly : s.now < l + 200) :
    Reported (({ s with pair := { s.pair with pinValidSince := some s.now } } : State).bump 0x23000D) s.pinEdge := by
  simp only [State.pinEdge, hpaired, hserved, hl, hearly, Bool.not_true, Bool.or_self, Bool.false_eq_true, if_false, decide_true, if_true]
  exact .ite (Reported.onset (by decide) _ _) (.refl _)

/-- A heartbeat whose count follows is taken. -/
theorem State.twinBeat_valid {s : State} (hpaired : s.paired = true) (hserved : s.served = true) (hup : s.pair.twinUp = true)
    {count : Nat} (state : Nat) (hcount : s.pair.twinCount = none ∨ s.pair.twinCount = some ((count + 255) % 256)) :
    ∃ p : Pair, p.lastTwin = some s.now ∧ p.partnerState = state % 4 ∧ p.twinCount = some (count % 256)
      ∧ Reported { s with pair := p } (s.twinBeat true count state) := by
  have hfollows : ((count + 255) % 256 + 1) % 256 = count % 256 := by omega
  rcases hcount with h | h
  all_goals
    simp only [State.twinBeat, hpaired, hserved, hup, h, hfollows, beq_self_eq_true, Bool.not_true, Bool.or_self, Bool.false_eq_true, if_false]
    apply Exists.intro
    refine And.intro ?_ (And.intro ?_ (And.intro ?_ ?taken))
    case taken => exact .trans (Reported.pathSteady _ 1 _) (.ite (Reported.follow (by decide) _ _ _) (.refl _))
    all_goals rfl

theorem State.twinBeat_of_bad (s : State) (count state : Nat) : s.twinBeat false count state = s := by simp [State.twinBeat]

/-! ### This member's heartbeat (R384) -/

/-- The pair without what its wire carries. -/
def Pair.sansWire (p : Pair) : Pair := { p with wire := {} }

theorem Pair.field_of_sansWire {α : Type} {field : Pair → α} (hv : ∀ p, field p.sansWire = field p) {p q : Pair}
    (h : p.sansWire = q.sansWire) : field p = field q := by rw [← hv p, ← hv q, h]

theorem State.sansWire_driveTwin (s : State) (l : List (Nat × List Symbol)) : (s.driveTwin l).pair.sansWire = s.pair.sansWire := rfl

theorem State.sansWire_twinOnly (s : State) (lanes : List Nat) : (s.twinOnly lanes).pair.sansWire = s.pair.sansWire := by
  unfold State.twinOnly
  exact State.sansWire_driveTwin s ((s.pair.wire.driven.filter fun l => !lanes.contains l).map fun l => (l, eiosSet))

theorem State.sansWire_applyTwinMap (s : State) : s.applyTwinMap.pair.sansWire = s.pair.sansWire := by
  unfold State.applyTwinMap
  split
  · rfl
  · rw [State.sansWire_twinOnly]
    rfl

theorem State.sansWire_twinDeskew (s : State) : s.twinDeskew.pair.sansWire = s.pair.sansWire := by
  unfold State.twinDeskew
  rw [State.sansWire_applyTwinMap]
  exact State.sansWire_driveTwin (s.send (.orderedSet true 1 s.pair.wire.deskew s.pair.wire.deskew))
    (s.pair.wire.driven.map fun l => (l, deskewSet s.pair.wire.deskew))

theorem State.sansWire_twinFill (s : State) (n : Nat) : (s.twinFill n).pair.sansWire = s.pair.sansWire := by
  unfold State.twinFill
  extract_lets w sets p u
  rw [State.sansWire_driveTwin]
  rfl

theorem State.sansWire_twinInterval (s : State) : s.twinInterval.pair.sansWire = s.pair.sansWire := by
  unfold State.twinInterval
  dsimp only
  split
  · rw [State.sansWire_twinFill, State.sansWire_twinDeskew, State.sansWire_twinFill]
  · rw [State.sansWire_twinFill]

theorem State.failedBits_of_pairOnly {s u : State} (h : PairOnly s u) : u.failedBits = s.failedBits :=
  congrArg (bitmapBelow 16) (funext fun n => h.field_of (field := fun s => s.hasFailed n) fun _ => rfl)

theorem State.beat_driveTwin (s : State) (l : List (Nat × List Symbol)) :
    (s.driveTwin l).pair.sendCount = s.pair.sendCount ∧ (s.driveTwin l).beatState = s.beatState := by
  refine ⟨rfl, ?_⟩
  rw [State.beatState, State.failedBits_of_pairOnly (PairOnly.driveTwin s l), State.beatState]
  rfl

/-- The symbols before a heartbeat set leave its count and state byte as they are. -/
theorem State.beat_twinInterval (s : State) :
    s.twinInterval.pair.sendCount = s.pair.sendCount ∧ s.twinInterval.beatState = s.beatState := by
  have hpair := s.sansWire_twinInterval
  have hrole : s.twinInterval.pair.role = s.pair.role := Pair.field_of_sansWire (fun _ => rfl) hpair
  have hyield : s.twinInterval.pair.yieldingSince = s.pair.yieldingSince := Pair.field_of_sansWire (fun _ => rfl) hpair
  refine ⟨Pair.field_of_sansWire (field := Pair.sendCount) (fun _ => rfl) hpair, ?_⟩
  rw [State.beatState, hrole, hyield, State.failedBits_of_pairOnly (PairOnly.twinInterval s), State.beatState]

theorem State.sendBeat_sent {s : State} (hpaired : s.paired = true) (hup : s.pair.twinUp = true)
    (hphase : s.power.phase = .run ∨ s.power.phase = .hold) :
    Out.orderedSet true 5 s.pair.sendCount s.beatState ∈ s.sendBeat.out ∧ s.sendBeat.pair.sendCount = (s.pair.sendCount + 1) % 256 := by
  obtain ⟨hcount, hstate⟩ := s.beat_twinInterval
  have hruns : (s.power.phase == .run || s.power.phase == .hold) = true := by rcases hphase with h | h <;> simp [h]
  simp only [State.sendBeat, hpaired, hup, hruns, Bool.and_self, if_true]
  generalize s.twinInterval = u at hcount hstate ⊢
  obtain ⟨hcount', hstate'⟩ := u.beat_driveTwin (u.pair.wire.driven.map fun l => (l, heartbeatSet u.pair.sendCount u.beatState))
  generalize u.driveTwin _ = w at hcount' hstate' ⊢
  rw [← hcount, ← hstate, ← hcount', ← hstate']
  exact ⟨List.mem_append_right _ (List.mem_singleton.2 rfl), rfl⟩

/-! ### Silence (R390) -/

/-- A silent path whose twin lives is its cause. -/
theorem State.pathSilent_one {s : State} (hwatches : s.watches = true) (hserved : s.served = true) {twin : Bool}
    (hmine : (if twin then s.twinAlive else s.pinAlive) = false) (hother : (if twin then s.pinAlive else s.twinAlive) = true) :
    (s.pathSilent twin).stands 0xE (if twin then 1 else 2) 0 = true := by
  cases twin
  all_goals
    simp only [Bool.false_eq_true, if_false, if_true] at hmine hother
    simp [State.pathSilent, hwatches, hserved, hmine, hother]

/-- Both paths silent for 6 µs without the hub's confirmation are cause 0x06. -/
theorem State.pathSilent_both {s : State} (hwatches : s.watches = true) (hserved : s.served = true) (twin : Bool)
    (htwin : s.twinAlive = false) (hpin : s.pinAlive = false) (hlong : s.lastHeartbeat + 6000 ≤ s.now) (hhub : s.hubConfirms = false) :
    (s.pathSilent twin).stands 0xE 6 0 = true := by
  cases twin
  · simp [State.pathSilent, hwatches, hserved, htwin, hpin, hhub, hlong]
  · have hkept : (({ s with pair := { s.pair with bothStandbySince := none } } : State).lastHeartbeat,
        ({ s with pair := { s.pair with bothStandbySince := none } } : State).hubConfirms) = (s.lastHeartbeat, s.hubConfirms) := rfl
    simp only [Prod.mk.injEq] at hkept
    simp [State.pathSilent, hwatches, hserved, htwin, hpin, hkept, hhub, hlong]

/-! ### The heartbeats -/

/-- Reports after a change of the pair leave the pair and the count of chatter as the change made them. -/
theorem State.finish_pair_of_reported {s u : State} {t : Nat} {f : State → State} (h : Reported u (f (s.begin t))) :
    (s.finish t f).pair = u.pair ∧ (s.finish t f).get 0x23000D = u.get 0x23000D := by
  rw [State.finish_pair, State.get_finish _ _ _ (by decide) (by decide)]
  exact ⟨h.pair, h.2 _ notReport_chatter⟩

section

variable {s : State} (t : Nat) (hpaired : s.paired = true) (hserved : s.served = true)
include hpaired hserved

theorem answers_hbEdge_valid (hlate : ∀ l, s.pair.lastPin = some l → l + 200 ≤ max s.now t) :
    Answers (exec (.hbEdge t) s) fun s' => s'.pair.lastPin = some (max s.now t) ∧ s'.get 0x23000D = s.get 0x23000D := by
  rw [exec_hbEdge]
  have hrun := State.pinEdge_of_valid (s := s.begin t) hpaired hserved hlate
  obtain ⟨hpair, hcount⟩ := State.finish_pair_of_reported (f := State.pinEdge) (hrun ▸ Reported.pathSteady _ 2 _)
  exact answers_act ⟨(congrArg Pair.lastPin hpair :), hcount⟩

theorem answers_hbEdge_chatter {l : Nat} (hl : s.pair.lastPin = some l) (hearly : max s.now t < l + 200) :
    Answers (exec (.hbEdge t) s) fun s' => s'.pair.lastPin = some l ∧ s'.get 0x23000D = (s.get 0x23000D + 1) % 2 ^ 32 := by
  rw [exec_hbEdge]
  obtain ⟨hpair, hcount⟩ := State.finish_pair_of_reported (State.pinEdge_of_chatter (s := s.begin t) hpaired hserved hl hearly)
  refine answers_act ⟨(congrArg Pair.lastPin hpair :).trans hl, hcount.trans ?_⟩
  exact State.get_bump_32 _ (by decide +kernel)

theorem answers_twinHeartbeat (hup : s.pair.twinUp = true) {count : Nat} (state : Nat)
    (hcount : s.pair.twinCount = none ∨ s.pair.twinCount = some ((count + 255) % 256)) :
    Answers (exec (.twinHeartbeat t true count state) s) fun s' => s'.pair.lastTwin = some (max s.now t)
      ∧ s'.pair.partnerState = state % 4 ∧ s'.pair.twinCount = some (count % 256) := by
  rw [exec_twinHeartbeat]
  obtain ⟨p, hlast, hstate, hcount, htaken⟩ := State.twinBeat_valid (s := s.begin t) hpaired hserved hup state hcount
  obtain ⟨hpair, -⟩ := State.finish_pair_of_reported (f := fun s => s.twinBeat true count state) htaken
  refine answers_act ?_
  rw [hpair]
  exact ⟨hlast, hstate, hcount⟩

omit hserved in
theorem answers_twinHeartbeatSend (hup : s.pair.twinUp = true) (hphase : s.power.phase = .run ∨ s.power.phase = .hold) :
    Answers (exec (.twinHeartbeatSend t) s) fun s' => Out.orderedSet true 5 s.pair.sendCount (s.begin t).beatState ∈ s'.out
      ∧ s'.pair.sendCount = (s.pair.sendCount + 1) % 256 := by
  rw [exec_twinHeartbeatSend]
  obtain ⟨hout, hcount⟩ := State.sendBeat_sent (s := s.begin t) hpaired hup hphase
  refine answers_act ⟨State.mem_finish_out hout, ?_⟩
  rw [State.finish_pair]
  exact hcount

end

/-- Settles O51, command by command. -/
theorem heartbeatsAreFollowed : Obligations.HeartbeatsAreFollowed := by
  intro s t hpaired hserved
  refine ⟨answers_hbEdge_valid t hpaired hserved, fun l hl hearly => answers_hbEdge_chatter t hpaired hserved hl hearly,
    fun hup => ⟨fun count state hcount => answers_twinHeartbeat t hpaired hserved hup state hcount, fun count state => ?_,
      answers_twinHeartbeatSend t hpaired hup⟩, fun hwatches => ⟨?_, ?_, ?_⟩⟩
  · rw [exec_twinHeartbeat]
    refine answers_act ?_
    rw [State.finish_pair, State.twinBeat_of_bad]
    rfl
  · intro htwin hpin
    rw [exec_pathSilent]
    refine answers_act ?_
    rw [State.stands_finish]
    exact State.pathSilent_one (s := s.begin t) (twin := true) hwatches hserved htwin hpin
  · intro htwin hpin
    rw [exec_pathSilent]
    refine answers_act ?_
    rw [State.stands_finish]
    exact State.pathSilent_one (s := s.begin t) (twin := false) hwatches hserved hpin htwin
  · intro twin htwin hpin hlong hhub
    rw [exec_pathSilent]
    refine answers_act ?_
    rw [State.stands_finish]
    exact State.pathSilent_both (s := s.begin t) hwatches hserved twin htwin hpin hlong hhub

end Sys2Proof.Machine
end

section
set_option Elab.async false
/-!
PROOFS. The camera control buses (R213, R214, R217, R218; O38).
-/

namespace Sys2Proof.Machine

/-! ### Reports hand out more at most -/

theorem OutGrows.after {s u w : State} (h : u.out = s.out) (hw : OutGrows u w) : OutGrows s w := by
  unfold OutGrows at *
  rwa [h] at hw

theorem OutGrows.eventFrame (s : State) (b : Bytes) : OutGrows s (s.eventFrame b) := by
  unfold State.eventFrame
  dsimp only
  split_ifs
  · exact List.prefix_rfl
  · exact OutGrows.send s _
  all_goals exact List.prefix_rfl

theorem OutGrows.sendEmcy (s : State) (q : Nat) : OutGrows s (s.sendEmcy q) := by
  unfold State.sendEmcy
  split
  · exact List.prefix_rfl
  · split
    · exact List.prefix_rfl
    · dsimp only
      split_ifs
      · exact OutGrows.send s _
      all_goals exact List.prefix_rfl

theorem OutGrows.emergencyOn (s : State) (e : Emcy) (q : Nat) : OutGrows s (s.emergencyOn e q) := by
  unfold State.emergencyOn
  split
  · exact List.prefix_rfl
  · split
    · refine OutGrows.after ?_ (OutGrows.sendEmcy _ _)
      rfl
    · exact List.prefix_rfl

theorem OutGrows.emergency (s : State) (e : Emcy) : OutGrows s (s.emergency e) := by
  unfold State.emergency
  split
  · exact List.prefix_rfl
  · exact (OutGrows.emergencyOn _ _ _).trans (OutGrows.emergencyOn _ _ _)

theorem OutGrows.event (s : State) (n : Nat) : OutGrows s (s.event n) := by
  unfold State.event
  exact OutGrows.after (u := s.put 0x204005 (nextEventSeq (s.get 0x204005))) rfl (OutGrows.eventFrame _ _)

theorem OutGrows.emptied (s : State) (e : State → Emcy) : OutGrows s ((s.event 2).emergency (e (s.event 2))) :=
  (OutGrows.event s 2).trans (OutGrows.emergency (s.event 2) (e (s.event 2)))

theorem OutGrows.sweep (s : State) : OutGrows s s.sweep := by
  unfold State.sweep
  dsimp only
  split_ifs
  · unfold OutGrows State.raise
    rw [State.raiseCore_out]
    refine OutGrows.after ?_ (OutGrows.emptied _ fun u => _)
    rfl
  · refine OutGrows.after ?_ (OutGrows.emptied _ fun u => _)
    rfl
  · exact .of_out (State.raiseCore_out _ _ _ _ _)
  · exact List.prefix_rfl

theorem OutGrows.settle (s : State) (fn cause item : Nat) : OutGrows s (s.settle fn cause item) := by
  rw [State.settle_eq]
  split_ifs
  · exact List.prefix_rfl
  · exact List.prefix_rfl
  · split
    · exact List.prefix_rfl
    · refine OutGrows.after ?_ (OutGrows.sweep _)
      rw [State.beaconAdd_out]
      rfl

theorem State.onset_out (s : State) (fn cause item : Nat) : (s.onset fn cause item).out = s.out := by
  rw [State.onset_eq]
  split
  · rfl
  · exact State.raiseCore_out _ _ _ _ _

/-! ### A master goes on (R217) -/

/-- A master that may not go on stays; else it begins an exposure write, or the first transaction of its queue. -/
theorem State.cciRun_cases (s : State) (m : Nat) : s.cciRun m = s ∨ ∃ j q o,
    s.cciRun m = (s.setMaster m { s.master m with running := some j, queue := q }).send o
      ∧ (q = (s.master m).queue ∨ (s.master m).queue = j :: q) := by
  unfold State.cciRun
  dsimp only
  split
  · exact .inl rfl
  · split
    · split
      · exact .inl rfl
      · exact .inr ⟨_, (s.master m).queue, _, rfl, .inl rfl⟩
    · split
      · exact .inl rfl
      · rename_i hq
        split
        · exact .inr ⟨_, _, _, rfl, .inr hq⟩
        · exact .inl rfl

theorem State.master_setMaster (s : State) {m : Nat} (hm : m < s.media.masters.length) (c : CciMaster) : (s.setMaster m c).master m = c :=
  nth_setNth_self hm _ _

theorem State.lt_masters_setMaster {s : State} {m n : Nat} (hm : m < s.media.masters.length) (c : CciMaster) :
    m < (s.setMaster n c).media.masters.length := by
  simpa [State.setMaster, setNth] using hm

/-- A master that goes on leaves the contents and the ports, and what was sent. -/
theorem State.cciRun_kept (s : State) (m : Nat) :
    (s.cciRun m).doms = s.doms ∧ (s.cciRun m).media.cams = s.media.cams ∧ OutGrows s (s.cciRun m) := by
  obtain h | ⟨j, q, o, h, -⟩ := s.cciRun_cases m
  · rw [h]
    exact ⟨rfl, rfl, List.prefix_rfl⟩
  · rw [h]
    exact ⟨rfl, rfl, OutGrows.send (s.setMaster m _) o⟩

section

variable {s : State} {m : Nat} (hm : m < s.media.masters.length)
include hm

theorem State.cciRun_stuck : ((s.cciRun m).master m).stuck = (s.master m).stuck := by
  obtain h | ⟨j, q, o, h, -⟩ := s.cciRun_cases m
  · rw [h]
  · rw [h]
    exact (congrArg CciMaster.stuck (State.master_setMaster s hm _) :)

/-- A transaction that waits goes on waiting, or begins. -/
theorem State.cciRun_mem {j : CciJob} (hj : j ∈ (s.master m).queue) :
    j ∈ ((s.cciRun m).master m).queue ∨ ((s.cciRun m).master m).running = some j := by
  obtain h | ⟨i, q, o, h, hq⟩ := s.cciRun_cases m
  · rw [h]
    exact .inl hj
  · have hmaster : (s.cciRun m).master m = { s.master m with running := some i, queue := q } := by
      rw [h]
      exact State.master_setMaster s hm _
    rw [hmaster]
    rcases hq with hq | hq
    · exact .inl (hq ▸ hj)
    · rw [hq] at hj
      rcases List.mem_cons.1 hj with rfl | hj
      · exact .inr rfl
      · exact .inl hj

end

/-! ### Host transactions (R217) -/

theorem camK_lt {p : Nat} (hp : p < 8) : ∀ ix ∈ [0, 0x20, 0x30], ∀ sub ∈ [1, 2, 3, 5],
    camK p ix sub ∉ reportKeys ∧ camK p ix sub ≠ 0x204005 ∧ camK p ix sub ≠ 0x201005 := by
  have : ∀ p < 8, ∀ ix ∈ [0, 0x20, 0x30], ∀ sub ∈ [1, 2, 3, 5],
    camK p ix sub ∉ reportKeys ∧ camK p ix sub ≠ 0x204005 ∧ camK p ix sub ≠ 0x201005 := by decide +kernel
  exact this p hp

theorem width_cciStatus : ∀ p < 8, widthOf (camK p 0x30 3) = 8 := by decide +kernel

/-- The transaction that a content of 0x3030.01 asks for (R224). -/
def State.hostJob (s : State) (p : Nat) (d : Bytes) : CciJob :=
  { port := p, exposure := false, read := byteAt d 0 == 2
    device := if byteAt d 1 = 0 then s.get (camK p 0 0x0B) else byteAt d 1
    addressBytes := byteAt d 2, address := fieldLE d 3 2, length := byteAt d 5, data := d.drop 6 }

/-- A host transaction joins the queue of its port's master, which goes on. -/
theorem State.cciHost_served {s : State} {p m : Nat} (hp : p < 8) (hm : m < s.media.masters.length) (hs : s.standby = false)
    (hmaster : s.get (camK p 0 0x0A) = m) (d : Bytes) :
    (s.cciHost p d).get (camK p 0x30 3) = 1 ∧ (s.hostJob p d ∈ ((s.cciHost p d).master m).queue
      ∨ ((s.cciHost p d).master m).running = some (s.hostJob p d)) := by
  have hrun : s.cciHost p d = ((s.put (camK p 0x30 3) 1).setMaster m
      { s.master m with queue := (s.master m).queue ++ [s.hostJob p d] }).cciRun m := by
    rw [State.cciHost, if_neg (by simp [hs]), hmaster]
    rfl
  have hput : m < (s.put (camK p 0x30 3) 1).media.masters.length := hm
  rw [hrun]
  refine ⟨?_, State.cciRun_mem (State.lt_masters_setMaster hput { s.master m with queue := (s.master m).queue ++ [s.hostJob p d] }) ?_⟩
  · rw [State.get_congr (State.cciRun_frame _ _).1]
    refine (State.get_put_self s _ _).trans ?_
    rw [width_cciStatus p hp]
    rfl
  · rw [State.master_setMaster _ hput]
    exact List.mem_append_right _ (List.mem_singleton.2 rfl)

theorem immediate_cciTransaction : ∀ p < 8, immediate (camK p 0x30 1) = true ∧ mustReadBack (camK p 0x30 1) = false := by decide +kernel

theorem State.setContentOf_cciTransaction (s : State) {p : Nat} (hp : p < 8) (b : Bytes) (x : Given) :
    s.setContentOf (camK p 0x30 1) .rwI b x = s.cciHost p b := by
  have hport : camK p 0x30 1 / 65536 = 0x30 + p := by unfold camK keyOf; omega
  have hsub : camK p 0x30 1 % 65536 = 0x3001 := by unfold camK keyOf; omega
  unfold State.setContentOf
  rw [if_neg (by decide), if_neg (by decide), hport, hsub, if_pos (by omega), Nat.add_sub_cancel_left]

/-! ### Completions, deadlines and a stuck bus (R213, R217, R218) -/

theorem camK_not_report : ∀ p < 8, ∀ e ∈ [(0x30, 2), (0x30, 3), (0x20, 5)],
    camK p e.1 e.2 ∉ reportKeys ∧ camK p e.1 e.2 ≠ 0x204005 ∧ camK p e.1 e.2 ≠ 0x201005 := by decide +kernel

theorem width_lateSets : ∀ p < 8, widthOf (camK p 0x20 5) = 32 := by decide +kernel

/-- The end of a host transaction gives its status and what it read. -/
theorem State.cciComplete_host {s : State} {p m : Nat} (hp : p < 8) {j : CciJob} (hj : (s.master m).running = some j)
    (hexposure : j.exposure = false) (hport : j.port = p) (acked : Bool) (data : Bytes) :
    (s.cciComplete m acked data).get (camK p 0x30 3) = (if acked then 2 else 3)
      ∧ (acked = true → j.read = true → (s.cciComplete m acked data).dom (camK p 0x30 2) = data.take j.length) := by
  subst hport
  simp only [State.cciComplete, hj, hexposure, Bool.not_false, if_true]
  obtain ⟨hdoms, -, -⟩ := State.cciRun_kept (if (acked && j.read) = true then
    ((s.setMaster m { s.master m with running := none }).put (camK j.port 0x30 3) (if acked then 2 else 3)).putDom (camK j.port 0x30 2)
      (data.take j.length) else (s.setMaster m { s.master m with running := none }).put (camK j.port 0x30 3) (if acked then 2 else 3)) m
  refine ⟨?_, fun hacked hread => ?_⟩
  · have hstatus : ((s.setMaster m { s.master m with running := none }).put (camK j.port 0x30 3) (if acked then 2 else 3)).get
        (camK j.port 0x30 3) = if acked then 2 else 3 := by
      rw [State.get_put_self, width_cciStatus _ hp]
      cases acked <;> rfl
    rw [State.get_congr (State.cciRun_frame _ _).1]
    split
    · exact hstatus
    · exact hstatus
  · rw [State.dom_congr hdoms, if_pos (by simp [hacked, hread])]
    exact State.dom_putDom_self _ _ _

/-- A deadline that passes makes its set late (R213). -/
theorem State.cciDeadline_late {s : State} {p : Nat} (hp : p < 8) (hcam : p < s.media.cams.length) {j : ExposureJob} {rest : List ExposureJob}
    (hjobs : (s.cam p).jobs = j :: rest) (hdue : j.deadline ≤ s.now) (hlate : j.late = false) :
    (s.cciDeadline p).get (camK p 0x20 5) = (s.get (camK p 0x20 5) + 1) % 2 ^ 32
      ∧ ((s.cciDeadline p).cam p).jobs = { j with late := true } :: rest := by
  obtain ⟨hreport, -, -⟩ := camK_not_report p hp (0x20, 5) (by simp)
  have hrun : s.cciDeadline p = (s.setCam p { s.cam p with jobs := { j with late := true } :: rest }).lateSet p j.setId j.frame := by
    simp [State.cciDeadline, State.lateJob, hjobs, hdue, hlate]
  have hset : (s.setCam p { s.cam p with jobs := { j with late := true } :: rest }).cam p = { s.cam p with jobs := { j with late := true } :: rest } :=
    nth_setNth_self hcam _ _
  have hcam' : p < (s.setCam p { s.cam p with jobs := { j with late := true } :: rest }).media.cams.length := by
    simpa [State.setCam, setNth] using hcam
  rw [hrun, State.lateSet]
  refine ⟨?_, ?_⟩
  · rw [State.get_raise _ _ _ _ hreport]
    exact (State.get_bump_32 _ (width_lateSets p hp)).trans rfl
  · have hmedia : ∀ u : State, (u.raise 4 4 p).media = u.media := fun u => (Reported.raise (by decide) u p).field_of (field := fun s => s.media) fun _ => rfl
    dsimp only
    rw [State.cam, hmedia]
    exact (congrArg Cam.jobs (nth_setNth_self hcam' _ _) :).trans (congrArg Cam.jobs hset :)

theorem Reported.media_eq {s u : State} (h : Reported s u) : u.media = s.media := h.field_of (field := fun s => s.media) fun _ => rfl

theorem State.lateSet_masters (s : State) (p setId frame : Nat) : (s.lateSet p setId frame).media.masters = s.media.masters := by
  unfold State.lateSet
  dsimp only
  rw [(Reported.raise (fn := 4) (cause := 4) (by decide) _ p).media_eq]
  rfl

theorem State.lateJob_masters (s : State) (p : Nat) : (s.lateJob p).media.masters = s.media.masters := by
  unfold State.lateJob
  split
  · rfl
  · split
    · rfl
    · exact (State.lateSet_masters _ _ _ _).trans rfl

/-- A stuck bus stops its master's transaction, and is told. -/
theorem State.cciStuck_usable {s : State} {m : Nat} (hu : s.usable 4 = true) : ∃ u : State,
    s.cciStuck m = (u.send (.cci m 0xFF [])).onset 4 5 m
      ∧ u.media.masters = setNth s.media.masters m { s.master m with running := none, stuck := true } := by
  unfold State.cciStuck
  simp only [hu, Bool.not_true, Bool.false_eq_true, if_false]
  refine ⟨_, rfl, ?_⟩
  split
  · rfl
  · split_ifs
    · rfl
    · split
      · exact State.lateJob_masters _ _
      · exact State.lateJob_masters _ _

theorem answers_cciBusStuck {s : State} (t : Nat) {m : Nat} (h4 : m < 4) (hm : m < s.media.masters.length) (hu : s.usable 4 = true) :
    Answers (exec (.cciBusStuck t m) s) fun s' => (s'.master m).stuck = true ∧ (s'.master m).running = none
      ∧ Out.cci m 0xFF [] ∈ s'.out ∧ s'.stands 4 5 m = true := by
  rw [exec_cciBusStuck]
  obtain ⟨u, hrun, hmasters⟩ := State.cciStuck_usable (s := s.begin t) (m := m) hu
  have hmaster : (s.finish t fun s => s.cciStuck m).master m = { s.master m with running := none, stuck := true } := by
    rw [State.master, State.finish_media, hrun, (Reported.onset (fn := 4) (cause := 5) (by decide) _ m).media_eq]
    exact (congrArg (fun l => nth l m {}) hmasters).trans (nth_setNth_self hm _ _)
  refine answers_actIf (by simpa using h4) ⟨by rw [hmaster], by rw [hmaster], State.mem_finish_out ?_, ?_⟩
  · rw [hrun, State.onset_out]
    exact List.mem_append_right _ (List.mem_singleton.2 rfl)
  · rw [State.stands_finish, hrun]
    exact State.stands_onset_self _ _ _ _

theorem answers_cciBusRecovery {s : State} (t : Nat) {m : Nat} (h4 : m < 4) (hm : m < s.media.masters.length) (hserved : s.served = true)
    (hstuck : (s.master m).stuck = true) (busFree : Bool) :
    Answers (exec (.cciBusRecovery t m busFree) s) fun s' => (s'.master m).stuck = (!busFree) ∧ Out.cci m 0xFF [] ∈ s'.out
      ∧ (busFree = true → s'.stands 4 5 m = false) := by
  rw [exec_cciBusRecovery]
  have hserved' : (s.begin t).served = true := hserved
  have hstuck' : ((s.begin t).master m).stuck = true := hstuck
  have hm' : m < (s.begin t).media.masters.length := hm
  refine answers_actIf (by simpa using h4) ?_
  generalize hb : s.begin t = b at hserved' hstuck' hm'
  rw [State.master, State.finish_media, State.stands_finish, hb]
  have hsent : Out.cci m 0xFF [] ∈ (b.send (.cci m 0xFF [])).out := List.mem_append_right _ (List.mem_singleton.2 rfl)
  cases busFree with
  | false =>
    have hrun : b.cciRecover m false = b.send (.cci m 0xFF []) := by simp [State.cciRecover, hserved', hstuck']
    refine ⟨by rw [hrun]; exact hstuck', State.mem_finish_out ?_, fun h => by simp at h⟩
    rw [hb, hrun]
    exact hsent
  | true =>
    obtain ⟨u, hu⟩ : ∃ u, u = ((b.send (.cci m 0xFF [])).setMaster m { b.master m with stuck := false }).settle 4 5 m := ⟨_, rfl⟩
    have hrun : b.cciRecover m true = u.cciRun m := by
      rw [hu]
      simp [State.cciRecover, hserved', hstuck']
    have hmedia : u.media = (b.setMaster m { b.master m with stuck := false }).media := by
      rw [hu, (Reported.settle _ _ _ _).media_eq]
      rfl
    have hmu : m < u.media.masters.length := by
      rw [hmedia]
      exact State.lt_masters_setMaster hm' _
    have hfree : (u.master m).stuck = false := by
      rw [State.master, hmedia]
      exact (congrArg CciMaster.stuck (State.master_setMaster b hm' _) :)
    refine ⟨?_, State.mem_finish_out ?_, fun _ => ?_⟩
    · rw [hrun]
      exact (State.cciRun_stuck hmu).trans hfree
    · rw [hb, hrun]
      refine (State.cciRun_kept u m).2.2.subset ?_
      rw [hu]
      exact (OutGrows.settle ((b.send (.cci m 0xFF [])).setMaster m _) 4 5 m).subset hsent
    · rw [hrun, State.stands_congr (congrArg Faults.standing (State.cciRun_frame u m).2), hu]
      exact State.stands_settle_self _ _ _ _

/-- Settles O38, command by command. -/
theorem controlBusesServe : Obligations.ControlBusesServe := by
  intro s t p m hp h4 hm
  refine ⟨fun q data hq htakes hstandby hmaster => ?_, fun j acked data hj hexposure hport => ?_, fun j rest hcam hjobs hdue hlate => ?_,
    answers_cciBusStuck t h4 hm, fun busFree hserved hstuck => answers_cciBusRecovery t h4 hm hserved hstuck busFree⟩
  · obtain ⟨hi, hback⟩ := immediate_cciTransaction p hp
    have hrun := State.access_contentEffect hi hq htakes hback (by unfold camK keyOf; omega) false {}
    rw [State.setContentOf_cciTransaction _ hp] at hrun
    have hstandby' : ((s.begin t).heard q).standby = false := by
      rw [← hstandby]
      simp [State.standby, State.paired, State.get_heard]
    obtain ⟨hstatus, hjob⟩ := State.cciHost_served hp (s := (s.begin t).heard q) (m := m) (by simpa using hm) hstandby'
      (by rw [State.get_heard]; exact hmaster) data
    obtain ⟨-, h1, h2⟩ := camK_not_report p hp (0x30, 3) (by simp)
    have hall : ∀ f : State → State, f (s.begin t) = (((s.begin t).heard q).cciHost p data).reply q none (camK p 0x30 1) 0 →
        (s.finish t f).answered q 0 [] ∧ (s.finish t f).get (camK p 0x30 3) = 1
          ∧ (((s.begin t).heard q).hostJob p data ∈ ((s.finish t f).master m).queue
            ∨ ((s.finish t f).master m).running = some (((s.begin t).heard q).hostJob p data)) := by
      intro f hf
      refine ⟨State.finish_taken_answered hf, ?_, ?_⟩
      · rw [State.finish_taken_get hf ⟨h1, h2⟩]
        exact hstatus
      · rw [State.master, State.finish_media, hf, State.reply_media]
        exact hjob
    obtain ⟨hanswered, hget, hmem⟩ := hall (fun s => s.access q (camK p 0x30 1) data) hrun
    refine ⟨fun hop => ?_, fun hop => ?_⟩
    · rw [exec_cciWrite]
      refine answers_actIf (by simpa using hp) ⟨hanswered, hget, _, hmem, rfl, rfl, ?_, rfl, rfl⟩
      simp [State.hostJob, hop]
    · rw [exec_cciRead]
      refine answers_actIf (by simpa using hp) ⟨hanswered, hget, _, hmem, rfl, rfl, ?_, rfl, rfl⟩
      simp [State.hostJob, hop]
  · rw [exec_cciTransactionComplete]
    obtain ⟨hstatus, hread⟩ := State.cciComplete_host hp (s := s.begin t) (m := m) hj hexposure hport acked data
    obtain ⟨-, h1, h2⟩ := camK_not_report p hp (0x30, 3) (by simp)
    refine answers_actIf (by simpa using h4) ⟨?_, fun hacked hr => ?_⟩
    · rw [State.get_finish _ _ _ h1 h2]
      exact hstatus
    · rw [State.dom_finish]
      exact hread hacked hr
  · rw [exec_cciWriteDeadline]
    obtain ⟨hcount, hjobs'⟩ := State.cciDeadline_late hp (s := s.begin t) hcam hjobs hdue hlate
    obtain ⟨-, h1, h2⟩ := camK_not_report p hp (0x20, 5) (by simp)
    refine answers_actIf (by simpa using hp) ⟨?_, ?_⟩
    · rw [State.get_finish _ _ _ h1 h2]
      exact hcount
    · rw [State.cam, State.finish_media]
      exact hjobs'

end Sys2Proof.Machine
end

section
set_option Elab.async false
/-!
PROOFS. Panel care: checks, temperature bands, drive tables, stress counters and sensing runs (R173, R181, R185, R186, R190, R194, R196; O35).
-/

namespace Sys2Proof.Machine

/-! ### What has been sent stays (R154) -/

/-- Packets held for acknowledgement, and what was handed out, stay. -/
def SentStays (s u : State) : Prop := (∀ p ∈ s.link.retry, p ∈ u.link.retry) ∧ OutGrows s u

section Sent

variable {s u w : State}

theorem SentStays.trans (h : SentStays s u) (h' : SentStays u w) : SentStays s w :=
  ⟨fun p hp => h'.1 p (h.1 p hp), List.IsPrefix.trans h.2 h'.2⟩

theorem SentStays.of_link (h : u.link = s.link) (hout : OutGrows s u) : SentStays s u := ⟨fun p hp => by rwa [h], hout⟩

theorem SentStays.sentPacket (h : SentStays s u) {kind module spec : Nat} {payload : Bytes} (hs : s.sentPacket kind module spec payload) :
    u.sentPacket kind module spec payload := by
  obtain ⟨p, hp, hkind, hmodule, hspec, hpayload, hout⟩ := hs
  exact ⟨p, h.1 p hp, hkind, hmodule, hspec, hpayload, h.2.subset hout⟩

variable (s)

theorem SentStays.linkSend (p : Packet) : SentStays s (s.linkSend p) := by
  unfold State.linkSend
  split_ifs
  · exact .of_link rfl List.prefix_rfl
  · refine ⟨fun q hq => ?_, OutGrows.linkEmitAs s _ p⟩
    unfold State.linkEmit
    rw [(s.linkEmitAs_sent _ p).1]
    exact List.mem_append_left _ hq
  · exact ⟨fun _ hq => hq, List.prefix_rfl⟩

theorem SentStays.linkRead (code module argument expected : Nat) (known : Bool) (frame : Option Nat) :
    SentStays s (s.linkRead code module argument expected known frame) := by
  obtain ⟨hretry, hout⟩ := SentStays.linkSend (s.openRead code module argument expected known frame)
    (packetOf 4 module (code + 256 * s.link.nextTag + 65536 * argument) [])
  exact ⟨hretry, OutGrows.after rfl hout⟩

theorem SentStays.settle (fn cause item : Nat) : SentStays s (s.settle fn cause item) := .of_link (by simp) (OutGrows.settle s fn cause item)

end Sent

/-! ### A module's care (R186) -/

section Modules

variable {s : State} {m : Nat}

theorem State.moduleCare_setModuleCare (hm : m < s.care.modules.length) (c : ModuleCare) : (s.setModuleCare m c).moduleCare m = c :=
  nth_setNth_self hm c _

theorem State.length_setModuleCare (c : ModuleCare) : (s.setModuleCare m c).care.modules.length = s.care.modules.length :=
  List.length_set

theorem State.moduleCare_congr {u : State} (h : u.care.modules = s.care.modules) (m : Nat) : u.moduleCare m = s.moduleCare m := by
  unfold State.moduleCare
  rw [h]

theorem State.moduleCare_settle (s : State) (fn cause item m : Nat) : (s.settle fn cause item).moduleCare m = s.moduleCare m :=
  State.moduleCare_congr (by rw [State.settle_care]) m

/-- A decision sets the module's band and what it is to change to, and counts. -/
theorem State.decideBand_care (s : State) (m has new : Nat) :
    ∃ change, (s.decideBand m has new).care = (s.setModuleCare m { s.moduleCare m with band := new, change := change }).care := by
  unfold State.decideBand
  dsimp only
  split_ifs
  · exact ⟨_, rfl⟩
  · exact ⟨_, rfl⟩
  · exact ⟨_, rfl⟩

theorem SentStays.decideBand (s : State) (m has new : Nat) : SentStays s (s.decideBand m has new) := by
  unfold State.decideBand
  dsimp only
  split_ifs
  all_goals exact .of_link rfl List.prefix_rfl

/-- A decided band is the module's. -/
theorem State.decideBand_moduleCare (hm : m < s.care.modules.length) (has new : Nat) : ∃ change,
    (s.decideBand m has new).moduleCare m = { s.moduleCare m with band := new, change := change } := by
  obtain ⟨change, hcare⟩ := s.decideBand_care m has new
  refine ⟨change, ?_⟩
  rw [State.moduleCare_congr (s := s.setModuleCare m { s.moduleCare m with band := new, change := change }) (by rw [hcare]),
    State.moduleCare_setModuleCare hm]

theorem State.decideBand_length (s : State) (m has new : Nat) : (s.decideBand m has new).care.modules.length = s.care.modules.length := by
  obtain ⟨change, hcare⟩ := s.decideBand_care m has new
  rw [hcare, State.length_setModuleCare]

theorem State.queueTable_modules (s : State) (k : Nat) : (s.queueTable k).care.modules = s.care.modules := rfl

/-- What a comparison of tables and the end of the start leave alone. -/
abbrev TablesOnly (s u : State) : Prop :=
  Keeps (fun s => { s with stages := [], care := { s.care with unchecked := [], loads := [] } }) (fun _ => true) s u

theorem TablesOnly.queueTable (s : State) (k : Nat) : TablesOnly s (s.queueTable k) := .of_regs rfl rfl

theorem TablesOnly.compareTables (s : State) (m : Nat) (crcs : List Nat) : TablesOnly s (s.compareTables m crcs) := by
  unfold State.compareTables
  split
  · refine .trans (u := { s with care := { s.care with unchecked := s.care.unchecked.filter fun x => x != m } }) (.of_regs rfl rfl) ?_
    exact Keeps.foldl (fun s k => .ite (TablesOnly.queueTable s k) (.refl s)) _ _
  · exact .refl s

theorem TablesOnly.startCare (s : State) : TablesOnly s s.startCare := .ite (.of_regs rfl rfl) (.refl s)

theorem TablesOnly.modules {s u : State} (h : TablesOnly s u) : u.care.modules = s.care.modules :=
  h.field_of (field := fun s => s.care.modules) fun _ => rfl

theorem TablesOnly.sent {s u : State} (h : TablesOnly s u) : SentStays s u :=
  .of_link (h.field_of (field := fun s => s.link) fun _ => rfl) (.of_out (h.field_of (field := fun s => s.out) fun _ => rfl))

theorem State.linkRead_modules (s : State) (code module argument : Nat) :
    (s.linkRead code module argument).care.modules = s.care.modules :=
  (LinkOnly.linkRead s code module argument 0 false none).field_of (field := fun s => s.care.modules) fun _ => rfl

/-- The band of a module whose temperature is known (R186): the steps it must take up, or down past the hysteresis. -/
def State.bandFor (s : State) (raw band : Nat) : Nat :=
  let x := signed 16 raw
  if band < s.bandsBelow x then s.bandsBelow x
  else if s.bandsBelow (x + s.get 0x490011) < band then s.bandsBelow (x + s.get 0x490011)
  else band

/-- The state once a module's status is kept, before what its tables and events call for. -/
def State.statusKept (s : State) (m : Nat) (b : Bytes) : State :=
  let kept := s.setModuleCare m { s.moduleCare m with temperature := fieldLE b 0 2, inForce := byteAt b 2 }
  let heard := kept.setModuleCare m { kept.moduleCare m with reportedAt := some s.now, lost := false }
  (heard.decideBand m (if byteAt b 3 = 0xFF then byteAt b 2 else byteAt b 3) (s.bandFor (fieldLE b 0 2) (byteAt b 2))).settle 0xB 5 (m + 256)

/-- A status with a temperature is kept; then tables are compared, and an event is read. -/
theorem State.moduleStatus_of_valid {b : Bytes} (hraw : fieldLE b 0 2 ≠ 0x8000) : ∃ crcs,
    s.moduleStatus m b = (if bitOf (byteAt b 4) 4 then (((s.statusKept m b).compareTables m crcs).startCare).linkRead 0x12 m 0
      else ((s.statusKept m b).compareTables m crcs).startCare) := by
  refine ⟨(List.range 8).map fun k => fieldLE b (16 + 4 * k) 4, ?_⟩
  unfold State.moduleStatus
  dsimp only
  rw [if_neg hraw]
  rfl

theorem State.statusKept_moduleCare (hm : m < s.care.modules.length) (b : Bytes) :
    ((s.statusKept m b).moduleCare m).temperature = fieldLE b 0 2 ∧ ((s.statusKept m b).moduleCare m).reportedAt = some s.now
      ∧ ((s.statusKept m b).moduleCare m).lost = false
      ∧ ((s.statusKept m b).moduleCare m).band = s.bandFor (fieldLE b 0 2) (byteAt b 2) := by
  unfold State.statusKept
  dsimp only
  rw [State.moduleCare_settle]
  generalize hkept : s.setModuleCare m { s.moduleCare m with temperature := fieldLE b 0 2, inForce := byteAt b 2 } = kept
  have hlength : m < kept.care.modules.length := by rwa [← hkept, State.length_setModuleCare]
  have htemp : (kept.moduleCare m).temperature = fieldLE b 0 2 := by rw [← hkept, State.moduleCare_setModuleCare hm]
  generalize hheard : kept.setModuleCare m { kept.moduleCare m with reportedAt := some s.now, lost := false } = heard
  have hlength' : m < heard.care.modules.length := by rwa [← hheard, State.length_setModuleCare]
  obtain ⟨change, hdecided⟩ := State.decideBand_moduleCare hlength' (if byteAt b 3 = 0xFF then byteAt b 2 else byteAt b 3)
    (s.bandFor (fieldLE b 0 2) (byteAt b 2))
  rw [hdecided, ← hheard, State.moduleCare_setModuleCare hlength]
  exact ⟨htemp, rfl, rfl, rfl⟩

theorem SentStays.statusKept (s : State) (m : Nat) (b : Bytes) : SentStays s (s.statusKept m b) := by
  unfold State.statusKept
  dsimp only
  refine .trans (.trans ?_ (SentStays.decideBand _ _ _ _)) (SentStays.settle _ _ _ _)
  exact .of_link rfl List.prefix_rfl

/-- A status with a temperature decides the module's band, and what was sent stays. -/
theorem State.moduleStatus_valid {b : Bytes} (hraw : fieldLE b 0 2 ≠ 0x8000) :
    (s.moduleStatus m b).moduleCare m = (s.statusKept m b).moduleCare m ∧ SentStays s (s.moduleStatus m b) := by
  obtain ⟨crcs, hrun⟩ := State.moduleStatus_of_valid (s := s) (m := m) hraw
  have htables : TablesOnly (s.statusKept m b) ((s.statusKept m b).compareTables m crcs).startCare :=
    .trans (TablesOnly.compareTables _ _ _) (TablesOnly.startCare _)
  have hsent := (SentStays.statusKept s m b).trans htables.sent
  rw [hrun]
  split
  · exact ⟨State.moduleCare_congr ((State.linkRead_modules _ _ _ _).trans htables.modules) m, hsent.trans (SentStays.linkRead _ _ _ _ _ _ _)⟩
  · exact ⟨State.moduleCare_congr htables.modules m, hsent⟩

/-- A module whose temperature is lost has the band of 0x4900.13, or keeps the one in force. -/
theorem State.reportLost_moduleCare (hm : m < s.care.modules.length) (hup : s.linkUp = true) (hpresent : s.modulePresent m = true)
    (hknown : (s.moduleCare m).lost = false) (hlate : (s.moduleCare m).reportedAt.getD 0 + 1000000000 ≤ s.now) :
    ((s.reportLost m).moduleCare m).lost = true ∧ ((s.reportLost m).moduleCare m).temperature = 0x8000
      ∧ ((s.reportLost m).moduleCare m).band = (if s.get 0x490013 = 0xFF then (s.moduleCare m).inForce else s.get 0x490013)
      ∧ (s.reportLost m).stands 0xB 5 (m + 256) = true := by
  generalize hcold : s.setModuleCare m { s.moduleCare m with temperature := 0x8000 } = cold
  have hrun : s.reportLost m = (cold.lostBand m (s.moduleCare m).inForce).startCare := by
    subst hcold
    unfold State.reportLost
    exact if_pos (by rw [hup, hpresent, hknown, decide_eq_true hlate]; rfl)
  have hlength : m < cold.care.modules.length := by rwa [← hcold, State.length_setModuleCare]
  have htemp : (cold.moduleCare m).temperature = 0x8000 := by rw [← hcold, State.moduleCare_setModuleCare hm]
  have hpolicy : cold.get 0x490013 = s.get 0x490013 := by rw [← hcold]; rfl
  rw [hrun, State.moduleCare_congr (TablesOnly.startCare _).modules,
    State.stands_congr (((TablesOnly.startCare _).field_of (field := fun s => s.faults.standing) fun _ => rfl))]
  unfold State.lostBand
  dsimp only
  rw [hpolicy]
  generalize hband : (if s.get 0x490013 = 0xFF then (s.moduleCare m).inForce else s.get 0x490013) = band
  obtain ⟨change, hdecided⟩ := State.decideBand_moduleCare hlength (s.moduleCare m).inForce band
  have hcare := State.onset_care (cold.decideBand m (s.moduleCare m).inForce band) 0xB 5 (m + 256)
  have hstands := State.stands_onset_self (cold.decideBand m (s.moduleCare m).inForce band) 0xB 5 (m + 256)
  have hdecided' := (State.moduleCare_congr (congrArg Care.modules hcare) m).trans hdecided
  have hlength' : m < ((cold.decideBand m (s.moduleCare m).inForce band).onset 0xB 5 (m + 256)).care.modules.length := by
    rwa [hcare, State.decideBand_length]
  rw [State.moduleCare_setModuleCare hlength', hdecided']
  exact ⟨rfl, htemp, rfl, hstands⟩

end Modules

/-! ### Stress counters (R190) -/

/-- A stress counter. -/
def State.stress (s : State) (key : Nat) : Nat := (lookup key s.care.counters).getD 0

theorem lookup_setEntry_self (k v : Nat) (l : List (Nat × Nat)) : (lookup k (setEntry 0 k v l)).getD 0 = v := by
  unfold setEntry
  split
  next h => rw [lookup_eraseKey_self, h]; rfl
  · rw [lookup_insertKey_self]; rfl

theorem lookup_setEntry_ne {k j : Nat} (h : j ≠ k) (v : Nat) (l : List (Nat × Nat)) : lookup j (setEntry 0 k v l) = lookup j l := by
  unfold setEntry
  split
  · exact lookup_eraseKey_ne h l
  · exact lookup_insertKey_ne h v l

/-- The state with a counter set. -/
def State.setStress (s : State) (key v : Nat) : State := { s with care := { s.care with counters := setEntry 0 key v s.care.counters } }

theorem State.growCounter_care (s : State) (n key level : Nat) : ∃ d < 64, (s.growCounter n key level).care
    = (s.setStress key (min 0xFFFFFFFF (s.stress key + (level * n + d) / 64))).care := by
  refine ⟨s.draw.2 % 64, Nat.mod_lt _ (by decide), ?_⟩
  unfold State.growCounter
  dsimp only
  split_ifs
  · rfl
  · rfl

theorem State.growCounter_stress (s : State) (n key level : Nat) :
    (∃ d < 64, (s.growCounter n key level).stress key = min 0xFFFFFFFF (s.stress key + (level * n + d) / 64))
      ∧ (∀ j ≠ key, (s.growCounter n key level).stress j = s.stress j)
      ∧ (s.growCounter n key level).care.lastUpdate = s.care.lastUpdate := by
  obtain ⟨d, hd, hcare⟩ := s.growCounter_care n key level
  unfold State.stress at *
  rw [hcare]
  refine ⟨⟨d, hd, lookup_setEntry_self _ _ _⟩, fun j hj => ?_, rfl⟩
  exact congrArg (Option.getD · 0) (lookup_setEntry_ne hj _ _)

/-- Every counter that has a level grows by it, once. -/
theorem State.growAll_stress (n : Nat) (levels : List (Nat × Nat)) : ∀ s : State, (levels.map (·.1)).Nodup →
    (∀ e ∈ levels, ∃ d, d < 64 ∧ (levels.foldl (fun s p => s.growCounter n p.1 p.2) s).stress e.1
        = min 0xFFFFFFFF (s.stress e.1 + (e.2 * n + d) / 64))
      ∧ (∀ j ∉ levels.map (·.1), (levels.foldl (fun s p => s.growCounter n p.1 p.2) s).stress j = s.stress j)
      ∧ (levels.foldl (fun s p => s.growCounter n p.1 p.2) s).care.lastUpdate = s.care.lastUpdate := by
  induction levels with
  | nil => exact fun s _ => ⟨fun e he => absurd he List.not_mem_nil, fun _ _ => rfl, rfl⟩
  | cons x levels ih =>
    intro s hnodup
    obtain ⟨hnew, hnodup⟩ : x.1 ∉ levels.map (·.1) ∧ (levels.map (·.1)).Nodup := List.nodup_cons.mp hnodup
    obtain ⟨hself, hother, hlast⟩ := s.growCounter_stress n x.1 x.2
    obtain ⟨hgrown, hkept, hlast'⟩ := ih (s.growCounter n x.1 x.2) hnodup
    refine ⟨fun e he => ?_, fun j hj => ?_, hlast'.trans hlast⟩
    · rcases List.mem_cons.mp he with rfl | he
      · obtain ⟨d, hd, hval⟩ := hself
        exact ⟨d, hd, (hkept e.1 hnew).trans hval⟩
      · obtain ⟨d, hd, hval⟩ := hgrown e he
        have hne : e.1 ≠ x.1 := fun h => hnew (by rw [← h]; exact List.mem_map_of_mem he)
        exact ⟨d, hd, hval.trans (by rw [hother e.1 hne])⟩
    · exact (hkept j fun h => hj (List.mem_cons_of_mem _ h)).trans (hother j fun h => hj (by rw [h]; exact List.mem_cons_self))

/-! ### The gain map (R191, R192) -/

/-- A state without the gain map, the tiles marked and the references. -/
def State.sansGains (s : State) : State := { s with scene := {}, care := { s.care with gains := [], eRef := [] } }

/-- What an update of the gain map may change. -/
abbrev GainsOnly (s u : State) : Prop := Keeps (fun s => State.sansGains s.core) (fun k => notReport k && k != 0x490037) s u

theorem GainsOnly.updateRun (s : State) (c by_ r : Nat) (targets : Nat → Nat) : GainsOnly s (s.updateRun c by_ r targets) := by
  unfold State.updateRun
  dsimp only
  split
  · exact .refl s
  · exact .of_regs rfl rfl

theorem GainsOnly.updateGains (s : State) : GainsOnly s s.updateGains := by
  unfold State.updateGains
  extract_lets refs on s0 s1 beyond c s2
  have h1 : GainsOnly s s1 :=
    Keeps.foldl (fun s c => Keeps.foldl (fun s by_ => Keeps.foldl (fun s r => GainsOnly.updateRun s c by_ r _) _ _) _ s) _ s
  have h2 : GainsOnly s1 (State.put { s1 with care := c } 0x490037 beyond) :=
    .trans (u := { s1 with care := c }) (.of_regs rfl rfl) (Keeps.put (k := 0x490037) rfl _ _ fun _ _ => rfl)
  have h3 : GainsOnly s2 (s2.follow (decide (s2.get 0x490038 < beyond)) 0xB 8) := by
    refine Keeps.of_core (Keeps.mono (Reported.follow (by decide) _ _ _) fun k hk => ?_)
    exact (Bool.and_eq_true _ _ ▸ hk : _ ∧ _).1
  exact (h1.trans h2).trans h3

theorem GainsOnly.counts {s u : State} (h : GainsOnly s u) : u.care.counters = s.care.counters ∧ u.care.lastUpdate = s.care.lastUpdate :=
  ⟨h.field_of (field := fun s => s.care.counters) fun _ => rfl, h.field_of (field := fun s => s.care.lastUpdate) fun _ => rfl⟩

theorem State.twinChunks_care (kind n : Nat) : ∀ (s : State) (offset : Nat) (b : Bytes), (s.twinChunks kind n offset b).care = s.care := by
  induction n with
  | zero => exact fun _ _ _ => rfl
  | succ n ih =>
    intro s offset b
    unfold State.twinChunks
    split
    · rfl
    · rw [ih, State.twinSend_care]

theorem State.sendStress_care (s : State) : s.sendStress.care = s.care := by
  unfold State.sendStress
  dsimp only
  rw [State.twinChunks_care]

/-- The state once the instant of the last update is moved. -/
def State.updatedTo (s : State) (at_ : Nat) : State := { s with care := { s.care with lastUpdate := at_ } }

theorem State.updatedTo_levels (s : State) (at_ : Nat) : (s.updatedTo at_).care.levels = s.care.levels := rfl

theorem State.updatedTo_counts (s : State) (at_ key : Nat) : (s.updatedTo at_).care.lastUpdate = at_ ∧ (s.updatedTo at_).stress key = s.stress key :=
  ⟨rfl, rfl⟩

/-- In Run and Hold the member that has the panel counts every second since the last update. -/
theorem State.updateStress_care {s : State} {n : Nat} (hactive : s.standby = false)
    (hphase : s.power.phase = .run ∨ s.power.phase = .hold) (hn : n = (s.now - s.care.lastUpdate) / 1000000000) (hne : n ≠ 0) :
    s.updateStress.care = (s.care.levels.foldl (fun s p => s.growCounter n p.1 p.2)
      (s.updatedTo (s.care.lastUpdate + n * 1000000000))).updateGains.care := by
  have hphase' : (s.power.phase == .run || s.power.phase == .hold) = true := by
    rcases hphase with h | h
    · rw [h]; rfl
    · rw [h]; rfl
  unfold State.updateStress
  extract_lets m c moved grown
  have hm : m = n := hn.symm
  clear_value m
  subst hm
  have hmoved : moved = s.updatedTo (s.care.lastUpdate + m * 1000000000) := rfl
  have hgrown : grown.care = ((moved.care.levels.foldl (fun (s : State) p => s.growCounter m p.1 p.2) moved).updateGains).care := rfl
  rw [hmoved, State.updatedTo_levels] at hgrown
  rw [if_neg hne, hactive, hphase', if_neg (by decide), ← hgrown]
  split
  · exact State.sendStress_care grown
  · rfl

/-- The counters after an update. -/
theorem State.updateStress_grows {s : State} {n : Nat} (hactive : s.standby = false) (hphase : s.power.phase = .run ∨ s.power.phase = .hold)
    (hn : n = (s.now - s.care.lastUpdate) / 1000000000) (hne : n ≠ 0) (hnodup : (s.care.levels.map (·.1)).Nodup) :
    s.updateStress.care.lastUpdate = s.care.lastUpdate + n * 1000000000
      ∧ ∀ e ∈ s.care.levels, ∃ d, d < 64 ∧ s.updateStress.stress e.1 = min 0xFFFFFFFF (s.stress e.1 + (e.2 * n + d) / 64) := by
  have hcare := State.updateStress_care hactive hphase hn hne
  obtain ⟨hcounters, hlast⟩ := (GainsOnly.updateGains (s.care.levels.foldl (fun s p => s.growCounter n p.1 p.2) (s.updatedTo (s.care.lastUpdate + n * 1000000000)))).counts
  obtain ⟨hgrown, -, hkept⟩ := State.growAll_stress n s.care.levels (s.updatedTo (s.care.lastUpdate + n * 1000000000)) hnodup
  refine ⟨by rw [hcare, hlast, hkept, (State.updatedTo_counts _ _ 0).1], fun e he => ?_⟩
  obtain ⟨d, hd, hval⟩ := hgrown e he
  refine ⟨d, hd, ?_⟩
  rw [(State.updatedTo_counts _ _ _).2] at hval
  unfold State.stress at hval ⊢
  rw [hcare, hcounters, hval]

/-! ### Drive tables (R185) -/

theorem State.queueTable_mem (s : State) (k : Nat) : ∃ l ∈ (s.queueTable k).care.loads, l.table = k := by
  unfold State.queueTable
  dsimp only
  split
  next h =>
    obtain ⟨l, hl, hk⟩ := List.any_eq_true.mp h
    refine ⟨_, List.mem_map_of_mem hl, ?_⟩
    rw [if_pos (eq_of_beq hk)]
  · exact ⟨_, List.mem_append_right _ (List.mem_singleton_self _), rfl⟩

/-- A table is asked after once it has been committed: the next is taken up when every module holds it, and it is sent again when one
does not. -/
theorem State.verifyTable_loads {s : State} {l : DriveLoad} (crcs : List Nat) (hl : s.loading = some l) (hcommitted : l.committedAt ≠ none) :
    (((s.modulesPresent.zip crcs).any fun x => x.2 != nth s.tableCrcs l.table 0) = false →
        (s.verifyTable crcs).care.loads = s.care.loads.drop 1)
      ∧ (((s.modulesPresent.zip crcs).any fun x => x.2 != nth s.tableCrcs l.table 0) = true → l.retried = false →
        (s.verifyTable crcs).loading = some { l with offset := 0, committedAt := none, retried := true }) := by
  have hempty : ((s.modulesPresent.zip crcs).filter fun x => x.2 != nth s.tableCrcs l.table 0).isEmpty
      = !(s.modulesPresent.zip crcs).any fun x => x.2 != nth s.tableCrcs l.table 0 := by
    rw [Bool.eq_iff_iff]
    simp
  unfold State.verifyTable
  rw [hl]
  dsimp only
  rw [if_neg hcommitted, hempty]
  refine ⟨fun h => ?_, fun h hretried => ?_⟩
  · rw [h]
    rfl
  · rw [h, hretried]
    rfl

/-! ### Sensing runs (R194) -/

theorem width_senseStatus : widthOf 0x49003B = 8 := by decide +kernel

theorem State.get_senseStatus (s : State) (v : Nat) (hv : v < 256) : (s.put 0x49003B v).get 0x49003B = v := by
  rw [State.get_put_self, width_senseStatus, Nat.mod_eq_of_lt (by omega)]

theorem State.startSensing_care (s : State) (m : Nat) :
    (s.startSensing m).care.sensing = some (m, s.now) ∧ (s.startSensing m).get 0x49003B = 1 := by
  unfold State.startSensing
  dsimp only
  rw [State.linkControl_care, State.get_linkControl _ _ _ _ _ (by decide)]
  exact ⟨rfl, State.get_senseStatus _ 1 (by decide)⟩

theorem State.senseResult_care (s : State) (m : Nat) (b : Bytes) : (s.senseResult m b).care.sensing = none
    ∧ (s.senseResult m b).get 0x49003B = if (List.range 432).any (fun i => fieldLE b (2 * i) 2 != 0) then 2 else 3 := by
  unfold State.senseResult
  dsimp only
  rw [List.any_map]
  refine ⟨rfl, State.get_senseStatus _ _ ?_⟩
  split <;> decide

/-- Accesses of panel care whose effect is at once. -/
theorem immediate_care : immediate 0x490007 = true ∧ mustReadBack 0x490007 = false ∧ immediate 0x490039 = true
    ∧ ∀ table < 8, immediate (0x490018 + table) = true := by decide +kernel

theorem State.setContentOf_table (s : State) {table : Nat} (h : table < 8) (b : Bytes) (x : Given) :
    s.setContentOf (0x490018 + table) .rwI b x = s.writeTable table b := by
  unfold State.setContentOf
  rw [if_neg (by decide), if_neg (by decide), if_neg (by omega), if_neg (by omega), if_pos (by omega), Nat.add_sub_cancel_left]

/-- The READ of a command whose answer comes with it. -/
def State.readNow (s : State) (code m : Nat) : State :=
  let read := s.linkRead code m 0
  { read with link := { read.link with reads := read.link.reads.filter fun o => o.tag != s.link.nextTag || o.module != m } }

theorem State.readNow_sent {s : State} (h : s.canSend 0 = true) (code m : Nat) :
    (s.readNow code m).sentPacket 4 m (code + 256 * s.link.nextTag) [] :=
  State.linkSend_sent (n := 0) (s.openRead code m 0) h (kind := 4) (module := m) (spec := code + 256 * s.link.nextTag) (payload := []) (Nat.zero_le _)

theorem State.readNow_linkOnly (s : State) (code m : Nat) : LinkOnly s (s.readNow code m) :=
  .trans (LinkOnly.linkRead s code m 0 0 false none) (LinkOnly.update _ _)

theorem State.readNow_now (s : State) (code m : Nat) : (s.readNow code m).now = s.now := State.linkRead_now _ _ _ _ _ _ _

section Commands

variable {s : State} {t m : Nat} {p : Path}

theorem answers_checkRequest {data : Bytes} (hp : (s.begin t).hears p = true) (h : ((s.begin t).heard p).takesContent 0x490007 data = true) :
    Answers (exec (.checkRequest t p data) s) fun s' => s'.answered p 0 [] ∧ s'.care.hostCheckSent = false
      ∧ s'.care.hostCheck = some (byteAt data 0, fieldLE data 1 2, fieldLE data 3 2, fieldLE data 5 2, fieldLE data 7 2) := by
  obtain ⟨hi, hback, -, -⟩ := immediate_care
  rw [exec_checkRequest]
  have hrun := State.access_contentEffect hi hp h hback (by decide) false {}
  refine answers_act ⟨State.finish_taken_answered hrun, ?_⟩
  rw [State.finish_care, hrun, State.reply_care]
  exact ⟨rfl, rfl⟩

theorem answers_temperaturePoll {status : Bytes} (hm : m < 64) (hlength : m < s.care.modules.length) (hsend : s.canSend 0 = true)
    (hraw : fieldLE status 0 2 ≠ 0x8000) : Answers (exec (.temperaturePoll t m status) s) fun s' =>
      s'.sentPacket 4 m (2 + 256 * s.link.nextTag) [] ∧ (s'.moduleCare m).temperature = fieldLE status 0 2
        ∧ (s'.moduleCare m).reportedAt = some (max s.now t) ∧ (s'.moduleCare m).lost = false
        ∧ (s'.moduleCare m).band = s.bandFor (fieldLE status 0 2) (byteAt status 2) := by
  rw [exec_temperaturePoll]
  refine answers_onModule hm (State.linkUp_of_canSend s hsend) ?_
  have hsent := State.readNow_sent (s := s.begin t) hsend 2 m
  have hread := State.readNow_linkOnly (s.begin t) 2 m
  have hnow := State.readNow_now (s.begin t) 2 m
  have hall : ∀ f : State → State, f (s.begin t) = ((s.begin t).readNow 2 m).moduleStatus m status →
      (s.finish t f).sentPacket 4 m (2 + 256 * s.link.nextTag) [] ∧ ((s.finish t f).moduleCare m).temperature = fieldLE status 0 2
        ∧ ((s.finish t f).moduleCare m).reportedAt = some (max s.now t) ∧ ((s.finish t f).moduleCare m).lost = false
        ∧ ((s.finish t f).moduleCare m).band = s.bandFor (fieldLE status 0 2) (byteAt status 2) := by
    intro f hrun
    generalize (s.begin t).readNow 2 m = u at hrun hsent hread hnow
    have hmodules : u.care.modules = s.care.modules := hread.field_of (field := fun s => s.care.modules) fun _ => rfl
    have hdoms : u.doms = s.doms := hread.field_of (field := fun s => s.doms) fun _ => rfl
    have hlength' : m < u.care.modules.length := by rwa [hmodules]
    have hband : u.bandFor (fieldLE status 0 2) (byteAt status 2) = s.bandFor (fieldLE status 0 2) (byteAt status 2) := by
      unfold State.bandFor State.bandsBelow
      rw [State.dom_congr hdoms, hread.2 0x490011 rfl]
      rfl
    obtain ⟨hcare, hstays⟩ := State.moduleStatus_valid (s := u) (m := m) hraw
    obtain ⟨htemp, hat, hlost, hkept⟩ := State.statusKept_moduleCare hlength' status
    have hmod : (s.finish t f).moduleCare m = (u.statusKept m status).moduleCare m := by
      rw [← hcare, ← hrun]
      exact State.moduleCare_congr (by rw [State.finish_care]) m
    refine ⟨State.finish_sentPacket (by rw [hrun]; exact hstays.sentPacket hsent), ?_⟩
    rw [hmod, htemp, hat, hlost, hkept, hband, hnow]
    exact ⟨rfl, rfl, rfl, rfl⟩
  exact hall _ rfl

theorem answers_temperatureReportLost (hm : m < 64) (hlength : m < s.care.modules.length) (hup : s.linkUp = true)
    (hpresent : s.modulePresent m = true) (hknown : (s.moduleCare m).lost = false)
    (hlate : (s.moduleCare m).reportedAt.getD 0 + 1000000000 ≤ max s.now t) :
    Answers (exec (.temperatureReportLost t m) s) fun s' => (s'.moduleCare m).lost = true ∧ (s'.moduleCare m).temperature = 0x8000
      ∧ (s'.moduleCare m).band = (if s.get 0x490013 = 0xFF then (s.moduleCare m).inForce else s.get 0x490013)
      ∧ s'.stands 0xB 5 (m + 256) = true := by
  rw [exec_temperatureReportLost]
  refine answers_actIf (decide_eq_true hm) ?_
  have hlost := State.reportLost_moduleCare (s := s.begin t) hlength hup hpresent hknown hlate
  rw [State.stands_finish, State.moduleCare_congr (s := (s.begin t).reportLost m) (by rw [State.finish_care])]
  exact hlost

theorem answers_driveTableWrite {table : Nat} {data b : Bytes} (htable : table < 8) (hp : (s.begin t).hears p = true)
    (h : ((s.begin t).heard p).takesTransfer (0x490018 + table) data b = true) :
    Answers (exec (.driveTableWrite t p table data) s) fun s' => s'.answered p 0 [] ∧ s'.dom (0x490018 + table) = b
      ∧ ∃ l ∈ s'.care.loads, l.table = table := by
  obtain ⟨-, -, -, hi⟩ := immediate_care
  rw [exec_driveTableWrite]
  obtain ⟨hrun, hanswered⟩ := finish_transfer (hi table htable) hp h (by omega) (State.setContentOf_table _ htable b _)
  refine answers_actIf (decide_eq_true htable) ⟨hanswered, ?_, ?_⟩
  · rw [State.dom_finish, hrun]
    exact (State.dom_congr (State.reply_doms _ _ _ _ _) _).trans (State.dom_putDom_self _ _ _)
  · rw [State.finish_care, hrun, State.reply_care]
    exact State.queueTable_mem _ table

theorem State.effect_sensing (s : State) (v : Nat) : s.effect 0x490039 v {} = s.startSensing v := by
  unfold State.effect
  rfl

theorem State.canSend_congr {u w : State} (hlink : w.link = u.link) (hpair : w.pair = u.pair) (hstages : w.stages = u.stages)
    (hpower : w.power = u.power) (hget : w.get 0x480001 = u.get 0x480001) (hpaired : w.get 0x230001 = u.get 0x230001) (n : Nat) : w.canSend n = u.canSend n := by
  simp only [State.canSend, State.linkUp, State.acting, State.paired, State.usable_congr hstages hpower, hlink, hpair, hget, hpaired]

theorem SentStays.reply (s : State) (p : Path) (id : Option Nat) (k code : Nat) : SentStays s (s.reply p id k code) := by
  refine .of_link (by simp) ?_
  unfold State.reply State.answer
  split
  · exact OutGrows.send _ _
  · split
    · exact List.prefix_rfl
    · exact OutGrows.send _ _

/-- A run's start, before its CONTROL. -/
def State.sensingSet (s : State) (m : Nat) : State := ({ s with care := { s.care with sensing := some (m, s.now) } } : State).put 0x49003B 1

theorem State.startSensing_sent {u : State} {m : Nat} (h : u.canSend 0 = true) : (u.startSensing m).sentPacket 5 m 0x14 [] := by
  have hcan : (u.sensingSet m).canSend 0 = u.canSend 0 :=
    State.canSend_congr (u := u) (w := u.sensingSet m) rfl rfl rfl rfl (State.get_put_ne _ (by decide) 1)
      (State.get_put_ne _ (by decide) 1) 0
  exact State.linkSend_sent (n := 0) (u.sensingSet m) (hcan.trans h) (Nat.zero_le _)

theorem answers_senseRequest (hm : m < 64) (hp : (s.begin t).hears p = true)
    (h : ((s.begin t).heard p).takesValue 0x490039 (leBytes 1 m) = true) :
    Answers (exec (.senseRequest t p m) s) fun s' => s'.answered p 0 [] ∧ s'.care.sensing = some (m, max s.now t)
      ∧ s'.get 0x49003B = 1 ∧ (s.canSend 0 = true → s'.sentPacket 5 m 0x14 []) := by
  obtain ⟨-, -, hi, -⟩ := immediate_care
  rw [exec_senseRequest]
  have heff : ((s.begin t).heard p).effect 0x490039 (leNat (leBytes 1 m)) {} = ((s.begin t).heard p).startSensing m := by
    rw [State.effect_sensing, leNat_leBytes, Nat.mod_eq_of_lt (by omega)]
  obtain ⟨hrun, hanswered⟩ := finish_effect hi hp h heff
  obtain ⟨hcare, hstatus⟩ := State.startSensing_care ((s.begin t).heard p) m
  refine answers_act ⟨hanswered, ?_, ?_, fun hsend => State.finish_sentPacket ?_⟩
  · rw [State.finish_care, hrun, State.reply_care, hcare, State.heard_now]
    rfl
  · rw [State.get_finish _ _ _ (by decide) (by decide), hrun, State.get_reply, hstatus]
  · rw [hrun]
    refine (SentStays.reply _ _ _ _ _).sentPacket (State.startSensing_sent ?_)
    rw [State.canSend_congr (u := s) (by rw [State.heard_link]; rfl) (by rw [State.heard_pair]; rfl) (by rw [State.heard_stages]; rfl)
      (by rw [State.heard_power]; rfl)
      (by rw [State.get_heard]; rfl) (by rw [State.get_heard]; rfl)]
    exact hsend

theorem answers_senseResultRead {result : Bytes} {at_ : Nat} (hs : s.care.sensing = some (m, at_)) (hlate : at_ + 20000000 ≤ max s.now t) :
    Answers (exec (.senseResultRead t result) s) fun s' => s'.care.sensing = none
      ∧ s'.get 0x49003B = if (List.range 432).any (fun i => fieldLE result (2 * i) 2 != 0) then 2 else 3 := by
  rw [exec_senseResultRead]
  have hall : ∀ f : State → State, f (s.begin t) = ((s.begin t).readNow 0x11 m).senseResult m result → (s.finish t f).care.sensing = none
      ∧ (s.finish t f).get 0x49003B = if (List.range 432).any (fun i => fieldLE result (2 * i) 2 != 0) then 2 else 3 := by
    intro f hrun
    rw [State.finish_care, State.get_finish _ _ _ (by decide) (by decide), hrun]
    exact State.senseResult_care _ m result
  refine answers_act (hall _ ?_)
  have hs' : (s.begin t).care.sensing = some (m, at_) := hs
  rw [hs']
  exact if_pos hlate

end Commands

/-- Settles O35, command by command. -/
theorem modulesAreCaredFor : Obligations.ModulesAreCaredFor := by
  intro s t m hm hlength
  refine ⟨fun p data => answers_checkRequest, fun status => answers_temperaturePoll hm hlength,
    fun hup hpresent hknown hlate hfirst => answers_temperatureReportLost hm hlength hup hpresent hknown ?_,
    fun p table data b => answers_driveTableWrite, fun crcs l hl hcommitted => ?_, fun n hactive hphase hn hne hnodup => ?_,
    fun p => answers_senseRequest hm, fun result at_ => answers_senseResultRead⟩
  · cases h : (s.moduleCare m).reportedAt with
    | none => simpa using hfirst
    | some r => exact hlate r h
  · obtain ⟨hnext, hagain⟩ := State.verifyTable_loads (s := s.begin t) crcs hl hcommitted
    rw [exec_driveTableVerify]
    refine ⟨fun h => answers_act ?_, fun h hretried => answers_act ?_⟩
    · rw [State.finish_care]
      exact hnext h
    · rw [State.finish_loading]
      exact hagain h hretried
  · rw [exec_stressCounterUpdate]
    refine answers_act ?_
    rw [State.finish_care]
    exact State.updateStress_grows (s := s.begin t) hactive hphase hn hne hnodup

end Sys2Proof.Machine
end

section
set_option Elab.async false
/-!
PROOFS. Host jobs of the Groomer (R279, R281 to R283, R285; O42).
-/

namespace Sys2Proof.Machine

theorem immediate_hostJob : immediate 0x3C0008 = true := by decide +kernel

theorem width_jobStatus : widthOf 0x3C0007 = 8 := by decide +kernel

section HostJobs

variable (s : State)

/-- A status of the host job is kept. -/
theorem State.get_jobStatus {v : Nat} (hv : v < 256) : (s.put 0x3C0007 v).get 0x3C0007 = v := by
  rw [State.get_put_self, width_jobStatus, Nat.mod_eq_of_lt (by omega)]

/-- The job that a write of 0x3C00.08 starts. -/
def State.jobOf (s : State) (input : Bytes) : GroomerJob :=
  { compress := s.get 0x3C0004 == 1, level := s.get 0x3C0005, size := s.get 0x3C0006, input }

/-- A job's arrival may start it, and leaves the job and the objects. -/
theorem State.jobArrives_kept (client : Nat) : (s.jobArrives client).media.groomer.job = s.media.groomer.job
    ∧ (s.jobArrives client).regs = s.regs ∧ (s.jobArrives client).doms = s.doms := by
  unfold State.jobArrives
  dsimp only
  split
  · exact ⟨rfl, rfl, rfl⟩
  · exact ⟨rfl, rfl, rfl⟩

/-- A host job that starts is the Groomer's, and its result is empty. -/
theorem State.startHostJob_job (input : Bytes) : (s.startHostJob input).media.groomer.job = some (s.jobOf input)
    ∧ (s.startHostJob input).get 0x3C0007 = 1 ∧ (s.startHostJob input).dom 0x3C0009 = [] := by
  unfold State.startHostJob
  dsimp only
  obtain ⟨hjob, hregs, hdoms⟩ := State.jobArrives_kept
    { (s.put 0x3C0007 1).putDom 0x3C0009 [] with
      media := { s.media with groomer := { s.media.groomer with job := some (s.jobOf input) } } } 3
  refine ⟨hjob, (State.get_congr hregs _).trans (s.get_jobStatus (v := 1) (by decide)), (State.dom_congr hdoms _).trans ?_⟩
  exact State.dom_putDom_self (s.put 0x3C0007 1) _ _

/-! ### The end of a job (R281, R282) -/

/-- What a job's counts and its failed comparisons leave alone: the job, its status and its result. -/
def JobKept (s u : State) : Prop :=
  u.media.groomer.job = s.media.groomer.job ∧ u.get 0x3C0007 = s.get 0x3C0007 ∧ u.dom 0x3C0009 = s.dom 0x3C0009

variable {s} {u w : State}

theorem JobKept.refl : JobKept s s := ⟨rfl, rfl, rfl⟩

theorem JobKept.trans (h : JobKept s u) (h' : JobKept u w) : JobKept s w :=
  ⟨h'.1.trans h.1, h'.2.1.trans h.2.1, h'.2.2.trans h.2.2⟩

theorem JobKept.bump {k : Nat} (hk : 0x3C0007 ≠ k) (n : Nat) : JobKept s (s.bump k n) := ⟨rfl, State.get_bump_ne _ hk _, rfl⟩

theorem JobKept.jobDone (plain coded : Nat) (gain : Bool) : JobKept s (s.jobDone plain coded gain) := by
  have hcounts : JobKept s (((s.bump 0x3C000A).bump 0x3C000E plain).bump 0x3C000F coded) :=
    ((JobKept.bump (by decide) _).trans (JobKept.bump (by decide) _)).trans (JobKept.bump (by decide) _)
  unfold State.jobDone
  dsimp only
  split
  · exact hcounts
  · exact hcounts.trans (JobKept.bump (by decide) _)

theorem JobKept.verifyFails : JobKept s s.verifyFails := by
  unfold State.verifyFails
  dsimp only
  refine .trans (JobKept.bump (k := 0x3C000D) (by decide) 1) ⟨?_, ?_, ?_⟩
  · rw [State.raiseCore_media]
  · rw [State.get_raiseCore _ _ _ _ _ (by decide)]
    rfl
  · exact State.dom_congr (State.raiseCore_doms _ _ _ _ _) _

theorem JobKept.allFail (failed : List Nat) (s : State) : JobKept s (failed.foldl (fun s _ => s.verifyFails) s) := by
  induction failed generalizing s with
  | nil => exact .refl
  | cons _ failed ih => exact JobKept.verifyFails.trans (ih _)

theorem JobKept.nextClient : JobKept s s.nextClient := ⟨rfl, rfl, rfl⟩

/-- The host's job ends where no job goes before it. -/
theorem State.finishJob_host {j : GroomerJob} {failed : List Nat} (hruns : s.groomerRuns = true) (hnone : s.beaconJob = none)
    (hintake : s.intakeWaits = false) (hdram : s.get 0x211007 ≠ 2) (hj : s.media.groomer.job = some j) :
    s.finishJob ⟨3, failed⟩ = (s.finishHostJob failed).nextClient := by
  have hmay : s.mayFinish 3 = true := by
    unfold State.mayFinish State.beaconFirst
    rw [hnone, hintake]
    simp
  unfold State.finishJob
  dsimp only
  rw [hruns, hmay, if_neg (by decide), if_neg (by decide), if_pos ⟨rfl, hdram, by rw [hj]; rfl⟩]

/-- The state with no host job. -/
def State.jobless (s : State) : State := { s with media := { s.media with groomer := { s.media.groomer with job := none } } }

/-- A job that ended with a status and a result. -/
def State.jobEnded (s : State) (status : Nat) (b : Bytes) : Prop :=
  s.media.groomer.job = none ∧ s.get 0x3C0007 = status ∧ s.dom 0x3C0009 = b

theorem State.jobEnded_put (hnone : s.media.groomer.job = none) {status : Nat} (hstatus : status < 256) :
    (s.put 0x3C0007 status).jobEnded status (s.dom 0x3C0009) := ⟨hnone, s.get_jobStatus hstatus, rfl⟩

theorem State.jobEnded_putDom (hnone : s.media.groomer.job = none) {status : Nat} (hstatus : status < 256) (b : Bytes) :
    ((s.put 0x3C0007 status).putDom 0x3C0009 b).jobEnded status b :=
  ⟨hnone, s.get_jobStatus hstatus, State.dom_putDom_self (s.put 0x3C0007 status) _ _⟩

theorem JobKept.ended (h : JobKept s u) {status : Nat} {b : Bytes} (hs : s.jobEnded status b) : u.jobEnded status b :=
  ⟨h.1.trans hs.1, h.2.1.trans hs.2.1, h.2.2.trans hs.2.2⟩

/-- A compression's result is the container where that is smaller. -/
theorem State.finishHostJob_compress {j : GroomerJob} (failed : List Nat) (hj : s.media.groomer.job = some j) (hmode : j.compress = true) :
    let c := looseEncodeWith j.level j.size (looseFailures j.level j.size failed j.input) j.input
    if c.length < j.input.length then (s.finishHostJob failed).jobEnded 2 c else ∃ b, (s.finishHostJob failed).jobEnded 3 b := by
  unfold State.finishHostJob
  rw [hj]
  dsimp only
  rw [if_pos hmode]
  generalize looseFailures j.level j.size failed j.input = here
  generalize looseEncodeWith j.level j.size here j.input = c
  have hnone := (JobKept.jobDone (s := s.jobless) j.input.length c.length (decide (c.length < j.input.length))).1
  by_cases hgain : c.length < j.input.length
  · rw [if_pos hgain, if_pos (decide_eq_true hgain)]
    exact (JobKept.allFail here _).ended (State.jobEnded_putDom hnone (by decide) c)
  · rw [if_neg hgain, if_neg (by rw [decide_eq_false hgain]; decide)]
    exact ⟨_, (JobKept.allFail here _).ended (State.jobEnded_put hnone (by decide))⟩

/-- A decompression's result is the content, where the input decodes. -/
theorem State.finishHostJob_decompress {j : GroomerJob} {d : Bytes} (hj : s.media.groomer.job = some j) (hmode : j.compress = false)
    (hd : looseDecode j.input = some d) : (s.finishHostJob []).jobEnded 2 d := by
  unfold State.finishHostJob
  rw [hj]
  dsimp only
  rw [if_neg (by rw [hmode]; decide), hd]
  exact State.jobEnded_putDom (JobKept.jobDone (s := s.jobless) d.length j.input.length true).1 (by decide) d

theorem State.finishHostJob_undecodable {j : GroomerJob} (hj : s.media.groomer.job = some j) (hmode : j.compress = false)
    (hd : looseDecode j.input = none) : ∃ b, (s.finishHostJob []).jobEnded 4 b := by
  unfold State.finishHostJob
  rw [hj]
  dsimp only
  rw [if_neg (by rw [hmode]; decide), hd]
  exact ⟨_, State.jobEnded_put (s := (s.jobless.bump 0x3C000A).bump 0x3C000C) rfl (by decide)⟩

theorem State.jobEnded_finish {t : Nat} {f : State → State} {status : Nat} {b : Bytes} (h : (f (s.begin t)).jobEnded status b) :
    (s.finish t f).jobEnded status b := by
  obtain ⟨hjob, hstatus, hdom⟩ := h
  exact ⟨by rw [State.finish_media]; exact hjob, by rw [State.get_finish _ _ _ (by decide) (by decide)]; exact hstatus,
    by rw [State.dom_finish]; exact hdom⟩

end HostJobs

theorem State.setContentOf_hostJob (s : State) (b : Bytes) (x : Given) : s.setContentOf 0x3C0008 .rwI b x = s.startHostJob b := by
  unfold State.setContentOf
  rfl

section Commands

variable {s : State} {t : Nat}

/-- What a write of a host job leaves. -/
theorem State.finish_hostJob {q : Path} {data b : Bytes} (hq : (s.begin t).hears q = true)
    (h : ((s.begin t).heard q).takesTransfer 0x3C0008 data b = true) (f : State → State)
    (hf : f (s.begin t) = (s.begin t).access q 0x3C0008 data true) :
    (s.finish t f).answered q 0 [] ∧ (s.finish t f).get 0x3C0007 = 1 ∧ (s.finish t f).dom 0x3C0009 = []
      ∧ (s.finish t f).media.groomer.job = some (s.jobOf b) := by
  have hrun := State.access_transferEffect immediate_hostJob hq h (by decide) {} fun h => absurd h (by decide)
  rw [State.setContentOf_hostJob, ← hf] at hrun
  obtain ⟨hjob, hstatus, hresult⟩ := ((s.begin t).heard q).startHostJob_job b
  have hsame : ((s.begin t).heard q).jobOf b = s.jobOf b := by
    unfold State.jobOf
    rw [State.get_heard, State.get_heard, State.get_heard]
    rfl
  refine ⟨State.finish_taken_answered hrun, ?_, ?_, ?_⟩
  · rw [State.get_finish _ _ _ (by decide) (by decide), hrun, State.get_reply, hstatus]
  · rw [State.dom_finish, hrun, State.dom_congr (State.reply_doms _ _ _ _ _), hresult]
  · rw [State.finish_media, hrun, State.reply_media, hjob, hsame]

/-- How a host job ends, where no job goes before it. -/
theorem answers_hostJobComplete {j : GroomerJob} {failed : List Nat} {status : Nat} {b : Bytes} (hruns : s.groomerRuns = true)
    (hnone : s.beaconJob = none) (hintake : s.intakeWaits = false) (hdram : s.get 0x211007 ≠ 2) (hj : s.media.groomer.job = some j)
    (hended : ((s.begin t).finishHostJob failed).jobEnded status b) :
    Answers (exec (.groomerJobComplete t ⟨3, failed⟩) s) fun s' => s'.jobEnded status b := by
  rw [exec_groomerJobComplete]
  refine answers_act (State.jobEnded_finish ?_)
  rw [State.finishJob_host (s := s.begin t) hruns hnone hintake hdram hj]
  exact JobKept.nextClient.ended hended

end Commands

/-- Settles O42: the start, then each end. -/
theorem hostJobsAreDone : Obligations.HostJobsAreDone := by
  refine fun s t => ⟨fun q data b hq h => ⟨fun hmode => ?_, fun hmode => ?_⟩, fun j hruns hnone hintake hdram hj =>
    ⟨fun failed hmode => ?_, fun d hmode hd => ?_, fun hmode hd => ?_⟩⟩
  · obtain ⟨hanswered, hstatus, hresult, hjob⟩ := State.finish_hostJob hq h (fun s => s.access q 0x3C0008 data true) rfl
    rw [exec_hostJobCompress]
    refine answers_act ⟨hanswered, hstatus, hresult, hjob.trans ?_⟩
    rw [State.jobOf, hmode]
    rfl
  · obtain ⟨hanswered, hstatus, hresult, hjob⟩ := State.finish_hostJob hq h (fun s => s.access q 0x3C0008 data true) rfl
    rw [exec_hostJobDecompress]
    refine answers_act ⟨hanswered, hstatus, hresult, hjob.trans ?_⟩
    rw [State.jobOf, hmode]
    rfl
  · have hended := State.finishHostJob_compress (s := s.begin t) failed hj hmode
    dsimp only at hended
    split at hended
    next hgain =>
      obtain ⟨s', hs', hjob, hresult⟩ := answers_hostJobComplete hruns hnone hintake hdram hj hended
      exact ⟨s', hs', hjob, by rwa [if_pos hgain]⟩
    next hgain =>
      obtain ⟨b, hended⟩ := hended
      obtain ⟨s', hs', hjob, hstatus, -⟩ := answers_hostJobComplete hruns hnone hintake hdram hj hended
      exact ⟨s', hs', hjob, by rwa [if_neg hgain]⟩
  · exact answers_hostJobComplete hruns hnone hintake hdram hj (State.finishHostJob_decompress (s := s.begin t) hj hmode hd)
  · obtain ⟨b, hended⟩ := State.finishHostJob_undecodable (s := s.begin t) hj hmode hd
    obtain ⟨s', hs', hjob, hstatus, -⟩ := answers_hostJobComplete hruns hnone hintake hdram hj hended
    exact ⟨s', hs', hjob, hstatus⟩

end Sys2Proof.Machine
end

section
set_option Elab.async false
/-!
PROOFS. The CLAIM of a takeover (R165, R391; O52).
-/

namespace Sys2Proof.Machine

section Claims

variable (s : State)

/-- The packets held for acknowledgement and the CLAIM's epoch stay. -/
def ClaimKept (s u : State) : Prop := u.link.retry = s.link.retry ∧ u.link.claiming = s.link.claiming

variable {s} in
theorem WireOnly.claimKept {u : State} (h : WireOnly s u) : ClaimKept s u :=
  ⟨h.field_of (field := fun s => s.link.retry) fun _ => rfl, h.field_of (field := fun s => s.link.claiming) fun _ => rfl⟩

theorem ClaimKept.trans {s u w : State} (h : ClaimKept s u) (h' : ClaimKept u w) : ClaimKept s w :=
  ⟨h'.1.trans h.1, h'.2.trans h.2⟩

theorem ClaimKept.sends (l : List Nat) (o : Nat → Out) : ∀ s : State, ClaimKept s (l.foldl (fun (s : State) n => s.send (o n)) s) := by
  induction l with
  | nil => exact fun _ => ⟨rfl, rfl⟩
  | cons n l ih => exact fun s => ClaimKept.trans (u := s.send (o n)) ⟨rfl, rfl⟩ (ih _)

theorem ClaimKept.sendMapOn (lanes : List Nat) : ClaimKept s (s.sendMapOn lanes) := by
  unfold State.sendMapOn
  exact ClaimKept.trans ⟨rfl, rfl⟩ (ClaimKept.sends lanes _ _)

theorem ClaimKept.burstWithMap (lanes : List Nat) : ClaimKept s (s.burstWithMap lanes) := by
  unfold State.burstWithMap
  split
  · exact ((WireOnly.burstOut s lanes).claimKept.trans (ClaimKept.sendMapOn _ _)).trans (WireOnly.burst _ _).claimKept
  · exact (WireOnly.burst s lanes).claimKept

variable {s} in
theorem ClaimKept.linkRoom {u : State} (h : ClaimKept s u) (p : Packet) : u.linkRoom p = s.linkRoom p := by
  unfold State.linkRoom
  rw [h.1]

/-- A CLAIM for which the retry buffer has no room waits, and names no epoch. -/
theorem State.sendClaim_noRoom (h : s.linkRoom (packetOf 6 0xFF 0 []) = false) : s.sendClaim.link.claiming = s.link.claiming := by
  have hkept : ClaimKept s ((s.driveOnly s.lanesWanted).burstWithMap s.lanesWanted) :=
    (WireOnly.driveOnly s _).claimKept.trans (ClaimKept.burstWithMap _ _)
  unfold State.sendClaim
  dsimp only
  generalize (s.driveOnly s.lanesWanted).burstWithMap s.lanesWanted = u at hkept ⊢
  rw [hkept.linkRoom, h]
  exact hkept.2

theorem State.becomeActive_noRoom (h : s.linkRoom (packetOf 6 0xFF 0 []) = false) : s.becomeActive.link.claiming = s.link.claiming := by
  unfold State.becomeActive
  extract_lets p u w
  have hlink : w.link = s.link := (MediaOnly.cciAll u).field_of (field := fun s => s.link) fun _ => rfl
  have hroom : (w.put 0x480001 1).linkRoom (packetOf 6 0xFF 0 []) = false := by
    unfold State.linkRoom at h ⊢
    rw [State.put_link, hlink, h]
  split
  · rw [State.sendClaim_noRoom _ hroom, State.put_link, hlink]
  · rw [hlink]

theorem State.decideReadiness_link : s.decideReadiness.link = s.link := by
  unfold State.decideReadiness
  dsimp only
  split
  · rfl
  · exact State.sendReadiness_link _ _

theorem State.newChains_link (l : List Nat) : (l.foldl State.newChain s).link = s.link :=
  (Keeps.foldl (fun s n => MediaOnly.newChain s n) l s : MediaOnly s _).field_of (field := fun s => s.link) fun _ => rfl

/-- What a member that becomes active also does leaves the CLAIM alone. -/
theorem State.carryOver_claiming (current : Bool) : (s.carryOver current).link.claiming = s.link.claiming := by
  unfold State.carryOver
  extract_lets l c u0 p u1 keep q u2 u3
  have h1 : u1.link.claiming = s.link.claiming := by
    unfold u1
    split <;> rfl
  have h2 : u2.link.claiming = s.link.claiming := by
    unfold u2
    split <;> exact h1
  have h3 : u3.link.claiming = s.link.claiming := (congrArg Link.claiming (u2.newChains_link u2.streamsOn)).trans h2
  split
  · rw [State.decideReadiness_link, h3]
  · exact h3

theorem State.takeRole_noRoom (h : s.linkRoom (packetOf 6 0xFF 0 []) = false) (cause : Nat) :
    (s.takeRole cause).link.claiming = s.link.claiming := by
  have hroom : (s.settle 0xE 6).linkRoom (packetOf 6 0xFF 0 []) = false := by
    unfold State.linkRoom at h ⊢
    rwa [State.settle_link]
  unfold State.takeRole
  dsimp only
  rw [State.raise_link]
  dsimp only
  rw [State.carryOver_claiming, State.becomeActive_noRoom _ hroom, State.settle_link]

/-- A takeover with no room for the CLAIM leaves the epoch claimed as it was. -/
theorem State.takeOver_noRoom (t : Nat) (h : s.linkRoom (packetOf 6 0xFF 0 []) = false) :
    (s.begin t).takeOver.link.claiming = s.link.claiming := by
  have hkept (v : Nat) : ClaimKept s (((s.begin t).bump 0x230006).put 0x230007 v) := ⟨rfl, rfl⟩
  unfold State.takeOver
  split
  · exact (State.takeRole_noRoom _ (((hkept _).linkRoom _).trans h) _).trans (hkept _).2
  · rfl

end Claims

/-- A standby in Run, its partner silent and the hub confirming, with as many unacknowledged packets as the retry buffer has room for. -/
def crowdedStandby : State :=
  let s := (State.reset.put 0x230001 1).put 0x48000E 8
  { s.stage 0xA .up with
    power := { s.power with phase := .run }, pair := { s.pair with role := 2 }
    link := { s.link with trained := true, lastHeader := some 0, retry := List.replicate 16384 (packetOf 6 0xFF 0 []) } }

theorem crowdedStandby_noRoom : crowdedStandby.linkRoom (packetOf 6 0xFF 0 []) = false := by
  have hcount : crowdedStandby.link.retry.length = 16384 := by
    unfold crowdedStandby
    exact List.length_replicate
  unfold State.linkRoom
  rw [hcount]
  exact Bool.and_false _

theorem crowdedStandby_silent : crowdedStandby.served = true ∧ crowdedStandby.paired = true ∧ (crowdedStandby.begin 0).twinAlive = false
    ∧ (crowdedStandby.begin 0).pinAlive = false ∧ (crowdedStandby.begin 0).hubConfirms = true := by
  refine ⟨rfl, by decide +kernel, rfl, rfl, by decide +kernel⟩

theorem takeover_of_crowdedStandby : Answers (exec (.takeover 0) crowdedStandby) fun s' => s'.link.claiming = none := by
  rw [exec_takeover]
  refine answers_act ?_
  rw [State.finish_link]
  have hnone : crowdedStandby.link.claiming = none := by
    unfold crowdedStandby
    rfl
  exact (crowdedStandby.takeOver_noRoom 0 crowdedStandby_noRoom).trans hnone

/-- Refutes O52: its clause on the takeover has the CLAIM go out with its epoch at once; with no room in the retry buffer the CLAIM waits for
an acknowledgement (R154), and nothing in the statement keeps the standby's buffer empty. -/
theorem not_rolesAreTakenAndGiven : ¬ Obligations.RolesAreTakenAndGiven := by
  intro h
  obtain ⟨htakeover, -⟩ := h crowdedStandby 0
  obtain ⟨s', hnext, -, -, -, hclaim⟩ := htakeover crowdedStandby_silent.1 crowdedStandby_silent.2.1 rfl
    crowdedStandby_silent.2.2.1 crowdedStandby_silent.2.2.2.1 crowdedStandby_silent.2.2.2.2
  obtain ⟨u, hnext', hnone⟩ := takeover_of_crowdedStandby
  obtain rfl : s' = u := Host.Outcome.next.inj (hnext.symm.trans hnext')
  exact absurd (hnone.symm.trans (hclaim rfl (by decide +kernel)).2) (by simp)

end Sys2Proof.Machine
end

section
set_option Elab.async false
/-!
PROOFS. Twin packets by kind (R190, R350, R385, R386, R395, R397, R399; O53).
-/

namespace Sys2Proof.Machine

/-- What an answer is said to be may be said more weakly. -/
theorem Answers.imp {o : Host.Outcome State Fault Refusal} {P Q : State → Prop} (h : Answers o P) (hPQ : ∀ s', P s' → Q s') : Answers o Q := by
  obtain ⟨s', hs', hP⟩ := h
  exact ⟨s', hs', hPQ s' hP⟩

/-! ### Taking a packet in its order (R154, R386) -/

/-- The state that expects the packet after one. -/
def State.expecting (s : State) (seq : Nat) : State := { s with pair := { s.pair with twinExpected := some ((seq + 1) % 65536) } }

theorem State.blocks_expecting (s : State) (t seq : Nat) : ((s.begin t).expecting seq).blocks = s.blocks := rfl

theorem State.putTwin_pair (s : State) (b : Bytes) : (s.putTwin b).pair = { s.pair with wire := { s.pair.wire with
    disparity := (s.putTwin b).pair.wire.disparity, taken := (s.putTwin b).pair.wire.taken } } := rfl

theorem State.putTwin_sent (s : State) (b : Bytes) : Out.twin b ∈ (s.putTwin b).out := List.mem_append_right _ (List.mem_singleton_self _)

/-- An answer on the twin link leaves everything but the wire and the output. -/
theorem State.twinReply_kept (s : State) (kind seq : Nat) : (s.twinReply kind seq).pair.sansWire = s.pair.sansWire
    ∧ (s.twinReply kind seq).care = s.care ∧ (s.twinReply kind seq).media = s.media ∧ (s.twinReply kind seq).regs = s.regs :=
  ⟨rfl, rfl, rfl, rfl⟩

section Taken

variable {s : State} {t seq : Nat} {f : State → State} (hserved : s.served = true) (hpaired : s.paired = true) (hup : s.pair.twinUp = true)
include hserved hpaired hup

theorem State.twinTake_inOrder (hexp : s.pair.twinExpected = none ∨ s.pair.twinExpected = some seq) (f : State → State) :
    s.twinTake seq f = (f (s.expecting seq)).twinReply 0x81 seq := by
  have hwant : s.pair.twinExpected.getD seq = seq := by
    rcases hexp with h | h
    · rw [h]; rfl
    · rw [h]; rfl
  unfold State.twinTake
  dsimp only
  rw [if_neg (by rw [hserved, hpaired, hup]; decide), if_pos hwant.symm]
  rfl

/-- A packet far ahead of the one expected is a gap. -/
theorem State.twinTake_gap {want : Nat} (hexp : s.pair.twinExpected = some want)
    (hgap : 32768 ≤ (want + 65536 - seq) % 65536) (f : State → State) : s.twinTake seq f = s.twinReply 0x82 want := by
  unfold State.twinTake
  dsimp only
  rw [hserved, hpaired, hup, hexp, if_neg (by decide), if_neg, if_neg]
  · rfl
  · exact Nat.not_lt.2 hgap
  · change seq ≠ want
    omega

/-- A packet that is taken has its effect, and is acknowledged. -/
theorem State.finish_twinTake (hexp : s.pair.twinExpected = none ∨ s.pair.twinExpected = some seq) {u : State}
    (hu : f ((s.begin t).expecting seq) = u) : (s.finish t fun s => s.twinTake seq f).pair.sansWire = u.pair.sansWire
      ∧ (s.finish t fun s => s.twinTake seq f).care = u.care ∧ (s.finish t fun s => s.twinTake seq f).media = u.media
      ∧ Out.twin (twinAnswer 0x81 seq ((s.finish t fun s => s.twinTake seq f).get 0x48000C)) ∈ (s.finish t fun s => s.twinTake seq f).out := by
  have hrun : (s.begin t).twinTake seq f = u.twinReply 0x81 seq := by
    rw [State.twinTake_inOrder (s := s.begin t) hserved hpaired hup hexp, hu]
  obtain ⟨hpair, hcare, hmedia, hregs⟩ := u.twinReply_kept 0x81 seq
  refine ⟨?_, ?_, ?_, ?_⟩
  · rw [State.finish_pair, hrun, hpair]
  · rw [State.finish_care, hrun, hcare]
  · rw [State.finish_media, hrun, hmedia]
  · refine State.mem_finish_out ?_
    rw [State.get_finish _ _ _ (by decide) (by decide), hrun, State.get_congr hregs]
    exact u.putTwin_sent _

end Taken

/-! ### What each kind leaves -/

/-- The record that a MIRROR record of type 1 opens. -/
def mirroredRect (b : Bytes) : Rect :=
  { no := byteAt b 1, module := byteAt b 2, cls := byteAt b 3 % 4, format := byteAt b 3 / 4 % 4, supersede := bitOf (byteAt b 3) 4
    column := fieldLE b 4 2, row := fieldLE b 6 2, columns := fieldLE b 8 2, rows := fieldLE b 10 2, frame := fieldLE b 12 4 }

section Kinds

variable {s : State}

theorem State.snapshotTaken_pair (part : Nat) (last : Bool) : ∃ step current, (s.snapshotTaken part last) =
    { s with pair := { s.pair with snapshotStep := step, mirrorCurrent := current } } := by
  unfold State.snapshotTaken
  split_ifs
  · exact ⟨_, _, rfl⟩
  · exact ⟨_, _, rfl⟩
  · exact ⟨_, _, rfl⟩

/-- One record of type 1 opens a rectangle of the mirror. -/
theorem State.mirrorReceive_open (hrole : s.pair.role ≠ 1) {b : Bytes} (hlength : b.length = 16) (htype : byteAt b 0 = 1) :
    (s.pair.snapshotStep = 1 → (s.mirrorReceive b).pair.snapshotStep = 2) ∧ mirroredRect b ∈ (s.mirrorReceive b).pair.mirror
      ∧ (s.mirrorReceive b).pair.twinExpected = s.pair.twinExpected := by
  have hrun : s.mirrorReceive b = (s.snapshotTaken 2 false).mirrorTake b := by
    unfold State.mirrorReceive
    rw [if_neg hrole, hlength, mirrorRecords, if_neg (by omega), mirrorRecords, if_pos (by rw [List.length_drop]; omega),
      List.take_of_length_le (by omega)]
  have hstep : s.pair.snapshotStep = 1 → (s.snapshotTaken 2 false).pair.snapshotStep = 2 := by
    intro h
    unfold State.snapshotTaken
    rw [h]
    rfl
  obtain ⟨step, current, htaken⟩ := s.snapshotTaken_pair 2 false
  have hexp : (s.snapshotTaken 2 false).pair.twinExpected = s.pair.twinExpected := by rw [htaken]
  rw [hrun]
  generalize s.snapshotTaken 2 false = u at hstep hexp ⊢
  unfold State.mirrorTake
  dsimp only
  rw [htype]
  exact ⟨hstep, List.mem_append_right _ (List.mem_singleton_self _), hexp⟩

/-- The tiles that a CHANGED chunk spans are changed as its bits say. -/
theorem State.changedReceive_mem (offset : Nat) (b : Bytes) {i : Nat} (hi : i < 8 * b.length) :
    8 * offset + i ∈ (s.changedReceive offset b).pair.changedMirror ↔ bitOf (byteAt b (i / 8)) (i % 8) = true := by
  unfold State.changedReceive
  dsimp only
  rw [List.mem_append, List.mem_filter, List.mem_map]
  constructor
  · rintro (⟨-, hout⟩ | ⟨j, hj, heq⟩)
    · have := of_decide_eq_true hout
      omega
    · obtain rfl : j = i := by omega
      exact (List.mem_filter.mp hj).2
  · exact fun hbit => .inr ⟨i, List.mem_filter.mpr ⟨List.mem_range.mpr hi, hbit⟩, rfl⟩

/-- One byte of STRESS leaves the pair. -/
theorem State.stressByte_pair (at_ v : Nat) : (s.stressByte at_ v).pair = s.pair := by
  unfold State.stressByte
  dsimp only
  split_ifs <;> rfl

theorem State.stressBytes_pair (l : List (Byte × Nat)) (offset : Nat) : ∀ s : State,
    (l.foldl (fun (s : State) (p : Byte × Nat) => s.stressByte (offset + p.2) p.1.toNat) s).pair = s.pair := by
  induction l with
  | nil => exact fun _ => rfl
  | cons p l ih => exact fun s => (ih _).trans (State.stressByte_pair _ _)

/-- The low byte of a counter is replaced by a byte at its offset. -/
theorem State.stressByte_low {k : Nat} (hk : k < 3 * s.blocks) {v : Nat} (hv : v < 256) :
    (lookup k (s.stressByte (4 * k) v).care.counters).getD 0 % 256 = v := by
  unfold State.stressByte
  dsimp only
  rw [if_pos (by omega), Nat.mul_div_cancel_left k (by decide), Nat.mul_mod_right]
  dsimp only
  rw [lookup_setEntry_self]
  simp only [pow_zero, Nat.div_one, Nat.mul_one]
  omega

theorem State.stressReceive_byte {k : Nat} (hk : k < 3 * s.blocks) (v : Byte) :
    (lookup k (s.stressReceive (4 * k) [v]).care.counters).getD 0 % 256 = v.toNat := by
  unfold State.stressReceive
  dsimp only
  refine State.stressByte_low ?_ v.isLt
  refine hk.trans_eq ?_
  split
  · obtain ⟨step, current, htaken⟩ := s.snapshotTaken_pair 4 true
    rw [htaken]
    rfl
  · rfl

/-- The STRESS chunk that reaches the end completes a snapshot. -/
theorem State.stressReceive_current (hstep : s.pair.snapshotStep = 3) {offset : Nat} {b : Bytes} (hend : 15 * s.blocks ≤ offset + b.length) :
    (s.stressReceive offset b).pair.mirrorCurrent = true := by
  unfold State.stressReceive
  dsimp only
  rw [State.stressBytes_pair, if_pos hend]
  unfold State.snapshotTaken
  rw [hstep]
  rfl

theorem State.statisticsReceive_tags {p : Nat} (hp : p < s.media.cams.length) (b : Bytes) :
    ((s.statisticsReceive p b).cam p).partnerTags.getLast? = some (fieldLE b 8 8, fieldLE b 4 2) := by
  unfold State.statisticsReceive State.setCam State.cam
  dsimp only
  rw [nth_setNth_self hp]
  exact List.getLast?_concat ..

/-! ### The snapshot that answers HELLO (R385) -/

/-- Packets that were sent or wait on the twin link. -/
def State.twinPackets (s : State) : List Packet := s.pair.twinRetry ++ s.pair.twinWaiting

/-- A MIRROR packet was sent or waits. -/
def State.mirrorSent (s : State) : Prop := ∃ p ∈ s.twinPackets, p.kind = 2

theorem State.twinSend_mirrorSent (kind tail : Nat) (b : Bytes) (h : s.mirrorSent) : (s.twinSend kind tail b).mirrorSent := by
  obtain ⟨p, hp, hkind⟩ := h
  unfold State.twinPackets at hp
  refine ⟨p, ?_, hkind⟩
  unfold State.twinSend State.twinPackets
  dsimp only
  split_ifs
  · exact hp
  · have hpackets (q : Packet) : (s.twinEmit q).pair.twinRetry = s.pair.twinRetry ++ [{ q with
        seq := s.pair.twinSeq, epoch := s.get 0x48000C, sentAt := s.now, sends := 1 }]
        ∧ (s.twinEmit q).pair.twinWaiting = s.pair.twinWaiting := ⟨rfl, rfl⟩
    obtain ⟨hretry, hwaiting⟩ := hpackets (packetOf kind 0 tail b)
    rw [hretry, hwaiting]
    simp only [List.mem_append] at hp ⊢
    tauto
  · dsimp only
    rw [← List.append_assoc]
    exact List.mem_append_left _ hp

theorem State.twinChunks_mirrorSent (kind n : Nat) : ∀ (s : State) (offset : Nat) (b : Bytes), s.mirrorSent → (s.twinChunks kind n offset b).mirrorSent := by
  induction n with
  | zero => exact fun _ _ _ h => h
  | succ n ih =>
    intro s offset b h
    unfold State.twinChunks
    split
    · exact h
    · exact ih _ _ _ (State.twinSend_mirrorSent _ _ _ h)

theorem State.mirrorSends_mirrorSent (l : List Bytes) : ∀ s : State, s.mirrorSent → (l.foldl State.mirrorSend s).mirrorSent := by
  induction l with
  | nil => exact fun _ h => h
  | cons b l ih =>
    refine fun s h => ih _ ?_
    unfold State.mirrorSend
    split
    · exact State.twinSend_mirrorSent _ _ _ h
    · exact h

/-- The active member's MIRROR packet is sent, or waits for room. -/
theorem State.mirrorSend_mirrorSent (hpaired : s.paired = true) (hup : s.pair.twinUp = true) (hrole : s.pair.role = 1) (b : Bytes) :
    (s.mirrorSend b).mirrorSent := by
  unfold State.mirrorSend State.twinSend
  rw [hrole, hpaired, hup, if_pos (by decide), if_neg (by decide)]
  dsimp only
  split
  · exact ⟨_, List.mem_append_left _ (List.mem_append_right _ (List.mem_singleton_self _)), rfl⟩
  · exact ⟨_, List.mem_append_right _ (List.mem_append_right _ (List.mem_singleton_self _)), rfl⟩

/-- The active member answers HELLO with its mirror, though it be empty. -/
theorem State.snapshot_mirrorSent (hpaired : s.paired = true) (hup : s.pair.twinUp = true) (hrole : s.pair.role = 1) : s.snapshot.mirrorSent := by
  unfold State.snapshot
  dsimp only
  rw [if_neg (by rw [hrole]; decide)]
  refine State.twinChunks_mirrorSent _ _ _ _ _ ?_
  generalize List.flatMap _ s.link.rects = all
  have hchunks : ((List.range (max 1 ((all.length + 3839) / 3840))).map fun i => (all.drop (3840 * i)).take 3840) ≠ [] := by
    simp
  generalize ((List.range (max 1 ((all.length + 3839) / 3840))).map fun i => (all.drop (3840 * i)).take 3840) = chunks at hchunks ⊢
  have hsent : (chunks.foldl State.mirrorSend s).mirrorSent := by
    cases chunks with
    | nil => exact absurd rfl hchunks
    | cons b l => exact State.mirrorSends_mirrorSent l _ (State.mirrorSend_mirrorSent hpaired hup hrole b)
  unfold State.sendChanged
  split
  · exact hsent
  · exact State.twinChunks_mirrorSent _ _ _ _ _ hsent

end Kinds

section Commands

variable {s : State} {t seq : Nat} (hserved : s.served = true) (hpaired : s.paired = true) (hup : s.pair.twinUp = true)
  (hexp : s.pair.twinExpected = none ∨ s.pair.twinExpected = some seq)
include hserved hpaired hup hexp

/-- A packet that a member takes has its effect, and is acknowledged. -/
theorem answers_twinTake {f : State → State} {P : State → Prop} (hP : ∀ s' : State,
      s'.pair.sansWire = (f ((s.begin t).expecting seq)).pair.sansWire → s'.care = (f ((s.begin t).expecting seq)).care →
      s'.media = (f ((s.begin t).expecting seq)).media → P s') :
    Answers (act t s fun s => s.twinTake seq f) fun s' => P s' ∧ Out.twin (twinAnswer 0x81 seq (s'.get 0x48000C)) ∈ s'.out := by
  obtain ⟨hpair, hcare, hmedia, hout⟩ := State.finish_twinTake (t := t) (f := f) hserved hpaired hup hexp rfl
  exact answers_act ⟨hP _ hpair hcare hmedia, hout⟩

theorem answers_mirror (hrole : s.pair.role ≠ 1) {b : Bytes} (hlength : b.length = 16) (htype : byteAt b 0 = 1) :
    Answers (exec (.mirror t seq b) s) fun s' => (s.pair.snapshotStep = 1 → s'.pair.snapshotStep = 2)
      ∧ (∃ r ∈ s'.pair.mirror, r.no = byteAt b 1 ∧ r.module = byteAt b 2 ∧ r.column = fieldLE b 4 2 ∧ r.row = fieldLE b 6 2
          ∧ r.columns = fieldLE b 8 2 ∧ r.rows = fieldLE b 10 2 ∧ r.frame = fieldLE b 12 4)
      ∧ s'.pair.twinExpected = some ((seq + 1) % 65536) ∧ Out.twin (twinAnswer 0x81 seq (s'.get 0x48000C)) ∈ s'.out := by
  rw [exec_mirror]
  obtain ⟨hstep, hmirror, hnext⟩ := State.mirrorReceive_open (s := (s.begin t).expecting seq) hrole hlength htype
  refine Answers.imp (answers_twinTake hserved hpaired hup hexp (P := fun s' => (s.pair.snapshotStep = 1 → s'.pair.snapshotStep = 2)
    ∧ mirroredRect b ∈ s'.pair.mirror ∧ s'.pair.twinExpected = some ((seq + 1) % 65536)) fun s' hpair _ _ => ⟨fun h => ?_, ?_, ?_⟩) ?_
  · rw [Pair.field_of_sansWire (field := Pair.snapshotStep) (fun _ => rfl) hpair]
    exact hstep h
  · rw [Pair.field_of_sansWire (field := Pair.mirror) (fun _ => rfl) hpair]
    exact hmirror
  · rw [Pair.field_of_sansWire (field := Pair.twinExpected) (fun _ => rfl) hpair]
    exact hnext
  · rintro s' ⟨⟨hstep', hmirror', hnext'⟩, hout⟩
    exact ⟨hstep', ⟨_, hmirror', rfl, rfl, rfl, rfl, rfl, rfl, rfl⟩, hnext', hout⟩

theorem answers_changed (hrole : s.pair.role ≠ 1) (offset : Nat) (b : Bytes) :
    Answers (exec (.changed t seq offset b) s) fun s' => (∀ i, i < 8 * b.length →
        (8 * offset + i ∈ s'.pair.changedMirror ↔ bitOf (byteAt b (i / 8)) (i % 8) = true))
      ∧ Out.twin (twinAnswer 0x81 seq (s'.get 0x48000C)) ∈ s'.out := by
  rw [exec_changed]
  refine answers_twinTake hserved hpaired hup hexp fun s' hpair _ _ i hi => ?_
  have hrole' : ((s.begin t).expecting seq).pair.role ≠ 1 := hrole
  rw [if_neg hrole'] at hpair
  rw [Pair.field_of_sansWire (field := Pair.changedMirror) (fun _ => rfl) hpair]
  exact State.changedReceive_mem offset b hi

theorem answers_commit (hrole : s.pair.role ≠ 1) (epoch tag tick outcome : Nat) :
    Answers (exec (.commit t seq epoch tag tick outcome) s) fun s' => s'.pair.commitFor = some (epoch, tag, tick, outcome)
      ∧ Out.twin (twinAnswer 0x81 seq (s'.get 0x48000C)) ∈ s'.out := by
  rw [exec_commit]
  refine answers_twinTake hserved hpaired hup hexp fun s' hpair _ _ => ?_
  have hrole' : ((s.begin t).expecting seq).pair.role ≠ 1 := hrole
  rw [if_neg hrole'] at hpair
  exact Pair.field_of_sansWire (field := Pair.commitFor) (fun _ => rfl) hpair

theorem answers_stressByte (hrole : s.pair.role ≠ 1) {k : Nat} (hk : k < 3 * s.blocks) (v : Byte) :
    Answers (exec (.stress t seq (4 * k) [v]) s) fun s' => (lookup k s'.care.counters).getD 0 % 256 = v.toNat
      ∧ Out.twin (twinAnswer 0x81 seq (s'.get 0x48000C)) ∈ s'.out := by
  rw [exec_stress]
  refine answers_twinTake hserved hpaired hup hexp fun s' _ hcare _ => ?_
  have hrole' : ((s.begin t).expecting seq).pair.role ≠ 1 := hrole
  rw [if_neg hrole'] at hcare
  rw [hcare]
  exact State.stressReceive_byte (s := (s.begin t).expecting seq) (by rwa [State.blocks_expecting]) v

theorem answers_stressEnd (hrole : s.pair.role ≠ 1) (hstep : s.pair.snapshotStep = 3) {offset : Nat} {b : Bytes}
    (hend : 15 * s.blocks ≤ offset + b.length) :
    Answers (exec (.stress t seq offset b) s) fun s' => s'.pair.mirrorCurrent = true := by
  rw [exec_stress]
  refine Answers.imp (answers_twinTake hserved hpaired hup hexp (P := fun s' => s'.pair.mirrorCurrent = true) fun s' hpair _ _ => ?_)
    fun s' h => h.1
  have hrole' : ((s.begin t).expecting seq).pair.role ≠ 1 := hrole
  rw [if_neg hrole'] at hpair
  rw [Pair.field_of_sansWire (field := Pair.mirrorCurrent) (fun _ => rfl) hpair]
  exact State.stressReceive_current (s := (s.begin t).expecting seq) hstep (by rwa [State.blocks_expecting])

theorem answers_statistics (hrole : s.pair.role ≠ 1) {p : Nat} (hp : p < 8) (hlength : p < s.media.cams.length) (b : Bytes) :
    Answers (exec (.statistics t seq p b) s) fun s' => (s'.cam p).partnerTags.getLast? = some (fieldLE b 8 8, fieldLE b 4 2)
      ∧ Out.twin (twinAnswer 0x81 seq (s'.get 0x48000C)) ∈ s'.out := by
  rw [exec_statistics, decide_eq_true hp]
  refine answers_twinTake hserved hpaired hup hexp fun s' _ _ hmedia => ?_
  have hrole' : ((s.begin t).expecting seq).pair.role ≠ 1 := hrole
  rw [if_neg hrole'] at hmedia
  unfold State.cam
  rw [hmedia]
  exact State.statisticsReceive_tags (s := (s.begin t).expecting seq) hlength b

theorem answers_hello (hrole : s.pair.role = 1) :
    Answers (exec (.hello t seq) s) fun s' => (∃ p ∈ s'.pair.twinRetry ++ s'.pair.twinWaiting, p.kind = 2)
      ∧ Out.twin (twinAnswer 0x81 seq (s'.get 0x48000C)) ∈ s'.out := by
  rw [exec_hello]
  refine answers_twinTake hserved hpaired hup hexp fun s' hpair _ _ => ?_
  rw [Pair.field_of_sansWire (field := fun p => p.twinRetry ++ p.twinWaiting) (fun _ => rfl) hpair]
  exact State.snapshot_mirrorSent (s := (s.begin t).expecting seq) hpaired hup hrole

omit hexp in
theorem answers_mirrorGap {want : Nat} (hwant : s.pair.twinExpected = some want) (hgap : 32768 ≤ (want + 65536 - seq) % 65536) (b : Bytes) :
    Answers (exec (.mirror t seq b) s) fun s' =>
      s'.pair = { s.pair with wire := { s.pair.wire with disparity := s'.pair.wire.disparity, taken := s'.pair.wire.taken } }
        ∧ Out.twin (twinAnswer 0x82 want (s'.get 0x48000C)) ∈ s'.out := by
  rw [exec_mirror]
  have hrun := State.twinTake_gap (s := s.begin t) (seq := seq) hserved hpaired hup hwant hgap (fun s => s.mirrorReceive b)
  refine answers_act ⟨?_, State.mem_finish_out ?_⟩
  · rw [State.finish_pair, hrun]
    exact State.putTwin_pair (s.begin t) _
  · rw [State.get_finish _ _ _ (by decide) (by decide), hrun]
    exact (s.begin t).putTwin_sent _

end Commands

/-- Settles O53, kind by kind. -/
theorem twinPacketsAreTaken : Obligations.TwinPacketsAreTaken := by
  refine fun s t seq hserved hpaired hup => ⟨fun hexp hrole => ⟨fun b => answers_mirror hserved hpaired hup hexp hrole,
    answers_changed hserved hpaired hup hexp hrole, answers_commit hserved hpaired hup hexp hrole,
    fun k v hk => answers_stressByte hserved hpaired hup hexp hrole hk v,
    fun offset data hstep => answers_stressEnd hserved hpaired hup hexp hrole hstep,
    fun p block hp hlength => answers_statistics hserved hpaired hup hexp hrole hp hlength block⟩,
    fun hexp => answers_hello hserved hpaired hup hexp, fun want b hwant _ _ hgap => answers_mirrorGap hserved hpaired hup hwant hgap b⟩

end Sys2Proof.Machine
end

section
set_option Elab.async false
/-!
PROOFS. A flat output that is disabled while its lanes' PLL has not locked (R26, R298; O45).
-/

namespace Sys2Proof.Machine

/-- A device in Run whose two flat outputs are enabled, the first running, with the flat lanes' PLL off. -/
def lanesWithoutPll : State :=
  let s := ((State.reset.put (flatK 0 1) 1).put (flatK 1 1) 1).put (flatK 0 0x0C) 3
  { s.stage 0xC .up with power := { s.power with phase := .run, plls := [], locking := [] } }

theorem lanesWithoutPll_takes : (lanesWithoutPll.begin 0).takesValue (flatK 0 1) [0] = true := by decide +kernel

theorem lanesWithoutPll_stays : ((lanesWithoutPll.begin 0).effect (flatK 0 1) (leNat [0]) { trained := some true }).get (flatK 0 0x0C) = 3 := by
  decide +kernel

/-- The first output's disable turns the PLL on for the second, and the lanes' lock is awaited before the output follows. -/
theorem outputDisable_of_lanesWithoutPll :
    Answers (exec (.outputEnable 0 .internal 0 0 true) lanesWithoutPll) fun s' => s'.get (flatK 0 0x0C) = 3 := by
  have himm : immediate (flatK 0 1) = true := by decide +kernel
  rw [exec_outputEnable]
  refine answers_actIf (by decide) ?_
  rw [State.get_finish _ _ _ (by decide) (by decide)]
  have hrun := State.access_effect (s := lanesWithoutPll.begin 0) (p := .internal) himm rfl lanesWithoutPll_takes false
    { trained := some true } rfl
  exact (congrArg (State.get · (flatK 0 0x0C)) hrun).trans lanesWithoutPll_stays

/-- Refutes O45: its clause on the disable asks nothing of the flat lanes' PLL. While the other output is enabled the write turns an absent
PLL on (R26), its lock is awaited, and the output that is disabled keeps its state until then. -/
theorem not_flatOutputsFollow : ¬ Obligations.FlatOutputsFollow := by
  intro h
  obtain ⟨henable, -⟩ := h lanesWithoutPll 0 0 (by decide) (by decide +kernel) (by decide +kernel)
  obtain ⟨s', hnext, -, -, hstate⟩ := (henable .internal true rfl).2 lanesWithoutPll_takes
  obtain ⟨u, hnext', hkept⟩ := outputDisable_of_lanesWithoutPll
  obtain rfl : s' = u := Host.Outcome.next.inj (hnext.symm.trans hnext')
  unfold State.flatState at hstate
  rw [hkept] at hstate
  exact absurd hstate (by simp)

end Sys2Proof.Machine
end

section
set_option Elab.async false
/-!
PROOFS. The links of the MACs, PTP, neighbours and echoes (R360 to R366, R378; O48).
-/

namespace Sys2Proof.Machine

/-! ### The links through what the enables bring (R61, R360) -/

/-- The causes that stand for the MACs' links. -/
def State.linkCauses (s : State) : List (Nat × Nat × Nat) := s.faults.standing.filter fun x => x.1 == 0xD && x.2.1 == 1

/-- A state of which the MACs' causes alone are seen. -/
def State.linkCauseView (s : State) : State := { State.reset with faults := { standing := s.linkCauses } }

/-- The rates of the MACs' links, and their causes, stay as they were. -/
abbrev EthKept (s u : State) : Prop := Keeps State.linkCauseView (fun k => k == 0x280009) s u

theorem linkCauseView_congr {s u : State} (h : u.faults.standing = s.faults.standing) : u.linkCauseView = s.linkCauseView := by
  rw [State.linkCauseView, State.linkCauses, h, ← State.linkCauses, ← State.linkCauseView]

theorem EthKept.stands {s u : State} (h : EthKept s u) (i : Nat) : u.stands 0xD 1 i = s.stands 0xD 1 i := by
  have hmem : ∀ w : State, w.stands 0xD 1 i = w.linkCauses.contains (0xD, 1, i) := fun w => by
    rw [Bool.eq_iff_iff]
    simp [State.stands, State.linkCauses]
  have hlists : u.linkCauses = s.linkCauses := congrArg (fun w : State => w.faults.standing) h.1
  rw [hmem, hmem, hlists]

theorem EthKept.rates {s u : State} (h : EthKept s u) : u.get 0x280009 = s.get 0x280009 := h.2 _ rfl

section Ops

variable (s : State)

theorem EthKept.put {k : Nat} (hk : k ≠ 0x280009) (v : Nat) : EthKept s (s.put k v) := Keeps.put (by simpa using hk) s v

theorem EthKept.onset {fn cause : Nat} (h : (fn, cause) ≠ (0xD, 1)) (item : Nat) : EthKept s (s.onset fn cause item) := by
  refine ⟨?_, fun k hk => ?_⟩
  · have hnot : ¬ (fn = 0xD ∧ cause = 1) := fun e => h (Prod.ext e.1 e.2)
    have hlists : (s.onset fn cause item).linkCauses = s.linkCauses := by
      rw [State.linkCauses, State.linkCauses, State.onset_standing]
      split
      · rfl
      · rw [List.filter_append, List.filter_cons_of_neg (by simpa using hnot), List.filter_nil, List.append_nil]
    rw [State.linkCauseView, State.linkCauseView, hlists]
  · obtain rfl : k = 0x280009 := by simpa using hk
    exact State.get_onset _ _ _ _ (by decide)

theorem EthKept.settle {fn cause : Nat} (h : (fn, cause) ≠ (0xD, 1)) (item : Nat) : EthKept s (s.settle fn cause item) := by
  refine ⟨?_, fun k hk => ?_⟩
  · have hnot : ¬ (fn = 0xD ∧ cause = 1) := fun e => h (Prod.ext e.1 e.2)
    have hlists : (s.settle fn cause item).linkCauses = s.linkCauses := by
      rw [State.linkCauses, State.linkCauses, State.settle_standing, List.filter_filter]
      refine List.filter_congr fun x _ => ?_
      by_cases hx : x.1 = 0xD ∧ x.2.1 = 1
      · have hne : x ≠ (fn, cause, item) := fun e => hnot ⟨by rw [← hx.1, e], by rw [← hx.2, e]⟩
        simp [hx.1, hx.2, hne]
      · rw [show (x.1 == 0xD && x.2.1 == 1) = false by simpa using hx, Bool.false_and]
    rw [State.linkCauseView, State.linkCauseView, hlists]
  · obtain rfl : k = 0x280009 := by simpa using hk
    exact State.get_settle _ _ _ _ (by decide)

end Ops

/-- An object of the index 0x3000 or above is none of the MACs'. -/
theorem keyOf_ne_rates {i sub : Nat} (h : 0x3000 ≤ i) : keyOf i sub ≠ 0x280009 := by
  unfold keyOf
  omega

theorem camK_ne_rates (p i sub : Nat) : camK p i sub ≠ 0x280009 := keyOf_ne_rates (by omega)

theorem outK_ne_rates (n sub : Nat) : outK n sub ≠ 0x280009 := by
  unfold outK keyOf
  omega

theorem streamK_ne_rates (n sub : Nat) : streamK n sub ≠ 0x280009 := keyOf_ne_rates (by omega)

theorem sealK_ne_rates (n sub : Nat) : sealK n sub ≠ 0x280009 := keyOf_ne_rates (by omega)

theorem slotK_ne_rates (k sub : Nat) : slotK k sub ≠ 0x280009 := keyOf_ne_rates (by omega)

theorem flatK_ne_rates (k sub : Nat) : flatK k sub ≠ 0x280009 := keyOf_ne_rates (by omega)

section Enables

variable (s : State)

theorem EthKept.update (m : Media) : EthKept s { s with media := m } := .of_regs rfl rfl

theorem EthKept.send (o : Out) : EthKept s (s.send o) := .of_regs rfl rfl

theorem EthKept.setCam (p : Nat) (c : Cam) : EthKept s (s.setCam p c) := EthKept.update s _

theorem EthKept.setStream (n : Nat) (c : Stream) : EthKept s (s.setStream n c) := EthKept.update s _

theorem EthKept.setSlot (k : Nat) (c : Slot) : EthKept s (s.setSlot k c) := EthKept.update s _

theorem EthKept.setMaster (m : Nat) (c : CciMaster) : EthKept s (s.setMaster m c) := EthKept.update s _

theorem EthKept.setFlat (k : Nat) (f : FlatOut) : EthKept s (s.setFlat k f) := EthKept.update s _

theorem EthKept.setTimeOut (n : Nat) (o : TimeOut) : EthKept s (s.setTimeOut n o) := .of_regs rfl rfl

theorem EthKept.draw : EthKept s s.draw.1 := .of_regs rfl rfl

theorem EthKept.cciRun (m : Nat) : EthKept s (s.cciRun m) := by
  unfold State.cciRun
  dsimp only
  refine .ite (.refl s) ?_
  split
  · split
    · exact .refl s
    · exact .trans (EthKept.setMaster s _ _) (EthKept.send _ _)
  · split
    · exact .refl s
    · exact .ite (.trans (EthKept.setMaster s _ _) (EthKept.send _ _)) (.refl s)

theorem EthKept.cciAll : EthKept s s.cciAll := Keeps.foldl (fun s m => EthKept.cciRun s m) _ s

theorem EthKept.startPort (p : Nat) : EthKept s (s.startPort p) :=
  .trans (.trans (EthKept.put s (camK_ne_rates _ _ _) _) (EthKept.put _ (camK_ne_rates _ _ _) _)) (EthKept.setCam _ _ _)

theorem EthKept.stopPort (p : Nat) : EthKept s (s.stopPort p) :=
  .trans (.trans (.trans (EthKept.put s (camK_ne_rates _ _ _) _) (EthKept.put _ (camK_ne_rates _ _ _) _)) (EthKept.setCam _ _ _))
    (EthKept.cciAll _)

theorem EthKept.settlePort (p : Nat) : EthKept s (s.settlePort p) :=
  .ite (.refl s) (.ite (.ite (EthKept.startPort s p) (.refl s)) (.ite (.refl s) (EthKept.stopPort s p)))

theorem EthKept.endSegment (n flags : Nat) : EthKept s (s.endSegment n flags) := .ite (.refl s) (EthKept.setStream s _ _)

theorem EthKept.newChain (n : Nat) : EthKept s (s.newChain n) := by
  unfold State.newChain
  dsimp only
  refine .trans (.trans (EthKept.endSegment s n 0) (EthKept.setStream _ n
    { (s.endSegment n 0).stream n with reference := none, motion := [], motionPrev := [], motionFor := none })) ?_
  exact .ite (.refl _) (.trans (.trans (EthKept.draw _) (EthKept.put _ (sealK_ne_rates _ _) _)) (EthKept.setStream _ _ _))

theorem EthKept.requestMotion (n : Nat) : EthKept s (s.requestMotion n) :=
  .ite (.refl s) (.trans (EthKept.setStream s _ _) (EthKept.update _ _))

theorem EthKept.startStream (n : Nat) : EthKept s (s.startStream n) :=
  .trans (.trans (.trans (EthKept.put s (streamK_ne_rates _ _) _) (EthKept.setStream _ _ _)) (EthKept.newChain _ _)) (EthKept.requestMotion _ _)

theorem EthKept.stopStream (n : Nat) : EthKept s (s.stopStream n) :=
  .ite (.trans (.trans (EthKept.setStream s _ _) (EthKept.endSegment _ _ _)) (EthKept.put _ (streamK_ne_rates _ _) _))
    (.trans (EthKept.setStream s _ _) (EthKept.put _ (streamK_ne_rates _ _) _))

theorem EthKept.settleStream (n : Nat) : EthKept s (s.settleStream n) :=
  .ite (.refl s) (.ite (.ite (EthKept.startStream s n) (.refl s)) (.ite (.refl s) (EthKept.stopStream s n)))

theorem EthKept.settleSlot (k : Nat) : EthKept s (s.settleSlot k) :=
  .ite (.refl s) (.ite (.ite (.trans (EthKept.put s (slotK_ne_rates _ _) _) (EthKept.setSlot _ _ _)) (.refl s)) (.ite (.refl s)
    (.trans (.trans (EthKept.put s (slotK_ne_rates _ _) _) (EthKept.setSlot _ _ _)) (EthKept.settle _ (by decide) _))))

theorem EthKept.startVideo (k : Nat) : EthKept s (s.startVideo k) :=
  .ite (.refl s) (.trans (EthKept.put s (flatK_ne_rates _ _) _) (EthKept.setFlat _ _ _))

theorem EthKept.restartFlat (k : Nat) (retrain : Bool) : EthKept s (s.restartFlat k retrain) :=
  .ite (.refl s) (.ite (EthKept.put s (flatK_ne_rates _ _) _) (.ite (EthKept.put s (flatK_ne_rates _ _) _)
    (.ite (EthKept.startVideo s k) (.trans (EthKept.put s (flatK_ne_rates _ _) _) (EthKept.setFlat _ _ _)))))

theorem EthKept.settleFlat (k : Nat) : EthKept s (s.settleFlat k none) := by
  unfold State.settleFlat
  refine .ite (.refl s) (.ite (.ite (EthKept.restartFlat s _ _) (.ite (EthKept.restartFlat s _ _) (.ite (.refl s) ?_))) (.ite (.refl s) ?_))
  · exact .trans (EthKept.setFlat s _ _) (EthKept.restartFlat _ _ _)
  · exact .trans (EthKept.setFlat s _ _) (EthKept.put _ (flatK_ne_rates _ _) _)

theorem EthKept.putDom (k : Nat) (b : Bytes) : EthKept s (s.putDom k b) := .of_regs rfl rfl

theorem EthKept.completeBlit (skipped : Bool) : EthKept s (s.completeBlit skipped) :=
  .trans (EthKept.putDom s 0x430004 _) (.ite
    (.trans (.trans (EthKept.put _ (k := 0x430003) (by decide) _) (EthKept.put _ (k := 0x430005) (by decide) _)) (EthKept.update _ _))
    (.trans (.trans (EthKept.put _ (k := 0x430002) (by decide) _) (EthKept.put _ (k := 0x430006) (by decide) _)) (EthKept.update _ _)))

theorem EthKept.reachWaits (n : Nat) : EthKept s (reachWaits n s) := by
  induction n generalizing s with
  | zero => exact .refl s
  | succ n ih =>
    unfold Sys2Proof.Machine.reachWaits
    split
    · exact .refl s
    · exact .ite (.refl s) (.ite (EthKept.update s _) (.trans (EthKept.completeBlit s true) (ih _)))

theorem EthKept.resumeList : EthKept s s.resumeList :=
  .ite (.trans (EthKept.put s (k := 0x430002) (by decide) _) (EthKept.reachWaits _ _)) (.refl s)

theorem EthKept.fireOut (n at_ : Nat) (late : Bool) : EthKept s (s.fireOut n at_ late) :=
  .trans (EthKept.setTimeOut s n _) (.trans (.trans (EthKept.put _ (outK_ne_rates _ _) _) (EthKept.update _ _)) (EthKept.send _ _))

theorem EthKept.edgeDriven (n : Nat) : EthKept s (s.edgeDriven n) := by
  unfold State.edgeDriven
  refine .ite (.refl s) ?_
  split
  · exact EthKept.fireOut s _ _ _
  · exact .refl s

theorem EthKept.pulseEnded (n : Nat) : EthKept s (s.pulseEnded n) := .ite (.trans (EthKept.setTimeOut s _ _) (EthKept.send _ _)) (.refl s)

theorem EthKept.outEdge (n : Nat) : EthKept s (s.outEdge n) := by
  rw [State.outEdge_eq]
  exact .trans (EthKept.pulseEnded s n) (EthKept.edgeDriven _ n)

theorem EthKept.applyOutput (n : Nat) : EthKept s (s.applyOutput n) := by
  unfold State.applyOutput
  dsimp only
  refine .trans ?_ (.ite (EthKept.outEdge _ _) (.refl _))
  exact .trans (EthKept.setTimeOut s _ _) (.ite (.refl _) (EthKept.send _ _))

theorem EthKept.settleOutput (n : Nat) : EthKept s (s.settleOutput n) := .ite (EthKept.applyOutput s n) (.refl s)

theorem EthKept.settleEnables : EthKept s s.settleEnables := by
  unfold State.settleEnables
  dsimp only
  refine .trans (.trans ?_ (Keeps.foldl (fun s n => EthKept.settleOutput s n) _ _)) (EthKept.cciAll _)
  refine .trans (.trans ?_ (Keeps.foldl (fun s k => EthKept.settleFlat s k) _ _)) (EthKept.resumeList _)
  refine .trans ?_ (Keeps.foldl (fun s k => EthKept.settleSlot s k) _ _)
  exact .trans (Keeps.foldl (fun s p => EthKept.settlePort s p) _ s) (Keeps.foldl (fun s n => EthKept.settleStream s n) _ _)

end Enables

end Sys2Proof.Machine
end

section
set_option Elab.async false
/-!
PROOFS. What the network commands do (R360 to R366, R378; O48).
-/

namespace Sys2Proof.Machine

/-! ### The states of the clock, and the choice of master (R363, R364, R366) -/

/-- A state whose clock has entered a new state, before its causes follow. -/
def State.clockEntered (s : State) (st : Nat) : State :=
  let s := s.put 0x281005 st
  let s : State := { s with net := { s.net with goodSyncs := 0 } }
  let s : State := if st = 1 ∨ st = 4 then { s with clock := { s.clock with established := true } } else s
  if st = 4 then s.setRate 0 else s

section Master

variable (s : State)

theorem State.clockState_eq (st : Nat) : s.clockState st = if st = s.get 0x281005 then s.put 0x281005 st
    else if st = 3 then (s.clockEntered st).onset 0xD 2 else if st = 2 then (s.clockEntered st).settle 0xD 2 else s.clockEntered st := rfl

theorem State.clockEntered_regs (st : Nat) : (s.clockEntered st).regs = (s.put 0x281005 st).regs := by
  unfold State.clockEntered
  split_ifs <;> rfl

theorem State.clockEntered_faults (st : Nat) : (s.clockEntered st).faults = s.faults := by
  unfold State.clockEntered
  split_ifs <;> rfl

theorem State.clockEntered_announces (st : Nat) : (s.clockEntered st).net.announces = s.net.announces := by
  unfold State.clockEntered
  split_ifs <;> rfl

theorem EthKept.clockState (st : Nat) : EthKept s (s.clockState st) := by
  have hput : EthKept s (s.put 0x281005 st) := EthKept.put s (by decide) _
  have hentered : EthKept s (s.clockEntered st) :=
    hput.trans (.of_regs (linkCauseView_congr (by rw [State.clockEntered_faults, State.put_faults])) (State.clockEntered_regs s st))
  rw [State.clockState_eq]
  exact .ite hput (.ite (hentered.trans (EthKept.onset _ (by decide) _)) (.ite (hentered.trans (EthKept.settle _ (by decide) _)) hentered))

/-- The clock's own object alone is written with its state. -/
theorem State.get_clockState {k : Nat} (hk : k ∉ reportKeys) (hne : k ≠ 0x281005) (st : Nat) : (s.clockState st).get k = s.get k := by
  have hput : (s.put 0x281005 st).get k = s.get k := State.get_put_ne _ hne _
  have hentered : (s.clockEntered st).get k = s.get k := (State.get_congr (State.clockEntered_regs s st) k).trans hput
  rw [State.clockState_eq]
  split_ifs
  · exact hput
  · rw [State.get_onset _ _ _ _ hk, hentered]
  · rw [State.get_settle _ _ _ _ hk, hentered]
  · exact hentered

theorem State.get_clockState_self {st : Nat} (h : st < 8) : (s.clockState st).get 0x281005 = st := by
  have hput : (s.put 0x281005 st).get 0x281005 = st := by
    rw [State.get_put_self]
    exact Nat.mod_eq_of_lt (by rw [show widthOf 0x281005 = 8 from by decide +kernel]; omega)
  have hentered : (s.clockEntered st).get 0x281005 = st := (State.get_congr (State.clockEntered_regs s st) _).trans hput
  rw [State.clockState_eq]
  split_ifs
  · exact hput
  · rw [State.get_onset _ _ _ _ (by decide), hentered]
  · rw [State.get_settle _ _ _ _ (by decide), hentered]
  · exact hentered

theorem State.clockState_announces (st : Nat) : (s.clockState st).net.announces = s.net.announces := by
  rw [State.clockState_eq]
  split_ifs
  · rfl
  · rw [State.onset_net, State.clockEntered_announces]
  · rw [State.settle_net, State.clockEntered_announces]
  · exact State.clockEntered_announces s st

/-- A port and a master are taken. -/
def State.follows (s : State) (p : Nat) (a : Announce) : State :=
  let taken := ((s.put 0x281009 p).put 0x281008 a.identity).put 0x281007 (nth s.net.lastPathDelay p 0)
  if s.get 0x281005 = 4 then taken.clockState 1 else taken

/-- The 9640 is grandmaster itself. -/
def State.leads (s : State) (a : Announce) : State := ((s.put 0x281009 0xFF).put 0x281008 a.identity).clockState 4

/-- No master is left. -/
def State.followsNone (s : State) : State :=
  if s.get 0x281005 = 1 ∨ s.get 0x281005 = 2 then (s.put 0x281009 0xFF).clockState 3 else s.put 0x281009 0xFF

theorem State.chooseMaster_eq : s.chooseMaster = match s.bestMaster, s.ownCandidate with
    | some (p, a), none => s.follows p a
    | some (p, a), some o => if betterAnnounce o a then s.leads o else s.follows p a
    | none, some o => s.leads o
    | none, none => s.followsNone := rfl

theorem State.follows_announces (p : Nat) (a : Announce) : (s.follows p a).net.announces = s.net.announces := by
  unfold State.follows
  dsimp only
  split
  · exact State.clockState_announces _ _
  · rfl

theorem State.followsNone_announces : s.followsNone.net.announces = s.net.announces := by
  unfold State.followsNone
  split
  · exact State.clockState_announces _ _
  · rfl

theorem State.chooseMaster_announces : s.chooseMaster.net.announces = s.net.announces := by
  rw [State.chooseMaster_eq]
  split
  · exact State.follows_announces _ _ _
  · split
    · exact State.clockState_announces _ _
    · exact State.follows_announces _ _ _
  · exact State.clockState_announces _ _
  · exact State.followsNone_announces _

theorem EthKept.follows (p : Nat) (a : Announce) : EthKept s (s.follows p a) := by
  have htaken : EthKept s (((s.put 0x281009 p).put 0x281008 a.identity).put 0x281007 (nth s.net.lastPathDelay p 0)) :=
    .trans (.trans (EthKept.put s (by decide) _) (EthKept.put _ (by decide) _)) (EthKept.put _ (by decide) _)
  exact .ite (htaken.trans (EthKept.clockState _ _)) htaken

theorem EthKept.leads (a : Announce) : EthKept s (s.leads a) :=
  .trans (.trans (EthKept.put s (by decide) _) (EthKept.put _ (by decide) _)) (EthKept.clockState _ _)

theorem EthKept.followsNone : EthKept s s.followsNone := by
  have hnone : EthKept s (s.put 0x281009 0xFF) := EthKept.put s (by decide) _
  exact .ite (hnone.trans (EthKept.clockState _ _)) hnone

theorem EthKept.chooseMaster : EthKept s s.chooseMaster := by
  rw [State.chooseMaster_eq]
  split
  · exact EthKept.follows s _ _
  · exact .ite (EthKept.leads s _) (EthKept.follows s _ _)
  · exact EthKept.leads s _
  · exact EthKept.followsNone s

/-- What a port and its master read once they are taken. -/
theorem State.get_follows_port {p : Nat} (hp : p < 2) (a : Announce) : (s.follows p a).get 0x281009 = p := by
  have htaken : (((s.put 0x281009 p).put 0x281008 a.identity).put 0x281007 (nth s.net.lastPathDelay p 0)).get 0x281009 = p := by
    rw [State.get_put_ne _ (by decide), State.get_put_ne _ (by decide), State.get_put_self]
    exact Nat.mod_eq_of_lt (by rw [show widthOf 0x281009 = 8 from by decide +kernel]; omega)
  unfold State.follows
  dsimp only
  split
  · rw [State.get_clockState _ (by decide) (by decide), htaken]
  · exact htaken

theorem State.get_follows_identity (p : Nat) {a : Announce} (ha : a.identity < 2 ^ 64) : (s.follows p a).get 0x281008 = a.identity := by
  have htaken : (((s.put 0x281009 p).put 0x281008 a.identity).put 0x281007 (nth s.net.lastPathDelay p 0)).get 0x281008 = a.identity := by
    rw [State.get_put_ne _ (by decide), State.get_put_self]
    exact Nat.mod_eq_of_lt (by rw [show widthOf 0x281008 = 64 from by decide +kernel]; exact ha)
  unfold State.follows
  dsimp only
  split
  · rw [State.get_clockState _ (by decide) (by decide), htaken]
  · exact htaken

end Master

/-- The best master where one port alone runs PTP and has one. -/
theorem State.bestMaster_of_port {s : State} {mac : Nat} {a : Announce} (hmac : mac < 2) (hon : s.ptpPort mac = true)
    (hoff : s.ptpPort (1 - mac) = false) (ha : nth s.net.announces mac none = some a) : s.bestMaster = some (mac, a) := by
  have hcase : mac = 0 ∨ mac = 1 := by omega
  rcases hcase with rfl | rfl
  · rw [Nat.sub_zero] at hoff
    simp [State.bestMaster, hon, hoff, ha]
  · rw [Nat.sub_self] at hoff
    simp [State.bestMaster, hon, hoff, ha]

theorem State.bestMaster_none {s : State} {mac : Nat} (hmac : mac < 2) (hoff : s.ptpPort (1 - mac) = false)
    (ha : nth s.net.announces mac none = none) : s.bestMaster = none := by
  have hcase : mac = 0 ∨ mac = 1 := by omega
  rcases hcase with rfl | rfl
  · rw [Nat.sub_zero] at hoff
    simp [State.bestMaster, hoff, ha]
  · rw [Nat.sub_self] at hoff
    simp [State.bestMaster, hoff, ha]

theorem State.ownCandidate_none {s : State} (h : s.get 0x281004 = 255) : s.ownCandidate = none := if_pos h

theorem State.chooseMaster_follows {s : State} {mac : Nat} {a : Announce} (hmac : mac < 2) (hon : s.ptpPort mac = true)
    (hoff : s.ptpPort (1 - mac) = false) (ha : nth s.net.announces mac none = some a) (hown : s.get 0x281004 = 255) :
    s.chooseMaster = s.follows mac a := by
  rw [State.chooseMaster_eq, State.bestMaster_of_port hmac hon hoff ha, State.ownCandidate_none hown]

theorem State.chooseMaster_none {s : State} {mac : Nat} (hmac : mac < 2) (hoff : s.ptpPort (1 - mac) = false)
    (ha : nth s.net.announces mac none = none) (hown : s.get 0x281004 = 255) : s.chooseMaster = s.followsNone := by
  rw [State.chooseMaster_eq, State.bestMaster_none hmac hoff ha, State.ownCandidate_none hown]

/-! ### The links of the MACs (R360, R362) -/

section Links

variable (s : State)

theorem State.linkLost_rates (mac : Nat) : (s.linkLost mac).get 0x280009 = s.get 0x280009 := by
  unfold State.linkLost
  dsimp only
  split
  · rfl
  · exact State.get_raiseCore _ _ _ _ _ (by decide)

theorem State.linkLost_stands (mac : Nat) : (s.linkLost mac).stands 0xD 1 mac = true := by
  unfold State.linkLost
  dsimp only
  split
  · assumption
  · rw [State.stands, State.raiseCore_standing]
    simp

theorem EthKept.releaseHeld : EthKept s s.releaseHeld := by
  unfold State.releaseHeld
  dsimp only
  exact .trans (Keeps.foldl (fun s b => EthKept.send s _) _ s) (.of_regs rfl rfl)

/-- The rates that a change of one MAC's link leaves. -/
def ratesWith (old mac rate : Nat) : Nat := if mac = 0 then old / 16 * 16 + rate else old % 16 + 16 * rate

/-- A link is lost. -/
def State.linkDown (s : State) (mac : Nat) : State :=
  let s := if s.get (0x280001 + mac) = 1 then s.linkLost mac else s
  let s : State := { s with net := { s.net with announces := setNth s.net.announces mac none } }
  if s.get 0x281009 = mac then s.chooseMaster else s

/-- A link comes up. -/
def State.linkReturns (s : State) (mac : Nat) : State :=
  let s := ((s.pllLocked .ethLanes).settle 0xD 1 mac).releaseHeld
  if nth s.stages 0xD .off == .starting then s.stage 0xD .up else s

theorem State.macLink_eq (mac rate : Nat) : s.macLink mac rate = if rate = 0 then (s.put 0x280009 (ratesWith (s.get 0x280009) mac rate)).linkDown mac
    else (s.put 0x280009 (ratesWith (s.get 0x280009) mac rate)).linkReturns mac := rfl

theorem State.linkDown_kept (mac : Nat) : EthKept (if s.get (0x280001 + mac) = 1 then s.linkLost mac else s) (s.linkDown mac) := by
  unfold State.linkDown
  dsimp only
  exact .trans (u := { (if s.get (0x280001 + mac) = 1 then s.linkLost mac else s) with net := _ }) (.of_regs rfl rfl)
    (.ite (EthKept.chooseMaster _) (.refl _))

theorem State.linkDown_rates (mac : Nat) : (s.linkDown mac).get 0x280009 = s.get 0x280009 := by
  rw [(s.linkDown_kept mac).rates]
  split
  · exact s.linkLost_rates mac
  · rfl

theorem State.linkDown_stands {mac : Nat} (h : s.get (0x280001 + mac) = 1) : (s.linkDown mac).stands 0xD 1 mac = true := by
  rw [(s.linkDown_kept mac).stands, if_pos h]
  exact s.linkLost_stands mac

theorem State.linkReturns_kept (mac : Nat) : EthKept ((s.pllLocked .ethLanes).settle 0xD 1 mac) (s.linkReturns mac) :=
  .trans (EthKept.releaseHeld _) (.ite (.of_regs rfl rfl) (.refl _))

theorem State.linkReturns_rates (mac : Nat) : (s.linkReturns mac).get 0x280009 = s.get 0x280009 := by
  rw [(s.linkReturns_kept mac).rates, State.get_settle _ _ _ _ (by decide)]
  rfl

theorem State.linkReturns_stands (mac : Nat) : (s.linkReturns mac).stands 0xD 1 mac = false := by
  rw [(s.linkReturns_kept mac).stands, State.stands_settle_self]

/-- The rates once one MAC's link has changed. -/
theorem State.macLink_rates {mac rate : Nat} (hmac : mac < 2) (hrate : rate < 5) (hold : s.get 0x280009 < 256) :
    (s.macLink mac rate).get 0x280009 = ratesWith (s.get 0x280009) mac rate := by
  have hput : (s.put 0x280009 (ratesWith (s.get 0x280009) mac rate)).get 0x280009 = ratesWith (s.get 0x280009) mac rate := by
    rw [State.get_put_self]
    refine Nat.mod_eq_of_lt ?_
    rw [show widthOf 0x280009 = 8 from by decide +kernel]
    unfold ratesWith
    split <;> omega
  rw [State.macLink_eq]
  split
  · rw [State.linkDown_rates, hput]
  · rw [State.linkReturns_rates, hput]

theorem State.macLink_stands_down {mac : Nat} (h : s.get (0x280001 + mac) = 1) (hmac : mac < 2) : (s.macLink mac 0).stands 0xD 1 mac = true := by
  rw [State.macLink_eq, if_pos rfl]
  have hne : 0x280001 + mac ≠ 0x280009 := by omega
  exact State.linkDown_stands _ ((State.get_put_ne _ hne _).trans h)

theorem State.macLink_stands_up {mac rate : Nat} (h : rate ≠ 0) : (s.macLink mac rate).stands 0xD 1 mac = false := by
  rw [State.macLink_eq, if_neg h]
  exact State.linkReturns_stands _ _

end Links

/-- A change of a MAC's link is followed. -/
theorem answers_macLinkChange {s : State} {t mac rate : Nat} (hmac : mac < 2) (hrate : rate < 5) (hserved : s.served = true)
    (hold : s.get 0x280009 < 256) : Answers (exec (.macLinkChange t mac rate) s) fun s' =>
      (if mac = 0 then s'.get 0x280009 % 16 else s'.get 0x280009 / 16) = rate
        ∧ (rate = 0 → s.get (0x280001 + mac) = 1 → s'.stands 0xD 1 mac = true) ∧ (rate ≠ 0 → s'.stands 0xD 1 mac = false) := by
  rw [exec_macLinkChange]
  refine answers_actIf (by simp [hmac, hrate]) ?_
  have hf : ∀ u : State, u.served = true → (if u.served then (u.macLink mac rate).settleEnables else u) = (u.macLink mac rate).settleEnables :=
    fun u h => if_pos h
  have hkept : EthKept ((s.begin t).macLink mac rate) ((s.begin t).macLink mac rate).settleEnables := EthKept.settleEnables _
  refine ⟨?_, fun h0 hon => ?_, fun h0 => ?_⟩
  · rw [State.get_finish _ _ _ (by decide) (by decide), hf (s.begin t) hserved, hkept.rates, State.macLink_rates (s.begin t) hmac hrate hold]
    have hrates : (s.begin t).get 0x280009 = s.get 0x280009 := rfl
    rw [hrates]
    unfold ratesWith
    split <;> omega
  · rw [State.stands_finish, hf (s.begin t) hserved, hkept.stands]
    subst h0
    exact State.macLink_stands_down _ hon hmac
  · rw [State.stands_finish, hf (s.begin t) hserved, hkept.stands]
    exact State.macLink_stands_up _ h0

/-! ### Announces (R363, R364) -/

theorem State.ptpArrives_of_takes {s : State} {p : PtpArrival} (h : s.takesPtp p = true) (f : State → State) : s.ptpArrives p f = f s := by
  have ⟨⟨⟨hreceives, hport⟩, hcarriage⟩, hdomain⟩ : ((s.receives p.arrival = true ∧ s.ptpPort p.arrival.mac = true)
      ∧ (p.carriage == s.get 0x281002) = true) ∧ (p.domain == s.get 0x281003) = true := by simpa [State.takesPtp] using h
  rw [State.ptpArrives, State.arrives, if_pos hreceives, if_pos (by simp [hport, hcarriage, hdomain])]

theorem State.ptpPort_of_takes {s : State} {p : PtpArrival} (h : s.takesPtp p = true) : s.ptpPort p.arrival.mac = true := by
  simp only [State.takesPtp, Bool.and_eq_true] at h
  exact h.1.1.2

/-- An Announce that is taken is kept, and its port is followed where the 9640 is no grandmaster and the other port runs no PTP. -/
theorem answers_announceReceive {s : State} {t : Nat} {p : PtpArrival} {a : Announce} (hmac : p.arrival.mac < 2) (htakes : s.takesPtp p = true)
    (hlen : p.arrival.mac < s.net.announces.length) (hid : a.identity < 2 ^ 64) :
    Answers (exec (.announceReceive t p a) s) fun s' => nth s'.net.announces p.arrival.mac none = some a
      ∧ (s.get 0x281004 = 255 → s.ptpPort (1 - p.arrival.mac) = false →
          s'.get 0x281009 = p.arrival.mac ∧ s'.get 0x281008 = a.identity) := by
  have htakes' : (s.begin t).takesPtp p = true := htakes
  rw [exec_announceReceive]
  refine answers_actIf (by simp [hmac]) ?_
  have hkept : nth (setNth s.net.announces p.arrival.mac (some a)) p.arrival.mac none = some a := nth_setNth_self hlen _ _
  refine ⟨?_, fun hown hoff => ?_⟩
  · rw [State.finish_net, State.ptpArrives_of_takes htakes', State.announced, State.chooseMaster_announces]
    exact hkept
  · have hchoice : (s.begin t).announced p.arrival.mac a = State.follows _ p.arrival.mac a :=
      State.chooseMaster_follows hmac (State.ptpPort_of_takes htakes') hoff hkept hown
    rw [State.get_finish _ _ _ (by decide) (by decide), State.get_finish _ _ _ (by decide) (by decide), State.ptpArrives_of_takes htakes',
      hchoice]
    exact ⟨State.get_follows_port _ hmac a, State.get_follows_identity _ _ hid⟩

/-- A lost Announce leaves its port without one, and the clock in holdover where nothing else can be followed. -/
theorem answers_announceTimeout {s : State} {t mac : Nat} (hmac : mac < 2) (hon : s.ptpPort mac = true) :
    Answers (exec (.announceTimeout t mac) s) fun s' => nth s'.net.announces mac none = none
      ∧ (s.get 0x281004 = 255 → s.ptpPort (1 - mac) = false → s.get 0x281005 = 1 ∨ s.get 0x281005 = 2 →
          s'.get 0x281005 = 3 ∧ s'.get 0x281009 = 0xFF) := by
  have hlost : (s.begin t).announceLost mac
      = ({ s.begin t with net := { s.net with announces := setNth s.net.announces mac none } } : State).chooseMaster := by
    have hon' : (s.begin t).ptpPort mac = true := hon
    rw [State.announceLost, if_neg (by rw [hon']; decide)]
    rfl
  have hnone : nth (setNth s.net.announces mac none) mac none = none := by
    by_cases h : mac < s.net.announces.length
    · exact nth_setNth_self h _ _
    · simp [nth, setNth, List.getElem?_eq_none (show (s.net.announces.set mac none).length ≤ mac by simpa using h)]
  rw [exec_announceTimeout]
  refine answers_actIf (by simp [hmac]) ?_
  refine ⟨?_, fun hown hoff hst => ?_⟩
  · rw [State.finish_net, hlost, State.chooseMaster_announces]
    exact hnone
  · have hchoice : ({ s.begin t with net := { s.net with announces := setNth s.net.announces mac none } } : State).chooseMaster = State.clockState _ 3 :=
      (State.chooseMaster_none (s := { s.begin t with net := { s.net with announces := setNth s.net.announces mac none } }) hmac hoff hnone
        hown).trans (if_pos hst)
    rw [State.get_finish _ _ _ (by decide) (by decide), State.get_finish _ _ _ (by decide) (by decide), hlost, hchoice]
    refine ⟨State.get_clockState_self _ (by decide), ?_⟩
    rw [State.get_clockState _ (by decide) (by decide), State.get_put_self]
    decide +kernel

end Sys2Proof.Machine
end

section
set_option Elab.async false
/-!
PROOFS. PTP's Syncs and delays, neighbours and echoes (R360, R363 to R366, R378; O48).
-/

namespace Sys2Proof.Machine

/-! ### The clock through its outputs (R366, R373) -/

/-- A state of which the clock alone is seen. -/
def State.clockView (s : State) : State := { State.reset with now := s.now, clock := s.clock }

/-- The clock, and the count of its steps, stay as they were. -/
abbrev ClockKept (s u : State) : Prop := Keeps State.clockView (fun k => k == 0x28100B) s u

section Steps

variable (s : State)

theorem ClockKept.clock {s u : State} (h : ClockKept s u) : u.clock = s.clock := h.field_of (field := State.clock) fun _ => rfl

theorem ClockKept.now {s u : State} (h : ClockKept s u) : u.now = s.now := h.field_of (field := State.now) fun _ => rfl

theorem ClockKept.steps {s u : State} (h : ClockKept s u) : u.get 0x28100B = s.get 0x28100B := h.2 _ rfl

theorem ClockKept.setTimeOut (n : Nat) (o : TimeOut) : ClockKept s (s.setTimeOut n o) := .of_regs rfl rfl

theorem ClockKept.send (o : Out) : ClockKept s (s.send o) := .of_regs rfl rfl

theorem ClockKept.update (m : Media) : ClockKept s { s with media := m } := .of_regs rfl rfl

theorem ClockKept.putOut (n sub v : Nat) : ClockKept s (s.put (outK n sub) v) := by
  have hne : outK n sub ≠ 0x28100B := by
    unfold outK keyOf
    omega
  exact Keeps.put (view := State.clockView) (objs := fun k => k == 0x28100B) (beq_eq_false_iff_ne.2 hne) s v fun _ _ => rfl

theorem ClockKept.fireOut (n at_ : Nat) (late : Bool) : ClockKept s (s.fireOut n at_ late) :=
  .trans (ClockKept.setTimeOut s n _) (.trans (.trans (ClockKept.putOut _ _ _ _) (ClockKept.update _ _)) (ClockKept.send _ _))

theorem ClockKept.edgeDriven (n : Nat) : ClockKept s (s.edgeDriven n) := by
  unfold State.edgeDriven
  refine .ite (.refl s) ?_
  split
  · exact ClockKept.fireOut s _ _ _
  · exact .refl s

theorem ClockKept.pulseEnded (n : Nat) : ClockKept s (s.pulseEnded n) :=
  .ite (.trans (ClockKept.setTimeOut s _ _) (ClockKept.send _ _)) (.refl s)

theorem ClockKept.outEdge (n : Nat) : ClockKept s (s.outEdge n) := by
  rw [State.outEdge_eq]
  exact .trans (ClockKept.pulseEnded s n) (ClockKept.edgeDriven _ n)

theorem ClockKept.stepOutputs (old : Nat) : ClockKept s (s.stepOutputs old) :=
  Keeps.foldl (fun s n => .trans (ClockKept.setTimeOut s n _) (.ite (ClockKept.outEdge _ n) (.refl _))) _ s

/-- A clock that takes its master's time. -/
def State.timeTaken (s : State) (master : Nat) : State :=
  { s with clock := { s.clock with offset := (master : Int) - s.now, rateFrom := s.now } }

theorem ClockKept.seekTick : ClockKept s s.seekTick := .of_regs rfl rfl

theorem ClockKept.stepClock (master : Nat) : ClockKept ((s.timeTaken master).bump 0x28100B) (s.stepClock master) :=
  .trans (ClockKept.stepOutputs _ s.ptp) (ClockKept.seekTick _)

end Steps

/-! ### Syncs (R366) -/

/-- The time at which a clock's rate was last set. -/
theorem State.ptp_of_offset {s : State} {x : Nat} (h : s.clock.offset = (x : Int) - s.now) (hr : s.clock.rateFrom = s.now) : s.ptp = x := by
  rw [State.ptp, State.ptpAt, h, hr, Int.sub_self, Int.mul_zero, Int.zero_ediv]
  omega

/-- An offset that has been measured, and the servo's rate after it. -/
def State.measured (s : State) (off : Int) : State := (s.put 0x281006 (unsigned 32 off)).servo

/-- The Syncs in a row that were good. -/
def State.counting (s : State) (good : Nat) : State := { s with net := { s.net with goodSyncs := good } }

section Sync

variable (s : State) (off : Int)

theorem State.measured_regs : (s.measured off).regs = (s.put 0x281006 (unsigned 32 off)).regs := rfl

theorem State.measured_ptp : (s.measured off).ptp = s.ptp := State.ptp_of_offset (s := s.measured off) rfl rfl

theorem State.measured_rate : (s.measured off).clock.rate.natAbs ≤ 2147483 := by
  have hrate : (s.measured off).clock.rate = (((s.put 0x281006 (unsigned 32 off)).draw.2 % 4294967 : Nat) : Int) - 2147483 := rfl
  rw [hrate]
  omega

theorem State.measured_get {k : Nat} (hk : k ≠ 0x281006) : (s.measured off).get k = s.get k :=
  (State.get_congr (s.measured_regs off) k).trans (State.get_put_ne _ hk _)

end Sync

/-- A Sync of the master that is followed, while the clock acquires. -/
theorem State.sync_acquiring {s : State} {mac master : Nat} (hst : s.get 0x281005 = 1) (hport : s.get 0x281009 = mac)
    (hoff : ((s.ptp : Int) - master).natAbs < 2 ^ 31) : s.sync mac master =
      let off : Int := (s.ptp : Int) - master
      let counted := (s.measured off).counting (if off.natAbs < 100 then s.net.goodSyncs + 1 else 0)
      if 1000000 < off.natAbs then counted.stepClock master
      else if 16 ≤ (if off.natAbs < 100 then s.net.goodSyncs + 1 else 0) then counted.clockState 2 else counted := by
  have hmine : (s.get 0x281005 == 4 || !(s.get 0x281009 == mac || s.get 0x281009 == 0xFF)) = false := by simp [hst, hport]
  have hstill : (s.measured ((s.ptp : Int) - master)).get 0x281005 = 1 := (s.measured_get _ (by decide)).trans hst
  have hsame : ¬ (s.get 0x281005 = 0 ∨ s.get 0x281005 = 3 ∨ s.get 0x281005 = 2 ∧ 1000 < ((s.ptp : Int) - master).natAbs) := by
    rw [hst]
    simp
  have hno : ¬ (s.get 0x281005 = 2 ∨ s.get 0x281005 = 3) := by
    rw [hst]
    decide
  rw [State.sync, if_neg (by rw [hmine]; decide)]
  dsimp only
  rw [if_pos hoff, if_neg hsame, if_neg hno]
  exact if_neg (not_not_intro hstill)

/-- A clock that is far off is stepped. -/
theorem answers_syncFar {s : State} {t master : Nat} {p : PtpArrival} (hmac : p.arrival.mac < 2) (htakes : s.takesPtp p = true)
    (hst : s.get 0x281005 = 1) (hport : s.get 0x281009 = p.arrival.mac) (hoff : (((s.begin t).ptp : Int) - master).natAbs < 2 ^ 31)
    (hfar : 1000000 < (((s.begin t).ptp : Int) - master).natAbs) : Answers (exec (.syncReceive t p master) s) fun s' =>
      s'.ptp = master ∧ s'.clock.rate.natAbs ≤ 2147483 ∧ s'.get 0x28100B = (s.get 0x28100B + 1) % 2 ^ 32 := by
  have hsync : (s.begin t).sync p.arrival.mac master = State.stepClock _ master :=
    (State.sync_acquiring (s := s.begin t) hst hport hoff).trans (if_pos hfar)
  have htakes' : (s.begin t).takesPtp p = true := htakes
  have hkept := ClockKept.stepClock (((s.begin t).measured (((s.begin t).ptp : Int) - master)).counting
    (if (((s.begin t).ptp : Int) - master).natAbs < 100 then (s.begin t).net.goodSyncs + 1 else 0)) master
  rw [exec_syncReceive]
  refine answers_actIf (by simp [hmac]) ⟨?_, ?_, ?_⟩
  · have hptp : ∀ u v : State, u.clock = v.clock → u.now = v.now → u.ptp = v.ptp := fun u v hc hn => by
      rw [State.ptp, State.ptp, State.ptpAt, State.ptpAt, hc, hn]
    rw [hptp _ _ (State.finish_clock _ _ _) (State.finish_now _ _ _), State.ptpArrives_of_takes htakes', hsync,
      hptp _ _ hkept.clock hkept.now]
    exact State.ptp_of_offset rfl rfl
  · rw [State.finish_clock, State.ptpArrives_of_takes htakes', hsync, hkept.clock]
    exact State.measured_rate _ _
  · rw [State.get_finish _ _ _ (by decide) (by decide), State.ptpArrives_of_takes htakes', hsync, hkept.steps, State.get_bump_32 _ (by decide +kernel)]
    exact congrArg (fun n => (n + 1) % 2 ^ 32) (State.measured_get (s.begin t) _ (by decide))

theorem State.clockState_clock {s : State} {st : Nat} (h : st ≠ 1 ∧ st ≠ 4) : (s.clockState st).clock = s.clock := by
  have hentered : (s.clockEntered st).clock = s.clock := by
    unfold State.clockEntered
    dsimp only
    rw [if_neg h.2, if_neg (by simp [h.1, h.2])]
    rfl
  rw [State.clockState_eq]
  split_ifs
  · rfl
  · rw [State.onset_clock, hentered]
  · rw [State.settle_clock, hentered]
  · exact hentered

theorem State.clockState_now (s : State) (st : Nat) : (s.clockState st).now = s.now := by
  have hentered : (s.clockEntered st).now = s.now := by
    unfold State.clockEntered
    split_ifs <;> rfl
  rw [State.clockState_eq]
  split_ifs
  · rfl
  · rw [State.onset_now, hentered]
  · rw [State.settle_now, hentered]
  · exact hentered

theorem State.ptp_congr {s u : State} (hc : u.clock = s.clock) (hn : u.now = s.now) : u.ptp = s.ptp := by
  rw [State.ptp, State.ptp, State.ptpAt, State.ptpAt, hc, hn]

theorem unsigned_lt (w : Nat) (v : Int) : unsigned w v < 2 ^ w := by
  have hpos : (0 : Int) < 2 ^ w := by positivity
  have hlt : v % 2 ^ w < 2 ^ w := Int.emod_lt_of_pos _ hpos
  unfold unsigned
  zify
  rw [Int.toNat_of_nonneg (Int.emod_nonneg _ hpos.ne')]
  exact hlt

/-- The sixteenth Sync in a row that is near locks the clock. -/
theorem answers_syncNear {s : State} {t master : Nat} {p : PtpArrival} (hmac : p.arrival.mac < 2) (htakes : s.takesPtp p = true)
    (hst : s.get 0x281005 = 1) (hport : s.get 0x281009 = p.arrival.mac) (hoff : (((s.begin t).ptp : Int) - master).natAbs < 2 ^ 31)
    (hnear : (((s.begin t).ptp : Int) - master).natAbs < 100) (hgood : 15 ≤ s.net.goodSyncs) :
    Answers (exec (.syncReceive t p master) s) fun s' => s'.get 0x281005 = 2
      ∧ s'.get 0x281006 = unsigned 32 (((s.begin t).ptp : Int) - master) ∧ s'.ptp = (s.begin t).ptp ∧ s'.clock.rate.natAbs ≤ 2147483 := by
  have hsync : (s.begin t).sync p.arrival.mac master
      = (((s.begin t).measured (((s.begin t).ptp : Int) - master)).counting (s.net.goodSyncs + 1)).clockState 2 := by
    refine (State.sync_acquiring (s := s.begin t) hst hport hoff).trans ?_
    dsimp only
    rw [if_neg (by omega), if_pos hnear, if_pos (by rw [State.begin_net]; omega), State.begin_net]
  have htakes' : (s.begin t).takesPtp p = true := htakes
  have hclock : (((s.begin t).sync p.arrival.mac master)).clock = ((s.begin t).measured (((s.begin t).ptp : Int) - master)).clock := by
    rw [hsync, State.clockState_clock (by decide)]
    rfl
  have hnow : (((s.begin t).sync p.arrival.mac master)).now = ((s.begin t).measured (((s.begin t).ptp : Int) - master)).now := by
    rw [hsync, State.clockState_now]
    rfl
  have hptp : ((s.begin t).sync p.arrival.mac master).ptp = (s.begin t).ptp := (State.ptp_congr hclock hnow).trans (State.measured_ptp _ _)
  have hoffset : ((s.begin t).sync p.arrival.mac master).get 0x281006 = unsigned 32 (((s.begin t).ptp : Int) - master) := by
    rw [hsync, State.get_clockState _ (by decide) (by decide)]
    refine (State.get_congr (State.measured_regs _ _) _).trans ?_
    rw [State.get_put_self]
    exact Nat.mod_eq_of_lt (by rw [show widthOf 0x281006 = 32 from by decide +kernel]; exact unsigned_lt _ _)
  rw [exec_syncReceive]
  refine answers_actIf (by simp [hmac]) ⟨?_, ?_, ?_, ?_⟩
  · rw [State.get_finish _ _ _ (by decide) (by decide), State.ptpArrives_of_takes htakes', hsync]
    exact State.get_clockState_self _ (by decide)
  · rw [State.get_finish _ _ _ (by decide) (by decide), State.ptpArrives_of_takes htakes', hoffset]
  · rw [State.ptp_congr (State.finish_clock _ _ _) (State.finish_now _ _ _), State.ptpArrives_of_takes htakes', hptp]
  · rw [State.finish_clock, State.ptpArrives_of_takes htakes', hclock]
    exact State.measured_rate _ _

/-! ### Frames that leave (R360, R361) -/

theorem State.ethSend_of_room {s : State} {mac kind : Nat} {data : Bytes} (hserved : s.served = true) (hon : s.get (0x280001 + mac) = 1)
    (hroom : s.txRoom (.eth mac kind data) = true) : s.ethSend mac kind data = s.send (.eth mac kind data) := by
  rw [State.ethSend, if_neg (by simp [hserved, hon]), if_pos hroom]

theorem State.served_of_ptpPort {s : State} {mac : Nat} (h : s.ptpPort mac = true) : s.served = true ∧ s.get (0x280001 + mac) = 1 := by
  simp only [State.ptpPort, Bool.and_eq_true, beq_iff_eq] at h
  exact ⟨h.1.1, h.2⟩

theorem State.served_of_hears {s : State} {mac : Nat} (h : s.macHears mac = true) : s.served = true ∧ s.get (0x280001 + mac) = 1 := by
  simp only [State.macHears, Bool.and_eq_true, beq_iff_eq] at h
  exact h.1

theorem State.macHears_of_receives {s : State} {a : Arrival} (h : s.receives a = true) : s.macHears a.mac = true := by
  simp only [State.receives, Bool.and_eq_true] at h
  exact h.1.1

/-- What a command finishes with is among what it sent. -/
theorem mem_out_of_ethSend {s : State} {t mac kind : Nat} {data : Bytes} {f : State → State}
    (hf : f (s.begin t) = (s.begin t).ethSend mac kind data) (hserved : s.served = true) (hon : s.get (0x280001 + mac) = 1)
    (hroom : (s.begin t).txRoom (.eth mac kind data) = true) : Out.eth mac kind data ∈ (s.finish t f).out := by
  refine State.mem_finish_out ?_
  rw [hf, State.ethSend_of_room (s := s.begin t) hserved hon hroom]
  exact List.mem_append_right _ (List.mem_singleton_self _)

/-- As grandmaster a port announces the 9640's own data. -/
theorem answers_announceSend {s : State} {t mac : Nat} {c : Announce} (hmac : mac < 2) (hst : s.get 0x281005 = 4) (hon : s.ptpPort mac = true)
    (hown : s.ownCandidate = some c) (hroom : (s.begin t).txRoom (.eth mac 1 (s.ptpHead false ++ announceBody c)) = true) :
    Answers (exec (.announceSend t mac) s) fun s' => Out.eth mac 1 (s.ptpHead false ++ announceBody c) ∈ s'.out := by
  obtain ⟨hserved, henabled⟩ := State.served_of_ptpPort hon
  have hown' : (s.begin t).ownCandidate = some c := hown
  have hst' : (s.begin t).get 0x281005 = 4 := hst
  have hon' : (s.begin t).ptpPort mac = true := hon
  rw [exec_announceSend]
  refine answers_actIf (by simp [hmac]) (mem_out_of_ethSend ?_ hserved henabled hroom)
  rw [State.sendAnnounce, hown']
  exact if_neg (by rw [hst', hon']; decide)

/-- A delay request that arrives is answered. -/
theorem answers_delayAsked {s : State} {t requester delay : Nat} {p : PtpArrival} (hmac : p.arrival.mac < 2) (htakes : s.takesPtp p = true)
    (hmode : s.get 0x281002 = 0 ∨ s.get 0x281005 = 4)
    (hroom : (s.begin t).txRoom (.eth p.arrival.mac 3 (s.ptpHead false ++ leBytes 8 requester ++ leBytes 8 (s.begin t).eventTime)) = true) :
    Answers (exec (.delayRequestResponse t p .asked requester delay) s) fun s' =>
      Out.eth p.arrival.mac 3 (s.ptpHead false ++ leBytes 8 requester ++ leBytes 8 (s.begin t).eventTime) ∈ s'.out := by
  obtain ⟨hserved, henabled⟩ := State.served_of_ptpPort (State.ptpPort_of_takes htakes)
  have htakes' : (s.begin t).takesPtp p = true := htakes
  rw [exec_delayRequestResponse]
  refine answers_actIf (by simp [hmac]) (mem_out_of_ethSend ?_ hserved henabled hroom)
  rw [State.delayMessage, if_neg (by decide), State.ptpArrives_of_takes htakes']
  exact if_pos hmode

/-- A path delay that arrives is kept, and told where its port is followed. -/
theorem answers_delayAnswered {s : State} {t requester delay : Nat} {p : PtpArrival} (hmac : p.arrival.mac < 2) (htakes : s.takesPtp p = true)
    (hlen : p.arrival.mac < s.net.lastPathDelay.length) (hdelay : delay < 2 ^ 32) :
    Answers (exec (.delayRequestResponse t p .answered requester delay) s) fun s' => nth s'.net.lastPathDelay p.arrival.mac 0 = delay
      ∧ (s.get 0x281009 = p.arrival.mac → s'.get 0x281007 = delay) := by
  have htakes' : (s.begin t).takesPtp p = true := htakes
  have hrun : (s.begin t).delayMessage p .answered requester delay = (s.begin t).pathDelay p.arrival.mac .answered requester delay := by
    rw [State.delayMessage, if_neg (by decide), State.ptpArrives_of_takes htakes']
  rw [exec_delayRequestResponse]
  refine answers_actIf (by simp [hmac]) ⟨?_, fun hport => ?_⟩
  · rw [State.finish_net, hrun]
    have hnet : ((s.begin t).pathDelay p.arrival.mac .answered requester delay).net.lastPathDelay = setNth s.net.lastPathDelay p.arrival.mac delay := by
      unfold State.pathDelay
      dsimp only
      split <;> rfl
    rw [hnet]
    exact nth_setNth_self hlen _ _
  · rw [State.get_finish _ _ _ (by decide) (by decide), hrun]
    have hput : (s.begin t).pathDelay p.arrival.mac .answered requester delay = State.put _ 0x281007 delay := if_pos (Or.inl hport)
    rw [hput, State.get_put_self]
    exact Nat.mod_eq_of_lt (by rw [show widthOf 0x281007 = 32 from by decide +kernel]; exact hdelay)

/-- A delay request that is due leaves. -/
theorem answers_delayDue {s : State} {t requester delay : Nat} {p : PtpArrival} (hmac : p.arrival.mac < 2) (hon : s.ptpPort p.arrival.mac = true)
    (hmode : s.get 0x281002 = 0 ∨ s.get 0x281009 = p.arrival.mac)
    (hroom : (s.begin t).txRoom (.eth p.arrival.mac 2 (s.ptpHead true ++ leBytes 8 ownIdentity ++ leBytes 8 (s.begin t).eventTime)) = true) :
    Answers (exec (.delayRequestResponse t p .due requester delay) s) fun s' =>
      Out.eth p.arrival.mac 2 (s.ptpHead true ++ leBytes 8 ownIdentity ++ leBytes 8 (s.begin t).eventTime) ∈ s'.out := by
  obtain ⟨hserved, henabled⟩ := State.served_of_ptpPort hon
  have hon' : (s.begin t).ptpPort p.arrival.mac = true := hon
  rw [exec_delayRequestResponse]
  refine answers_actIf (by simp [hmac]) (mem_out_of_ethSend ?_ hserved henabled hroom)
  rw [State.delayMessage, if_pos rfl, if_pos hon']
  exact if_pos hmode

theorem State.ethSend_learned {s : State} {n : Net} {mac kind : Nat} {data : Bytes} (hserved : s.served = true)
    (hon : s.get (0x280001 + mac) = 1) (hroom : s.txRoom (.eth mac kind data) = true) :
    ({ s with net := n } : State).ethSend mac kind data = ({ s with net := n } : State).send (.eth mac kind data) :=
  State.ethSend_of_room (s := { s with net := n }) hserved hon hroom

/-- A neighbour that asks for the device's own address is learned and answered. -/
theorem answers_neighbour {s : State} {t sender senderMac target : Nat} {a : Arrival} {v6 : Bool} {o : Out} (hmac : a.mac < 2)
    (hreceives : s.receives a = true) (hown : s.ownAddress v6 target = true)
    (ho : o = Out.eth a.mac (if v6 then 5 else 4) (beBytes 6 (Config.macAddress a.mac).toNat ++ leBytes 16 target ++ leBytes 16 sender))
    (hroom : (s.begin t).txRoom o = true) : Answers (exec (.arpNeighbourDiscovery t a v6 true sender senderMac target) s) fun s' =>
      (sender, senderMac) ∈ s'.net.neighbours ∧ o ∈ s'.out := by
  subst ho
  obtain ⟨hserved, henabled⟩ := State.served_of_hears (State.macHears_of_receives hreceives)
  have hreceives' : (s.begin t).receives a = true := hreceives
  have hown' : (s.begin t).ownAddress v6 target = true := hown
  have hrun : ((s.begin t).arrives a fun s => s.neighbour a.mac v6 true sender senderMac target)
      = ({ s.begin t with net := { s.net with neighbours := (s.net.neighbours.filter fun x => x.1 != sender) ++ [(sender, senderMac)] } } : State).ethSend
          a.mac (if v6 then 5 else 4) (beBytes 6 (Config.macAddress a.mac).toNat ++ leBytes 16 target ++ leBytes 16 sender) := by
    rw [State.arrives, if_pos hreceives', State.neighbour, if_neg (by rw [hown']; decide)]
    rfl
  rw [State.ethSend_learned (s := s.begin t) hserved henabled hroom] at hrun
  rw [exec_arpNeighbourDiscovery]
  refine answers_actIf (by simp [hmac]) ⟨?_, State.mem_finish_out ?_⟩
  · rw [State.finish_net, hrun]
    exact List.mem_append_right _ (List.mem_singleton_self _)
  · rw [hrun]
    exact List.mem_append_right _ (List.mem_singleton_self _)

/-- An echo request goes back with its data. -/
theorem answers_echo {s : State} {t sender target : Nat} {a : Arrival} {v6 : Bool} {data : Bytes} (hmac : a.mac < 2)
    (hown : s.ownAddress v6 target = true) (hreceives : s.receives a = true)
    (hroom : (s.begin t).txRoom (.eth a.mac 6 (leBytes 16 sender ++ data)) = true) :
    Answers (exec (.icmpEcho t a v6 sender target data) s) fun s' => Out.eth a.mac 6 (leBytes 16 sender ++ data) ∈ s'.out := by
  obtain ⟨hserved, henabled⟩ := State.served_of_hears (State.macHears_of_receives hreceives)
  have hreceives' : (s.begin t).receives a = true := hreceives
  rw [exec_icmpEcho]
  refine answers_actIf (by simp [hmac]) (mem_out_of_ethSend ?_ hserved henabled hroom)
  rw [State.arrives, if_pos hreceives']
  exact if_pos hown

/-- A frame that is not received is counted. -/
theorem answers_echoUnheard {s : State} {t sender target : Nat} {a : Arrival} {v6 : Bool} {data : Bytes} (hmac : a.mac < 2)
    (hreceives : s.receives a = false) (hhears : s.macHears a.mac = true) :
    Answers (exec (.icmpEcho t a v6 sender target data) s) fun s' => s'.get 0x28000A = (s.get 0x28000A + 1) % 2 ^ 32 ∧ s'.net = s.net := by
  have hrun : ((s.begin t).arrives a fun s => s.echo a.mac v6 sender target data) = (s.begin t).bump 0x28000A := by
    have hreceives' : (s.begin t).receives a = false := hreceives
    rw [State.arrives, if_neg (by rw [hreceives']; decide)]
    exact if_pos hhears
  rw [exec_icmpEcho]
  refine answers_actIf (by simp [hmac]) ⟨?_, ?_⟩
  · rw [State.get_finish _ _ _ (by decide) (by decide), hrun, State.get_bump_32 _ (by decide +kernel)]
    rfl
  · rw [State.finish_net, hrun]
    rfl

end Sys2Proof.Machine
end

section
set_option Elab.async false
/-!
PROOFS. When a Sync leaves its MAC (R361, R363, R378), and the network clock as a whole (O48).
-/

namespace Sys2Proof.Machine

/-! ### The lines of the MACs (R361) -/

/-- One MAC's line is served up to the current instant. -/
def State.serveMac (s : State) (x : Tx) (mac : Nat) : Tx :=
  let m := nth x.macs mac {}
  if s.macHears mac then
    let fuel := 2 * (m.queues.foldl (fun a q => a + q.length) 0) + 2
    let r := MacTx.serve (s.macRate mac) (s.get (0x284004 + mac)) (10 * s.now) fuel m
    { x with macs := setNth x.macs mac r.1, wire := x.wire ++ r.2.map fun e => (mac, e.1, s.stampSync e.1 e.2) }
  else { x with macs := setNth x.macs mac { m with freeAt := max m.freeAt (10 * s.now) } }

theorem State.serveMacs_eq (s : State) : s.serveMacs = s.serveMac (s.serveMac s.tx 0) 1 := rfl

theorem State.serveMac_ne (s : State) (x : Tx) {m n : Nat} (h : n ≠ m) : nth (s.serveMac x m).macs n {} = nth x.macs n {} := by
  unfold State.serveMac
  dsimp only
  split
  · exact nth_setNth_ne _ h _ _
  · exact nth_setNth_ne _ h _ _

theorem State.serveMac_wire (s : State) (x : Tx) (m : Nat) : x.wire ⊆ (s.serveMac x m).wire := by
  unfold State.serveMac
  dsimp only
  split
  · exact List.subset_append_left _ _
  · exact List.Subset.refl _

theorem State.serveMac_length (s : State) (x : Tx) (m : Nat) : (s.serveMac x m).macs.length = x.macs.length := by
  unfold State.serveMac
  dsimp only
  split
  · exact List.length_set
  · exact List.length_set

/-- A MAC's line is free at an instant, and a frame is the first of its PTP queue. -/
def HeadsLine (x : Tx) (mac : Nat) (o : Out) (at_ : Nat) : Prop :=
  mac < x.macs.length ∧ (nth x.macs mac {}).freeAt = at_ ∧ ∃ rest, nth (nth x.macs mac {}).queues 0 [] = o :: rest

/-- The first frame of a free line leaves at once. -/
theorem MacTx.serve_head {rate slope until_ fuel : Nat} {m : MacTx} {o : Out} {rest : List Out} (hfree : m.freeAt ≤ until_)
    (hqueue : nth m.queues 0 [] = o :: rest) : (m.freeAt / 10, o) ∈ (MacTx.serve rate slope until_ (fuel + 1) m).2 := by
  rw [MacTx.serve, if_neg (by omega)]
  dsimp only
  rw [hqueue]
  exact List.mem_cons_self

theorem State.serveMac_heads {s : State} {x : Tx} {mac : Nat} {o : Out} (hears : s.macHears mac = true)
    (h : HeadsLine x mac o (10 * s.now)) : (mac, s.now, s.stampSync s.now o) ∈ (s.serveMac x mac).wire := by
  obtain ⟨_, hfree, rest, hqueue⟩ := h
  have hleaves := MacTx.serve_head (rate := s.macRate mac) (slope := s.get (0x284004 + mac))
    (fuel := 2 * ((nth x.macs mac {}).queues.foldl (fun a q => a + q.length) 0) + 1) hfree.le hqueue
  rw [hfree, Nat.mul_div_cancel_left _ (by decide)] at hleaves
  unfold State.serveMac
  dsimp only
  rw [if_pos hears]
  exact List.mem_append_right _ (List.mem_map.2 ⟨_, hleaves, rfl⟩)

theorem HeadsLine.serveMac_ne {s : State} {x : Tx} {m mac : Nat} {o : Out} {at_ : Nat} (h : HeadsLine x mac o at_) (hne : mac ≠ m) :
    HeadsLine (s.serveMac x m) mac o at_ := by
  obtain ⟨hlen, hfree, hqueue⟩ := h
  refine ⟨by rw [s.serveMac_length]; exact hlen, ?_, ?_⟩
  · rw [s.serveMac_ne x hne, hfree]
  · rw [s.serveMac_ne x hne]
    exact hqueue

theorem State.serveMacs_heads {s : State} {mac : Nat} {o : Out} (hmac : mac < 2) (hears : s.macHears mac = true)
    (h : HeadsLine s.tx mac o (10 * s.now)) : (mac, s.now, s.stampSync s.now o) ∈ s.serveMacs.wire := by
  rw [State.serveMacs_eq]
  have hcase : mac = 0 ∨ mac = 1 := by omega
  rcases hcase with rfl | rfl
  · exact s.serveMac_wire _ 1 (State.serveMac_heads hears h)
  · exact State.serveMac_heads hears (h.serveMac_ne (by decide))

/-- An empty line that is free by then is free at the current instant once it is served. -/
theorem State.serveMac_idle {s : State} {x : Tx} {mac : Nat} (hears : s.macHears mac = true) (hlen : mac < x.macs.length)
    (hqueues : (nth x.macs mac {}).queues = [[], [], []]) (hfree : (nth x.macs mac {}).freeAt ≤ 10 * s.now) :
    (nth (s.serveMac x mac).macs mac {}).queues = [[], [], []] ∧ (nth (s.serveMac x mac).macs mac {}).freeAt = 10 * s.now := by
  have hserve : ∀ rate slope, (MacTx.serve rate slope (10 * s.now) 2 (nth x.macs mac {})).1.queues = [[], [], []]
      ∧ (MacTx.serve rate slope (10 * s.now) 2 (nth x.macs mac {})).1.freeAt = 10 * s.now := fun rate slope => by
    rw [MacTx.serve, if_neg (by omega)]
    dsimp only
    rw [hqueues]
    exact ⟨rfl, rfl⟩
  unfold State.serveMac
  dsimp only
  rw [if_pos hears, nth_setNth_self hlen, hqueues]
  exact hserve _ _

theorem State.serveMacs_idle {s : State} {mac : Nat} (hmac : mac < 2) (hears : s.macHears mac = true) (hlen : mac < s.tx.macs.length)
    (hqueues : (nth s.tx.macs mac {}).queues = [[], [], []]) (hfree : (nth s.tx.macs mac {}).freeAt ≤ 10 * s.now) :
    (nth s.serveMacs.macs mac {}).queues = [[], [], []] ∧ (nth s.serveMacs.macs mac {}).freeAt = 10 * s.now := by
  rw [State.serveMacs_eq]
  have hcase : mac = 0 ∨ mac = 1 := by omega
  rcases hcase with rfl | rfl
  · rw [s.serveMac_ne _ (by decide)]
    exact State.serveMac_idle hears hlen hqueues hfree
  · refine State.serveMac_idle hears (by rw [s.serveMac_length]; exact hlen) ?_ ?_
    · rw [s.serveMac_ne _ (by decide), hqueues]
    · rw [s.serveMac_ne _ (by decide)]
      exact hfree

/-! ### Frames join their queues (R361) -/

/-- A Sync that joins the empty queue of a free line is the first there. -/
theorem State.queueFrame_sync {s : State} {x : Tx} {mac : Nat} {data : Bytes} {at_ : Nat} (hlen : mac < x.macs.length)
    (hqueues : (nth x.macs mac {}).queues = [[], [], []]) (hfree : (nth x.macs mac {}).freeAt = at_) :
    HeadsLine (s.queueFrame x (.eth mac 0 data)) mac (.eth mac 0 data) at_ := by
  have hqueue : s.queueFrame x (.eth mac 0 data)
      = { x with macs := setNth x.macs mac { nth x.macs mac {} with queues := [[.eth mac 0 data], [], []] } } := by
    simp only [State.queueFrame, txClass, State.txMac, hqueues]
    rfl
  rw [hqueue]
  refine ⟨by rw [setNth, List.length_set]; exact hlen, ?_, ?_⟩
  · rw [nth_setNth_self hlen]
    exact hfree
  · rw [nth_setNth_self hlen]
    exact ⟨[], rfl⟩

/-- What joins later leaves the first frame where it is. -/
theorem HeadsLine.queueFrame {s : State} {x : Tx} {mac : Nat} {o : Out} {at_ : Nat} (h : HeadsLine x mac o at_) (p : Out) :
    HeadsLine (s.queueFrame x p) mac o at_ := by
  obtain ⟨hlen, hfree, rest, hqueue⟩ := h
  unfold State.queueFrame
  split
  · exact ⟨hlen, hfree, rest, hqueue⟩
  · next c _ =>
    dsimp only
    split
    · refine ⟨by rw [setNth, List.length_set]; exact hlen, ?_⟩
      dsimp only
      by_cases hm : mac = s.txMac p
      · subst hm
        rw [nth_setNth_self hlen]
        refine ⟨hfree, ?_⟩
        dsimp only
        by_cases hc : 0 = c
        · subst hc
          have hpos : 0 < (nth x.macs (s.txMac p) {}).queues.length := by
            rw [Nat.pos_iff_ne_zero]
            intro h0
            rw [List.length_eq_zero_iff.1 h0] at hqueue
            cases hqueue
          rw [nth_setNth_self hpos, hqueue]
          exact ⟨rest ++ [p], rfl⟩
        · rw [nth_setNth_ne _ hc]
          exact ⟨rest, hqueue⟩
      · rw [nth_setNth_ne _ hm]
        exact ⟨hfree, rest, hqueue⟩
    · exact ⟨hlen, hfree, rest, hqueue⟩

theorem HeadsLine.foldl {s : State} {mac : Nat} {o : Out} {at_ : Nat} (l : List Out) {x : Tx} (h : HeadsLine x mac o at_) :
    HeadsLine (l.foldl s.queueFrame x) mac o at_ := by
  induction l generalizing x with
  | nil => exact h
  | cons p l ih => exact ih (h.queueFrame p)

/-! ### Telling the events adds to what leaves -/

theorem OutGrows.evtPin (s : State) (n : Nat) : OutGrows s (s.evtPin n) := by
  unfold State.evtPin
  split
  · exact List.prefix_rfl
  · exact OutGrows.send s _

theorem OutGrows.eventIf (s : State) (b : Bool) (n : Nat) : OutGrows s (s.eventIf b n) := by
  unfold State.eventIf
  split
  · exact OutGrows.event _ _
  · exact List.prefix_rfl

theorem OutGrows.tell (s : State) : OutGrows s s.tell := by
  have hnote : OutGrows s s.note := .of_out (State.out_note s)
  unfold State.tell
  refine List.IsPrefix.trans ?_ ((OutGrows.evtPin _ 0).trans (OutGrows.evtPin _ 1))
  split
  · exact hnote
  · refine List.IsPrefix.trans ?_ (OutGrows.of_out (State.out_latchReady _ _))
    exact List.IsPrefix.trans hnote ((OutGrows.eventIf _ _ _).trans (OutGrows.eventIf _ _ _))

/-! ### A Sync that is due (R363, R378) -/

theorem State.stampSync_now {s : State} {mac : Nat} {head : Bytes} : s.stampSync s.now (.eth mac 0 (head ++ leBytes 8 s.ptp))
    = .eth mac 0 (head ++ leBytes 8 s.ptp) := by
  have hlen : (head ++ leBytes 8 s.ptp).length - 8 = head.length := by rw [List.length_append, length_leBytes]; omega
  have hptp : s.ptpAt s.now = s.ptp := rfl
  rw [State.stampSync, hlen, List.take_left, hptp]

/-- The frame of a Sync. -/
def State.syncFrame (s : State) (mac : Nat) : Out := .eth mac 0 (s.ptpHead true ++ leBytes 2 s.net.syncSeq ++ leBytes 8 s.ptp)

/-- A Sync has left. -/
def State.syncSent (s : State) (mac : Nat) : State :=
  { s.send (s.syncFrame mac) with net := { s.net with
      syncSeq := (s.net.syncSeq + 1) % 65536, syncSent := setNth s.net.syncSent mac (some s.now) } }

theorem State.sendSync_due {s : State} {mac : Nat} (hst : s.get 0x281005 = 4) (hon : s.ptpPort mac = true) (hdue : s.syncDue mac = true)
    (hroom : s.txRoom (s.syncFrame mac) = true) : s.sendSync mac = s.syncSent mac := by
  obtain ⟨hserved, henabled⟩ := State.served_of_ptpPort hon
  rw [State.sendSync, if_neg (by rw [hst, hon, hdue]; decide), State.ethSend_of_room hserved henabled hroom]
  rfl

theorem State.transmit_tx (s : State) :
    s.transmit.tx = State.serveMacs { s with tx := s.out.foldl (State.queueFrame s) s.tx } := rfl

/-- A frame that heads a free line after a command leaves with it. -/
theorem State.transmit_heads {s : State} {mac : Nat} {o : Out} (hmac : mac < 2) (hears : s.macHears mac = true)
    (h : HeadsLine (s.out.foldl s.queueFrame s.tx) mac o (10 * s.now)) : (mac, s.now, s.stampSync s.now o) ∈ s.transmit.tx.wire := by
  rw [State.transmit_tx]
  exact State.serveMacs_heads (s := { s with tx := s.out.foldl s.queueFrame s.tx }) hmac hears h

/-- A MAC that runs when a command acts runs when its events are told. -/
theorem State.tell_macHears {s : State} {mac : Nat} (hmac : mac < 2) : s.tell.macHears mac = s.macHears mac := by
  have henable : s.tell.get (0x280001 + mac) = s.get (0x280001 + mac) := s.get_tell (by omega) (by omega)
  rw [State.macHears, State.macHears, State.macUp, State.macUp, State.macRate, State.macRate, henable, s.get_tell (by decide) (by decide)]
  rw [State.served, State.served, State.tell_power]

/-- The whole command, with the frame in its line. -/
theorem syncSent_wire {s : State} {t mac : Nat} (hmac : mac < 2) (hears : s.macHears mac = true) (hlen : mac < s.tx.macs.length)
    (hqueues : (nth s.tx.macs mac {}).queues = [[], [], []]) (hfree : (nth s.tx.macs mac {}).freeAt ≤ 10 * max s.now t) :
    (mac, max s.now t, (s.begin t).syncFrame mac) ∈ (s.finish t fun u => u.syncSent mac).tx.wire := by
  obtain ⟨hqueues', hfree'⟩ := State.serveMacs_idle (s := { s with now := max s.now t, tx := { s.tx with wire := [] } }) hmac hears hlen hqueues hfree
  have hlen' : mac < (s.begin t).tx.macs.length := by
    show mac < (State.serveMacs { s with now := max s.now t, tx := { s.tx with wire := [] } }).macs.length
    rw [State.serveMacs_eq, State.serveMac_length, State.serveMac_length]
    exact hlen
  have hfinish : (s.finish t fun u => u.syncSent mac).tx = ((s.begin t).syncSent mac).tell.transmit.tx := rfl
  obtain ⟨more, hout⟩ := OutGrows.tell ((s.begin t).syncSent mac)
  have hout' : ((s.begin t).syncSent mac).tell.out = (s.begin t).syncFrame mac :: more := hout.symm
  have hears' : ((s.begin t).syncSent mac).tell.macHears mac = true := (State.tell_macHears hmac).trans hears
  have hnow : ((s.begin t).syncSent mac).tell.now = max s.now t := State.tell_now _
  have hstamp : ((s.begin t).syncSent mac).tell.stampSync (max s.now t) ((s.begin t).syncFrame mac) = (s.begin t).syncFrame mac := by
    have hptp : ((s.begin t).syncSent mac).tell.ptp = (s.begin t).ptp := State.ptp_congr (State.tell_clock _) (State.tell_now _)
    rw [← hnow, State.syncFrame, ← hptp]
    exact State.stampSync_now
  have hleaves := State.transmit_heads hmac hears' (o := (s.begin t).syncFrame mac) (by
    rw [hout', hnow, List.foldl_cons, State.tell_tx]
    exact (State.queueFrame_sync hlen' hqueues' hfree').foldl more)
  rw [hfinish]
  rwa [hnow, hstamp] at hleaves

/-- As grandmaster a Sync that is due leaves; on a free line at once. -/
theorem answers_syncSend {s : State} {t mac : Nat} {o : Out} (hmac : mac < 2) (hst : s.get 0x281005 = 4) (hon : s.ptpPort mac = true)
    (ho : o = Out.eth mac 0 (s.ptpHead true ++ leBytes 2 s.net.syncSeq ++ leBytes 8 (s.begin t).ptp)) (hdue : (s.begin t).syncDue mac = true)
    (hroom : (s.begin t).txRoom o = true) : Answers (exec (.syncSend t mac) s) fun s' =>
      o ∈ s'.out ∧ s'.net.syncSeq = (s.net.syncSeq + 1) % 65536
        ∧ (s.macHears mac = true → mac < s.tx.macs.length → (nth s.tx.macs mac {}).queues = [[], [], []] →
            (nth s.tx.macs mac {}).freeAt ≤ 10 * max s.now t → (mac, max s.now t, o) ∈ s'.tx.wire) := by
  subst ho
  have hrun : (s.begin t).sendSync mac = (s.begin t).syncSent mac := State.sendSync_due (s := s.begin t) hst hon hdue hroom
  have hfinish : (s.finish t fun u => u.sendSync mac) = s.finish t fun u => u.syncSent mac := State.finish_congr hrun
  rw [exec_syncSend]
  refine answers_actIf (by simp [hmac]) ?_
  rw [hfinish]
  refine ⟨State.mem_finish_out (List.mem_append_right _ (List.mem_singleton_self _)), ?_, fun hears hlen hqueues hfree => ?_⟩
  · rw [State.finish_net]
    rfl
  · exact syncSent_wire hmac hears hlen hqueues hfree

/-- Settles O48: each message of the network has its effect. -/
theorem theNetworkClockIsKept : Obligations.TheNetworkClockIsKept := by
  intro s t mac hmac
  refine ⟨fun rate hrate hserved hold => answers_macLinkChange hmac hrate hserved hold, ?_,
    fun hon => answers_announceTimeout hmac hon, ?_, fun hst hon => ⟨?_, ?_⟩, ?_, ?_, ?_⟩
  · rintro p a rfl htakes hlen hid
    exact answers_announceReceive hmac htakes hlen hid
  · rintro p master rfl htakes hst hport hoff
    exact ⟨fun hfar => answers_syncFar hmac htakes hst hport hoff hfar,
      fun hnear hgood => answers_syncNear hmac htakes hst hport hoff hnear hgood⟩
  · exact fun o ho hdue hroom => answers_syncSend hmac hst hon ho hdue hroom
  · exact fun c hown hroom => answers_announceSend hmac hst hon hown hroom
  · rintro p requester delay rfl
    exact ⟨fun htakes hmode hroom => answers_delayAsked hmac htakes hmode hroom,
      fun htakes hlen hdelay => answers_delayAnswered hmac htakes hlen hdelay,
      fun hon hmode hroom => answers_delayDue hmac hon hmode hroom⟩
  · rintro a v6 sender senderMac target o rfl hreceives hown ho hroom
    exact answers_neighbour hmac hreceives hown ho hroom
  · rintro a v6 sender target data rfl hown
    exact ⟨fun hreceives hroom => answers_echo hmac hown hreceives hroom, fun hreceives hhears => answers_echoUnheard hmac hreceives hhears⟩

end Sys2Proof.Machine
end

section
set_option Elab.async false
/-!
PROOFS. Disparity and motion searches (R229 to R232, R235, R237, R239; O39).
-/

namespace Sys2Proof.Machine

/-! ### Stereo pairs (R231, R237) -/

theorem State.stereo_setStereo {s : State} {k : Nat} (h : k < s.media.pairs.length) (c : StereoPair) : (s.setStereo k c).stereo k = c :=
  nth_setNth_self h c {}

theorem State.stereo_congr {s u : State} (h : u.media.pairs = s.media.pairs) (k : Nat) : u.stereo k = s.stereo k := by
  rw [State.stereo, State.stereo, h]

theorem immediate_pairEnable : ∀ k < 4, immediate (pairK k 1) = true ∧ widthOf (pairK k 1) = 8 := by decide +kernel

theorem State.effect_pairEnable (s : State) {k : Nat} (hk : k < 4) (v : Nat) (x : Given) : s.effect (pairK k 1) v x = s.enablePair k v := by
  have hi : pairK k 1 / 256 = 0x3810 + k := by unfold pairK keyOf; omega
  have hs : pairK k 1 % 256 = 1 := by unfold pairK keyOf; omega
  have ht : pairK k 1 % 65536 ≠ 1 := by unfold pairK keyOf; omega
  unfold State.effect
  dsimp only
  rw [hi, hs, if_neg (by omega), if_pos (by omega), Nat.add_sub_cancel_left]

theorem State.encoderObjects_media (s : State) : s.encoderObjects.media = s.media := by
  rw [State.encoderObjects, State.put_media, State.put_media]

theorem State.get_setStereo (s : State) (k : Nat) (c : StereoPair) (j : Nat) : (s.setStereo k c).get j = s.get j := State.get_congr rfl j

theorem State.get_encoderObjects_pair (s : State) {k : Nat} (hk : k < 4) : s.encoderObjects.get (pairK k 1) = s.get (pairK k 1) := by
  have h1 : pairK k 1 ≠ 0x390001 := by unfold pairK keyOf; omega
  have h3 : pairK k 1 ≠ 0x390003 := by unfold pairK keyOf; omega
  rw [State.encoderObjects, State.get_put_ne _ h3, State.get_put_ne _ h1]

theorem State.enablePair_on {s : State} {k : Nat} (hoff : s.pairOn k = false) :
    s.enablePair k 1 = ((s.put (pairK k 1) 1).setStereo k {}).encoderObjects := by
  rw [State.enablePair, if_pos ⟨rfl, by rw [hoff]; rfl⟩]

theorem State.enablePair_off (s : State) (k : Nat) :
    s.enablePair k 0 = (((s.put (pairK k 1) 0).setStereo k {}).settle 5 2 k).encoderObjects := by
  rw [State.enablePair, if_neg (by simp), if_pos rfl]

/-- A pair that is enabled or disabled is as new, and its object holds its value. -/
theorem State.enablePair_new {s : State} {k v : Nat} (hk : k < 4) (hlen : k < s.media.pairs.length)
    (hv : v = 1 ∧ s.pairOn k = false ∨ v = 0) : (s.enablePair k v).get (pairK k 1) = v ∧ (s.enablePair k v).stereo k = {} := by
  have hput : ∀ v < 2, (s.put (pairK k 1) v).get (pairK k 1) = v := fun v hv => by
    rw [State.get_put_self]
    exact Nat.mod_eq_of_lt (by rw [(immediate_pairEnable k hk).2]; omega)
  rcases hv with ⟨rfl, hoff⟩ | rfl
  · rw [State.enablePair_on hoff, State.get_encoderObjects_pair _ hk]
    rw [State.get_setStereo, State.stereo_congr (s := (s.put (pairK k 1) 1).setStereo k {}) (by rw [State.encoderObjects_media])]
    exact ⟨hput 1 (by decide), State.stereo_setStereo (s := s.put (pairK k 1) 1) hlen {}⟩
  · have hkey : pairK k 1 ∉ reportKeys := by
      have hall : ∀ k < 4, pairK k 1 ∉ reportKeys := by decide +kernel
      exact hall k hk
    rw [State.enablePair_off, State.get_encoderObjects_pair _ hk, State.get_settle _ _ _ _ hkey, State.get_setStereo]
    refine ⟨hput 0 (by decide), ?_⟩
    rw [State.stereo_congr (s := (s.put (pairK k 1) 0).setStereo k {}) (by rw [State.encoderObjects_media, State.settle_media])]
    exact State.stereo_setStereo (s := s.put (pairK k 1) 0) hlen {}

/-- A pair is enabled or disabled by the host. -/
theorem answers_pairEnable {s : State} {t k v : Nat} {q : Path} (hk : k < 4) (hlen : k < s.media.pairs.length)
    (hhears : (s.begin t).hears q = true) (htakes : ((s.begin t).heard q).takesValue (pairK k 1) (leBytes 1 v) = true)
    (hv : v = 1 ∧ s.pairOn k = false ∨ v = 0) :
    Answers (exec (.pairEnable t q k v) s) fun s' => s'.answered q 0 [] ∧ s'.get (pairK k 1) = v ∧ s'.stereo k = {} := by
  obtain ⟨hrun, hanswered⟩ := finish_effect (immediate_pairEnable k hk).1 hhears htakes (State.effect_pairEnable _ hk _ _)
  have hvalue : leNat (leBytes 1 v) = v := by rw [leNat_leBytes, Nat.mod_eq_of_lt (by omega)]
  have hpair : ((s.begin t).heard q).pairOn k = s.pairOn k := by
    rw [State.pairOn, State.get_heard]
    rfl
  rw [hvalue] at hrun
  obtain ⟨hget, hnew⟩ := State.enablePair_new (s := (s.begin t).heard q) hk (by rw [State.heard_media]; exact hlen) (by rw [hpair]; exact hv)
  have hkey : pairK k 1 ≠ 0x204005 ∧ pairK k 1 ≠ 0x201005 := by
    unfold pairK keyOf
    omega
  rw [exec_pairEnable]
  refine answers_actIf (decide_eq_true hk) ⟨hanswered, ?_, ?_⟩
  · rw [State.finish_taken_get (f := fun s => s.access q (pairK k 1) (leBytes 1 v)) hrun hkey]
    exact hget
  · rw [← hnew]
    refine State.stereo_congr ?_ k
    rw [State.finish_media, hrun, State.reply_media]

/-! ### Block rows (R232, R235) -/

/-- A block row that is not the last leaves the search under way, one row further. -/
theorem State.searchRowOf_row {s : State} {k : Nat} (hlen : k < s.media.pairs.length) {ref partner : Picture}
    (hmore : (s.stereo k).rowsDone + 1 ≠ blocksY ref) : ((s.searchRowOf k ref partner).stereo k).rowsDone = (s.stereo k).rowsDone + 1
      ∧ ((s.searchRowOf k ref partner).stereo k).ref = (s.stereo k).ref := by
  have hrun : s.searchRowOf k ref partner = s.draw.1.setStereo k { s.stereo k with
      blocks := searchRow (s.draw.1.searchSet k ref partner) s.draw.2 (s.stereo k).rowsDone (blocksX ref) 0 (s.stereo k).blocks
      rowsDone := (s.stereo k).rowsDone + 1 } := if_neg hmore
  rw [hrun, State.stereo_setStereo (s := s.draw.1) hlen]
  exact ⟨rfl, rfl⟩

theorem State.searches_of {s : State} {k : Nat} (husable : s.usable 5 = true) (hon : s.pairOn k = true) (hup : 0 < s.enginesUp) :
    (!s.usable 5 || !s.pairOn k || s.enginesUp == 0) = false := by
  rw [husable, hon, beq_eq_false_iff_ne.2 (by omega)]
  rfl

theorem State.searchStereoRow_next {s : State} {k row : Nat} {ref partner : Picture} (hguard : (!s.usable 5 || !s.pairOn k || s.enginesUp == 0) = false)
    (href : (s.stereo k).ref = some ref) (hpartner : (s.stereo k).partner = some partner) (hrow : row = (s.stereo k).rowsDone)
    (hmore : row < blocksY ref) (hnext : (s.stereo k).next = none) (hfirst : s.stereoFirst k = true) :
    s.searchStereoRow k row (s.stereo k).placement = s.searchRowOf k ref partner := by
  rw [State.searchStereoRow, if_neg (by rw [hguard]; decide), href, hpartner]
  dsimp only
  rw [if_neg (by simp [hrow]), if_pos (by rw [decide_eq_true hmore, hnext, hfirst]; rfl)]

theorem State.searchStereoRow_stale {s : State} {k row epoch : Nat} {ref partner : Picture}
    (hguard : (!s.usable 5 || !s.pairOn k || s.enginesUp == 0) = false)
    (href : (s.stereo k).ref = some ref) (hpartner : (s.stereo k).partner = some partner) (hepoch : epoch ≠ (s.stereo k).placement) :
    s.searchStereoRow k row epoch = s.staleResult := by
  rw [State.searchStereoRow, if_neg (by rw [hguard]; decide), href, hpartner]
  exact if_pos (Or.inl hepoch)

/-! ### Searches given up (R232, R238) -/

/-- The newer paired frame is searched in the place of the one that is given up. -/
theorem answers_stereoAbandon {s : State} {t k : Nat} (hk : k < 4) (hlen : k < s.media.pairs.length) {r q : Picture} {use : Bool}
    (hnext : (s.stereo k).next = some (r, q, use)) : Answers (exec (.stereoFrameAbandon t k) s) fun s' =>
      (s'.stereo k).ref.map (·.seq) = some r.seq ∧ (s'.stereo k).partner = some q ∧ (s'.stereo k).rowsDone = 0
        ∧ (s'.stereo k).next = none ∧ (s'.stereo k).usePrevious = false ∧ s'.get 0x380006 = (s.get 0x380006 + 1) % 2 ^ 32 := by
  have hnext' : ((s.begin t).stereo k).next = some (r, q, use) := hnext
  have hrun : (s.begin t).abandonSearch k = ((s.begin t).countAbandoned k).beginSearch k r q false := by
    rw [State.abandonSearch, hnext']
  have hlen' : k < ((s.begin t).countAbandoned k).media.pairs.length := by
    rw [State.countAbandoned, State.raise_media]
    show k < (setNth s.media.pairs k _).length
    rw [setNth, List.length_set]
    exact hlen
  have hstereo : (s.finish t fun u => u.abandonSearch k).stereo k = (((s.begin t).countAbandoned k).beginSearch k r q false).stereo k :=
    State.stereo_congr (by rw [State.finish_media, hrun]) k
  rw [exec_stereoFrameAbandon]
  refine answers_actIf (decide_eq_true hk) ?_
  rw [hstereo, State.beginSearch, State.stereo_setStereo hlen']
  refine ⟨rfl, rfl, rfl, rfl, rfl, ?_⟩
  rw [State.get_finish _ _ _ (by decide) (by decide), hrun]
  have hregs : (((s.begin t).countAbandoned k).beginSearch k r q false).get 0x380006 = ((s.begin t).countAbandoned k).get 0x380006 := rfl
  rw [hregs, State.countAbandoned, State.get_raise _ _ _ _ (by decide)]
  exact (State.get_bump_32 (s.begin t) (by decide +kernel))

/-! ### Motion search (R229, R239) -/

theorem State.stream_setStream {s : State} {n : Nat} (h : n < s.media.codec.streams.length) (c : Stream) : (s.setStream n c).stream n = c :=
  nth_setNth_self h c {}

theorem State.stream_congr {s u : State} (h : u.media.codec.streams = s.media.codec.streams) (n : Nat) : u.stream n = s.stream n := by
  rw [State.stream, State.stream, h]

theorem State.stream_leaves {s : State} {n : Nat} (h : n < s.media.codec.streams.length) (c : Stream) (q : List Nat) :
    ({ s.setStream n c with media := { (s.setStream n c).media with motionQueue := q } } : State).stream n = c :=
  State.stream_setStream h c

/-- The next block of a stream's search has its result. -/
theorem State.searchMotion_block {s : State} {n bx by_ : Nat} {cur ref : Picture} {again : Bool} (hlen : n < s.media.codec.streams.length)
    (hcur : s.nextSource n = some (cur, again)) (href : (s.stream n).reference = some ref)
    (hfor : (s.stream n).motionFor = some (cur.seq, ref.seq)) (husable : s.usable 5 = true) (hup : 0 < s.enginesUp)
    (hblock : (motionBlocks cur)[(s.stream n).motion.length]? = some (bx, by_)) (hfirst : s.motionFirst n = true) :
    ((s.searchMotion n bx by_ (s.stream n).motionPlacement).stream n).motion
      = (s.stream n).motion ++ [motionBlock cur ref (s.get 0x380009) (s.stream n).motion (s.stream n).motionPrev true bx by_] := by
  have hguard : (!s.usable 5 || s.enginesUp == 0) = false := by
    rw [husable, beq_eq_false_iff_ne.2 (by omega)]
    rfl
  rw [State.searchMotion, hcur, href]
  dsimp only
  rw [if_neg (by rw [hguard]; decide), if_neg (by simp [hfor, hblock]), if_pos hfirst]
  split
  · exact congrArg Stream.motion (State.stream_leaves hlen _ _)
  · exact congrArg Stream.motion (State.stream_setStream hlen _)

/-! ### Engines (R230, R347) -/

/-- The placement epoch, and the engines in service, stay as they were. -/
abbrev EnginesKept (s u : State) : Prop :=
  Keeps (fun s => { State.reset with media := { engines := s.media.engines }, stages := s.stages }) (fun k => k == 0x250007) s u

section Engines

variable (s : State)

theorem EnginesKept.setStereo (k : Nat) (c : StereoPair) : EnginesKept s (s.setStereo k c) := .of_regs rfl rfl

theorem EnginesKept.setStream (n : Nat) (c : Stream) : EnginesKept s (s.setStream n c) := .of_regs rfl rfl

theorem EnginesKept.reissued : EnginesKept s (s.bump 0x250009) := Keeps.bump rfl s 1 fun _ _ => rfl

theorem EnginesKept.stereoAgain (k e : Nat) : EnginesKept s (s.stereoAgain k e) := .trans (EnginesKept.setStereo s _ _) (EnginesKept.reissued _)

theorem EnginesKept.motionAgain (n e : Nat) : EnginesKept s (s.motionAgain n e) := .trans (EnginesKept.setStream s _ _) (EnginesKept.reissued _)

/-- A pair's search goes to the other engine. -/
def State.pairMoves (s : State) (e up k : Nat) : State :=
  let st := s.stereo k
  if st.ref.isSome && st.engine == e && decide (0 < up) then s.stereoAgain k (1 - e)
  else match st.early with
    | some x =>
      if x.engine = e ∧ 0 < up then
        (s.setStereo k { st with early := some { x with rows := 0, engine := 1 - e, placement := s.placement } }).bump 0x250009
      else s
    | none => s

/-- A stream's motion search goes to the other engine. -/
def State.motionMoves (s : State) (e up n : Nat) : State :=
  let st := s.stream n
  if st.motionFor.isSome && st.motionEngine == e && decide (0 < up) then s.motionAgain n (1 - e) else s

theorem EnginesKept.pairMoves (e up k : Nat) : EnginesKept s (s.pairMoves e up k) := by
  unfold State.pairMoves
  refine .ite (EnginesKept.stereoAgain s _ _) ?_
  split
  · exact .ite (.trans (EnginesKept.setStereo s _ _) (EnginesKept.reissued _)) (.refl s)
  · exact .refl s

theorem EnginesKept.motionMoves (e up n : Nat) : EnginesKept s (s.motionMoves e up n) := .ite (EnginesKept.motionAgain s _ _) (.refl s)

/-- An engine leaves service. -/
def State.engineLost (s : State) (e : Nat) : State := { s with media := { s.media with engines := setNth s.media.engines e false } }

/-- An engine has left service, and its jobs are still to move. -/
def State.engineOut (s : State) (e : Nat) : State :=
  (((s.engineLost e).put 0x380001 (bitmapOf id (s.engineLost e).media.engines)).put 0x380004 (12800 * (s.engineLost e).enginesUp)).nextPlacement

/-- The jobs of an engine that is out of service go to the other. -/
def State.jobsMoved (s : State) (e up : Nat) : State :=
  s.media.motionQueue.foldl (fun s n => s.motionMoves e up n) ([0, 1, 2, 3].foldl (fun s k => s.pairMoves e up k) s)

theorem EnginesKept.jobsMoved (e up : Nat) : EnginesKept s (s.jobsMoved e up) :=
  .trans (Keeps.foldl (fun s k => EnginesKept.pairMoves s e up k) _ s) (Keeps.foldl (fun s n => EnginesKept.motionMoves s e up n) _ _)

theorem State.failEngine_eq (e : Nat) : s.failEngine e = if !nth s.media.engines e false then s
    else ((s.engineOut e).jobsMoved e (s.engineLost e).enginesUp).raiseCore 5 1 e
      (if (s.engineLost e).enginesUp = 0 then .failed else .degraded) := rfl

theorem EnginesKept.engines {s u : State} (h : EnginesKept s u) : u.media.engines = s.media.engines :=
  h.field_of (field := fun s => s.media.engines) fun _ => rfl

theorem EnginesKept.stages {s u : State} (h : EnginesKept s u) : u.stages = s.stages := h.field_of (field := State.stages) fun _ => rfl

theorem State.engineOut_engines (e : Nat) : (s.engineOut e).media.engines = setNth s.media.engines e false := by
  rw [State.engineOut, State.nextPlacement, State.put_media, State.put_media, State.put_media, State.engineLost]

theorem State.engineOut_stages (e : Nat) : (s.engineOut e).stages = s.stages := by
  rw [State.engineOut, State.nextPlacement, State.put_stages, State.put_stages, State.put_stages, State.engineLost]

/-- The placement epoch advances and skips zero. -/
theorem State.nextPlacement_placement {s : State} (h : s.get 0x250007 < 2 ^ 32) :
    s.nextPlacement.get 0x250007 = if s.get 0x250007 = 0xFFFFFFFF then 1 else s.get 0x250007 + 1 := by
  rw [State.nextPlacement, State.get_put_self, show widthOf 0x250007 = 32 from by decide +kernel, State.placement]
  refine Nat.mod_eq_of_lt ?_
  split <;> omega

theorem State.engineOut_placement {e : Nat} (h : s.get 0x250007 < 2 ^ 32) :
    (s.engineOut e).get 0x250007 = if s.get 0x250007 = 0xFFFFFFFF then 1 else s.get 0x250007 + 1 := by
  have hsame : (((s.engineLost e).put 0x380001 (bitmapOf id (s.engineLost e).media.engines)).put 0x380004
      (12800 * (s.engineLost e).enginesUp)).get 0x250007 = s.get 0x250007 := by
    rw [State.get_put_ne _ (by decide), State.get_put_ne _ (by decide)]
    exact State.get_congr rfl _
  rw [State.engineOut, State.nextPlacement_placement (by rw [hsame]; exact h), hsame]

end Engines

/-- An engine that fails stays out, and the placement epoch advances; with neither left the function has failed. -/
theorem State.failEngine_out {s : State} {e : Nat} (hup : nth s.media.engines e false = true) (hstages : s.stages.length = 16) :
    nth (s.failEngine e).media.engines e false = false
      ∧ (s.get 0x250007 < 2 ^ 32 → (s.failEngine e).get 0x250007 = if s.get 0x250007 = 0xFFFFFFFF then 1 else s.get 0x250007 + 1)
      ∧ ((s.failEngine e).enginesUp = 0 → nth (s.failEngine e).stages 5 .off = .failed) := by
  have hrun := s.failEngine_eq e
  rw [if_neg (by rw [hup]; decide)] at hrun
  have hkept := EnginesKept.jobsMoved (s.engineOut e) e (s.engineLost e).enginesUp
  have hengines : (s.failEngine e).media.engines = setNth s.media.engines e false := by
    rw [hrun, State.raiseCore_media, hkept.engines, State.engineOut_engines]
  have hlen : e < s.media.engines.length := by
    by_contra h
    simp [nth, List.getElem?_eq_none (Nat.le_of_not_lt h)] at hup
  refine ⟨?_, fun hplace => ?_, fun hnone => ?_⟩
  · rw [hengines]
    exact nth_setNth_self hlen _ _
  · rw [hrun, State.get_raiseCore _ _ _ _ _ (by decide), hkept.2 _ rfl, State.engineOut_placement _ hplace]
  · have hzero : (s.engineLost e).enginesUp = 0 := by
      rw [← hnone, State.enginesUp, State.enginesUp, hengines, State.engineLost]
    rw [hrun, if_pos hzero, State.raiseCore_stages]
    refine State.nth_stage_self ?_ .failed
    rw [hkept.stages, State.engineOut_stages, hstages]
    decide

/-! ### The searches as a whole -/

/-- Settles O39: each command of Slalom does what it says. -/
theorem slalomSearches : Obligations.SlalomSearches := by
  intro s t k hk hlen
  refine ⟨fun q hhears => ⟨fun htakes hoff => ?_, fun htakes => ?_⟩, fun ref partner href hpartner husable hon hup =>
    ⟨fun row hrow hmore hnext hfirst => ?_, fun row epoch hepoch => ?_⟩, fun r q use hnext => answers_stereoAbandon hk hlen hnext,
    fun n bx by_ cur again ref hn hnlen hcur href hfor husable hup hblock hfirst => ?_, fun e he hup hstages => ?_⟩
  · refine Answers.imp (answers_pairEnable (v := 1) hk hlen hhears htakes (Or.inl ⟨rfl, hoff⟩)) fun s' ⟨hanswered, hget, hnew⟩ => ⟨hanswered, ?_, hnew⟩
    rw [State.pairOn, hget]
    rfl
  · refine Answers.imp (answers_pairEnable (v := 0) hk hlen hhears htakes (Or.inr rfl)) fun s' ⟨hanswered, hget, hnew⟩ => ⟨hanswered, ?_, hnew⟩
    rw [State.pairOn, hget]
    rfl
  · have hguard : (!(s.begin t).usable 5 || !(s.begin t).pairOn k || (s.begin t).enginesUp == 0) = false := State.searches_of husable hon hup
    have hrun : (s.begin t).searchStereoRow k row (s.stereo k).placement = (s.begin t).searchRowOf k ref partner :=
      State.searchStereoRow_next hguard href hpartner hrow (by omega) hnext hfirst
    obtain ⟨hrows, hsame⟩ := State.searchRowOf_row (s := s.begin t) (partner := partner) hlen (ref := ref)
      (show ((s.begin t).stereo k).rowsDone + 1 ≠ blocksY ref from hrow ▸ Nat.ne_of_lt hmore)
    have hstereo : (s.finish t fun u => u.searchStereoRow k row (s.stereo k).placement).stereo k = ((s.begin t).searchRowOf k ref partner).stereo k :=
      State.stereo_congr (by rw [State.finish_media, hrun]) k
    rw [exec_stereoRowSearch]
    refine answers_actIf (decide_eq_true hk) ?_
    rw [hstereo, hrows, hsame]
    exact ⟨by rw [hrow]; rfl, href⟩
  · have hguard : (!(s.begin t).usable 5 || !(s.begin t).pairOn k || (s.begin t).enginesUp == 0) = false := State.searches_of husable hon hup
    have hrun : (s.begin t).searchStereoRow k row epoch = (s.begin t).staleResult := State.searchStereoRow_stale hguard href hpartner hepoch
    rw [exec_stereoRowSearch]
    refine answers_actIf (decide_eq_true hk) ⟨?_, ?_⟩
    · rw [State.get_finish _ _ _ (by decide) (by decide), hrun, State.staleResult, State.get_bump_32 _ (by decide +kernel)]
      rfl
    · rw [State.finish_media, hrun]
      rfl
  · have hrun := State.searchMotion_block (s := s.begin t) (bx := bx) (by_ := by_) hnlen hcur href hfor husable hup hblock hfirst
    have hstream : (s.finish t fun u => u.searchMotion n bx by_ (s.stream n).motionPlacement).stream n
        = ((s.begin t).searchMotion n bx by_ ((s.begin t).stream n).motionPlacement).stream n := State.stream_congr (by rw [State.finish_media]; rfl) n
    rw [exec_motionSearch]
    refine answers_actIf (decide_eq_true hn) ?_
    rw [hstream, hrun]
    exact List.mem_append_right _ (List.mem_singleton_self _)
  · obtain ⟨hout, hplace, hfailed⟩ := State.failEngine_out (s := s.begin t) hup hstages
    rw [exec_slalomEngineFail]
    refine answers_actIf (decide_eq_true he) ⟨?_, fun h => ?_, fun h => ?_⟩
    · rw [State.finish_media]
      exact hout
    · rw [State.get_finish _ _ _ (by decide) (by decide)]
      exact hplace h
    · rw [State.finish_stages]
      refine hfailed ?_
      rw [← h, State.enginesUp, State.enginesUp, State.finish_media]

end Sys2Proof.Machine
end

section
set_option Elab.async false
/-!
PROOFS. Calibration steps and the ends of a run (R437, R438), burns of user OTP (R443), firmware images (R435); O55.
-/

namespace Sys2Proof.Machine

/-! ### Byte strings -/

theorem byteAt_prefix {a : Bytes} {o : Nat} (h : o < a.length) (r : Bytes) : byteAt (a ++ r) o = byteAt a o := by
  simp [byteAt, List.getElem?_append_left h]

theorem fieldLE_prefix {a : Bytes} {o n : Nat} (h : o + n ≤ a.length) (r : Bytes) : fieldLE (a ++ r) o n = fieldLE a o n := by
  unfold fieldLE
  rw [List.drop_append_of_le_length (by omega), List.take_append_of_le_length (by simp; omega)]

theorem length_patch {b new : Bytes} {o : Nat} (h : o + new.length ≤ b.length) : (patch b o new).length = b.length := by
  simp [patch]
  omega

/-- What was patched in reads back. -/
theorem patch_field {b new : Bytes} {o : Nat} (h : o ≤ b.length) : ((patch b o new).drop o).take new.length = new := by
  have hlen : (b.take o).length = o := by simp [h]
  rw [patch, List.append_assoc, List.drop_append, hlen, List.drop_eq_nil_of_le (by omega)]
  simp

theorem byteAt_patch {b new : Bytes} {o : Nat} (h : o ≤ b.length) (h0 : 0 < new.length) : byteAt (patch b o new) o = byteAt new 0 := by
  have hlen : (b.take o).length = o := by simp [h]
  rw [patch, List.append_assoc, byteAt_append (by omega), hlen, Nat.sub_self, byteAt_prefix h0]

theorem byteAt_leBytes_self (v : Nat) : byteAt (leBytes 1 v) 0 = v % 256 := by simpa using byteAt_leBytes_one v []

theorem crcBit_lt {c : Nat} (h : c < 2 ^ 32) : crcBit c < 2 ^ 32 := by
  unfold crcBit
  split
  · exact Nat.xor_lt_two_pow (by omega) (by decide)
  · omega

theorem crcBits_lt {n c : Nat} (h : c < 2 ^ 32) : crcBits n c < 2 ^ 32 := by
  induction n generalizing c with
  | zero => exact h
  | succ n ih => exact ih (crcBit_lt h)

theorem crcFold_lt (b : Bytes) {c : Nat} (h : c < 2 ^ 32) : b.foldl crcByte c < 2 ^ 32 := by
  induction b generalizing c with
  | nil => exact h
  | cons x b ih => exact ih (crcBits_lt (Nat.xor_lt_two_pow h (lt_trans x.isLt (by decide))))

theorem crc32c_lt (b : Bytes) : crc32c b < 2 ^ 32 := Nat.xor_lt_two_pow (crcFold_lt b (by decide)) (by decide)

/-! ### Steps of a calibration run (R437) -/

theorem le_stepFrom (mask k n : Nat) : min n 5 ≤ stepFrom mask k n := by
  induction k generalizing n with
  | zero => simp [stepFrom]
  | succ k ih =>
    unfold stepFrom
    have h := ih (n + 1)
    split_ifs <;> omega

section Runs

variable {s : State} {r : CalRun} (hr : s.cal.run = some r)
include hr

theorem State.calibrationStep_converged {step : Nat} (hn : r.next = step) (f : Bytes → Bytes) :
    (s.calibrationStep step true f).cal.run = some { r with trims := f r.trims, next := stepFrom r.mask 5 (step + 1) } := by
  unfold State.calibrationStep
  rw [hr]
  dsimp only
  rw [if_neg (not_not_intro hn), if_pos rfl]

theorem State.calibrationStep_failed {step : Nat} (hn : r.next = step) (f : Bytes → Bytes) :
    s.calibrationStep step false f = s.endCalibration r 3 step := by
  unfold State.calibrationStep
  rw [hr]
  exact if_neg (not_not_intro hn)

end Runs

section Ends

variable (s : State)

theorem Reported.calibrationEntry (kind outcome steps failed item version : Nat) (payload : Bytes) :
    Reported s (s.calibrationEntry kind outcome steps failed item version payload) := Reported.beaconAdd s _ _ _ _

theorem State.storeTrims_cal : s.storeTrims.cal = s.cal := by
  unfold State.storeTrims
  split <;> rfl

theorem State.storeTrims_regs : s.storeTrims.regs = s.regs := by
  unfold State.storeTrims
  split <;> rfl

/-- What reporting leaves of a run's end. -/
theorem Reported.ended {s u : State} (h : Reported s u) :
    u.cal = s.cal ∧ ∀ k, k / 256 = 0x2600 → u.get k = s.get k := by
  refine ⟨h.field_of (field := fun s : State => s.cal) fun _ => rfl, fun k hk => h.2 k ?_⟩
  by_contra hn
  have hmem : k ∈ reportKeys := by simpa [notReport] using hn
  exact absurd hk ((by decide : ∀ k ∈ reportKeys, k / 256 ≠ 0x2600) k hmem)

/-- The run is over: its outcome, the trims that hold, whether they are the board's own. -/
def State.runOver (outcome failed origin : Nat) (trims : Bytes) (calibrated : Bool) : State :=
  let s : State := { s with cal := { s.cal with run := none } }
  let s := (s.put 0x260004 outcome).put 0x260005 failed
  let s : State := { s with cal := { s.cal with trims := trims, calibrated := calibrated } }
  (s.put 0x260006 origin).storeTrims

theorem State.runOver_cal (outcome failed origin : Nat) (trims : Bytes) (calibrated : Bool) :
    (s.runOver outcome failed origin trims calibrated).cal = { s.cal with run := none, trims := trims, calibrated := calibrated } := by
  unfold State.runOver
  rw [State.storeTrims_cal]
  rfl

theorem width_calibration : widthOf 0x260004 = 8 ∧ widthOf 0x260005 = 8 ∧ widthOf 0x260006 = 8 := by decide +kernel

theorem State.runOver_get (outcome failed origin : Nat) (trims : Bytes) (calibrated : Bool) :
    (s.runOver outcome failed origin trims calibrated).get 0x260004 = outcome % 2 ^ 8
      ∧ (s.runOver outcome failed origin trims calibrated).get 0x260005 = failed % 2 ^ 8
      ∧ (s.runOver outcome failed origin trims calibrated).get 0x260006 = origin % 2 ^ 8 := by
  obtain ⟨h4, h5, h6⟩ := width_calibration
  unfold State.runOver
  simp only [State.get_congr (State.storeTrims_regs _)]
  refine ⟨?_, ?_, ?_⟩
  · rw [State.get_put_ne _ (by decide), ← h4]
    exact (State.get_put_ne (State.put _ 0x260004 outcome) (by decide) _).trans (State.get_put_self _ _ _)
  · rw [State.get_put_ne _ (by decide), ← h5]
    exact State.get_put_self _ _ _
  · rw [State.get_put_self, h6]

theorem Reported.endCalibration_bad (r : CalRun) (step : Nat) :
    Reported (s.runOver 3 step 2 factoryTrims false) (s.endCalibration r 3 step) :=
  .trans (Reported.onset (fn := 0xF) (cause := 0x20) (by decide) _ 0) (Reported.calibrationEntry _ 1 3 r.mask step 0xFF 0 _)

theorem Reported.endCalibration_passed (r : CalRun) : Reported (s.runOver 2 0 1 r.trims true) (s.endCalibration r 2 0) := by
  unfold State.endCalibration
  exact .trans (Reported.settle _ 0xF 0x20 0) (Reported.calibrationEntry _ _ _ _ _ _ _ _)

/-- A run that ends bad. -/
theorem State.endCalibration_bad (r : CalRun) (step : Nat) :
    (s.endCalibration r 3 step).cal.run = none ∧ (s.endCalibration r 3 step).get 0x260004 = 3
      ∧ (s.endCalibration r 3 step).get 0x260005 = step % 2 ^ 8 := by
  obtain ⟨hcal, hget⟩ := (Reported.endCalibration_bad s r step).ended
  obtain ⟨h4, h5, -⟩ := s.runOver_get 3 step 2 factoryTrims false
  rw [hcal, hget _ (by decide), hget _ (by decide), h4, h5, State.runOver_cal]
  exact ⟨rfl, rfl, rfl⟩

/-- A run that ends passed. -/
theorem State.endCalibration_passed (r : CalRun) :
    (s.endCalibration r 2 0).cal.run = none ∧ (s.endCalibration r 2 0).cal.trims = r.trims
      ∧ (s.endCalibration r 2 0).cal.calibrated = true
      ∧ (s.endCalibration r 2 0).get 0x260004 = 2 ∧ (s.endCalibration r 2 0).get 0x260006 = 1 := by
  obtain ⟨hcal, hget⟩ := (Reported.endCalibration_passed s r).ended
  obtain ⟨h4, -, h6⟩ := s.runOver_get 2 0 1 r.trims true
  rw [hcal, hget _ (by decide), hget _ (by decide), h4, h6, State.runOver_cal]
  exact ⟨rfl, rfl, rfl, rfl, rfl⟩

/-! ### Repairs (R437) -/

theorem State.addRepair_run (entry : Bytes) : (s.addRepair entry).cal.run = s.cal.run := by
  unfold State.addRepair
  dsimp only
  split
  · rfl
  · rw [State.storeTrims_cal]

theorem State.repairRow_run (m row : Nat) : (s.repairRow m row).cal.run = s.cal.run := by
  unfold State.repairRow
  dsimp only
  split
  · simp
  · rw [State.raise_cal, State.addRepair_run]
    rfl

theorem State.repairColumn_run (m column : Nat) : (s.repairColumn m column).cal.run = s.cal.run := by
  unfold State.repairColumn
  dsimp only
  split
  · simp
  · rw [State.raise_cal, State.addRepair_run]
    rfl

end Ends

/-- Step 4 repairs, and the run goes on. -/
theorem State.calibrateSram_run {s : State} {r : CalRun} (hr : s.cal.run = some r) (hn : r.next = 4) (findings : List SramFinding) :
    (s.calibrateSram findings true).cal.run = some { r with next := 5 } := by
  unfold State.calibrateSram
  rw [hr]
  dsimp only
  rw [if_neg (not_not_intro hn)]
  refine State.calibrationStep_converged (r := r) ?_ hn id
  rw [← hr]
  clear hr hn
  induction findings generalizing s with
  | nil => rfl
  | cons f l ih =>
    refine ih.trans ?_
    dsimp only
    split_ifs
    · rfl
    · exact s.repairRow_run _ _
    · exact State.repairColumn_run _ _ _

/-! ### Burns (R443) -/

/-- The first eight bytes of a generation. -/
def otpHead (g n : Nat) : Bytes := leBytes 2 0x4F54 ++ [1] ++ leBytes 1 g ++ leBytes 2 n ++ [0, 0]

theorem length_otpHead (g n : Nat) : (otpHead g n).length = 8 := rfl

theorem otpHead_fields {g n : Nat} (hg : g < 4) (hn : n ≤ 500) :
    fieldLE (otpHead g n) 0 2 = 0x4F54 ∧ byteAt (otpHead g n) 2 = 1 ∧ byteAt (otpHead g n) 3 = g ∧ fieldLE (otpHead g n) 4 2 = n := by
  refine ⟨?_, rfl, ?_, ?_⟩
  · simp only [otpHead, List.append_assoc]
    rw [fieldLE_leBytes]
    omega
  · show (BitVec.ofNat 8 g).toNat = g
    simp
    omega
  · show leNat (leBytes 2 n) = n
    rw [leNat_leBytes]
    omega

/-- What a burn assembles, without its CRC. -/
def burnImage (g : Nat) (r : Bytes) : Bytes :=
  let b := otpHead g r.length ++ r
  b ++ List.replicate (508 - b.length) 0

theorem length_burnImage (g : Nat) {r : Bytes} (hr : r.length ≤ 500) : (burnImage g r).length = 508 := by
  simp [burnImage, length_otpHead]
  omega

/-- What is burned is a valid generation. -/
theorem otpValid_burnImage {g : Nat} (hg : g < 4) {r : Bytes} (hr : r.length ≤ 500) :
    otpValid g (burnImage g r ++ leBytes 4 (crc32c (burnImage g r))) = true := by
  have hlen := length_burnImage g hr
  have hcrc : fieldLE (burnImage g r ++ leBytes 4 (crc32c (burnImage g r))) 508 4 = crc32c (burnImage g r) := by
    rw [fieldLE_append (by omega), hlen, ← List.append_nil (leBytes 4 _), Nat.sub_self, fieldLE_leBytes]
    exact Nat.mod_eq_of_lt (crc32c_lt _)
  have htake : (burnImage g r ++ leBytes 4 (crc32c (burnImage g r))).take 508 = burnImage g r := by
    rw [← hlen]
    simp
  obtain ⟨hmagic, hversion, hnumber, hcount⟩ := otpHead_fields hg hr
  have hsplit : burnImage g r ++ leBytes 4 (crc32c (burnImage g r)) = otpHead g r.length ++ (r
      ++ List.replicate (508 - (otpHead g r.length ++ r).length) 0 ++ leBytes 4 (crc32c (burnImage g r))) := by
    simp [burnImage]
  have hbytes : (burnImage g r ++ leBytes 4 (crc32c (burnImage g r))).length = 512 := by simp [hlen]
  unfold otpValid
  rw [hcrc, htake, hbytes, hsplit, fieldLE_prefix (by rw [length_otpHead]; omega), fieldLE_prefix (by rw [length_otpHead]; omega),
    byteAt_prefix (by rw [length_otpHead]; decide), byteAt_prefix (by rw [length_otpHead]; decide), hmagic, hversion, hnumber, hcount]
  simp [hr]

theorem Nv.nextGeneration_lt {n : Nv} {g : Nat} (h : n.nextGeneration = some g) : g < 4 :=
  List.mem_range.1 (List.mem_of_find?_eq_some h)

theorem immediate_burn : immediate 0x261003 = true := by decide +kernel

theorem immediate_image : immediate 0x262002 = true := by decide +kernel

/-- What lets a burn begin. -/
theorem State.burnRecords_of_takesValue {s : State} {data : Bytes} (h : s.takesValue 0x261003 data = true) : s.burnRecords.length ≤ 500 := by
  have hr : s.burnRefused = false := State.refused_of_takesValue h
  simp only [State.burnRefused, Bool.or_eq_false_iff, decide_eq_false_iff_not] at hr
  obtain ⟨⟨⟨-, hlen⟩, -⟩, -⟩ := hr
  omega

theorem State.startBurn_burning {s : State} {g : Nat} (hg : s.nv.nextGeneration = some g) :
    s.startBurn = { s.put 0x261004 1 with cal := { s.cal with burning := some (g, burnImage g s.burnRecords
      ++ leBytes 4 (crc32c (burnImage g s.burnRecords))) } } := by
  unfold State.startBurn
  rw [hg]
  rfl

section BurnEnds

variable {s : State} {g : Nat} {b : Bytes} (hb : s.cal.burning = some (g, b))
include hb

theorem State.spoilBurn_ended : s.spoilBurn.cal.burning = none ∧ s.spoilBurn.get 0x261004 = 3 := by
  unfold State.spoilBurn
  rw [hb]
  dsimp only
  split
  · exact ⟨rfl, State.get_put_self _ _ _⟩
  · rw [State.raise_cal, State.get_raise _ _ _ _ (by decide)]
    exact ⟨rfl, State.get_put_self _ _ _⟩

theorem State.finishBurn_bad : (s.finishBurn false).cal.burning = none ∧ (s.finishBurn false).get 0x261004 = 3 := by
  obtain ⟨hburning, hstatus⟩ := State.spoilBurn_ended hb
  unfold State.finishBurn
  rw [hb]
  have h := (Reported.calibrationEntry (s.spoilBurn.raise 0xF 0x25 g) 2 3 0 0 g 0 [])
  refine ⟨?_, ?_⟩
  · refine ((h.field_of (field := fun s : State => s.cal.burning) fun _ => rfl).trans ?_).trans hburning
    rw [State.raise_cal]
  · refine ((h.2 0x261004 (by decide)).trans ?_).trans hstatus
    rw [State.get_raise _ _ _ _ (by decide)]

/-- A burn that is done. -/
def State.burned (s : State) (g : Nat) (b : Bytes) : State :=
  State.put { s with nv := { s.nv with otp := setNth s.nv.otp g b }, cal := { s.cal with burning := none } } 0x261004 2

theorem Reported.finishBurn : Reported (s.burned g b) (s.finishBurn true) := by
  unfold State.finishBurn
  rw [hb]
  refine .trans (u := if g = 0 then s.burned g b else (s.burned g b).raise 0xF 0x24 g) ?_ (Reported.calibrationEntry _ _ _ _ _ _ _ _)
  exact .ite (.refl _) (Reported.raise (fn := 0xF) (cause := 0x24) (by decide) _ g)

theorem State.finishBurn_done (hg : g < s.nv.otp.length) :
    nth (s.finishBurn true).nv.otp g [] = b ∧ (s.finishBurn true).cal.burning = none ∧ (s.finishBurn true).get 0x261004 = 2 := by
  have h := Reported.finishBurn hb
  refine ⟨?_, h.field_of (field := fun s : State => s.cal.burning) fun _ => rfl, (h.2 0x261004 (by decide)).trans (State.get_put_self _ _ _)⟩
  rw [h.field_of (field := fun s : State => s.nv.otp) fun _ => rfl]
  exact nth_setNth_self hg b []

end BurnEnds

/-! ### Firmware images (R435) -/

theorem Nv.rewriteTable_slots (n : Nv) (flags count0 count1 : Nat) : (n.rewriteTable flags count0 count1).slots = n.slots := by
  unfold Nv.rewriteTable
  split <;> rfl

theorem State.installSlot_le (s : State) : s.installSlot ≤ 1 := by
  unfold State.installSlot
  split
  · exact le_rfl
  · exact Nat.zero_le _
  · split_ifs <;> decide

/-- The slot written, whichever way the image reads back. -/
theorem State.install_slot {s : State} (h : 2 ≤ s.nv.slots.length) (b : Bytes) (ok : Bool) :
    nth (s.install b ok).nv.slots s.installSlot [] = if ok then b else [] := by
  have hk := s.installSlot_le
  unfold State.install
  dsimp only
  rw [(Reported.calibrationEntry _ _ _ _ _ _ _ _).field_of (field := fun s : State => s.nv.slots) fun _ => rfl]
  cases ok
  · rw [if_neg (by decide), (Reported.raise (fn := 0xF) (cause := 2) (by decide) _ _).field_of (field := fun s : State => s.nv.slots) fun _ => rfl]
    exact nth_setNth_self (by omega) _ _
  · rw [if_pos rfl]
    dsimp only
    rw [Nv.rewriteTable_slots]
    exact nth_setNth_self (by omega) _ _

/-! ### Obligation -/

section Commands

variable {s : State} {t : Nat} {r : CalRun}

/-- A step that converges: its trims, and a later step next. -/
theorem calibrationStep_goes_on {step : Nat} {f : Bytes → Bytes} {g : State → State} (hr : s.cal.run = some r) (hn : r.next = step) (hstep : step < 5)
    (hg : g (s.begin t) = (s.begin t).calibrationStep step true f) :
    ∃ r', (s.finish t g).cal.run = some r' ∧ r'.trims = f r.trims ∧ step < r'.next := by
  refine ⟨{ r with trims := f r.trims, next := stepFrom r.mask 5 (step + 1) }, ?_, rfl, ?_⟩
  · rw [State.finish_cal, hg]
    exact State.calibrationStep_converged (s := s.begin t) hr hn f
  · have h := le_stepFrom r.mask 5 (step + 1)
    dsimp only
    omega

theorem answers_bias {code : Nat} (hr : s.cal.run = some r) (hn : r.next = 1) (hcode : code < 64) :
    Answers (exec (.calibrateBias t code code true) s) fun s' => ∃ r', s'.cal.run = some r' ∧ byteAt r'.trims 0 = code ∧ 1 < r'.next := by
  rw [exec_calibrateBias]
  obtain ⟨r', hrun, htrims, hnext⟩ := calibrationStep_goes_on (f := fun b => patch b 0 (leBytes 1 code))
    (g := fun s => s.calibrationStep 1 (true && code == code && decide (code < 64)) fun b => patch b 0 (leBytes 1 code)) (t := t)
    hr hn (by decide) (by simp [hcode])
  refine answers_act ⟨r', hrun, ?_, hnext⟩
  rw [htrims, byteAt_patch (Nat.zero_le _) (by simp), byteAt_leBytes_self, Nat.mod_eq_of_lt (by omega)]

theorem answers_bias_bad {first second : Nat} {budget : Bool} (hr : s.cal.run = some r) (hn : r.next = 1) (h : first ≠ second ∨ budget = false) :
    Answers (exec (.calibrateBias t first second budget) s) fun s' => s'.cal.run = none ∧ s'.get 0x260004 = 3 ∧ s'.get 0x260005 = 1 := by
  have hbad : (budget && first == second && decide (first < 64)) = false := by
    rcases h with h | h
    · simp [h]
    · simp [h]
  rw [exec_calibrateBias]
  refine answers_act ?_
  rw [hbad, State.finish_cal, State.get_finish _ _ _ (by decide) (by decide), State.get_finish _ _ _ (by decide) (by decide)]
  rw [State.calibrationStep_failed (s := s.begin t) hr hn]
  exact State.endCalibration_bad _ r 1

theorem answers_oscillators {tap : Nat} {taps : List Nat} (hr : s.cal.run = some r) (hlen : r.trims.length = 64) (hn : r.next = 2)
    (htaps : tapsOk tap taps = true) : Answers (exec (.calibrateOscillators t tap taps true) s) fun s' =>
      ∃ r', s'.cal.run = some r' ∧ byteAt r'.trims 1 = tap ∧ 2 < r'.next := by
  have htap : tap < 128 := by
    simp only [tapsOk, Bool.and_eq_true, decide_eq_true_eq] at htaps
    exact htaps.1.1
  rw [exec_calibrateOscillators]
  obtain ⟨r', hrun, htrims, hnext⟩ := calibrationStep_goes_on (f := fun b => patch b 1 (leBytes 1 tap ++ taps.flatMap fun x => leBytes 1 x))
    (g := fun s => s.calibrationStep 2 (true && tapsOk tap taps) fun b => patch b 1 (leBytes 1 tap ++ taps.flatMap fun x => leBytes 1 x))
    (t := t) hr hn (by decide) (by rw [htaps]; rfl)
  refine answers_act ⟨r', hrun, ?_, hnext⟩
  rw [htrims, byteAt_patch (by omega) (by simp), byteAt_leBytes_one, Nat.mod_eq_of_lt (by omega)]

theorem length_offsets (means : List Int) (f : Int → Nat) : (means.flatMap fun m => leBytes 2 (f m)).length = 2 * means.length := by
  induction means with
  | nil => rfl
  | cons m l ih =>
    simp only [List.flatMap_cons, List.length_append, length_leBytes, List.length_cons, ih]
    omega

theorem State.calibrateTemperature_ok {means : List Int} {steady : Bool}
    (hok : (steady && means.length == 12 && (means.map s.sensorOffset).all fun o => decide (-2048 ≤ o ∧ o ≤ 2048)) = true) :
    s.calibrateTemperature means steady = s.calibrationStep 3 true fun b =>
      patch (patch b 14 (leBytes 2 (unsigned 16 (looseDiv s.calibrationRef 16000)))) 16
        ((means.map s.sensorOffset).flatMap fun o => leBytes 2 (unsigned 16 o)) := by
  unfold State.calibrateTemperature
  dsimp only
  rw [hok]

theorem answers_temperature {means : List Int} (hr : s.cal.run = some r) (hlen : r.trims.length = 64) (hn : r.next = 3) (hmeans : means.length = 12)
    (hoffs : ∀ m ∈ means, -2048 ≤ s.sensorOffset m ∧ s.sensorOffset m ≤ 2048) :
    Answers (exec (.calibrateTemperature t means true) s) fun s' => ∃ r', s'.cal.run = some r' ∧ 3 < r'.next
      ∧ (r'.trims.drop 16).take 24 = means.flatMap fun m => leBytes 2 (unsigned 16 (s.sensorOffset m)) := by
  have hok : (true && means.length == 12 && (means.map s.sensorOffset).all fun o => decide (-2048 ≤ o ∧ o ≤ 2048)) = true := by
    simpa [hmeans] using hoffs
  rw [exec_calibrateTemperature]
  obtain ⟨r', hrun, htrims, hnext⟩ := calibrationStep_goes_on
    (f := fun b => patch (patch b 14 (leBytes 2 (unsigned 16 (looseDiv s.calibrationRef 16000)))) 16
      ((means.map s.sensorOffset).flatMap fun o => leBytes 2 (unsigned 16 o)))
    (g := fun s => s.calibrateTemperature means true) (t := t) hr hn (by decide)
    (State.calibrateTemperature_ok (s := s.begin t) hok)
  refine answers_act ⟨r', hrun, hnext, ?_⟩
  have hbytes := length_offsets means fun m => unsigned 16 (s.sensorOffset m)
  rw [hmeans] at hbytes
  have hfield := patch_field (b := patch r.trims 14 (leBytes 2 (unsigned 16 (looseDiv s.calibrationRef 16000)))) (o := 16)
    (new := means.flatMap fun m => leBytes 2 (unsigned 16 (s.sensorOffset m)))
    (by rw [length_patch (by rw [length_leBytes]; omega)]; omega)
  rw [htrims]
  simp only [List.flatMap_map]
  rwa [hbytes] at hfield

theorem answers_sram {findings : List SramFinding} (hr : s.cal.run = some r) (hn : r.next = 4) (hok : findings.all SramFinding.ok = true) :
    Answers (exec (.calibrateSram t findings true) s) fun s' => ∃ r', s'.cal.run = some r' ∧ r'.next = 5 ∧ r'.trims = r.trims := by
  rw [exec_calibrateSram]
  refine answers_actIf hok ⟨{ r with next := 5 }, ?_, rfl, rfl⟩
  rw [State.finish_cal]
  exact State.calibrateSram_run (s := s.begin t) hr hn findings

theorem answers_runEnd (hr : s.cal.run = some r) (hn : 5 ≤ r.next) :
    Answers (exec (.calibrationRunEnd t) s) fun s' => s'.cal.run = none ∧ s'.cal.trims = r.trims ∧ s'.cal.calibrated = true
      ∧ s'.get 0x260004 = 2 ∧ s'.get 0x260006 = 1 := by
  have hend : (s.begin t).finishCalibration = (s.begin t).endCalibration r 2 0 := by
    unfold State.finishCalibration
    rw [State.begin_cal, hr]
    exact if_pos hn
  rw [exec_calibrationRunEnd]
  refine answers_act ?_
  rw [State.finish_cal, State.get_finish _ _ _ (by decide) (by decide), State.get_finish _ _ _ (by decide) (by decide), hend]
  exact State.endCalibration_passed _ r

theorem answers_otpBurn {q : Path} {v g : Nat} (hq : (s.begin t).hears q = true)
    (h : ((s.begin t).heard q).takesValue 0x261003 (leBytes 4 v) = true) (hg : s.nv.nextGeneration = some g) :
    Answers (exec (.otpBurn t q v) s) fun s' => s'.answered q 0 [] ∧ s'.get 0x261004 = 1 ∧ s'.nv = s.nv
      ∧ ∃ b, s'.cal.burning = some (g, b) ∧ otpValid g b = true := by
  have hnv : ((s.begin t).heard q).nv.nextGeneration = some g := by rw [State.heard_nv]; exact hg
  obtain ⟨hrun, hanswered⟩ := finish_effect immediate_burn hq h (State.startBurn_burning hnv)
  rw [exec_otpBurn]
  refine answers_act ⟨hanswered, ?_, ?_, _, ?_, otpValid_burnImage (Nv.nextGeneration_lt hg) (State.burnRecords_of_takesValue h)⟩
  · rw [State.finish_taken_get (f := fun s => s.access q 0x261003 (leBytes 4 v)) hrun ⟨by decide, by decide⟩]
    exact (State.get_congr rfl _).trans (State.get_put_self ((s.begin t).heard q) 0x261004 1)
  · rw [State.finish_nv, hrun, State.reply_nv]
    exact State.heard_nv _ _
  · rw [State.finish_cal, hrun, State.reply_cal]

theorem answers_firmwareInstall {q : Path} {image b : Bytes} {ok : Bool} (hq : (s.begin t).hears q = true)
    (h : ((s.begin t).heard q).takesTransfer 0x262002 image b = true) (hslots : 2 ≤ s.nv.slots.length) :
    Answers (exec (.firmwareInstall t q image ok) s) fun s' =>
      s'.answered q (if ok then 0 else 0x08000020) [] ∧ nth s'.nv.slots s.installSlot [] = if ok then b else [] := by
  obtain ⟨o, ho⟩ := objOf_of_immediate immediate_image
  have hrun := State.access_transfer hq h ho { readBack := ok } fun h => absurd h (by decide)
  have hslot : ((s.begin t).heard q).installSlot = s.installSlot := by
    unfold State.installSlot
    rw [State.get_heard, State.heard_nv]
    rfl
  have hcontent : ((s.begin t).heard q).setContentOf 0x262002 o.acc b { readBack := ok } = ((s.begin t).heard q).install b ok := by
    rw [State.setContentOf_of_immediate immediate_image ho]
    rfl
  have hcode : (if 0x262002 = 0x262002 ∧ (!ok) = true then 0x08000020 else 0) = if ok then 0 else 0x08000020 := by cases ok <;> rfl
  rw [hcontent, hcode] at hrun
  rw [exec_firmwareInstall]
  refine answers_act ⟨State.finish_taken_answered hrun, ?_⟩
  rw [State.finish_nv, hrun, State.reply_nv, ← hslot]
  exact State.install_slot (by rw [State.heard_nv]; exact hslots) b ok

end Commands

/-- Settles O55: the run's steps and its end, the burn and its end, the image. -/
theorem serviceRunsEndAsTheyRead : Obligations.ServiceRunsEndAsTheyRead := by
  refine fun s t => ⟨fun r hr hlen => ⟨fun code hn hcode => ⟨answers_bias hr hn hcode, fun first second budget h => answers_bias_bad hr hn h⟩,
    fun tap taps hn htaps => answers_oscillators hr hlen hn htaps, fun means hn hmeans hoffs => answers_temperature hr hlen hn hmeans hoffs,
    fun findings hn hok => answers_sram hr hn hok, answers_runEnd hr⟩, fun q v g hq h hg => answers_otpBurn hq h hg,
    fun g b hb hg => ⟨?_, ?_⟩, fun q image b hq h hslots => ⟨answers_firmwareInstall hq h hslots, answers_firmwareInstall hq h hslots⟩⟩
  · rw [exec_otpBurnComplete]
    refine answers_act ?_
    rw [State.finish_nv, State.finish_cal, State.get_finish _ _ _ (by decide) (by decide)]
    exact State.finishBurn_done (s := s.begin t) hb hg
  · rw [exec_otpBurnComplete]
    refine answers_act ?_
    rw [State.finish_cal, State.get_finish _ _ _ (by decide) (by decide)]
    exact State.finishBurn_bad (s := s.begin t) hb

end Sys2Proof.Machine
end

section
set_option Elab.async false
/-!
PROOFS. Streams of the encoder: enables, coded pictures, seals, cores taken out of use (R244, R246, R252, R254 to R256, R266, R271; O40).
-/

namespace Sys2Proof.Machine

/-! ### Keys -/

theorem immediate_streamEnable : ∀ n < 24, immediate (streamK n 1) = true ∧ widthOf (streamK n 1) = 8 ∧ widthOf (streamK n 0x10) = 8 := by
  decide +kernel

theorem streamK_not_report (n sub : Nat) (hn : n < 24) (hs : sub < 256) : streamK n sub ∉ reportKeys := by
  have hlo : 0x391000 ≤ streamK n sub ∧ streamK n sub < 0x392800 := by unfold streamK keyOf; omega
  intro h
  exact absurd hlo ((by decide : ∀ k ∈ reportKeys, ¬ (0x391000 ≤ k ∧ k < 0x392800)) _ h)

theorem streamK_inj {n sub sub' : Nat} (h : sub ≠ sub') : streamK n sub ≠ streamK n sub' := by unfold streamK keyOf; omega

theorem streamK_ne_sealK {n m sub sub' : Nat} (hn : n < 24) (hs : sub < 256) (hs' : sub' < 256) : streamK n sub ≠ sealK m sub' := by
  unfold streamK sealK keyOf; omega

/-! ### Streams as the operations leave them -/

/-- What coding, sealing and moving do not touch of each other: where a stream runs, and whether it is new or closing. -/
def Stream.course (c : Stream) : Stream :=
  { core := c.core, suspended := c.suspended, first := c.first, lastSeq := c.lastSeq, closing := c.closing }

section Streams

variable {s : State} {n : Nat}

theorem State.stream_setStream_ne (s : State) {m n : Nat} (h : m ≠ n) (c : Stream) : (s.setStream n c).stream m = s.stream m := nth_setNth_ne _ h _ _

theorem State.streams_setStream (s : State) (n : Nat) (c : Stream) :
    (s.setStream n c).media.codec.streams.length = s.media.codec.streams.length := List.length_set

theorem State.get_setStream (s : State) (n : Nat) (c : Stream) (k : Nat) : (s.setStream n c).get k = s.get k := State.get_congr rfl k

theorem State.endSegment_of_closed {flags : Nat} (h : (s.stream n).open_ = false) : s.endSegment n flags = s := if_pos (by rw [h]; rfl)

/-- The head of the open segment's seal. -/
def State.headNow (s : State) (n flags : Nat) : Bytes :=
  sealHead n (s.get (streamK n 3)) Config.deviceIdentifier.toNat (s.stream n).chainId (s.stream n) flags (s.stream n).segLast

theorem State.endSegment_of_open {flags : Nat} (h : (s.stream n).open_ = true) : s.endSegment n flags = s.setStream n { s.stream n with
      open_ := false, segment := (s.stream n).segment + 1, unsealed := (s.stream n).unsealed ++ [(s.headNow n flags, s.now)], segData := [], segPictures := 0
      segMissing := 0, segRepeats := 0, segCapped := false } := if_neg (by rw [h]; decide)

theorem State.get_endSegment (s : State) (n flags k : Nat) : (s.endSegment n flags).get k = s.get k := by
  unfold State.endSegment
  dsimp only
  split
  · rfl
  · rfl

theorem State.endSegment_streams (s : State) (n flags : Nat) :
    (s.endSegment n flags).media.codec.streams.length = s.media.codec.streams.length := by
  unfold State.endSegment
  dsimp only
  split
  · rfl
  · exact State.streams_setStream _ _ _

theorem State.endSegment_course (hlen : n < s.media.codec.streams.length) (flags : Nat) :
    ((s.endSegment n flags).stream n).course = (s.stream n).course := by
  cases h : (s.stream n).open_ with
  | false => rw [State.endSegment_of_closed h]
  | true =>
    rw [State.endSegment_of_open h, State.stream_setStream hlen]
    rfl

theorem State.endSegment_stream_ne (s : State) {m n : Nat} (h : m ≠ n) (flags : Nat) : (s.endSegment n flags).stream m = s.stream m := by
  cases ho : (s.stream n).open_ with
  | false => rw [State.endSegment_of_closed ho]
  | true => rw [State.endSegment_of_open ho, State.stream_setStream_ne _ h]

/-- A stream that has no reference. -/
def Stream.unreferenced (c : Stream) : Stream := { c with reference := none, motion := [], motionPrev := [], motionFor := none }

/-- The chain that a new chain begins. -/
def State.chained (s : State) (n : Nat) : State :=
  let (s, r) := s.draw
  let s := s.put (sealK n 3) r
  s.setStream n { s.stream n with chainId := r % 2 ^ 32, chainT0 := none, segment := 0 }

theorem State.newChain_eq (s : State) (n : Nat) : s.newChain n =
    if ((s.endSegment n 0).setStream n ((s.endSegment n 0).stream n).unreferenced).get (streamK n 2) ≠ 1
    then (s.endSegment n 0).setStream n ((s.endSegment n 0).stream n).unreferenced
    else ((s.endSegment n 0).setStream n ((s.endSegment n 0).stream n).unreferenced).chained n := rfl

theorem State.chained_stream (hlen : n < s.media.codec.streams.length) : (s.chained n).stream n
    = { s.stream n with chainId := s.draw.2 % 2 ^ 32, chainT0 := none, segment := 0 } :=
  State.stream_setStream (s := s.draw.1.put (sealK n 3) s.draw.2) hlen _

theorem State.get_chained (s : State) (n : Nat) {k : Nat} (hk : k ≠ sealK n 3) : (s.chained n).get k = s.get k :=
  State.get_put_ne s.draw.1 hk s.draw.2

theorem State.get_newChain (s : State) (n : Nat) {k : Nat} (hk : k ≠ sealK n 3) : (s.newChain n).get k = s.get k := by
  rw [State.newChain_eq]
  split
  · rw [State.get_setStream, State.get_endSegment]
  · rw [State.get_chained _ _ hk, State.get_setStream, State.get_endSegment]

theorem State.newChain_streams (s : State) (n : Nat) : (s.newChain n).media.codec.streams.length = s.media.codec.streams.length := by
  have h := (State.streams_setStream (s.endSegment n 0) n ((s.endSegment n 0).stream n).unreferenced).trans (s.endSegment_streams n 0)
  rw [State.newChain_eq]
  split
  · exact h
  · exact (State.streams_setStream _ _ _).trans h

/-- A new chain has no reference, and leaves the stream's course. -/
theorem State.newChain_stream (hlen : n < s.media.codec.streams.length) : ((s.newChain n).stream n).reference = none
    ∧ ((s.newChain n).stream n).course = (s.stream n).course ∧ ((s.newChain n).stream n).unsealed = ((s.endSegment n 0).stream n).unsealed := by
  have hlen' : n < (s.endSegment n 0).media.codec.streams.length := by rw [State.endSegment_streams]; exact hlen
  have hunref := State.stream_setStream hlen' ((s.endSegment n 0).stream n).unreferenced
  have hcourse := State.endSegment_course hlen 0
  rw [State.newChain_eq]
  split
  · rw [hunref]
    exact ⟨rfl, hcourse, rfl⟩
  · rw [State.chained_stream (by rw [State.streams_setStream]; exact hlen'), hunref]
    exact ⟨rfl, hcourse, rfl⟩

theorem State.newChain_stream_ne (s : State) {m n : Nat} (h : m ≠ n) : (s.newChain n).stream m = s.stream m := by
  rw [State.newChain_eq]
  split
  · rw [State.stream_setStream_ne _ h, State.endSegment_stream_ne _ h]
  · refine (State.stream_setStream_ne _ h _).trans ?_
    exact (State.stream_setStream_ne _ h _).trans (State.endSegment_stream_ne _ h 0)

theorem State.get_requestMotion (s : State) (n k : Nat) : (s.requestMotion n).get k = s.get k :=
  State.get_congr (s.requestMotion_kept n).1 k

/-- A search asked for anew. -/
def State.asked (s : State) (n : Nat) (job : Option (Nat × Nat)) : State :=
  let queue := s.media.motionQueue.filter (· != n)
  let s := s.setStream n { s.stream n with motionFor := job, motion := [], motionEngine := s.engineFor n, motionPlacement := s.placement }
  { s with media := { s.media with motionQueue := if job.isSome then queue ++ [n] else queue } }

theorem State.requestMotion_eq (s : State) (n : Nat) : ∃ job, s.requestMotion n = if job = (s.stream n).motionFor then s else s.asked n job :=
  ⟨_, rfl⟩

theorem State.requestMotion_stream (hlen : n < s.media.codec.streams.length) :
    ((s.requestMotion n).stream n).reference = (s.stream n).reference ∧ ((s.requestMotion n).stream n).course = (s.stream n).course := by
  obtain ⟨job, hjob⟩ := s.requestMotion_eq n
  rw [hjob]
  split
  · exact ⟨rfl, rfl⟩
  · have h : (s.asked n job).stream n = _ := State.stream_leaves hlen
      { s.stream n with motionFor := job, motion := [], motionEngine := s.engineFor n, motionPlacement := s.placement } _
    rw [h]
    exact ⟨rfl, rfl⟩

/-! ### Enable and disable (R244, R252, R255) -/

/-- A stream as it starts. -/
def State.freshStream (s : State) (n : Nat) : Stream :=
  { s.stream n with
    fill := (((rateSet n s.readBack).buf / 2 : Nat) : Int), lastQp := (rateSet n s.readBack).base, first := true, lastIdr := true
    lastBits := 0, lastCplx := 0, lastSeq := none, closing := false }

theorem State.startStream_eq (s : State) (n : Nat) : s.startStream n =
    (((s.put (streamK n 0x10) 1).setStream n (s.freshStream n)).newChain n).requestMotion n := rfl

theorem State.get_startStream (s : State) (n : Nat) {k : Nat} (hk : k ≠ sealK n 3) :
    (s.startStream n).get k = (s.put (streamK n 0x10) 1).get k := by
  rw [State.startStream_eq, State.get_requestMotion, State.get_newChain _ _ hk, State.get_setStream]

/-- A stream that starts is new, and has no reference. -/
theorem State.startStream_stream (hlen : n < s.media.codec.streams.length) : ((s.startStream n).stream n).first = true
    ∧ ((s.startStream n).stream n).lastSeq = none ∧ ((s.startStream n).stream n).reference = none := by
  have hlen' : n < ((s.put (streamK n 0x10) 1).setStream n (s.freshStream n)).media.codec.streams.length := by
    rw [State.streams_setStream]
    exact hlen
  obtain ⟨href, hcourse, -⟩ := State.newChain_stream hlen'
  obtain ⟨href', hcourse'⟩ := State.requestMotion_stream (s := ((s.put (streamK n 0x10) 1).setStream n (s.freshStream n)).newChain n)
    (n := n) (by rw [State.newChain_streams]; exact hlen')
  have hall : ((s.startStream n).stream n).course = (s.freshStream n).course := by
    rw [State.startStream_eq, hcourse', hcourse, State.stream_setStream (s := s.put (streamK n 0x10) 1) hlen]
  exact ⟨(congrArg Stream.first hall :), (congrArg Stream.lastSeq hall :), href'.trans href⟩

theorem State.get_idleSlopes (s : State) {k : Nat} (h4 : k ≠ 0x284004) (h5 : k ≠ 0x284005) : s.idleSlopes.get k = s.get k := by
  rw [State.idleSlopes, State.get_put_ne _ h5, State.get_put_ne _ h4]

theorem State.get_encoderObjects (s : State) {k : Nat} (h1 : k ≠ 0x390001) (h3 : k ≠ 0x390003) : s.encoderObjects.get k = s.get k := by
  rw [State.encoderObjects, State.get_put_ne _ h3, State.get_put_ne _ h1]

theorem State.get_encoderView (s : State) {n sub : Nat} (hn : n < 24) (hs : sub < 256) :
    s.encoderObjects.idleSlopes.get (streamK n sub) = s.get (streamK n sub) := by
  have hlo : 0x391000 ≤ streamK n sub ∧ streamK n sub < 0x392800 := by unfold streamK keyOf; omega
  rw [State.get_idleSlopes _ (by omega) (by omega), State.get_encoderObjects _ (by omega) (by omega)]

theorem State.encoderView_stream (s : State) (m : Nat) : s.encoderObjects.idleSlopes.stream m = s.stream m :=
  State.stream_congr (by rw [State.idleSlopes, State.put_media, State.put_media, State.encoderObjects_media]) m

theorem State.get_put_stream (s : State) {n sub v : Nat} (hn : n < 24) (hsub : sub = 1 ∨ sub = 0x10) (hv : v < 256) :
    (s.put (streamK n sub) v).get (streamK n sub) = v := by
  obtain ⟨-, hon, hstate⟩ := immediate_streamEnable n hn
  rw [State.get_put_self]
  refine Nat.mod_eq_of_lt ?_
  rcases hsub with rfl | rfl
  · rw [hon]
    omega
  · rw [hstate]
    omega

theorem State.usable_put (s : State) (k v fn : Nat) : (s.put k v).usable fn = s.usable fn := rfl

/-- A stream that is enabled while its function is usable starts. -/
theorem State.enableStream_starts (hn : n < 24) (hlen : n < s.media.codec.streams.length) (husable : s.usable 6 = true)
    (hoff : s.streamOn n = false) (hstate : s.get (streamK n 0x10) = 0) : (s.enableStream n).streamOn n = true
      ∧ (s.enableStream n).get (streamK n 0x10) = 1 ∧ ((s.enableStream n).stream n).first = true
      ∧ ((s.enableStream n).stream n).lastSeq = none ∧ ((s.enableStream n).stream n).reference = none := by
  let a := (s.put (streamK n 1) 1).setStream n { s.stream n with core := (s.encoderFor (s.streamLoad n)).getD 0, suspended := false }
  have hon : a.get (streamK n 1) = 1 := State.get_put_stream s hn (.inl rfl) (by decide)
  have hstill : a.get (streamK n 0x10) = 0 := (State.get_put_ne s (streamK_inj (by decide)) 1).trans hstate
  have hlen' : n < a.media.codec.streams.length := by
    rw [State.streams_setStream]
    exact hlen
  have hrun : s.enableStream n = (a.startStream n).encoderObjects.idleSlopes := by
    unfold State.enableStream
    rw [if_neg (by rw [hoff]; decide)]
    refine congrArg (fun s : State => s.encoderObjects.idleSlopes) (?_ : a.settleStream n = _)
    have husable' : a.usable 6 = true := husable
    unfold State.settleStream
    dsimp only
    rw [husable', hstill, State.streamOn, hon]
    rfl
  have hkey : ∀ sub < 256, streamK n sub ≠ sealK n 3 := fun sub hs => streamK_ne_sealK hn hs (by decide)
  obtain ⟨hfirst, hlast, href⟩ := State.startStream_stream hlen'
  rw [hrun, State.streamOn, State.get_encoderView _ hn (by decide), State.get_encoderView _ hn (by decide), State.encoderView_stream,
    State.get_startStream _ _ (hkey _ (by decide)), State.get_startStream _ _ (hkey _ (by decide)), State.get_put_ne _ (streamK_inj (by decide)), hon]
  exact ⟨rfl, State.get_put_stream a hn (.inr rfl) (by decide), hfirst, hlast, href⟩

/-- A stream that is disabled: the state that it stops from. -/
theorem State.disableStream_stops (hn : n < 24) (husable : s.usable 6 = true) (hon : s.streamOn n = true) (hstate : s.get (streamK n 0x10) = 2) :
    s.disableStream n = ((s.put (streamK n 1) 0).stopStream n).encoderObjects.idleSlopes := by
  unfold State.disableStream
  rw [if_neg (by rw [hon]; decide)]
  refine congrArg (fun s : State => s.encoderObjects.idleSlopes) ?_
  have husable' : (s.put (streamK n 1) 0).usable 6 = true := husable
  have hoff : (s.put (streamK n 1) 0).get (streamK n 1) = 0 := State.get_put_stream s hn (.inl rfl) (by decide)
  have hstill : (s.put (streamK n 1) 0).get (streamK n 0x10) = 2 := (State.get_put_ne s (streamK_inj (by decide)) 0).trans hstate
  unfold State.settleStream
  dsimp only
  rw [husable', hstill, State.streamOn, hoff]
  rfl

/-- A stream that stops at once. -/
theorem State.stopStream_plain (hn : n < 24) (h : s.get (streamK n 2) ≠ 1) : (s.stopStream n).get (streamK n 0x10) = 0
    ∧ (s.stopStream n).get (streamK n 1) = s.get (streamK n 1) := by
  unfold State.stopStream
  dsimp only
  rw [if_neg fun h' => h h'.1]
  exact ⟨State.get_put_stream _ hn (.inr rfl) (by decide), State.get_put_ne _ (streamK_inj (by decide)) _⟩

/-- A stream that closes its segment first. -/
theorem State.stopStream_closing (hn : n < 24) (hlen : n < s.media.codec.streams.length) (h : s.get (streamK n 2) = 1)
    (ho : (s.stream n).open_ = true) : (s.stopStream n).get (streamK n 0x10) = 3 ∧ (s.stopStream n).get (streamK n 1) = s.get (streamK n 1)
      ∧ ((s.stopStream n).stream n).open_ = false ∧ ((s.stopStream n).stream n).closing = true
      ∧ ((s.stopStream n).stream n).unsealed.length = (s.stream n).unsealed.length + 1 := by
  let a := s.setStream n { s.stream n with closing := true, suspended := false }
  have ha : a.stream n = { s.stream n with closing := true, suspended := false } := State.stream_setStream hlen _
  have hlen' : n < a.media.codec.streams.length := by
    rw [State.streams_setStream]
    exact hlen
  have hrun : s.stopStream n = (a.endSegment n 1).put (streamK n 0x10) 3 := if_pos ⟨h, ho⟩
  have hend := State.stream_setStream hlen' { a.stream n with
      open_ := false, segment := (a.stream n).segment + 1, unsealed := (a.stream n).unsealed ++ [(a.headNow n 1, a.now)], segData := [], segPictures := 0
      segMissing := 0, segRepeats := 0, segCapped := false }
  rw [← State.endSegment_of_open (by rw [ha]; exact ho)] at hend
  have hstream : (s.stopStream n).stream n = (a.endSegment n 1).stream n := by
    rw [hrun]
    exact State.stream_congr rfl n
  refine ⟨by rw [hrun]; exact State.get_put_stream _ hn (.inr rfl) (by decide), ?_, ?_, ?_, ?_⟩
  · rw [hrun, State.get_put_ne _ (streamK_inj (by decide)), State.get_endSegment]
    rfl
  · rw [hstream, hend]
  · rw [hstream, hend, ha]
  · rw [hstream, hend, ha]
    simp

/-! ### Coded pictures (R246 to R253) -/

theorem State.enterSegment_streams (s : State) (n time : Nat) (c : Coded) (fed : List Bytes) :
    (s.enterSegment n time c fed).media.codec.streams.length = s.media.codec.streams.length := State.streams_setStream _ _ _

theorem State.streamCommit_media (s : State) (n : Nat) : (s.streamCommit n).media = s.media := by
  unfold State.streamCommit State.applyPending
  dsimp only
  split <;> rfl

theorem length_ite {c : Prop} [Decidable c] {a b : State} {m : Nat} (ha : a.media.codec.streams.length = m) (hb : b.media.codec.streams.length = m) :
    (if c then a else b).media.codec.streams.length = m := by split <;> assumption

/-- The state that a coded picture leaves: the stream with its new reference, sent and searched. -/
theorem State.codePicture_ends {core : Core} {pic : Picture} {again : Bool} 
    (hsrc : s.nextSource n = some (pic, again)) (hfits : core.fits pic = true) :
    ∃ (a : State) (c : Stream) (count bits time : Nat) (cut : Bool) (sent : List Bytes), a.media.codec.streams.length = s.media.codec.streams.length
      ∧ c.reference = some pic ∧ c.lastSeq = some pic.seq ∧ c.first = false
      ∧ s.codePicture n core = ((State.put (if cut then (((a.setStream n c).put (streamK n 0x11) count).put (streamK n 0x13) bits).bump (streamK n 0x12)
          else ((a.setStream n c).put (streamK n 0x11) count).put (streamK n 0x13) bits) (streamK n 0x10) 2).sendUnit n time sent).requestMotion n := by
  unfold State.codePicture
  rw [hsrc]
  dsimp -zeta only
  extract_lets s0 s1 evidence st time divider missing boundary s2 st2 idr searched motion cplx period r st3 p skips s3
  rename_i s4 s5 st5 s6 s7 s8
  rw [if_neg (by rw [hfits]; simp)]
  refine ⟨s5, _, _, _, _, _, _, ?_, rfl, rfl, rfl, rfl⟩
  have h2 : s2.media.codec.streams.length = s.media.codec.streams.length := by
    have h1 : s1.media.codec.streams.length = s.media.codec.streams.length := by rw [s.streamCommit_media n]
    exact length_ite ((s1.endSegment_streams n 0).trans h1) h1
  have h4 : s4.media.codec.streams.length = s.media.codec.streams.length := length_ite h2 ((State.streams_setStream _ _ _).trans h2)
  exact length_ite ((s4.enterSegment_streams _ _ _ _).trans h4) h4

/-- What an operation leaves that touches of a stream's picture at most its packets' numbers and its search. -/
def SearchOnly (n : Nat) (s u : State) : Prop :=
  u.media.codec.streams.length = s.media.codec.streams.length ∧ (n < s.media.codec.streams.length → (u.stream n).reference = (s.stream n).reference
    ∧ (u.stream n).course = (s.stream n).course) ∧ ∀ k, k / 65536 = 0x39 → u.get k = s.get k

variable {u w : State}

theorem SearchOnly.refl (n : Nat) (s : State) : SearchOnly n s s := ⟨rfl, fun _ => ⟨rfl, rfl⟩, fun _ _ => rfl⟩

theorem SearchOnly.trans (h : SearchOnly n s u) (h' : SearchOnly n u w) : SearchOnly n s w := by
  obtain ⟨hlen, hstream, hget⟩ := h
  obtain ⟨hlen', hstream', hget'⟩ := h'
  exact ⟨hlen'.trans hlen, fun hn => ⟨(hstream' (by omega)).1.trans (hstream hn).1, (hstream' (by omega)).2.trans (hstream hn).2⟩,
    fun k hk => (hget' k hk).trans (hget k hk)⟩

theorem SearchOnly.requestMotion (n : Nat) (s : State) : SearchOnly n s (s.requestMotion n) := by
  refine ⟨?_, State.requestMotion_stream, fun k _ => s.get_requestMotion n k⟩
  obtain ⟨job, hjob⟩ := s.requestMotion_eq n
  rw [hjob]
  exact length_ite rfl (State.streams_setStream s n _)

theorem SearchOnly.avtpOn (n m mac seq : Nat) (frame : Bytes) (s : State) : SearchOnly n s (s.avtpOn m mac seq frame) := by
  unfold State.avtpOn
  split
  · exact .refl n s
  · have hmedia : ((s.bump 0x284006).raise 0xD 8 mac).media = s.media := by rw [State.raise_media, State.bump_media]
    refine ⟨by rw [hmedia], fun _ => ?_, fun k hk => ?_⟩
    · have hsame : ((s.bump 0x284006).raise 0xD 8 mac).stream n = s.stream n := State.stream_congr (by rw [hmedia]) n
      rw [hsame]
      exact ⟨rfl, rfl⟩
    · have hr : k ∉ reportKeys := fun h => absurd hk ((by decide : ∀ k ∈ reportKeys, k / 65536 ≠ 0x39) k h)
      rw [State.get_raise _ _ _ _ hr, State.get_bump_ne _ (by omega)]

theorem SearchOnly.numbered (n : Nat) (s : State) (q : Nat) : SearchOnly n s (s.setStream n { s.stream n with avtpSeq := q }) := by
  refine ⟨State.streams_setStream _ _ _, fun hn => ?_, fun k _ => State.get_setStream _ _ _ _⟩
  rw [State.stream_setStream hn]
  exact ⟨rfl, rfl⟩

theorem SearchOnly.sendPackets (n time : Nat) (l : List Bytes) (s : State) : SearchOnly n s (sendPackets n time l s) := by
  induction l generalizing s with
  | nil => exact .refl n s
  | cons p ps ih =>
    have hone : ∀ (c : Prop) [Decidable c] (u : State) (mac seq : Nat) (frame : Bytes), SearchOnly n u (if c then u.avtpOn n mac seq frame else u) := by
      intro c _ u mac seq frame
      split
      · exact .avtpOn _ _ _ _ _ _
      · exact .refl n u
    unfold Machine.sendPackets
    dsimp only
    exact .trans (.trans (.trans (SearchOnly.numbered n s _) (hone _ _ 0 _ _)) (hone _ _ 1 _ _)) (ih _)

/-- A coded picture is the stream's reference. -/
theorem State.codePicture_reference {core : Core} {pic : Picture} {again : Bool} (hn : n < 24) (hlen : n < s.media.codec.streams.length)
    (hsrc : s.nextSource n = some (pic, again)) (hfits : core.fits pic = true) : ((s.codePicture n core).stream n).reference = some pic
      ∧ ((s.codePicture n core).stream n).lastSeq = some pic.seq ∧ ((s.codePicture n core).stream n).first = false
      ∧ (s.codePicture n core).get (streamK n 0x10) = 2 := by
  obtain ⟨a, c, count, bits, time, cut, sent, ha, href, hlast, hfirst, hrun⟩ := State.codePicture_ends hsrc hfits
  generalize hb : State.put _ (streamK n 0x10) 2 = b at hrun
  have hget : b.get (streamK n 0x10) = 2 := by
    rw [← hb]
    exact State.get_put_stream _ hn (.inr rfl) (by decide)
  have hstreams : b.media.codec.streams = (a.setStream n c).media.codec.streams := by
    rw [← hb]
    split <;> rfl
  have hstream : b.stream n = c := (State.stream_congr hstreams n).trans (State.stream_setStream (by omega) c)
  obtain ⟨-, hkept, hobjs⟩ := (SearchOnly.sendPackets n time (sent.flatMap nalPayloads) b).trans (.requestMotion n _)
  obtain ⟨href', hcourse⟩ := hkept (by rw [hstreams, State.streams_setStream]; omega)
  rw [hstream] at href' hcourse
  rw [hrun]
  exact ⟨href'.trans href, (congrArg Stream.lastSeq hcourse :).trans hlast, (congrArg Stream.first hcourse :).trans hfirst,
    (hobjs _ (by unfold streamK keyOf; omega)).trans hget⟩

/-! ### Seals (R254, R255, R271) -/

/-- The record that a seal is taken over. -/
def Stream.record (c : Stream) (head : Bytes) : Bytes := head ++ (if bitOf (byteAt head 3) 1 then List.replicate 32 0 else c.prevChain)

/-- The seal of a record. -/
def sealOf (record : Bytes) : Bytes := record ++ (List.range 64).map (Config.signature (sha256 record))

theorem State.makeSeal_sealed (hlen : n < s.media.codec.streams.length) {head : Bytes} {ended : Nat} {rest : List (Bytes × Nat)}
    (h : (s.stream n).unsealed = (head, ended) :: rest) (flush : Bool) :
    (s.makeSeal n flush).dom (sealK n 1) = sealOf ((s.stream n).record head)
      ∧ (s.makeSeal n flush).stream n = { s.stream n with
          unsealed := rest, prevChain := sha256 ((s.stream n).record head),
          sealInBand := (s.stream n).sealInBand ++ [sealOf ((s.stream n).record head)] } := by
  unfold State.makeSeal
  extract_lets st
  rw [show st.unsealed = (head, ended) :: rest from h]
  dsimp -zeta only
  extract_lets prev record value sealed segment s1 ms s2 s3 s4
  have hreported : Reported s3 (if rest.all (fun u => decide (s4.now < u.2 + 20000000)) then s4.settle 6 3 n else s4) :=
    .trans (Reported.beaconAdd s3 _ _ _ _) (.ite (Reported.settle s4 6 3 n) (.refl s4))
  refine ⟨?_, ?_⟩
  · rw [State.dom_congr (hreported.field_of (field := fun s : State => s.doms) fun _ => rfl)]
    exact State.dom_putDom_self s (sealK n 1) sealed
  · rw [State.stream_congr (hreported.field_of (field := fun s : State => s.media.codec.streams) fun _ => rfl)]
    exact State.stream_setStream (s := s2) hlen _

/-- What waits after a seal is lost: nothing of its chain; and whether the chain is still open. -/
def Stream.unchained (c : Stream) (chain : Nat) : Stream :=
  { c with unsealed := c.unsealed.filter (fun u => fieldLE u.1 16 4 != chain), open_ := c.open_ && c.chainId != chain }

theorem State.dom_newChain (s : State) (n k : Nat) : (s.newChain n).dom k = s.dom k := by
  refine State.dom_congr ?_ k
  rw [State.newChain_eq]
  have hend : (s.endSegment n 0).doms = s.doms := by
    unfold State.endSegment
    dsimp only
    split <;> rfl
  split <;> exact hend

/-- A seal that is lost: its chain's segments no longer wait, and the stream of that chain begins anew. -/
theorem State.loseSeal_lost (hn : n < 24) (hlen : n < s.media.codec.streams.length) {head : Bytes} {ended : Nat} {rest : List (Bytes × Nat)}
    (h : (s.stream n).unsealed = (head, ended) :: rest) :
    ((s.loseSeal n).stream n).unsealed = rest.filter (fun u => fieldLE u.1 16 4 != fieldLE head 16 4)
      ∧ ((s.loseSeal n).stream n).course = (s.stream n).course ∧ (s.loseSeal n).dom (sealK n 1) = s.dom (sealK n 1)
      ∧ ((s.stream n).chainId = fieldLE head 16 4 → s.streamOn n = true → ((s.loseSeal n).stream n).reference = none) := by
  have hrest : ((s.stream n).unchained (fieldLE head 16 4)).unsealed = rest.filter (fun u => fieldLE u.1 16 4 != fieldLE head 16 4) := by
    simp [Stream.unchained, h]
  generalize hc : (s.stream n).unchained (fieldLE head 16 4) = c at hrest
  obtain ⟨a, ha, hrun⟩ : ∃ a, Reported (s.setStream n c) a ∧ s.loseSeal n = if (s.stream n).chainId = fieldLE head 16 4 ∧ a.streamOn n
      then (a.setStream n { a.stream n with segData := [], segPictures := 0, segMissing := 0, segRepeats := 0, segCapped := false }).newChain n
      else a := by
    unfold State.loseSeal
    dsimp only
    rw [h]
    refine ⟨if (c.unsealed.all fun u => decide (s.now < u.2 + 20000000)) then (s.setStream n c).settle 6 3 n else s.setStream n c,
      .ite (Reported.settle _ _ _ _) (.refl _), ?_⟩
    rw [← hc, Stream.unchained, h]
    rfl
  have hstream : a.stream n = c :=
    (State.stream_congr (ha.field_of (field := fun s : State => s.media.codec.streams) fun _ => rfl) n).trans (State.stream_setStream hlen c)
  have hstreams : a.media.codec.streams.length = s.media.codec.streams.length := by
    rw [ha.field_of (field := fun s : State => s.media.codec.streams) fun _ => rfl, State.streams_setStream]
  have hdom : a.dom (sealK n 1) = s.dom (sealK n 1) := State.dom_congr (ha.field_of (field := fun s : State => s.doms) fun _ => rfl) _
  have hcourse : c.course = (s.stream n).course := by rw [← hc]; rfl
  rw [hrun]
  split
  next hon =>
    let b := a.setStream n { a.stream n with segData := [], segPictures := 0, segMissing := 0, segRepeats := 0, segCapped := false }
    have hb : b.stream n = { c with segData := [], segPictures := 0, segMissing := 0, segRepeats := 0, segCapped := false } := by
      rw [← hstream]
      exact State.stream_setStream (by omega) _
    have hclosed : b.endSegment n 0 = b := State.endSegment_of_closed (by
      rw [hb, ← hc]
      simp [Stream.unchained, hon.1])
    obtain ⟨href, hcourse', hunsealed⟩ := State.newChain_stream (s := b) (n := n) (by rw [State.streams_setStream]; omega)
    rw [hclosed, hb] at hunsealed
    rw [hb] at hcourse'
    exact ⟨hunsealed.trans hrest, hcourse'.trans hcourse, (State.dom_newChain b n _).trans hdom, fun _ _ => href⟩
  next hoff =>
    have hon : a.streamOn n = s.streamOn n := by
      rw [State.streamOn, ha.2 _ (by simp [notReport, streamK_not_report n 1 hn]), State.get_setStream, State.streamOn]
    rw [hstream]
    exact ⟨hrest, hcourse, hdom, fun hchain h => absurd ⟨hchain, hon.trans h⟩ hoff⟩

/-! ### Cores taken out of use (R266) -/

theorem State.endSegment_cores (s : State) (n flags : Nat) : (s.endSegment n flags).media.codec.encCores = s.media.codec.encCores := by
  unfold State.endSegment
  dsimp only
  split <;> rfl

theorem State.newChain_cores (s : State) (n : Nat) : (s.newChain n).media.codec.encCores = s.media.codec.encCores := by
  rw [State.newChain_eq]
  split <;> exact s.endSegment_cores n 0

/-- A core that a stream is placed on is in use. -/
theorem State.encoderFor_up {load : Nat × Nat} {c : Nat} (h : s.encoderFor load = some c) : nth s.media.codec.encCores c false = true := by
  have hroom : ∀ c : Nat, (nth s.media.codec.encCores c false && ratioLe (addRatio (s.coreLoad c) load) 500000000) = true →
      nth s.media.codec.encCores c false = true := fun c h => (Bool.and_eq_true_iff.1 h).1
  unfold State.encoderFor at h
  dsimp only at h
  split at h
  next h0 h1 =>
    split at h
    · exact Option.some.inj h ▸ hroom 1 h1
    · exact Option.some.inj h ▸ hroom 0 h0
  next h0 h1 => exact Option.some.inj h ▸ hroom 0 h0
  next h0 h1 => exact Option.some.inj h ▸ hroom 1 h1
  next => cases h

/-- A stream does not run on a core. -/
def State.streamOff (s : State) (core m : Nat) : Prop := (s.stream m).suspended = true ∨ (s.stream m).core ≠ core

theorem State.streamOff_congr {core m : Nat} (h : (u.stream m).course = (s.stream m).course) : u.streamOff core m ↔ s.streamOff core m := by
  have hcore : (u.stream m).core = (s.stream m).core := (congrArg Stream.core h :)
  have hsuspended : (u.stream m).suspended = (s.stream m).suspended := (congrArg Stream.suspended h :)
  rw [State.streamOff, State.streamOff, hcore, hsuspended]

/-- A stream that moves runs on no core out of use; the others stay, and so do the cores. -/
theorem State.moveStream_off {core : Nat} (hcore : nth s.media.codec.encCores core false = false) (hlen : n < s.media.codec.streams.length) :
    (s.moveStream n).media.codec.encCores = s.media.codec.encCores
      ∧ (s.moveStream n).media.codec.streams.length = s.media.codec.streams.length
      ∧ (s.moveStream n).streamOff core n ∧ ∀ m, m ≠ n → (s.moveStream n).stream m = s.stream m := by
  have hlen' : n < (s.endSegment n 0).media.codec.streams.length := by rw [State.endSegment_streams]; exact hlen
  let a := (s.endSegment n 0).setStream n { (s.endSegment n 0).stream n with suspended := true }
  have ha : a.stream n = { (s.endSegment n 0).stream n with suspended := true } := State.stream_setStream hlen' _
  have hacores : a.media.codec.encCores = s.media.codec.encCores := s.endSegment_cores n 0
  have halen : a.media.codec.streams.length = s.media.codec.streams.length :=
    (State.streams_setStream _ _ _).trans (s.endSegment_streams n 0)
  have haother : ∀ m, m ≠ n → a.stream m = s.stream m := fun m hm => (State.stream_setStream_ne _ hm _).trans (s.endSegment_stream_ne hm 0)
  have hrun : s.moveStream n = match a.encoderFor (s.streamLoad n) with
    | some c => (a.setStream n { a.stream n with suspended := false, core := c }).newChain n
    | none => (a.put (streamK n 0x10) 4).raise 6 2 n := rfl
  rw [hrun]
  split
  next c hc =>
    have hup : nth s.media.codec.encCores c false = true := by
      rw [← hacores]
      exact State.encoderFor_up hc
    have hb : n < (a.setStream n { a.stream n with suspended := false, core := c }).media.codec.streams.length := by
      rw [State.streams_setStream]
      omega
    refine ⟨(State.newChain_cores _ _).trans hacores, ?_, ?_, fun m hm => ?_⟩
    · rw [State.newChain_streams, State.streams_setStream, halen]
    · rw [State.streamOff_congr (State.newChain_stream hb).2.1, State.streamOff, State.stream_setStream (by omega)]
      refine .inr fun he => ?_
      rw [show c = core from he, hcore] at hup
      cases hup
    · rw [State.newChain_stream_ne _ hm, State.stream_setStream_ne _ hm, haother m hm]
  next =>
    have hmedia : ((a.put (streamK n 0x10) 4).raise 6 2 n).media = a.media := by rw [State.raise_media, State.put_media]
    refine ⟨by rw [hmedia, hacores], by rw [hmedia, halen], .inl ?_, fun m hm => ?_⟩
    · rw [State.stream_congr (s := a) (by rw [hmedia]), ha]
    · rw [State.stream_congr (s := a) (by rw [hmedia]), haother m hm]

/-- Streams that move leave a core out of use. -/
theorem State.moveStreams_off {core : Nat} (l : List Nat) (hcore : nth s.media.codec.encCores core false = false)
    (hlen : ∀ m ∈ l, m < s.media.codec.streams.length) :
    (l.foldl State.moveStream s).media.codec.encCores = s.media.codec.encCores
      ∧ ∀ m, m ∈ l ∨ s.streamOff core m → (l.foldl State.moveStream s).streamOff core m := by
  induction l generalizing s with
  | nil => exact ⟨rfl, fun m h => h.resolve_left (by simp)⟩
  | cons n l ih =>
    obtain ⟨hcores, hstreams, hoff, hother⟩ := State.moveStream_off hcore (hlen n (by simp))
    obtain ⟨hcores', hall⟩ := ih (s := s.moveStream n) (by rw [hcores]; exact hcore)
      (fun m hm => by rw [hstreams]; exact hlen m (by simp [hm]))
    refine ⟨hcores'.trans hcores, fun m hm => hall m ?_⟩
    by_cases he : m = n
    · exact .inr (he ▸ hoff)
    · rcases hm with hm | hm
      · exact .inl ((List.mem_cons.1 hm).resolve_left he)
      · exact .inr (by rw [State.streamOff, hother m he]; exact hm)

theorem State.mem_streamOrder (s : State) {l : List Nat} {m : Nat} (h : m ∈ l) : m ∈ s.streamOrder l := by
  unfold State.streamOrder
  cases hk : s.get (streamK m 2) == 1 <;> simp_all

/-- A core that is in use is one of the list. -/
theorem lt_of_nth_true {l : List Bool} {i : Nat} (h : nth l i false = true) : i < l.length := by
  by_contra hn
  rw [nth, List.getElem?_eq_none (by omega)] at h
  cases h

/-- A core is out of use, and no stream that ran on it runs there. -/
theorem State.failEncoder_off {core : Nat} (hup : nth s.media.codec.encCores core false = true)
    (hlen : s.media.codec.streams.length = 24) : nth (s.failEncoder core).media.codec.encCores core false = false
      ∧ ∀ m, m < 24 → s.running m = true → (s.stream m).core = core → (s.failEncoder core).streamOff core m := by
  let cores := setNth s.media.codec.encCores core false
  let a : State := { s with media := { s.media with codec := { s.media.codec with encCores := cores } } }
  let b := a.raiseCore 6 1 core (if cores.any id then .degraded else .failed)
  let hit := (List.range 24).filter fun n => s.running n && (s.stream n).core == core
  have hrun : s.failEncoder core = ((b.streamOrder hit).foldl State.moveStream b).encoderObjects := if_neg (by rw [hup]; decide)
  have hmedia : b.media = a.media := State.raiseCore_media _ _ _ _ _
  have hout : nth b.media.codec.encCores core false = false := by
    rw [hmedia]
    exact nth_setNth_self (lt_of_nth_true hup) _ _
  have hmem : ∀ m ∈ b.streamOrder hit, m < b.media.codec.streams.length := by
    intro m hm
    have hhit : m ∈ hit := by
      rcases List.mem_append.1 hm with hm | hm
      · exact List.mem_of_mem_filter hm
      · exact List.mem_of_mem_filter hm
    rw [hmedia]
    exact (List.mem_range.1 (List.mem_of_mem_filter hhit)).trans_le hlen.ge
  obtain ⟨hcores, hoff⟩ := State.moveStreams_off (b.streamOrder hit) hout hmem
  have hview : (s.failEncoder core).media = ((b.streamOrder hit).foldl State.moveStream b).media := by
    rw [hrun, State.encoderObjects_media]
  refine ⟨by rw [hview, hcores]; exact hout, fun m hm hruns hcore => ?_⟩
  have hin : m ∈ hit := List.mem_filter.2 ⟨List.mem_range.2 hm, by rw [hruns, hcore]; simp⟩
  rw [State.streamOff, State.stream_congr (s := (b.streamOrder hit).foldl State.moveStream b) (by rw [hview])]
  exact hoff m (.inl (b.mem_streamOrder hin))

end Streams

/-! ### Commands -/

section Commands

variable {s : State} {t n : Nat} {q : Path}

theorem State.effect_stream (s : State) (hn : n < 24) (v : Nat) (x : Given) :
    s.effect (streamK n 1) v x = if v = 1 then s.enableStream n else s.disableStream n := by
  have hi : streamK n 1 / 256 = 0x3910 + n := by unfold streamK keyOf; omega
  have hs : streamK n 1 % 256 = 1 := by unfold streamK keyOf; omega
  have ht : streamK n 1 / 65536 = 0x39 := by unfold streamK keyOf; omega
  unfold State.effect
  dsimp only
  rw [hi, hs, ht, if_neg (by omega), if_neg (by omega), if_pos (by omega), Nat.add_sub_cancel_left]

theorem State.stream_finish (s : State) (t : Nat) (f : State → State) (n : Nat) : (s.finish t f).stream n = (f (s.begin t)).stream n :=
  State.stream_congr (by rw [State.finish_media]) n

theorem State.stream_heard (s : State) (q : Path) (n : Nat) : (s.heard q).stream n = s.stream n := State.stream_congr (by rw [State.heard_media]) n

theorem State.usable_heard (s : State) (q : Path) (fn : Nat) : (s.heard q).usable fn = s.usable fn :=
  State.usable_congr (State.heard_stages _ _) (State.heard_power _ _) fn

theorem answers_streamEnable (hn : n < 24) (hlen : n < s.media.codec.streams.length) (hq : (s.begin t).hears q = true)
    (husable : s.usable 6 = true) (h : ((s.begin t).heard q).takesValue (streamK n 1) [1] = true) (hoff : s.streamOn n = false)
    (hstate : s.get (streamK n 0x10) = 0) :
    Answers (exec (.streamEnable t q n) s) fun s' => s'.answered q 0 [] ∧ s'.streamOn n = true ∧ s'.get (streamK n 0x10) = 1
      ∧ (s'.stream n).first = true ∧ (s'.stream n).lastSeq = none ∧ (s'.stream n).reference = none := by
  obtain ⟨hrun, hanswered⟩ := finish_effect (immediate_streamEnable n hn).1 hq h ((State.effect_stream _ hn _ _).trans (if_pos rfl))
  obtain ⟨hon, hnew, hfirst, hlast, href⟩ := State.enableStream_starts (s := (s.begin t).heard q) hn (by rw [State.heard_media]; exact hlen)
    (by rw [State.usable_heard]; exact husable) (by rw [State.streamOn, State.get_heard]; exact hoff) (by rw [State.get_heard]; exact hstate)
  have hkey : ∀ sub, sub < 256 → streamK n sub ≠ 0x204005 ∧ streamK n sub ≠ 0x201005 := fun sub hs => by unfold streamK keyOf; omega
  have hget : ∀ sub < 256, (s.finish t fun s => s.access q (streamK n 1) [1]).get (streamK n sub)
      = (((s.begin t).heard q).enableStream n).get (streamK n sub) := fun sub hs => State.finish_taken_get hrun (hkey sub hs)
  have hstream : (s.finish t fun s => s.access q (streamK n 1) [1]).stream n = (((s.begin t).heard q).enableStream n).stream n := by
    rw [State.stream_finish, hrun]
    exact State.stream_congr (by rw [State.reply_media]) n
  rw [exec_streamEnable]
  refine answers_actIf (decide_eq_true hn) ⟨hanswered, ?_, ?_, ?_⟩
  · rw [State.streamOn, hget 1 (by decide)]
    exact hon
  · rw [hget _ (by decide)]
    exact hnew
  · rw [hstream]
    exact ⟨hfirst, hlast, href⟩

theorem answers_streamDisable (hn : n < 24) (hlen : n < s.media.codec.streams.length) (hq : (s.begin t).hears q = true)
    (husable : s.usable 6 = true) (h : ((s.begin t).heard q).takesValue (streamK n 1) [0] = true) (hon : s.streamOn n = true)
    (hstate : s.get (streamK n 0x10) = 2) :
    Answers (exec (.streamDisable t q n) s) fun s' => s'.answered q 0 [] ∧ s'.streamOn n = false
      ∧ (s.get (streamK n 2) ≠ 1 → s'.get (streamK n 0x10) = 0)
      ∧ (s.get (streamK n 2) = 1 → (s.stream n).open_ = true → s'.get (streamK n 0x10) = 3 ∧ (s'.stream n).open_ = false
          ∧ (s'.stream n).closing = true ∧ (s'.stream n).unsealed.length = (s.stream n).unsealed.length + 1) := by
  let a := ((s.begin t).heard q).put (streamK n 1) 0
  have hstop := State.disableStream_stops (s := (s.begin t).heard q) hn (by rw [State.usable_heard]; exact husable)
    (by rw [State.streamOn, State.get_heard]; exact hon) (by rw [State.get_heard]; exact hstate)
  obtain ⟨hrun, hanswered⟩ := finish_effect (u := (a.stopStream n).encoderObjects.idleSlopes) (immediate_streamEnable n hn).1 hq h
    (((State.effect_stream _ hn _ _).trans (if_neg (by decide))).trans hstop)
  have hkey : ∀ sub, sub < 256 → streamK n sub ≠ 0x204005 ∧ streamK n sub ≠ 0x201005 := fun sub hs => by unfold streamK keyOf; omega
  have hget : ∀ sub < 256, (s.finish t fun s => s.access q (streamK n 1) [0]).get (streamK n sub)
      = (a.stopStream n).get (streamK n sub) := fun sub hs =>
    (State.finish_taken_get hrun (hkey sub hs)).trans (State.get_encoderView _ hn hs)
  have hstream : (s.finish t fun s => s.access q (streamK n 1) [0]).stream n = (a.stopStream n).stream n := by
    rw [State.stream_finish, hrun]
    exact (State.stream_congr (by rw [State.reply_media]) n).trans (State.encoderView_stream _ _)
  have hastream : a.stream n = s.stream n := State.stream_heard (s.begin t) q n
  have hoff : a.get (streamK n 1) = 0 := State.get_put_stream _ hn (.inl rfl) (by decide)
  have hmode : a.get (streamK n 2) = s.get (streamK n 2) :=
    (State.get_put_ne _ (streamK_inj (by decide)) 0).trans (State.get_heard (s.begin t) q _)
  have hend : (a.stopStream n).get (streamK n 1) = a.get (streamK n 1) := by
    unfold State.stopStream
    dsimp only
    split
    · exact (State.get_put_ne _ (streamK_inj (by decide)) _).trans (State.get_endSegment _ _ _ _)
    · exact State.get_put_ne _ (streamK_inj (by decide)) _
  rw [exec_streamDisable]
  refine answers_actIf (decide_eq_true hn) ⟨hanswered, ?_, fun hplain => ?_, fun hevidence ho => ?_⟩
  · rw [State.streamOn, hget 1 (by decide), hend, hoff]
    rfl
  · rw [hget _ (by decide)]
    exact (State.stopStream_plain hn (by rw [hmode]; exact hplain)).1
  · obtain ⟨hclosing, -, hopen, hcloses, hlength⟩ := State.stopStream_closing (s := a) hn
      (by rw [show a.media = s.media from State.heard_media (s.begin t) q]; exact hlen) (by rw [hmode]; exact hevidence) (by rw [hastream]; exact ho)
    rw [hastream] at hlength
    rw [hget _ (by decide), hstream]
    exact ⟨hclosing, hopen, hcloses, hlength⟩

theorem State.get_finish_stream (s : State) (t : Nat) (f : State → State) {n sub : Nat} (hs : sub < 256) :
    (s.finish t f).get (streamK n sub) = (f (s.begin t)).get (streamK n sub) :=
  State.get_finish _ _ _ (by unfold streamK keyOf; omega) (by unfold streamK keyOf; omega)

theorem answers_pictureCode {header : Nat} {ctus : List Nat} {slice : Bytes} {pic : Picture} {again : Bool} (hn : n < 24)
    (hlen : n < s.media.codec.streams.length) (husable : s.usable 6 = true) (hruns : s.running n = true) (hstandby : s.standby = false)
    (hsrc : s.nextSource n = some (pic, again)) (hfits : ({ header, ctus, slice } : Core).fits pic = true) :
    Answers (exec (.pictureCode t n header ctus slice) s) fun s' => (s'.stream n).reference = some pic
      ∧ (s'.stream n).lastSeq = some pic.seq ∧ (s'.stream n).first = false ∧ s'.get (streamK n 0x10) = 2 := by
  obtain ⟨href, hlast, hfirst, hstate⟩ := State.codePicture_reference (s := s.begin t) hn hlen hsrc hfits
  have hgo : ((s.begin t).usable 6 && (s.begin t).running n && !(s.begin t).standby) = true := by
    rw [show (s.begin t).usable 6 = true from husable, show (s.begin t).running n = true from hruns, show (s.begin t).standby = false from hstandby]
    rfl
  rw [exec_pictureCode]
  refine answers_actIf (decide_eq_true hn) ?_
  rw [State.stream_finish, State.get_finish_stream _ _ _ (by decide), if_pos hgo]
  exact ⟨href, hlast, hfirst, hstate⟩

/-- A seal that is made or lost, where the stream is not closing. -/
theorem answers_sealMake {P : State → Prop} {ok : Bool} {u : State} (hn : n < 24) (hclosing : (s.stream n).closing = false)
    (hu : (if ok then (s.begin t).makeSeal n false else (s.begin t).loseSeal n) = u) (hcourse : (u.stream n).course = (s.stream n).course)
    (h : ∀ s' : State, s'.stream n = u.stream n → s'.dom (sealK n 1) = u.dom (sealK n 1) → P s') :
    Answers (exec (.sealMake t ⟨n, ok⟩) s) P := by
  have hstill : (u.stream n).closing = false := (congrArg Stream.closing hcourse :).trans hclosing
  rw [exec_sealMake]
  refine answers_actIf (decide_eq_true hn) (h _ ?_ ?_)
  · rw [State.stream_finish]
    dsimp only
    rw [hu, if_neg (by rw [hstill]; simp)]
  · rw [State.dom_finish]
    dsimp only
    rw [hu, if_neg (by rw [hstill]; simp)]

theorem answers_sealDeadline (hn : n < 24) {u : Bytes × Nat} (hu : u ∈ (s.stream n).unsealed) (hlate : u.2 + 20000000 ≤ max s.now t) :
    Answers (exec (.sealDeadline t n) s) fun s' => s'.stands 6 3 n = true := by
  have hany : (((s.begin t).stream n).unsealed.any fun u => decide (u.2 + 20000000 ≤ (s.begin t).now)) = true :=
    List.any_eq_true.2 ⟨u, hu, decide_eq_true hlate⟩
  rw [exec_sealDeadline]
  refine answers_actIf (decide_eq_true hn) ?_
  rw [State.stands_finish, if_pos hany]
  exact State.stands_onset_self _ _ _ _

theorem answers_encoderCoreFail {core : Nat} (hc : core < 2) (hlen : s.media.codec.streams.length = 24)
    (hup : nth s.media.codec.encCores core false = true) :
    Answers (exec (.encoderCoreFail t core) s) fun s' => nth s'.media.codec.encCores core false = false
      ∧ ∀ m, m < 24 → s.running m = true → (s.stream m).core = core → (s'.stream m).suspended = true ∨ (s'.stream m).core ≠ core := by
  obtain ⟨hout, hoff⟩ := State.failEncoder_off (s := s.begin t) hup hlen
  rw [exec_encoderCoreFail]
  refine answers_actIf (decide_eq_true hc) ⟨by rw [State.finish_media]; exact hout, fun m hm hruns hcore => ?_⟩
  rw [State.stream_finish]
  exact hoff m hm hruns hcore

end Commands

/-- Settles O40: enables and disables, the picture, the seals, the core. -/
theorem streamsAreCodedAndSealed : Obligations.StreamsAreCodedAndSealed := by
  intro s t n hn hstreams
  have hlen : n < s.media.codec.streams.length := by omega
  refine ⟨fun q hq husable => ⟨answers_streamEnable hn hlen hq husable, answers_streamDisable hn hlen hq husable⟩,
    fun header ctus slice pic again husable hruns hstandby hsrc hfits => answers_pictureCode hn hlen husable hruns hstandby hsrc hfits,
    fun head ended rest hwaits hclosing => ⟨?_, ?_⟩, fun u hu hlate => answers_sealDeadline hn hu hlate,
    fun core hc hup => answers_encoderCoreFail hc hstreams hup⟩
  · obtain ⟨hdom, hstream⟩ := State.makeSeal_sealed (s := s.begin t) hlen hwaits false
    refine answers_sealMake hn hclosing rfl (by rw [if_pos rfl, hstream]; rfl) fun s' hs' hd => ?_
    rw [hd, hs', if_pos rfl, hdom, hstream]
    exact ⟨rfl, rfl, rfl, rfl⟩
  · obtain ⟨hrest, hcourse, hdom, href⟩ := State.loseSeal_lost (s := s.begin t) hn hlen hwaits
    refine answers_sealMake hn hclosing rfl (by rw [if_neg (by decide)]; exact hcourse) fun s' hs' hd => ?_
    rw [hd, hs', if_neg (by decide)]
    exact ⟨hrest, hdom, href⟩

end Sys2Proof.Machine
end

section
set_option Elab.async false
/-!
PROOFS. Slots of the decoder: enables and their room, packets, pictures, starved slots, cores taken out of use (R260 to R262, R266, R372; O41).
-/

namespace Sys2Proof.Machine

/-! ### Keys -/

theorem immediate_slotEnable : ∀ k < 32, immediate (slotK k 1) = true ∧ widthOf (slotK k 1) = 8 ∧ widthOf (slotK k 8) = 8
    ∧ widthOf (slotK k 9) = 32 ∧ widthOf (slotK k 0x0C) = 32 := by
  decide +kernel

theorem slotK_not_report (k sub : Nat) (hk : k < 32) (hs : sub < 256) : slotK k sub ∉ reportKeys := by
  have hlo : 0x3A1000 ≤ slotK k sub ∧ slotK k sub < 0x3A3000 := by unfold slotK keyOf; omega
  intro h
  exact absurd hlo ((by decide : ∀ k ∈ reportKeys, ¬ (0x3A1000 ≤ k ∧ k < 0x3A3000)) _ h)

theorem slotK_inj {k sub sub' : Nat} (h : sub ≠ sub') : slotK k sub ≠ slotK k sub' := by unfold slotK keyOf; omega

/-! ### Writes and the room that they need (R260) -/

section Room

variable {s : State} {p : Path} {k : Nat} {data : Bytes} {x : Given}

/-- A taken value whose buffers do not fit is turned away, and changes nothing. -/
theorem State.access_lacking (hp : s.hears p = true) (h : (s.heard p).takesValue k data = true)
    (hx : (s.heard p).roomLacks k (leNat data) x = true) : s.access p k data (x := x) = (s.heard p).reply p none k 0x08000022 := by
  unfold State.takesValue at h
  split at h
  next o ho =>
    simp only [Bool.and_eq_true, beq_iff_eq, bne_iff_ne] at h
    obtain ⟨hgate, hdom, -⟩ := h
    rw [State.access, State.hear_of_hears hp]
    simp [State.hostWrite, State.writeObject, hgate, ho, hdom, hx]
  next => simp at h

/-- A taken value whose buffers fit, or which needs none, has its effect and is acknowledged. -/
theorem State.access_roomy (hi : immediate k = true) (hp : s.hears p = true) (h : (s.heard p).takesValue k data = true)
    (hx : (s.heard p).roomLacks k (leNat data) x = false) : s.access p k data (x := x) = ((s.heard p).effect k (leNat data) x).reply p none k 0 := by
  unfold State.takesValue at h
  split at h
  next o ho =>
    simp only [Bool.and_eq_true, beq_iff_eq, bne_iff_ne] at h
    obtain ⟨hgate, hdom, hcode⟩ := h
    have hset : (s.heard p).setScalar k (leNat data) o.acc x = (s.heard p).effect k (leNat data) x := by
      rcases immediate_cases hi ho with ha | ha
      all_goals rw [ha]; rfl
    rw [State.access, State.hear_of_hears hp]
    simp [State.hostWrite, State.writeObject, hgate, ho, hdom, hx, hcode, hset]
  next => simp at h

end Room

/-! ### Slots (R260, R261) -/

section Slots

variable {s : State} {k : Nat}

theorem State.slot_setSlot (h : k < s.media.codec.slots.length) (c : Slot) : (s.setSlot k c).slot k = c := nth_setNth_self h c {}

theorem State.slot_setSlot_ne (s : State) {m k : Nat} (h : m ≠ k) (c : Slot) : (s.setSlot k c).slot m = s.slot m := nth_setNth_ne _ h _ _

theorem State.slots_setSlot (s : State) (k : Nat) (c : Slot) : (s.setSlot k c).media.codec.slots.length = s.media.codec.slots.length :=
  List.length_set

theorem State.slot_congr {s u : State} (h : u.media.codec.slots = s.media.codec.slots) (k : Nat) : u.slot k = s.slot k := by
  rw [State.slot, State.slot, h]

theorem State.raise_slot (s : State) (fn cause item m : Nat) : (s.raise fn cause item).slot m = s.slot m :=
  State.slot_congr (by rw [State.raise_media]) m

theorem State.onset_slot (s : State) (fn cause item m : Nat) : (s.onset fn cause item).slot m = s.slot m :=
  State.slot_congr (by rw [State.onset_media]) m

theorem State.put_slot (s : State) (j v m : Nat) : (s.put j v).slot m = s.slot m := rfl

theorem State.get_setSlot (s : State) (k : Nat) (c : Slot) (j : Nat) : (s.setSlot k c).get j = s.get j := State.get_congr rfl j

theorem State.get_put_slot (s : State) {k sub v : Nat} (hk : k < 32) (hsub : sub = 1 ∨ sub = 8) (hv : v < 256) :
    (s.put (slotK k sub) v).get (slotK k sub) = v := by
  obtain ⟨-, hon, hstate, -⟩ := immediate_slotEnable k hk
  rw [State.get_put_self]
  refine Nat.mod_eq_of_lt ?_
  rcases hsub with rfl | rfl
  · rw [hon]
    omega
  · rw [hstate]
    omega

theorem State.decoderObjects_media (s : State) : s.decoderObjects.media = s.media := by
  rw [State.decoderObjects, State.put_media, State.put_media]

theorem State.decoderObjects_slot (s : State) (m : Nat) : s.decoderObjects.slot m = s.slot m :=
  State.slot_congr (by rw [State.decoderObjects_media]) m

theorem State.get_decoderObjects (s : State) {j : Nat} (h1 : j ≠ 0x3A0001) (h3 : j ≠ 0x3A0003) : s.decoderObjects.get j = s.get j := by
  rw [State.decoderObjects, State.get_put_ne _ h3, State.get_put_ne _ h1]

theorem State.get_decoderView (s : State) {k sub : Nat} (hk : k < 32) (hs : sub < 256) :
    s.decoderObjects.get (slotK k sub) = s.get (slotK k sub) := by
  have hlo : 0x3A1000 ≤ slotK k sub ∧ slotK k sub < 0x3A3000 := by unfold slotK keyOf; omega
  exact State.get_decoderObjects _ (by omega) (by omega)

/-- A slot that is enabled while its function is usable awaits its stream. -/
theorem State.enableSlot_awaits (hk : k < 32) (hlen : k < s.media.codec.slots.length) (husable : s.usable 7 = true)
    (hoff : s.slotOn k = false) (hstate : s.get (slotK k 8) = 0) : (s.enableSlot k 1).slotOn k = true
      ∧ (s.enableSlot k 1).get (slotK k 8) = 1 ∧ ((s.enableSlot k 1).slot k).enabledAt = s.now := by
  let a := (s.put (slotK k 1) 1).setSlot k { s.slot k with core := (s.decoderFor (s.slotLoad k)).getD 0, suspended := false }
  have hon : a.get (slotK k 1) = 1 := State.get_put_slot s hk (.inl rfl) (by decide)
  have hstill : a.get (slotK k 8) = 0 := (State.get_put_ne s (slotK_inj (by decide)) 1).trans hstate
  have hlen' : k < (a.put (slotK k 8) 1).media.codec.slots.length := by
    rw [State.put_media, State.slots_setSlot]
    exact hlen
  have husable' : a.usable 7 = true := husable
  have hrun : s.enableSlot k 1
      = ((a.put (slotK k 8) 1).setSlot k { core := (a.slot k).core, enabledAt := a.now, lastUnit := a.now }).decoderObjects := by
    unfold State.enableSlot
    rw [if_pos ⟨rfl, by rw [hoff]; rfl⟩]
    refine congrArg State.decoderObjects (?_ : a.settleSlot k = _)
    unfold State.settleSlot
    rw [husable', hstill, State.slotOn, hon]
    rfl
  rw [hrun, State.slotOn, State.get_decoderView _ hk (by decide), State.get_decoderView _ hk (by decide), State.get_setSlot, State.get_setSlot,
    State.get_put_ne _ (slotK_inj (by decide)), hon, State.decoderObjects_slot, State.slot_setSlot hlen']
  exact ⟨rfl, State.get_put_slot _ hk (.inr rfl) (by decide), rfl⟩

/-- A slot that is disabled is as new. -/
theorem State.enableSlot_off (hk : k < 32) (hlen : k < s.media.codec.slots.length) (husable : s.usable 7 = true)
    (hon : s.slotOn k = true) (hstate : s.get (slotK k 8) ≠ 0) : (s.enableSlot k 0).slotOn k = false
      ∧ (s.enableSlot k 0).get (slotK k 8) = 0 ∧ (s.enableSlot k 0).slot k = {} := by
  let a := s.put (slotK k 1) 0
  have hoff : a.get (slotK k 1) = 0 := State.get_put_slot s hk (.inl rfl) (by decide)
  have hstill : a.get (slotK k 8) ≠ 0 := by
    rw [State.get_put_ne s (slotK_inj (by decide)) 0]
    exact hstate
  have husable' : a.usable 7 = true := husable
  have hrun : s.enableSlot k 0 = (((a.put (slotK k 8) 0).setSlot k {}).settle 7 5 k).decoderObjects := by
    unfold State.enableSlot
    rw [if_neg (by simp), if_pos ⟨rfl, hon⟩]
    refine congrArg State.decoderObjects (?_ : a.settleSlot k = _)
    unfold State.settleSlot
    rw [husable', State.slotOn, hoff]
    exact if_neg hstill
  rw [hrun, State.slotOn, State.get_decoderView _ hk (by decide), State.get_decoderView _ hk (by decide),
    State.get_settle _ _ _ _ (slotK_not_report k 1 hk (by decide)), State.get_settle _ _ _ _ (slotK_not_report k 8 hk (by decide)),
    State.get_setSlot, State.get_setSlot, State.get_put_ne _ (slotK_inj (by decide)), hoff,
    State.decoderObjects_slot, State.slot_congr (s := (a.put (slotK k 8) 0).setSlot k {}) (by rw [State.settle_media]),
    State.slot_setSlot (s := a.put (slotK k 8) 0) hlen]
  exact ⟨rfl, State.get_put_slot _ hk (.inr rfl) (by decide), rfl⟩

/-! ### Packets (R372) -/

/-- A packet that is gathered is the newest of its slot. -/
theorem State.gather_last (hlen : k < s.media.codec.slots.length) (sequence timestamp : Nat) (last : Bool) (payload : Bytes) :
    ((s.gather k sequence timestamp last payload).slot k).lastSeqs.getLast? = some sequence := by
  unfold State.gather
  dsimp only
  split
  · rw [State.slot_setSlot hlen]
    simp
  · rw [State.slot_setSlot hlen]
    simp

/-! ### Pictures (R261, R262) -/

theorem getLast_keepPictures (now : Nat) (l : List Picture) (p : Picture) : (keepPictures now (l ++ [p])).getLast? = some p := by
  unfold keepPictures keepRecent
  rw [List.drop_append_of_le_length (by simp)]
  simp

/-- A picture that a slot stores, whose samples go where they may and refer to nothing. -/
theorem State.storePicture_clean (hk : k < 32) (hlen : k < s.media.codec.slots.length) {u : AccessUnit} (hwrites : u.writes = [])
    (hrefs : u.references = []) (hprofile : s.get (slotK k 3) ≠ 3) (time : Nat) (gap : Bool) :
    (s.storePicture k u none time gap).get (slotK k 9) = (s.get (slotK k 9) + 1) % 2 ^ 32 ∧ (s.storePicture k u none time gap).get (slotK k 8) = 2
      ∧ ((s.storePicture k u none time gap).slot k).units = (s.slot k).units ∧ ((s.storePicture k u none time gap).slot k).resync = (s.slot k).resync
      ∧ ∃ pic, ((s.storePicture k u none time gap).slot k).pictures.getLast? = some pic ∧ pic.seq = (s.get (slotK k 9) + 1) % 2 ^ 32
        ∧ pic.time = time ∧ pic.width = u.width ∧ pic.height = u.height := by
  obtain ⟨-, -, hstate, hcount, -⟩ := immediate_slotEnable k hk
  have h9 : ∀ {sub : Nat}, sub ≠ 9 → slotK k 9 ≠ slotK k sub := fun h => slotK_inj h.symm
  have h3 : ∀ {sub : Nat}, sub ≠ 3 → slotK k 3 ≠ slotK k sub := fun h => slotK_inj h.symm
  unfold State.storePicture
  extract_lets st wild damaged known generated concealed dpb fresh s1 seq s2 s3 s4 s5 st2 pic
  have hwild : wild = [] := by
    show u.writes.filter _ = []
    rw [hwrites]
    rfl
  have hconcealed : concealed = false := by
    show u.references.any _ = false
    rw [hrefs]
    rfl
  have hseq : seq = (s.get (slotK k 9) + 1) % 2 ^ 32 :=
    (State.get_bump_ne _ (h9 (by decide)) _).trans (s.get_bump_32 hcount)
  have hplain : s3.get (slotK k 3) = s.get (slotK k 3) ∧ s3.get (slotK k 9) = seq := by
    have h1 : s1.get (slotK k 3) = s.get (slotK k 3) := (State.get_bump_ne _ (h3 (by decide)) _).trans (State.get_bump_ne _ (h3 (by decide)) _)
    have h2 : s2.get (slotK k 3) = s1.get (slotK k 3) ∧ s2.get (slotK k 9) = seq := by
      show State.get (if damaged = true then _ else _) _ = _ ∧ State.get (if damaged = true then _ else _) _ = _
      split
      · exact ⟨State.get_bump_ne _ (h3 (by decide)) _, State.get_bump_ne _ (h9 (by decide)) _⟩
      · exact ⟨rfl, rfl⟩
    show State.get (if concealed = true then _ else _) _ = _ ∧ State.get (if concealed = true then _ else _) _ = _
    rw [hconcealed, if_neg (by decide)]
    exact ⟨h2.1.trans h1, h2.2⟩
  have hs5 : s5 = s4 := if_pos (by rw [hwild]; rfl)
  have hmedia : s5.media = s.media := by
    have h2 : s2.media = s.media := by
      show State.media (if damaged = true then _ else _) = _
      split <;> rfl
    have h3 : s3.media = s.media := by
      show State.media (if concealed = true then _ else _) = _
      rw [hconcealed, if_neg (by decide)]
      exact h2
    rw [hs5]
    exact h3
  have hnormal : s5.get (slotK k 3) ≠ 3 := by
    rw [hs5, State.get_put_ne _ (h3 (by decide)), State.get_put_ne _ (h3 (by decide)), hplain.1]
    exact hprofile
  have hget : s5.get (slotK k 9) = seq ∧ s5.get (slotK k 8) = 2 := by
    rw [hs5]
    refine ⟨?_, ?_⟩
    · rw [State.get_put_ne _ (h9 (by decide)), State.get_put_ne _ (h9 (by decide)), hplain.2]
    · rw [State.get_put_slot _ hk (.inr rfl) (by split <;> decide), hconcealed]
      rfl
  rw [if_neg hnormal, State.get_setSlot, State.get_setSlot, State.slot_setSlot (by rw [hmedia]; exact hlen)]
  exact ⟨hget.1.trans hseq, hget.2, rfl, rfl, pic, getLast_keepPictures _ _ _, hseq, rfl, rfl, rfl⟩

theorem State.storeDepth_slot (s : State) (kind source seq time w h : Nat) (damaged concealed : Bool) (codes : List Nat) (m : Nat) :
    (s.storeDepth kind source seq time w h damaged concealed codes).slot m = s.slot m := State.slot_congr rfl m

/-- A picture that is stored ends no run of overruns. -/
theorem State.storePicture_overruns (hlen : k < s.media.codec.slots.length) (u : AccessUnit) (upTo : Option Nat) (time : Nat) (gap : Bool) :
    (s.storePicture k u upTo time gap).media.codec.slots.length = s.media.codec.slots.length
      ∧ ((s.storePicture k u upTo time gap).slot k).overruns = (s.slot k).overruns := by
  unfold State.storePicture
  extract_lets st wild damaged known generated concealed dpb fresh s1 seq s2 s3 s4 s5 st2 pic
  have hmedia : s5.media = s.media := by
    have h2 : s2.media = s.media := by
      show State.media (if damaged = true then _ else _) = _
      split <;> rfl
    have h3 : s3.media = s.media := by
      show State.media (if concealed = true then _ else _) = _
      split
      · exact h2
      · exact h2
    show State.media (if wild.isEmpty = true then _ else _) = _
    split
    · exact h3
    · rw [State.raise_media]
      exact h3
  have hlen5 : k < s5.media.codec.slots.length := by
    rw [hmedia]
    exact hlen
  split
  · refine ⟨(State.slots_setSlot s5 k st2).trans (by rw [hmedia]), ?_⟩
    rw [State.storeDepth_slot, State.slot_setSlot hlen5]
  · rw [State.slots_setSlot, State.slot_setSlot hlen5, hmedia]
    exact ⟨rfl, rfl⟩

/-- The slot as its next access unit comes to its core. -/
def State.unitTaken (s : State) (k : Nat) (rest : List GatheredUnit) : State :=
  (s.setSlot k { s.slot k with units := rest, lastUnit := s.now, starved := false }).settle 7 5 k

theorem State.unitTaken_slot (hlen : k < s.media.codec.slots.length) (rest : List GatheredUnit) :
    (s.unitTaken k rest).slot k = { s.slot k with units := rest, lastUnit := s.now, starved := false } :=
  (State.slot_congr (by rw [State.unitTaken, State.settle_media]) k).trans (State.slot_setSlot hlen _)

theorem State.unitTaken_slots (s : State) (k : Nat) (rest : List GatheredUnit) :
    (s.unitTaken k rest).media.codec.slots.length = s.media.codec.slots.length := by
  rw [State.unitTaken, State.settle_media, State.slots_setSlot]

theorem State.get_unitTaken (s : State) {k sub : Nat} (hk : k < 32) (hs : sub < 256) (rest : List GatheredUnit) :
    (s.unitTaken k rest).get (slotK k sub) = s.get (slotK k sub) := by
  rw [State.unitTaken, State.get_settle _ _ _ _ (slotK_not_report k sub hk hs), State.get_setSlot]

/-- What becomes of an access unit of a good parameter set. -/
theorem State.decodeUnit_good {unit : GatheredUnit} {rest : List GatheredUnit} (hlen : k < s.media.codec.slots.length)
    (hunits : (s.slot k).units = unit :: rest) {u : AccessUnit} (hbad : s.badSps k u = false) (upTo : Option Nat) :
    s.decodeUnit k u upTo =
      let a := s.unitTaken k rest
      if (s.slot k).resync && !u.irap then (a.put (slotK k 8) 1).bump (slotK k 0x0C)
      else if u.irap then (a.setSlot k { a.slot k with resync := false, rasl := (s.slot k).resync }).storePicture k u upTo unit.time unit.gap
      else if u.rasl && (s.slot k).rasl then (if a.get (slotK k 8) = 4 then a.put (slotK k 8) 2 else a).bump (slotK k 0x0C)
      else a.storePicture k u upTo unit.time unit.gap := by
  have hslot := State.unitTaken_slot hlen rest
  have hresync : ((s.unitTaken k rest).slot k).resync = (s.slot k).resync := by rw [hslot]
  have hrasl : ((s.unitTaken k rest).slot k).rasl = (s.slot k).rasl := by rw [hslot]
  have hrun : s.decodeUnit k u upTo =
      let a := s.unitTaken k rest
      if (a.slot k).resync && !u.irap then (a.put (slotK k 8) 1).bump (slotK k 0x0C)
      else if u.irap then (a.setSlot k { a.slot k with resync := false, rasl := (a.slot k).resync }).storePicture k u upTo unit.time unit.gap
      else if u.rasl && (a.slot k).rasl then (if a.get (slotK k 8) = 4 then a.put (slotK k 8) 2 else a).bump (slotK k 0x0C)
      else a.storePicture k u upTo unit.time unit.gap := by
    unfold State.decodeUnit
    rw [hunits]
    dsimp only
    rw [if_neg (by rw [hbad]; decide)]
    rfl
  rw [hrun]
  dsimp only
  rw [hresync, hrasl]

/-- What a unit's end does to its slot's count of overruns: nothing. -/
theorem State.decodeUnit_overruns {unit : GatheredUnit} {rest : List GatheredUnit} (hlen : k < s.media.codec.slots.length)
    (hunits : (s.slot k).units = unit :: rest) {u : AccessUnit} (hbad : s.badSps k u = false) (upTo : Option Nat) :
    (s.decodeUnit k u upTo).media.codec.slots.length = s.media.codec.slots.length
      ∧ ((s.decodeUnit k u upTo).slot k).overruns = (s.slot k).overruns := by
  let a := s.unitTaken k rest
  have hslot : (a.slot k).overruns = (s.slot k).overruns := (congrArg Slot.overruns (State.unitTaken_slot hlen rest) :)
  have hslots : a.media.codec.slots.length = s.media.codec.slots.length := s.unitTaken_slots k rest
  have hsame : ∀ b : State, b.media = a.media → b.media.codec.slots.length = s.media.codec.slots.length ∧ (b.slot k).overruns = (s.slot k).overruns := by
    intro b hb
    rw [State.slot_congr (s := a) (by rw [hb]), hb]
    exact ⟨hslots, hslot⟩
  have hstored : ∀ b : State, b.media.codec.slots.length = s.media.codec.slots.length → (b.slot k).overruns = (s.slot k).overruns →
      (b.storePicture k u upTo unit.time unit.gap).media.codec.slots.length = s.media.codec.slots.length
        ∧ ((b.storePicture k u upTo unit.time unit.gap).slot k).overruns = (s.slot k).overruns := by
    intro b hb hb'
    obtain ⟨hl, ho⟩ := State.storePicture_overruns (s := b) (k := k) (by rw [hb]; exact hlen) u upTo unit.time unit.gap
    exact ⟨hl.trans hb, ho.trans hb'⟩
  rw [State.decodeUnit_good hlen hunits hbad]
  dsimp only
  split
  · exact hsame _ rfl
  · split
    · refine hstored _ ((State.slots_setSlot _ _ _).trans hslots) ?_
      rw [State.slot_setSlot (by rw [hslots]; exact hlen)]
      exact hslot
    · split
      · refine hsame _ ?_
        rw [State.bump_media]
        split <;> rfl
      · exact hstored _ hslots hslot

/-- A unit that is decoded within its budget: the state that it is decoded from. -/
theorem State.decodePicture_within {u : AccessUnit} (husable : s.usable 7 = true) (hruns : s.slotRuns k = true)
    (hunits : (s.slot k).units ≠ []) (htakes : u.takes ≤ s.cycleBudget k) :
    s.decodePicture k u = (s.setSlot k { s.slot k with overruns := 0 }).decodeUnit k u none := by
  have hready : s.unitReady k = true := by
    cases hl : (s.slot k).units with
    | nil => exact absurd hl hunits
    | cons x l => simp [State.unitReady, husable, hruns, hl]
  unfold State.decodePicture
  rw [hready, decide_eq_true htakes]
  rfl

theorem State.badSps_setSlot (s : State) (k : Nat) (c : Slot) (u : AccessUnit) : (s.setSlot k c).badSps k u = s.badSps k u := rfl

section Within

variable {unit : GatheredUnit} {rest : List GatheredUnit} {u : AccessUnit} (hk : k < 32) (hlen : k < s.media.codec.slots.length)
  (husable : s.usable 7 = true) (hruns : s.slotRuns k = true) (hbad : s.badSps k u = false) (hunits : (s.slot k).units = unit :: rest)
  (htakes : u.takes ≤ s.cycleBudget k)
include hk hlen husable hruns hbad hunits htakes

/-- A clean IRAP picture is the slot's latest. -/
theorem State.decodePicture_irap (hirap : u.irap = true) (hwrites : u.writes = []) (hrefs : u.references = []) (hprofile : s.get (slotK k 3) ≠ 3) :
    (s.decodePicture k u).get (slotK k 9) = (s.get (slotK k 9) + 1) % 2 ^ 32 ∧ (s.decodePicture k u).get (slotK k 8) = 2
      ∧ ((s.decodePicture k u).slot k).resync = false ∧ ((s.decodePicture k u).slot k).units = rest
      ∧ ∃ pic, ((s.decodePicture k u).slot k).pictures.getLast? = some pic ∧ pic.seq = (s.get (slotK k 9) + 1) % 2 ^ 32
        ∧ pic.time = unit.time ∧ pic.width = u.width ∧ pic.height = u.height := by
  let b := s.setSlot k { s.slot k with overruns := 0 }
  have hb : b.slot k = { s.slot k with overruns := 0 } := State.slot_setSlot hlen _
  have hblen : k < b.media.codec.slots.length := by
    rw [State.slots_setSlot]
    exact hlen
  let a := b.unitTaken k rest
  have halen : k < a.media.codec.slots.length := by
    rw [State.unitTaken_slots]
    exact hblen
  have haslot : (a.slot k).units = rest := (congrArg Slot.units (State.unitTaken_slot hblen rest) :)
  have haget : ∀ sub < 256, a.get (slotK k sub) = s.get (slotK k sub) := fun sub hs => State.get_unitTaken b hk hs rest
  rw [State.decodePicture_within husable hruns (by rw [hunits]; exact List.cons_ne_nil _ _) htakes,
    State.decodeUnit_good hblen (by rw [hb]; exact hunits) (by rw [State.badSps_setSlot]; exact hbad)]
  dsimp only
  rw [if_neg (by rw [hirap]; simp), if_pos hirap]
  let c := a.setSlot k { a.slot k with resync := false, rasl := (b.slot k).resync }
  have hc : c.slot k = { a.slot k with resync := false, rasl := (b.slot k).resync } := State.slot_setSlot halen _
  obtain ⟨hcount, hstate, hrest, hresync, hpic⟩ := State.storePicture_clean (s := c) hk (by rw [State.slots_setSlot]; exact halen) hwrites hrefs
    (by rw [State.get_setSlot, haget 3 (by decide)]; exact hprofile) unit.time unit.gap
  rw [State.get_setSlot, haget 9 (by decide)] at hcount hpic
  rw [hc] at hrest hresync
  exact ⟨hcount, hstate, hresync, hrest.trans haslot, hpic⟩

/-- A RASL picture after a loss is skipped. -/
theorem State.decodePicture_rasl (hirap : u.irap = false) (hu : u.rasl = true) (hrasl : (s.slot k).rasl = true) (hresync : (s.slot k).resync = false) :
    (s.decodePicture k u).get (slotK k 0x0C) = (s.get (slotK k 0x0C) + 1) % 2 ^ 32
      ∧ ((s.decodePicture k u).slot k).pictures = (s.slot k).pictures := by
  let b := s.setSlot k { s.slot k with overruns := 0 }
  have hb : b.slot k = { s.slot k with overruns := 0 } := State.slot_setSlot hlen _
  have hblen : k < b.media.codec.slots.length := by
    rw [State.slots_setSlot]
    exact hlen
  let a := b.unitTaken k rest
  have haslot : (a.slot k).pictures = (b.slot k).pictures := (congrArg Slot.pictures (State.unitTaken_slot hblen rest) :)
  have haget : a.get (slotK k 0x0C) = s.get (slotK k 0x0C) := State.get_unitTaken b hk (by decide) rest
  obtain ⟨-, -, -, -, hskips⟩ := immediate_slotEnable k hk
  rw [State.decodePicture_within husable hruns (by rw [hunits]; exact List.cons_ne_nil _ _) htakes,
    State.decodeUnit_good hblen (by rw [hb]; exact hunits) (by rw [State.badSps_setSlot]; exact hbad)]
  dsimp only
  rw [hb, if_neg (by rw [hresync]; simp), if_neg (by rw [hirap]; decide), if_pos (by rw [hu, hrasl]; rfl)]
  refine ⟨?_, ?_⟩
  · rw [State.get_bump_32 _ hskips]
    split
    · rw [State.get_put_ne _ (slotK_inj (by decide)), haget]
    · rw [haget]
  · have hmedia : (State.bump (if a.get (slotK k 8) = 4 then a.put (slotK k 8) 2 else a) (slotK k 0x0C)).media = a.media := by
      rw [State.bump_media]
      split <;> rfl
    rw [State.slot_congr (s := a) (by rw [hmedia]), haslot, hb]

end Within

/-- A picture past its budget is one more in a row. -/
theorem State.overrun_counts {unit : GatheredUnit} {rest : List GatheredUnit} {u : AccessUnit} (hlen : k < s.media.codec.slots.length)
    (husable : s.usable 7 = true) (hruns : s.slotRuns k = true) (hbad : s.badSps k u = false) (hunits : (s.slot k).units = unit :: rest)
    (htakes : s.cycleBudget k < u.takes) (good : Nat) : ((s.overrun k u good).slot k).overruns = (s.slot k).overruns + 1 := by
  have hready : s.unitReady k = true := by simp [State.unitReady, husable, hruns, hunits]
  obtain ⟨hslots, hruns⟩ := State.decodeUnit_overruns hlen hunits hbad (some good)
  have hset := State.slot_setSlot (s := s.decodeUnit k u (some good)) (k := k) (by rw [hslots]; exact hlen)
    { (s.decodeUnit k u (some good)).slot k with overruns := ((s.decodeUnit k u (some good)).slot k).overruns + 1 }
  have hrun := congrArg Slot.overruns hset
  unfold State.overrun
  rw [hready, decide_eq_false (by omega), if_neg (by decide)]
  dsimp only
  split
  · rw [State.raise_slot, hrun]
    exact congrArg (· + 1) hruns
  · rw [hrun]
    exact congrArg (· + 1) hruns

/-- A slot without a unit for ten periods starves. -/
theorem State.starve_told (hk : k < 32) (hlen : k < s.media.codec.slots.length) (husable : s.usable 7 = true) (hruns : s.slotRuns k = true)
    (hlate : 10000000000 ≤ s.get (slotK k 6) * (s.now - (s.slot k).lastUnit)) :
    (s.starve k).get (slotK k 8) = 4 ∧ ((s.starve k).slot k).starved = true ∧ (s.starve k).stands 7 5 k = true := by
  have hrun : s.starve k = ((s.setSlot k { s.slot k with starved := true }).put (slotK k 8) 4).onset 7 5 k := by
    unfold State.starve
    rw [husable, hruns, decide_eq_true hlate]
    rfl
  rw [hrun, State.get_onset _ _ _ _ (slotK_not_report k 8 hk (by decide)), State.stands_onset_self,
    State.onset_slot, State.put_slot, State.slot_setSlot hlen]
  exact ⟨State.get_put_slot _ hk (.inr rfl) (by decide), rfl, rfl⟩

/-- What the end of stale layers leaves alone. -/
abbrev StaleOnly (s u : State) : Prop := Keeps (fun s => { s.core with scene := {} }) notReport s u

theorem StaleOnly.unstale (s : State) : StaleOnly s s.unstale := by
  have hreported : ∀ {s u : State}, Reported s u → StaleOnly s u := fun h => ⟨congrArg (fun s : State => { s with scene := {} }) h.1, h.2⟩
  exact Keeps.foldl (fun s n => .ite (.trans (.trans (u := s.setRun n { s.run n with stale := false }) (.of_regs rfl rfl)
    (.ite (hreported (Reported.beaconAdd _ _ _ _ _)) (.refl _))) (hreported (Reported.settle _ 0xB 2 n))) (.refl s)) _ s

theorem State.unstale_slot (s : State) (m : Nat) : s.unstale.slot m = s.slot m :=
  State.slot_congr ((StaleOnly.unstale s).field_of (field := fun s : State => s.media.codec.slots) fun _ => rfl) m

theorem State.get_unstale (s : State) {j : Nat} (h : j ∉ reportKeys) : s.unstale.get j = s.get j :=
  (StaleOnly.unstale s).2 j (by simpa [notReport] using h)

/-! ### Cores taken out of use (R266) -/

/-- A core that a slot is placed on is in use. -/
theorem State.decoderFor_up {load c : Nat} (h : s.decoderFor load = some c) : nth s.media.codec.decCores c false = true := by
  have hroom : ∀ c : Nat, (nth s.media.codec.decCores c false && decide (s.slotCoreLoad c + load ≤ 1000000000)) = true →
      nth s.media.codec.decCores c false = true := fun c h => (Bool.and_eq_true_iff.1 h).1
  unfold State.decoderFor at h
  dsimp only at h
  split at h
  next h0 h1 =>
    split at h
    · exact Option.some.inj h ▸ hroom 1 h1
    · exact Option.some.inj h ▸ hroom 0 h0
  next h0 h1 => exact Option.some.inj h ▸ hroom 0 h0
  next h0 h1 => exact Option.some.inj h ▸ hroom 1 h1
  next => cases h

/-- A slot does not run on a core. -/
def State.slotOff (s : State) (core m : Nat) : Prop := (s.slot m).suspended = true ∨ (s.slot m).core ≠ core

/-- A slot that moves runs on no core out of use; the others stay, and so do the cores. -/
theorem State.moveSlot_off {core : Nat} (hcore : nth s.media.codec.decCores core false = false) (hlen : k < s.media.codec.slots.length) :
    (s.moveSlot k).media.codec.decCores = s.media.codec.decCores ∧ (s.moveSlot k).media.codec.slots.length = s.media.codec.slots.length
      ∧ (s.moveSlot k).slotOff core k ∧ ∀ m, m ≠ k → (s.moveSlot k).slot m = s.slot m := by
  let a := s.setSlot k { s.slot k with suspended := true, resync := true }
  have ha : a.slot k = { s.slot k with suspended := true, resync := true } := State.slot_setSlot hlen _
  have halen : a.media.codec.slots.length = s.media.codec.slots.length := State.slots_setSlot _ _ _
  have haother : ∀ m, m ≠ k → a.slot m = s.slot m := fun m hm => State.slot_setSlot_ne _ hm _
  have hrun : s.moveSlot k = match a.decoderFor (s.slotLoad k) with
    | some c => (a.setSlot k { a.slot k with suspended := false, core := c }).put (slotK k 8) 1
    | none => (a.put (slotK k 8) 5).raise 7 2 k := rfl
  rw [hrun]
  split
  next c hc =>
    have hup : nth s.media.codec.decCores c false = true := State.decoderFor_up (s := a) hc
    refine ⟨rfl, (State.slots_setSlot _ _ _).trans halen, .inr ?_, fun m hm => ?_⟩
    · rw [State.put_slot, State.slot_setSlot (by rw [halen]; exact hlen)]
      intro he
      rw [show c = core from he, hcore] at hup
      cases hup
    · rw [State.put_slot, State.slot_setSlot_ne _ hm, haother m hm]
  next =>
    have hmedia : ((a.put (slotK k 8) 5).raise 7 2 k).media = a.media := by rw [State.raise_media, State.put_media]
    refine ⟨by rw [hmedia]; rfl, by rw [hmedia, halen], .inl ?_, fun m hm => ?_⟩
    · rw [State.raise_slot, State.put_slot, ha]
    · rw [State.raise_slot, State.put_slot, haother m hm]

/-- Slots that move leave a core out of use. -/
theorem State.moveSlots_off {core : Nat} (l : List Nat) (hcore : nth s.media.codec.decCores core false = false)
    (hlen : ∀ m ∈ l, m < s.media.codec.slots.length) : (l.foldl State.moveSlot s).media.codec.decCores = s.media.codec.decCores
      ∧ ∀ m, m ∈ l ∨ s.slotOff core m → (l.foldl State.moveSlot s).slotOff core m := by
  induction l generalizing s with
  | nil => exact ⟨rfl, fun m h => h.resolve_left (by simp)⟩
  | cons k l ih =>
    obtain ⟨hcores, hslots, hoff, hother⟩ := State.moveSlot_off hcore (hlen k (by simp))
    obtain ⟨hcores', hall⟩ := ih (s := s.moveSlot k) (by rw [hcores]; exact hcore) (fun m hm => by rw [hslots]; exact hlen m (by simp [hm]))
    refine ⟨hcores'.trans hcores, fun m hm => hall m ?_⟩
    by_cases he : m = k
    · exact .inr (he ▸ hoff)
    · rcases hm with hm | hm
      · exact .inl ((List.mem_cons.1 hm).resolve_left he)
      · exact .inr (by rw [State.slotOff, hother m he]; exact hm)

/-- A core is out of use, and no slot that ran on it runs there. -/
theorem State.failDecoder_off {core : Nat} (hup : nth s.media.codec.decCores core false = true) (hlen : s.media.codec.slots.length = 32) :
    nth (s.failDecoder core).media.codec.decCores core false = false
      ∧ ∀ m, m < 32 → s.slotRuns m = true → (s.slot m).core = core → (s.failDecoder core).slotOff core m := by
  let cores := setNth s.media.codec.decCores core false
  let a : State := { s with media := { s.media with codec := { s.media.codec with decCores := cores } } }
  let b := a.raiseCore 7 1 core (if cores.any id then .degraded else .failed)
  let hit := (List.range 32).filter fun k => s.slotRuns k && (s.slot k).core == core
  let order := hit.filter (fun k => s.safetySlots.contains k) ++ hit.filter fun k => !s.safetySlots.contains k
  have hrun : s.failDecoder core = (order.foldl State.moveSlot b).decoderObjects := if_neg (by rw [hup]; decide)
  have hmedia : b.media = a.media := State.raiseCore_media _ _ _ _ _
  have hout : nth b.media.codec.decCores core false = false := by
    rw [hmedia]
    exact nth_setNth_self (lt_of_nth_true hup) _ _
  have hmem : ∀ m ∈ order, m < b.media.codec.slots.length := by
    intro m hm
    have hhit : m ∈ hit := by
      rcases List.mem_append.1 hm with hm | hm
      · exact List.mem_of_mem_filter hm
      · exact List.mem_of_mem_filter hm
    rw [hmedia]
    exact (List.mem_range.1 (List.mem_of_mem_filter hhit)).trans_le hlen.ge
  obtain ⟨hcores, hoff⟩ := State.moveSlots_off order hout hmem
  refine ⟨by rw [hrun, State.decoderObjects_media, hcores]; exact hout, fun m hm hruns hcore => ?_⟩
  have hhit : m ∈ hit := List.mem_filter.2 ⟨List.mem_range.2 hm, by rw [hruns, hcore]; simp⟩
  have hin : m ∈ order := by
    refine List.mem_append.2 ?_
    cases hsafe : s.safetySlots.contains m
    · exact .inr (List.mem_filter.2 ⟨hhit, by rw [hsafe]; rfl⟩)
    · exact .inl (List.mem_filter.2 ⟨hhit, hsafe⟩)
  rw [State.slotOff, hrun, State.decoderObjects_slot]
  exact hoff m (.inl hin)

end Slots

/-! ### Commands -/

section Commands

variable {s : State} {t k : Nat} {q : Path}

theorem State.effect_slot (s : State) (hk : k < 32) (v : Nat) (x : Given) : s.effect (slotK k 1) v x = s.enableSlot k v := by
  have hi : slotK k 1 / 256 = 0x3A10 + k := by unfold slotK keyOf; omega
  have hs : slotK k 1 % 256 = 1 := by unfold slotK keyOf; omega
  have ht : slotK k 1 / 65536 = 0x3A := by unfold slotK keyOf; omega
  unfold State.effect
  dsimp only
  rw [hi, hs, ht, if_neg (by omega), if_neg (by omega), if_neg (by omega), if_pos (by omega), Nat.add_sub_cancel_left]

theorem State.roomLacks_slot (s : State) (hk : k < 32) (v : Nat) (x : Given) :
    s.roomLacks (slotK k 1) v x = (!x.fits && v == 1 && !s.slotOn k) := by
  have hi : slotK k 1 / 256 = 0x3A10 + k := by unfold slotK keyOf; omega
  have hs : slotK k 1 % 256 = 1 := by unfold slotK keyOf; omega
  unfold State.roomLacks
  rw [hi, hs, Nat.add_sub_cancel_left, decide_eq_true (by omega), decide_eq_true (by omega)]
  simp

theorem State.slot_finish (s : State) (t : Nat) (f : State → State) (k : Nat) : (s.finish t f).slot k = (f (s.begin t)).slot k :=
  State.slot_congr (by rw [State.finish_media]) k

theorem State.slot_heard (s : State) (q : Path) (k : Nat) : (s.heard q).slot k = s.slot k := State.slot_congr (by rw [State.heard_media]) k

theorem State.slot_reply (s : State) (q : Path) (id : Option Nat) (j code m : Nat) : (s.reply q id j code).slot m = s.slot m :=
  State.slot_congr (by rw [State.reply_media]) m

theorem State.slotOn_heard (s : State) (q : Path) (k : Nat) : (s.heard q).slotOn k = s.slotOn k := by rw [State.slotOn, State.get_heard, State.slotOn]

theorem State.get_finish_slot (s : State) (t : Nat) (f : State → State) {k sub : Nat} (hs : sub < 256) :
    (s.finish t f).get (slotK k sub) = (f (s.begin t)).get (slotK k sub) :=
  State.get_finish _ _ _ (by unfold slotK keyOf; omega) (by unfold slotK keyOf; omega)

/-- What an enable or a disable that is acknowledged leaves. -/
theorem answers_slotEnable {v : Nat} {fits : Bool} {u : State} (hk : k < 32) (hv : v < 256) (hq : (s.begin t).hears q = true)
    (h : ((s.begin t).heard q).takesValue (slotK k 1) [BitVec.ofNat 8 v] = true) (hroom : fits = true ∨ v ≠ 1)
    (hu : ((s.begin t).heard q).enableSlot k v = u) :
    Answers (exec (.slotEnable t q ⟨k, fits⟩ v) s) fun s' => s'.answered q 0 [] ∧ s'.slot k = u.slot k
      ∧ ∀ sub < 256, s'.get (slotK k sub) = u.get (slotK k sub) := by
  have hvalue : leNat (leBytes 1 v) = v := by rw [leNat_leBytes, Nat.mod_eq_of_lt (by omega)]
  have hrun := State.access_roomy (x := { fits }) (immediate_slotEnable k hk).1 hq h (by
    rw [State.roomLacks_slot _ hk, show leNat [BitVec.ofNat 8 v] = v from hvalue]
    rcases hroom with rfl | hne
    · rfl
    · simp [hne])
  rw [State.effect_slot _ hk, show leNat [BitVec.ofNat 8 v] = v from hvalue, hu] at hrun
  rw [exec_slotEnable]
  refine answers_actIf (decide_eq_true hk) ⟨State.finish_taken_answered hrun, ?_, fun sub hs => ?_⟩
  · rw [State.slot_finish, ← State.slot_reply u q none (slotK k 1) 0 k]
    exact congrArg (fun s : State => s.slot k) hrun
  · rw [State.get_finish_slot _ _ _ hs, ← State.get_reply u q none (slotK k 1) 0]
    exact congrArg (fun s : State => s.get (slotK k sub)) hrun

/-- An enable whose buffers do not fit is turned away. -/
theorem answers_slotEnable_lacking (hk : k < 32) (hq : (s.begin t).hears q = true)
    (h : ((s.begin t).heard q).takesValue (slotK k 1) [1] = true) (hoff : s.slotOn k = false) :
    Answers (exec (.slotEnable t q ⟨k, false⟩ 1) s) fun s' => s'.answered q 0x08000022 [] ∧ s'.slotOn k = false := by
  have hrun := State.access_lacking (x := { fits := false }) hq h (by
    rw [State.roomLacks_slot _ hk, State.slotOn_heard, show (s.begin t).slotOn k = false from hoff]
    rfl)
  rw [exec_slotEnable]
  refine answers_actIf (decide_eq_true hk) ⟨State.finish_taken_answered hrun, ?_⟩
  rw [State.slotOn, State.get_finish_slot _ _ _ (by decide)]
  refine (congrArg (fun s : State => s.get (slotK k 1) == 1) hrun).trans ?_
  rw [State.get_reply, State.get_heard]
  exact hoff

/-! #### Packets -/

/-- What becomes of a packet that is received and accepted. -/
def State.avtpTaken (s : State) (h : AvtpHeader) (sequence timestamp : Nat) (last : Bool) (payload : Bytes) : State :=
  match (List.range 32).find? fun k => s.slotOn k && s.get (slotK k 2) == h.stream with
  | none => { s with net := { s.net with unmatched := s.net.unmatched + 1 } }
  | some k =>
    if (s.slot k).lastSeqs.contains sequence then s.bump 0x284007
    else if s.usable 7 then s.gather k sequence timestamp last payload else s

section Packets

variable {a : Arrival} {h : AvtpHeader} {sequence timestamp : Nat} {last : Bool} {payload : Bytes}

theorem State.receiveAvtp_accepted (hreceives : s.receives a = true) (haccepted : s.avtpAccepted h payload = true) :
    s.receiveAvtp a h sequence timestamp last payload = s.avtpTaken h sequence timestamp last payload := by
  unfold State.receiveAvtp State.arrives
  rw [hreceives, if_pos rfl]
  dsimp only
  rw [haccepted]
  rfl

theorem answers_avtpReceive {P : State → Prop} (hmac : a.mac < 2) (hreceives : s.receives a = true) (haccepted : s.avtpAccepted h payload = true)
    (hP : P (s.finish t fun s => s.avtpTaken h sequence timestamp last payload)) :
    Answers (exec (.avtpReceive t a h sequence timestamp last payload) s) P := by
  rw [exec_avtpReceive]
  refine answers_actIf (decide_eq_true hmac) ?_
  rwa [State.finish_congr (g := fun s => s.avtpTaken h sequence timestamp last payload)
    (State.receiveAvtp_accepted (s := s.begin t) hreceives haccepted)]

section Matched

variable (hmatch : ((List.range 32).find? fun j => s.slotOn j && s.get (slotK j 2) == h.stream) = some k)
include hmatch

theorem State.avtpTaken_again (hdup : (s.slot k).lastSeqs.contains sequence = true) :
    s.avtpTaken h sequence timestamp last payload = s.bump 0x284007 := by
  unfold State.avtpTaken
  rw [hmatch]
  exact if_pos hdup

theorem State.avtpTaken_new (hnew : (s.slot k).lastSeqs.contains sequence = false) (husable : s.usable 7 = true) :
    s.avtpTaken h sequence timestamp last payload = s.gather k sequence timestamp last payload := by
  unfold State.avtpTaken
  rw [hmatch]
  exact (if_neg (by rw [hnew]; decide)).trans (if_pos husable)

end Matched

theorem State.avtpTaken_unmatched (hmatch : ((List.range 32).find? fun j => s.slotOn j && s.get (slotK j 2) == h.stream) = none) :
    s.avtpTaken h sequence timestamp last payload = { s with net := { s.net with unmatched := s.net.unmatched + 1 } } := by
  unfold State.avtpTaken
  rw [hmatch]

end Packets

end Commands

/-- Settles O41: enables and disables, packets, pictures, the starved slot, the core. -/
theorem slotsAreDecoded : Obligations.SlotsAreDecoded := by
  intro s t k hk hslots
  have hlen : k < s.media.codec.slots.length := by omega
  refine ⟨fun q hq husable => ⟨fun h hoff hstate => ⟨?_, answers_slotEnable_lacking hk hq h hoff⟩, fun fits h hon hstate => ?_⟩,
    fun a h sequence timestamp last payload hmac hreceives haccepted => ⟨fun hmatch hdup => ?_, fun hmatch hnew husable => ?_, fun hmatch => ?_⟩,
    fun u unit rest husable hruns hbad hunits => ⟨fun htakes hirap hclean hwrites hrefs hprofile => ?_, fun htakes hirap hu hrasl hresync => ?_,
      fun good htakes => ?_⟩, fun husable hruns hlate => ?_, fun core hc hup => ?_⟩
  · obtain ⟨hon, hnew, hsince⟩ := State.enableSlot_awaits (s := (s.begin t).heard q) hk (by rw [State.heard_media]; exact hlen)
      (by rw [State.usable_heard]; exact husable) (by rw [State.slotOn_heard]; exact hoff) (by rw [State.get_heard]; exact hstate)
    obtain ⟨s', hs', hanswered, hslot, hget⟩ := answers_slotEnable (fits := true) (t := t) hk (v := 1) (by decide) hq h (.inl rfl) rfl
    refine ⟨s', hs', hanswered, ?_, by rw [hget _ (by decide)]; exact hnew, ?_⟩
    · rw [State.slotOn, hget _ (by decide)]
      exact hon
    · rw [hslot, hsince]
      exact State.heard_now _ _
  · obtain ⟨hoff, hnew, hslot⟩ := State.enableSlot_off (s := (s.begin t).heard q) hk (by rw [State.heard_media]; exact hlen)
      (by rw [State.usable_heard]; exact husable) (by rw [State.slotOn_heard]; exact hon) (by rw [State.get_heard]; exact hstate)
    obtain ⟨s', hs', hanswered, hslot', hget⟩ := answers_slotEnable (fits := fits) (t := t) hk (v := 0) (by decide) hq h (.inr (by decide)) rfl
    refine ⟨s', hs', hanswered, ?_, by rw [hget _ (by decide)]; exact hnew, hslot'.trans hslot⟩
    rw [State.slotOn, hget _ (by decide)]
    exact hoff
  · refine answers_avtpReceive hmac hreceives haccepted ⟨?_, ?_⟩
    · rw [State.get_finish _ _ _ (by decide) (by decide), State.avtpTaken_again (s := s.begin t) hmatch hdup]
      exact State.get_bump_32 (s.begin t) (by decide +kernel)
    · rw [State.finish_media, State.avtpTaken_again (s := s.begin t) hmatch hdup]
      rfl
  · refine answers_avtpReceive hmac hreceives haccepted ?_
    rw [State.slot_finish, State.avtpTaken_new (s := s.begin t) hmatch hnew husable]
    exact State.gather_last (s := s.begin t) hlen _ _ _ _
  · refine answers_avtpReceive hmac hreceives haccepted ⟨?_, ?_⟩
    · rw [State.finish_net, State.avtpTaken_unmatched (s := s.begin t) hmatch]
      rfl
    · rw [State.finish_media, State.avtpTaken_unmatched (s := s.begin t) hmatch]
      rfl
  · obtain ⟨hcount, hstate, hresync, hrest, pic, hlast, hseq, hpic⟩ :=
      State.decodePicture_irap (s := s.begin t) hk hlen husable hruns hbad hunits htakes hirap hwrites hrefs hprofile
    rw [exec_pictureDecode]
    refine answers_actIf (decide_eq_true hk) ?_
    rw [State.slot_finish, State.get_finish_slot _ _ _ (by decide), State.get_finish_slot _ _ _ (by decide), State.unstale_slot,
      State.get_unstale _ (slotK_not_report k 9 hk (by decide)), State.get_unstale _ (slotK_not_report k 8 hk (by decide))]
    exact ⟨hcount, hstate, hresync, hrest, pic, hlast, hseq.trans hcount.symm, hpic⟩
  · obtain ⟨hskips, hpictures⟩ := State.decodePicture_rasl (s := s.begin t) hk hlen husable hruns hbad hunits htakes hirap hu hrasl hresync
    rw [exec_pictureDecode]
    refine answers_actIf (decide_eq_true hk) ?_
    rw [State.slot_finish, State.get_finish_slot _ _ _ (by decide), State.unstale_slot,
      State.get_unstale _ (slotK_not_report k 0x0C hk (by decide))]
    exact ⟨hskips, hpictures⟩
  · rw [exec_cycleBudgetOverrun]
    refine answers_actIf (decide_eq_true hk) ?_
    rw [State.slot_finish, State.unstale_slot]
    exact State.overrun_counts (s := s.begin t) hlen husable hruns hbad hunits htakes good
  · rw [exec_slotStarved]
    refine answers_actIf (decide_eq_true hk) ?_
    rw [State.slot_finish, State.get_finish_slot _ _ _ (by decide), State.stands_finish]
    exact State.starve_told (s := s.begin t) hk hlen husable hruns hlate
  · obtain ⟨hout, hoff⟩ := State.failDecoder_off (s := s.begin t) hup hslots
    rw [exec_decoderCoreFail]
    refine answers_actIf (decide_eq_true hc) ⟨by rw [State.finish_media]; exact hout, fun j hj hruns hcore => ?_⟩
    rw [State.slot_finish]
    exact hoff j hj hruns hcore

end Sys2Proof.Machine
end

section
set_option Elab.async false
/-!
PROOFS. What pairing, searches and the pipelines leave of the camera ports: their frames, error counts and waiting frames (R200 to R215).
-/

namespace Sys2Proof.Machine

/-! ### The ports as others leave them -/

/-- A frame without the pipeline that processes it. -/
def CamFrame.content (f : CamFrame) : CamFrame := { f with worker := 0, placement := 0, reissued := false }

/-- Of a port: its frame under way, its error counts, its waiting frames. -/
def Cam.framed (c : Cam) : Cam := { frame := c.frame, errors := c.errors, raw := c.raw.map CamFrame.content }

/-- The ports, the pipelines in service, and one content. -/
def State.ports (d : Nat) (s : State) : State :=
  { State.reset with media := { cams := s.media.cams.map Cam.framed, pipelines := s.media.pipelines }, doms := [(0, s.dom d)] }

/-- The objects of the camera ports, and the placement epoch. -/
def portObjects (k : Nat) : Bool := (0x300000 ≤ k && k < 0x380000) || k == 0x250007

/-- What leaves the ports, the pipelines, a content and the ports' objects alone. -/
abbrev FramesKept (d : Nat) (s u : State) : Prop := Keeps (State.ports d) portObjects s u

theorem notReport_of_port {k : Nat} (h : portObjects k = true) : notReport k = true := by
  by_contra hn
  have hk : k ∈ reportKeys := by simpa [notReport] using hn
  exact absurd h ((by decide : ∀ k ∈ reportKeys, ¬ portObjects k = true) k hk)

section Basic

variable {d : Nat} {s u : State}

theorem Reported.framesKept (h : Reported s u) : FramesKept d s u := by
  refine ⟨?_, fun k hk => h.2 k (notReport_of_port hk)⟩
  have hdoms : u.doms = s.doms := h.field_of (field := fun s : State => s.doms) fun _ => rfl
  unfold State.ports
  rw [h.media_eq, State.dom_congr hdoms]

/-- A change of the media but of its ports and pipelines. -/
theorem FramesKept.of_cams (hd : u.doms = s.doms) (hr : u.regs = s.regs) (hc : u.media.cams = s.media.cams)
    (hp : u.media.pipelines = s.media.pipelines) : FramesKept d s u := by
  refine .of_regs ?_ hr
  unfold State.ports
  rw [hc, hp, State.dom_congr hd]

theorem FramesKept.cam (h : FramesKept d s u) (p : Nat) : (u.cam p).framed = (s.cam p).framed := by
  have hcams : u.media.cams.map Cam.framed = s.media.cams.map Cam.framed := congrArg (fun s : State => s.media.cams) h.1
  have hnth : ∀ l : List Cam, nth (l.map Cam.framed) p {} = (nth l p {}).framed := fun l => nth_map Cam.framed l p {}
  rw [State.cam, State.cam, ← hnth, ← hnth, hcams]

theorem FramesKept.cams_length (h : FramesKept d s u) : u.media.cams.length = s.media.cams.length := by
  have hcams : u.media.cams.map Cam.framed = s.media.cams.map Cam.framed := congrArg (fun s : State => s.media.cams) h.1
  simpa using congrArg List.length hcams

theorem FramesKept.dom (h : FramesKept d s u) : u.dom d = s.dom d := by
  have hdoms : [(0, u.dom d)] = [(0, s.dom d)] := congrArg (fun s : State => s.doms) h.1
  simpa using hdoms

theorem FramesKept.pipelines (h : FramesKept d s u) : u.media.pipelines = s.media.pipelines :=
  h.field_of (field := fun s : State => s.media.pipelines) fun _ => rfl

variable (s)

theorem FramesKept.setStereo (k : Nat) (c : StereoPair) : FramesKept d s (s.setStereo k c) := FramesKept.of_cams rfl rfl rfl rfl

theorem FramesKept.setStream (n : Nat) (c : Stream) : FramesKept d s (s.setStream n c) := FramesKept.of_cams rfl rfl rfl rfl

theorem FramesKept.setMaster (m : Nat) (c : CciMaster) : FramesKept d s (s.setMaster m c) := FramesKept.of_cams rfl rfl rfl rfl

theorem FramesKept.putDom {k : Nat} (h : d ≠ k) (b : Bytes) : FramesKept d s (s.putDom k b) := by
  refine .of_regs ?_ rfl
  unfold State.ports
  rw [State.dom_putDom_ne _ h]
  rfl

/-- A port whose frames stay. -/
theorem FramesKept.setCam (p : Nat) {c : Cam} (h : c.framed = (s.cam p).framed) : FramesKept d s (s.setCam p c) := by
  refine .of_regs ?_ rfl
  have hcams : (s.setCam p c).media.cams.map Cam.framed = s.media.cams.map Cam.framed := setNth_map_same Cam.framed _ p c {} h
  unfold State.ports
  rw [hcams]
  rfl

end Basic

/-! ### Pairing and searches (R229 to R239) -/

section Search

variable {d : Nat} (s : State)

theorem FramesKept.requestMotion (n : Nat) : FramesKept d s (s.requestMotion n) := by
  obtain ⟨job, hjob⟩ := s.requestMotion_eq n
  rw [hjob]
  exact .ite (.refl s) (FramesKept.of_cams rfl rfl rfl rfl)

theorem FramesKept.requestMotions (source : Nat) : FramesKept d s (s.requestMotions source) :=
  Keeps.foldl (fun s n => FramesKept.requestMotion s n) _ s

theorem FramesKept.countAbandoned (k : Nat) : FramesKept d s (s.countAbandoned k) :=
  .trans (.trans (.bump (k := 0x380006) rfl s 1) (FramesKept.setStereo _ _ _)) (Reported.raise (by decide) _ _).framesKept

theorem FramesKept.unpairedFrame (k : Nat) : FramesKept d s (s.unpairedFrame k) :=
  .trans (.trans (.bump (k := 0x380005) rfl s 1) (FramesKept.setStereo _ _ _)) (.ite (Reported.onset (by decide) _ _).framesKept (.refl _))

theorem FramesKept.storeDepth (kind source seq time w h : Nat) (damaged concealed : Bool) (codes : List Nat) :
    FramesKept d s (s.storeDepth kind source seq time w h damaged concealed codes) := FramesKept.of_cams rfl rfl rfl rfl

theorem pairK_not_port (k sub : Nat) : portObjects (pairK k sub) = false := by
  have h : 0x381000 ≤ pairK k sub := by unfold pairK keyOf; omega
  simp only [portObjects, Bool.or_eq_false_iff, Bool.and_eq_false_iff, decide_eq_false_iff_not, beq_eq_false_iff_ne]
  omega

variable (hd : d < 0x380000)

include hd in
theorem FramesKept.finishSearch (k : Nat) (ref partner : Picture) : FramesKept d s (s.finishSearch k ref partner) := by
  have hkey : d ≠ pairK k 0x0C := by unfold pairK keyOf; omega
  unfold State.finishSearch
  dsimp only
  refine .trans ?_ (FramesKept.storeDepth _ _ _ _ _ _ _ _ _ _)
  exact .trans (.trans (FramesKept.setStereo s _ _) (.put (pairK_not_port k 0x0B) _ _)) (FramesKept.putDom _ hkey _)

theorem FramesKept.draw : FramesKept d s s.draw.1 := FramesKept.of_cams rfl rfl rfl rfl

include hd in
theorem FramesKept.searchRowOf (k : Nat) (ref partner : Picture) : FramesKept d s (s.searchRowOf k ref partner) :=
  .trans (.trans (FramesKept.draw s) (FramesKept.setStereo _ _ _)) (.ite (FramesKept.finishSearch _ hd _ _ _) (.refl _))

include hd in
theorem FramesKept.searchRows (k n : Nat) : FramesKept d s (searchRows k n s) := by
  induction n generalizing s with
  | zero => exact .refl s
  | succ n ih =>
    unfold Machine.searchRows
    split
    · exact .trans (FramesKept.searchRowOf s hd _ _ _) (ih _)
    · exact .refl s

include hd in
theorem FramesKept.pairedFrame (k : Nat) (ref partner : Picture) : FramesKept d s (s.pairedFrame k ref partner) := by
  unfold State.pairedFrame
  dsimp only
  have hbegun : FramesKept d s ((s.settle 5 2 k).setStereo k
      { (s.settle 5 2 k).stereo k with unpairedRun := 0, fresh := false, early := none }) :=
    .trans (Reported.settle s 5 2 k).framesKept (FramesKept.setStereo _ k _)
  split
  · exact hbegun.trans (.trans (.ite (FramesKept.countAbandoned _ _) (.refl _)) (FramesKept.setStereo _ _ _))
  · refine hbegun.trans (.trans (u := State.beginSearch _ k ref partner (!((s.settle 5 2 k).stereo k).fresh)) (FramesKept.setStereo _ _ _) ?_)
    split
    · exact .ite (.trans (FramesKept.setStereo _ _ _) (FramesKept.searchRows _ hd _ _)) (.refl _)
    · exact .refl _

include hd in
theorem FramesKept.settlePairs (k n : Nat) : FramesKept d s (settlePairs k n s) := by
  induction n generalizing s with
  | zero => exact .refl s
  | succ n ih =>
    unfold Machine.settlePairs
    dsimp only
    split
    · exact .refl s
    · refine .ite (.refl s) ?_
      split
      · exact .trans (.trans (FramesKept.setStereo s _ _) (FramesKept.pairedFrame _ hd _ _ _)) (ih _)
      · exact .trans (.trans (FramesKept.setStereo s _ _) (FramesKept.unpairedFrame _ _)) (ih _)

include hd in
theorem FramesKept.settleFrames : FramesKept d s s.settleFrames :=
  Keeps.foldl (fun s k => .trans (FramesKept.settlePairs s hd k _) (FramesKept.setStereo _ _ _)) _ s

theorem FramesKept.offerFrame (port : Nat) (pic : Picture) : FramesKept d s (s.offerFrame port pic) :=
  Keeps.foldl (fun s _ => .ite (FramesKept.setStereo s _ _) (.ite (FramesKept.setStereo s _ _) (.refl s))) _ s

end Search

/-! ### Pipelines and control buses (R208, R210, R217) -/

section Pipelines

variable {d : Nat} (s : State)

theorem FramesKept.cciRun (m : Nat) : FramesKept d s (s.cciRun m) := by
  unfold State.cciRun
  dsimp only
  refine .ite (.refl s) ?_
  split
  · split
    · exact .refl s
    · exact .trans (FramesKept.setMaster s _ _) (.send _ _)
  · split
    · exact .refl s
    · exact .ite (.trans (FramesKept.setMaster s _ _) (.send _ _)) (.refl s)

theorem FramesKept.cciAll : FramesKept d s s.cciAll := Keeps.foldl (fun s m => FramesKept.cciRun s m) _ s

theorem FramesKept.startProcessing (n : Nat) : FramesKept d s (startProcessing n s) := by
  induction n generalizing s with
  | zero => exact .refl s
  | succ n ih =>
    unfold Machine.startProcessing
    split
    next w p _ _ =>
      dsimp only
      split
      next f rest hraw =>
        refine .trans (.trans (u := if f.reissued then s.bump 0x250009 else s) (.ite (.bump rfl s 1) (.refl s)) (FramesKept.setCam _ p ?_)) (ih _)
        have hcam : (if f.reissued then s.bump 0x250009 else s).cam p = s.cam p := by split <;> rfl
        rw [hcam]
        simp [Cam.framed, CamFrame.content, hraw]
      next => exact .refl s
    next => exact .refl s

theorem FramesKept.reissueRaw (n : Nat) : FramesKept d s (s.reissueRaw n) := by
  refine Keeps.foldl (fun s p => ?_) _ s
  dsimp only
  split
  next f rest hraw =>
    refine .ite (FramesKept.setCam s p ?_) (.refl s)
    simp [Cam.framed, CamFrame.content, hraw]
  next => exact .refl s

end Pipelines

end Sys2Proof.Machine
end

section
set_option Elab.async false
/-!
PROOFS. The camera ports: enables, Frame Starts, lines, Frame Ends, frames through memory, pipelines taken out of use (R201 to R203, R208 to R211,
R222, R347; O36).
-/

namespace Sys2Proof.Machine

/-! ### Ports (R202, R222) -/

section Ports

variable {s : State} {p : Nat}

theorem State.cam_setCam (h : p < s.media.cams.length) (c : Cam) : (s.setCam p c).cam p = c := nth_setNth_self h c {}

theorem State.cams_setCam (s : State) (p : Nat) (c : Cam) : (s.setCam p c).media.cams.length = s.media.cams.length := List.length_set

theorem State.cam_congr {s u : State} (h : u.media.cams = s.media.cams) (p : Nat) : u.cam p = s.cam p := by rw [State.cam, State.cam, h]

theorem State.get_setCam (s : State) (p : Nat) (c : Cam) (k : Nat) : (s.setCam p c).get k = s.get k := State.get_congr rfl k

theorem State.cam_put (s : State) (k v p : Nat) : (s.put k v).cam p = s.cam p := rfl

theorem immediate_portEnable : ∀ p < 8, immediate (camK p 0 1) = true ∧ widthOf (camK p 0 1) = 8 ∧ widthOf (camK p 0 0x11) = 8
    ∧ widthOf (camK p 0 0x12) = 8 ∧ widthOf (camK p 0 0x13) = 32 := by
  decide +kernel

theorem camK_inj {p sub sub' : Nat} (h : sub ≠ sub') : camK p 0 sub ≠ camK p 0 sub' := by unfold camK keyOf; omega

theorem portObjects_camK {p sub : Nat} (hp : p < 8) (hs : sub < 256) : portObjects (camK p 0 sub) = true := by
  have h : 0x300000 ≤ camK p 0 sub ∧ camK p 0 sub < 0x380000 := by unfold camK keyOf; omega
  simp [portObjects, h.1, h.2]

theorem State.get_put_port (s : State) {sub v : Nat} (hp : p < 8) (hsub : sub = 1 ∨ sub = 0x11 ∨ sub = 0x12) (hv : v < 256) :
    (s.put (camK p 0 sub) v).get (camK p 0 sub) = v := by
  obtain ⟨-, h1, h11, h12, -⟩ := immediate_portEnable p hp
  rw [State.get_put_self]
  refine Nat.mod_eq_of_lt ?_
  rcases hsub with rfl | rfl | rfl
  · rw [h1]
    omega
  · rw [h11]
    omega
  · rw [h12]
    omega

/-- A port as it begins to await frames. -/
def State.freshPort (s : State) (p : Nat) : Cam :=
  { s.cam p with
    enabledAt := s.now, lastSeenLocal := s.now, advancedAt := s.now, started := false, frame := none, latched := [], jobs := [], raw := []
    processing := false, pictures := [], replacedRun := 0, apart := 0 }

theorem State.startPort_eq (s : State) (p : Nat) :
    s.startPort p = ((s.put (camK p 0 0x13) 0).put (camK p 0 0x11) 1).setCam p (s.freshPort p) := rfl

/-- A port that is enabled while its function is usable awaits frames. -/
theorem State.enablePort_awaits (hp : p < 8) (hlen : p < s.media.cams.length) (husable : s.usable 4 = true) (hstate : s.get (camK p 0 0x11) = 0) :
    (s.enablePort p 1).camOn p = true ∧ (s.enablePort p 1).get (camK p 0 0x11) = 1 ∧ (s.enablePort p 1).get (camK p 0 0x13) = 0
      ∧ ((s.enablePort p 1).cam p).enabledAt = s.now := by
  let a := s.put (camK p 0 1) 1
  have hon : a.get (camK p 0 1) = 1 := s.get_put_port hp (.inl rfl) (by decide)
  have hrun : s.enablePort p 1 = a.startPort p := by
    have hstill : a.get (camK p 0 0x11) = 0 := (State.get_put_ne s (camK_inj (by decide)) 1).trans hstate
    have husable' : a.usable 4 = true := husable
    show a.settlePort p = a.startPort p
    unfold State.settlePort
    rw [husable', State.camOn, hon, hstill]
    rfl
  rw [hrun, State.startPort_eq]
  refine ⟨?_, ?_, ?_, ?_⟩
  · rw [State.camOn, State.get_setCam, State.get_put_ne _ (camK_inj (by decide)), State.get_put_ne _ (camK_inj (by decide)), hon]
    rfl
  · rw [State.get_setCam]
    exact State.get_put_port _ hp (.inr (.inl rfl)) (by decide)
  · rw [State.get_setCam, State.get_put_ne _ (camK_inj (by decide)), State.get_put_self]
    exact Nat.zero_mod _
  · rw [State.cam_setCam (by exact hlen)]
    rfl

/-- A port that gives up what it holds. -/
def Cam.emptied (c : Cam) : Cam := { c with frame := none, jobs := [], raw := [], processing := false }

/-- A port as it stops, before its bus goes on. -/
def State.portIdle (s : State) (p : Nat) : State :=
  ((s.put (camK p 0 0x12) 0xFF).put (camK p 0 0x11) 0).setCam p (s.cam p).emptied

theorem State.stopPort_eq (s : State) (p : Nat) : s.stopPort p = (s.portIdle p).cciAll := rfl

theorem State.portIdle_cam (hlen : p < s.media.cams.length) : (s.portIdle p).cam p = (s.cam p).emptied := by
  rw [State.portIdle, State.cam_setCam]
  rw [State.put_media, State.put_media]
  exact hlen

/-- A port that is disabled gives up what it holds. -/
theorem State.enablePort_off (hp : p < 8) (hlen : p < s.media.cams.length) (husable : s.usable 4 = true) (hstate : s.get (camK p 0 0x11) ≠ 0) :
    (s.enablePort p 0).camOn p = false ∧ (s.enablePort p 0).get (camK p 0 0x11) = 0 ∧ (s.enablePort p 0).get (camK p 0 0x12) = 0xFF
      ∧ ((s.enablePort p 0).cam p).frame = none := by
  let a := s.put (camK p 0 1) 0
  have hoff : a.get (camK p 0 1) = 0 := s.get_put_port hp (.inl rfl) (by decide)
  have hrun : s.enablePort p 0 = (a.portIdle p).cciAll := by
    have hstill : a.get (camK p 0 0x11) ≠ 0 := by
      rw [State.get_put_ne s (camK_inj (by decide)) 0]
      exact hstate
    have husable' : a.usable 4 = true := husable
    rw [← State.stopPort_eq]
    show a.settlePort p = a.stopPort p
    unfold State.settlePort
    rw [husable', State.camOn, hoff]
    rw [if_neg (by decide), if_neg (by decide), if_neg hstill]
  have hkept : FramesKept 0 (a.portIdle p) (a.portIdle p).cciAll := FramesKept.cciAll _
  have hcam : ((a.portIdle p).cciAll.cam p).frame = ((a.portIdle p).cam p).frame := (congrArg Cam.frame (hkept.cam p) :)
  have hget : ∀ sub < 256, (a.portIdle p).cciAll.get (camK p 0 sub) = ((a.put (camK p 0 0x12) 0xFF).put (camK p 0 0x11) 0).get (camK p 0 sub) :=
    fun sub hs => (hkept.2 _ (portObjects_camK hp hs)).trans (State.get_setCam _ _ _ _)
  rw [hrun, State.camOn, hget _ (by decide), hget _ (by decide), hget _ (by decide), hcam, State.portIdle_cam (s := a) hlen]
  refine ⟨?_, ?_, ?_, rfl⟩
  · rw [State.get_put_ne _ (camK_inj (by decide)), State.get_put_ne _ (camK_inj (by decide)), hoff]
    rfl
  · exact State.get_put_port _ hp (.inr (.inl rfl)) (by decide)
  · rw [State.get_put_ne _ (camK_inj (by decide))]
    exact State.get_put_port _ hp (.inr (.inr rfl)) (by decide)

/-! ### Lines (R200, R201) -/

/-- A good line of a selected stream joins its frame. -/
theorem State.receiveLine_good {channel dataType e : Nat} {samples : List Nat} {f : CamFrame} (hlen : p < s.media.cams.length)
    (hon : s.camOn p = true) (husable : s.usable 4 = true) (hframe : (s.cam p).frame = some f) (hsome : samples ≠ [])
    (he : ([0, 1, 2].find? fun e => imageTypes.contains dataType && s.selected p e == (channel, dataType)) = some e)
    (hline : nth f.seen e 0 < s.inHeight p) (hfit : samples.length = if f.yuv then 2 * s.inWidth p else s.inWidth p) :
    ∃ g, ((s.receiveLine p channel dataType 0 true samples).cam p).frame = some g ∧ g.rows = f.rows ++ [(e, nth f.seen e 0, some samples)]
      ∧ g.replaced = f.replaced := by
  have hwhole : ∀ cfa, fitLine (s.inWidth p) f.yuv cfa samples = (samples, false, false) := by
    intro cfa
    unfold fitLine
    dsimp only
    rw [← hfit, if_neg (lt_irrefl _), if_neg (lt_irrefl _)]
  have hrun : s.receiveLine p channel dataType 0 true samples = s.addLine p e (some samples) := by
    rw [State.receiveLine_eq, if_neg (by rw [hon, husable]; decide), if_neg (by decide)]
    show s.lineTaken p channel dataType 0 true samples = _
    unfold State.lineTaken
    rw [he]
    exact congrArg (s.addLine p e) (if_pos ⟨by decide, rfl, by simpa using hsome⟩)
  rw [hrun]
  unfold State.addLine
  dsimp only
  rw [hframe]
  dsimp only
  rw [if_neg (by omega)]
  simp only [Option.map_some, hwhole, Option.isNone_some]
  rw [if_neg (by decide), if_neg (by decide), if_neg (by decide), State.cam_setCam hlen]
  exact ⟨_, rfl, rfl, rfl⟩

/-! ### Frame Ends (R203) -/

/-- Of a port: its frame under way, and its count of short frames. -/
def Cam.ended (c : Cam) : Cam := { frame := c.frame, errors := [nth c.errors 0 0] }

def State.ends (s : State) : State := { State.reset with media := { cams := s.media.cams.map Cam.ended } }

/-- What leaves the ports' frames under way and their counts of short frames alone. -/
abbrev EndsKept (s u : State) : Prop := Keeps State.ends (fun _ => false) s u

variable {d : Nat} {u : State}

theorem EndsKept.of_cams (h : u.media.cams.map Cam.ended = s.media.cams.map Cam.ended) : EndsKept s u :=
  ⟨by unfold State.ends; rw [h], fun _ hk => absurd hk Bool.false_ne_true⟩

theorem FramesKept.ends (h : FramesKept d s u) : EndsKept s u := by
  have hcams : u.media.cams.map Cam.framed = s.media.cams.map Cam.framed := congrArg (fun s : State => s.media.cams) h.1
  have hall : ∀ l : List Cam, l.map Cam.ended = (l.map Cam.framed).map Cam.ended := fun l => by rw [List.map_map]; rfl
  exact EndsKept.of_cams (by rw [hall, hcams, ← hall])

theorem EndsKept.setCam (s : State) (p : Nat) {c : Cam} (h : c.ended = (s.cam p).ended) : EndsKept s (s.setCam p c) :=
  EndsKept.of_cams (setNth_map_same Cam.ended _ p c {} h)

theorem EndsKept.camError (s : State) (p : Nat) {i : Nat} (hi : i ≠ 0) (n : Nat) : EndsKept s (s.camError p i n) := by
  refine EndsKept.setCam s p ?_
  unfold Cam.ended
  rw [nth_setNth_ne _ (Ne.symm hi)]

theorem EndsKept.postStats (s : State) (p : Nat) (f : CamFrame) (block : Bytes) : EndsKept s (s.postStats p f block) := by
  have hset : EndsKept s (s.setCam p { s.cam p with statsCrc := f.ispCrc }) := EndsKept.setCam s p rfl
  refine hset.trans (EndsKept.of_cams ?_)
  unfold State.postStats
  dsimp only
  split
  · rw [State.twinSend_media]
    rfl
  · rfl

theorem EndsKept.processFrame (s : State) (p : Nat) (f : CamFrame) : EndsKept s (s.processFrame p f) := by
  unfold State.processFrame
  dsimp only
  have hsettle : ∀ s : State, EndsKept s s.settleFrames := fun s => (FramesKept.settleFrames (d := 0) s (by decide)).ends
  refine .trans (EndsKept.postStats s p f _) (.ite (hsettle _) ?_)
  refine .trans (.trans (.trans ?_ (FramesKept.offerFrame (d := 0) _ _ _).ends) (hsettle _)) (FramesKept.requestMotions (d := 0) _ _).ends
  exact EndsKept.setCam _ p rfl

theorem EndsKept.goOn (s : State) : EndsKept s (startProcessing 8 s.settleFrames) :=
  .trans (FramesKept.settleFrames (d := 0) s (by decide)).ends (FramesKept.startProcessing (d := 0) s.settleFrames 8).ends

theorem EndsKept.setRaw (s : State) (p : Nat) (l : List CamFrame) : EndsKept s (s.setCam p { s.cam p with raw := l }) := EndsKept.setCam s p rfl

theorem EndsKept.pushRaw (s : State) (p : Nat) (f : CamFrame) : EndsKept s (s.pushRaw p f) := by
  unfold State.pushRaw
  extract_lets c i kept dropped pushed
  have hdropped : ∀ l, EndsKept s ((s.setCam p { s.cam p with raw := l }).camError p 8) := fun l =>
    .trans (EndsKept.setRaw s p l) (EndsKept.camError _ p (by decide) 1)
  have hpushed : EndsKept s pushed := by
    unfold pushed
    split
    · exact EndsKept.setRaw s p _
    · split
      · exact .refl s
      · exact (hdropped _).trans (EndsKept.postStats _ p _ _)
  exact hpushed.trans (EndsKept.goOn _)

theorem EndsKept.cam (h : EndsKept s u) (p : Nat) : (u.cam p).ended = (s.cam p).ended := by
  have hcams : u.media.cams.map Cam.ended = s.media.cams.map Cam.ended := congrArg (fun s : State => s.media.cams) h.1
  have hnth : ∀ l : List Cam, nth (l.map Cam.ended) p (Cam.ended {}) = (nth l p {}).ended := fun l => nth_map Cam.ended l p {}
  rw [State.cam, State.cam, ← hnth, ← hnth, hcams]

/-- A port's frame ends, and a short one is counted. -/
theorem State.endFrame_ended {f : CamFrame} {how : Nat} (hlen : p < s.media.cams.length) (hframe : (s.cam p).frame = some f) (hhow : how ≠ 2)
    (herrors : 0 < (s.cam p).errors.length) : ((s.endFrame p how).cam p).frame = none
      ∧ (how = 1 ∨ nth f.seen 0 0 < s.inHeight p → nth ((s.endFrame p how).cam p).errors 0 0 = (nth (s.cam p).errors 0 0 + 1) % 2 ^ 32) := by
  unfold State.endFrame
  extract_lets c long
  rw [show c.frame = some f from hframe]
  dsimp -zeta only
  extract_lets short damaged flags g tooMany run taken short' long' damaged' ended
  have hlong : long = false := beq_eq_false_iff_ne.2 hhow
  have hkept : EndsKept short' (if g.pipeline = 0x10 then ended.pushRaw p g else ended.processFrame p g) := by
    have hcounted : EndsKept short' ended :=
      .trans (.trans (.ite (EndsKept.camError _ p (by decide) 1) (.refl short')) (.ite (EndsKept.camError long' p (by decide) 1) (.refl long')))
        (.ite (FramesKept.ends (d := 0) (Reported.raise (fn := 4) (cause := 1) (by decide) damaged' p).framesKept) (.refl damaged'))
    exact hcounted.trans (.ite (EndsKept.pushRaw _ _ _) (EndsKept.processFrame _ _ _))
  have htaken : taken.cam p = { c with frame := none, replacedRun := run } := State.cam_setCam hlen _
  have hcam := hkept.cam p
  have herror : (taken.camError p 0).cam p = { taken.cam p with errors := setNth (taken.cam p).errors 0 ((nth (taken.cam p).errors 0 0 + 1) % 2 ^ 32) } :=
    State.cam_setCam (by rw [State.cams_setCam]; exact hlen) _
  have hframe' : (short'.cam p).frame = none := by
    show (State.cam (if short && !long then taken.camError p 0 else taken) p).frame = none
    split
    · rw [herror, htaken]
    · rw [htaken]
  refine ⟨(congrArg Cam.frame hcam :).trans hframe', fun hshort => ?_⟩
  have hcount : [nth ((if g.pipeline = 0x10 then ended.pushRaw p g else ended.processFrame p g).cam p).errors 0 0]
      = [nth (short'.cam p).errors 0 0] := (congrArg Cam.errors hcam :)
  have hshort' : short' = taken.camError p 0 := by
    have h : short = true := by
      show (how == 1 || decide (nth f.seen 0 0 < s.inHeight p)) = true
      simpa using hshort
    exact if_pos (by rw [h, hlong]; rfl)
  rw [List.singleton_inj.1 hcount, hshort', herror, htaken]
  exact nth_setNth_self herrors _ _

/-! ### Frames through memory (R210, R215, R347) -/

theorem statsKey_lt (hp : p < 8) : camK p 0x40 1 < 0x380000 := by unfold camK keyOf; omega

/-- A block that becomes the latest. -/
theorem State.postStats_dom (s : State) (p : Nat) (f : CamFrame) (block : Bytes) : (s.postStats p f block).dom (camK p 0x40 1) = block
    ∧ (s.postStats p f block).media.cams = (s.setCam p { s.cam p with statsCrc := f.ispCrc }).media.cams := by
  have hdom : (((s.setCam p { s.cam p with statsCrc := f.ispCrc }).putDom (camK p 0x40 1) block).putDom (camK p 0x40 2) f.embedded).dom (camK p 0x40 1)
      = block := by
    rw [State.dom_putDom_ne _ (by unfold camK keyOf; omega)]
    exact State.dom_putDom_self _ _ _
  unfold State.postStats
  dsimp only
  split
  · rw [State.dom_congr (State.twinSend_doms _ _ _ _), State.twinSend_media]
    exact ⟨hdom, rfl⟩
  · exact ⟨hdom, rfl⟩

theorem State.postStats_framed (s : State) (p : Nat) (f : CamFrame) (block : Bytes) (q : Nat) :
    ((s.postStats p f block).cam q).framed = (s.cam q).framed := by
  rw [State.cam_congr (s.postStats_dom p f block).2]
  exact (FramesKept.setCam (d := 0) s p (c := { s.cam p with statsCrc := f.ispCrc }) rfl).cam q

/-- A frame that goes through its pipeline: its block, and what it leaves of the ports. -/
theorem State.processFrame_posted (hp : p < 8) (f : CamFrame) : ((s.processFrame p f).dom (camK p 0x40 1)).take 4 = leBytes 4 f.counter
    ∧ ∀ q, ((s.processFrame p f).cam q).framed = (s.cam q).framed := by
  unfold State.processFrame
  extract_lets flags set planes first dev out luma lines posted pic c taken
  have hkept : FramesKept (camK p 0x40 1) posted (if !delivered flags then posted.settleFrames else taken.settleFrames.requestMotions p) := by
    have hsettle : ∀ s : State, FramesKept (camK p 0x40 1) s s.settleFrames := fun s => FramesKept.settleFrames s (statsKey_lt hp)
    refine .ite (hsettle posted) (.trans (.trans ?_ (hsettle taken)) (FramesKept.requestMotions _ _))
    exact .trans (FramesKept.setCam posted p (c := { posted.cam p with pictures := keepPictures posted.ptp ((posted.cam p).pictures ++ [pic]) }) rfl)
      (FramesKept.offerFrame _ _ _)
  refine ⟨?_, fun q => (hkept.cam q).trans (s.postStats_framed p f _ q)⟩
  rw [hkept.dom, (s.postStats_dom p f _).1]
  simp only [statsBytes, List.append_assoc]
  rw [List.take_append_of_le_length (by simp), List.take_of_length_le (by simp)]

/-- The counters of a port's waiting frames. -/
theorem counters_of_framed {c c' : Cam} (h : c'.framed = c.framed) : c'.raw.map (·.counter) = c.raw.map (·.counter) := by
  have hraw : c'.raw.map CamFrame.content = c.raw.map CamFrame.content := congrArg Cam.raw h
  have hall : ∀ l : List CamFrame, l.map (·.counter) = (l.map CamFrame.content).map (·.counter) := fun l => by rw [List.map_map]; rfl
  rw [hall, hraw, ← hall]

/-- A frame through memory that finishes leaves its buffer, and its block is the latest. -/
theorem State.finishRaw_done {f : CamFrame} {rest : List CamFrame} (hp : p < 8) (hlen : p < s.media.cams.length) (hraw : (s.cam p).raw = f :: rest)
    (hprocessing : (s.cam p).processing = true) (husable : s.usable 4 = true) :
    ((s.finishRaw p f.placement).cam p).raw.map (·.counter) = rest.map (·.counter)
      ∧ ((s.finishRaw p f.placement).dom (camK p 0x40 1)).take 4 = leBytes 4 f.counter := by
  let a := s.setCam p { s.cam p with raw := rest, processing := false }
  have ha : a.cam p = { s.cam p with raw := rest, processing := false } := State.cam_setCam hlen _
  have hrun : s.finishRaw p f.placement = startProcessing 8 (a.processFrame p f) := by
    unfold State.finishRaw
    dsimp only
    rw [if_neg (by rw [husable]; decide), hraw]
    exact if_pos (by rw [hprocessing, beq_self_eq_true]; rfl)
  obtain ⟨hblock, hframed⟩ := State.processFrame_posted (s := a) hp f
  have hkept : FramesKept (camK p 0x40 1) (a.processFrame p f) (startProcessing 8 (a.processFrame p f)) := FramesKept.startProcessing _ 8
  rw [hrun, hkept.dom, hblock, counters_of_framed ((hkept.cam p).trans (hframed p)), ha]
  exact ⟨rfl, rfl⟩

/-- A result of another placement epoch is counted and discarded. -/
theorem State.finishRaw_stale {f : CamFrame} {rest : List CamFrame} {epoch : Nat} (hraw : (s.cam p).raw = f :: rest) (husable : s.usable 4 = true)
    (hepoch : epoch ≠ f.placement) : s.finishRaw p epoch = s.bump 0x250008 := by
  unfold State.finishRaw
  dsimp only
  rw [if_neg (by rw [husable]; decide), hraw]
  exact if_neg (by simp [Ne.symm hepoch])

/-! ### Pipelines taken out of use (R211) -/

/-- What a pipeline taken out of use interrupts. -/
def State.pipeLost (s : State) (n : Nat) : State :=
  let s := { s with media := { s.media with pipelines := setNth s.media.pipelines n false } }
  (List.range 8).foldl (fun (s : State) p =>
    if s.get (camK p 0 0x12) = n then
      let c := s.cam p
      s.setCam p { c with frame := c.frame.map fun f => { f with pipelineFailed := true } }
    else s) s

theorem State.failPipeline_eq (s : State) (n : Nat) : s.failPipeline n =
    if !nth s.media.pipelines n false then s
    else
      let s := startProcessing 8 ((s.pipeLost n).nextPlacement.reissueRaw n)
      s.raiseCore 4 8 n (if s.pipesUp = 0 then .failed else .degraded) := rfl

/-- The pipelines in service, and every object. -/
abbrev PipesKept (s u : State) : Prop :=
  Keeps (fun s => { State.reset with media := { pipelines := s.media.pipelines } }) (fun _ => true) s u

theorem State.pipeLost_kept (s : State) (n : Nat) : (s.pipeLost n).media.pipelines = setNth s.media.pipelines n false
    ∧ ∀ k, (s.pipeLost n).get k = s.get k := by
  have h : PipesKept { s with media := { s.media with pipelines := setNth s.media.pipelines n false } } (s.pipeLost n) := by
    refine Keeps.foldl (fun s p => ?_) _ _
    exact .ite (.of_regs rfl rfl) (.refl s)
  exact ⟨h.field_of (field := fun s : State => s.media.pipelines) fun _ => rfl, fun k => h.2 k rfl⟩

theorem State.failPipeline_out {n : Nat} (hup : nth s.media.pipelines n false = true) : nth (s.failPipeline n).media.pipelines n false = false
    ∧ (s.get 0x250007 < 2 ^ 32 → (s.failPipeline n).get 0x250007 = if s.get 0x250007 = 0xFFFFFFFF then 1 else s.get 0x250007 + 1) := by
  obtain ⟨hpipes, hget⟩ := s.pipeLost_kept n
  have hkept : FramesKept 0 (s.pipeLost n).nextPlacement (startProcessing 8 ((s.pipeLost n).nextPlacement.reissueRaw n)) :=
    .trans (FramesKept.reissueRaw _ n) (FramesKept.startProcessing _ 8)
  rw [State.failPipeline_eq, if_neg (by rw [hup]; decide)]
  dsimp only
  refine ⟨?_, fun hplace => ?_⟩
  · rw [State.raiseCore_media, hkept.pipelines, State.nextPlacement, State.put_media, hpipes]
    exact nth_setNth_self (lt_of_nth_true hup) _ _
  · rw [State.get_raiseCore _ _ _ _ _ (by decide), hkept.2 0x250007 (by decide)]
    rw [State.nextPlacement_placement (by rw [hget]; exact hplace), hget]

end Ports

/-! ### Frame Starts (R202) -/

section Starts

variable {s u : State} {p : Nat}

/-- How many ports there are, and a port's frame counter. -/
abbrev CounterKept (p : Nat) (s u : State) : Prop :=
  Keeps (fun s => { State.reset with media := { cams := s.media.cams.map fun _ => {} } }) (fun k => k == camK p 0 0x13) s u

theorem CounterKept.of_length (hr : u.regs = s.regs) (h : u.media.cams.length = s.media.cams.length) : CounterKept p s u := by
  refine .of_regs ?_ hr
  dsimp only
  rw [List.map_const', List.map_const', h]

theorem CounterKept.of_framed {d : Nat} (hp : p < 8) (h : FramesKept d s u) : CounterKept p s u := by
  refine ⟨?_, fun k hk => h.2 k ?_⟩
  · dsimp only
    rw [List.map_const', List.map_const', h.cams_length]
  · rw [beq_iff_eq.1 hk]
    exact portObjects_camK hp (by decide)

theorem CounterKept.setCam (s : State) (q : Nat) (c : Cam) : CounterKept p s (s.setCam q c) := CounterKept.of_length rfl (s.cams_setCam q c)

theorem CounterKept.put {k : Nat} (hk : k ≠ camK p 0 0x13) (s : State) (v : Nat) : CounterKept p s (s.put k v) :=
  Keeps.put (objs := fun k => k == camK p 0 0x13) (beq_eq_false_iff_ne.2 hk) s v fun _ _ => rfl

theorem lookup_setKeys_ne {k : Nat} (l : List (Nat × Nat)) (h : ∀ e ∈ l, e.1 ≠ k) (r : List (Nat × Nat)) :
    lookup k (l.foldl (fun l e => setKey e.1 e.2 l) r) = lookup k r := by
  induction l generalizing r with
  | nil => rfl
  | cons e l ih => rw [List.foldl_cons, ih (fun e he => h e (by simp [he])), lookup_setKey_ne (Ne.symm (h e (by simp)))]

/-- A commit that does not reach an object. -/
theorem State.get_applyPending (s : State) {f : Nat → Bool} {k : Nat} (h : f k = false) : (s.applyPending f).get k = s.get k := by
  unfold State.get State.applyPending
  rw [lookup_setKeys_ne]
  intro e he
  rintro rfl
  rw [(List.mem_filter.1 he).2] at h
  cases h

theorem shadowKey_counter (s : State) (hp : p < 8) : s.shadowKey p (camK p 0 0x13) = false := by
  have h1 : camK p 0 0x13 / 256 ≠ 0x3010 + 0x100 * p := by unfold camK keyOf; omega
  have h2 : camK p 0 0x13 ≠ camK p 0x20 1 := by unfold camK keyOf; omega
  have h3 : camK p 0 0x13 / 256 < 0x3810 := by unfold camK keyOf; omega
  have hpairs : ([0, 1, 2, 3].any fun q => camK p 0 0x13 / 256 == 0x3810 + q && s.get (pairK q 2) == p) = false := by
    rw [List.any_eq_false]
    intro q _ h
    rw [Bool.and_eq_true, beq_iff_eq] at h
    omega
  unfold State.shadowKey
  rw [hpairs, beq_eq_false_iff_ne.2 h1, beq_eq_false_iff_ne.2 h2]
  rfl

theorem CounterKept.shadowCommit (hp : p < 8) (s : State) : CounterKept p s (s.shadowCommit p) := by
  unfold State.shadowCommit
  extract_lets k bad checked
  have hchecked : CounterKept p s checked := .ite (.of_regs rfl rfl) (.refl s)
  refine hchecked.trans ⟨rfl, fun j hj => ?_⟩
  rw [beq_iff_eq.1 hj]
  exact State.get_applyPending _ (shadowKey_counter _ hp)

theorem CounterKept.latchSet (hp : p < 8) (s : State) (counter : Nat) : CounterKept p s (s.latchSet p counter) :=
  .trans (CounterKept.setCam s p _) (CounterKept.of_framed (d := 0) hp (FramesKept.cciRun _ _))

theorem portKey_ne {q sub : Nat} (h : sub ≠ 0x13) (hs : sub < 256) : camK q 0 sub ≠ camK p 0 0x13 := by unfold camK keyOf; omega

theorem CounterKept.leavePipeline (s : State) (n : Nat) (hp : p < 8) : CounterKept p s (s.leavePipeline p n) := by
  have hplace : 0x250007 ≠ camK p 0 0x13 := by unfold camK keyOf; omega
  unfold State.leavePipeline
  dsimp only
  exact .ite (.trans (Keeps.foldl (fun s q => CounterKept.put (portKey_ne (by decide) (by decide)) s 0xFF) _ s) (CounterKept.put hplace _ _)) (.refl s)

/-- How a Frame Start that is accepted ends: its frame is the port's, and its counter the port's. -/
theorem State.startFrame_ends (hp : p < 8) (hlen : p < s.media.cams.length) (hon : s.camOn p = true) (hu : s.usable 4 = true)
    (hnone : (s.cam p).frame = none) (number : Nat) :
    ∃ (b : State) (f : CamFrame) (m : Nat), (b.cam p).frame = some f ∧ f.rows = []
      ∧ f.counter = (s.get (camK p 0 0x13) + s.frameAdvance p number) % 2 ^ 32 ∧ b.get (camK p 0 0x13) = f.counter
      ∧ s.startFrame p number = ((startProcessing 8 (b.put (camK p 0 0x11) 2).settleFrames).settle 4 3 p).cciRun m := by
  have hended : s.endFrame p 0 = s := by
    unfold State.endFrame
    dsimp only
    rw [hnone]
  unfold State.startFrame
  rw [if_neg (by simp [hon, hu]), hended]
  extract_lets ended c adv counter missing counted missed latch committed latched c₁ inForce c₂
  split
  extract_lets tagged
  split
  extract_lets slipped late was pipe again left placed f c₃ begun
  have hput : missed.media.cams.length = s.media.cams.length ∧ missed.get (camK p 0 0x13) = counter := by
    have hcount : (s.put (camK p 0 0x13) counter).get (camK p 0 0x13) = counter := by
      rw [State.get_put_self, (immediate_portEnable p hp).2.2.2.2]
      exact Nat.mod_eq_of_lt (Nat.mod_lt _ (by decide))
    show (State.media (if 0 < missing then counted.camError p 7 missing else counted)).cams.length = _ ∧ State.get (if 0 < missing then _ else _) _ = _
    split
    · exact ⟨State.cams_setCam _ _ _, hcount⟩
    · exact ⟨rfl, hcount⟩
  have hlatched : CounterKept p missed latched :=
    .trans (CounterKept.shadowCommit hp missed) (.ite (CounterKept.latchSet hp committed counter) (.refl committed))
  have hslipped : CounterKept p latched slipped :=
    .trans (.trans (CounterKept.setCam latched p c₂) (CounterKept.put (by unfold camK keyOf; omega) _ _))
      (.ite (CounterKept.setCam tagged p _) (.refl tagged))
  have hlate : CounterKept p slipped late :=
    .ite (CounterKept.of_framed (d := 0) hp (Reported.raise (fn := 4) (cause := 9) (by decide) slipped p).framesKept) (.refl slipped)
  have hagain : CounterKept p late again :=
    .ite (.trans (CounterKept.put (by unfold camK keyOf; omega) late _) (CounterKept.of_framed (d := 0) hp (FramesKept.reissueRaw _ was))) (.refl late)
  have hplaced : CounterKept p again placed :=
    .trans (.trans (CounterKept.leavePipeline again pipe hp) (CounterKept.put (portKey_ne (by decide) (by decide)) left pipe))
      (CounterKept.of_framed (d := 0) hp (Reported.follow (fn := 4) (cause := 7) (by decide) _ _ p).framesKept)
  have hall : CounterKept p missed placed := .trans hlatched (.trans hslipped (.trans hlate (.trans hagain hplaced)))
  have hlength : placed.media.cams.length = missed.media.cams.length := by
    have h := congrArg (fun s : State => s.media.cams.length) hall.1
    simpa using h
  have hrows : f.rows = [] := rfl
  have hcounter : f.counter = counter := rfl
  have hadvance : counter = (s.get (camK p 0 0x13) + s.frameAdvance p number) % 2 ^ 32 := rfl
  clear_value f placed
  have hframe : (begun.cam p).frame = some f := by
    unfold begun
    rw [State.cam_setCam (by omega)]
  refine ⟨begun, f, begun.get (camK p 0 0x0A), hframe, hrows, hcounter.trans hadvance, ?_, rfl⟩
  rw [hcounter]
  exact (State.get_setCam placed p _ _).trans ((hall.2 _ (beq_self_eq_true _)).trans hput.2)

/-- A Frame Start that is accepted opens a frame and counts it. -/
theorem State.startFrame_opens (hp : p < 8) (hlen : p < s.media.cams.length) (hon : s.camOn p = true) (hu : s.usable 4 = true)
    (hnone : (s.cam p).frame = none) (number : Nat) :
    (s.startFrame p number).get (camK p 0 0x13) = (s.get (camK p 0 0x13) + s.frameAdvance p number) % 2 ^ 32
      ∧ (s.startFrame p number).get (camK p 0 0x11) = 2
      ∧ ∃ f, ((s.startFrame p number).cam p).frame = some f ∧ f.counter = (s.startFrame p number).get (camK p 0 0x13) ∧ f.rows = [] := by
  obtain ⟨b, f, m, hframe, hrows, hcounter, hget, hrun⟩ := State.startFrame_ends hp hlen hon hu hnone number
  have hkept : FramesKept 0 (b.put (camK p 0 0x11) 2) (s.startFrame p number) := by
    rw [hrun]
    exact .trans (.trans (.trans (FramesKept.settleFrames _ (by decide)) (FramesKept.startProcessing _ 8)) (Reported.settle _ 4 3 p).framesKept)
      (FramesKept.cciRun _ m)
  have hcount : (s.startFrame p number).get (camK p 0 0x13) = f.counter := by
    rw [hkept.2 _ (portObjects_camK hp (by decide)), State.get_put_ne _ (camK_inj (by decide)), hget]
  refine ⟨hcount.trans hcounter, ?_, f, (congrArg Cam.frame (hkept.cam p) :).trans hframe, hcount.symm, hrows⟩
  rw [hkept.2 _ (portObjects_camK hp (by decide))]
  exact State.get_put_port _ hp (.inr (.inl rfl)) (by decide)

end Starts

/-! ### Commands -/

section Commands

variable {s : State} {t p : Nat} {q : Path}

theorem State.effect_port (s : State) (hp : p < 8) (v : Nat) (x : Given) : s.effect (camK p 0 1) v x = s.enablePort p v := by
  have ht : camK p 0 1 / 65536 = 0x30 + p := by unfold camK keyOf; omega
  have hs : camK p 0 1 % 65536 = 1 := by unfold camK keyOf; omega
  unfold State.effect
  dsimp only
  rw [ht, hs, if_pos (by omega), Nat.add_sub_cancel_left]

theorem State.cam_finish (s : State) (t : Nat) (f : State → State) (p : Nat) : (s.finish t f).cam p = (f (s.begin t)).cam p :=
  State.cam_congr (by rw [State.finish_media]) p

theorem State.get_finish_port (s : State) (t : Nat) (f : State → State) {p sub : Nat} (hs : sub < 256) :
    (s.finish t f).get (camK p 0 sub) = (f (s.begin t)).get (camK p 0 sub) :=
  State.get_finish _ _ _ (by unfold camK keyOf; omega) (by unfold camK keyOf; omega)

/-- What an enable or a disable leaves. -/
theorem answers_portEnable {v : Nat} {u : State} (hp : p < 8) (hv : v < 256) (hq : (s.begin t).hears q = true)
    (h : ((s.begin t).heard q).takesValue (camK p 0 1) [BitVec.ofNat 8 v] = true) (hu : ((s.begin t).heard q).enablePort p v = u) :
    Answers (exec (.portEnable t q p v) s) fun s' => s'.answered q 0 [] ∧ s'.cam p = u.cam p
      ∧ ∀ sub < 256, s'.get (camK p 0 sub) = u.get (camK p 0 sub) := by
  have hvalue : leNat [BitVec.ofNat 8 v] = v := (leNat_leBytes 1 v).trans (Nat.mod_eq_of_lt (by omega))
  obtain ⟨hrun, hanswered⟩ := finish_effect (u := u) (immediate_portEnable p hp).1 hq h (by rw [State.effect_port _ hp, hvalue, hu])
  rw [exec_portEnable]
  refine answers_actIf (decide_eq_true hp) ⟨hanswered, ?_, fun sub hs => ?_⟩
  · rw [State.cam_finish]
    refine (congrArg (fun s : State => s.cam p) hrun).trans ?_
    exact State.cam_congr (by rw [State.reply_media]) p
  · rw [State.get_finish_port _ _ _ hs]
    refine (congrArg (fun s : State => s.get (camK p 0 sub)) hrun).trans ?_
    exact State.get_reply _ _ _ _ _ _

theorem State.unstale_cam (s : State) (p : Nat) : s.unstale.cam p = s.cam p :=
  State.cam_congr ((StaleOnly.unstale s).field_of (field := fun s : State => s.media.cams) fun _ => rfl) p

end Commands

/-- Settles O36: enables, the Frame Start, lines, Frame Ends, frames through memory, the pipeline. -/
theorem camerasTakeFrames : Obligations.CamerasTakeFrames := by
  intro s t p hp hlen
  refine ⟨fun q hq husable => ⟨fun h hstate => ?_, fun h hstate => ?_⟩, fun n hon husable hnone => ?_,
    fun channel dataType samples f e hon husable hframe hsome he hline hfit => ?_, fun f hon husable hframe herrors => ⟨?_, fun hlate => ?_⟩,
    fun f rest hraw hprocessing husable => ⟨?_, fun epoch hepoch => ?_⟩, fun n hn hup => ?_⟩
  · obtain ⟨hon, hnew, hcount, hsince⟩ := State.enablePort_awaits (s := (s.begin t).heard q) hp (by rw [State.heard_media]; exact hlen)
      (by rw [State.usable_heard]; exact husable) (by rw [State.get_heard]; exact hstate)
    obtain ⟨s', hs', hanswered, hcam, hget⟩ := answers_portEnable (t := t) (v := 1) hp (by decide) hq h rfl
    refine ⟨s', hs', hanswered, ?_, by rw [hget _ (by decide)]; exact hnew, by rw [hget _ (by decide)]; exact hcount, ?_⟩
    · rw [State.camOn, hget _ (by decide)]
      exact hon
    · rw [hcam, hsince]
      exact State.heard_now _ _
  · obtain ⟨hoff, hnew, hpipe, hframe⟩ := State.enablePort_off (s := (s.begin t).heard q) hp (by rw [State.heard_media]; exact hlen)
      (by rw [State.usable_heard]; exact husable) (by rw [State.get_heard]; exact hstate)
    obtain ⟨s', hs', hanswered, hcam, hget⟩ := answers_portEnable (t := t) (v := 0) hp (by decide) hq h rfl
    refine ⟨s', hs', hanswered, ?_, by rw [hget _ (by decide)]; exact hnew, by rw [hget _ (by decide)]; exact hpipe, by rw [hcam]; exact hframe⟩
    rw [State.camOn, hget _ (by decide)]
    exact hoff
  · obtain ⟨hcount, hstate, f, hframe, hcounter, hrows⟩ := State.startFrame_opens (s := s.begin t) hp hlen hon husable hnone n
    have hkey : ∀ sub, sub < 256 → camK p 0 sub ∉ reportKeys := fun sub hs => not_mem_of_notReport (notReport_of_port (portObjects_camK hp hs))
    rw [exec_frameStart]
    refine answers_actIf (decide_eq_true hp) ?_
    rw [State.cam_finish, State.get_finish_port _ _ _ (by decide), State.get_finish_port _ _ _ (by decide), State.unstale_cam,
      State.get_unstale _ (hkey _ (by decide)), State.get_unstale _ (hkey _ (by decide))]
    exact ⟨hcount, hstate, f, hframe, hcounter, hrows⟩
  · rw [exec_lineReceive]
    refine answers_actIf (decide_eq_true hp) ?_
    rw [State.cam_finish]
    exact State.receiveLine_good (s := s.begin t) hlen hon husable hframe hsome he hline hfit
  · obtain ⟨hnone, hshort⟩ := State.endFrame_ended (s := s.begin t) (how := 0) hlen hframe (by decide) herrors
    have hgo : ((s.begin t).camOn p && (s.begin t).usable 4) = true := Bool.and_eq_true_iff.2 ⟨hon, husable⟩
    rw [exec_frameEnd]
    refine answers_actIf (decide_eq_true hp) ?_
    rw [State.cam_finish, if_pos hgo]
    exact ⟨hnone, fun h => hshort (.inr h)⟩
  · obtain ⟨hnone, hshort⟩ := State.endFrame_ended (s := s.begin t) (how := 1) hlen hframe (by decide) herrors
    rw [exec_frameEndTimeout]
    refine answers_actIf (decide_eq_true hp) ?_
    have hrun : (match ((s.begin t).cam p).frame with
      | some f => if (s.begin t).camOn p && (s.begin t).usable 4 && decide (2 * f.frameStartLocal + 3 * (s.begin t).period p ≤ 2 * (s.begin t).now)
          then (s.begin t).endFrame p 1 else s.begin t
      | none => s.begin t) = (s.begin t).endFrame p 1 := by
      rw [show ((s.begin t).cam p).frame = some f from hframe]
      exact if_pos (by rw [show (s.begin t).camOn p = true from hon, show (s.begin t).usable 4 = true from husable]; exact decide_eq_true hlate)
    rw [State.cam_finish]
    refine ⟨(congrArg (fun s : State => (s.cam p).frame) hrun).trans hnone, ?_⟩
    exact (congrArg (fun s : State => nth (s.cam p).errors 0 0) hrun).trans (hshort (.inl rfl))
  · obtain ⟨hrest, hblock⟩ := State.finishRaw_done (s := s.begin t) hp hlen hraw hprocessing husable
    rw [exec_ispFrameComplete]
    refine answers_actIf (decide_eq_true hp) ?_
    rw [State.cam_finish, State.dom_finish]
    exact ⟨hrest, hblock⟩
  · rw [exec_ispFrameComplete]
    refine answers_actIf (decide_eq_true hp) ?_
    rw [State.get_finish _ _ _ (by decide) (by decide), State.finish_media]
    dsimp only
    rw [State.finishRaw_stale (s := s.begin t) hraw husable hepoch]
    exact ⟨State.get_bump_32 (s.begin t) (by decide +kernel), rfl⟩
  · obtain ⟨hout, hplace⟩ := State.failPipeline_out (s := s.begin t) hup
    rw [exec_ispPipelineFail]
    refine answers_actIf (decide_eq_true hn) ?_
    rw [State.get_finish _ _ _ (by decide) (by decide), State.finish_media]
    exact ⟨hout, hplace⟩

end Sys2Proof.Machine
end

section
set_option Elab.async false
/-!
PROOFS. The blitter's FILL and COPY texel by texel, WAIT LINE and the blitter's fault (R289, R291, R293, R295, R307; O44).
-/

namespace Sys2Proof.Machine

/-! ### The order of a command's texels (R291) -/

section

variable {c : Blit} {i j n m : Nat}

/-- Rectangles of a command that is not turned keep their size. -/
theorem Blit.size_of_plain (h : c.op = 1 ∧ c.rot = 0 ∧ !c.mirror) : c.dstW = c.w ∧ c.dstH = c.h := by
  obtain ⟨-, hrot, -⟩ := h
  unfold Blit.dstW Blit.dstH
  rw [hrot, if_neg (by omega), if_neg (by omega)]
  exact ⟨rfl, rfl⟩

theorem Blit.dst_area (c : Blit) : c.dstW * c.dstH = c.w * c.h := by
  unfold Blit.dstW Blit.dstH
  split
  · exact Nat.mul_comm _ _
  · rfl

theorem Blit.dstW_pos (hw : 1 ≤ c.w) (hh : 1 ≤ c.h) : 0 < c.dstW := by
  unfold Blit.dstW
  split <;> omega

/-- The texel at a place of the order lies in the rectangle. -/
theorem Blit.nth_lt (hn : n < c.dstW * c.dstH) : (c.nth n).1 < c.dstW ∧ (c.nth n).2 < c.dstH := by
  have hW : 0 < c.dstW := Nat.pos_of_ne_zero fun e => by simp [e] at hn
  have hi : n % c.dstW < c.dstW := Nat.mod_lt _ hW
  have hj : n / c.dstW < c.dstH := Nat.div_lt_of_lt_mul hn
  unfold Blit.nth
  generalize n % c.dstW = i at hi ⊢
  generalize n / c.dstW = j at hj ⊢
  split
  next h =>
    obtain ⟨hcw, hch⟩ := Blit.size_of_plain h
    constructor <;> dsimp only <;> split <;> omega
  next => exact ⟨hi, hj⟩

theorem Blit.rank_lt (hi : i < c.dstW) (hj : j < c.dstH) : c.rank i j < c.dstW * c.dstH := by
  have hin : ∀ a b, a < c.dstW → b < c.dstH → b * c.dstW + a < c.dstW * c.dstH := fun a b ha hb => by
    calc b * c.dstW + a < b * c.dstW + c.dstW := by omega
      _ = c.dstW * (b + 1) := by ring
      _ ≤ c.dstW * c.dstH := Nat.mul_le_mul_left _ hb
  unfold Blit.rank
  split
  next h =>
    obtain ⟨hcw, hch⟩ := Blit.size_of_plain h
    exact hin _ _ (by split <;> omega) (by split <;> omega)
  next => exact hin i j hi hj

theorem Blit.nth_rank (hi : i < c.dstW) (hj : j < c.dstH) : c.nth (c.rank i j) = (i, j) := by
  have hmod : ∀ a b, a < c.dstW → (b * c.dstW + a) % c.dstW = a := fun a b ha => by
    rw [Nat.add_comm, Nat.add_mul_mod_self_right, Nat.mod_eq_of_lt ha]
  have hdiv : ∀ a b, a < c.dstW → (b * c.dstW + a) / c.dstW = b := fun a b ha => by
    rw [Nat.add_comm, Nat.add_mul_div_right _ _ (by omega), Nat.div_eq_of_lt ha, Nat.zero_add]
  unfold Blit.nth Blit.rank
  by_cases h : c.op = 1 ∧ c.rot = 0 ∧ !c.mirror
  · obtain ⟨hcw, hch⟩ := Blit.size_of_plain h
    have ha : (if c.xDir then c.w - 1 - i else i) < c.dstW := by split <;> omega
    simp only [if_pos h, hmod _ _ ha, hdiv _ _ ha]
    refine Prod.ext ?_ ?_ <;> dsimp only <;> split <;> omega
  · simp only [if_neg h, hmod _ _ hi, hdiv _ _ hi]

theorem Blit.rank_nth (hn : n < c.dstW * c.dstH) : c.rank (c.nth n).1 (c.nth n).2 = n := by
  have hW : 0 < c.dstW := Nat.pos_of_ne_zero fun e => by simp [e] at hn
  have hi : n % c.dstW < c.dstW := Nat.mod_lt _ hW
  have hj : n / c.dstW < c.dstH := Nat.div_lt_of_lt_mul hn
  have hback : n / c.dstW * c.dstW + n % c.dstW = n := Nat.div_add_mod' n c.dstW
  unfold Blit.nth Blit.rank
  generalize n % c.dstW = i at hi hback ⊢
  generalize n / c.dstW = j at hj hback ⊢
  by_cases h : c.op = 1 ∧ c.rot = 0 ∧ !c.mirror
  · obtain ⟨hcw, hch⟩ := Blit.size_of_plain h
    have hx : (if c.xDir then c.w - 1 - (if c.xDir then c.w - 1 - i else i) else (if c.xDir then c.w - 1 - i else i)) = i := by
      cases c.xDir
      · rfl
      · simp only [if_true]
        omega
    have hy : (if c.yDir then c.h - 1 - (if c.yDir then c.h - 1 - j else j) else (if c.yDir then c.h - 1 - j else j)) = j := by
      cases c.yDir
      · rfl
      · simp only [if_true]
        omega
    simp only [if_pos h, hx, hy, hback]
  · simp only [if_neg h, hback]

/-- Every texel of the rectangle has one place in the order. -/
theorem Blit.nth_ne (hn : n < c.dstW * c.dstH) (hm : m < c.dstW * c.dstH) (h : n ≠ m) : c.nth n ≠ c.nth m := fun e =>
  h (by rw [← Blit.rank_nth hn, ← Blit.rank_nth hm, e])

end

/-! ### One texel of a content (R75, R289) -/

/-- Texels at different numbers of a content share no byte. -/
theorem surfaceWord_patch_ne {content new : Bytes} {f width x y o : Nat} (hnew : new.length = texelBytes f)
    (hfit : o * texelBytes f + texelBytes f ≤ content.length) (h : y * width + x ≠ o) :
    surfaceWord (patch content (o * texelBytes f) new) f width x y = surfaceWord content f width x y := by
  unfold surfaceWord fieldLE patch
  generalize y * width + x = a at h ⊢
  generalize texelBytes f = b at hnew hfit ⊢
  congr 1
  rcases Nat.lt_or_gt_of_ne h with hlt | hgt
  · have hle : a * b + b ≤ o * b := by
      calc a * b + b = (a + 1) * b := by ring
        _ ≤ o * b := Nat.mul_le_mul_right _ hlt
    rw [List.append_assoc, List.drop_append_of_le_length (by simp; omega), List.take_append_of_le_length (by simp; omega), List.drop_take,
      List.take_take, Nat.min_eq_left (by omega)]
  · have hle : o * b + b ≤ a * b := by
      calc o * b + b = (o + 1) * b := by ring
        _ ≤ a * b := Nat.mul_le_mul_right _ hgt
    rw [List.drop_append, List.drop_eq_nil_of_le (by simp; omega), List.nil_append, List.drop_drop]
    congr 2
    simp only [List.length_append, List.length_take, hnew]
    omega

theorem surfaceWord_patch_self {content : Bytes} {f width x y word : Nat} (hfit : (y * width + x) * texelBytes f + texelBytes f ≤ content.length) :
    surfaceWord (patch content ((y * width + x) * texelBytes f) (leBytes (texelBytes f) word)) f width x y = word % 256 ^ texelBytes f := by
  have h := patch_field (b := content) (new := leBytes (texelBytes f) word) (o := (y * width + x) * texelBytes f) (by omega)
  rw [length_leBytes] at h
  rw [surfaceWord, fieldLE, h, leNat_leBytes]

theorem length_patch_inside {b new : Bytes} {o : Nat} (h : o + new.length ≤ b.length) : (patch b o new).length = b.length := by
  simp only [patch, List.length_append, List.length_take, List.length_drop]
  omega

/-! ### A command's texels (R289, R291) -/

/-- The word that a command writes at a place of its order, from the sources as they stand. -/
def State.blitWord (s : State) (c : Blit) (n : Nat) : Nat :=
  if c.op = 1 then
    surfaceWord (s.dom (surfaceK c.src 4)) (s.get (surfaceK c.dst 1)) (s.surfaceSize c.src).1 (c.sourceOf (c.nth n).1 (c.nth n).2).1
      (c.sourceOf (c.nth n).1 (c.nth n).2).2
  else fillWord (s.get (surfaceK c.dst 1)) c.colour

/-- The number in its surface of the texel at a place of a command's order. -/
def State.blitPlace (s : State) (c : Blit) (n : Nat) : Nat :=
  (c.dstY + (c.nth n).2) * (s.surfaceSize c.dst).1 + (c.dstX + (c.nth n).1)

theorem State.blitTexel_eq (s : State) (c : Blit) (n : Nat) :
    s.blitTexel c n = s.putDom (surfaceK c.dst 4) (patch (s.dom (surfaceK c.dst 4)) (s.blitPlace c n * texelBytes (s.get (surfaceK c.dst 1)))
      (leBytes (texelBytes (s.get (surfaceK c.dst 1))) (s.blitWord c n))) := by
  unfold State.blitTexel patch
  rw [length_leBytes]
  rfl

/-- What the first places of a command's order have made of a state: the contents alone, of its surface alone, and its texels there. -/
structure TexelsDrawn (s : State) (c : Blit) (n : Nat) (u : State) : Prop where
  doms : { u with doms := [] } = { s with doms := [] }
  others : ∀ k, k ≠ surfaceK c.dst 4 → u.dom k = s.dom k
  length : (u.dom (surfaceK c.dst 4)).length = (s.dom (surfaceK c.dst 4)).length
  words : ∀ m < n, surfaceWord (u.dom (surfaceK c.dst 4)) (s.get (surfaceK c.dst 1)) (s.surfaceSize c.dst).1 (c.dstX + (c.nth m).1)
    (c.dstY + (c.nth m).2) = s.blitWord c m % 256 ^ texelBytes (s.get (surfaceK c.dst 1))

section

variable {s u : State} {c : Blit} {n : Nat}

theorem TexelsDrawn.get (h : TexelsDrawn s c n u) (k : Nat) : u.get k = s.get k := (congrArg (fun s : State => s.get k) h.doms :)

/-- The word written is the one that the sources had at first, the source being another surface. -/
theorem TexelsDrawn.blitWord (h : TexelsDrawn s c n u) (hsrc : c.op = 1 → c.src ≠ c.dst) (m : Nat) : u.blitWord c m = s.blitWord c m := by
  unfold State.blitWord State.surfaceSize
  split
  next hop =>
    have hne : surfaceK c.src 4 ≠ surfaceK c.dst 4 := fun e => hsrc hop (by unfold surfaceK keyOf at e; omega)
    rw [h.others _ hne, h.get, h.get, h.get]
  next => rw [h.get]

theorem TexelsDrawn.blitPlace (h : TexelsDrawn s c n u) (m : Nat) : u.blitPlace c m = s.blitPlace c m := by
  unfold State.blitPlace State.surfaceSize
  rw [h.get]

variable (hx : c.dstX + c.dstW ≤ (s.surfaceSize c.dst).1) (hy : c.dstY + c.dstH ≤ (s.surfaceSize c.dst).2)
include hx

/-- The texels of the rectangle have numbers of their own. -/
theorem State.blitPlace_ne {m : Nat} (hn : n < c.dstW * c.dstH) (hm : m < c.dstW * c.dstH) (h : m ≠ n) :
    s.blitPlace c m ≠ s.blitPlace c n := by
  intro e
  obtain ⟨hn1, hn2⟩ := Blit.nth_lt hn
  obtain ⟨hm1, hm2⟩ := Blit.nth_lt hm
  have hne := Blit.nth_ne hm hn h
  unfold State.blitPlace at e
  generalize (s.surfaceSize c.dst).1 = W at e hx
  have hW : 0 < W := by omega
  have hcol := congrArg (· % W) e
  have hrow := congrArg (· / W) e
  simp only [Nat.add_comm (_ * W), Nat.add_mul_mod_self_right, Nat.add_mul_div_right _ _ hW] at hcol hrow
  rw [Nat.mod_eq_of_lt (by omega), Nat.mod_eq_of_lt (by omega)] at hcol
  rw [Nat.div_eq_of_lt (by omega), Nat.div_eq_of_lt (by omega)] at hrow
  exact hne (Prod.ext (by omega) (by omega))

variable (hlen : (s.dom (surfaceK c.dst 4)).length
  = (s.surfaceSize c.dst).1 * (s.surfaceSize c.dst).2 * texelBytes (s.get (surfaceK c.dst 1)))
include hy hlen

/-- Every texel of the rectangle lies in the surface's content. -/
theorem State.blitPlace_fits (hn : n < c.dstW * c.dstH) :
    s.blitPlace c n * texelBytes (s.get (surfaceK c.dst 1)) + texelBytes (s.get (surfaceK c.dst 1)) ≤ (s.dom (surfaceK c.dst 4)).length := by
  obtain ⟨hn1, hn2⟩ := Blit.nth_lt hn
  have hplace : s.blitPlace c n + 1 ≤ (s.surfaceSize c.dst).1 * (s.surfaceSize c.dst).2 := by
    unfold State.blitPlace
    calc (c.dstY + (c.nth n).2) * (s.surfaceSize c.dst).1 + (c.dstX + (c.nth n).1) + 1
        ≤ (c.dstY + (c.nth n).2) * (s.surfaceSize c.dst).1 + (s.surfaceSize c.dst).1 := by omega
      _ = (s.surfaceSize c.dst).1 * (c.dstY + (c.nth n).2 + 1) := by ring
      _ ≤ (s.surfaceSize c.dst).1 * (s.surfaceSize c.dst).2 := Nat.mul_le_mul_left _ (by omega)
  rw [hlen, ← Nat.succ_mul]
  exact Nat.mul_le_mul_right _ hplace

theorem TexelsDrawn.blitTexel (h : TexelsDrawn s c n u) (hsrc : c.op = 1 → c.src ≠ c.dst) (hn : n < c.dstW * c.dstH) :
    TexelsDrawn s c (n + 1) (u.blitTexel c n) := by
  have hfits := State.blitPlace_fits hx hy hlen hn
  have hdom : (u.blitTexel c n).dom (surfaceK c.dst 4) = patch (u.dom (surfaceK c.dst 4))
      (s.blitPlace c n * texelBytes (s.get (surfaceK c.dst 1))) (leBytes (texelBytes (s.get (surfaceK c.dst 1))) (s.blitWord c n)) := by
    rw [State.blitTexel_eq, State.dom_putDom_self, h.get, h.blitPlace, h.blitWord hsrc]
  refine ⟨?_, fun k hk => ?_, ?_, fun m hm => ?_⟩
  · rw [State.blitTexel_eq]
    exact h.doms
  · rw [State.blitTexel_eq, State.dom_putDom_ne _ hk, h.others k hk]
  · rw [hdom, length_patch_inside (by rw [length_leBytes, h.length]; exact hfits), h.length]
  · rw [hdom]
    rcases Nat.lt_succ_iff_lt_or_eq.1 hm with hlt | rfl
    · rw [surfaceWord_patch_ne (length_leBytes _ _) (by rw [h.length]; exact hfits)
        (State.blitPlace_ne hx hn (Nat.lt_trans hlt hn) (Nat.ne_of_lt hlt)), h.words m hlt]
    · exact surfaceWord_patch_self (by rw [h.length]; exact hfits)

/-- The texels of the whole rectangle. -/
theorem State.texels_drawn (hsrc : c.op = 1 → c.src ≠ c.dst) (hn : n ≤ c.dstW * c.dstH) :
    TexelsDrawn s c n ((List.range n).foldl (fun s n => s.blitTexel c n) s) := by
  induction n with
  | zero => exact ⟨rfl, fun _ _ => rfl, rfl, fun _ h => absurd h (Nat.not_lt_zero _)⟩
  | succ n ih =>
    rw [List.range_succ, List.foldl_append, List.foldl_cons, List.foldl_nil]
    exact (ih (by omega)).blitTexel hx hy hlen hsrc hn

end

/-! ### The end of a command (R287, R295) -/

/-- A surface's content, and whether it was written. -/
abbrev DrawnKept (d : Nat) (s u : State) : Prop :=
  Keeps (fun s => { State.reset with doms := [(0, s.dom (surfaceK d 4))] }) (fun k => k == surfaceK d 5) s u

section

variable {d : Nat} (hd : d < 64) (s : State)

theorem DrawnKept.put {k : Nat} (hk : k ≠ surfaceK d 5) (v : Nat) : DrawnKept d s (s.put k v) :=
  Keeps.put (objs := fun k => k == surfaceK d 5) (beq_eq_false_iff_ne.2 hk) s v fun _ _ => rfl

theorem DrawnKept.of_doms {u : State} (hr : u.regs = s.regs) (h : u.doms = s.doms) : DrawnKept d s u :=
  .of_regs (by simp only [State.dom_congr h]) hr

include hd

theorem DrawnKept.completeBlit (skipped : Bool) : DrawnKept d s (s.completeBlit skipped) := by
  have hk : ∀ k, 0x430000 < k → k ≠ surfaceK d 5 := fun k hk => by unfold surfaceK keyOf; omega
  have hdom : surfaceK d 4 ≠ 0x430004 := by unfold surfaceK keyOf; omega
  have hresult : ∀ b, DrawnKept d s (s.putDom 0x430004 b) := fun b => by
    refine .of_regs ?_ rfl
    dsimp only
    rw [State.dom_putDom_ne _ hdom]
  unfold State.completeBlit
  extract_lets b flags told going _ ended
  refine .trans (u := told) (hresult _) (.ite ?_ ?_)
  · refine .trans (u := going) (.trans (DrawnKept.put told (hk 0x430003 (by decide)) _) (DrawnKept.put _ (hk 0x430005 (by decide)) _)) ?_
    clear_value going
    exact DrawnKept.of_doms going rfl rfl
  · exact .trans (u := ended) (.trans (u := told.put 0x430002 3) (DrawnKept.put told (hk 0x430002 (by decide)) _) (DrawnKept.put _ (hk 0x430006 (by decide)) _))
      (DrawnKept.of_doms ended rfl rfl)

theorem DrawnKept.reachWaits (n : Nat) : DrawnKept d s (reachWaits n s) := by
  induction n generalizing s with
  | zero => exact .refl s
  | succ n ih =>
    unfold Sys2Proof.Machine.reachWaits
    split
    · exact .refl s
    · exact .ite (.refl s) (.ite (.of_regs rfl rfl) (.trans (DrawnKept.completeBlit hd s true) (ih _)))

theorem DrawnKept.endBlit (skipped : Bool) : DrawnKept d s (s.endBlit skipped) :=
  .trans (DrawnKept.completeBlit hd s skipped) (DrawnKept.reachWaits hd _ _)

/-- The surface of a command that has ended is written (R293). -/
theorem State.get_endDraw {c : Blit} (hc : c.dst = d) : (s.endDraw c).get (surfaceK d 5) = 1 := by
  unfold State.endDraw
  rw [hc, (DrawnKept.endBlit hd _ false).2 _ (beq_self_eq_true _), State.get_put_self]
  exact (show ∀ d < 64, 1 % 2 ^ widthOf (surfaceK d 5) = 1 by decide +kernel) d hd

theorem State.dom_endDraw {c : Blit} : (s.endDraw c).dom (surfaceK d 4) = s.dom (surfaceK d 4) :=
  (congrArg (fun s : State => (s.doms.headD (0, [])).2) (DrawnKept.endBlit hd (s.put (surfaceK c.dst 5) 1) false).1 :)

end

/-- A command that ends leaves no texel of the next one drawn. -/
theorem State.completeBlit_done (s : State) (skipped : Bool) : (s.completeBlit skipped).media.blitter.done = 0 := by
  unfold State.completeBlit
  dsimp only
  split <;> rfl

theorem reachWaits_done {s : State} (h : s.media.blitter.done = 0) (n : Nat) : (reachWaits n s).media.blitter.done = 0 := by
  induction n generalizing s with
  | zero => exact h
  | succ n ih =>
    unfold reachWaits
    split
    · exact h
    · split
      · exact h
      · split
        · exact h
        · exact ih (s.completeBlit_done true)

theorem State.endDraw_done (s : State) (c : Blit) : (s.endDraw c).media.blitter.done = 0 := reachWaits_done (State.completeBlit_done _ _) _

/-! ### A command drawn in one step (R291, R293) -/

section

variable {s : State} {c : Blit} {fetch : Nat}

/-- A command that chases no output and has no more than 16,384 texels has them all in its first step. -/
theorem State.stepTexels_all (hchase : c.chase = 0xFF) (hdone : s.media.blitter.done = 0) (harea : c.w * c.h ≤ 16384) (fetch : Nat) :
    s.stepTexels c fetch = List.range (c.dstW * c.dstH) := by
  have hchases : s.chases c = false := by rw [State.chases, hchase]; rfl
  have hfree : ∀ row, s.rowFree c fetch row = true := fun row => by rw [State.rowFree, hchases]; rfl
  unfold State.stepTexels
  dsimp only
  rw [hdone, Nat.sub_zero, Nat.min_eq_right (by rw [Blit.dst_area]; exact harea)]
  simp [hfree]

theorem State.foldl_blitTexel_media (s : State) (c : Blit) (l : List Nat) : (l.foldl (fun s n => s.blitTexel c n) s).media = s.media := by
  induction l generalizing s with
  | nil => rfl
  | cons n l ih => rw [List.foldl_cons, ih, State.blitTexel_eq]; rfl

/-- Such a step, with no tile band in a carver's hand, draws the command's texels and ends it. -/
theorem State.blitStep_draws (hblit : s.blit = some c) (hop : c.op ≠ 3) (hchase : c.chase = 0xFF) (hdone : s.media.blitter.done = 0)
    (hw : 1 ≤ c.w) (hh : 1 ≤ c.h) (harea : c.w * c.h ≤ 16384) (hcarvers : s.lift.carvers.all (fun k => k.band.isNone) = true) (fetch : Nat) :
    ∃ u : State, u.dom (surfaceK c.dst 4) = ((List.range (c.dstW * c.dstH)).foldl (fun s n => s.blitTexel c n) s).dom (surfaceK c.dst 4)
      ∧ s.blitStep fetch = u.endDraw c := by
  have hpos : c.dstW * c.dstH ≠ 0 := by
    rw [Blit.dst_area]
    exact Nat.mul_ne_zero (by omega) (by omega)
  have hchased : (s.media.blitter.done = 0 && c.chase != 0xFF && !s.flatRuns c.chase : Bool) = false := by rw [hchase]; simp
  have hbusy : ∀ f : Carver → Bool, (∀ k, k.band = none → f k = false) → s.lift.carvers.any f = false := fun f hf => by
    rw [List.any_eq_false]
    intro k hk
    rw [hf k (Option.isNone_iff_eq_none.1 (List.all_eq_true.1 hcarvers k hk))]
    exact Bool.false_ne_true
  have hbefore : ∀ (l : List Nat) (r : List Nat), ((l.foldl (fun s n => s.blitTexel c n) s).mark r).media.blitter.done = 0 := fun l r => by
    rw [← hdone]
    exact congrArg (fun m : Media => m.blitter.done) (s.foldl_blitTexel_media c l)
  have hdraws : ∀ (u : State) (m : Media) (x : Surface) (k v : Nat) (r : List Nat),
      ((({ (u.mark r) with media := m } : State).put k v).setSurface c.dst x).dom (surfaceK c.dst 4) = u.dom (surfaceK c.dst 4) :=
    fun _ _ _ _ _ _ => rfl
  unfold State.blitStep
  rw [hblit]
  dsimp only
  rw [if_neg hop]
  simp only [hchased, Bool.false_eq_true, if_false]
  rw [State.stepTexels_all hchase hdone harea, hbusy _ (fun k hk => by rw [hk]), hbefore, Nat.zero_add, List.length_range, if_neg (by simpa using hpos),
    if_neg Bool.false_ne_true, if_pos rfl]
  exact ⟨_, hdraws _ _ _ _ _ _, rfl⟩

/-- A command drawn whole is drawn by its first step. -/
theorem State.draw_eq_blitStep (hblit : s.blit = some c) (hdone : s.media.blitter.done = 0)
    (hafter : (s.blitStep fetch).media.blitter.done = 0) : s.draw_ c.op fetch = s.blitStep fetch := by
  have hlist : s.media.blitter.list.isEmpty = false := by
    unfold State.blit at hblit
    split at hblit
    · obtain ⟨w, hw, -⟩ := Option.map_eq_some_iff.1 hblit
      cases hl : s.media.blitter.list with
      | nil => simp [hl] at hw
      | cons => rfl
    · cases hblit
  have hgo : (s.media.blitter.list.isEmpty || s.media.blitter.current != s.media.blitter.current) = false := by
    rw [hlist, bne_self_eq_false]
    rfl
  unfold State.draw_
  rw [hblit]
  dsimp only
  rw [if_pos rfl]
  unfold drawSteps
  dsimp only
  rw [if_neg (by rw [hgo]; exact Bool.false_ne_true), hafter, hdone, if_pos rfl]

/-- Such a command's texels are its words, and its surface is written. -/
theorem State.blitStep_words (hblit : s.blit = some c) (hop : c.op ≠ 3) (hdst : c.dst < 64) (hchase : c.chase = 0xFF)
    (hdone : s.media.blitter.done = 0) (hw : 1 ≤ c.w) (hh : 1 ≤ c.h) (harea : c.w * c.h ≤ 16384)
    (hcarvers : s.lift.carvers.all (fun k => k.band.isNone) = true) (hx : c.dstX + c.dstW ≤ (s.surfaceSize c.dst).1)
    (hy : c.dstY + c.dstH ≤ (s.surfaceSize c.dst).2)
    (hlen : (s.dom (surfaceK c.dst 4)).length = (s.surfaceSize c.dst).1 * (s.surfaceSize c.dst).2 * texelBytes (s.get (surfaceK c.dst 1)))
    (hsrc : c.op = 1 → c.src ≠ c.dst) (fetch : Nat) :
    (s.blitStep fetch).media.blitter.done = 0 ∧ (s.blitStep fetch).get (surfaceK c.dst 5) = 1 ∧ ∀ i j, i < c.dstW → j < c.dstH →
      surfaceWord ((s.blitStep fetch).dom (surfaceK c.dst 4)) (s.get (surfaceK c.dst 1)) (s.surfaceSize c.dst).1 (c.dstX + i) (c.dstY + j)
        = s.blitWord c (c.rank i j) % 256 ^ texelBytes (s.get (surfaceK c.dst 1)) := by
  obtain ⟨u, hu, hend⟩ := State.blitStep_draws hblit hop hchase hdone hw hh harea hcarvers fetch
  rw [hend]
  refine ⟨State.endDraw_done u c, State.get_endDraw hdst u rfl, fun i j hi hj => ?_⟩
  have hword := (State.texels_drawn hx hy hlen hsrc (Nat.le_refl _)).words _ (Blit.rank_lt hi hj)
  rw [Blit.nth_rank hi hj] at hword
  rw [State.dom_endDraw hdst u, hu]
  exact hword

end

theorem surfaceK_kept {d : Nat} (hd : d < 64) (sub : Nat) (hs : sub < 256) : surfaceK d sub ≠ 0x204005 ∧ surfaceK d sub ≠ 0x201005 := by
  unfold surfaceK keyOf
  omega

/-- A word read from a content is one of its format. -/
theorem surfaceWord_lt (content : Bytes) (f width x y : Nat) : surfaceWord content f width x y < 256 ^ texelBytes f := by
  unfold surfaceWord fieldLE
  refine Nat.lt_of_lt_of_le (leNat_lt _) ?_
  rw [show (256 : Nat) = 2 ^ 8 from rfl, ← Nat.pow_mul]
  exact Nat.pow_le_pow_right (by decide) (Nat.mul_le_mul_left _ (by simp))

/-! ### WAIT LINE and the blitter's fault (R289, R307) -/

theorem reachWaits_results (n : Nat) (s : State) : s.dom 0x430004 <+: (reachWaits n s).dom 0x430004 := by
  have hcomplete : ∀ s : State, s.dom 0x430004 <+: (s.completeBlit true).dom 0x430004 := fun s => by
    unfold State.completeBlit
    extract_lets b flags told going _ ended
    have htold : s.dom 0x430004 <+: told.dom 0x430004 := by
      show s.dom 0x430004 <+: (s.putDom 0x430004 _).dom 0x430004
      rw [State.dom_putDom_self, List.append_assoc, List.append_assoc, List.append_assoc]
      exact List.prefix_append _ _
    have hgoing : going.dom 0x430004 = told.dom 0x430004 := by
      show ((told.put _ _).put _ _).dom _ = _
      rw [State.dom_put, State.dom_put]
    have hended : ended.dom 0x430004 = told.dom 0x430004 := rfl
    clear_value going ended told
    split
    · exact hgoing ▸ htold
    · exact hended ▸ htold
  induction n generalizing s with
  | zero => exact List.prefix_rfl
  | succ n ih =>
    unfold reachWaits
    split
    · exact List.prefix_rfl
    · split
      · exact List.prefix_rfl
      · split
        · exact List.prefix_rfl
        · exact (hcomplete s).trans (ih _)

theorem State.completeBlit_results {s : State} (h : s.media.blitter.chaseFlag = false) :
    (s.completeBlit false).dom 0x430004
      = s.dom 0x430004 ++ leBytes 8 s.ptp ++ leBytes 8 s.media.blitter.watermark ++ List.replicate 8 0 := by
  have hflags : leBytes 1 ((if false = true then 1 else 0) + (if s.media.blitter.chaseFlag = true then 2 else 0)) ++ List.replicate 7 0
      = List.replicate 8 0 := by rw [h]; rfl
  rw [← hflags, ← List.append_assoc]
  unfold State.completeBlit
  extract_lets b flags told going _ ended
  have htold : told.dom 0x430004 = s.dom 0x430004 ++ leBytes 8 s.ptp ++ leBytes 8 b.watermark ++ leBytes 1 flags ++ List.replicate 7 0 :=
    State.dom_putDom_self s 0x430004 _
  have hgoing : going.dom 0x430004 = told.dom 0x430004 := by
    show ((told.put _ _).put _ _).dom _ = _
    rw [State.dom_put, State.dom_put]
  have hended : ended.dom 0x430004 = told.dom 0x430004 := rfl
  clear_value going ended told
  split
  · exact hgoing.trans htold
  · exact hended.trans htold

/-- An output that runs goes on running as time passes. -/
theorem State.flatRuns_begin {s : State} {k : Nat} (h : s.flatRuns k = true) (t : Nat) : (s.begin t).flatRuns k = true := by
  unfold State.flatRuns State.flatState at h ⊢
  dsimp only at h ⊢
  rw [State.get_begin, State.begin_media, State.begin_now]
  rw [beq_iff_eq] at h ⊢
  split at h
  next hresume => rw [if_pos ⟨hresume.1, Nat.le_trans hresume.2 (Nat.le_max_left _ _)⟩]
  next =>
    rw [if_neg (by omega)]
    exact h

theorem State.failBlitter_out {s : State} (h : s.get 0x430007 ≠ 0) :
    s.failBlitter.get 0x430007 = 0 ∧ s.failBlitter.media.blitter = {}
      ∧ s.failBlitter.get 0x430002 = if s.get 0x430002 = 1 ∨ s.get 0x430002 = 2 then 4 else s.get 0x430002 := by
  unfold State.failBlitter
  rw [if_neg h]
  extract_lets off ended _ idle
  have hstate : off.get 0x430002 = s.get 0x430002 := State.get_put_ne s (by decide) 0
  have hoff : off.get 0x430007 = 0 := (State.get_put_self s 0x430007 0).trans (Nat.zero_mod _)
  have hended : ended.get 0x430007 = 0
      ∧ ended.get 0x430002 = if s.get 0x430002 = 1 ∨ s.get 0x430002 = 2 then 4 else s.get 0x430002 := by
    show State.get (if _ then _ else _) _ = _ ∧ State.get (if _ then _ else _) _ = _
    rw [hstate]
    split
    · exact ⟨(State.get_put_ne off (by decide) 4).trans hoff, (State.get_put_self off 0x430002 4).trans (by decide +kernel)⟩
    · exact ⟨hoff, hstate⟩
  rw [State.get_raiseCore _ _ _ _ _ (by decide), State.get_raiseCore _ _ _ _ _ (by decide), State.raiseCore_media]
  exact ⟨hended.1, rfl, hended.2⟩

/-- Settles O44: a command of no more than 16,384 texels that chases nothing is drawn by its first step, texel by texel, each texel of the
rectangle having one place in the order. -/
theorem blitsDraw : Obligations.BlitsDraw := by
  intro s t
  refine ⟨fun c hblit hdst hchase hdone hw hh harea hcarvers hx hy hlen => ⟨fun hop => ?_, fun hop hsrc fetch => ?_⟩,
    fun c hblit hop hchase hruns => ?_, fun hup => ?_⟩
  · have hwords := State.blitStep_words (s := s.begin t) hblit (by omega) hdst hchase hdone hw hh harea hcarvers hx hy hlen (by omega)
    have hfill : ∀ i j, (s.begin t).blitWord c (c.rank i j) = fillWord (s.get (surfaceK c.dst 1)) c.colour := fun i j => by
      rw [State.blitWord, if_neg (by omega)]
      rfl
    obtain ⟨h5, h5'⟩ := surfaceK_kept hdst 5 (by decide)
    refine ⟨fun fetch => ?_, fun fetch => ?_⟩
    · obtain ⟨hafter, hwritten, hword⟩ := hwords fetch
      rw [exec_fill]
      refine answers_act ?_
      dsimp only
      rw [State.get_finish _ _ _ h5 h5', State.dom_finish]
      have hdraw := State.draw_eq_blitStep (s := s.begin t) hblit hdone hafter
      rw [hop] at hdraw
      rw [hdraw]
      exact ⟨hwritten, fun i j hi hj => (hword i j hi hj).trans (by rw [hfill]; rfl)⟩
    · obtain ⟨-, hwritten, hword⟩ := hwords fetch
      rw [exec_blitStep]
      refine answers_act ?_
      rw [State.get_finish _ _ _ h5 h5', State.dom_finish]
      exact ⟨hwritten, fun i j hi hj => (hword i j hi hj).trans (by rw [hfill]; rfl)⟩
  · obtain ⟨hafter, hwritten, hword⟩ := State.blitStep_words (s := s.begin t) hblit (by omega) hdst hchase hdone hw hh harea hcarvers hx hy
      hlen (fun _ => hsrc) fetch
    obtain ⟨h5, h5'⟩ := surfaceK_kept hdst 5 (by decide)
    rw [exec_copy]
    refine answers_act ?_
    dsimp only
    rw [State.get_finish _ _ _ h5 h5', State.dom_finish]
    have hdraw := State.draw_eq_blitStep (s := s.begin t) hblit hdone hafter
    rw [hop] at hdraw
    rw [hdraw]
    refine ⟨hwritten, fun i j hi hj => (hword i j hi hj).trans ?_⟩
    rw [State.blitWord, if_pos hop, Blit.nth_rank hi hj]
    exact Nat.mod_eq_of_lt (surfaceWord_lt _ _ _ _ _)
  · have hblit' : (s.begin t).blit = some c := hblit
    rw [exec_waitLine]
    refine answers_act ?_
    rw [State.dom_finish]
    unfold State.waitLine
    rw [hblit']
    dsimp only
    rw [if_pos ⟨hop, State.flatRuns_begin hruns t, rfl⟩]
    have hresult := State.completeBlit_results (s := s.begin t) hchase
    exact hresult ▸ reachWaits_results _ _
  · obtain ⟨hout, hblitter, hstate⟩ := State.failBlitter_out (s := s.begin t) hup
    rw [exec_blitterFault]
    refine answers_act ?_
    rw [State.get_finish _ _ _ (by decide) (by decide), State.get_finish _ _ _ (by decide) (by decide), State.finish_media]
    exact ⟨hout, hblitter, hstate⟩

end Sys2Proof.Machine
end

section
set_option Elab.async false
/-!
PROOFS. Update rectangles, UPDATE, PRESENT and DISCARD_STAGED packets (R160, R161, R163, R164, R178, R182; O32).
-/

namespace Sys2Proof.Machine

/-! ### What packets leave of the link's state (R154) -/

/-- A link without its lanes, its packets and its open READs. -/
def Link.sansPackets (l : Link) : Link := { l.sansLanes with nextSeq := 0, retry := [], reads := [], nextTag := 0, waiting := [] }

section

variable (s : State)

theorem State.linkSend_picture (p : Packet) : (s.linkSend p).link.sansPackets = s.link.sansPackets := by
  unfold State.linkSend
  split_ifs
  · rfl
  · exact (congrArg Link.sansPackets (s.linkEmitAs_link (s.get 0x48000C) p) :)
  · rfl

theorem State.linkControl_picture (command module argument : Nat) (payload : Bytes) :
    (s.linkControl command module argument payload).link.sansPackets = s.link.sansPackets := s.linkSend_picture _

theorem State.linkRead_picture (code module argument expected : Nat) (known : Bool) (frame : Option Nat) :
    (s.linkRead code module argument expected known frame).link.sansPackets = s.link.sansPackets :=
  (State.linkSend_picture _ _).trans rfl

end

section

variable {s : State}

/-- A link with room for a packet and a smaller one has room for the smaller one once the packet is sent. -/
theorem State.canSend_linkSend {n m : Nat} (h : s.canSend n = true) (hcount : s.link.retry.length < 16383) {p : Packet}
    (hp : p.payload.length + 22 + m ≤ n) : (s.linkSend p).canSend m = true := by
  rw [s.linkSend_of_canSend h (by omega)]
  have hretry : (s.linkEmit p).link.retry = s.link.retry ++ [s.stamped (s.get 0x48000C) p] := (s.linkEmitAs_sent _ p).1
  have hlink := s.linkEmitAs_link (s.get 0x48000C) p
  have htrained : (s.linkEmit p).link.trained = s.link.trained := (congrArg Link.trained hlink :)
  have hwaiting : (s.linkEmit p).link.waiting = s.link.waiting := (congrArg Link.waiting hlink :)
  have hstate : (s.linkEmit p).get 0x480001 = s.get 0x480001 := State.get_linkEmit _ _ (by decide)
  have hpaired : (s.linkEmit p).get 0x230001 = s.get 0x230001 := State.get_linkEmit _ _ (by decide)
  have hheld : heldBytes (s.link.retry ++ [s.stamped (s.get 0x48000C) p]) = heldBytes s.link.retry + (p.payload.length + 22) := by
    simp [heldBytes, Packet.framed, State.stamped]
  simp only [State.canSend, State.linkUp, State.acting, State.paired, State.usable_congr (State.linkEmit_stages s p) (State.linkEmit_power s p),
    htrained, hwaiting, hstate, hpaired, State.linkEmit_pair, hretry, hheld, Bool.and_eq_true, decide_eq_true_eq, List.length_append,
    List.length_singleton] at h ⊢
  obtain ⟨⟨⟨⟨hup, hacting⟩, hempty⟩, hroom⟩, -⟩ := h
  exact ⟨⟨⟨⟨hup, hacting⟩, hempty⟩, by omega⟩, by omega⟩

end

/-! ### PRESENT (R163, R178, R182) -/

section

variable (s : State)

/-- A run of tiles expected on the panel changes the expectation alone. -/
theorem State.foldl_expect (tile fmt : Claim → Nat) (cs : List Claim) :
    cs.foldl (fun (s : State) c => s.expect (tile c) (fmt c) c.codes) s = { s with care := { s.care with
      expected := cs.foldl (fun e c => insertKey (tile c) (tileChecksum (tileHeld (fmt c) c.codes)) e) s.care.expected } } := by
  induction cs generalizing s with
  | nil => rfl
  | cons c cs ih => rw [List.foldl_cons, ih]; rfl

/-- A run of changes of owners changes the claims alone. -/
theorem State.foldl_mapOwner {α : Type} (tile : α → Nat) (f : Claim → Claim) (l : List α) :
    l.foldl (fun (s : State) x => s.setClaims (mapOwner (tile x) f s.link.claims)) s
      = s.setClaims (l.foldl (fun cs x => mapOwner (tile x) f cs) s.link.claims) := by
  induction l generalizing s with
  | nil => rfl
  | cons x l ih => rw [List.foldl_cons, ih]; rfl

/-- The state that a PRESENT of a frame leaves, but for its packets. -/
def State.presented (s : State) (f : Nat) (owed : Bool) : State :=
  let s := if s.link.atomic then s.sendBand f else s
  let mine := s.link.claims.filter fun c => c.atomic && !c.shown && (c.state == .sent || c.state == .staged)
  let fmt := fun (c : Claim) => ((s.rectOf c.rect).map (·.format)).getD 0
  let s := mine.foldl (fun s c => s.expect c.tile (fmt c) c.codes) s
  let s := mine.foldl (fun (s : State) c => s.setClaims (mapOwner c.tile (fun o => { o with shown := true }) s.link.claims)) s
  { s with link := { s.link with
      toPresent := if owed then s.link.toPresent.drop 1 else s.link.toPresent, fallenBack := []
      rerendered := if f = s.get 0x285004 then [] else s.link.rerendered } }

theorem State.present_eq (f : Nat) (owed : Bool) : s.present f owed = (s.presented f owed).linkSend (packetOf 2 0xFF f []) := rfl

theorem State.sendBand_toPresent (f : Nat) : (s.sendBand f).link.toPresent = s.link.toPresent := by
  unfold State.sendBand
  extract_lets
  split
  · rfl
  · exact (congrArg Link.toPresent (State.linkSend_picture _ _) :)

theorem SentStays.sendBand (f : Nat) : SentStays s (s.sendBand f) := by
  unfold State.sendBand
  extract_lets
  split
  · exact .of_link rfl List.prefix_rfl
  · exact SentStays.linkSend s _

variable {s}

/-- A BAND leaves room for the PRESENT that follows it. -/
theorem State.canSend_sendBand (h : s.canSend 92 = true) (hcount : s.link.retry.length < 16383) (hmodules : s.care.modules.length ≤ 64) (f : Nat) :
    (s.sendBand f).canSend 0 = true := by
  unfold State.sendBand
  extract_lets mods all bands p
  have hbands : (bands.flatMap fun b => leBytes 1 b).length ≤ 64 := by
    have hlen : bands.length ≤ 64 := by simpa [bands, mods] using hmodules
    simpa [List.length_flatMap] using hlen
  clear_value all bands
  split
  · simp only [State.canSend, Bool.and_eq_true, decide_eq_true_eq] at h ⊢
    obtain ⟨hup, hroom⟩ := h
    exact ⟨⟨hup.1, by omega⟩, hroom⟩
  · exact State.canSend_linkSend (m := 0) h hcount (by dsimp only [packetOf]; omega)

theorem State.canSend_withLink (u : State) (e : Care) {l : Link} (hretry : l.retry = u.link.retry) (htrained : l.trained = u.link.trained)
    (hwaiting : l.waiting = u.link.waiting) (n : Nat) : State.canSend { u with care := e, link := l } n = u.canSend n := by
  unfold State.canSend State.linkUp
  dsimp only
  rw [hretry, htrained, hwaiting]
  rfl

/-- What is left of the link once a PRESENT's claims are shown. -/
theorem State.presented_link (s : State) (f : Nat) (owed : Bool) :
    ((s.presented f owed).link.retry = (if s.link.atomic then s.sendBand f else s).link.retry)
      ∧ (s.presented f owed).out = (if s.link.atomic then s.sendBand f else s).out
      ∧ (s.presented f owed).link.toPresent = (if owed then s.link.toPresent.drop 1 else s.link.toPresent)
      ∧ (∀ n, (s.presented f owed).canSend n = (if s.link.atomic then s.sendBand f else s).canSend n) := by
  unfold State.presented
  extract_lets u mine fmt shown claimed
  have hu : u.link.toPresent = s.link.toPresent := by
    show (if _ then _ else _ : State).link.toPresent = _
    split
    · exact s.sendBand_toPresent f
    · rfl
  obtain ⟨e, cs, hclaimed⟩ : ∃ e cs, claimed = { u with care := e, link := { u.link with claims := cs } } := by
    have hshown : shown = _ := u.foldl_expect _ _ mine
    exact ⟨shown.care, _, (shown.foldl_mapOwner _ _ mine).trans (by rw [hshown]; rfl)⟩
  have heq : (if s.link.atomic then s.sendBand f else s) = u := rfl
  simp only [heq]
  clear_value u claimed
  subst hclaimed
  exact ⟨rfl, rfl, by rw [← hu], fun n => State.canSend_withLink u e rfl rfl rfl n⟩

theorem State.presented_fallenBack (s : State) (f : Nat) (owed : Bool) : (s.presented f owed).link.fallenBack = [] := rfl

/-- A PRESENT keeps what was sent before it. -/
theorem SentStays.present (s : State) (f : Nat) (owed : Bool) : SentStays s (s.present f owed) := by
  obtain ⟨hretry, hout, -, -⟩ := s.presented_link f owed
  have hband : SentStays s (if s.link.atomic then s.sendBand f else s) := by
    split
    · exact SentStays.sendBand s f
    · exact .of_link rfl List.prefix_rfl
  rw [State.present_eq]
  refine hband.trans (.trans ⟨fun p hp => ?_, ?_⟩ (SentStays.linkSend _ _))
  · rw [hretry]
    exact hp
  · unfold OutGrows
    rw [hout]

theorem State.present_link (s : State) (f : Nat) (owed : Bool) :
    (s.present f owed).link.toPresent = (if owed then s.link.toPresent.drop 1 else s.link.toPresent) ∧ (s.present f owed).link.fallenBack = [] := by
  have hpicture := (s.presented f owed).linkSend_picture (packetOf 2 0xFF f [])
  obtain ⟨-, -, hpresent, -⟩ := s.presented_link f owed
  rw [State.present_eq]
  exact ⟨((congrArg Link.toPresent hpicture :)).trans hpresent, (congrArg Link.fallenBack hpicture :)⟩

/-- With room for a BAND and a PRESENT, the PRESENT is sent. -/
theorem State.present_sent {s : State} (h : s.canSend 92 = true) (hcount : s.link.retry.length < 16383) (hmodules : s.care.modules.length ≤ 64)
    (f : Nat) (owed : Bool) : (s.present f owed).sentPacket 2 0xFF f [] := by
  obtain ⟨-, -, -, hsend⟩ := s.presented_link f owed
  rw [State.present_eq]
  refine State.linkSend_sent (n := 0) _ ?_ (Nat.le_refl _)
  rw [hsend]
  split
  · exact State.canSend_sendBand h hcount hmodules f
  · simp only [State.canSend, Bool.and_eq_true, decide_eq_true_eq] at h ⊢
    obtain ⟨hup, hroom⟩ := h
    exact ⟨⟨hup.1, by omega⟩, hroom⟩

/-- A PRESENT whose frame holds nothing back is sent, and leaves the frame. -/
theorem State.sendPresent_sent {s : State} (h : s.canSend 92 = true) (hcount : s.link.retry.length < 16383)
    (hmodules : s.care.modules.length ≤ 64) (hfree : s.holdsBack s.nextPresent = false) :
    s.sendPresent.sentPacket 2 0xFF s.nextPresent [] ∧ s.sendPresent.link.toPresent = s.link.toPresent.drop 1
      ∧ s.sendPresent.link.fallenBack = [] := by
  have hsent := State.present_sent h hcount hmodules s.nextPresent true
  obtain ⟨hpresent, hfallen⟩ := s.present_link s.nextPresent true
  unfold State.sendPresent
  dsimp only
  rw [State.linkUp_of_canSend _ h, hfree, if_neg (by decide), if_neg Bool.false_ne_true]
  split
  · obtain ⟨hpresent', hfallen'⟩ := (s.present s.nextPresent true).present_link (s.get 0x285004) false
    exact ⟨(SentStays.present _ _ false).sentPacket hsent, hpresent'.trans hpresent, hfallen'⟩
  · exact ⟨hsent, hpresent, hfallen⟩

/-! ### The checks that follow a PRESENT (R173, R181) -/

/-- What was sent stays, and so does the link's state but for its packets. -/
def PacketsOnly (s u : State) : Prop := SentStays s u ∧ u.link.sansPackets = s.link.sansPackets

section

variable {s u w : State}

theorem PacketsOnly.trans (h : PacketsOnly s u) (h' : PacketsOnly u w) : PacketsOnly s w := ⟨h.1.trans h'.1, h'.2.trans h.2⟩

theorem PacketsOnly.of_eq (hlink : u.link = s.link := by rfl) (hout : u.out = s.out := by rfl) : PacketsOnly s u :=
  ⟨.of_link hlink (by unfold OutGrows; rw [hout]), congrArg Link.sansPackets hlink⟩

theorem PacketsOnly.ite {c : Prop} [Decidable c] (h : PacketsOnly s u) (h' : PacketsOnly s w) : PacketsOnly s (if c then u else w) := by
  split
  · exact h
  · exact h'

theorem PacketsOnly.foldl {α : Type} {step : State → α → State} (h : ∀ s x, PacketsOnly s (step s x)) (l : List α) (s : State) :
    PacketsOnly s (l.foldl step s) := by
  induction l generalizing s with
  | nil => exact .of_eq
  | cons x l ih => exact (h s x).trans (ih _)

variable (s)

theorem PacketsOnly.setWindow (m slot column row columns rows : Nat) : PacketsOnly s (s.setWindow m slot column row columns rows) :=
  ⟨SentStays.linkSend s _, s.linkControl_picture _ _ _ _⟩

theorem PacketsOnly.timeChecks (frame : Nat) : PacketsOnly s (s.timeChecks frame) := .ite .of_eq .of_eq

theorem PacketsOnly.readWindow (frame m slot column row columns rows : Nat) : PacketsOnly s (s.readWindow frame m slot column row columns rows) :=
  .trans (PacketsOnly.timeChecks s frame) ⟨SentStays.linkRead _ _ _ _ _ _ _, State.linkRead_picture _ _ _ _ _ _ _⟩

theorem PacketsOnly.recordCheck (m slot expected reported frame outcome : Nat) :
    PacketsOnly s (s.recordCheck m slot expected reported frame outcome) := by
  unfold State.recordCheck
  extract_lets _ kept counted
  have hcounted : PacketsOnly kept counted := .ite .of_eq .of_eq
  exact .trans (u := kept) .of_eq (hcounted.trans (.ite .of_eq (.ite .of_eq .of_eq)))

theorem PacketsOnly.failHostCheck : PacketsOnly s s.failHostCheck := by
  unfold State.failHostCheck
  split
  · exact .trans (PacketsOnly.timeChecks s _) (PacketsOnly.recordCheck _ _ _ _ _ _ _)
  · exact .of_eq

theorem PacketsOnly.hostCheckNow (frame : Nat) : PacketsOnly s (s.hostCheckNow frame) := by
  unfold State.hostCheckNow
  split
  · refine .ite .of_eq (.trans (.trans ?_ (PacketsOnly.setWindow _ _ _ _ _ _ _)) (PacketsOnly.readWindow _ _ _ _ _ _ _ _))
    exact .of_eq
  · exact .of_eq

theorem PacketsOnly.startChecks (frame : Nat) : PacketsOnly s (s.startChecks frame) := by
  unfold State.startChecks
  extract_lets _ begun ms written _ marked checked
  have hwritten : PacketsOnly begun written :=
    .ite .of_eq (PacketsOnly.foldl (fun s m => PacketsOnly.foldl (fun s w => PacketsOnly.setWindow s _ _ _ _ _ _) _ _) _ _)
  have hchecked : PacketsOnly written checked := .trans (u := marked) .of_eq (PacketsOnly.hostCheckNow _ _)
  refine .trans (u := begun) .of_eq (.ite (PacketsOnly.failHostCheck _) (.ite (PacketsOnly.hostCheckNow _ _) (.trans (hwritten.trans hchecked) ?_)))
  exact PacketsOnly.foldl (fun s m => .trans (PacketsOnly.foldl (fun s w => PacketsOnly.readWindow s _ _ _ _ _ _ _) _ _)
    (PacketsOnly.readWindow _ _ _ _ _ _ _ _)) _ _

theorem PacketsOnly.startDueChecks : PacketsOnly s s.startDueChecks := PacketsOnly.foldl (fun s f => PacketsOnly.startChecks s f) _ s

end

end

/-! ### Update rectangles and their claims (R160, R161) -/

theorem State.mirrorSend_link (s : State) (b : Bytes) : (s.mirrorSend b).link = s.link := by
  unfold State.mirrorSend
  split
  · exact State.twinSend_link _ _ _ _
  · rfl

theorem State.mirrorSend_scene (s : State) (b : Bytes) : (s.mirrorSend b).scene = s.scene := by
  unfold State.mirrorSend
  split
  · exact State.twinSend_scene _ _ _ _
  · rfl

/-- A tile's claim of a rectangle waits for its codes. -/
def State.claimed (s : State) (n x : Nat) : Prop := ∃ c ∈ s.link.claims, c.tile = x ∧ c.rect = n ∧ c.state = .queued

/-- The claims and the tiles that are marked changed stay, and so does a rectangle. -/
structure ClaimsStay (r : Rect) (s u : State) : Prop where
  claims : u.link.claims = s.link.claims
  changed : u.scene.changed = s.scene.changed
  rect : r ∈ s.link.rects → r ∈ u.link.rects

section

variable {s u w : State} {r : Rect}

theorem ClaimsStay.trans (h : ClaimsStay r s u) (h' : ClaimsStay r u w) : ClaimsStay r s w :=
  ⟨h'.claims.trans h.claims, h'.changed.trans h.changed, fun hr => h'.rect (h.rect hr)⟩

theorem ClaimsStay.of_link (hlink : u.link = s.link) (hscene : u.scene = s.scene) : ClaimsStay r s u :=
  ⟨by rw [hlink], by rw [hscene], fun hr => by rwa [hlink]⟩

theorem State.dropMeasured_kept (s : State) (t : Nat) : (s.dropMeasured t).link = s.link ∧ (s.dropMeasured t).scene = s.scene := by
  unfold State.dropMeasured
  dsimp only
  generalize List.range 8 = l
  induction l generalizing s with
  | nil => exact ⟨rfl, rfl⟩
  | cons p l ih => exact ih _

/-- A rectangle with a claim on a tile is not freed. -/
theorem ClaimsStay.freeRect {x : Nat} (h : s.claimed r.no x) (n : Nat) : ClaimsStay r s (s.freeRect n) := by
  obtain ⟨c, hc, -, hno, -⟩ := h
  unfold State.freeRect
  split
  · exact .of_link rfl rfl
  · split
    · exact .of_link rfl rfl
    next hnone =>
      refine ⟨by rw [State.mirrorSend_link], by rw [State.mirrorSend_scene], fun hr => ?_⟩
      rw [State.mirrorSend_link]
      refine List.mem_filter.2 ⟨hr, bne_iff_ne.2 fun e => hnone ?_⟩
      exact List.any_eq_true.2 ⟨c, hc, beq_iff_eq.2 (hno.trans e)⟩

theorem State.claimed_congr (h : u.link.claims = s.link.claims) {n x : Nat} (hs : s.claimed n x) : u.claimed n x := by
  unfold State.claimed
  rwa [h]

/-- Rectangles left by the claims that a new one supersedes. -/
theorem ClaimsStay.foldl_freeRect {x t : Nat} (gone : List Claim) (h : s.claimed r.no x) :
    ClaimsStay r s (gone.foldl (fun (s : State) c =>
      match s.rectOf c.rect with | some x => (s.mirrorTile 3 t x).freeRect c.rect | none => s) s) := by
  induction gone generalizing s with
  | nil => exact .of_link rfl rfl
  | cons c gone ih =>
    rw [List.foldl_cons]
    have hstep : ClaimsStay r s (match s.rectOf c.rect with | some x => (s.mirrorTile 3 t x).freeRect c.rect | none => s) := by
      split
      next y _ =>
        have hmirror : ClaimsStay r s (s.mirrorTile 3 t y) := .of_link (State.mirrorSend_link s _) (State.mirrorSend_scene s _)
        exact hmirror.trans (ClaimsStay.freeRect (State.claimed_congr hmirror.claims h) _)
      · exact .of_link rfl rfl
    exact hstep.trans (ih (State.claimed_congr hstep.claims h))

theorem State.ownerOf_congr (h : u.link.claims = s.link.claims) (x : Nat) : u.ownerOf x = s.ownerOf x := by
  unfold State.ownerOf
  rw [h]

theorem State.ownerOf_append_ne {x : Nat} {c : Claim} (h : c.tile ≠ x) (cs : List Claim) :
    (s.setClaims (cs ++ [c])).ownerOf x = (s.setClaims cs).ownerOf x := by
  show List.find? _ (cs ++ [c]) = List.find? _ cs
  rw [List.find?_append, List.find?_cons_of_neg (by simpa using h), List.find?_nil, Option.or_none]

/-- A rectangle's claim on a tile that has none, or has one of the rectangle: the tile is claimed, and claims on others stay. -/
structure TileClaimed (r : Rect) (t : Nat) (s u : State) : Prop where
  rect : r ∈ u.link.rects
  claimed : u.claimed r.no t
  others : ∀ x, s.claimed r.no x → u.claimed r.no x
  free : ∀ x, x ≠ t → s.ownerOf x = none → u.ownerOf x = none
  changed : u.scene.changed = s.scene.changed

theorem State.claimTile_claimed (hr : r ∈ s.link.rects) {t : Nat} (h : s.ownerOf t = none ∨ s.claimed r.no t) :
    TileClaimed r t s (s.claimTile r t) := by
  unfold State.claimTile
  extract_lets new gone waits
  have hmem (c : Claim) (hc : c ∈ s.link.claims) (e : Claim) : c ∈ s.link.claims ++ [e] := List.mem_append_left _ hc
  split
  · exact ⟨hr, ⟨new, List.mem_append_right _ (List.mem_singleton_self _), rfl, rfl, rfl⟩,
      fun x ⟨c, hc, hclaim⟩ => ⟨c, hmem c hc new, hclaim⟩, fun x hx hnone => (State.ownerOf_append_ne (Ne.symm hx) _).trans hnone, rfl⟩
  next o howner =>
    have hclaimed : s.claimed r.no t := h.resolve_left fun e => by simp [e] at howner
    split
    · extract_lets dropped replaced left
      have hdropped : dropped.link = s.link ∧ dropped.scene = s.scene := by
        show State.link (if _ then _ else _) = _ ∧ State.scene (if _ then _ else _) = _
        split
        · exact ⟨rfl, rfl⟩
        · exact s.dropMeasured_kept t
      obtain ⟨hlink, hscene⟩ := hdropped
      have hclaims : replaced.link.claims = s.link.claims.filter (fun c => c.tile != t) ++ [new] := by
        show dropped.link.claims.filter (fun c => c.tile != t) ++ [new] = _
        rw [hlink]
      have hnew : replaced.claimed r.no t :=
        ⟨new, by rw [hclaims]; exact List.mem_append_right _ (List.mem_singleton_self _), rfl, rfl, rfl⟩
      have hleft : ClaimsStay r replaced left := ClaimsStay.foldl_freeRect gone hnew
      have hkept : ClaimsStay r replaced (left.bump 0x4A0004) := hleft.trans (.of_link rfl rfl)
      have hrect : r ∈ replaced.link.rects := by
        show r ∈ dropped.link.rects
        rwa [hlink]
      refine ⟨hkept.rect hrect, State.claimed_congr hkept.claims hnew, fun x ⟨c, hc, htile, hclaim⟩ => ?_, fun x hx hnone => ?_,
        hkept.changed.trans (congrArg Scene.changed hscene)⟩
      · by_cases hx : x = t
        · rw [hx]
          exact State.claimed_congr hkept.claims hnew
        · refine State.claimed_congr hkept.claims ⟨c, ?_, htile, hclaim⟩
          rw [hclaims]
          exact List.mem_append_left _ (List.mem_filter.2 ⟨hc, by simpa [htile] using hx⟩)
      · rw [State.ownerOf_congr hkept.claims]
        unfold State.ownerOf at hnone ⊢
        rw [List.find?_eq_none] at hnone
        rw [hclaims, List.find?_eq_none]
        intro c hc
        rcases List.mem_append.1 hc with hc | hc
        · exact hnone c (List.mem_filter.1 hc).1
        · rw [List.mem_singleton.1 hc]
          simpa using Ne.symm hx
    · have hwaits : TileClaimed r t s waits := ⟨hr,
        let ⟨c, hc, hclaim⟩ := hclaimed
        ⟨c, hmem c hc _, hclaim⟩, fun x ⟨c, hc, hclaim⟩ => ⟨c, hmem c hc _, hclaim⟩,
        fun x hx hnone => (State.ownerOf_append_ne (c := { new with state := .waiting }) (Ne.symm hx) _).trans hnone, rfl⟩
      split
      · exact hwaits
      · exact ⟨hwaits.rect, hwaits.claimed, hwaits.others, hwaits.free, hwaits.changed⟩

/-- A rectangle's claims on a list of tiles. -/
theorem State.foldl_claimTile (l : List Nat) {s : State} (hr : r ∈ s.link.rects) (h : ∀ x ∈ l, s.ownerOf x = none ∨ s.claimed r.no x) :
    r ∈ (l.foldl (fun s t => s.claimTile r t) s).link.rects
      ∧ (∀ x, x ∈ l ∨ s.claimed r.no x → (l.foldl (fun s t => s.claimTile r t) s).claimed r.no x)
      ∧ (l.foldl (fun s t => s.claimTile r t) s).scene.changed = s.scene.changed := by
  induction l generalizing s with
  | nil => exact ⟨hr, fun x hx => hx.resolve_left (by simp), rfl⟩
  | cons t l ih =>
    have hstep := State.claimTile_claimed hr (h t (by simp))
    obtain ⟨hrect, hclaimed, hchanged⟩ := ih hstep.rect fun x hx => by
      by_cases he : x = t
      · exact .inr (he ▸ hstep.claimed)
      · exact (h x (by simp [hx])).imp (hstep.free x he) (hstep.others x)
    rw [List.foldl_cons]
    refine ⟨hrect, fun x hx => hclaimed x ?_, hchanged.trans hstep.changed⟩
    rcases hx with hx | hx
    · rcases List.mem_cons.1 hx with rfl | hx
      · exact .inr hstep.claimed
      · exact .inl hx
    · exact .inr (hstep.others x hx)

end

/-- Changed tiles that pass become a rectangle with a claim on each (R160). -/
theorem State.allocate_rect {s : State} {m column row columns rows n : Nat} (hup : s.linkUp = true) (hacting : s.acting = true)
    (hmap : s.mapServes = true) (hmodule : s.modulePresent m = true) (hyield : s.pair.yieldingSince = none) (hcolumns : 1 ≤ columns)
    (hrows : 1 ≤ rows) (hx : column + columns ≤ 120) (hy : row + rows ≤ 135)
    (htiles : ∀ x ∈ s.moduleTiles m column row columns rows, x ∈ s.scene.taken ∧ (∃ c ∈ s.scene.changed, c.1 = x) ∧ s.ownerOf x = none
      ∧ s.classOf x = s.classOf ((s.moduleTiles m column row columns rows).headD 0))
    (hfree : s.freeNumber (s.classOf ((s.moduleTiles m column row columns rows).headD 0)) = some n) :
    (∃ r ∈ (s.allocate m column row columns rows).link.rects, r.no = n ∧ r.module = m ∧ r.column = column ∧ r.row = row ∧ r.columns = columns
        ∧ r.rows = rows ∧ r.frame = s.get 0x285004)
      ∧ ∀ x ∈ s.moduleTiles m column row columns rows, (s.allocate m column row columns rows).claimed n x
        ∧ ∀ c ∈ (s.allocate m column row columns rows).scene.changed, c.1 ≠ x := by
  unfold State.allocate
  extract_lets tiles ready cls
  have hready : ready = true := List.all_eq_true.2 fun x hx => by
    obtain ⟨htaken, ⟨c, hc, hcx⟩, -⟩ := htiles x hx
    simp only [Bool.and_eq_true, List.contains_iff_mem, List.any_eq_true]
    exact ⟨htaken, c, hc, beq_iff_eq.2 hcx⟩
  have hclass : (tiles.all fun t => s.classOf t == cls) = true := List.all_eq_true.2 fun x hx => beq_iff_eq.2 (htiles x hx).2.2.2
  have hpass : (s.linkUp && s.acting && s.mapServes && s.modulePresent m && s.pair.yieldingSince.isNone
      && decide (1 ≤ columns ∧ 1 ≤ rows ∧ column + columns ≤ 120 ∧ row + rows ≤ 135)
      && ready && tiles.all fun t => s.classOf t == cls) = true := by
    rw [hup, hacting, hmap, hmodule, hyield, hready, hclass, decide_eq_true (⟨hcolumns, hrows, hx, hy⟩ : _ ∧ _)]
    rfl
  rw [hpass, if_neg (by decide), show s.freeNumber cls = some n from hfree]
  dsimp -zeta only
  extract_lets r begun
  have hmirrored : (begun.mirrorSend (mirrorRecord 1 r)).link = begun.link := State.mirrorSend_link _ _
  have hrect : r ∈ (begun.mirrorSend (mirrorRecord 1 r)).link.rects := by
    rw [hmirrored]
    exact List.mem_append_right _ (List.mem_singleton_self _)
  obtain ⟨hr, hclaimed, hchanged⟩ := State.foldl_claimTile tiles hrect fun x hx => .inl (by
    rw [State.ownerOf_congr (congrArg Link.claims hmirrored)]
    exact (htiles x hx).2.2.1)
  refine ⟨⟨r, hr, rfl, rfl, rfl, rfl, rfl, rfl, rfl⟩, fun x hx => ⟨hclaimed x (.inl hx), fun c hc e => ?_⟩⟩
  rw [hchanged, State.mirrorSend_scene] at hc
  have hgone := (List.mem_filter.1 hc).2
  rw [e, List.contains_iff_mem.2 hx] at hgone
  exact Bool.false_ne_true hgone

/-! ### UPDATE (R150, R154, R161) -/

/-- A change of a tile's owner, as it is seen by a look for a tile's owner. -/
theorem find_mapOwner {f : Claim → Claim} (hf : ∀ c, (f c).tile = c.tile) (t x : Nat) (cs : List Claim) :
    (mapOwner t f cs).find? (fun c => c.tile == x)
      = if x = t then (cs.find? fun c => c.tile == x).map f else cs.find? fun c => c.tile == x := by
  induction cs with
  | nil => simp [mapOwner]
  | cons c cs ih =>
    unfold mapOwner
    by_cases hc : c.tile = t
    · by_cases hx : x = t
      · simp [hc, hx, hf]
      · have hne : c.tile ≠ x := fun e => hx (e.symm.trans hc)
        simp [hc, hx, hf, Ne.symm hx]
    · by_cases hcx : c.tile = x
      · have hne : x ≠ t := fun e => hc (hcx.trans e)
        simp [hcx, hne]
      · have hnot : ¬ (c.tile == x) = true := by simpa using hcx
        rw [if_neg hc, List.find?_cons_of_neg (p := fun c : Claim => c.tile == x) hnot, List.find?_cons_of_neg (p := fun c : Claim => c.tile == x) hnot, ih]

theorem find_foldl_mapOwner {f : Claim → Claim} (hf : ∀ c, (f c).tile = c.tile) (htwice : ∀ c, f (f c) = f c) (l : List Nat) (x : Nat)
    (cs : List Claim) :
    (l.foldl (fun cs t => mapOwner t f cs) cs).find? (fun c => c.tile == x)
      = if x ∈ l then (cs.find? fun c => c.tile == x).map f else cs.find? fun c => c.tile == x := by
  induction l generalizing cs with
  | nil => simp
  | cons t l ih =>
    rw [List.foldl_cons, ih, find_mapOwner hf]
    by_cases hx : x = t
    · simp only [hx, if_true, List.mem_cons, true_or, Option.map_map]
      rw [show f ∘ f = f from funext htwice, ite_self]
    · simp only [List.mem_cons, hx, false_or, if_false]

/-- What is expected of a tile once the codes of every tile of a list are, each tile having one claim. -/
theorem lookup_foldl_insertKey (g : Claim → Nat) {c : Claim} (cs : List Claim) (hcs : ∀ d ∈ cs, d.tile = c.tile → d = c) (e : List (Nat × Nat)) :
    lookup c.tile (cs.foldl (fun e d => insertKey d.tile (g d) e) e) = if c ∈ cs then some (g c) else lookup c.tile e := by
  induction cs generalizing e with
  | nil => simp
  | cons d cs ih =>
    rw [List.foldl_cons, ih fun b hb => hcs b (by simp [hb])]
    by_cases hd : d = c
    · simp [hd, lookup_insertKey_self]
    · have hne : c.tile ≠ d.tile := fun e => hd (hcs d (by simp) e.symm)
      rw [lookup_insertKey_ne hne]
      simp only [List.mem_cons, Ne.symm hd, false_or]

theorem filterMap_some_of {α β : Type} {f : β → Option α} {g : α → β} {l : List α} (h : ∀ c ∈ l, f (g c) = some c) :
    (l.map g).filterMap f = l := by
  induction l with
  | nil => rfl
  | cons c l ih => rw [List.map_cons, List.filterMap_cons_some (h c (by simp)), ih fun d hd => h d (by simp [hd])]

/-- A claim once an UPDATE has carried its codes. -/
def Claim.sent (c : Claim) (staging : Bool) : Claim := { c with state := .sent, atomic := staging, shown := false }

theorem State.endGap_kept (s : State) : s.endGap.link = s.link ∧ s.endGap.care = s.care ∧ s.endGap.out = s.out := by
  have hcare (u : State) (g : Nat) : (u.settleRole g).care = u.care := by
    unfold State.settleRole
    split
    · rfl
    · exact State.beaconAdd_care _ _ _ _ _
  unfold State.endGap
  split
  · exact ⟨rfl, rfl, rfl⟩
  · exact ⟨State.settleRole_link _ _, hcare _ _, State.settleRole_out _ _⟩

section

variable {s : State} {n column row count : Nat} {r : Rect} {cs : List Claim}

theorem State.sendUpdate_sent (hrect : s.rectOf n = some r) (h1 : 1 ≤ count) (h8 : count ≤ 8) (hx : column + count ≤ 120) (hy : row < 135)
    (htiles : s.moduleTiles r.module column row count 1 = cs.map (·.tile)) (hlen : cs.length = count)
    (hclaims : ∀ c ∈ cs, s.ownerOf c.tile = some c ∧ c.rect = n ∧ c.state = .queued ∧ c.codes ≠ []) (hmap : s.mapServes = true)
    (hfree : s.updateBlocked r.frame = false) (hsend : s.canSend (cs.flatMap fun c => tilePayload r.format c.codes).length = true) :
    (s.sendUpdate n column row count).sentPacket 1 r.module (column + 128 * row + 32768 * (count - 1) + 262144 * n)
        (cs.flatMap fun c => tilePayload r.format c.codes)
      ∧ ∀ c ∈ cs, (s.sendUpdate n column row count).ownerOf c.tile = some (c.sent (s.link.atomic && !s.link.fallenBack.contains r.module))
        ∧ lookup c.tile (s.sendUpdate n column row count).care.expected = if s.link.atomic && !s.link.fallenBack.contains r.module then
            lookup c.tile s.care.expected else some (tileChecksum (tileHeld r.format c.codes)) := by
  have howners : (s.moduleTiles r.module column row count 1).filterMap s.ownerOf = cs := by
    rw [htiles]
    exact filterMap_some_of fun c hc => (hclaims c hc).1
  have hone : ∀ c ∈ cs, ∀ d ∈ cs, d.tile = c.tile → d = c := fun c hc d hd e =>
    Option.some.inj ((hclaims d hd).1.symm.trans ((congrArg s.ownerOf e).trans (hclaims c hc).1))
  unfold State.sendUpdate
  rw [hrect]
  dsimp -zeta only
  extract_lets tiles claims fit payload last _ p staging staged expected
  have hclaimsEq : claims = cs := howners
  have hfit : fit = true := by
    show (decide _ && claims.length == count && claims.all fun c => c.rect == n && c.state == .queued && !c.codes.isEmpty) = true
    rw [hclaimsEq, hlen, decide_eq_true (⟨h1, h8, hx, hy⟩ : _ ∧ _), beq_self_eq_true, Bool.true_and, Bool.true_and, List.all_eq_true]
    intro c hc
    obtain ⟨-, hno, hstate, hcodes⟩ := hclaims c hc
    simp [hno, hstate, hcodes]
  have hpayload : payload = cs.flatMap fun c => tilePayload r.format c.codes := by
    show claims.flatMap _ = _
    rw [hclaimsEq]
  have hroom : (s.mapServes && s.linkUp && s.link.waiting.isEmpty && s.linkRoom p) = true := by
    simp only [State.canSend, Bool.and_eq_true, decide_eq_true_eq] at hsend
    obtain ⟨⟨⟨⟨hup, -⟩, hempty⟩, hbytes⟩, hcount⟩ := hsend
    have hfits : s.linkRoom p = true := by
      have hframed : p.framed = payload.length + 22 := rfl
      rw [hpayload] at hframed
      rw [State.linkRoom, Bool.and_eq_true]
      exact ⟨decide_eq_true (by omega), decide_eq_true hcount⟩
    rw [hmap, hup, hempty, hfits]
    rfl
  rw [hfit, hfree, hroom, if_neg (by decide)]
  have hstaged : staged = s.setClaims (tiles.foldl (fun cs t => mapOwner t (fun c => c.sent staging) cs) s.link.claims) :=
    s.foldl_mapOwner id (fun c => c.sent staging) tiles
  obtain ⟨hexpectedLink, hexpectedOut, hexpectedCare⟩ : expected.link = staged.link ∧ expected.out = s.out ∧ ∀ c ∈ cs,
      lookup c.tile expected.care.expected
        = if staging then lookup c.tile s.care.expected else some (tileChecksum (tileHeld r.format c.codes)) := by
    unfold expected
    split
    next hs =>
      rw [hstaged]
      exact ⟨rfl, rfl, fun _ _ => rfl⟩
    next hs =>
      rw [hstaged, State.foldl_expect]
      refine ⟨rfl, rfl, fun c hc => ?_⟩
      refine (lookup_foldl_insertKey (fun c => tileChecksum (tileHeld r.format c.codes)) claims ?_ _).trans ?_
      · rw [hclaimsEq]
        exact hone c hc
      · rw [hclaimsEq, if_pos hc]
  obtain ⟨hlink, hcare, hout⟩ := (expected.linkEmit p).endGap_kept
  have hemitted := expected.linkEmitAs_sent (expected.get 0x48000C) p
  have hpicture := expected.linkEmitAs_link (expected.get 0x48000C) p
  refine ⟨⟨expected.stamped (expected.get 0x48000C) p, ?_, rfl, rfl, rfl, hpayload, ?_⟩, fun c hc => ⟨?_, ?_⟩⟩
  · rw [hlink]
    unfold State.linkEmit
    rw [hemitted.1]
    exact List.mem_append_right _ (List.mem_singleton_self _)
  · rw [hout]
    exact hemitted.2
  · have hclaimsKept : (expected.linkEmit p).endGap.link.claims = staged.link.claims := by
      rw [hlink, ← hexpectedLink]
      exact (congrArg Link.claims hpicture :)
    have hsent := find_foldl_mapOwner (f := fun c => c.sent staging) (fun _ => rfl) (fun _ => rfl) tiles c.tile s.link.claims
    rw [if_pos (show c.tile ∈ tiles by rw [show tiles = _ from htiles]; exact List.mem_map_of_mem hc)] at hsent
    rw [State.ownerOf, hclaimsKept, hstaged]
    refine hsent.trans ?_
    rw [show s.link.claims.find? (fun d => d.tile == c.tile) = some c from (hclaims c hc).1]
    rfl
  · rw [hcare, State.linkEmit_care]
    exact hexpectedCare c hc

end

/-- Staged tiles of the modules that a DISCARD names are due again (R164). -/
theorem State.unstage_queued (s : State) (m : Nat) : ∀ c ∈ (s.unstage m).link.claims, c.state = .staged →
    c.shown = true ∨ (m ≠ 0xFF ∧ s.tileModule c.tile ≠ m) := by
  intro c hc hstate
  obtain ⟨d, -, rfl⟩ := List.mem_map.1 hc
  split at hstate
  · cases hstate
  next hnot =>
    rw [if_neg hnot]
    simp only [hstate, beq_self_eq_true, Bool.true_and, Bool.and_eq_true, Bool.not_eq_true', Bool.or_eq_true, beq_iff_eq, not_and_or, not_or,
      Bool.not_eq_false] at hnot
    exact hnot

/-- Settles O32: a rectangle's claims one tile after another, an UPDATE's claims and what the panel is to hold, and a PRESENT after its BAND
and before the checks that wait for it. -/
theorem rectanglesAreSentAndPresented : Obligations.RectanglesAreSentAndPresented := by
  intro s t
  refine ⟨fun m column row columns rows n hm hup hacting hmap hmodule hyield hcolumns hrows hx hy htiles hfree => ?_,
    fun n column row count r cs hn hrect h1 h8 hx hy htiles hlen hclaims hmap hfree hsend => ?_, fun hsend hcount hmodules hfree => ?_,
    fun m hm hsend => ?_⟩
  · have halloc := State.allocate_rect (s := s.begin t) hup hacting hmap hmodule hyield hcolumns hrows hx hy htiles hfree
    rw [exec_rectangleAllocate]
    refine answers_actIf (decide_eq_true hm) ?_
    rw [State.finish_link, State.finish_scene]
    exact halloc
  · obtain ⟨hsent, hclaimed⟩ := State.sendUpdate_sent (s := s.begin t) hrect h1 h8 hx hy htiles hlen hclaims hmap hfree hsend
    rw [exec_update]
    refine answers_actIf (decide_eq_true hn) ⟨State.finish_sentPacket hsent, fun c hc => ?_⟩
    obtain ⟨howner, hexpected⟩ := hclaimed c hc
    rw [State.finish_link, State.finish_care]
    refine ⟨⟨_, List.mem_of_find?_eq_some howner, rfl, (hclaims c hc).2.1, rfl, rfl⟩, hexpected⟩
  · obtain ⟨hsent, hpresent, hfallen⟩ := State.sendPresent_sent (s := s.begin t) hsend hcount hmodules hfree
    obtain ⟨hstays, hpicture⟩ := PacketsOnly.startDueChecks (s.begin t).sendPresent
    rw [exec_present]
    refine answers_act ⟨State.finish_sentPacket (hstays.sentPacket hsent), ?_, ?_⟩
    · rw [State.finish_link]
      exact ((congrArg Link.toPresent hpicture :)).trans hpresent
    · rw [State.finish_link]
      exact ((congrArg Link.fallenBack hpicture :)).trans hfallen
  · have hok : (decide (m < 64) || m == 0xFF) = true := by simpa using hm
    have hup : (s.begin t).linkUp = true := State.linkUp_of_canSend s hsend
    have hsent := State.linkSend_sent (n := 0) (s.begin t) hsend (kind := 5) (module := m) (spec := 1) (payload := []) (Nat.le_refl _)
    rw [exec_discardStaged]
    refine answers_actIf hok ⟨State.finish_sentPacket ?_, ?_⟩
    · rw [if_pos hup]
      exact hsent
    · rw [State.finish_link, if_pos hup]
      have hcolumns : ((s.begin t).linkControl 1 m 0 []).tileColumns = s.tileColumns := by
        unfold State.tileColumns State.geometry
        rw [State.linkControl_banks]
        rfl
      have hmodule : ∀ x, ((s.begin t).linkControl 1 m 0 []).tileModule x = s.tileModule x := fun x => by
        unfold State.tileModule State.tileX State.tileY
        rw [hcolumns]
      exact fun c hc hstate => hmodule c.tile ▸ State.unstage_queued _ m c hc hstate

end Sys2Proof.Machine
end

section
set_option Elab.async false
/-!
PROOFS. Upstream packets, acknowledgement and retry (R153 to R155, R161, R165; O30).
-/

namespace Sys2Proof.Machine

/-! ### The header (R153) -/

section

variable {s : State} {b : Bytes} {kind : Nat} {f : UpHeader → State → State}

/-- A packet whose CRC fails is counted (R153). -/
theorem State.upstream_of_badCrc (hs : s.served = true) (hcrc : upCrcOk b = false) : s.upstream kind b false f = s.bump 0x480011 := by
  simp only [State.upstream, State.awake, hs, hcrc, if_true, Bool.not_false, Bool.false_eq_true, if_false]

/-- A packet abandoned with EDB does nothing (R148). -/
theorem State.upstream_of_edb (hs : s.served = true) : s.upstream kind b true f = s := by
  simp only [State.upstream, State.awake, hs, if_true]

/-- A header without flags that shows this port's ownership is taken, and its packet does what its kind does. -/
theorem State.upstream_of_quiet (hs : s.served = true) (hquiet : quietPacket kind b = true) :
    s.upstream kind b false f = f (upHeader b) (s.headerTaken (upHeader b)) := by
  simp only [quietPacket, Bool.and_eq_true, beq_iff_eq] at hquiet
  obtain ⟨⟨⟨hcrc, hkind⟩, hflags⟩, hport⟩ := hquiet
  have hbit : ∀ n, bitOf (upHeader b).flags n = false := fun n => by simp [hflags, bitOf]
  have hlost : (s.headerTaken (upHeader b)).showsLoss (upHeader b) = false := by simp [State.showsLoss, hbit, hport]
  simp only [State.upstream, State.awake, hs, hcrc, if_true, Bool.not_true, Bool.false_eq_true, if_false]
  refine (if_neg (show ¬ (s.headerTaken (upHeader b)).showsLoss (upHeader b) = true by rw [hlost]; exact Bool.false_ne_true)).trans ?_
  simp only [hbit, hkind, if_true, Bool.false_and, Bool.false_eq_true, if_false]
  unfold State.headerTaken
  dsimp only
  rw [hbit, if_neg Bool.false_ne_true]

/-- A header changes the link's last header and scalar objects alone. -/
theorem State.headerTaken_eq (s : State) (h : UpHeader) :
    ∃ r, s.headerTaken h = { s with regs := r, link := { s.link with lastHeader := some s.now } } := by
  unfold State.headerTaken
  dsimp only
  split
  · exact ⟨_, rfl⟩
  · exact ⟨_, rfl⟩

theorem State.headerTaken_link (s : State) (h : UpHeader) : (s.headerTaken h).link = { s.link with lastHeader := some s.now } := by
  obtain ⟨r, hr⟩ := s.headerTaken_eq h
  rw [hr]

theorem State.headerTaken_now (s : State) (h : UpHeader) : (s.headerTaken h).now = s.now := by
  obtain ⟨r, hr⟩ := s.headerTaken_eq h
  rw [hr]

theorem State.linkSends_headerTaken (s : State) (h : UpHeader) : (s.headerTaken h).linkSends = s.linkSends := by
  rw [State.linkSends, State.headerTaken_acting, s.get_headerTaken h (by decide), State.linkSends]

theorem State.tileModule_headerTaken (s : State) (h : UpHeader) (x : Nat) : (s.headerTaken h).tileModule x = s.tileModule x := by
  obtain ⟨r, hr⟩ := s.headerTaken_eq h
  rw [hr]
  rfl

end

/-! ### Packets sent again (R154) -/

section

variable {s : State}

/-- Packets whose retry copies are whole are sent again as they were. -/
theorem State.resendWith_whole (sends : Nat → Nat) (n : Nat) (h : ∀ q ∈ s.link.retry.drop n, q.lost = false) :
    s.resendWith sends n = ((s.link.retry.drop n).map fun q => { q with sends := sends q.sends, sentAt := s.now }).foldl State.linkResend
      { s with link := { s.link with
          retry := s.link.retry.take n ++ (s.link.retry.drop n).map fun q => { q with sends := sends q.sends, sentAt := s.now } } } := by
  have hfresh : ∀ (l : List Packet) (a : List Packet), (∀ q ∈ l, q.lost = false) →
      l.foldl (fun (a : State × List Packet) p =>
        let r := a.1.refreshPacket p
        (r.1, a.2 ++ [{ r.2 with sends := sends r.2.sends, sentAt := s.now }])) (s, a)
      = (s, a ++ l.map fun q => { q with sends := sends q.sends, sentAt := s.now }) := by
    intro l
    induction l with
    | nil => intro a _; simp
    | cons p l ih =>
      intro a hl
      have hwhole : s.refreshPacket p = (s, p) := by
        unfold State.refreshPacket
        rw [hl p (by simp)]
        rfl
      rw [List.foldl_cons]
      dsimp only
      rw [hwhole]
      rw [ih _ fun q hq => hl q (by simp [hq])]
      simp
  unfold State.resendWith
  dsimp only
  rw [hfresh _ _ h]
  rfl

theorem State.linkResend_kept (s : State) (p : Packet) : (s.linkResend p).link.sansLanes = s.link.sansLanes
    ∧ Out.maelwin p.bytes ∈ (s.linkResend p).out ∧ OutGrows s (s.linkResend p)
    ∧ (s.linkResend p).get 0x480010 = (s.get 0x480010 + 1) % 2 ^ 32 := by
  refine ⟨(s.onLink_link p).1, s.mem_onLink p, OutGrows.onLink s p, ?_⟩
  unfold State.linkResend
  rw [State.get_bump_32 _ (by decide +kernel), (WireOnly.onLink s p).2 0x480010 (by decide)]

/-- Packets sent again go out, are counted, and leave the retry buffer as it is. -/
theorem State.foldl_linkResend (l : List Packet) (s : State) : (l.foldl State.linkResend s).link.sansLanes = s.link.sansLanes
    ∧ OutGrows s (l.foldl State.linkResend s) ∧ (∀ q ∈ l, Out.maelwin q.bytes ∈ (l.foldl State.linkResend s).out)
    ∧ (l ≠ [] → (l.foldl State.linkResend s).get 0x480010 = (s.get 0x480010 + l.length) % 2 ^ 32) := by
  induction l generalizing s with
  | nil => exact ⟨rfl, List.prefix_rfl, fun _ hq => absurd hq (by simp), fun h => absurd rfl h⟩
  | cons p l ih =>
    obtain ⟨hlink, hout, hgrows, hcount⟩ := s.linkResend_kept p
    obtain ⟨hlinks, hgrow, houts, hcounts⟩ := ih (s.linkResend p)
    rw [List.foldl_cons]
    refine ⟨hlinks.trans hlink, List.IsPrefix.trans hgrows hgrow, fun q hq => ?_, fun _ => ?_⟩
    · rcases List.mem_cons.1 hq with rfl | hq
      · exact hgrow.subset hout
      · exact houts q hq
    · cases l with
      | nil => exact hcount
      | cons q l =>
        rw [hcounts (by simp), hcount, List.length_cons, List.length_cons, List.length_cons]
        omega

/-- A retry buffer whose packets have been sent less than four times is sent again whole (R154). -/
theorem State.resendFrom_resent {p : Packet} {rest : List Packet} (htrained : s.link.trained = true) (hsends : s.linkSends = true)
    (hretry : s.link.retry = p :: rest) (hl : ∀ q ∈ p :: rest, q.sends < 4 ∧ q.lost = false) :
    (s.resendFrom 0).link.retry = (p :: rest).map (fun q => { q with sends := q.sends + 1, sentAt := s.now })
      ∧ (∀ q ∈ p :: rest, Out.maelwin q.bytes ∈ (s.resendFrom 0).out)
      ∧ (s.resendFrom 0).get 0x480010 = (s.get 0x480010 + (p :: rest).length) % 2 ^ 32 := by
  have hfew : (s.link.retry.drop 0).any (fun q => decide (4 ≤ q.sends)) = false := by
    rw [List.drop_zero, hretry, List.any_eq_false]
    intro q hq
    have := (hl q hq).1
    simpa using this
  have hresend : s.resendFrom 0 = s.resendWith (· + 1) 0 := by
    unfold State.resendFrom
    rw [hretry]
    dsimp only [List.getElem?_cons_zero]
    rw [htrained, hsends, if_neg (by decide), ← hretry, hfew, if_neg Bool.false_ne_true]
  have hwhole : ∀ q ∈ s.link.retry.drop 0, q.lost = false := fun q hq => (hl q (by rwa [List.drop_zero, hretry] at hq)).2
  rw [hresend, State.resendWith_whole _ _ hwhole, List.drop_zero, List.take_zero, List.nil_append, hretry]
  obtain ⟨hlink, -, hout, hcount⟩ := State.foldl_linkResend ((p :: rest).map fun q => { q with sends := q.sends + 1, sentAt := s.now })
    { s with link := { s.link with retry := (p :: rest).map fun q => { q with sends := q.sends + 1, sentAt := s.now } } }
  refine ⟨(congrArg Link.retry hlink :), fun q hq => ?_, ?_⟩
  · exact hout { q with sends := q.sends + 1, sentAt := s.now } (List.mem_map_of_mem hq)
  · rw [hcount (by simp), List.length_map]
    rfl

/-- A packet sent four times has the link train again, and what is held stays (R147, R154). -/
theorem State.resendFrom_retrains {p : Packet} {rest : List Packet} (htrained : s.link.trained = true) (hsends : s.linkSends = true)
    (hu : s.usable 0xA = true) (hretry : s.link.retry = p :: rest) (hl : ∃ q ∈ p :: rest, 4 ≤ q.sends) :
    (s.resendFrom 0).get 0x480001 = 4 ∧ (s.resendFrom 0).link.trained = false ∧ (s.resendFrom 0).link.retry = p :: rest := by
  obtain ⟨q, hq, hmany⟩ := hl
  have hany : (s.link.retry.drop 0).any (fun q => decide (4 ≤ q.sends)) = true := by
    rw [List.drop_zero, hretry, List.any_eq_true]
    exact ⟨q, hq, decide_eq_true hmany⟩
  have hretrain : s.resendFrom 0 = ((s.bump 0x480013).raise 0xA 3).beginTraining 4 := by
    unfold State.resendFrom
    rw [hretry]
    dsimp only [List.getElem?_cons_zero]
    rw [htrained, hsends, if_neg (by decide), ← hretry, hany, if_pos rfl]
    unfold State.retrain
    rw [htrained, hu]
    rfl
  rw [hretrain]
  have hlink : ((s.bump 0x480013).raise 0xA 3).link = s.link := State.raise_link _ _ _ _
  unfold State.beginTraining
  extract_lets _ begun lanes
  have hwire : WireOnly ((begun.stage 0xA .starting).put 0x480001 4) ((((begun.stage 0xA .starting).put 0x480001 4).driveOnly lanes).burst lanes) :=
    .trans (WireOnly.driveOnly _ _) (WireOnly.burst _ _)
  have hwired := hwire.field_of (field := fun s => s.link.sansLanes) fun _ => rfl
  refine ⟨?_, ?_, ?_⟩
  · rw [hwire.2 _ (by decide), State.get_put_self]
    decide +kernel
  · exact (congrArg Link.trained hwired :)
  · refine ((congrArg Link.retry hwired :)).trans ?_
    rw [← hretry, ← hlink]
    rfl

/-- No packet comes before the one that a NAK names (R154). -/
theorem coveredBy_before {p : Packet} {rest : List Packet} (hp : p.seq < 65536) : coveredBy ((p.seq + 65535) % 65536) (p :: rest) = 0 := by
  have hnot : ¬ ((p.seq + 65535) % 65536 + 65536 - p.seq) % 65536 < 32768 := by omega
  simp [coveredBy, hnot]

/-- An ACK of a packet covers it. -/
theorem coveredBy_self (p : Packet) : coveredBy p.seq [p] = 1 := by simp [coveredBy]

end

/-! ### Acknowledgement (R154, R161, R165) -/

/-- The link but for its rectangles, whether the pair hands over, and the tiles delivered. -/
abbrev DeliveryKept (s u : State) : Prop :=
  Keeps (fun s => { State.reset with link := { s.link with rects := [] }, pair := { yieldingSince := s.pair.yieldingSince } })
    (fun k => k == 0x410018) s u

section

variable {s u : State}

theorem Reported.deliveryKept (h : Reported s u) : DeliveryKept s u :=
  ⟨congrArg (fun s : State => { State.reset with link := { s.link with rects := [] }, pair := { yieldingSince := s.pair.yieldingSince } }) h.1,
    fun k hk => h.2 k (by rw [beq_iff_eq.1 hk]; decide)⟩

theorem DeliveryKept.put {k : Nat} (hk : k ≠ 0x410018) (s : State) (v : Nat) : DeliveryKept s (s.put k v) :=
  Keeps.put (objs := fun k => k == 0x410018) (beq_eq_false_iff_ne.2 hk) s v fun _ _ => rfl

variable (s)

theorem DeliveryKept.mirrorSend (b : Bytes) : DeliveryKept s (s.mirrorSend b) := by
  unfold State.mirrorSend
  refine .ite ?_ (.refl s)
  unfold State.twinSend
  exact .ite (.refl s) (.ite (.of_regs rfl rfl) (.of_regs rfl rfl))

theorem DeliveryKept.freeRect (n : Nat) : DeliveryKept s (s.freeRect n) := by
  unfold State.freeRect
  split
  · exact .refl s
  · refine .ite (.refl s) (.trans ?_ (DeliveryKept.mirrorSend _ _))
    exact .of_regs rfl rfl

theorem DeliveryKept.setMeasuring (p : Nat) (f : Latency → Latency) : DeliveryKept s (s.setMeasuring p f) := .of_regs rfl rfl

theorem DeliveryKept.measureMirror (p : Nat) : DeliveryKept s (s.measureMirror p) := by
  have hk : ∀ sub, sub < 256 → camK p 0x40 sub ≠ 0x410018 := fun sub h => by unfold camK keyOf; omega
  unfold State.measureMirror
  extract_lets done _ less
  refine .trans (u := less) (.of_regs rfl rfl) (Keeps.foldl (fun s e => ?_) _ _)
  split
  · exact .refl s
  · exact .trans (.trans (DeliveryKept.put (hk 3 (by decide)) s _) (DeliveryKept.put (hk 4 (by decide)) _ _)) (Reported.follow (fn := 4) (cause := 6) (by decide) _ _ _).deliveryKept

theorem DeliveryKept.deliverMeasured (t drawn : Nat) : DeliveryKept s (s.deliverMeasured t drawn) :=
  Keeps.foldl (fun s p => .trans (DeliveryKept.setMeasuring s p _) (DeliveryKept.measureMirror _ p)) _ s

end

section

variable {s : State} {x : Nat} {c : Claim}

/-- A tile delivered: its owner's claim is gone, the next one is due, and its bytes are counted (R161). -/
theorem State.deliver_done (howner : s.ownerOf x = some c) :
    (s.deliver x).link.retry = s.link.retry ∧ (s.deliver x).link.claimOwed = s.link.claimOwed ∧ (s.deliver x).link.waiting = s.link.waiting
      ∧ (s.deliver x).pair.yieldingSince = s.pair.yieldingSince
      ∧ (s.deliver x).get 0x410018 = (s.get 0x410018 + 384) % 2 ^ 64
      ∧ (s.deliver x).ownerOf x = ((s.link.claims.filter fun d => !(d.tile == x && d.rect == c.rect)).find? fun d => d.tile == x).map
          fun d => { d with state := .queued, codes := [] } := by
  unfold State.deliver
  rw [howner]
  dsimp -zeta only
  extract_lets r fmt cs claimed counted mirrored
  have hclaims : claimed.ownerOf x = (cs.find? fun d => d.tile == x).map fun d => { d with state := .queued, codes := [] } := by
    exact (find_mapOwner (f := fun d => { d with state := .queued, codes := [] }) (fun _ => rfl) x x cs).trans (if_pos rfl)
  have hbase : counted.link.retry = s.link.retry ∧ counted.link.claimOwed = s.link.claimOwed ∧ counted.link.waiting = s.link.waiting
      ∧ counted.pair.yieldingSince = s.pair.yieldingSince ∧ counted.link.claims = claimed.link.claims := ⟨rfl, rfl, rfl, rfl, rfl⟩
  have hcount : counted.get 0x410018 = (s.get 0x410018 + 384) % 2 ^ 64 := by
    refine (State.get_bump_self _ _ _).trans ?_
    rw [show widthOf 0x410018 = 64 by decide +kernel]
    rfl
  have hmirror : ∀ (u : State) (o : Option Rect), DeliveryKept u (match o with | some y => u.mirrorTile 2 x y | none => u) := fun u o => by
    cases o with
    | none => exact .refl _
    | some y => exact DeliveryKept.mirrorSend _ _
  have hmirrored : DeliveryKept counted mirrored := hmirror counted r
  have hkept : DeliveryKept counted ((mirrored.freeRect c.rect).deliverMeasured x c.drawn) :=
    (hmirrored.trans (DeliveryKept.freeRect _ _)).trans (DeliveryKept.deliverMeasured _ _ _)
  clear_value mirrored counted claimed
  generalize (mirrored.freeRect c.rect).deliverMeasured x c.drawn = u at hkept ⊢
  obtain ⟨hretry, howed, hwaiting, hyield, hclaim⟩ := hbase
  have hkeptClaims : u.link.claims = claimed.link.claims := ((congrArg (fun s : State => s.link.claims) hkept.1 :)).trans hclaim
  refine ⟨((congrArg (fun s : State => s.link.retry) hkept.1 :)).trans hretry,
    ((congrArg (fun s : State => s.link.claimOwed) hkept.1 :)).trans howed,
    ((congrArg (fun s : State => s.link.waiting) hkept.1 :)).trans hwaiting,
    ((congrArg (fun s : State => s.pair.yieldingSince) hkept.1 :)).trans hyield, (hkept.2 _ rfl).trans hcount, ?_⟩
  rw [State.ownerOf_congr hkeptClaims]
  exact hclaims

/-- A link that holds nothing for acknowledgement. -/
def State.allAcked (s : State) : State := { s with link := { s.link with retry := [] } }

/-- Where nothing waits for room, an ACK of the only packet held is its effect by kind (R154). -/
theorem State.ackUpTo_one {p : Packet} {u : State} (hretry : s.link.retry = [p]) (hu : s.allAcked.ackPacket p = u)
    (hquiet : u.link.claimOwed = false) (hwaiting : u.link.waiting = []) : s.ackUpTo p.seq = u := by
  unfold State.ackUpTo
  extract_lets n done _ cut acked claimed
  have hn : n = 1 := by
    show coveredBy p.seq s.link.retry = 1
    rw [hretry, coveredBy_self]
  have hdone : done = [p] := by
    show s.link.retry.take n = _
    rw [hn, hretry]
    rfl
  have hcut : cut = s.allAcked := by
    have hdrop : s.link.retry.drop n = [] := by rw [hn, hretry]; rfl
    unfold cut State.allAcked
    rw [hdrop]
  have hacked : acked = u := by
    show done.foldl State.ackPacket cut = u
    rw [hdone, hcut]
    exact hu
  have hclaimed : claimed = u := by
    show (if acked.link.claimOwed && acked.link.trained then acked.sendClaim else acked) = u
    rw [hacked, hquiet, Bool.false_and, if_neg Bool.false_ne_true]
  rw [hclaimed, hwaiting]
  unfold drainLink
  rw [hwaiting]

/-- A member that hands nothing over goes on (R394). -/
theorem State.handoverStep_none (h : s.pair.yieldingSince = none) : s.handoverStep = s := by
  unfold State.handoverStep
  rw [h, Option.isSome_none, Bool.and_false, Bool.false_and, Bool.false_and, if_neg Bool.false_ne_true]

/-- The CLAIM that is out, acknowledged, makes this port the owner (R165). -/
theorem State.claimAccepted_owner (hwaiting : s.link.waiting = []) (epoch : Nat) (he : epoch < 2 ^ 32) :
    (s.claimAccepted epoch).get 0x48000C = epoch ∧ (s.claimAccepted epoch).get 0x480001 = 2 ∧ (s.claimAccepted epoch).link.claiming = none
      ∧ (s.claimAccepted epoch).link.retry = s.link.retry ∧ (s.claimAccepted epoch).link.claimOwed = s.link.claimOwed
      ∧ (s.claimAccepted epoch).link.waiting = [] ∧ (s.claimAccepted epoch).pair = s.pair := by
  unfold State.claimAccepted
  extract_lets owner atomic _ _ accepted
  have hwait : accepted.link.waiting = [] := hwaiting
  have hepoch : accepted.get 0x48000C = epoch := by
    refine (State.get_put_ne (s.put 0x48000C epoch) (k := 0x480001) (j := 0x48000C) (by decide) 2).trans ((State.get_put_self s _ _).trans ?_)
    rw [show widthOf 0x48000C = 32 by decide +kernel, Nat.mod_eq_of_lt he]
  have hstate : accepted.get 0x480001 = 2 := (State.get_put_self _ 0x480001 2).trans (by decide +kernel)
  rw [hwait]
  unfold drainLink
  rw [hwait]
  exact ⟨hepoch, hstate, rfl, rfl, rfl, hwait, rfl⟩

end

/-! ### Responses and READs without one (R153) -/

section

variable {s : State}

/-- The hub's capabilities, as they are read (R150). -/
theorem State.capabilities_told (s : State) (b : Bytes) : (s.capabilities b).link.reads = s.link.reads
    ∧ (s.capabilities b).link.modules = fieldLE b 4 8 ∧ (s.capabilities b).link.lastHeader = s.link.lastHeader
    ∧ (s.capabilities b).get 0x48000F = byteAt b 0 % 16 + 16 * (byteAt b 1 % 16) := by
  unfold State.capabilities
  extract_lets arr last _ known told raised
  have htold : told.get 0x48000F = arr := by
    refine (State.get_put_self known _ _).trans ?_
    rw [show widthOf 0x48000F = 8 by decide +kernel]
    exact Nat.mod_eq_of_lt (by show _ + 16 * _ < _; omega)
  have hraised : raised.link = told.link ∧ raised.get 0x48000F = told.get 0x48000F := by
    unfold raised
    split
    · exact ⟨State.raise_link _ _ _ _, State.get_raise _ _ _ _ (by decide)⟩
    · exact ⟨rfl, rfl⟩
  have hend : ∀ u : State, u.link = told.link → u.get 0x48000F = told.get 0x48000F → u.link.reads = s.link.reads
      ∧ u.link.modules = fieldLE b 4 8 ∧ u.link.lastHeader = s.link.lastHeader ∧ u.get 0x48000F = arr := fun u hlink hget => by
    rw [hlink, hget]
    exact ⟨rfl, rfl, rfl, htold⟩
  split
  · exact hend _ ((State.onset_link _ _ _ _).trans hraised.1) ((State.get_onset _ _ _ _ (by decide)).trans hraised.2)
  · exact hend _ hraised.1 hraised.2

theorem State.mem_reads_linkSend (u : State) {x : OpenRead} (hx : u.now = x.at_) (hmem : x ∈ u.link.reads) (p : Packet) :
    x ∈ (u.linkSend p).link.reads := by
  have hemitted : x ∈ (u.linkEmit p).link.reads := by
    rw [show (u.linkEmit p).link.reads = _ from (congrArg Link.reads (u.linkEmitAs_link (u.get 0x48000C) p) :)]
    show x ∈ if p.kind = 4 then u.link.reads.map (fun (o : OpenRead) => if o.tag = p.spec / 256 % 256 ∧ o.module = p.module then { o with at_ := u.now } else o)
      else u.link.reads
    split
    · exact List.mem_map.2 ⟨x, hmem, by rw [hx, ite_self]⟩
    · exact hmem
  unfold State.linkSend
  split_ifs
  · exact hmem
  · exact hemitted
  · exact hmem

theorem State.recordCheck_link (s : State) (m slot expected reported frame outcome : Nat) :
    (s.recordCheck m slot expected reported frame outcome).link = s.link := by
  unfold State.recordCheck
  extract_lets _ kept counted
  have hcounted : counted.link = kept.link := by
    unfold counted
    split <;> rfl
  split
  · exact hcounted
  · split
    · exact hcounted
    · exact hcounted

/-- A READ without a response for 100 µs is sent once more (R153). -/
theorem State.readTimesOut_again {tag : Nat} {o : OpenRead} (ho : (s.link.reads.find? fun o => o.tag == tag) = some o)
    (hwaiting : s.link.waiting = []) (hlate : o.at_ + 100000 ≤ s.now) (htries : o.tries < 2) :
    ∃ x ∈ (s.readTimesOut tag).link.reads, x.tag = tag ∧ x.tries = 2 ∧ x.at_ = s.now := by
  have htag : o.tag = tag := by simpa using List.find?_some ho
  have hagain : ∀ (s : State) (x : OpenRead), (s.expectAgain x).tag = x.tag := fun s x => by
    unfold State.expectAgain
    split <;> rfl
  have hgo : (decide (s.now < o.at_ + 100000)
      || s.link.waiting.any (fun (p : Packet) => p.kind == 4 && p.spec / 256 % 256 == tag && p.module == o.module)) = false := by
    rw [hwaiting, decide_eq_false (by omega)]
    rfl
  unfold State.readTimesOut
  rw [ho]
  dsimp only
  rw [hgo, if_neg Bool.false_ne_true, if_pos htries]
  generalize hu : ({ s with link := { s.link with reads := s.link.reads.map fun (x : OpenRead) =>
      if x.tag = tag ∧ x.module = o.module then { s.expectAgain x with tries := 2, at_ := s.now } else x } } : State) = u
  have hmem : { s.expectAgain o with tries := 2, at_ := s.now } ∈ u.link.reads := by
    rw [← hu]
    exact List.mem_map.2 ⟨o, List.mem_of_find?_eq_some ho, if_pos ⟨htag, rfl⟩⟩
  have hnow : u.now = s.now := by rw [← hu]
  exact ⟨_, u.mem_reads_linkSend (x := { s.expectAgain o with tries := 2, at_ := s.now }) hnow hmem _, (hagain s o).trans htag, rfl, rfl⟩

/-- A READ that is given up is open no longer. -/
theorem State.readTimesOut_gone {tag : Nat} {o : OpenRead} (ho : (s.link.reads.find? fun o => o.tag == tag) = some o)
    (hwaiting : s.link.waiting = []) (hlate : o.at_ + 100000 ≤ s.now) (htries : 2 ≤ o.tries) :
    ∀ x ∈ (s.readTimesOut tag).link.reads, x.tag ≠ tag ∨ x.module ≠ o.module := by
  have hgo : (decide (s.now < o.at_ + 100000)
      || s.link.waiting.any (fun (p : Packet) => p.kind == 4 && p.spec / 256 % 256 == tag && p.module == o.module)) = false := by
    rw [hwaiting, decide_eq_false (by omega)]
    rfl
  unfold State.readTimesOut
  rw [ho]
  dsimp only
  rw [hgo, if_neg Bool.false_ne_true, if_neg (by omega), State.raise_link]
  have hreads : ∀ u : State, u.link.reads = s.link.reads.filter (fun x => x.tag != tag || x.module != o.module) →
      ∀ x ∈ u.link.reads, x.tag ≠ tag ∨ x.module ≠ o.module := fun u hu x hx => by
    rw [hu] at hx
    simpa using (List.mem_filter.1 hx).2
  split
  · exact hreads _ (congrArg Link.reads (State.recordCheck_link _ _ _ _ _ _ _))
  · exact hreads _ rfl

end

/-! ### A STATUS packet's lanes (R146, R155) -/

theorem bitOf_eq_testBit (v n : Nat) : bitOf v n = v.testBit n := by
  unfold bitOf
  rw [Nat.testBit_eq_decide_div_mod_eq]
  exact beq_eq_decide _ _

/-- A bit added to a number without it is set, and the others stay. -/
theorem testBit_add_two_pow {l : Nat} (v k : Nat) (h : v.testBit l = false) : (v + 2 ^ l).testBit k = (decide (k = l) || v.testBit k) := by
  induction l generalizing v k with
  | zero =>
    have heven : v % 2 = 0 := by simpa [Nat.testBit_zero] using h
    cases k with
    | zero => simp [Nat.testBit_zero]; omega
    | succ k => rw [Nat.testBit_succ, Nat.testBit_succ, show (v + 2 ^ 0) / 2 = v / 2 by simp; omega]; simp
  | succ l ih =>
    cases k with
    | zero => simp [Nat.testBit_zero, Nat.pow_succ]
    | succ k =>
      rw [Nat.testBit_succ, Nat.testBit_succ, show (v + 2 ^ (l + 1)) / 2 = v / 2 + 2 ^ l by rw [Nat.pow_succ]; omega,
        ih _ _ (by rwa [Nat.testBit_succ] at h)]
      simp

/-- The errors that STATUS packets reported, and the lanes retired. -/
abbrev ReportsKept (s u : State) : Prop :=
  Keeps (fun s => { State.reset with link := { laneReports := s.link.laneReports } }) (fun k => k == 0x480004) s u

section

variable {s u : State}

theorem Reported.reportsKept (h : Reported s u) : ReportsKept s u :=
  ⟨congrArg (fun s : State => { State.reset with link := { laneReports := s.link.laneReports } }) h.1,
    fun k hk => h.2 k (by rw [beq_iff_eq.1 hk]; decide)⟩

theorem WireOnly.reportsKept (h : WireOnly s u) : ReportsKept s u :=
  ⟨congrArg (fun s : State => { State.reset with link := { laneReports := s.link.laneReports } }) h.1,
    fun k hk => h.2 k (by rw [beq_iff_eq.1 hk]; decide)⟩

theorem ReportsKept.put {k : Nat} (hk : k ≠ 0x480004) (s : State) (v : Nat) : ReportsKept s (s.put k v) :=
  Keeps.put (objs := fun k => k == 0x480004) (beq_eq_false_iff_ne.2 hk) s v fun _ _ => rfl

variable (s)

theorem ReportsKept.send (o : Out) : ReportsKept s (s.send o) := .of_regs rfl rfl

theorem ReportsKept.sendMapOn (lanes : List Nat) : ReportsKept s (s.sendMapOn lanes) :=
  .trans (Keeps.of_regs rfl rfl) (Keeps.foldl (fun s _ => ReportsKept.send s _) lanes _)

theorem ReportsKept.sendMap : ReportsKept s s.sendMap := .ite (.refl s) (ReportsKept.sendMapOn s _)

theorem ReportsKept.beginTraining (state : Nat) : ReportsKept s (s.beginTraining state) := by
  unfold State.beginTraining
  extract_lets _ begun lanes
  refine .trans (u := begun) (.of_regs rfl rfl) (.trans ?_ (WireOnly.burst _ _).reportsKept)
  refine .trans (.trans (u := begun.stage 0xA .starting) (.of_regs rfl rfl) (ReportsKept.put (by decide) _ state)) (WireOnly.driveOnly _ _).reportsKept

theorem ReportsKept.retrain : ReportsKept s s.retrain :=
  .ite (.trans (.trans (ReportsKept.put (k := 0x480013) (by decide) s _) (Reported.raise (fn := 0xA) (cause := 3) (by decide) _ 0).reportsKept)
    (ReportsKept.beginTraining _ 4)) (.refl s)

/-- A lane that is not retired yet is retired, and the rest follows (R146). -/
theorem ReportsKept.retireLane {l : Nat} (h : bitOf (s.get 0x480004) l = false) :
    ReportsKept (s.put 0x480004 (s.get 0x480004 + 2 ^ l)) (s.retireLane l) := by
  unfold State.retireLane
  rw [h, if_neg Bool.false_ne_true]
  extract_lets map spares retired
  have hretired : ReportsKept (s.put 0x480004 (s.get 0x480004 + 2 ^ l)) retired :=
    .trans (Reported.raise (fn := 0xA) (cause := 1) (by decide) _ l).reportsKept (ReportsKept.put (by decide) _ _)
  refine hretired.trans (.ite (.refl _) (.ite (.ite (.refl _) (WireOnly.driveOnly _ _).reportsKept) ?_))
  clear_value spares
  split
  next sp _ =>
    exact .trans (u := { retired with link := { retired.link with nextMap := some (map.map fun x => if x = l then sp else x) } }) (.of_regs rfl rfl)
      (ReportsKept.sendMap _)
  · exact ReportsKept.retrain _

theorem State.retireLane_reports (l : Nat) : (s.retireLane l).link.laneReports = s.link.laneReports := by
  cases h : bitOf (s.get 0x480004) l with
  | false => exact ((congrArg (fun s : State => s.link.laneReports) (ReportsKept.retireLane s h).1 :)).trans rfl
  | true =>
    unfold State.retireLane
    rw [h, if_pos rfl]

/-- A retired lane stays retired, and so do the lanes retired before it. -/
theorem State.retireLane_bits {l k : Nat} (hl : l < 18) (hk : k < 18) (h : bitOf (s.get 0x480004) k = true ∨ k = l) :
    bitOf ((s.retireLane l).get 0x480004) k = true := by
  cases hb : bitOf (s.get 0x480004) l with
  | false =>
    rw [(ReportsKept.retireLane s hb).2 0x480004 rfl, State.get_put_self, show widthOf 0x480004 = 32 by decide +kernel]
    rw [bitOf_eq_testBit] at hb
    rw [bitOf_eq_testBit, Nat.testBit_mod_two_pow, testBit_add_two_pow _ _ hb, decide_eq_true (by omega : k < 32), Bool.true_and]
    rcases h with h | h
    · rw [bitOf_eq_testBit] at h
      rw [h, Bool.or_true]
    · rw [decide_eq_true h, Bool.true_or]
  | true =>
    have hsame : s.retireLane l = s := by
      unfold State.retireLane
      rw [hb, if_pos rfl]
    rw [hsame]
    rcases h with h | rfl
    · exact h
    · exact hb

theorem State.foldl_retireLane_reports (l : List Nat) : (l.foldl State.retireLane s).link.laneReports = s.link.laneReports := by
  induction l generalizing s with
  | nil => rfl
  | cons x l ih => exact (ih _).trans (s.retireLane_reports x)

theorem State.foldl_retireLane_bits (l : List Nat) (hl : ∀ x ∈ l, x < 18) {k : Nat} (hk : k < 18)
    (h : bitOf (s.get 0x480004) k = true ∨ k ∈ l) : bitOf ((l.foldl State.retireLane s).get 0x480004) k = true := by
  induction l generalizing s with
  | nil => exact h.resolve_right (by simp)
  | cons x l ih =>
    refine ih _ (fun y hy => hl y (by simp [hy])) ?_
    rcases h with h | h
    · exact .inl (s.retireLane_bits (hl x (by simp)) hk (.inl h))
    · rcases List.mem_cons.1 h with h | h
      · exact .inl (s.retireLane_bits (hl x (by simp)) hk (.inr h))
      · exact .inr h

theorem State.failLink_reports : s.failLink.link.laneReports = s.link.laneReports := by
  unfold State.failLink
  rw [State.raiseCore_link]
  exact (WireOnly.driveOnly s []).field_of (field := fun s => s.link.laneReports) fun _ => rfl

theorem ReportsKept.assignLanes : ReportsKept s s.assignLanes := by
  unfold State.assignLanes
  extract_lets good w _ mapped
  have hmapped : ReportsKept s mapped :=
    .trans (.trans (u := { s with link := { s.link with nextMap := some (good.take w) } }) (.of_regs rfl rfl) (ReportsKept.put (by decide) _ _))
      (ReportsKept.sendMap _)
  have hset : ReportsKept mapped (mapped.driveAll mapped.link.driven (deskewSet mapped.link.deskew)).countSet :=
    .trans (WireOnly.driveAll mapped mapped.link.driven (deskewSet mapped.link.deskew)).reportsKept (.of_regs rfl rfl)
  exact hmapped.trans (hset.trans (WireOnly.applyMap _).reportsKept)

theorem State.readCapabilities_reports : s.readCapabilities.link.laneReports = s.link.laneReports := by
  unfold State.readCapabilities
  extract_lets p opened
  split
  · exact ((congrArg Link.laneReports (opened.linkEmitAs_link (opened.get 0x48000C) p) :)).trans rfl
  · rfl

theorem State.takeReport_reports (locked : Nat) : (s.takeReport locked).link.laneReports = s.link.laneReports := by
  unfold State.takeReport
  extract_lets before _ begun retired assigned warned _
  have hretired : retired.link.laneReports = s.link.laneReports := (begun.foldl_retireLane_reports _).trans rfl
  split
  · exact (State.failLink_reports _).trans hretired
  · have hwarned : warned.link = assigned.link := by
      unfold warned
      split
      · exact State.raise_link _ _ _ _
      · rfl
    refine (State.readCapabilities_reports _).trans ?_
    show warned.link.laneReports = _
    rw [hwarned, ← hretired]
    exact (congrArg (fun s : State => s.link.laneReports) (ReportsKept.assignLanes retired).1 :)

/-- A STATUS packet's errors are kept, and lanes in use that have lost lock are retired (R146, R155). -/
theorem State.laneStatus_kept (locked : Nat) (errors : List Nat) : (s.now, errors) ∈ (s.laneStatus locked errors).link.laneReports
    ∧ ∀ l, l < 18 → s.link.trained = true → s.link.map.contains l = true → bitOf locked l = false →
      bitOf ((s.laneStatus locked errors).get 0x480004) l = true := by
  unfold State.laneStatus
  extract_lets keep _ told watched bad
  have hmem : (s.now, errors) ∈ told.link.laneReports := List.mem_append_right _ (List.mem_singleton_self _)
  cases ht : s.link.trained with
  | false =>
    refine ⟨?_, fun _ _ h => absurd h Bool.false_ne_true⟩
    rw [if_pos (by decide)]
    split
    · rw [State.takeReport_reports]
      exact hmem
    · exact hmem
  | true =>
    rw [if_neg (by decide)]
    refine ⟨?_, fun l hl _ hmap hlost => ?_⟩
    · rw [State.foldl_retireLane_reports]
      exact hmem
    · refine State.foldl_retireLane_bits _ bad (fun x hx => List.mem_range.1 (List.mem_filter.1 hx).1) hl (.inr (List.mem_filter.2 ⟨List.mem_range.2 hl, ?_⟩))
      have hwatched : watched.contains l = true := by
        rw [List.contains_iff_mem] at hmap ⊢
        exact List.mem_append_left _ hmap
      rw [hwatched, hlost]
      rfl

end

/-! ### O30 -/

theorem upHeader_sequence_lt (b : Bytes) : (upHeader b).sequence < 65536 := by
  have hlen : 8 * ((b.drop 2).take 2).length ≤ 16 := by
    have := List.length_take_le 2 (b.drop 2)
    omega
  exact Nat.lt_of_lt_of_le (leNat_lt _) (Nat.pow_le_pow_right (by decide) hlen)

section

variable {s : State} {t : Nat} {b : Bytes}

/-- An ACK of the only packet held, where nothing else waits: its effect by kind. -/
theorem answers_ack {p : Packet} {P : State → Prop} (hserved : s.served = true) (hquiet : quietPacket 0x81 b = true)
    (hretry : s.link.retry = [p]) (hseq : p.seq = (upHeader b).sequence)
    (h : ∃ u, ((s.begin t).headerTaken (upHeader b)).allAcked.ackPacket p = u ∧ u.link.claimOwed = false ∧ u.link.waiting = []
      ∧ u.pair.yieldingSince = none ∧ ∀ f : State → State, f (s.begin t) = u → P (s.finish t f)) :
    Answers (exec (.ack t ⟨b, false⟩) s) P := by
  obtain ⟨u, hu, howed, hwaiting, hyield, hend⟩ := h
  have hretry' : ((s.begin t).headerTaken (upHeader b)).link.retry = [p] := by
    rw [State.headerTaken_link]
    exact hretry
  rw [exec_ack]
  refine answers_act (hend _ ?_)
  dsimp only
  rw [State.upstream_of_quiet (s := s.begin t) hserved hquiet, ← hseq, State.ackUpTo_one hretry' hu howed hwaiting, State.handoverStep_none hyield]

theorem State.ackTile_staged {c : Claim} {x rect : Nat} (howner : s.ownerOf x = some c) (hrect : c.rect = rect) (hstate : c.state = .sent)
    (hatomic : c.atomic = true) (hfall : s.link.fallenBack.contains (s.tileModule x) = false) :
    s.ackTile rect x = s.setClaims (mapOwner x (fun o => { o with state := .staged }) s.link.claims) := by
  unfold State.ackTile
  rw [howner]
  dsimp only
  rw [if_pos ⟨hrect, hstate⟩, hatomic, hfall]
  rfl

theorem State.ackTile_delivered {c : Claim} {x rect : Nat} (howner : s.ownerOf x = some c) (hrect : c.rect = rect) (hstate : c.state = .sent)
    (hatomic : c.atomic = false) : s.ackTile rect x = s.deliver x := by
  unfold State.ackTile
  rw [howner]
  dsimp only
  rw [if_pos ⟨hrect, hstate⟩, hatomic, Bool.false_and, if_neg Bool.false_ne_true]

/-- What a header and an empty retry buffer leave. -/
theorem State.allAcked_link (h : UpHeader) : (s.headerTaken h).allAcked.link = { s.link with lastHeader := some s.now, retry := [] } := by
  unfold State.allAcked
  rw [State.headerTaken_link]

theorem State.ownerOf_allAcked (h : UpHeader) (x : Nat) : (s.headerTaken h).allAcked.ownerOf x = s.ownerOf x :=
  State.ownerOf_congr ((congrArg Link.claims (s.allAcked_link h) :)) x

end

/-- Settles O30: a quiet header does what its packet's kind does; an ACK of the only packet held has its effect by kind alone, packets sent
again go out as they were, and lanes are retired one after another. -/
theorem upstreamPacketsAreTaken : Obligations.UpstreamPacketsAreTaken := by
  intro s t b locked errors hserved
  refine ⟨fun hcrc c hc => ?_, fun c hc => ?_, fun hquiet hwaiting howed hyield p hretry hseq => ?_,
    fun hquiet htrained hsends p rest hretry hseq hl => ?_, fun htrained hsends hu p rest hretry hlate => ?_, fun hquiet o ho hcode => ?_,
    fun tag o htag ho hwaiting hlate => ?_, fun hquiet => ?_⟩
  · have hcount : ∀ kind f, Answers (act t s fun s => s.upstream kind b false f)
        fun s' => s'.get 0x480011 = (s.get 0x480011 + 1) % 2 ^ 32 ∧ s'.link = s.link := fun kind f => by
      refine answers_act ?_
      rw [State.get_finish _ _ _ (by decide) (by decide), State.finish_link, State.upstream_of_badCrc (s := s.begin t) hserved hcrc]
      exact ⟨State.get_bump_32 (s.begin t) (by decide +kernel), rfl⟩
    simp only [List.mem_cons, List.not_mem_nil, or_false] at hc
    rcases hc with rfl | rfl | rfl
    · rw [exec_nak]
      exact hcount _ _
    · rw [exec_readResponse]
      exact hcount _ _
    · rw [exec_status]
      exact hcount _ _
  · have hnothing : ∀ kind f, Answers (act t s fun s => s.upstream kind b true f)
        fun s' => s'.get 0x480011 = s.get 0x480011 ∧ s'.link = s.link := fun kind f => by
      refine answers_act ?_
      rw [State.get_finish _ _ _ (by decide) (by decide), State.finish_link, State.upstream_of_edb (s := s.begin t) hserved]
      exact ⟨rfl, rfl⟩
    simp only [List.mem_cons, List.not_mem_nil, or_false] at hc
    rcases hc with rfl | rfl | rfl
    · rw [exec_nak]
      exact hnothing _ _
    · rw [exec_readResponse]
      exact hnothing _ _
    · rw [exec_status]
      exact hnothing _ _
  · have hlink := (s.begin t).allAcked_link (upHeader b)
    have hpair : ((s.begin t).headerTaken (upHeader b)).allAcked.pair = s.pair := (s.begin t).headerTaken_pair _
    have hgets : ∀ k, k ∉ [0x48000D, 0x48000E, 0x480012] → ((s.begin t).headerTaken (upHeader b)).allAcked.get k = s.get k :=
      fun k hk => (s.begin t).get_headerTaken _ hk
    have howners : ∀ x, ((s.begin t).headerTaken (upHeader b)).allAcked.ownerOf x = s.ownerOf x := (s.begin t).ownerOf_allAcked (upHeader b)
    have hmodules : ∀ x, ((s.begin t).headerTaken (upHeader b)).allAcked.tileModule x = s.tileModule x :=
      (s.begin t).tileModule_headerTaken (upHeader b)
    have hack : ∀ {P : State → Prop}, _ → Answers (exec (.ack t ⟨b, false⟩) s) P := answers_ack hserved hquiet hretry hseq
    generalize ((s.begin t).headerTaken (upHeader b)).allAcked = u at hlink hpair hgets howners hmodules hack
    have hretry' : u.link.retry = [] := by rw [hlink]
    have howed' : u.link.claimOwed = false := by rw [hlink]; exact howed
    have hwaiting' : u.link.waiting = [] := by rw [hlink]; exact hwaiting
    have hclaims : u.link.claims = s.link.claims := by rw [hlink]; rfl
    refine ⟨fun h1 h2 h6 => ?_, fun h6 hclaiming hepoch => ?_, fun x c h1 htiles howner hrect hstate => ⟨fun hatomic hfall => ?_, fun hatomic => ?_⟩⟩
    · have hother : u.ackPacket p = u := by
        unfold State.ackPacket
        split
        · contradiction
        · contradiction
        · contradiction
        · rfl
      refine hack ⟨u, hother, howed', hwaiting', by rw [hpair]; exact hyield, fun f hf => ?_⟩
      rw [State.finish_link, hf]
      exact ⟨hretry', hclaims⟩
    · have haccepted : u.ackPacket p = u.claimAccepted p.epoch := by
        unfold State.ackPacket
        rw [h6]
        exact if_pos (by rw [hlink]; exact hclaiming)
      obtain ⟨hget, howner, hnone, hheld, howed'', hwait, hpair'⟩ := State.claimAccepted_owner hwaiting' p.epoch hepoch
      refine hack ⟨_, haccepted, howed''.trans howed', hwait, by rw [hpair', hpair]; exact hyield, fun f hf => ?_⟩
      rw [State.finish_link, State.get_finish _ _ _ (by decide) (by decide), State.get_finish _ _ _ (by decide) (by decide), hf]
      exact ⟨hheld.trans hretry', hget, howner, hnone⟩
    · have htile : u.ackPacket p = u.ackTile p.rect x := by
        unfold State.ackPacket
        rw [h1, htiles]
        rfl
      have howner' : u.ownerOf x = some c := (howners x).trans howner
      rw [State.ackTile_staged howner' hrect hstate hatomic (by rw [hmodules, hlink]; exact hfall)] at htile
      refine hack ⟨_, htile, howed', hwaiting', by rw [← hpair] at hyield; exact hyield, fun f hf => ?_⟩
      rw [State.finish_link, State.ownerOf, State.finish_link, hf]
      refine ⟨hretry', (find_mapOwner (f := fun o => { o with state := .staged }) (fun _ => rfl) x x u.link.claims).trans ?_⟩
      rw [if_pos rfl, show u.link.claims.find? (fun c => c.tile == x) = some c from howner']
      rfl
    · have htile : u.ackPacket p = u.ackTile p.rect x := by
        unfold State.ackPacket
        rw [h1, htiles]
        rfl
      have howner' : u.ownerOf x = some c := (howners x).trans howner
      rw [State.ackTile_delivered howner' hrect hstate hatomic] at htile
      obtain ⟨hheld, howed'', hwait, hyield', hcount, hnext⟩ := State.deliver_done howner'
      refine hack ⟨_, htile, howed''.trans howed', hwait.trans hwaiting', by rw [hyield', hpair]; exact hyield, fun f hf => ?_⟩
      rw [State.ownerOf, State.finish_link, State.get_finish _ _ _ (by decide) (by decide), hf, ← hgets 0x410018 (by decide), ← hclaims]
      exact ⟨hheld.trans hretry', hcount, hnext⟩
  · have hretry' : ((s.begin t).headerTaken (upHeader b)).link.retry = p :: rest := by
      rw [State.headerTaken_link]
      exact hretry
    have hnak : ((s.begin t).headerTaken (upHeader b)).nakFrom (upHeader b).sequence = ((s.begin t).headerTaken (upHeader b)).resendFrom 0 := by
      unfold State.nakFrom
      rw [hretry', ← hseq, coveredBy_before (hseq ▸ upHeader_sequence_lt b)]
    obtain ⟨hheld, hout, hcount⟩ := State.resendFrom_resent (s := (s.begin t).headerTaken (upHeader b)) (by rw [State.headerTaken_link]; exact htrained)
      ((State.linkSends_headerTaken _ _).trans hsends) hretry' hl
    rw [State.headerTaken_now] at hheld
    rw [State.get_headerTaken _ _ (by decide)] at hcount
    have hrun : (s.begin t).upstream 0x82 b false (fun h s => s.nakFrom h.sequence) = ((s.begin t).headerTaken (upHeader b)).resendFrom 0 := by
      rw [State.upstream_of_quiet (s := s.begin t) hserved hquiet, hnak]
    rw [exec_nak]
    refine answers_act ?_
    rw [State.finish_link, State.get_finish _ _ _ (by decide) (by decide)]
    dsimp only
    rw [hrun]
    refine ⟨hheld, fun q hq => State.mem_finish_out ?_, hcount⟩
    rw [hrun]
    exact hout q hq
  · have hrun : ∀ {P : State → Prop}, (∀ f : State → State, f (s.begin t) = (s.begin t).resendFrom 0 → P (s.finish t f)) →
        Answers (exec (.retryTimeout t) s) P := fun h => by
      rw [exec_retryTimeout]
      refine answers_act (h _ ?_)
      rw [show (s.begin t).link.retry = p :: rest from hretry]
      dsimp only [List.head?_cons]
      have hgo : (decide (p.sentAt + 20000 ≤ (s.begin t).now) && (s.begin t).usable 0xA) = true :=
        Bool.and_eq_true_iff.2 ⟨decide_eq_true hlate, hu⟩
      exact if_pos hgo
    refine ⟨fun hl => hrun fun f hf => ?_, fun hl => hrun fun f hf => ?_⟩
    · obtain ⟨hheld, hout, -⟩ := State.resendFrom_resent (s := s.begin t) htrained hsends hretry hl
      rw [State.finish_link, hf]
      exact ⟨hheld, fun q hq => State.mem_finish_out (hf ▸ hout q hq)⟩
    · obtain ⟨hstate, hdown, hheld⟩ := State.resendFrom_retrains (s := s.begin t) htrained hsends hu hretry hl
      rw [State.finish_link, State.get_finish _ _ _ (by decide) (by decide), hf]
      exact ⟨hstate, hdown, hheld⟩
  · have hread : ((s.begin t).headerTaken (upHeader b)).link.reads = s.link.reads := by rw [State.headerTaken_link]; rfl
    have hresponse : ((s.begin t).headerTaken (upHeader b)).readResponse (upHeader b).module (upHeader b).tag (upPayload b)
        = State.capabilities { ((s.begin t).headerTaken (upHeader b)) with link := { ((s.begin t).headerTaken (upHeader b)).link with
            reads := ((s.begin t).headerTaken (upHeader b)).link.reads.filter fun x => x.tag != (upHeader b).tag || x.module != (upHeader b).module } }
          (upPayload b) := by
      unfold State.readResponse
      rw [hread, ho]
      dsimp only
      unfold State.answerRead
      rw [hcode]
      rfl
    obtain ⟨hreads, hmodules, hlast, hget⟩ := State.capabilities_told { ((s.begin t).headerTaken (upHeader b)) with
      link := { ((s.begin t).headerTaken (upHeader b)).link with
        reads := ((s.begin t).headerTaken (upHeader b)).link.reads.filter fun x => x.tag != (upHeader b).tag || x.module != (upHeader b).module } }
      (upPayload b)
    rw [exec_readResponse]
    refine answers_act ?_
    rw [State.finish_link, State.get_finish _ _ _ (by decide) (by decide)]
    rw [State.upstream_of_quiet (s := s.begin t) hserved hquiet, hresponse]
    refine ⟨fun x hx => ?_, hmodules, hget, hlast.trans (congrArg Link.lastHeader ((s.begin t).headerTaken_link _))⟩
    rw [hreads] at hx
    simpa using (List.mem_filter.1 hx).2
  · rw [exec_readTimeout]
    refine ⟨fun htries => answers_actIf (decide_eq_true htag) ?_, fun htries => answers_actIf (decide_eq_true htag) ?_⟩
    · rw [State.finish_link]
      exact State.readTimesOut_again (s := s.begin t) ho hwaiting hlate htries
    · rw [State.finish_link]
      exact State.readTimesOut_gone (s := s.begin t) ho hwaiting hlate htries
  · obtain ⟨hmem, hbits⟩ := ((s.begin t).headerTaken (upHeader b)).laneStatus_kept locked errors
    rw [State.headerTaken_now] at hmem
    rw [State.headerTaken_link] at hbits
    rw [exec_status]
    refine answers_act ?_
    rw [State.finish_link, State.get_finish _ _ _ (by decide) (by decide)]
    dsimp only
    rw [State.upstream_of_quiet (s := s.begin t) hserved hquiet]
    exact ⟨hmem, hbits⟩

end Sys2Proof.Machine
end

section
set_option Elab.async false
/-!
PROOFS. The Maelwin link's training and lanes, deskew sets, idle bursts and CLAIMs (R141, R144 to R147, R165, R396; O29).
-/

namespace Sys2Proof.Machine

/-! ### What the lanes and their map leave alone (R141, R146) -/

/-- The objects that retired lanes and a new map leave alone. -/
def besideLanes (k : Nat) : Bool := notReport k && k != 0x480004 && k != 0x250007 && k != 0x480015

/-- The stages, the power state, the pair, and the link but for its lanes and the generation of its map. -/
abbrev MapOnly (s u : State) : Prop :=
  Keeps (fun s => { State.reset with stages := s.stages, power := s.power, pair := s.pair, link := { s.link.sansLanes with generation := 0 } })
    besideLanes s u

theorem notReport_of_besideLanes {k : Nat} (h : besideLanes k = true) : notReport k = true := by
  simp only [besideLanes, Bool.and_eq_true] at h
  exact h.1.1.1

theorem besideBytes_of_besideLanes {k : Nat} (h : besideLanes k = true) : besideBytes k = true := by
  simp only [besideLanes, Bool.and_eq_true] at h
  exact h.2

section

variable {s u : State}

theorem Reported.mapOnly (h : Reported s u) : MapOnly s u :=
  ⟨congrArg (fun s : State => { State.reset with stages := s.stages, power := s.power, pair := s.pair, link := { s.link.sansLanes with generation := 0 } }) h.1,
    fun k hk => h.2 k (notReport_of_besideLanes hk)⟩

theorem WireOnly.mapOnly (h : WireOnly s u) : MapOnly s u :=
  ⟨congrArg (fun s : State => { State.reset with stages := s.stages, power := s.power, pair := s.pair, link := { s.link.sansLanes with generation := 0 } }) h.1,
    fun k hk => h.2 k (besideBytes_of_besideLanes hk)⟩

theorem MapOnly.stages (h : MapOnly s u) : u.stages = s.stages := (congrArg (fun s : State => s.stages) h.1 :)

theorem MapOnly.power (h : MapOnly s u) : u.power = s.power := (congrArg (fun s : State => s.power) h.1 :)

theorem MapOnly.pair (h : MapOnly s u) : u.pair = s.pair := (congrArg (fun s : State => s.pair) h.1 :)

variable (s)

theorem MapOnly.put {k : Nat} (hk : besideLanes k = false) (v : Nat) : MapOnly s (s.put k v) := Keeps.put hk s v

theorem MapOnly.of_nextMap (m : Option (List Nat)) : MapOnly s { s with link := { s.link with nextMap := m } } := .of_regs rfl rfl

theorem MapOnly.send (o : Out) : MapOnly s (s.send o) := .of_regs rfl rfl

theorem MapOnly.sendMapOn (lanes : List Nat) : MapOnly s (s.sendMapOn lanes) :=
  .trans (Keeps.of_regs rfl rfl) (Keeps.foldl (fun s _ => MapOnly.send s _) lanes _)

theorem MapOnly.sendMap : MapOnly s s.sendMap := .ite (.refl s) (MapOnly.sendMapOn s _)

/-- While the link is not usable, a lane that is retired brings no retrain (R146, R147). -/
theorem MapOnly.retireLane (hu : s.usable 0xA = false) (l : Nat) : MapOnly s (s.retireLane l) := by
  unfold State.retireLane
  split
  · exact .refl s
  · extract_lets map spares retired
    have hretired : MapOnly s retired :=
      .trans (.trans (MapOnly.put s (by decide) _) (Reported.raise (fn := 0xA) (cause := 1) (by decide) _ l).mapOnly) (MapOnly.put _ (by decide) _)
    refine hretired.trans (.ite (.refl _) (.ite (.ite (.refl _) (WireOnly.driveOnly _ _).mapOnly) ?_))
    have hidle : retired.usable 0xA = false := (State.usable_congr hretired.stages hretired.power _).trans hu
    clear_value spares retired
    split
    · exact .trans (MapOnly.of_nextMap retired _) (MapOnly.sendMap _)
    · unfold State.retrain
      rw [hidle, Bool.and_false, if_neg Bool.false_ne_true]
      exact .refl _

theorem MapOnly.foldl_retireLane (hu : s.usable 0xA = false) (l : List Nat) : MapOnly s (l.foldl State.retireLane s) := by
  induction l generalizing s with
  | nil => exact .refl s
  | cons x l ih =>
    have hx := MapOnly.retireLane s hu x
    exact hx.trans (ih _ ((State.usable_congr hx.stages hx.power _).trans hu))

/-- A lane retired is one more (R146). -/
theorem State.retireLane_bit {l k : Nat} (hk : k < 18) :
    bitOf ((s.retireLane l).get 0x480004) k = (bitOf (s.get 0x480004) k || decide (k = l)) := by
  cases hb : bitOf (s.get 0x480004) l with
  | false =>
    rw [(ReportsKept.retireLane s hb).2 0x480004 rfl, State.get_put_self, show widthOf 0x480004 = 32 by decide +kernel]
    rw [bitOf_eq_testBit] at hb
    rw [bitOf_eq_testBit, Nat.testBit_mod_two_pow, testBit_add_two_pow _ _ hb, decide_eq_true (by omega : k < 32), Bool.true_and, Bool.or_comm,
      bitOf_eq_testBit]
  | true =>
    unfold State.retireLane
    rw [hb, if_pos rfl]
    by_cases h : k = l
    · rw [h, hb, Bool.true_or]
    · rw [decide_eq_false h, Bool.or_false]

theorem State.foldl_retireLane_bit (l : List Nat) {k : Nat} (hk : k < 18) :
    bitOf ((l.foldl State.retireLane s).get 0x480004) k = (bitOf (s.get 0x480004) k || l.contains k) := by
  induction l generalizing s with
  | nil => simp
  | cons x l ih =>
    rw [List.foldl_cons, ih, State.retireLane_bit _ hk, List.contains_cons, Bool.or_assoc]
    rfl

/-- The lanes that did not lock are retired: those that did and were not retired are the good ones. -/
theorem State.goodLanes_retired (locked : Nat) (hlocked : s.link.locked = locked) (hu : s.usable 0xA = false) :
    (((List.range 18).filter fun l => !bitOf locked l).foldl State.retireLane s).goodLanes
      = (List.range 18).filter fun l => bitOf locked l && !bitOf (s.get 0x480004) l := by
  have hkept := MapOnly.foldl_retireLane s hu ((List.range 18).filter fun l => !bitOf locked l)
  have hlink : (((List.range 18).filter fun l => !bitOf locked l).foldl State.retireLane s).link.locked = locked :=
    ((congrArg (fun s : State => s.link.locked) hkept.1 :)).trans hlocked
  unfold State.goodLanes
  refine List.filter_congr fun k hk => ?_
  have hk18 := List.mem_range.1 hk
  rw [hlink, State.foldl_retireLane_bit s _ hk18]
  cases hb : bitOf locked k with
  | false => rfl
  | true =>
    have hnot : ((List.range 18).filter fun l => !bitOf locked l).contains k = false := by
      rw [List.contains_eq_mem, decide_eq_false]
      simp [hb]
    rw [hnot, Bool.or_false]

/-- Lanes are assigned: 16 good lanes give the full width (R146, R147). -/
theorem MapOnly.assignLanes (hgood : 16 ≤ s.goodLanes.length) : MapOnly (s.put 0x480002 16) s.assignLanes := by
  unfold State.assignLanes
  extract_lets good w _ mapped
  have hw : w = 16 := if_pos hgood
  have hmapped : MapOnly (s.put 0x480002 16) mapped := by
    refine .trans ?_ (MapOnly.sendMap _)
    rw [hw]
    exact .of_regs rfl rfl
  have hset : MapOnly mapped (mapped.driveAll mapped.link.driven (deskewSet mapped.link.deskew)).countSet :=
    .trans (WireOnly.driveAll mapped mapped.link.driven (deskewSet mapped.link.deskew)).mapOnly (.of_regs rfl rfl)
  exact hmapped.trans (hset.trans (WireOnly.applyMap _).mapOnly)

end

/-! ### Training (R145 steps 4 to 7) -/

/-- What the hub's report of the lanes and the READ of its capabilities leave: step 6 at full width. -/
structure ReportTaken (s u : State) : Prop where
  step : u.link.step = 6
  stages : u.stages = s.stages
  pair : u.pair = s.pair
  width : u.get 0x480002 = 16
  paired : u.get 0x230001 = s.get 0x230001
  own : u.get 0x48000C = s.get 0x48000C
  hub : u.get 0x48000D = s.get 0x48000D
  claiming : u.link.claiming = s.link.claiming
  held : heldBytes s.link.retry + 22 ≤ 2097152 → s.link.retry.length < 16384 →
    ∃ q : Packet, u.link.retry = s.link.retry ++ [q] ∧ q.payload = [] ∧ q.lost = false

section

variable {s : State}

/-- The READ of the hub's capabilities goes out where there is room (R145 step 6). -/
theorem State.readCapabilities_held (s : State) : s.readCapabilities.link.step = s.link.step ∧ s.readCapabilities.stages = s.stages
    ∧ s.readCapabilities.pair = s.pair ∧ (∀ k, k ∉ linkKeys → s.readCapabilities.get k = s.get k)
    ∧ s.readCapabilities.link.claiming = s.link.claiming
    ∧ (heldBytes s.link.retry + 22 ≤ 2097152 → s.link.retry.length < 16384 →
        ∃ q : Packet, s.readCapabilities.link.retry = s.link.retry ++ [q] ∧ q.payload = [] ∧ q.lost = false) := by
  unfold State.readCapabilities
  extract_lets p opened
  have hopened : opened.link.step = s.link.step ∧ opened.link.claiming = s.link.claiming ∧ opened.link.retry = s.link.retry := ⟨rfl, rfl, rfl⟩
  obtain ⟨hstep, hclaiming, hretry⟩ := hopened
  split
  · have hlink := opened.linkEmitAs_link (opened.get 0x48000C) p
    refine ⟨((congrArg Link.step hlink :)).trans hstep, (State.linkEmit_stages _ _).trans rfl, (State.linkEmit_pair _ _).trans rfl,
      fun k hk => (State.get_linkEmit _ _ hk).trans rfl, ((congrArg Link.claiming hlink :)).trans hclaiming, fun _ _ => ?_⟩
    exact ⟨opened.stamped (opened.get 0x48000C) p, ((opened.linkEmitAs_sent (opened.get 0x48000C) p).1).trans (by rw [hretry]), rfl, rfl⟩
  next hroom =>
    refine ⟨hstep, rfl, rfl, fun _ _ => rfl, hclaiming, fun hbytes hcount => absurd ?_ hroom⟩
    unfold State.linkRoom
    rw [hretry, Bool.and_eq_true]
    exact ⟨decide_eq_true hbytes, decide_eq_true hcount⟩

theorem State.takeReport_taken {locked : Nat} (hstage : nth s.stages 0xA .off = .starting)
    (hgood : 16 ≤ ((List.range 18).filter fun l => bitOf locked l && !bitOf (s.get 0x480004) l).length) : ReportTaken s (s.takeReport locked) := by
  have hidle : s.usable 0xA = false := by
    unfold State.usable
    rw [hstage]
    simp
  unfold State.takeReport
  extract_lets before _ begun retired assigned warned _
  have hbegun : begun.usable 0xA = false := hidle
  have hretired : MapOnly begun retired := MapOnly.foldl_retireLane begun hbegun _
  have hlanes : 16 ≤ retired.goodLanes.length := by
    rw [show retired.goodLanes = _ from begun.goodLanes_retired locked rfl hbegun]
    exact hgood
  have hassigned : MapOnly (retired.put 0x480002 16) assigned := MapOnly.assignLanes retired hlanes
  have hwidth : assigned.get 0x480002 = 16 := by
    rw [hassigned.2 0x480002 (by decide), State.get_put_self]
    decide +kernel
  have hwarned : warned = assigned := by
    show (if assigned.get 0x480002 < 16 ∧ assigned.get 0x480002 ≠ before then assigned.raise 0xA 2 else assigned) = assigned
    rw [hwidth, if_neg (by omega)]
  have hget : ∀ k, besideLanes k = true → k ≠ 0x480002 → assigned.get k = s.get k := fun k hk hne =>
    (hassigned.2 k hk).trans ((State.get_put_ne _ hne _).trans (hretired.2 k hk))
  have hlink : assigned.link.retry = s.link.retry ∧ assigned.link.claiming = s.link.claiming :=
    ⟨((congrArg (fun s : State => s.link.retry) hassigned.1 :)).trans (congrArg (fun s : State => s.link.retry) hretired.1 :),
      ((congrArg (fun s : State => s.link.claiming) hassigned.1 :)).trans (congrArg (fun s : State => s.link.claiming) hretired.1 :)⟩
  have hstages : assigned.stages = s.stages := hassigned.stages.trans hretired.stages
  have hpair : assigned.pair = s.pair := hassigned.pair.trans hretired.pair
  rw [if_neg (by omega)]
  obtain ⟨hstep, hstages', hpair', hget', hclaiming, hheld⟩ := State.readCapabilities_held { warned with link := { warned.link with step := 6 } }
  generalize State.readCapabilities { warned with link := { warned.link with step := 6 } } = u at hstep hstages' hpair' hget' hclaiming hheld ⊢
  rw [hwarned] at hstages' hpair' hget' hclaiming hheld
  obtain ⟨hretry, hclaim⟩ := hlink
  refine ⟨hstep, hstages'.trans hstages, hpair'.trans hpair, (hget' _ (by decide)).trans hwidth,
    (hget' _ (by decide)).trans (hget _ (by decide) (by decide)), (hget' _ (by decide)).trans (hget _ (by decide) (by decide)),
    (hget' _ (by decide)).trans (hget _ (by decide) (by decide)), hclaiming.trans hclaim, ?_⟩
  rw [← hretry]
  exact hheld

end

/-! ### A CLAIM (R144, R165) -/

section

variable (s : State)

theorem MapOnly.burstWithMap (lanes : List Nat) : MapOnly s (s.burstWithMap lanes) := by
  unfold State.burstWithMap
  refine .ite (.trans (.trans (WireOnly.burstOut s lanes).mapOnly (MapOnly.sendMapOn _ _)) (WireOnly.burst _ _).mapOnly) (WireOnly.burst s lanes).mapOnly

/-- The epoch that a CLAIM names: one above the largest of the three known ones (R165). -/
def State.claimEpoch : Nat := max (s.get 0x48000D) (max s.pair.mirrorEpoch (s.get 0x48000C)) + 1

theorem State.linkEmitAs_up (epoch : Nat) (p : Packet) : (s.linkEmitAs epoch p).link.trained = s.link.trained
    ∧ (s.linkEmitAs epoch p).stages = s.stages ∧ ∀ k, k ∉ linkKeys → (s.linkEmitAs epoch p).get k = s.get k :=
  ⟨(congrArg Link.trained (s.linkEmitAs_link epoch p) :), (WireOnly.onLink s (s.stamped epoch p)).field_of (field := fun s => s.stages) fun _ => rfl,
    fun _ hk => State.get_linkEmitAs _ _ _ hk⟩

/-- A CLAIM leaves the link up. -/
theorem State.sendClaim_up : s.sendClaim.link.trained = s.link.trained ∧ s.sendClaim.stages = s.stages
    ∧ s.sendClaim.get 0x480002 = s.get 0x480002 ∧ s.sendClaim.get 0x480001 = s.get 0x480001 := by
  unfold State.sendClaim
  extract_lets epoch burst p
  have hburst : MapOnly s burst := .trans (WireOnly.driveOnly s _).mapOnly (MapOnly.burstWithMap _ _)
  have htrained : burst.link.trained = s.link.trained := (congrArg (fun s : State => s.link.trained) hburst.1 :)
  split
  · obtain ⟨hup, hstages, hget⟩ := State.linkEmitAs_up { burst with link := { burst.link with claiming := some epoch, claimOwed := false } } epoch p
    exact ⟨hup.trans htrained, hstages.trans hburst.stages, (hget _ (by decide)).trans (hburst.2 0x480002 (by decide)),
      (hget _ (by decide)).trans (hburst.2 0x480001 (by decide))⟩
  · exact ⟨htrained, hburst.stages, hburst.2 0x480002 (by decide), hburst.2 0x480001 (by decide)⟩

/-- A CLAIM for which there is room goes out, and is held (R154, R165). -/
theorem State.sendClaim_sent (hroom : s.linkRoom (packetOf 6 0xFF 0 []) = true) :
    ∃ p : Packet, s.sendClaim.link.retry = s.link.retry ++ [p] ∧ p.kind = 6 ∧ p.module = 0xFF ∧ p.epoch = s.claimEpoch
      ∧ s.sendClaim.link.claiming = some p.epoch ∧ Out.maelwin p.bytes ∈ s.sendClaim.out := by
  unfold State.sendClaim
  extract_lets epoch burst p
  have hkept : ClaimKept s burst := (WireOnly.driveOnly s _).claimKept.trans (ClaimKept.burstWithMap _ _)
  rw [hkept.linkRoom, hroom, if_pos rfl]
  have hretry : burst.link.retry = s.link.retry := hkept.1
  generalize hu : ({ burst with link := { burst.link with claiming := some epoch, claimOwed := false } } : State) = u
  have hheld : u.link.retry = s.link.retry := by rw [← hu]; exact hretry
  have hclaiming : u.link.claiming = some epoch := by rw [← hu]
  obtain ⟨hsent, hout⟩ := u.linkEmitAs_sent epoch p
  refine ⟨u.stamped epoch p, hsent.trans (by rw [hheld]), rfl, rfl, rfl, ?_, hout⟩
  exact ((congrArg Link.claiming (u.linkEmitAs_link epoch p) :)).trans hclaiming

end

/-! ### The link comes up (R145 step 7) -/

/-- The stages, the pair, and what the link shows of its training and of the CLAIM that is out. -/
def State.course (s : State) : State :=
  { State.reset with stages := s.stages, pair := s.pair, link := { trained := s.link.trained, claiming := s.link.claiming } }

/-- The width, the state and the epochs of the link, and whether there is a pair. -/
def courseKeys : List Nat := [0x480002, 0x230001, 0x48000C, 0x48000D, 0x480001]

/-- What the answer to the READ of the capabilities, and the packets sent again, leave. -/
abbrev UpKept (s u : State) : Prop := Keeps State.course courseKeys.contains s u

section

variable {s u : State}

theorem UpKept.of_keeps {view : State → State} {objs : Nat → Bool} (h : Keeps view objs s u)
    (hv : ∀ s, (view s).course = s.course := by intros; rfl) (ho : ∀ k ∈ courseKeys, objs k = true := by decide) : UpKept s u :=
  ⟨(hv u).symm.trans ((congrArg State.course h.1).trans (hv s)), fun k hk => h.2 k (ho k (List.contains_iff_mem.1 hk))⟩

theorem Reported.upKept (h : Reported s u) : UpKept s u := .of_keeps h

theorem WireOnly.upKept (h : WireOnly s u) : UpKept s u := .of_keeps h

theorem UpKept.put {k : Nat} (hk : courseKeys.contains k = false) (s : State) (v : Nat) : UpKept s (s.put k v) := Keeps.put hk s v

theorem UpKept.stages (h : UpKept s u) : u.stages = s.stages := (congrArg (fun s : State => s.stages) h.1 :)

theorem UpKept.pair (h : UpKept s u) : u.pair = s.pair := (congrArg (fun s : State => s.pair) h.1 :)

theorem UpKept.trained (h : UpKept s u) : u.link.trained = s.link.trained := (congrArg (fun s : State => s.link.trained) h.1 :)

theorem UpKept.claiming (h : UpKept s u) : u.link.claiming = s.link.claiming := (congrArg (fun s : State => s.link.claiming) h.1 :)

variable (s)

theorem UpKept.capabilities (b : Bytes) : UpKept s (s.capabilities b) := by
  unfold State.capabilities
  extract_lets arr last _ known told raised
  have htold : UpKept s told := .trans (u := known) (.of_regs rfl rfl) (UpKept.put (by decide) _ _)
  have hraised : UpKept told raised := .ite (Reported.raise (fn := 0xA) (cause := 7) (by decide) _ 0).upKept (.refl _)
  exact (htold.trans hraised).trans (.ite (Reported.onset (fn := 9) (cause := 1) (by decide) _ 0).upKept (.refl _))

theorem State.capabilities_retry (b : Bytes) : (s.capabilities b).link.retry = s.link.retry := by
  unfold State.capabilities
  extract_lets arr last _ known told raised
  have hraised : raised.link = told.link := by
    unfold raised
    split
    · exact State.raise_link _ _ _ _
    · rfl
  split
  · rw [State.onset_link, hraised]
    rfl
  · rw [hraised]
    rfl

theorem UpKept.noteRendered (x : Nat) : UpKept s (s.noteRendered x) := .of_regs rfl rfl

theorem UpKept.refreshPacket (p : Packet) : UpKept s (s.refreshPacket p).1 := by
  unfold State.refreshPacket
  split
  · exact .refl s
  · dsimp only
    refine .trans (Keeps.foldl (fun s x => UpKept.noteRendered s x) p.tiles s) (Keeps.foldl (fun s c => ?_) _ _)
    split
    · refine .ite (.ite ?_ ?_) (.refl s)
      · exact .of_regs rfl rfl
      · exact .of_regs rfl rfl
    · exact .refl s

theorem UpKept.linkResend (p : Packet) : UpKept s (s.linkResend p) := .trans (WireOnly.onLink s p).upKept (UpKept.put (by decide) _ _)

theorem UpKept.resendWith (sends : Nat → Nat) (n : Nat) : UpKept s (s.resendWith sends n) := by
  have hfresh : ∀ (l : List Packet) (a : State × List Packet), UpKept a.1 (l.foldl (fun (a : State × List Packet) p =>
      let r := a.1.refreshPacket p
      (r.1, a.2 ++ [{ r.2 with sends := sends r.2.sends, sentAt := s.now }])) a).1 := by
    intro l
    induction l with
    | nil => exact fun a => .refl a.1
    | cons p l ih => exact fun a => (UpKept.refreshPacket a.1 p).trans (ih _)
  unfold State.resendWith
  extract_lets fresh u _ held
  exact (hfresh _ (s, [])).trans (.trans (u := held) (.of_regs rfl rfl) (Keeps.foldl (fun s p => UpKept.linkResend s p) _ _))

end

/-- A panel's care that starts changes its own stage alone. -/
theorem State.startCare_kept (s : State) : ∃ l, s.startCare = { s with stages := l } ∧ nth l 0xA .off = nth s.stages 0xA .off := by
  unfold State.startCare
  extract_lets done
  split
  · exact ⟨_, rfl, nth_setNth_ne _ (by decide) _ _⟩
  · exact ⟨_, rfl, rfl⟩

section

variable {s : State} {locked : Nat} {caps : Bytes}

/-- The link as it comes up: before this port claims, or stands idle. -/
structure ComesUp (s u : State) : Prop where
  trained : u.link.trained = true
  up : nth u.stages 0xA .off = .up
  pair : u.pair = s.pair
  claiming : u.link.claiming = s.link.claiming
  width : u.get 0x480002 = 16
  paired : u.get 0x230001 = s.get 0x230001
  own : u.get 0x48000C = s.get 0x48000C
  hub : u.get 0x48000D = s.get 0x48000D
  held : heldBytes s.link.retry + 22 ≤ 2097152 → s.link.retry.length < 16384 →
    ∃ q : Packet, u.link.retry = s.link.retry ++ [q] ∧ q.payload = [] ∧ q.lost = false

theorem State.finishTraining_comesUp (hstage : nth s.stages 0xA .off = .starting) (hstep : s.link.step = 1) (hcaps : 16 ≤ caps.length)
    (hgood : 16 ≤ ((List.range 18).filter fun l => bitOf locked l && !bitOf (s.get 0x480004) l).length) :
    ∃ u, ComesUp s u ∧ s.finishTraining locked caps = if !u.acting then ((u.put 0x480001 3).send (.orderedSet false 3 0 0)).driveOnly []
      else if (u.put 0x480001 1).resendAll.link.claiming.isSome then (u.put 0x480001 1).resendAll else (u.put 0x480001 1).resendAll.sendClaim := by
  have hgo : ¬ ((nth s.stages 0xA .off != .starting || s.link.step = 0 : Bool) = true) := by simp [hstage, hstep]
  have htaken := State.takeReport_taken hstage hgood
  unfold State.finishTraining
  rw [if_neg hgo, if_neg (by omega)]
  extract_lets taken _ _ begun told _ cared u resent
  have htakenEq : taken = s.takeReport locked := if_neg (by omega)
  rw [← htakenEq] at htaken
  have hlen : 0xA < begun.stages.length := by
    refine lt_of_stage (s := begun) ?_
    rw [show begun.stages = s.stages from htaken.stages, hstage]
    decide
  have hup : UpKept ((begun.pllLocked .panelLanes).stage 0xA .up) told := UpKept.capabilities _ _
  have hretry : told.link.retry = taken.link.retry := State.capabilities_retry _ _
  have hstages : nth told.stages 0xA .off = .up := by
    rw [hup.stages]
    exact State.nth_stage_self hlen _
  obtain ⟨l, hl, hnth⟩ := cared.startCare_kept
  have hu : u = { cared with stages := l } := hl
  have hcomes : ComesUp s u := by
    rw [hu]
    refine ⟨hup.trained, hnth.trans hstages, hup.pair.trans htaken.pair, hup.claiming.trans htaken.claiming, (hup.2 0x480002 (by decide)).trans htaken.width,
      (hup.2 0x230001 (by decide)).trans htaken.paired, (hup.2 0x48000C (by decide)).trans htaken.own, (hup.2 0x48000D (by decide)).trans htaken.hub,
      fun hbytes hcount => ?_⟩
    obtain ⟨q, hq, hempty, hwhole⟩ := htaken.held hbytes hcount
    exact ⟨q, hretry.trans hq, hempty, hwhole⟩
  exact ⟨u, hcomes, if_neg (not_not_intro htaken.step)⟩

/-- Everything that was held is sent again, and a packet's bytes stay what they were (R147). -/
theorem State.resendAll_held (h : ∀ q ∈ s.link.retry, q.lost = false) :
    heldBytes s.resendAll.link.retry = heldBytes s.link.retry ∧ s.resendAll.link.retry.length = s.link.retry.length := by
  have hheld : ∀ (l : List Packet) (f : Packet → Packet) (n : Nat), (∀ p, (f p).framed = p.framed) →
      (l.map f).foldl (fun n p => n + p.framed) n = l.foldl (fun n p => n + p.framed) n := by
    intro l f
    induction l with
    | nil => exact fun _ _ => rfl
    | cons p l ih =>
      intro n hf
      rw [List.map_cons, List.foldl_cons, List.foldl_cons, hf, ih _ hf]
  unfold State.resendAll
  rw [State.resendWith_whole _ _ (by rwa [List.drop_zero]), List.drop_zero, List.take_zero, List.nil_append]
  obtain ⟨hlink, -, -, -⟩ := State.foldl_linkResend (s.link.retry.map fun q => { q with sends := 1, sentAt := s.now })
    { s with link := { s.link with retry := s.link.retry.map fun q => { q with sends := 1, sentAt := s.now } } }
  have hretry := (congrArg Link.retry hlink :)
  exact ⟨(congrArg heldBytes hretry :).trans (hheld _ _ 0 fun _ => rfl), (congrArg List.length hretry :).trans (List.length_map _)⟩

theorem OutGrows.driveOnly (s : State) (lanes : List Nat) : OutGrows s (s.driveOnly lanes) := OutGrows.drive s _

theorem State.linkRoom_of_held {u : State} (hbytes : heldBytes u.link.retry + 22 ≤ 2097152) (hcount : u.link.retry.length < 16384) :
    u.linkRoom (packetOf 6 0xFF 0 []) = true := by
  unfold State.linkRoom
  rw [Bool.and_eq_true]
  exact ⟨decide_eq_true hbytes, decide_eq_true hcount⟩

theorem State.acting_congr {u : State} (hpair : u.pair = s.pair) (hpaired : u.get 0x230001 = s.get 0x230001) : u.acting = s.acting := by
  unfold State.acting State.paired
  rw [hpair, hpaired]

/-- Training with 16 good lanes brings the link up at full width; who acts as owner claims, another stands idle (R145, R147, R165). -/
theorem State.finishTraining_up (hstage : nth s.stages 0xA .off = .starting) (hstep : s.link.step = 1) (hcaps : 16 ≤ caps.length)
    (hgood : 16 ≤ ((List.range 18).filter fun l => bitOf locked l && !bitOf (s.get 0x480004) l).length) :
    (s.finishTraining locked caps).link.trained = true ∧ nth (s.finishTraining locked caps).stages 0xA .off = .up
      ∧ (s.finishTraining locked caps).get 0x480002 = 16
      ∧ (s.acting = false → (s.finishTraining locked caps).get 0x480001 = 3 ∧ Out.orderedSet false 3 0 0 ∈ (s.finishTraining locked caps).out)
      ∧ (s.acting = true → s.link.claiming = none → heldBytes s.link.retry + 44 ≤ 2097152 → s.link.retry.length < 16383 →
          (∀ q ∈ s.link.retry, q.lost = false) → (s.finishTraining locked caps).get 0x480001 = 1
          ∧ (s.finishTraining locked caps).link.claiming = some s.claimEpoch) := by
  obtain ⟨u, hu, hend⟩ := State.finishTraining_comesUp (caps := caps) hstage hstep hcaps hgood
  have hacting : u.acting = s.acting := State.acting_congr hu.pair hu.paired
  rw [hend, hacting]
  cases ha : s.acting with
  | false =>
    rw [if_pos (by decide)]
    have hidle : WireOnly (u.put 0x480001 3) (((u.put 0x480001 3).send (.orderedSet false 3 0 0)).driveOnly []) :=
      .trans (u := (u.put 0x480001 3).send (.orderedSet false 3 0 0)) (.of_regs rfl rfl) (WireOnly.driveOnly _ _)
    refine ⟨hidle.upKept.trained.trans hu.trained, (congrArg (fun l => nth l 0xA .off) hidle.upKept.stages :).trans hu.up, ?_, fun _ => ⟨?_, ?_⟩,
      fun h => absurd h Bool.false_ne_true⟩
    · rw [hidle.2 _ (by decide), State.get_put_ne _ (by decide), hu.width]
    · rw [hidle.2 _ (by decide), State.get_put_self]
      decide +kernel
    · exact (OutGrows.driveOnly ((u.put 0x480001 3).send (.orderedSet false 3 0 0)) []).subset (List.mem_append_right _ (List.mem_singleton_self _))
  | true =>
    rw [if_neg (by decide)]
    have hresent : UpKept (u.put 0x480001 1) (u.put 0x480001 1).resendAll := UpKept.resendWith _ _ 0
    have htrained := hresent.trained.trans hu.trained
    have hstages : nth (u.put 0x480001 1).resendAll.stages 0xA .off = .up := (congrArg (fun l => nth l 0xA .off) hresent.stages :).trans hu.up
    have hwidth : (u.put 0x480001 1).resendAll.get 0x480002 = 16 := by
      rw [hresent.2 _ (by decide), State.get_put_ne _ (by decide), hu.width]
    have hstate : (u.put 0x480001 1).resendAll.get 0x480001 = 1 := by
      rw [hresent.2 _ (by decide), State.get_put_self]
      decide +kernel
    have hclaiming := hresent.claiming.trans hu.claiming
    obtain ⟨hup, hst, hw, hs⟩ := (u.put 0x480001 1).resendAll.sendClaim_up
    refine ⟨?_, ?_, ?_, fun h => absurd h (by decide), fun _ hnone hbytes hcount hwhole => ?_⟩
    · split
      · exact htrained
      · exact hup.trans htrained
    · split
      · exact hstages
      · rw [hst]
        exact hstages
    · split
      · exact hwidth
      · exact hw.trans hwidth
    · obtain ⟨q, hq, hempty, hqwhole⟩ := hu.held (by omega) (by omega)
      have hwhole' : ∀ p ∈ (u.put 0x480001 1).link.retry, p.lost = false := fun p hp => by
        rw [show (u.put 0x480001 1).link.retry = _ from hq] at hp
        rcases List.mem_append.1 hp with hp | hp
        · exact hwhole p hp
        · rw [List.mem_singleton.1 hp]
          exact hqwhole
      obtain ⟨hheld, hlength⟩ := State.resendAll_held hwhole'
      have hmore : heldBytes (s.link.retry ++ [q]) = heldBytes s.link.retry + 22 := by simp [heldBytes, Packet.framed, hempty]
      rw [show (u.put 0x480001 1).link.retry = _ from hq] at hheld hlength
      rw [hmore] at hheld
      rw [List.length_append, List.length_singleton] at hlength
      obtain ⟨p, -, -, -, hepoch, hclaimed, -⟩ := State.sendClaim_sent (u.put 0x480001 1).resendAll (State.linkRoom_of_held (by omega) (by omega))
      rw [hclaiming, hnone, Option.isSome_none, if_neg Bool.false_ne_true]
      refine ⟨hs.trans hstate, hclaimed.trans (congrArg some (hepoch.trans ?_))⟩
      unfold State.claimEpoch
      rw [hresent.2 0x48000D (by decide), hresent.2 0x48000C (by decide), hresent.pair, State.get_put_ne _ (by decide), State.get_put_ne _ (by decide),
        hu.hub, hu.own, State.put_pair, hu.pair]

end

end Sys2Proof.Machine
end

section
set_option Elab.async false
/-!
PROOFS. The Maelwin link's training steps, retrains, deskew sets, idle bursts and retired lanes; O29.
-/

namespace Sys2Proof.Machine

/-! ### Steps that miss their bound, and retrains (R145, R147) -/

section

variable {s : State}

theorem State.raiseCore_requests (s : State) (fn cause detail : Nat) : (s.raiseCore fn cause detail .failed).faults.resetRequested = true := by
  have hcontain : (s.contain fn cause .failed).faults.resetRequested = true := rfl
  unfold State.raiseCore
  extract_lets failed entry
  have hfailed : failed.faults.resetRequested = true := hcontain
  clear_value failed
  split
  · unfold State.repeatFault
    rw [State.beaconPut_faults]
    exact hfailed
  · unfold State.queueFault
    extract_lets slots
    split
    · exact hfailed
    · split
      · exact hfailed
      · rfl

/-- Training begins: step 1, what was not acknowledged stays, and so do the instants of failures. -/
theorem State.beginTraining_kept (h : 0xA < s.stages.length) (state : Nat) :
    nth (s.beginTraining state).stages 0xA .off = .starting ∧ (s.beginTraining state).link.step = 1 ∧ (s.beginTraining state).link.trained = false
      ∧ (s.beginTraining state).link.retry = s.link.retry ∧ (s.beginTraining state).link.fails = s.link.fails
      ∧ (s.beginTraining state).get 0x480001 = state % 2 ^ widthOf 0x480001 ∧ (s.beginTraining state).get 0x480013 = s.get 0x480013 := by
  obtain ⟨hstage, hstep, htrained⟩ := State.beginTraining_begun h state
  refine ⟨hstage, hstep, htrained, ?_⟩
  unfold State.beginTraining
  extract_lets _ begun lanes
  have hwire : WireOnly ((begun.stage 0xA .starting).put 0x480001 state) ((((begun.stage 0xA .starting).put 0x480001 state).driveOnly lanes).burst lanes) :=
    .trans (WireOnly.driveOnly _ _) (WireOnly.burst _ _)
  have hlink := hwire.field_of (field := fun s => s.link.sansLanes) fun _ => rfl
  refine ⟨(congrArg Link.retry hlink :), (congrArg Link.fails hlink :), ?_, ?_⟩
  · rw [hwire.2 _ (by decide), State.get_put_self]
  · rw [hwire.2 _ (by decide), State.get_put_ne _ (by decide)]
    rfl

theorem State.retrain_begun (htrained : s.link.trained = true) (hu : s.usable 0xA = true) :
    s.retrain.link.trained = false ∧ s.retrain.link.step = 1 ∧ s.retrain.get 0x480001 = 4 ∧ nth s.retrain.stages 0xA .off = .starting
      ∧ s.retrain.link.retry = s.link.retry ∧ s.retrain.get 0x480013 = (s.get 0x480013 + 1) % 2 ^ 32 := by
  have hretrain : s.retrain = ((s.bump 0x480013).raise 0xA 3).beginTraining 4 := if_pos (by rw [htrained, hu]; rfl)
  have hraised : Reported (s.bump 0x480013) ((s.bump 0x480013).raise 0xA 3) := Reported.raise (fn := 0xA) (cause := 3) (by decide) _ 0
  have hstages : ((s.bump 0x480013).raise 0xA 3).stages = s.stages := hraised.field_of (field := fun s : State => s.stages) fun _ => rfl
  have hlen : 0xA < ((s.bump 0x480013).raise 0xA 3).stages.length := by
    rw [hstages]
    refine lt_of_stage ?_
    simp only [State.usable, Bool.and_eq_true, beq_iff_eq] at hu
    rw [hu.1.2]
    decide
  obtain ⟨hstage, hstep, hdown, hretry, -, hstate, hcount⟩ := State.beginTraining_kept hlen 4
  rw [hretrain]
  refine ⟨hdown, hstep, hstate.trans (by decide +kernel), hstage, hretry.trans (congrArg Link.retry (State.raise_link _ _ _ _)), hcount.trans ?_⟩
  rw [State.get_raise _ _ _ _ (by decide)]
  exact State.get_bump_32 s (by decide +kernel)

/-- The link fails: its stage, its state and the full reset that is asked for (R145). -/
theorem State.failLink_failed (h : 0xA < s.stages.length) : nth s.failLink.stages 0xA .off = .failed ∧ s.failLink.get 0x480001 = 5
    ∧ s.failLink.faults.resetRequested = true := by
  have hstages : s.stopPanel.stages = s.stages := (WireOnly.driveOnly s []).field_of (field := fun s : State => s.stages) fun _ => rfl
  unfold State.failLink
  refine ⟨?_, ?_, State.raiseCore_requests _ _ _ _⟩
  · rw [State.raiseCore_stages]
    exact State.nth_stage_self (by rw [State.put_stages, State.put_stages, hstages]; exact h) .failed
  · rw [State.get_raiseCore _ _ _ _ _ (by decide), State.get_put_ne _ (by decide), State.get_put_self]
    decide +kernel

/-- A step that misses its bound: again from step 1 (R145). -/
theorem State.trainingFails_again (h : 0xA < s.stages.length) (hfails : s.link.fails = []) :
    s.trainingFails.link.step = 1 ∧ s.trainingFails.link.fails = [s.now] ∧ nth s.trainingFails.stages 0xA .off = .starting := by
  unfold State.trainingFails
  rw [hfails]
  extract_lets fails _ failed
  obtain ⟨hstage, hstep, -, -, hkept, -⟩ := State.beginTraining_kept (s := failed) h (failed.get 0x480001)
  have hfew : fails.length < 3 := by
    show 1 < 3
    decide
  rw [if_pos hfew]
  exact ⟨hstep, hkept, hstage⟩

/-- The third miss within 1 s fails the link (R145). -/
theorem State.trainingFails_failed (h : 0xA < s.stages.length)
    (hmany : 2 ≤ (s.link.fails.filter fun f => decide (s.now < f + 1000000000)).length) :
    nth s.trainingFails.stages 0xA .off = .failed ∧ s.trainingFails.get 0x480001 = 5 ∧ s.trainingFails.faults.resetRequested = true := by
  unfold State.trainingFails
  extract_lets fails _ failed
  have hlen : ¬ fails.length < 3 := by
    show ¬ (s.link.fails.filter _ ++ [s.now]).length < 3
    rw [List.length_append, List.length_singleton]
    omega
  rw [if_neg hlen]
  exact State.failLink_failed (s := failed) h

end

/-! ### Deskew sets and maps (R141) -/

section

variable (s : State)

theorem State.applyMap_none (h : s.link.nextMap = none) : s.applyMap = s := by
  unfold State.applyMap
  rw [h]

theorem State.applyMap_map {m : List Nat} (h : s.link.nextMap = some m) : s.applyMap.link.map = m ∧ s.applyMap.link.nextMap = none := by
  unfold State.applyMap
  rw [h]
  dsimp only
  split
  · exact ⟨rfl, rfl⟩
  · split
    · exact ⟨rfl, rfl⟩
    · exact ⟨rfl, rfl⟩

/-- An interval's deskew set goes out, and a map that waits for it takes effect (R141). -/
theorem State.endInterval_done : Out.orderedSet false 1 s.link.deskew s.link.deskew ∈ s.endInterval.out
    ∧ (s.link.nextMap = none → s.endInterval.link.deskew = (s.link.deskew + 1) % 256)
    ∧ ∀ m, s.link.nextMap = some m → s.endInterval.link.map = m := by
  unfold State.endInterval
  extract_lets sets _ filled p _ run sent
  have hset : Out.orderedSet false 1 s.link.deskew s.link.deskew ∈ sent.out :=
    (OutGrows.drive (run.send (.orderedSet false 1 run.link.deskew run.link.deskew)) _).subset (List.mem_append_right _ (List.mem_singleton_self _))
  have hlink : sent.countSet.link.deskew = (s.link.deskew + 1) % 256 ∧ sent.countSet.link.nextMap = s.link.nextMap := ⟨rfl, rfl⟩
  refine ⟨(OutGrows.applyMap sent.countSet).subset hset, fun hnone => ?_, fun m hm => ?_⟩
  · rw [State.applyMap_none _ (hlink.2.trans hnone)]
    exact hlink.1
  · exact (State.applyMap_map _ (hlink.2.trans hm)).1

/-! ### Bursts (R144) -/

/-- How many bursts have been sent. -/
def State.bursts : Nat := s.out.count (.orderedSet false 4 0 0)

theorem State.bursts_drive (l : List (Nat × List Symbol)) : (s.drive l).bursts = s.bursts := by
  have hlanes : ((l.map fun p => (p.1, encodeRun (nth s.link.disparity p.1 false) p.2)).map fun c => Out.lane c.1 c.2.1).count
      (.orderedSet false 4 0 0) = 0 := List.count_eq_zero.2 (by simp)
  unfold State.bursts State.drive
  rw [List.count_append, hlanes, Nat.add_zero]

theorem State.bursts_send {o : Out} (h : o ≠ .orderedSet false 4 0 0) : (s.send o).bursts = s.bursts := by
  unfold State.bursts State.send
  rw [List.count_append, List.count_singleton, if_neg (by simpa using h), Nat.add_zero]

theorem State.bursts_burstOut (lanes : List Nat) : (s.burstOut lanes).bursts = s.bursts + 1 := by
  have hsent : (s.send (.orderedSet false 4 0 0)).bursts = s.bursts + 1 := by
    unfold State.bursts State.send
    rw [List.count_append, List.count_singleton_self]
  rw [← hsent]
  exact State.bursts_drive _ _

theorem State.bursts_sendMapOn (lanes : List Nat) : (s.sendMapOn lanes).bursts = s.bursts := by
  have hsends : ∀ (l : List Nat) (f : Nat → Nat) (g : Nat) (u : State),
      (l.foldl (fun (s : State) l => s.send (.orderedSet false 2 (f l) g)) u).bursts = u.bursts := by
    intro l f g
    induction l with
    | nil => exact fun _ => rfl
    | cons x l ih =>
      intro u
      rw [List.foldl_cons, ih]
      exact State.bursts_send u (by simp)
  unfold State.sendMapOn
  extract_lets g _ numbered map logical
  rw [hsends]
  exact State.bursts_drive numbered _

/-- What a command tells at its end holds no burst. -/
theorem State.bursts_finish (t : Nat) (f : State → State) : (s.finish t f).bursts = (f (s.begin t)).bursts := by
  have hdest : ∀ (u : State) (b : Bytes), (u.eventFrame b).bursts = u.bursts := fun u b => by
    unfold State.eventFrame
    split
    · rfl
    · split
      · exact State.bursts_send u (by simp)
      · dsimp only
        split_ifs <;> rfl
  have hevent : ∀ (u : State) (c : Bool) (k : Nat), (u.eventIf c k).bursts = u.bursts := fun u c k => by
    unfold State.eventIf
    split
    · exact hdest _ _
    · rfl
  have hpin : ∀ (u : State) (n : Nat), (u.evtPin n).bursts = u.bursts := fun u n => by
    unfold State.evtPin
    split
    · rfl
    · exact State.bursts_send u (by simp)
  have hlatch : ∀ (u : State) (r : Nat), (u.latchReady r).bursts = u.bursts := fun u r => by
    unfold State.latchReady
    split <;> rfl
  have hnote : ∀ u : State, u.note.bursts = u.bursts := fun u => congrArg (List.count _) u.out_note
  have htell : ∀ u : State, u.tell.bursts = u.bursts := fun u => by
    unfold State.tell
    rw [hpin, hpin]
    split
    · exact hnote u
    · rw [hlatch, hevent, hevent, hnote]
  have hout : (s.finish t f).out = (f (s.begin t)).tell.out := rfl
  rw [← htell (f (s.begin t))]
  exact congrArg (List.count _) hout

/-- An idle port without a new map sends two bursts, and the deskew number counts them (R144). -/
theorem State.refreshIdle_bursts (h : s.link.nextMap = none) : s.refreshIdle.bursts = s.bursts + 2
    ∧ s.refreshIdle.link = { s.link with disparity := s.refreshIdle.link.disparity, deskew := (s.link.deskew + 2) % 256 } := by
  have hrun : s.refreshIdle = ((s.burstOut s.lanesWanted).burstOut s.lanesWanted).driveAll s.lanesWanted eiosSet := by
    unfold State.refreshIdle
    dsimp only
    rw [show (s.burstOut s.lanesWanted).link.nextMap = none from h, Option.isSome_none, if_neg Bool.false_ne_true]
    unfold State.burst
    rw [State.applyMap_none _ (show ((s.burstOut s.lanesWanted).burstOut s.lanesWanted).link.nextMap = none from h)]
  have hdeskew : ((s.link.deskew + 1) % 256 + 1) % 256 = (s.link.deskew + 2) % 256 := by omega
  rw [hrun]
  refine ⟨?_, ?_⟩
  · unfold State.driveAll
    rw [State.bursts_drive, State.bursts_burstOut, State.bursts_burstOut]
  · rw [← hdeskew]
    rfl

/-- An idle port with a new map puts it in force between two bursts (R141, R144). -/
theorem State.refreshIdle_map {m : List Nat} (h : s.link.nextMap = some m) (hdriven : s.link.driven = []) :
    s.refreshIdle.bursts = s.bursts + 2 ∧ s.refreshIdle.link.map = m ∧ s.refreshIdle.link.nextMap = none := by
  have hmapped : ((s.burstOut s.lanesWanted).sendMapOn s.lanesWanted).link.nextMap = some m
      ∧ ((s.burstOut s.lanesWanted).sendMapOn s.lanesWanted).link.driven = [] := by
    have hsends : ∀ (l : List Nat) (o : Nat → Out) (u : State), (l.foldl (fun (s : State) l => s.send (o l)) u).link = u.link := by
      intro l o
      induction l with
      | nil => exact fun _ => rfl
      | cons x l ih => exact fun u => ih _
    unfold State.sendMapOn
    extract_lets g _ numbered map logical
    rw [hsends]
    exact ⟨h, hdriven⟩
  obtain ⟨hnext, hidle⟩ := hmapped
  have hrun : s.refreshIdle = (((s.burstOut s.lanesWanted).sendMapOn s.lanesWanted).burst s.lanesWanted).driveAll s.lanesWanted eiosSet := by
    unfold State.refreshIdle
    dsimp only
    rw [show (s.burstOut s.lanesWanted).link.nextMap = some m from h, Option.isSome_some, if_pos rfl]
  have hcount : ((s.burstOut s.lanesWanted).sendMapOn s.lanesWanted).bursts = s.bursts + 1 := by
    rw [State.bursts_sendMapOn, State.bursts_burstOut]
  generalize (s.burstOut s.lanesWanted).sendMapOn s.lanesWanted = u at hnext hidle hrun hcount
  have hburst : u.burst s.lanesWanted = { u.burstOut s.lanesWanted with
      link := { (u.burstOut s.lanesWanted).link with map := m, nextMap := none } } := by
    unfold State.burst State.applyMap
    rw [show (u.burstOut s.lanesWanted).link.nextMap = some m from hnext]
    exact if_pos (by rw [show (u.burstOut s.lanesWanted).link.driven = [] from hidle]; rfl)
  rw [hrun, hburst]
  refine ⟨?_, rfl, rfl⟩
  refine (State.bursts_drive _ _).trans ?_
  refine (State.bursts_burstOut u s.lanesWanted).trans ?_
  rw [hcount]

/-! ### Lanes retired (R146, R396) -/

theorem State.retireLane_pair (l : Nat) : (s.retireLane l).pair = s.pair := by
  have hretrain : ∀ u : State, u.retrain.pair = u.pair := fun u => by
    unfold State.retrain State.beginTraining
    split
    · extract_lets _ begun lanes
      have hwire : WireOnly ((begun.stage 0xA .starting).put 0x480001 4) ((((begun.stage 0xA .starting).put 0x480001 4).driveOnly lanes).burst lanes) :=
        .trans (WireOnly.driveOnly _ _) (WireOnly.burst _ _)
      exact (hwire.field_of (field := fun s => s.pair) fun _ => rfl).trans (State.raise_pair _ _ _ _)
    · rfl
  unfold State.retireLane
  split
  · rfl
  · extract_lets map spares retired
    have hretired : retired.pair = s.pair := State.raise_pair _ _ _ _
    clear_value spares
    split
    · exact hretired
    · split
      · split
        · exact hretired
        · exact ((WireOnly.driveOnly retired retired.lanesWanted).mapOnly.pair).trans hretired
      · split
        · have hmap : ∀ m, MapOnly retired (State.sendMap { retired with link := { retired.link with nextMap := m } }) := fun m =>
            .trans (MapOnly.of_nextMap retired m) (MapOnly.sendMap _)
          exact (hmap _).pair.trans hretired
        · exact (hretrain _).trans hretired

theorem State.retireLane_exact {l : Nat} (hl : l < 18) (hbit : bitOf (s.get 0x480004) l = false) (hsmall : s.get 0x480004 < 2 ^ 18) :
    (s.retireLane l).get 0x480004 = s.get 0x480004 + 2 ^ l := by
  have hpow : 2 ^ l ≤ 2 ^ 17 := Nat.pow_le_pow_right (by decide) (by omega)
  rw [(ReportsKept.retireLane s hbit).2 0x480004 rfl, State.get_put_self, show widthOf 0x480004 = 32 by decide +kernel]
  exact Nat.mod_eq_of_lt (by omega)

end

theorem State.inStep_of {s : State} {step : Nat} (hstage : nth s.stages 0xA .off = .starting)
    (h : step ≤ 4 ∧ s.link.step = 1 ∨ 5 ≤ step ∧ s.link.step = 6) : s.inStep step = true := by
  unfold State.inStep
  rw [hstage]
  rcases h with ⟨hfew, hstep⟩ | ⟨hmany, hstep⟩
  · rw [if_pos hfew, hstep]
    rfl
  · rw [if_neg (by omega), hstep]
    rfl

theorem State.idle_of {s : State} (htrained : s.link.trained = true) (hstate : s.get 0x480001 = 3) (hu : s.usable 0xA = true) :
    (s.link.trained && s.get 0x480001 == 3 && s.usable 0xA) = true := by
  rw [htrained, hstate, hu]
  rfl

theorem State.scalarView_lanes (s : State) : s.scalarView 0x480003 = bitmapBelow 18 fun l => s.link.map.contains l := rfl

/-- Settles O29: training in its steps, the lanes that did not lock retired one after another; and deskew sets, bursts, lanes and CLAIMs by
what each leaves of the link. -/
theorem linksTrainAndLanesAreKept : Obligations.LinksTrainAndLanesAreKept := by
  refine ⟨fun s t => ⟨fun locked caps hstage hstep hcaps hgood => ?_, fun step h1 h7 hstage hstep => ⟨fun hfails => ?_, fun hmany => ?_⟩,
      fun reason htrained hu => ?_⟩,
    fun s t => ⟨fun hup => ⟨fun hsets => ?_, fun hsets => ?_⟩, fun htrained hstate hu => ⟨fun hnext => ?_, fun m hnext hdriven => ?_⟩,
      fun lane event hl htrained hserved hbit hsmall => ?_, fun lane passed hl hstandby htrained hserved => ?_,
      fun hacting htrained hu hclaiming howed hstate hbytes hcount => ?_⟩⟩
  · rw [exec_linkTraining]
    refine answers_act ?_
    obtain ⟨hup, hst, hwidth, hidle, hclaims⟩ := State.finishTraining_up (s := s.begin t) (locked := locked) (caps := caps) hstage hstep hcaps hgood
    rw [State.finish_link, State.finish_stages, State.get_finish _ _ _ (by decide) (by decide), State.get_finish _ _ _ (by decide) (by decide)]
    exact ⟨hup, hst, hwidth, fun ha => ⟨(hidle ha).1, State.mem_finish_out (hidle ha).2⟩, hclaims⟩
  · have hlen : 0xA < (s.begin t).stages.length := lt_of_stage (s := s) (by rw [hstage]; decide)
    have hin : (s.begin t).inStep step = true := State.inStep_of hstage hstep
    rw [exec_trainingStepTimeout]
    refine answers_actIf (Bool.and_eq_true_iff.2 ⟨decide_eq_true h1, decide_eq_true h7⟩) ?_
    rw [State.finish_link, State.finish_stages, if_pos hin]
    exact State.trainingFails_again hlen hfails
  · have hlen : 0xA < (s.begin t).stages.length := lt_of_stage (s := s) (by rw [hstage]; decide)
    have hin : (s.begin t).inStep step = true := State.inStep_of hstage hstep
    rw [exec_trainingStepTimeout]
    refine answers_actIf (Bool.and_eq_true_iff.2 ⟨decide_eq_true h1, decide_eq_true h7⟩) ?_
    rw [State.finish_stages, State.get_finish _ _ _ (by decide) (by decide), State.finish_faults, if_pos hin]
    exact State.trainingFails_failed hlen hmany
  · rw [exec_retrain t reason]
    refine answers_act ?_
    rw [State.finish_link, State.finish_stages, State.get_finish _ _ _ (by decide) (by decide), State.get_finish _ _ _ (by decide) (by decide)]
    exact State.retrain_begun (s := s.begin t) htrained hu
  · obtain ⟨hset, hdeskew, hmap⟩ := (s.begin t).endInterval_done
    have hrun : (if (s.begin t).linkUp then (s.begin t).deskewNow else s.begin t) = (s.begin t).endInterval :=
      (if_pos hup).trans (if_pos hsets)
    rw [exec_deskewSet]
    refine answers_act ⟨State.mem_finish_out ?_, fun hnone => ?_, fun m hm => ?_⟩
    · rw [hrun]
      exact hset
    · rw [State.finish_link, hrun]
      exact hdeskew hnone
    · have hlink : (s.finish t fun s => if s.linkUp then s.deskewNow else s).link.map = m := by
        rw [State.finish_link, hrun]
        exact hmap m hm
      refine ⟨hlink, ?_⟩
      rw [State.scalarView_lanes, hlink]
  · have hrun : (if (s.begin t).linkUp then (s.begin t).deskewNow else s.begin t)
        = { s.begin t with link := { s.link with setsAhead := s.link.setsAhead - 1 } } := (if_pos hup).trans (if_neg hsets)
    rw [exec_deskewSet]
    refine answers_act ?_
    rw [State.finish_link, hrun]
  · obtain ⟨hcount, hlink⟩ := (s.begin t).refreshIdle_bursts hnext
    have hrun : (if (s.begin t).link.trained && (s.begin t).get 0x480001 == 3 && (s.begin t).usable 0xA then (s.begin t).refreshIdle else s.begin t)
        = (s.begin t).refreshIdle := if_pos (State.idle_of htrained hstate hu)
    rw [exec_idleRefresh]
    refine answers_act ⟨(State.bursts_finish s t _).trans ?_, ?_⟩
    · rw [hrun, hcount]
      rfl
    · rw [State.finish_link, hrun]
      exact hlink
  · obtain ⟨hcount, hmap, hnone⟩ := (s.begin t).refreshIdle_map hnext hdriven
    have hrun : (if (s.begin t).link.trained && (s.begin t).get 0x480001 == 3 && (s.begin t).usable 0xA then (s.begin t).refreshIdle else s.begin t)
        = (s.begin t).refreshIdle := if_pos (State.idle_of htrained hstate hu)
    rw [exec_idleRefresh]
    refine answers_act ⟨(State.bursts_finish s t _).trans ?_, ?_⟩
    · rw [hrun, hcount]
      rfl
    · rw [State.finish_link, hrun]
      exact ⟨hmap, hnone⟩
  · have hgo : ((s.begin t).link.trained && (s.begin t).served) = true := Bool.and_eq_true_iff.2 ⟨htrained, hserved⟩
    rw [exec_laneRetire t lane event]
    refine answers_actIf (decide_eq_true hl) ?_
    rw [State.get_finish _ _ _ (by decide) (by decide), if_pos hgo]
    exact State.retireLane_exact (s.begin t) hl hbit hsmall
  · have hgo : (!((s.begin t).standby && (s.begin t).link.trained && (s.begin t).served)) = false := by
      rw [show (s.begin t).standby = true from hstandby, show (s.begin t).link.trained = true from htrained, show (s.begin t).served = true from hserved]
      rfl
    have hclean : (if lane = 0 then passed else s.pair.loopbackClean && passed) = (passed && (lane == 0 || s.pair.loopbackClean)) := by
      by_cases h : lane = 0
      · simp [h]
      · rw [if_neg h, beq_eq_false_iff_ne.2 h, Bool.false_or, Bool.and_comm]
    rw [exec_laneLoopback]
    refine answers_actIf (decide_eq_true hl) ?_
    rw [State.finish_pair, State.finish_link, State.get_finish _ _ _ (by decide) (by decide)]
    dsimp only
    rw [hgo, if_neg Bool.false_ne_true, ← hclean]
    cases passed with
    | true => exact ⟨rfl, fun _ => rfl, fun h => absurd h (by decide)⟩
    | false =>
      rw [if_neg Bool.false_ne_true]
      exact ⟨(congrArg (·.loopbackClean) (State.retireLane_pair _ lane)).trans rfl, fun h => absurd h (by decide), fun _ =>
        State.retireLane_bits _ hl hl (.inr rfl)⟩
  · have hgo : ((s.begin t).acting && (s.begin t).link.trained && (s.begin t).usable 0xA && (s.begin t).link.claiming.isNone
        && !(s.begin t).link.claimOwed && (s.begin t).get 0x480001 != 2) = true := by
      rw [show (s.begin t).acting = true from hacting, show (s.begin t).link.trained = true from htrained, show (s.begin t).usable 0xA = true from hu,
        show (s.begin t).link.claiming = none from hclaiming, show (s.begin t).link.claimOwed = false from howed]
      exact bne_iff_ne.2 hstate
    obtain ⟨p, hheld, hkind, hmodule, hepoch, hclaimed, hout⟩ := (s.begin t).sendClaim_sent (State.linkRoom_of_held hbytes hcount)
    rw [exec_claim]
    refine answers_act ⟨p, ?_, hkind, hmodule, hepoch, ?_, State.mem_finish_out ?_⟩
    · rw [State.finish_link, if_pos hgo]
      exact hheld
    · rw [State.finish_link, if_pos hgo]
      exact hclaimed
    · rw [if_pos hgo]
      exact hout

end Sys2Proof.Machine
end

section
set_option Elab.async false
/-!
PROOFS. Content-frame ticks, hold limits, stale layers and safety re-renders (R89, R91, R92, R367, R368; O24).
-/

namespace Sys2Proof.Machine

/-! ### What a frame's work leaves of the tick that it began with (R367, R368) -/

/-- The tick last taken is the same. -/
def TickKept (s u : State) : Prop := u.net.lastTickLocal = s.net.lastTickLocal ∧ u.net.tickAfter = s.net.tickAfter

section

variable {s u w : State}

theorem TickKept.of_net (h : u.net = s.net := by rfl) : TickKept s u := ⟨by rw [h], by rw [h]⟩

theorem TickKept.trans (h : TickKept s u) (h' : TickKept u w) : TickKept s w := ⟨h'.1.trans h.1, h'.2.trans h.2⟩

theorem TickKept.ite {c : Prop} [Decidable c] (h : TickKept s u) (h' : TickKept s w) : TickKept s (if c then u else w) := by
  split
  · exact h
  · exact h'

theorem TickKept.foldl {α : Type} {step : State → α → State} (h : ∀ s x, TickKept s (step s x)) (l : List α) (s : State) :
    TickKept s (l.foldl step s) := by
  induction l generalizing s with
  | nil => exact .of_net
  | cons x l ih => exact (h s x).trans (ih _)

theorem Reported.tickKept (h : Reported s u) : TickKept s u := .of_net (h.field_of (field := fun s : State => s.net) fun _ => rfl)

theorem MediaOnly.tickKept (h : MediaOnly s u) : TickKept s u := .of_net (h.field_of (field := fun s : State => s.net) fun _ => rfl)

theorem StaleOnly.tickKept (h : StaleOnly s u) : TickKept s u := .of_net (h.field_of (field := fun s : State => s.net) fun _ => rfl)

variable (s)

theorem TickKept.put (k v : Nat) : TickKept s (s.put k v) := .of_net

theorem TickKept.put₃ (k v k' v' k'' v'' : Nat) : TickKept s (((s.put k v).put k' v').put k'' v'') := .of_net

theorem TickKept.onset {fn cause : Nat} (he : effectOf fn cause ≠ .failed) (item : Nat) : TickKept s (s.onset fn cause item) :=
  (Reported.onset he s item).tickKept

theorem TickKept.follow {fn cause : Nat} (he : effectOf fn cause ≠ .failed) (b : Bool) (item : Nat) : TickKept s (s.follow b fn cause item) :=
  (Reported.follow he s b item).tickKept

theorem TickKept.settle (fn cause item : Nat) : TickKept s (s.settle fn cause item) := (Reported.settle s fn cause item).tickKept

theorem TickKept.settleAll (fn cause : Nat) : TickKept s (s.settleAll fn cause) := (Reported.settleAll s fn cause).tickKept

theorem TickKept.beaconAdd (kind flags : Nat) (body payload : Bytes) : TickKept s (s.beaconAdd kind flags body payload) :=
  (Reported.beaconAdd s kind flags body payload).tickKept

/-! #### Run and its level (R28, R335) -/

theorem TickKept.setPhase (ph : Phase) : TickKept s (s.setPhase ph) := by
  unfold State.setPhase
  dsimp only
  exact .ite .of_net (.trans (u := { s with power := { s.power with phase := ph } }) .of_net (TickKept.beaconAdd _ _ _ _ _))

theorem TickKept.resumeMedia : TickKept s s.resumeMedia :=
  .trans (.trans (TickKept.foldl (fun s k => (MediaOnly.restartFlat s k false).tickKept) _ s) (MediaOnly.resumeList _).tickKept) (MediaOnly.cciAll _).tickKept

theorem TickKept.startRun : TickKept s s.startRun := by
  have hclimbing : ∀ u : State, TickKept u u.climbing := fun u => by
    unfold State.climbing State.atConfigured
    exact .ite (.ite (.trans (u := u.put 0x211008 (u.get 0x211008 &&& 4)) .of_net (TickKept.settleAll _ 1 1)) .of_net) .of_net
  unfold State.startRun
  extract_lets _ fresh climbs
  refine .trans (u := fresh) .of_net (.ite (.trans (u := climbs) ?_ .of_net) .of_net)
  exact .trans (u := fresh.put 0x211002 6000) .of_net (hclimbing _)

theorem TickKept.enterRun : TickKept s s.enterRun := by
  unfold State.enterRun
  refine .ite (.trans (.trans (.trans ?_ (TickKept.setPhase _ _)) (TickKept.resumeMedia _)) (TickKept.startRun _)) .of_net
  exact .of_net

theorem TickKept.tuneCarver (i : Nat) : TickKept s (s.tuneCarver i) :=
  .ite .of_net (.ite .of_net (.ite .of_net (.ite .of_net .of_net)))

theorem TickKept.applyCap : TickKept s s.applyCap := .ite (TickKept.foldl (fun s i => TickKept.tuneCarver s i) _ s) .of_net

theorem TickKept.applyLevel : TickKept s s.applyLevel := by
  unfold State.applyLevel
  extract_lets l m cap clock
  exact .trans (u := ((s.put 0x211005 cap).put 0x211006 clock).put 0x211007 l.2.2) .of_net (TickKept.applyCap _)

/-! #### The checks of the frame before (R180, R413) -/

theorem TickKept.recordCheck (m slot expected reported frame outcome : Nat) : TickKept s (s.recordCheck m slot expected reported frame outcome) := by
  unfold State.recordCheck
  extract_lets _ kept counted
  have hcounted : TickKept kept counted := .ite .of_net .of_net
  exact .trans (u := kept) .of_net (hcounted.trans (.ite .of_net (.ite .of_net .of_net)))

theorem TickKept.judgeHeld (p : Nat × Nat → Bool) : TickKept s (s.judgeHeld p) := by
  unfold State.judgeHeld
  refine .trans (u := { s with care := { s.care with slot0Held := s.care.slot0Held.filter fun m => !p m } }) .of_net
    (TickKept.foldl (fun s held => ?_) _ _)
  unfold State.judgeModule
  dsimp only
  exact .ite .of_net (.trans (u := (s.bump 0x490005).onset 0xB 3 held.1)
    (.trans (u := s.bump 0x490005) .of_net (TickKept.onset (fn := 0xB) (cause := 3) _ (by decide) _)) .of_net)

theorem TickKept.closeFrame (frame time : Nat) : TickKept s (s.closeFrame frame time) := by
  have hbatch : ∀ u : State, TickKept u u.writeBatch := fun u => by
    unfold State.writeBatch
    dsimp only
    refine .ite .of_net (.trans ?_ (TickKept.beaconAdd _ _ _ _ _))
    exact .of_net
  unfold State.closeFrame
  extract_lets cs count rec_ first _ closed
  exact .ite .of_net (.trans (u := closed) .of_net (.ite (hbatch _) .of_net))

theorem TickKept.closeChecks : TickKept s s.closeChecks := by
  unfold State.closeChecks
  extract_lets late _ _ begun recorded judged closed
  have hrecorded : TickKept begun recorded := TickKept.foldl (fun s o => TickKept.recordCheck s _ _ _ _ _ _) _ _
  have hjudged : TickKept recorded judged := TickKept.judgeHeld _ _
  have hclosed : TickKept judged closed := TickKept.foldl (fun s e => TickKept.closeFrame s _ _) _ _
  exact .trans (u := begun) .of_net ((hrecorded.trans hjudged).trans (hclosed.trans .of_net))

/-! #### Commits at the tick (R83 to R85, R376) -/

theorem TickKept.markDiff (before : List View) : TickKept s (s.markDiff before) := .of_net

theorem TickKept.swapBanks (epoch : Nat) : TickKept s (s.swapBanks epoch) := by
  unfold State.swapBanks
  extract_lets had _ swapped d mapped ranged id bank stated told
  have htold : TickKept stated told := TickKept.beaconAdd _ _ _ _ _
  have hmapped : TickKept swapped mapped := TickKept.put₃ _ _ _ _ _ _ _
  have hranged : TickKept mapped ranged := TickKept.put₃ _ _ _ _ _ _ _
  have hstated : TickKept ranged stated := .trans (TickKept.put₃ _ _ _ _ _ _ _) (TickKept.put _ _ _)
  have hswapped : TickKept s swapped := .of_net
  refine (hswapped.trans (hmapped.trans (hranged.trans (hstated.trans htold)))).trans ?_
  clear_value told
  exact .trans (.ite .of_net (TickKept.follow _ (by decide) _ _)) (TickKept.follow _ (by decide) _ _)

theorem TickKept.keepHeld (old : Bytes) (n : Nat) : TickKept s (s.keepHeld old n) := by
  unfold State.keepHeld
  extract_lets a b _ emptied kept _
  have hkept : TickKept s kept := by
    unfold kept
    split
    · exact .of_net
    · exact .of_net
  exact .ite hkept (hkept.trans .of_net)

theorem TickKept.dropWindows : TickKept s s.dropWindows := by
  unfold State.dropWindows
  dsimp only
  refine .trans ?_ (TickKept.foldl (fun s x => TickKept.settle s _ _ _) _ _)
  exact .of_net

theorem TickKept.commitScene (epoch tick : Nat) : TickKept s (s.commitScene epoch tick) := by
  unfold State.commitScene
  extract_lets old views swap applied numbered swapped stamped cleared _ withdrawn held _ restarted _ moded back all dropped
  have hnumbered : TickKept s numbered := .of_net
  have hswapped : TickKept numbered swapped := .ite (.trans (u := numbered.put 0x420001 0) .of_net (TickKept.swapBanks _ _)) .of_net
  have hwithdrawn : TickKept swapped withdrawn := .of_net
  have hheld : TickKept withdrawn held := TickKept.foldl (fun s n => TickKept.keepHeld s _ n) _ _
  have hrestarted : TickKept held restarted := .ite .of_net .of_net
  have hmoded : TickKept restarted moded := .ite .of_net .of_net
  have hdropped : TickKept moded dropped := TickKept.dropWindows _
  exact (((hnumbered.trans hswapped).trans hwithdrawn).trans (hheld.trans hrestarted)).trans ((hmoded.trans hdropped).trans (.ite .of_net .of_net))

theorem TickKept.refuseScene (r : Nat × Nat) : TickKept s (s.refuseScene r) := .of_net

theorem TickKept.tryCommit (epoch tick : Nat) : TickKept s (s.tryCommit epoch tick) := by
  unfold State.tryCommit
  split
  · exact TickKept.refuseScene s _
  · exact TickKept.commitScene s _ _

theorem TickKept.groupHold (outcome : Nat) : TickKept s (s.groupHold outcome) := by
  unfold State.groupHold
  extract_lets counted _ _ held
  have hheld : TickKept s held := ⟨rfl, rfl⟩
  split
  · exact hheld.trans (TickKept.onset held (fn := 0xD) (cause := 6) (by decide) 0)
  · exact hheld.trans (TickKept.onset held (fn := 0xD) (cause := 5) (by decide) 0)

theorem TickKept.groupCommit (epoch tick : Nat) : TickKept s (s.groupCommit epoch tick) := by
  unfold State.groupCommit
  extract_lets committed _ _ done
  have hcommitted : TickKept s committed := .trans (TickKept.commitScene s epoch tick) .of_net
  have hdone : TickKept committed done := ⟨rfl, rfl⟩
  exact (hcommitted.trans hdone).trans ((TickKept.settleAll _ 0xD 5).trans (TickKept.settleAll _ 0xD 6))

theorem TickKept.groupTick (tick : Nat) : TickKept s (s.groupTick tick) := by
  unfold State.groupTick
  split
  · exact TickKept.groupHold s 4
  · split
    · exact (TickKept.groupHold s 2).trans (TickKept.refuseScene _ _)
    · split
      · exact TickKept.groupCommit s _ _
      · exact .trans (u := s.groupSettle) .of_net (TickKept.groupHold _ 3)
      · exact TickKept.groupHold s _

theorem TickKept.standbyCommit (tick : Nat) : TickKept s (s.standbyCommit tick) := by
  unfold State.standbyCommit
  split
  · exact .of_net
  · dsimp only
    refine .ite .of_net ?_
    generalize hu : ({ s with pair := { s.pair with commitFor := none } } : State) = u
    have htaken : TickKept s u := .of_net (by rw [← hu])
    refine htaken.trans (.ite (.ite (TickKept.groupHold _ 4) (.ite ?_ ?_)) (.ite .of_net (TickKept.tryCommit _ _ _)))
    · exact .trans (.ite .of_net .of_net) (TickKept.groupHold _ _)
    · split
      · exact (TickKept.groupHold _ 2).trans (TickKept.refuseScene _ _)
      · exact TickKept.groupCommit _ _ _

theorem TickKept.commitAtTick (prev tick : Nat) : TickKept s (s.commitAtTick prev tick) := by
  unfold State.commitAtTick
  extract_lets ct
  exact .ite (TickKept.standbyCommit s _) (.ite .of_net (.ite (TickKept.groupTick s _) (.ite (TickKept.tryCommit s _ _) (.ite .of_net .of_net))))

/-! #### Readiness (R88 to R93) -/

theorem TickKept.layerEntry (n old : Nat) : TickKept s (s.layerEntry n old) := .ite (TickKept.beaconAdd s _ _ _ _) .of_net

theorem TickKept.showLayer (n : Nat) (c : Option (Picture × Option DepthPicture)) : TickKept s (s.showLayer n c) := by
  unfold State.showLayer
  dsimp only
  split
  · exact .of_net
  · exact .of_net

theorem TickKept.judgeLayer (tick n : Nat) : TickKept s (s.judgeLayer tick n) := .ite .of_net (.ite (TickKept.showLayer s _ _) .of_net)

theorem TickKept.judgeTarget (tick n : Nat) : TickKept s (s.judgeTarget tick n) := by
  unfold State.judgeTarget
  split
  · split
    · exact .of_net
    · exact .of_net
  · exact .of_net

theorem TickKept.judgeTargets (tick : Nat) (before : State) : TickKept s (s.judgeTargets tick before) :=
  .trans (TickKept.foldl (fun s n => TickKept.judgeTarget s tick n) _ s) (TickKept.foldl (fun s n => TickKept.layerEntry s n _) _ _)

theorem TickKept.beginTick : TickKept s s.beginTick := by
  unfold State.beginTick
  extract_lets written
  have hwritten : TickKept s written := TickKept.foldl (fun s n => .of_net) _ s
  exact hwritten.trans .of_net

theorem TickKept.judge (tick : Nat) (before : State) : TickKept s (s.judge tick before) := by
  unfold State.judge
  exact .trans (.trans (TickKept.beginTick s) (TickKept.foldl (fun s n => TickKept.judgeLayer s tick n) _ _)) (TickKept.judgeTargets _ tick before)

theorem TickKept.markLater : TickKept s s.markLater := .of_net

/-! #### The frame's grant, its BAND and its checks (R13, R173, R187) -/

theorem TickKept.grantFrame : TickKept s s.grantFrame := by
  unfold State.grantFrame
  refine .ite (TickKept.put _ _ _) ?_
  · extract_lets b safety again reserve used fits clocks none_ normal back taken left _ _ granted told counted
    have hgranted : TickKept s granted := .of_net
    have htold : TickKept granted told := .trans (TickKept.put _ _ _) (TickKept.put _ _ _)
    have hcounted : TickKept told counted := .trans (TickKept.put _ _ _) (TickKept.put _ _ _)
    clear_value counted
    exact ((hgranted.trans htold).trans hcounted).trans (.trans (u := counted.putOldest left) (TickKept.put _ _ _)
      (TickKept.follow _ (fn := 3) (cause := 3) (by decide) _ _))

theorem TickKept.sendBand (frame : Nat) : TickKept s (s.sendBand frame) := by
  unfold State.sendBand
  extract_lets mods all bands sent _
  exact .ite .of_net (.of_net (State.linkSend_net _ _))

theorem TickKept.setWindow (m slot column row columns rows : Nat) : TickKept s (s.setWindow m slot column row columns rows) :=
  .of_net (State.linkControl_net _ _ _ _ _)

theorem TickKept.timeChecks (frame : Nat) : TickKept s (s.timeChecks frame) := .ite .of_net .of_net

theorem TickKept.readWindow (frame m slot column row columns rows : Nat) : TickKept s (s.readWindow frame m slot column row columns rows) :=
  .trans (TickKept.timeChecks s frame) (.of_net (State.linkRead_net _ _ _ _ _ _ _))

theorem TickKept.failHostCheck : TickKept s s.failHostCheck := by
  unfold State.failHostCheck
  split
  · exact .trans (TickKept.timeChecks s _) (TickKept.recordCheck _ _ _ _ _ _ _)
  · exact .of_net

theorem TickKept.hostCheckNow (frame : Nat) : TickKept s (s.hostCheckNow frame) := by
  unfold State.hostCheckNow
  split
  · refine .ite .of_net (.trans (.trans ?_ (TickKept.setWindow _ _ _ _ _ _ _)) (TickKept.readWindow _ _ _ _ _ _ _ _))
    exact .of_net
  · exact .of_net

theorem TickKept.startChecks (frame : Nat) : TickKept s (s.startChecks frame) := by
  unfold State.startChecks
  extract_lets _ begun ms written _ marked checked
  have hwritten : TickKept begun written :=
    .ite .of_net (TickKept.foldl (fun s m => TickKept.foldl (fun s w => TickKept.setWindow s _ _ _ _ _ _) _ _) _ _)
  have hchecked : TickKept written checked := .trans (u := marked) .of_net (TickKept.hostCheckNow _ _)
  refine .trans (u := begun) .of_net (.ite (TickKept.failHostCheck _) (.ite (TickKept.hostCheckNow _ _) (.trans (hwritten.trans hchecked) ?_)))
  exact TickKept.foldl (fun s m => .trans (TickKept.foldl (fun s w => TickKept.readWindow s _ _ _ _ _ _ _) _ _)
    (TickKept.readWindow _ _ _ _ _ _ _ _)) _ _

theorem TickKept.settleRole (gap : Nat) : TickKept s (s.settleRole gap) := by
  unfold State.settleRole
  split
  · exact .of_net
  · refine .trans ?_ (TickKept.beaconAdd _ _ _ _ _)
    exact .of_net

theorem TickKept.twinChunks (kind n offset : Nat) (b : Bytes) : TickKept s (s.twinChunks kind n offset b) := by
  induction n generalizing s offset b with
  | zero => exact .of_net
  | succ n ih =>
    unfold State.twinChunks
    exact .ite .of_net (.trans (.of_net (State.twinSend_net _ _ _ _)) (ih _ _ _))

theorem TickKept.sendChanged : TickKept s s.sendChanged := .ite .of_net (TickKept.twinChunks s _ _ _ _)

/-! #### Units that go on after a Hold (R30, R61) -/

theorem TickKept.setTimeOut (n : Nat) (o : TimeOut) : TickKept s (s.setTimeOut n o) := ⟨rfl, rfl⟩

theorem TickKept.send (e : Out) : TickKept s (s.send e) := .of_net

theorem TickKept.fireOut (n at_ : Nat) (late : Bool) : TickKept s (s.fireOut n at_ late) :=
  .trans (TickKept.setTimeOut s n _) (.trans (TickKept.put _ _ _) (.trans (MediaOnly.update _ _).tickKept (TickKept.send _ _)))

theorem TickKept.outEdge (n : Nat) : TickKept s (s.outEdge n) := by
  rw [State.outEdge_eq]
  refine .trans (u := s.pulseEnded n) (.ite (.trans (TickKept.setTimeOut s _ _) (TickKept.send _ _)) .of_net) ?_
  unfold State.edgeDriven
  refine .ite .of_net ?_
  split
  · exact TickKept.fireOut _ _ _ _
  · exact .of_net

theorem TickKept.settleOutput (n : Nat) : TickKept s (s.settleOutput n) := by
  refine .ite ?_ .of_net
  unfold State.applyOutput
  dsimp only
  refine .trans ?_ (.ite (TickKept.outEdge _ _) .of_net)
  exact .trans (TickKept.setTimeOut s _ _) (.ite .of_net (TickKept.send _ _))

theorem TickKept.settleEnables : TickKept s s.settleEnables := by
  unfold State.settleEnables
  dsimp only
  refine .trans (.trans (MediaOnly.tickKept ?_) (TickKept.foldl (fun s n => TickKept.settleOutput s n) _ _)) (MediaOnly.cciAll _).tickKept
  refine .trans (.trans ?_ (Keeps.foldl (fun s k => MediaOnly.settleFlat s k) _ _)) (MediaOnly.resumeList _)
  refine .trans ?_ (Keeps.foldl (fun s k => MediaOnly.settleSlot s k) _ _)
  exact .trans (Keeps.foldl (fun s p => MediaOnly.settlePort s p) _ s) (Keeps.foldl (fun s n => MediaOnly.settleStream s n) _ _)

/-! #### The tick as a whole -/

theorem TickKept.frameEntered : TickKept s (let r := s.enterRun; if s.power.phase = .hold ∧ r.power.phase = .run then r.applyLevel else r.applyCap) :=
  .ite (.trans (TickKept.enterRun s) (TickKept.applyLevel _)) (.trans (TickKept.enterRun s) (TickKept.applyCap _))

theorem TickKept.publishFrame : TickKept s s.publishFrame := .of_net

theorem TickKept.commitWork (prev tick : Nat) : TickKept s ((s.closeChecks.publishFrame).commitAtTick prev tick) :=
  .trans (.trans (TickKept.closeChecks s) (TickKept.publishFrame _)) (TickKept.commitAtTick _ prev tick)

theorem TickKept.judgeWork (tick : Nat) (before : State) (views : List View) :
    TickKept s ((((s.judge tick before).unstale).markDiff views).markLater) :=
  .trans (.trans (.trans (TickKept.judge s tick before) (StaleOnly.unstale _).tickKept) (TickKept.markDiff _ _)) (TickKept.markLater _)

theorem TickKept.latchBands (frame : Nat) : TickKept s (s.latchBands frame) := .of_net

theorem TickKept.grantWork : TickKept s (if s.standby then s.standbyFrame else s.grantFrame) := .ite .of_net (TickKept.grantFrame s)

theorem TickKept.presentNext (number : Nat) :
    TickKept s (if s.linkSends then { s with link := { s.link with toPresent := s.link.toPresent ++ [number] } } else s) := .ite .of_net .of_net

theorem TickKept.checksNext (checks : Bool) (number : Nat) :
    TickKept s (if checks then s.startChecks number else { s with care := { s.care with dueChecks := s.care.dueChecks ++ [number] } }) :=
  .ite (TickKept.startChecks s _) .of_net

theorem State.noteTick_tick (k : Tick) : (s.noteTick k).net.lastTickLocal = some k.at_ ∧ (s.noteTick k).net.tickAfter = some k.time := ⟨rfl, rfl⟩

theorem State.frameTick_tick (k : Tick) :
    (s.frameTick k).net.lastTickLocal = some k.at_ ∧ (s.frameTick k).net.tickAfter = some k.time := by
  unfold State.frameTick
  extract_lets tick number prev watched noted r entered before committed views judged shown idle _ presented latched checked _ done
  have hnoted : noted.net.lastTickLocal = some k.at_ ∧ noted.net.tickAfter = some k.time := State.noteTick_tick _ k
  have hentered : TickKept noted entered := TickKept.frameEntered noted
  have hcommitted : TickKept entered committed := TickKept.commitWork entered prev tick
  have hjudged : TickKept committed judged := TickKept.judgeWork committed tick before views
  have hshown : TickKept judged shown := TickKept.grantWork judged
  have hpresented : TickKept shown presented := TickKept.presentNext shown number
  have hlatched : TickKept presented latched := TickKept.latchBands _ _
  have hchecked : TickKept latched checked := .ite .of_net (TickKept.sendBand _ _)
  have hdone : TickKept checked done := TickKept.checksNext checked _ number
  have hsent : TickKept done ((done.settleRole 0).sendChanged) := .trans (TickKept.settleRole _ _) (TickKept.sendChanged _)
  have hall := ((((hentered.trans hcommitted).trans hjudged).trans hshown).trans (hpresented.trans (hlatched.trans hchecked))).trans (hdone.trans hsent)
  exact ⟨hall.1.trans hnoted.1, hall.2.trans hnoted.2⟩

theorem State.contentTick_of_some {k : Tick} (hphase : s.power.phase = .run ∨ s.power.phase = .hold) (hk : s.tickNow = some k) :
    s.contentTick = s.frameTick k := by
  have hruns : (!(s.power.phase == .run || s.power.phase == .hold)) = false := by
    rcases hphase with h | h <;> rw [h] <;> rfl
  unfold State.contentTick
  rw [hruns]
  simp only [Bool.false_eq_true, if_false, hk]

theorem State.tickAndSettle_tick {k : Tick} (hphase : s.power.phase = .run ∨ s.power.phase = .hold) (hk : s.tickNow = some k) :
    s.tickAndSettle.net.lastTickLocal = some k.at_ ∧ s.tickAndSettle.net.tickAfter = some k.time := by
  have htick := State.frameTick_tick s k
  rw [← State.contentTick_of_some s hphase hk] at htick
  have hsettled : TickKept s.contentTick s.tickAndSettle :=
    .ite (.trans (TickKept.settleEnables _) (TickKept.applyCap _)) .of_net
  exact ⟨hsettled.1.trans htick.1, hsettled.2.trans htick.2⟩

end

end Sys2Proof.Machine
end

section
set_option Elab.async false
/-!
PROOFS. Hold limits, stale layers and safety re-renders between ticks (R89, R91, R92; O24).
-/

namespace Sys2Proof.Machine

/-! ### One layer's run among the others -/

theorem State.run_setRun_self (s : State) {n : Nat} (h : n < s.scene.layers.length) (r : LayerRun) : (s.setRun n r).run n = r :=
  nth_setNth_self h r {}

theorem State.run_setRun_ne (s : State) {n m : Nat} (h : m ≠ n) (r : LayerRun) : (s.setRun n r).run m = s.run m :=
  nth_setNth_ne _ h r {}

theorem State.setRun_of_not_lt (s : State) {n : Nat} (h : ¬n < s.scene.layers.length) (r : LayerRun) : (s.setRun n r).run = s.run := by
  have hset : setNth s.scene.layers n r = s.scene.layers := List.set_eq_of_length_le (Nat.le_of_not_lt h)
  funext m
  show nth (setNth s.scene.layers n r) m {} = nth s.scene.layers m {}
  rw [hset]

theorem State.run_congr {s u : State} (h : u.scene = s.scene) (n : Nat) : u.run n = s.run n := by
  unfold State.run
  rw [h]

/-! ### The judgement of the positions (R89, R90)

It changes each position's state, and of a position not enabled since when it was not ready; so what a position's policy gives, and
which positions are substitute targets, is the same before, during and after it. -/

/-- `u` is `s` with some of its positions judged. -/
def JudgedFrom (s u : State) : Prop :=
  (∃ layers, u = { s with scene := { s.scene with layers } } ∧ layers.length = s.scene.layers.length)
  ∧ ∀ m, (u.run m).heldAlloc = (s.run m).heldAlloc ∧ (s.layerOn m = true → (u.run m).notReadySince = (s.run m).notReadySince)

section

variable {s u : State}

theorem JudgedFrom.refl (s : State) : JudgedFrom s s := ⟨⟨s.scene.layers, rfl, rfl⟩, fun _ => ⟨rfl, fun _ => rfl⟩⟩

theorem JudgedFrom.length (h : JudgedFrom s u) : u.scene.layers.length = s.scene.layers.length := by
  obtain ⟨⟨layers, rfl, hlen⟩, -⟩ := h
  exact hlen

theorem JudgedFrom.layerOn (h : JudgedFrom s u) (m : Nat) : u.layerOn m = s.layerOn m := by
  obtain ⟨⟨layers, rfl, -⟩, -⟩ := h
  rfl

theorem JudgedFrom.layer (h : JudgedFrom s u) (m : Nat) : u.layer m = s.layer m := by
  obtain ⟨⟨layers, rfl, -⟩, -⟩ := h
  rfl

theorem JudgedFrom.policyState (h : JudgedFrom s u) (n since tick : Nat) : u.policyState n since tick = s.policyState n since tick := by
  have hmedia : u.media = s.media ∧ u.scene.surfaces = s.scene.surfaces := by
    obtain ⟨⟨layers, rfl, -⟩, -⟩ := h
    exact ⟨rfl, rfl⟩
  unfold State.policyState
  rw [h.layer, (h.2 n).1, hmedia.1, hmedia.2]

theorem JudgedFrom.wantsTarget (h : JudgedFrom s u) (tick m n : Nat) : u.wantsTarget tick m n = s.wantsTarget tick m n := by
  unfold State.wantsTarget
  rw [h.layerOn, h.layer]
  cases hon : s.layerOn m with
  | false => rfl
  | true =>
    rw [(h.2 m).2 hon]
    cases (s.run m).notReadySince with
    | none => rfl
    | some since => simp only [h.policyState]

theorem JudgedFrom.targeted (h : JudgedFrom s u) (tick d n : Nat) : u.targeted tick d n = s.targeted tick d n := by
  induction d generalizing n with
  | zero => rfl
  | succ d ih => simp only [State.targeted, h.wantsTarget, ih]

theorem JudgedFrom.setRun (h : JudgedFrom s u) {n : Nat} {r : LayerRun} (hheld : r.heldAlloc = (u.run n).heldAlloc)
    (hsince : s.layerOn n = true → r.notReadySince = (u.run n).notReadySince) : JudgedFrom s (u.setRun n r) := by
  refine ⟨?_, fun m => ?_⟩
  · obtain ⟨⟨layers, rfl, hlen⟩, -⟩ := h
    exact ⟨setNth layers n r, rfl, (List.length_set ..).trans hlen⟩
  · by_cases hn : n < u.scene.layers.length
    · by_cases hm : m = n
      · rw [hm, State.run_setRun_self u hn]
        exact ⟨hheld.trans (h.2 n).1, fun hon => (hsince hon).trans ((h.2 n).2 hon)⟩
      · rw [State.run_setRun_ne u hm]
        exact h.2 m
    · rw [State.setRun_of_not_lt u hn]
      exact h.2 m

theorem JudgedFrom.judgeTarget (h : JudgedFrom s u) (tick n : Nat) : JudgedFrom s (u.judgeTarget tick n) := by
  unfold State.judgeTarget
  split
  · split
    · exact h.setRun rfl fun _ => rfl
    · exact h
  · next hoff =>
    exact h.setRun rfl fun hon => absurd ((h.layerOn n).trans hon) hoff

theorem State.run_judgeTarget_ne {tick m n : Nat} (hn : n ≠ m) : (u.judgeTarget tick m).run n = u.run n := by
  unfold State.judgeTarget
  split
  · split
    · exact State.run_setRun_ne u hn _
    · rfl
  · exact State.run_setRun_ne u hn _

theorem JudgedFrom.judged_state (h : JudgedFrom s u) {tick n since : Nat} (hn : n < s.scene.layers.length) (hon : s.layerOn n = true)
    (hsince : (s.run n).notReadySince = some since) (hfree : s.targeted tick 17 n = false) :
    ((u.judgeTarget tick n).run n).state = s.policyState n since tick := by
  unfold State.judgeTarget
  rw [if_pos ((h.layerOn n).trans hon), ((h.2 n).2 hon).trans hsince]
  simp only [h.targeted, hfree, h.policyState]
  rw [State.run_setRun_self u (h.length.symm ▸ hn)]
  rfl

/-- A position that the judgement comes to, or that stands as its policy gives, stands so after it. -/
theorem JudgedFrom.foldl_state {tick n since : Nat} (hn : n < s.scene.layers.length) (hon : s.layerOn n = true)
    (hsince : (s.run n).notReadySince = some since) (hfree : s.targeted tick 17 n = false) (l : List Nat) (u : State) (h : JudgedFrom s u)
    (hl : n ∈ l ∨ (u.run n).state = s.policyState n since tick) :
    ((l.foldl (fun s m => s.judgeTarget tick m) u).run n).state = s.policyState n since tick := by
  induction l generalizing u with
  | nil => exact hl.resolve_left List.not_mem_nil
  | cons m l ih =>
    refine ih _ (h.judgeTarget tick m) ?_
    by_cases hm : n = m
    · exact .inr (hm ▸ h.judged_state hn hon hsince hfree)
    · rw [State.run_judgeTarget_ne hm]
      exact hl.imp_left fun hmem => (List.mem_cons.mp hmem).resolve_left hm

/-- An enabled position that is ready is left as it stands (R88). -/
theorem State.run_judgeTarget_ready {tick m n : Nat} (hon : u.layerOn n = true) (hready : (u.run n).notReadySince = none) :
    (u.judgeTarget tick m).run n = u.run n := by
  by_cases hm : n = m
  · subst hm
    unfold State.judgeTarget
    rw [if_pos hon, hready]
  · exact State.run_judgeTarget_ne hm

theorem JudgedFrom.foldl_ready {tick n : Nat} (hon : s.layerOn n = true) (l : List Nat) (u : State) (h : JudgedFrom s u)
    (hready : (u.run n).notReadySince = none) :
    (l.foldl (fun s m => s.judgeTarget tick m) u).run n = u.run n ∧ JudgedFrom s (l.foldl (fun s m => s.judgeTarget tick m) u) := by
  induction l generalizing u with
  | nil => exact ⟨rfl, h⟩
  | cons m l ih =>
    have hstep := State.run_judgeTarget_ready (tick := tick) (m := m) ((h.layerOn n).trans hon) hready
    obtain ⟨hrun, hfrom⟩ := ih _ (h.judgeTarget tick m) (by rw [hstep, hready])
    exact ⟨hrun.trans hstep, hfrom⟩

end

/-! ### Entries, and the end of staleness (R92, R93) -/

theorem Reported.layerEntry (s : State) (n old : Nat) : Reported s (s.layerEntry n old) := .ite (Reported.beaconAdd s _ _ _ _) (.refl s)

theorem Reported.run {s u : State} (h : Reported s u) (n : Nat) : u.run n = s.run n :=
  State.run_congr (h.field_of (field := fun s : State => s.scene) fun _ => rfl) n

theorem Reported.layerEntries (s : State) (old : Nat → Nat) (l : List Nat) : Reported s (l.foldl (fun s n => s.layerEntry n (old n)) s) :=
  Keeps.foldl (fun s n => Reported.layerEntry s n _) l s

/-- What an operation leaves of a layer's state and of since when it was not ready (R87, R88). -/
def ReadinessKept (n : Nat) (s u : State) : Prop :=
  (u.run n).state = (s.run n).state ∧ (u.run n).notReadySince = (s.run n).notReadySince

theorem ReadinessKept.trans {n : Nat} {s u w : State} (h : ReadinessKept n s u) (h' : ReadinessKept n u w) : ReadinessKept n s w :=
  ⟨h'.1.trans h.1, h'.2.trans h.2⟩

theorem ReadinessKept.of_run {n : Nat} {s u : State} (h : u.run n = s.run n) : ReadinessKept n s u := ⟨by rw [h], by rw [h]⟩

theorem ReadinessKept.ite {n : Nat} {c : Prop} [Decidable c] {s u w : State} (h : ReadinessKept n s u) (h' : ReadinessKept n s w) :
    ReadinessKept n s (if c then u else w) := by
  split
  · exact h
  · exact h'

theorem ReadinessKept.setStale (s : State) (n m : Nat) (stale : Bool) : ReadinessKept n s (s.setRun m { s.run m with stale }) := by
  by_cases hm : n = m
  · subst hm
    by_cases hn : n < s.scene.layers.length
    · unfold ReadinessKept
      rw [State.run_setRun_self s hn]
      exact ⟨rfl, rfl⟩
    · exact .of_run (congrFun (State.setRun_of_not_lt s hn _) n)
  · exact .of_run (State.run_setRun_ne s hm _)

theorem ReadinessKept.unstale (s : State) (n : Nat) : ReadinessKept n s s.unstale := by
  unfold State.unstale
  generalize List.range 16 = l
  induction l generalizing s with
  | nil => exact .of_run rfl
  | cons m l ih =>
    refine .trans (.ite ?_ (.of_run rfl)) (ih _)
    exact .trans (ReadinessKept.setStale s n m false) (.of_run (Reported.run (.trans (Reported.layerEntry _ m 5) (Reported.settle _ 0xB 2 m)) n))

/-! ### The three events (R89, R91, R92) -/

section

variable {s : State} {n : Nat}

theorem State.markDiff_run (s : State) (before : List View) : (s.markDiff before).run = s.run := rfl

theorem State.expireHold_state {since : Nat} (hn : n < s.scene.layers.length) (hin : n < 16) (hon : s.layerOn n = true)
    (hstate : (s.run n).state = 2) (hsince : (s.run n).notReadySince = some since) (hfree : s.targeted s.ptp 17 n = false) :
    ((s.expireHold n).run n).state = s.policyState n since s.ptp := by
  unfold State.expireHold
  dsimp only
  rw [hsince]
  dsimp only
  rw [hon, hstate]
  by_cases hhold : s.policyState n since s.ptp = 2
  · rw [hhold]
    exact hstate
  · rw [if_pos (by simp [hhold]), State.markDiff_run]
    exact (congrArg LayerRun.state ((Reported.layerEntries _ _ _).run n)).trans
      ((JudgedFrom.refl s).foldl_state hn hon hsince hfree _ _ (.inl (List.mem_range.mpr hin)))

theorem State.staleLayer_stale {limit : Nat} (hn : n < s.scene.layers.length) (hon : s.layerOn n = true) (hlimit : s.staleLimit n = some limit)
    (hfresh : (s.run n).stale = false) (hlate : s.lastAdvance n + limit ≤ s.now) :
    ((s.staleLayer n).run n).stale = true ∧ (s.staleLayer n).stands 0xB 2 n = true := by
  unfold State.staleLayer
  rw [hlimit]
  dsimp only
  rw [if_pos (by simp [hon, hfresh, hlate])]
  refine ⟨?_, State.stands_onset_self _ _ _ _⟩
  rw [Reported.run (.trans (Reported.layerEntry _ n _) (Reported.onset (fn := 0xB) (cause := 2) (by decide) _ n)) n, State.run_setRun_self s hn]

/-- The layer shows a frame and is ready (R88). -/
def ShowsReady (n : Nat) (pic : Picture) (s : State) : Prop :=
  nth s.media.shown n none = some pic ∧ (s.run n).state = 1 ∧ (s.run n).notReadySince = none

theorem State.showLayer_shows (hn : n < s.scene.layers.length) (hshown : n < s.media.shown.length) (pic : Picture) (d : Option DepthPicture) :
    ShowsReady n pic (s.showLayer n (some (pic, d))) := by
  unfold State.showLayer
  dsimp only
  exact ⟨nth_setNth_self hshown _ _, congrArg LayerRun.state (nth_setNth_self hn _ _), congrArg LayerRun.notReadySince (nth_setNth_self hn _ _)⟩

theorem ShowsReady.of_congr {pic : Picture} {u : State} (h : ShowsReady n pic s) (hshown : u.media.shown = s.media.shown)
    (hlayers : u.scene.layers = s.scene.layers) : ShowsReady n pic u := by
  unfold ShowsReady State.run
  rw [hshown, hlayers]
  exact h

theorem State.measureFrame_kept (s : State) (p n : Nat) (pic : Picture) :
    (s.measureFrame p n pic).media.shown = s.media.shown ∧ (s.measureFrame p n pic).scene = s.scene
      ∧ (s.measureFrame p n pic).regs = s.regs ∧ (s.measureFrame p n pic).doms = s.doms := by
  unfold State.measureFrame
  split
  · exact ⟨rfl, rfl, rfl, rfl⟩
  · exact ⟨rfl, rfl, rfl, rfl⟩

theorem State.layerOn_congr {u : State} (hdoms : u.doms = s.doms) (hget : u.get 0x400002 = s.get 0x400002) (n : Nat) :
    u.layerOn n = s.layerOn n := by
  unfold State.layerOn State.layer State.descriptor State.dom
  rw [hdoms, hget]

theorem State.showLayer_layerOn (s : State) (n m : Nat) (c : Option (Picture × Option DepthPicture)) :
    (s.showLayer n c).layerOn m = s.layerOn m := by
  unfold State.showLayer
  cases c with
  | none => rfl
  | some c =>
    refine State.layerOn_congr ?_ ?_ m
    · rfl
    · exact State.get_put_ne s (k := 0x400301 + n) (j := 0x400002) (by omega) _

theorem State.rerenderLayer_shows {p : Nat} {pic : Picture} {d : Option DepthPicture} (hn : n < s.scene.layers.length)
    (hshown : n < s.media.shown.length) (hpick : s.pickVideo n s.ptp = some (pic, d)) (hnew : s.showsFrame n pic = false) :
    ShowsReady n pic (s.rerenderLayer p n) ∧ (s.rerenderLayer p n).layerOn n = s.layerOn n := by
  unfold State.rerenderLayer
  rw [hpick]
  dsimp -zeta only
  rw [hnew, if_neg Bool.false_ne_true]
  extract_lets early old _ begun taken tiles marked _
  have htaken : ShowsReady n pic taken := by
    obtain ⟨hmedia, hscene, -, -⟩ := State.measureFrame_kept (begun.showLayer n (some (pic, d))) p n pic
    exact (State.showLayer_shows (s := begun) hn hshown pic d).of_congr hmedia (congrArg Scene.layers hscene)
  have hon : taken.layerOn n = s.layerOn n := by
    obtain ⟨-, -, hregs, hdoms⟩ := State.measureFrame_kept (begun.showLayer n (some (pic, d))) p n pic
    exact (State.layerOn_congr hdoms (State.get_congr hregs _) n).trans (State.showLayer_layerOn begun n n _)
  split
  · exact ⟨htaken.of_congr rfl rfl, hon⟩
  · exact ⟨htaken, hon⟩

theorem ShowsReady.reported {pic : Picture} {u : State} (h : ShowsReady n pic s) (hr : Reported s u) : ShowsReady n pic u :=
  h.of_congr (hr.field_of (field := fun s : State => s.media.shown) fun _ => rfl)
    (hr.field_of (field := fun s : State => s.scene.layers) fun _ => rfl)

theorem ShowsReady.judgeTargets {pic : Picture} (h : ShowsReady n pic s) (hon : s.layerOn n = true) (tick : Nat) (before : State) :
    ShowsReady n pic (s.judgeTargets tick before) := by
  unfold State.judgeTargets
  obtain ⟨hrun, ⟨layers, hjudged, -⟩, -⟩ := (JudgedFrom.refl s).foldl_ready (tick := tick) hon (List.range 16) s h.2.2
  generalize (List.range 16).foldl (fun s n => s.judgeTarget tick n) s = u at hrun hjudged ⊢
  have hmedia : u.media = s.media := by rw [hjudged]
  have hshows : ShowsReady n pic u := ⟨hmedia ▸ h.1, hrun ▸ h.2⟩
  exact hshows.reported (Reported.layerEntries u before.layerState _)

theorem ShowsReady.unstale {pic : Picture} (h : ShowsReady n pic s) : ShowsReady n pic s.unstale := by
  have hkept := ReadinessKept.unstale s n
  have hshown : s.unstale.media.shown = s.media.shown := (StaleOnly.unstale s).field_of (field := fun s : State => s.media.shown) fun _ => rfl
  refine ⟨?_, hkept.1.trans h.2.1, hkept.2.trans h.2.2⟩
  rw [hshown]
  exact h.1

/-- The layer positions bound to a safety region that show a camera port (R91). -/
def State.boundLayers (s : State) (p : Nat) : List Nat :=
  (List.range 8).filter fun n => s.layerOn n && (s.layer n).kind == 2 && (s.layer n).colour == p
    && s.safetyRegions.any fun r => r.bound == n

/-- The tiles that changed since `before` wait for the next tick (R88). -/
def State.deferSince (after before : State) : State :=
  let tiles := after.diffTiles before.views
  { after with scene := { after.scene with later := after.scene.later ++ tiles.filter fun t => !after.scene.later.contains t } }

theorem ShowsReady.deferSince {pic : Picture} (h : ShowsReady n pic s) (before : State) : ShowsReady n pic (s.deferSince before) :=
  h.of_congr rfl rfl

theorem State.rerender_eq (s : State) (p : Nat) :
    s.rerender p = if !(s.power.phase == .run && s.usable 9) then s
      else (((s.boundLayers p).foldl (fun s n => s.rerenderLayer p n) s).judgeTargets s.ptp s).unstale.deferSince s := by
  unfold State.rerender State.deferSince State.boundLayers
  rfl

theorem State.rerender_shows {p : Nat} {pic : Picture} {d : Option DepthPicture} (hn : n < s.scene.layers.length)
    (hshown : n < s.media.shown.length) (hphase : s.power.phase = .run) (husable : s.usable 9 = true) (hon : s.layerOn n = true)
    (hbound : s.boundLayers p = [n]) (hpick : s.pickVideo n s.ptp = some (pic, d)) (hnew : s.showsFrame n pic = false) :
    ShowsReady n pic (s.rerender p) := by
  obtain ⟨hshows, hstill⟩ := State.rerenderLayer_shows (p := p) hn hshown hpick hnew
  have hafter := ShowsReady.unstale (ShowsReady.judgeTargets hshows (hstill.trans hon) s.ptp s)
  rw [State.rerender_eq, hbound, hphase, husable, if_neg (by decide), List.foldl_cons, List.foldl_nil]
  exact ShowsReady.deferSince hafter s

end

/-- Settles O24. -/
theorem ticksAndLayerEventsAreTaken : Obligations.TicksAndLayerEventsAreTaken := by
  unfold Obligations.TicksAndLayerEventsAreTaken
  refine ⟨fun s t k hphase hk => ?_, fun s t n hn hin hon => ⟨fun since hstate hsince hfree => ?_, fun limit hlimit hfresh hlate => ?_,
    fun q pic d hq _ hshown hphase husable hbound hpick hnew => ?_⟩⟩
  · rw [exec_contentFrameTick]
    refine ⟨_, act_eq t s _, ?_⟩
    have htick := State.tickAndSettle_tick (s.begin t) hphase hk
    rw [← State.finish_net s t] at htick
    exact htick
  · rw [exec_holdLimitExpiry]
    refine answers_actIf (decide_eq_true hin) ?_
    rw [State.run_congr (State.finish_scene s t _) n]
    exact State.expireHold_state (s := s.begin t) hn hin hon hstate hsince hfree
  · rw [exec_layerStale]
    refine answers_actIf (decide_eq_true hin) ?_
    obtain ⟨hstale, hstands⟩ := State.staleLayer_stale (s := s.begin t) hn hon hlimit hfresh hlate
    refine ⟨?_, ?_⟩
    · rw [State.run_congr (State.finish_scene s t _) n]
      exact hstale
    · have hfinished := (State.stands_finish s t (fun s => s.staleLayer n) 0xB 2 n).trans hstands
      simpa [State.stands] using hfinished
  · rw [exec_safetyRerender]
    refine answers_actIf (decide_eq_true hq) ?_
    exact (State.rerender_shows (s := s.begin t) hn hshown hphase husable hon hbound hpick hnew).of_congr
      (congrArg Media.shown (State.finish_media s t _)) (congrArg Scene.layers (State.finish_scene s t _))

end Sys2Proof.Machine
end

section
set_option Elab.async false
/-!
PROOFS. Fault handling, the journal's entries, recovery entries and start-up writes that waited (R403, R410, R414, R442; O22).
-/

namespace Sys2Proof.Machine

/-! ### A fault's slot (R403) -/

theorem State.beaconAdd_faults_of_nothing_pending {s : State} {kind flags : Nat} {body : Bytes} (hp : s.beacon.pending = [])
    (hk : kind ≠ 0x0A ∧ kind ≠ 6) : (s.beaconAdd kind flags body []).faults = s.faults := by
  have habove : (s.newEntry kind flags body []).2.aboveLimit = false := by simp [State.newEntry, Entry.aboveLimit, hk]
  have hsize : (s.newEntry kind flags body []).2.size ≤ 57344 := by
    have hlen : (s.newEntry kind flags body []).2.size = 128 := by simp [State.newEntry, Entry.size, Entry.units]
    omega
  obtain ⟨hkept, -, -⟩ := State.beaconPut_of_nothing_pending (s := (s.newEntry kind flags body []).1) (by exact hp) habove hsize
  unfold State.beaconAdd
  dsimp only
  rw [hkept, if_neg Bool.false_ne_true]
  exact State.beaconPut_faults _ _

theorem State.foldl_put_kept (key value : Nat → Nat) (l : List Nat) (s : State) :
    (l.foldl (fun (s : State) i => s.put (key i) (value i)) s).faults = s.faults
      ∧ (l.foldl (fun (s : State) i => s.put (key i) (value i)) s).beacon = s.beacon := by
  induction l generalizing s with
  | nil => exact ⟨rfl, rfl⟩
  | cons i l ih => exact ih _

theorem State.history_kept (s : State) (code : Nat) : (s.history code).faults = s.faults ∧ (s.history code).beacon = s.beacon := by
  unfold State.history
  extract_lets old moved
  have hmoved : moved.faults = s.faults ∧ moved.beacon = s.beacon := State.foldl_put_kept _ _ _ _
  clear_value moved
  exact hmoved

/-- The latest entry of the error history names the fault and its class's error code (R43). -/
theorem State.get_history (s : State) (code : Nat) : (s.history code).get 0x100301 = (code * 65536 + (0xFF00 + code / 4096)) % 2 ^ 32 := by
  unfold State.history
  extract_lets old moved
  rw [State.get_put_ne _ (k := 0x100300) (j := 0x100301) (by decide)]
  exact State.get_put_self _ 0x100301 _

/-- What a handled fault tells: the history, the journal, the emergency, the event; and the queue is swept (R43, R52, R403). -/
def State.tellHandled (s : State) (f g : FaultEntry) : State :=
  let s := s.history f.code
  let s := s.beaconAdd 2 0 (faultBody g (s.get 0x48000C)) []
  let s := s.emergency { code := 0xFF00 + f.cls, register := s.errorRegister, fault := f.code, seq := f.seq }
  let s := s.eventFrame (s.eventPayload 1 f.code f.seq f.raised)
  s.sweep

/-- A fault's state in the queue once its slot has come, and an escalation marked on the fault it is nested in (R405). -/
def handledIn (f g : FaultEntry) (esc : Bool) (q : List FaultEntry) : List FaultEntry :=
  q.map fun h => if h.seq = f.seq then g else if esc && h.seq == f.nested then { h with escalated := true } else h

theorem handled_of_mem_handledIn {f g h : FaultEntry} {esc : Bool} {q : List FaultEntry} (hg : g.handled = true)
    (hmem : h ∈ handledIn f g esc q) (hseq : h.seq = f.seq) : h.handled = true := by
  obtain ⟨x, -, rfl⟩ := List.mem_map.mp hmem
  by_cases hx : x.seq = f.seq
  · rw [if_pos hx]
    exact hg
  · rw [if_neg hx] at hseq
    split at hseq
    · exact absurd hseq hx
    · exact absurd hseq hx

theorem State.tellHandled_queue {s : State} (hp : s.beacon.pending = []) (hover : s.faults.overflowOwed = false) (f g : FaultEntry) :
    (s.tellHandled f g).faults.queue = s.faults.queue.filter fun f => !f.leaves := by
  unfold State.tellHandled
  extract_lets noted entered told framed
  have hentered : entered.faults = noted.faults :=
    State.beaconAdd_faults_of_nothing_pending ((congrArg Beacon.pending (s.history_kept f.code).2).trans hp) (by decide)
  have hframed : framed.faults = s.faults := by
    rw [State.eventFrame_faults, State.emergency_faults, hentered, (s.history_kept f.code).1]
  rw [State.sweep_queue_of_no_overflow (by rw [hframed, hover]), hframed]

theorem State.get_tellHandled (s : State) (f g : FaultEntry) :
    (s.tellHandled f g).get 0x100301 = (f.code * 65536 + (0xFF00 + f.code / 4096)) % 2 ^ 32 := by
  unfold State.tellHandled
  extract_lets noted entered told framed
  rw [State.get_sweep _ (by decide), State.get_eventFrame _ _ (by decide), State.get_emergency,
    State.get_beaconAdd _ _ _ _ _ (by decide), State.get_history]

theorem State.handleFault_handled {s : State} {f : FaultEntry} (hf : s.faults.queue.find? (fun f => !f.handled) = some f)
    (hslot : (s.faults.slots.any fun p => p.1 == f.seq && decide (p.2 ≤ s.now)) = true) (hover : s.faults.overflowOwed = false)
    (hp : s.beacon.pending = []) (hcls : f.cls < 16) (hfn : f.fn < 16) (hcause : f.cause < 256) :
    (∀ g ∈ s.handleFault.faults.queue, g.seq = f.seq → g.handled = true)
      ∧ s.handleFault.get 0x100301 = f.code * 65536 + (0xFF00 + f.cls) := by
  have hcode : f.code = f.cls * 4096 + f.fn * 256 + f.cause := rfl
  unfold State.handleFault
  rw [hf]
  dsimp -zeta only
  extract_lets begun outer esc s₁ s₂ g q s₃ s₄
  rw [if_neg (by simp [begun, hslot])]
  have hescalated : s₂.faults.overflowOwed = s.faults.overflowOwed ∧ s₂.beacon = s.beacon := by
    unfold s₂
    split
    · exact ⟨rfl, rfl⟩
    · exact ⟨rfl, rfl⟩
  have hpending : s₄.beacon.pending = [] := (congrArg Beacon.pending hescalated.2).trans hp
  have howed : s₄.faults.overflowOwed = false := hescalated.1.trans hover
  have hmarked : s₄.faults.queue = handledIn f g esc s₂.faults.queue := rfl
  clear_value s₄
  have hqueue := State.tellHandled_queue hpending howed f g
  rw [hmarked] at hqueue
  refine ⟨fun h hmem hseq => ?_, ?_⟩
  · exact handled_of_mem_handledIn (g := g) rfl (List.mem_of_mem_filter (hqueue ▸ hmem)) hseq
  · refine (State.get_tellHandled s₄ f g).trans ?_
    rw [hcode, Nat.mod_eq_of_lt (by omega)]
    omega

/-! ### The journal and its recovery entry (R410, R414) -/

theorem State.writeEntry_kept (s : State) (e : Entry) :
    (∃ x ∈ (s.writeEntry e).nv.journal, x.2 = { e with job := false }) ∧ ∀ y ∈ (s.writeEntry e).beacon.pending, y.seq ≠ e.seq := by
  have hseq : ∀ (l : List Entry), ∀ y ∈ l.filter (fun x => x.seq != e.seq), y.seq ≠ e.seq := fun l y hy =>
    bne_iff_ne.mp (List.mem_filter.mp hy).2
  unfold State.writeEntry
  extract_lets limit at_ _ nv b
  split
  · exact ⟨⟨(at_, { e with job := false }), List.mem_append_right _ (List.mem_singleton_self _), rfl⟩, hseq b.pending⟩
  · exact ⟨⟨(at_, { e with job := false }), List.mem_append_right _ (List.mem_singleton_self _), rfl⟩, hseq b.pending⟩

theorem State.writePending_eq {s : State} {e : Entry} {rest : List Entry} (hserved : s.served = true) (hpresent : s.beacon.present = true)
    (hstaging : s.beacon.stagingOnly = false) (hp : s.beacon.pending = e :: rest) (hjob : s.jobWaits e = false) (hsize : e.size < 4096)
    (rate : Nat) : s.writePending true rate = s.writeEntry e := by
  unfold State.writePending
  rw [hserved, hpresent, hstaging, hp, if_neg (by decide)]
  dsimp only
  rw [hjob, if_neg Bool.false_ne_true, if_pos rfl, if_pos hsize]

theorem State.queueRecovery_entry {s : State} {lo hi : Nat} (hd : s.beacon.dropped = some (lo, hi)) (hp : s.beacon.pending = []) :
    ∃ e ∈ s.queueRecovery.beacon.staging, e.kind = 0x0D ∧ e.seq = s.beacon.nextSeq ∧ e.body = leBytes 8 lo ++ leBytes 8 hi ++ [1] := by
  have hroom : ¬57344 < ordinaryBytes s.beacon.pending + 128 := by rw [hp]; decide
  unfold State.queueRecovery
  rw [hd]
  dsimp only
  rw [if_neg hroom]
  generalize hu : ({ s with beacon := { s.beacon with dropped := none } } : State) = u
  have hpending : u.beacon.pending = [] := by rw [← hu]; exact hp
  have hnext : u.beacon.nextSeq = s.beacon.nextSeq := by rw [← hu]
  have hkept := (State.beaconAdd_of_nothing_pending (kind := 0x0D) (flags := 0) (body := leBytes 8 lo ++ leBytes 8 hi ++ [1]) (payload := [])
    hpending rfl (by simp [State.newEntry, Entry.size, Entry.units])).1
  exact ⟨_, hkept, rfl, hnext, rfl⟩

/-! ### Start-up writes that waited (R442) -/

theorem State.writeObject_content {s : State} {k : Nat} {b : Bytes} {o : Obj} (h : s.takesContent k b = true) (ho : objOf k = some o)
    (hk : mustReadBack k = false) (himage : k ≠ 0x262002) (p : Path) :
    s.writeObject p none k b false {} = (s.setContentOf k o.acc b {}, some 0) := by
  simp only [State.takesContent, State.contentFits, ho, Bool.and_eq_true, beq_iff_eq, decide_eq_true_eq] at h
  obtain ⟨⟨⟨hg, hs⟩, hl⟩, ⟨hd, hlen⟩, hc⟩ := h
  have hr : s.refused k 0 = false := by
    by_contra hr
    unfold State.startCode at hs
    split_ifs at hs with _ _ h₃
    · exact hr (Bool.eq_false_iff.mpr h₃)
  have hshort : ¬1024 < b.length := Nat.not_lt.mpr hl
  have hloose : looseBulk b = false := by simp [looseBulk, hshort]
  have hintake : s.intake b = (s, some b) := by rw [State.intake, if_pos hl]
  simp [State.writeObject, State.arriveContent, State.commitContent, State.looseRefused, looseInput, hg, ho, hd, hs, hl, hr, hk, hloose,
    hshort, hintake, hlen, hc, himage]

theorem State.applyWrites_one {s u : State} {r : Nat × Bytes} (hready : s.usable 2 = true)
    (hw : s.writeObject .internal none r.1 r.2 false {} = (u, some 0)) :
    s.applyWrites [r] = { u with cal := { u.cal with paused := [] } } := by
  unfold State.applyWrites
  rw [hready, hw, if_neg (by simp)]
  rfl

theorem State.resumeWrites_held {s : State} {k : Nat} {b : Bytes} (hserved : s.served = true) (hready : s.usable 2 = true)
    (hp : s.cal.paused = [(k, b)]) (hk : k ∈ heldContents) (htakes : s.takesContent k b = true) :
    s.resumeWrites.dom k = b ∧ s.resumeWrites.cal.paused = [] := by
  obtain ⟨o, ho⟩ : ∃ o, objOf k = some o := by
    have hsome := acc_of_heldContent k hk
    cases ho : objOf k with
    | none => rw [ho] at hsome; cases hsome
    | some o => exact ⟨o, rfl⟩
  have ha : o.acc = .rwI := by simpa [ho] using acc_of_heldContent k hk
  have himage : k ≠ 0x262002 := fun h => absurd (h ▸ hk) (by decide)
  have hw := State.writeObject_content htakes ho (heldContent_not_mustReadBack k hk) himage .internal
  unfold State.resumeWrites
  rw [hserved, hready, hp, if_pos (by rfl), State.applyWrites_one hready hw, ha]
  exact ⟨State.dom_setContentOf_held hk b {}, rfl⟩

end Sys2Proof.Machine
end

section
set_option Elab.async false
/-!
PROOFS. The cold start (R427, R429; O22).
-/

namespace Sys2Proof.Machine

/-! ### What the work of a start leaves of the power phase, the strap and the OTP generations (R429, R442) -/

/-- The power phase, the strap sampled and the OTP generations are the same. -/
def StartKept (s u : State) : Prop := u.power.phase = s.power.phase ∧ u.pair.strapB = s.pair.strapB ∧ u.nv.otp = s.nv.otp

section

variable {s u w : State}

theorem StartKept.of_fields (hpower : u.power = s.power := by rfl) (hpair : u.pair = s.pair := by rfl) (hnv : u.nv = s.nv := by rfl) :
    StartKept s u := ⟨by rw [hpower], by rw [hpair], by rw [hnv]⟩

theorem StartKept.refl (s : State) : StartKept s s := ⟨rfl, rfl, rfl⟩

theorem StartKept.trans (h : StartKept s u) (h' : StartKept u w) : StartKept s w :=
  ⟨h'.1.trans h.1, h'.2.1.trans h.2.1, h'.2.2.trans h.2.2⟩

theorem StartKept.ite {c : Prop} [Decidable c] (h : StartKept s u) (h' : StartKept s w) : StartKept s (if c then u else w) := by
  split
  · exact h
  · exact h'

theorem StartKept.foldl {α : Type} {step : State → α → State} (h : ∀ s x, StartKept s (step s x)) (l : List α) (s : State) :
    StartKept s (l.foldl step s) := by
  induction l generalizing s with
  | nil => exact .refl s
  | cons x l ih => exact (h s x).trans (ih _)

theorem MediaFails.startKept (h : MediaFails s u) : StartKept s u :=
  .of_fields (h.field_of (field := fun s : State => s.power) fun _ => rfl) (h.field_of (field := fun s : State => s.pair) fun _ => rfl)
    (h.field_of (field := fun s : State => s.nv) fun _ => rfl)

theorem MediaOnly.startKept (h : MediaOnly s u) : StartKept s u := h.fails.startKept

theorem Reported.startKept (h : Reported s u) : StartKept s u := h.media.startKept

variable (s)

theorem StartKept.put (k v : Nat) : StartKept s (s.put k v) := .of_fields

theorem StartKept.bump (k n : Nat) : StartKept s (s.bump k n) := .of_fields

theorem StartKept.send (o : Out) : StartKept s (s.send o) := .of_fields

theorem StartKept.raiseCore (fn cause detail : Nat) (e : Effect) : StartKept s (s.raiseCore fn cause detail e) :=
  (MediaFails.raiseCore s fn cause detail e).startKept

theorem StartKept.raise (fn cause detail : Nat) : StartKept s (s.raise fn cause detail) := StartKept.raiseCore s _ _ _ _

theorem StartKept.beaconAdd (kind flags : Nat) (body payload : Bytes) : StartKept s (s.beaconAdd kind flags body payload) :=
  (Reported.beaconAdd s kind flags body payload).startKept

theorem StartKept.contain (fn cause : Nat) (e : Effect) : StartKept s (s.contain fn cause e) := by
  cases e with
  | unchanged => exact .refl s
  | degraded => exact .ite (.refl s) .of_fields
  | failed => exact .of_fields

/-! #### User OTP, the memory's fit and the image (R434, R441) -/

theorem StartKept.loadOtp : StartKept s s.loadOtp := by
  unfold State.loadOtp
  dsimp only
  refine .ite ?_ (.trans ?_ .of_fields)
  · exact .trans (StartKept.put s _ _) (StartKept.foldl (fun s r => .ite (.refl s) (StartKept.put s _ _)) _ _)
  · exact .trans (StartKept.put s _ _) (StartKept.foldl (fun s r => .ite (.refl s) (StartKept.put s _ _)) _ _)

theorem StartKept.setRank (r : Nat) (x : Rank) : StartKept s (s.setRank r x) := .of_fields

theorem StartKept.fitRanks : StartKept s s.fitRanks :=
  StartKept.foldl (fun s c => StartKept.foldl (fun s r => StartKept.setRank s r _) (s.fitted c) s) _ s

theorem StartKept.findTable : StartKept s s.findTable := by
  unfold State.findTable
  split
  · exact .refl s
  · dsimp only
    refine .trans (u := { s with nv := { s.nv with tables := [defaultTable Config.nvmKiB, defaultTable Config.nvmKiB] } }) ⟨rfl, rfl, rfl⟩
      (StartKept.raise _ _ _ _)

theorem failSlot_otp (n : Nv) (k : Nat) : (n.failSlot k).otp = n.otp := by
  unfold Nv.failSlot Nv.rewriteTable
  split
  · rfl
  · rfl

theorem StartKept.flagSlot (k : Nat) : StartKept s (s.flagSlot k) :=
  .trans (u := { s with nv := s.nv.failSlot k }) ⟨rfl, rfl, failSlot_otp s.nv k⟩ (StartKept.raise _ _ _ _)

theorem StartKept.trySlots (ok : List Bool) (l : List Nat) : StartKept s (s.trySlots ok l).1 := by
  induction l generalizing s with
  | nil => exact .refl s
  | cons k l ih =>
    unfold State.trySlots
    split
    · exact .refl s
    · exact (StartKept.flagSlot s k).trans (ih _)

/-- The slot that the last start tried in vain is flagged (R434). -/
def State.flagTried (s : State) : State :=
  match s.nv.triedSlot with
  | some k => if s.get 0x202003 = 4 then s.flagSlot k else s
  | none => s

theorem StartKept.flagTried : StartKept s s.flagTried := by
  unfold State.flagTried
  split
  · exact .ite (StartKept.flagSlot s _) (.refl s)
  · exact .refl s

theorem StartKept.chooseImage (ok : List Bool) : StartKept s (s.chooseImage ok).1 := by
  unfold State.chooseImage
  split
  · exact StartKept.put s _ _
  · extract_lets flagged
    have hflagged : StartKept s flagged := StartKept.flagTried s
    have htried : StartKept flagged (State.trySlots { flagged with nv := { flagged.nv with triedSlot := none } } ok flagged.nv.bootOrder).1 :=
      .trans (u := { flagged with nv := { flagged.nv with triedSlot := none } }) ⟨rfl, rfl, rfl⟩ (StartKept.trySlots _ _ _)
    split
    next u k htry =>
      rw [htry] at htried
      exact (hflagged.trans htried).trans (StartKept.put _ _ _)
    next u htry =>
      rw [htry] at htried
      exact (hflagged.trans htried).trans (.trans (StartKept.put _ _ _) (StartKept.raise _ _ _ _))

/-! #### Trims, the repair list and the journal (R326, R415, R440) -/

theorem StartKept.follow {fn cause : Nat} (he : effectOf fn cause ≠ .failed) (b : Bool) (item : Nat) : StartKept s (s.follow b fn cause item) :=
  (Reported.follow he s b item).startKept

theorem StartKept.setMacro (m : Nat) (x : Macro) : StartKept s (s.setMacro m x) := .of_fields

theorem StartKept.setCarver (i : Nat) (c : Carver) : StartKept s (s.setCarver i c) := .of_fields

theorem StartKept.excludeChannel (a : Nat) :
    StartKept s (([2 * a, 2 * a + 1].foldl (fun (s : State) r => if (s.rank r).state = 1 then s.rankState r 7 else s)
      (s.setChannel a { s.channel a with excluded := true })).contain 2 6 .degraded) :=
  .trans (.trans (u := s.setChannel a { s.channel a with excluded := true }) .of_fields
    (StartKept.foldl (fun s _ => .ite (StartKept.setRank s _ _) (.refl s)) _ _)) (StartKept.contain _ _ _ _)

theorem StartKept.applyRepair (e : Bytes) : StartKept s (s.applyRepair e) := by
  unfold State.applyRepair
  dsimp only
  split
  · exact .ite (.refl s) (StartKept.setRank s _ _)
  · exact StartKept.excludeChannel s _
  · exact .ite (.refl s) (StartKept.setRank s _ _)
  · exact StartKept.setCarver s _ _
  · exact StartKept.setMacro s _ _
  · exact StartKept.setMacro s _ _
  · exact .refl s

theorem StartKept.applyRepairs (l : List Bytes) : StartKept s (s.applyRepairs l) := by
  unfold State.applyRepairs
  extract_lets _ begun applied
  have happlied : StartKept begun applied :=
    .trans (StartKept.foldl (fun s e => StartKept.applyRepair s e) l begun) (.ite (StartKept.contain _ _ _ _) (.refl _))
  exact .trans (u := begun) .of_fields (happlied.trans (StartKept.follow _ (by decide) _ _))

theorem StartKept.readTrims : StartKept s s.readTrims := by
  unfold State.readTrims
  split
  · extract_lets _ begun
    exact .trans (u := begun) .of_fields (.trans (StartKept.put _ _ _) (StartKept.raise _ _ _ _))
  · next c _ =>
    extract_lets _ rewritten calibrated _ read
    have hrewritten : StartKept s rewritten := .ite (.refl s) (.trans (u := { s with nv := { s.nv with trims := [c, c] } }) ⟨rfl, rfl, rfl⟩
      (StartKept.raise _ _ _ _))
    have hread : StartKept rewritten read := ⟨rfl, rfl, rfl⟩
    exact (hrewritten.trans hread).trans (.trans (StartKept.put _ _ _) (StartKept.applyRepairs _ _))

theorem StartKept.recoverJournal : StartKept s s.recoverJournal := by
  unfold State.recoverJournal
  refine .ite (.refl s) ?_
  extract_lets _ begun told
  have htold : StartKept s told := .trans (u := begun) ⟨rfl, rfl, rfl⟩ (.ite (StartKept.raise _ _ _ _) (.refl _))
  clear_value told
  split
  · exact htold
  · refine htold.trans ?_
    dsimp only
    exact .trans (u := { told with
        nv := { told.nv with torn := none, head := _ }, beacon := { told.beacon with nextSeq := max told.beacon.nextSeq _ } }) ⟨rfl, rfl, rfl⟩ (.trans (.trans (StartKept.bump _ _ _) (StartKept.raise _ _ _ _)) (StartKept.beaconAdd _ _ _ _ _))

/-! #### PLLs, entries and boot-up messages (R25, R42, R472) -/

theorem StartKept.startPlls (l : List PllDomain) : StartKept s (s.startPlls l) :=
  StartKept.foldl (fun s d => by
    unfold State.needPll
    rw [if_pos rfl]
    exact .ite (.refl s) ⟨rfl, rfl, rfl⟩) _ s

theorem StartKept.startEntries : StartKept s s.startEntries := by
  unfold State.startEntries
  extract_lets _ owed
  have howed : StartKept s owed := .ite (.trans (u := { s with power := { s.power with sleepPfail := false } }) ⟨rfl, rfl, rfl⟩
    (StartKept.beaconAdd _ _ _ _ _)) (.refl s)
  exact howed.trans (StartKept.beaconAdd _ _ _ _ _)

theorem StartKept.bootUps : StartKept s s.bootUps :=
  StartKept.foldl (fun s _ => .ite .of_fields (.refl s)) _ s

/-! #### Self-tests (R429) and the panel link's training -/

theorem StartKept.addRepair (e : Bytes) : StartKept s (s.addRepair e) := by
  have hstore : ∀ u : State, StartKept u u.storeTrims := fun u => .ite (.refl u) ⟨rfl, rfl, rfl⟩
  have hadd : ∀ r : List Bytes, StartKept s { s with cal := { s.cal with repairs := r } } := fun _ => .of_fields
  unfold State.addRepair
  dsimp only
  split
  · exact .refl s
  · exact (hadd _).trans (hstore _)

theorem StartKept.repairColumn (m column : Nat) : StartKept s (s.repairColumn m column) :=
  .ite (StartKept.raise s 2 9 m) (.trans (.trans (StartKept.setMacro s _ _) (StartKept.addRepair _ _)) (StartKept.raise _ 2 8 m))

theorem StartKept.repairRow (m row : Nat) : StartKept s (s.repairRow m row) :=
  .ite (StartKept.raise s 2 9 m) (.trans (.trans (StartKept.setMacro s _ _) (StartKept.addRepair _ _)) (StartKept.raise _ 2 8 m))

theorem StartKept.noteRendered (t : Nat) : StartKept s (s.noteRendered t) := .of_fields

theorem StartKept.takeBand (i : Nat) (b : Nat × Nat) : StartKept s (s.takeBand i b) := by
  unfold State.takeBand
  dsimp only
  exact .trans ⟨rfl, rfl, rfl⟩ (StartKept.foldl (fun s (x : Claim) => StartKept.noteRendered s x.tile) _ _)

theorem StartKept.reissueBand (b : Band) : StartKept s (s.reissueBand b) := by
  unfold State.reissueBand
  dsimp only
  split
  · exact .trans (StartKept.bump s _ _) (StartKept.takeBand _ _ _)
  · exact StartKept.bump s _ _

theorem StartKept.nextPlacement : StartKept s s.nextPlacement := StartKept.put s _ _

theorem StartKept.applyCap : StartKept s s.applyCap :=
  .ite (StartKept.foldl (fun s _ => .ite (.trans (StartKept.setCarver s _ _) (StartKept.nextPlacement _)) (.ite (StartKept.setCarver s _ _)
    (.ite (.refl s) (.ite (StartKept.setCarver s _ _) (.trans (StartKept.setCarver s _ _) (StartKept.nextPlacement _)))))) _ s) (.refl s)

theorem StartKept.retireCarver (i : Nat) : StartKept s (s.retireCarver i) := by
  unfold State.retireCarver
  refine .ite (.refl s) ?_
  extract_lets out marked listed _ golden reissued
  have hmarked : StartKept s marked :=
    .trans (.trans (.trans (StartKept.setCarver s i _) (StartKept.nextPlacement _)) (StartKept.raise _ 3 1 i)) .of_fields
  have hlisted : StartKept marked listed := StartKept.addRepair _ _
  have hgolden : StartKept listed golden := ⟨rfl, rfl, rfl⟩
  have hreissued : StartKept golden reissued := by
    unfold reissued
    split
    · exact StartKept.reissueBand _ _
    · exact .refl _
  exact ((hmarked.trans hlisted).trans (hgolden.trans hreissued)).trans (.trans (StartKept.follow _ (fn := 3) (cause := 2) (by decide) _ _) (StartKept.applyCap _))

theorem MediaOnly.encoderObjects : MediaOnly s s.encoderObjects := .trans (MediaOnly.put s _ _) (MediaOnly.put _ _ _)

theorem MediaOnly.moveStream (n : Nat) : MediaOnly s (s.moveStream n) := by
  unfold State.moveStream
  extract_lets load closed _ moving
  have hmoving : MediaOnly s moving := .trans (MediaOnly.endSegment s n 0) (MediaOnly.setStream _ _ _)
  clear_value moving
  split
  · exact hmoving.trans (.trans (MediaOnly.setStream _ _ _) (MediaOnly.newChain _ _))
  · exact hmoving.trans (.trans (MediaOnly.put _ _ _) (Reported.raise (fn := 6) (cause := 2) (by decide) _ _).media)

theorem StartKept.failEncoder (core : Nat) : StartKept s (s.failEncoder core) := by
  unfold State.failEncoder
  refine .ite (.refl s) ?_
  extract_lets hit cores _ _ out raised
  have hraised : StartKept out raised := StartKept.raiseCore _ _ _ _ _
  exact .trans (u := out) .of_fields (hraised.trans (MediaOnly.startKept (.trans (Keeps.foldl (fun s n => MediaOnly.moveStream s n) _ _)
    (MediaOnly.encoderObjects _))))

theorem StartKept.failBlitter : StartKept s s.failBlitter := by
  unfold State.failBlitter
  refine .ite (.refl s) ?_
  extract_lets out ended _ cleared
  have hended : StartKept out ended := .ite (StartKept.put _ _ _) (.refl _)
  exact ((StartKept.put s _ _).trans hended).trans (.trans (u := cleared) .of_fields (StartKept.raiseCore _ _ _ _ _))

theorem StartKept.selfTestSram (columns : List (Nat × Nat)) (l : List SramFinding) : StartKept s (s.selfTestSram columns l) :=
  .trans (StartKept.foldl (fun s _ => StartKept.repairColumn s _ _) _ s) (StartKept.foldl (fun s _ => .ite (StartKept.repairRow s _ _) (.refl s)) _ _)

theorem StartKept.selfTests (f : BootFacts) : StartKept s (s.selfTests f) := by
  unfold State.selfTests
  extract_lets ram carvers pipes engines encoders decoders groomer
  have hram : StartKept s ram := StartKept.selfTestSram s _ _
  have hcarvers : StartKept ram carvers := StartKept.foldl (fun s i => StartKept.retireCarver s i) _ _
  have hpipes : StartKept carvers pipes := StartKept.foldl (fun s n => (MediaFails.failPipeline s n).startKept) _ _
  have hengines : StartKept pipes engines := StartKept.foldl (fun s e => (MediaFails.failEngine s e).startKept) _ _
  have hencoders : StartKept engines encoders := StartKept.foldl (fun s c => StartKept.failEncoder s c) _ _
  have hdecoders : StartKept encoders decoders := StartKept.foldl (fun s c => (MediaFails.failDecoder s c).startKept) _ _
  have hgroomer : StartKept decoders groomer := .ite (StartKept.raise _ _ _ _) (.refl _)
  exact (((hram.trans hcarvers).trans (hpipes.trans hengines)).trans ((hencoders.trans hdecoders).trans hgroomer)).trans
    (.ite (StartKept.failBlitter _) (.refl _))

theorem StartKept.beginTraining (n : Nat) : StartKept s (s.beginTraining n) := by
  unfold State.beginTraining
  extract_lets _ begun lanes
  have hbegun : StartKept s begun := .of_fields
  refine hbegun.trans (.of_fields ?_ ?_ ?_)
  · rw [State.burst_power]; rfl
  · rw [State.burst_pair]; rfl
  · rw [State.burst_nv]; rfl

/-! #### The start as a whole -/

/-- Run, with the strap sampled and no start-up write that waits. -/
def Started (strapB : Bool) (s : State) : Prop := s.power.phase = .run ∧ s.pair.strapB = strapB ∧ s.cal.paused = []

theorem Started.startupWrites {strapB : Bool} (hphase : s.power.phase = .run) (hstrap : s.pair.strapB = strapB)
    (hrecords : (s.nv.records.filter fun r => r.2.1) = []) : Started strapB s.startupWrites := by
  unfold State.startupWrites
  rw [hrecords]
  exact ⟨hphase, hstrap, rfl⟩

theorem records_congr {m n : Nv} (h : m.otp = n.otp) : m.records = n.records := by
  unfold Nv.records Nv.otpInUse
  rw [h]

theorem State.start_started {f : BootFacts} (hslot : f.slotReadable = true) (hrecords : (s.nv.records.filter fun r => r.2.1) = []) (cause : Nat) :
    Started f.strapB (s.start f cause) := by
  unfold State.start
  extract_lets _ cleared present sampledBase _ _ _ sampled otp fit table
  have hcleared : cleared.nv.otp = s.nv.otp := by
    unfold cleared
    split
    · rfl
    · rfl
  have hsampled : sampled.pair.strapB = f.strapB ∧ sampled.nv.otp = s.nv.otp := ⟨rfl, hcleared⟩
  have hotp : StartKept sampled otp := .trans (StartKept.send sampled _) (StartKept.loadOtp _)
  have hfit : StartKept otp fit := StartKept.fitRanks otp
  have htable : StartKept fit table := .ite (StartKept.findTable fit) (StartKept.raise fit _ _ _)
  have hchosen := StartKept.chooseImage table f.slotOk
  clear_value table
  generalize table.chooseImage f.slotOk = choice at hchosen ⊢
  obtain ⟨chosen, slot⟩ := choice
  dsimp -zeta only
  rw [hslot, if_neg (by simp)]
  extract_lets rewritten trims node recovered _ _ running begun entered reset tested
  have hrecovered : StartKept chosen recovered :=
    .trans (.trans (StartKept.readTrims chosen) (StartKept.put _ _ _)) (StartKept.recoverJournal _)
  have hbefore := (((hotp.trans hfit).trans htable).trans hchosen).trans hrecovered
  have hbegun : StartKept running begun :=
    .trans (.trans (u := running.seekTick) .of_fields (StartKept.startPlls _ _)) (StartKept.startEntries _)
  have hentered : StartKept begun entered := .ite (StartKept.beaconAdd _ _ _ _ _) (.refl _)
  have hreset : StartKept entered reset := .ite (StartKept.raise _ _ _ _) (.ite (StartKept.raise _ _ _ _) (.refl _))
  have htested : StartKept reset tested := .trans (.trans (StartKept.bootUps _) (StartKept.send _ _)) (StartKept.selfTests _ _)
  have hafter := ((hbegun.trans hentered).trans hreset).trans (htested.trans (StartKept.beginTraining _ 1))
  have hrunning : running.power.phase = .run ∧ running.pair.strapB = f.strapB ∧ running.nv.otp = s.nv.otp :=
    ⟨rfl, hbefore.2.1.trans hsampled.1, hbefore.2.2.trans hsampled.2⟩
  refine Started.startupWrites _ (hafter.1.trans hrunning.1) (hafter.2.1.trans hrunning.2.1) ?_
  rw [records_congr (hafter.2.2.trans hrunning.2.2)]
  exact hrecords

end

/-- Settles O22. -/
theorem startUpFaultsAndEntriesAreServed : Obligations.StartUpFaultsAndEntriesAreServed := by
  unfold Obligations.StartUpFaultsAndEntriesAreServed
  refine ⟨fun s t => ⟨fun f hwf hphase hpfail hslot hrecords => ?_, fun k b hserved hready hp hk htakes => ?_⟩,
    fun s t hserved => ⟨fun f hf hdue hover hp hcls hfn hcause => ?_, fun e rest rate hpresent hstaging hp hjob hsize => ?_,
      fun lo hi hd hp => ?_⟩⟩
  · rw [exec_coldStart]
    refine answers_actIf hwf ?_
    have hrun : (s.begin t).coldStart f = (s.begin t).start f ((s.begin t).power.nextCause.getD f.cause) := by
      unfold State.coldStart
      rw [State.begin_power, hpfail, if_neg Bool.false_ne_true, hphase]
    obtain ⟨hrunning, hstrap, hpaused⟩ := State.start_started (s.begin t) hslot hrecords ((s.begin t).power.nextCause.getD f.cause)
    rw [← hrun] at hrunning hstrap hpaused
    refine ⟨?_, ?_, ?_, ?_⟩
    · rw [State.finish_power]
      exact hrunning
    · rw [State.served, State.finish_power, hrunning]
    · rw [State.finish_pair]
      exact hstrap
    · rw [State.finish_cal]
      exact hpaused
  · rw [exec_startupWritesResume]
    refine ⟨_, act_eq t s _, ?_⟩
    obtain ⟨hdom, hpaused⟩ := State.resumeWrites_held (s := s.begin t) hserved hready hp hk htakes
    refine ⟨?_, ?_⟩
    · rw [State.dom_finish]
      exact hdom
    · rw [State.finish_cal]
      exact hpaused
  · rw [exec_faultHandlingSlot]
    refine ⟨_, act_eq t s _, ?_⟩
    obtain ⟨hqueue, hhistory⟩ := State.handleFault_handled (s := s.begin t) hf hdue hover hp hcls hfn hcause
    have hrun : (if (s.begin t).served = true then (s.begin t).handleFault else s.begin t) = (s.begin t).handleFault := if_pos hserved
    refine ⟨?_, ?_⟩
    · rw [State.finish_faults, hrun]
      exact hqueue
    · rw [State.get_finish _ _ _ (by decide) (by decide), hrun]
      exact hhistory
  · rw [exec_beaconEntryWrite]
    refine ⟨_, act_eq t s _, ?_⟩
    beta_reduce
    rw [State.finish_nv, State.finish_beacon, State.writePending_eq (s := s.begin t) hserved hpresent hstaging hp hjob hsize]
    exact State.writeEntry_kept (s.begin t) e
  · rw [exec_recoveryEntry]
    refine ⟨_, act_eq t s _, ?_⟩
    have hrun : (if (s.begin t).served = true then (s.begin t).queueRecovery else s.begin t) = (s.begin t).queueRecovery := if_pos hserved
    beta_reduce
    rw [State.finish_beacon, hrun]
    exact State.queueRecovery_entry (s := s.begin t) hd hp

end Sys2Proof.Machine
end

section
set_option Elab.async false
/-!
PROOFS. Rows, blocks and the accesses of clients and of the scrub to DRAM (R311 to R314, R316 to R319, R323; O46).
-/

namespace Sys2Proof.Machine

/-! ### Commands to rows (R316 to R318, R328) -/

/-- A rank without the care of its rows. -/
def Rank.sansRows (x : Rank) : Rank := { x with poweredDown := false, open_ := [], lastUse := 0, victims := [], predictor := [] }

/-- A channel without its LFSR and its retry buffer. -/
def Channel.sansRows (c : Channel) : Channel := { c with lfsr := none, retry := [] }

def Memory.sansRows (m : Memory) : Memory := { m with ranks := m.ranks.map Rank.sansRows, channels := m.channels.map Channel.sansRows }

/-- What commands leave alone: all but the rows' care, the retry buffers, and the count of neighbour refreshes. -/
abbrev RowsOnly (s u : State) : Prop := Keeps (fun s => { s with memory := s.memory.sansRows, regs := [] }) (fun k => k != 0x240015) s u

section

variable {s u : State}

theorem RowsOnly.rank (h : RowsOnly s u) (r : Nat) : (u.rank r).sansRows = (s.rank r).sansRows := by
  have hmap : u.memory.ranks.map Rank.sansRows = s.memory.ranks.map Rank.sansRows := congrArg (fun s : State => s.memory.ranks) h.1
  exact (nth_map Rank.sansRows u.memory.ranks r {}).symm.trans ((congrArg (fun l => nth l r (Rank.sansRows {})) hmap).trans
    (nth_map Rank.sansRows s.memory.ranks r {}))

theorem RowsOnly.channel (h : RowsOnly s u) (c : Nat) : (u.channel c).sansRows = (s.channel c).sansRows := by
  have hmap : u.memory.channels.map Channel.sansRows = s.memory.channels.map Channel.sansRows := congrArg (fun s : State => s.memory.channels) h.1
  exact (nth_map Channel.sansRows u.memory.channels c {}).symm.trans ((congrArg (fun l => nth l c (Channel.sansRows {})) hmap).trans
    (nth_map Channel.sansRows s.memory.channels c {}))

theorem RowsOnly.state (h : RowsOnly s u) (r : Nat) : (u.rank r).state = (s.rank r).state := (congrArg Rank.state (h.rank r) :)

theorem RowsOnly.marked (h : RowsOnly s u) (r : Nat) : (u.rank r).marked = (s.rank r).marked := (congrArg Rank.marked (h.rank r) :)

theorem RowsOnly.ranks_length (h : RowsOnly s u) : u.memory.ranks.length = s.memory.ranks.length := by
  simpa [Memory.sansRows] using congrArg (fun s : State => s.memory.ranks.length) h.1

theorem RowsOnly.channels_length (h : RowsOnly s u) : u.memory.channels.length = s.memory.channels.length := by
  simpa [Memory.sansRows] using congrArg (fun s : State => s.memory.channels.length) h.1

theorem RowsOnly.migration (h : RowsOnly s u) : u.memory.migration = s.memory.migration := (congrArg (fun s : State => s.memory.migration) h.1 :)

theorem RowsOnly.isPoison (h : RowsOnly s u) (r chunk block : Nat) : u.isPoison r chunk block = s.isPoison r chunk block := by
  have hpoison : u.memory.poison = s.memory.poison := (congrArg (fun s : State => s.memory.poison) h.1 :)
  have hvoids : u.memory.voids = s.memory.voids := (congrArg (fun s : State => s.memory.voids) h.1 :)
  unfold State.isPoison
  rw [hpoison, hvoids]

theorem RowsOnly.cachedChecks (h : RowsOnly s u) (r chunk block : Nat) : u.cachedChecks r chunk block = s.cachedChecks r chunk block := by
  have hchecks : (u.channel (r / 2)).checks = (s.channel (r / 2)).checks := (congrArg Channel.checks (h.channel (r / 2)) :)
  unfold State.cachedChecks
  rw [hchecks]

theorem RowsOnly.readWord (h : RowsOnly s u) (r chunk block : Nat) (symbols : List Nat) :
    u.readWord r chunk block symbols = s.readWord r chunk block symbols := by
  unfold State.readWord
  rw [h.cachedChecks, h.isPoison, h.marked]

theorem RowsOnly.copiesOf (h : RowsOnly s u) (p : Place) : u.copiesOf p = s.copiesOf p := by
  have hlift : u.lift = s.lift := (congrArg (fun s : State => s.lift) h.1 :)
  unfold State.copiesOf
  rw [hlift]

theorem RowsOnly.out (h : RowsOnly s u) : u.out = s.out := (congrArg (fun s : State => s.out) h.1 :)

variable (s)

theorem RowsOnly.setRank {r : Nat} {x : Rank} (h : x.sansRows = (s.rank r).sansRows) : RowsOnly s (s.setRank r x) := by
  refine .of_regs ?_ rfl
  show ({ s with memory := { s.memory with ranks := (setNth s.memory.ranks r x).map Rank.sansRows, channels := _ }, regs := [] } : State) = _
  rw [setNth_map_same Rank.sansRows s.memory.ranks r x {} h]
  rfl

theorem RowsOnly.setChannel {c : Nat} {x : Channel} (h : x.sansRows = (s.channel c).sansRows) : RowsOnly s (s.setChannel c x) := by
  refine .of_regs ?_ rfl
  show ({ s with memory := { s.memory with ranks := _, channels := (setNth s.memory.channels c x).map Channel.sansRows }, regs := [] } : State) = _
  rw [setNth_map_same Channel.sansRows s.memory.channels c x {} h]
  rfl

theorem RowsOnly.activate (r bank row : Nat) : RowsOnly s (s.activate r bank row) := by
  unfold State.activate
  extract_lets x _ stepped chosen near
  have hstepped : RowsOnly s stepped := RowsOnly.setChannel s rfl
  exact hstepped.trans (.trans (Keeps.bump (by decide) _ _) (RowsOnly.setRank _ rfl))

theorem RowsOnly.touchRow (r chunk block : Nat) (queued : Bool) : RowsOnly s (s.touchRow r chunk block queued) := by
  unfold State.touchRow
  generalize bankRow chunk block = place
  obtain ⟨b, row⟩ := place
  dsimp -zeta only
  extract_lets x was p p' hit rest touched
  have htouched : RowsOnly s touched := RowsOnly.setRank s rfl
  exact .ite htouched (htouched.trans (RowsOnly.activate _ _ _ _))

theorem RowsOnly.remember (r chunk block : Nat) (write : Bool) : RowsOnly s (s.remember r chunk block write) := RowsOnly.setChannel s rfl

theorem RowsOnly.command (r chunk block : Nat) (write queued : Bool) : RowsOnly s (s.command r chunk block write queued) :=
  .trans (RowsOnly.touchRow s _ _ _ _) (RowsOnly.remember _ _ _ _ _)

end

/-! ### A rank that is accessed is awake (R318) -/

theorem State.rank_setRank_self (s : State) {r : Nat} (h : r < s.memory.ranks.length) (x : Rank) : (s.setRank r x).rank r = x :=
  nth_setNth_self h x {}

theorem State.rank_setRank_ne (s : State) {r q : Nat} (h : q ≠ r) (x : Rank) : (s.setRank r x).rank q = s.rank q := nth_setNth_ne _ h x {}

theorem State.setRank_of_not_lt (s : State) {r : Nat} (h : ¬r < s.memory.ranks.length) (x : Rank) : (s.setRank r x).rank = s.rank := by
  have hset : setNth s.memory.ranks r x = s.memory.ranks := List.set_eq_of_length_le (Nat.le_of_not_lt h)
  funext q
  show nth (setNth s.memory.ranks r x) q {} = nth s.memory.ranks q {}
  rw [hset]

theorem State.channel_setChannel_self (s : State) {c : Nat} (h : c < s.memory.channels.length) (x : Channel) : (s.setChannel c x).channel c = x :=
  nth_setNth_self h x {}

section

variable {s : State} {r : Nat}

theorem State.awake_setRank {q : Nat} {x : Rank} (hr : r < s.memory.ranks.length) (hx : x.poweredDown = false)
    (h : r = q ∨ (s.rank r).poweredDown = false) : ((s.setRank q x).rank r).poweredDown = false := by
  by_cases hq : r = q
  · rw [← hq, State.rank_setRank_self s hr]
    exact hx
  · rw [State.rank_setRank_ne s hq]
    exact h.resolve_left hq

theorem State.awake_activate (hr : r < s.memory.ranks.length) (q bank row : Nat) (h : (s.rank r).poweredDown = false) :
    ((s.activate q bank row).rank r).poweredDown = false := by
  unfold State.activate
  extract_lets x _ stepped chosen near
  by_cases hq : r = q
  · subst hq
    exact State.awake_setRank (s := stepped.bump _ _) hr h (.inl rfl)
  · exact (congrArg Rank.poweredDown (State.rank_setRank_ne (stepped.bump _ _) hq _)).trans h

/-- A rank is awake after a command to it, and stays so after one to another. -/
theorem State.awake_command (hr : r < s.memory.ranks.length) {q : Nat} (h : r = q ∨ (s.rank r).poweredDown = false) (chunk block : Nat)
    (write queued : Bool) : ((s.command q chunk block write queued).rank r).poweredDown = false := by
  have htouched : ((s.touchRow q chunk block queued).rank r).poweredDown = false := by
    unfold State.touchRow
    generalize bankRow chunk block = place
    obtain ⟨b, row⟩ := place
    dsimp -zeta only
    extract_lets x was p p' hit rest touched
    have hawake : (touched.rank r).poweredDown = false := State.awake_setRank hr rfl h
    have hlen : r < touched.memory.ranks.length := (List.length_set ..).symm ▸ hr
    split
    · exact hawake
    · exact State.awake_activate hlen _ _ _ hawake
  exact htouched

/-- Commands to places wake their ranks. -/
theorem State.awake_commands (hr : r < s.memory.ranks.length) (block : Nat) (write queued : Bool) (l : List Place)
    (h : r ∈ l.map Place.rank ∨ (s.rank r).poweredDown = false) :
    ((l.foldl (fun (s : State) p => s.command p.rank p.chunk block write queued) s).rank r).poweredDown = false := by
  induction l generalizing s with
  | nil => exact h.resolve_left List.not_mem_nil
  | cons p l ih =>
    refine ih ((RowsOnly.command s _ _ _ _ _).ranks_length.symm ▸ hr) ?_
    by_cases hp : r = p.rank
    · exact .inr (State.awake_command hr (.inl hp) _ _ _ _)
    · refine h.imp (fun hmem => (List.mem_cons.mp hmem).resolve_left hp) fun hawake => State.awake_command hr (.inr hawake) _ _ _ _

end

end Sys2Proof.Machine
end

section
set_option Elab.async false
/-!
PROOFS. Blocks as they are written: check bytes in the cache, poison, and what else stays (R311, R312, R314; O46).
-/

namespace Sys2Proof.Machine

/-! ### What the writing of a block leaves alone -/

/-- A channel without its cached check bytes. -/
def Channel.sansChecks (c : Channel) : Channel := { c with checks := [] }

def Memory.sansBlocks (m : Memory) : Memory := { m with channels := m.channels.map Channel.sansChecks, poison := [], voids := [] }

/-- What the writing of blocks leaves alone: all but the cache of check bytes, the poison, and what was sent. -/
abbrev BlocksOnly (s u : State) : Prop := Keeps (fun s => { s with memory := s.memory.sansBlocks, out := [], regs := [] }) (fun _ => true) s u

section

variable {s u : State}

theorem BlocksOnly.rank (h : BlocksOnly s u) (r : Nat) : u.rank r = s.rank r := by
  have hranks : u.memory.ranks = s.memory.ranks := (congrArg (fun s : State => s.memory.ranks) h.1 :)
  unfold State.rank
  rw [hranks]

theorem BlocksOnly.ranks_length (h : BlocksOnly s u) : u.memory.ranks.length = s.memory.ranks.length :=
  (congrArg (fun s : State => s.memory.ranks.length) h.1 :)

variable (s)

theorem BlocksOnly.setChecks (c : Nat) (checks : List CheckBurst) : BlocksOnly s (s.setChannel c { s.channel c with checks }) := by
  refine .of_regs ?_ rfl
  show ({ s with memory := { s.memory with channels := (setNth s.memory.channels c _).map Channel.sansChecks, poison := [], voids := [] }, out := [], regs := [] } : State) = _
  rw [setNth_map_same Channel.sansChecks s.memory.channels c { s.channel c with checks } {} rfl]
  rfl

theorem BlocksOnly.cacheChecks (r chunk block : Nat) (checks : List Nat) : BlocksOnly s (s.cacheChecks r chunk block checks) := by
  unfold State.cacheChecks
  generalize checkPlace chunk block = place
  obtain ⟨b, q, i⟩ := place
  dsimp -zeta only
  extract_lets c same old new all cached
  have hcached : BlocksOnly s cached := BlocksOnly.setChecks s _ _
  exact hcached.trans (Keeps.foldl (fun s _ => Keeps.send s _) _ _)

theorem BlocksOnly.setPoison (r chunk block : Nat) (poison : Bool) : BlocksOnly s (s.setPoison r chunk block poison) := .of_regs rfl rfl

theorem BlocksOnly.writeBlock (r chunk block : Nat) (data : List Nat) (poison : Bool) : BlocksOnly s (s.writeBlock r chunk block data poison) :=
  .trans (.trans (Keeps.send s _) (BlocksOnly.cacheChecks _ _ _ _ _)) (BlocksOnly.setPoison _ _ _ _ _)

/-! ### The data that leave for the DRAM -/

theorem OutGrows.cacheChecks (r chunk block : Nat) (checks : List Nat) : OutGrows s (s.cacheChecks r chunk block checks) := by
  unfold State.cacheChecks
  generalize checkPlace chunk block = place
  obtain ⟨b, q, i⟩ := place
  dsimp -zeta only
  extract_lets c same old new all cached
  have hcached : OutGrows s cached := .of_out rfl
  exact List.IsPrefix.trans hcached (OutGrows.foldl (fun s _ => OutGrows.send s _) _ _)

theorem OutGrows.setPoison (r chunk block : Nat) (poison : Bool) : OutGrows s (s.setPoison r chunk block poison) := .of_out rfl

theorem OutGrows.writeBlock (r chunk block : Nat) (data : List Nat) (poison : Bool) : OutGrows s (s.writeBlock r chunk block data poison) := by
  unfold State.writeBlock
  extract_lets word
  exact (OutGrows.send s _).trans ((OutGrows.cacheChecks _ _ _ _ _).trans (OutGrows.setPoison _ _ _ _ _))

theorem State.writeBlock_out (r chunk block : Nat) (data : List Nat) (poison : Bool) :
    Out.dramWrite r chunk block data ∈ (s.writeBlock r chunk block data poison).out := by
  unfold State.writeBlock
  extract_lets word
  exact ((OutGrows.cacheChecks _ _ _ _ _).trans (OutGrows.setPoison _ _ _ _ _)).subset (List.mem_append_right _ (List.mem_singleton_self _))

/-! ### Poison (R314, R324) -/

variable {s}

/-- A block is written in each chunk that was lost there. -/
def writtenIn (r chunk block : Nat) (v : VoidChunk) : VoidChunk :=
  if v.place = ⟨r, chunk⟩ ∧ !v.rewritten.contains block then { v with rewritten := v.rewritten ++ [block] } else v

theorem writtenIn_place (r chunk block : Nat) (v : VoidChunk) : (writtenIn r chunk block v).place = v.place := by
  unfold writtenIn
  split
  · rfl
  · rfl

theorem mem_writtenIn {r chunk block b : Nat} {v : VoidChunk} (h : b ∈ v.rewritten) : b ∈ (writtenIn r chunk block v).rewritten := by
  unfold writtenIn
  split
  · exact List.mem_append_left _ h
  · exact h

theorem mem_writtenIn_self {r chunk block : Nat} {v : VoidChunk} (h : v.place = ⟨r, chunk⟩) : block ∈ (writtenIn r chunk block v).rewritten := by
  unfold writtenIn
  split
  · exact List.mem_append_right _ (List.mem_singleton_self _)
  · next hno => simpa [h] using hno

theorem isPoison_eq_false {r chunk block : Nat} : s.isPoison r chunk block = false
    ↔ (r, chunk, block) ∉ s.memory.poison ∧ ∀ v ∈ s.memory.voids, v.place = ⟨r, chunk⟩ → block ∈ v.rewritten := by
  simp [State.isPoison]

theorem State.isPoison_setPoison_self (r chunk block : Nat) : (s.setPoison r chunk block false).isPoison r chunk block = false := by
  refine isPoison_eq_false.mpr ⟨fun hmem => ?_, fun v hv hplace => ?_⟩
  · exact absurd (List.mem_filter.mp hmem).2 (by simp)
  · obtain ⟨x, -, rfl⟩ := List.mem_map.mp (List.mem_filter.mp hv).1
    exact mem_writtenIn_self ((writtenIn_place r chunk block x).symm.trans hplace)

theorem State.isPoison_setPoison {r chunk block : Nat} (h : s.isPoison r chunk block = false) (r' chunk' block' : Nat) :
    (s.setPoison r' chunk' block' false).isPoison r chunk block = false := by
  obtain ⟨hpoison, hvoids⟩ := isPoison_eq_false.mp h
  refine isPoison_eq_false.mpr ⟨fun hmem => hpoison (List.mem_filter.mp hmem).1, fun v hv hplace => ?_⟩
  obtain ⟨x, hx, rfl⟩ := List.mem_map.mp (List.mem_filter.mp hv).1
  exact mem_writtenIn (hvoids x hx ((writtenIn_place r' chunk' block' x).symm.trans hplace))

/-- The burst of a block with its check bytes updated, among those that the channel's cache held before. -/
def updatedBurst (c : Channel) (r chunk block : Nat) (checks : List Nat) : CheckBurst :=
  let (b, q, i) := checkPlace chunk block
  let old := ((c.checks.find? fun x => x.rank == r && x.bank == b && x.burst == q).map (·.symbols)).getD []
  { rank := r, bank := b, burst := q, symbols := old.filter (fun e => e.1 / 4 != i / 4) ++ checks.zipIdx.map fun p => (i + p.2, p.1) }

/-- The cached bursts with one updated: it is the newest. -/
def updatedBursts (c : Channel) (r chunk block : Nat) (checks : List Nat) : List CheckBurst :=
  let (b, q, _) := checkPlace chunk block
  c.checks.filter (fun x => !(x.rank == r && x.bank == b && x.burst == q)) ++ [updatedBurst c r chunk block checks]

/-- The channel with its cache after an update of 2,048 bursts at the most (R311). -/
def State.checksCached (s : State) (r chunk block : Nat) (checks : List Nat) : State :=
  let all := updatedBursts (s.channel (r / 2)) r chunk block checks
  s.setChannel (r / 2) { s.channel (r / 2) with checks := all.drop (all.length - 2048) }

theorem State.foldl_send_memory {α : Type} (o : State → α → Out) (l : List α) (s : State) :
    (l.foldl (fun s x => s.send (o s x)) s).memory = s.memory := by
  induction l generalizing s with
  | nil => rfl
  | cons x l ih => exact ih _

theorem State.cacheChecks_memory (s : State) (r chunk block : Nat) (checks : List Nat) :
    (s.cacheChecks r chunk block checks).memory = (s.checksCached r chunk block checks).memory :=
  State.foldl_send_memory (fun s (x : CheckBurst) => Out.dramChecks x.rank x.bank (dataRows (s.get 0x240001) + x.burst / 64) (x.burst % 64) x.symbols) _ _

theorem State.isPoison_congr {u : State} (hpoison : u.memory.poison = s.memory.poison) (hvoids : u.memory.voids = s.memory.voids)
    (r chunk block : Nat) : u.isPoison r chunk block = s.isPoison r chunk block := by
  unfold State.isPoison
  rw [hpoison, hvoids]

theorem State.isPoison_cacheChecks (s : State) (r chunk block : Nat) (checks : List Nat) (r' chunk' block' : Nat) :
    (s.cacheChecks r chunk block checks).isPoison r' chunk' block' = s.isPoison r' chunk' block' := by
  have hmemory := State.cacheChecks_memory s r chunk block checks
  exact State.isPoison_congr (congrArg Memory.poison hmemory) (congrArg Memory.voids hmemory) _ _ _

/-- A block that is written with data is not poisoned, and stays so while others are written. -/
theorem State.isPoison_writeBlock_self (s : State) (r chunk block : Nat) (data : List Nat) :
    (s.writeBlock r chunk block data false).isPoison r chunk block = false := State.isPoison_setPoison_self _ _ _

theorem State.isPoison_writeBlock {r chunk block : Nat} (h : s.isPoison r chunk block = false) (r' chunk' block' : Nat) (data : List Nat) :
    (s.writeBlock r' chunk' block' data false).isPoison r chunk block = false :=
  State.isPoison_setPoison ((State.isPoison_cacheChecks (s.send (.dramWrite r' chunk' block' data)) _ _ _ _ _ _ _).trans h) _ _ _

end

end Sys2Proof.Machine
end

section
set_option Elab.async false
/-!
PROOFS. Reads and writes of blocks by clients and by the scrub (R311, R313, R319, R323; O46).
-/

namespace Sys2Proof.Machine

section

variable {s : State} {r chunk block : Nat}

/-! ### Reads that are corrected (R313) -/

theorem rowsOfPlane_one {symbols : List Nat} (h : symbols.length = 36) : rowsOfPlane 36 (symbols.length / 36) symbols = [symbols] := by
  rw [h]
  show [symbols.take 36] = [symbols]
  rw [List.take_of_length_le (Nat.le_of_eq h)]

theorem State.readBlock_corrected {symbols : List Nat} (hlen : symbols.length = 36)
    (h : (s.readWord r chunk block symbols).1 = .corrected true) (client : Option DramClient) :
    s.readBlock client r chunk block symbols
      = (s.bump 0x24000C).writeBlock r chunk block ((s.readWord r chunk block symbols).2.take 32) false := by
  unfold State.readBlock
  rw [rowsOfPlane_one hlen]
  have hgood : (s.readWord r chunk block ([symbols].headD [])).1.good = true := congrArg ReadOutcome.good h
  dsimp only
  rw [if_pos hgood]
  unfold State.noteRead
  rw [List.headD_cons, h]

/-- A correction is counted, and the corrected block written back. -/
theorem RowsOnly.readBlock_corrected {u : State} (hu : RowsOnly s u) {symbols : List Nat} (hlen : symbols.length = 36)
    (h : (s.readWord r chunk block symbols).1 = .corrected true) (client : Option DramClient) :
    (u.readBlock client r chunk block symbols).get 0x24000C = (s.get 0x24000C + 1) % 2 ^ 32
      ∧ Out.dramWrite r chunk block ((s.readWord r chunk block symbols).2.take 32) ∈ (u.readBlock client r chunk block symbols).out := by
  have hread := hu.readWord r chunk block symbols
  rw [State.readBlock_corrected hlen (hread ▸ h) client, hread]
  refine ⟨?_, State.writeBlock_out _ _ _ _ _ _⟩
  rw [(BlocksOnly.writeBlock _ _ _ _ _ _).2 _ rfl, State.get_bump_32 _ (by decide +kernel), hu.2 0x24000C (by decide)]

/-! ### Which places an access reaches (R323, R327) -/

theorem State.targetOf_of_state (h : (s.rank r).state ≠ 4) : s.targetOf r = none := if_neg h

theorem State.serving_of_state (h : (s.rank r).state ≠ 4) (chunk : Nat) : s.serving r chunk = r := by
  unfold State.serving
  rw [State.targetOf_of_state h]

theorem State.targetOf_migration {m : Migration} (hstate : (s.rank r).state = 4) (hm : s.memory.migration = some m) (hr : m.source = r) :
    s.targetOf r = some m := by
  unfold State.targetOf
  rw [if_pos hstate, hm, Option.filter_some, if_pos (beq_iff_eq.mpr hr)]

theorem State.dramAccess_write {client : DramClient} {bytes : List Nat} {queued : Bool} (hstate : (s.rank r).state = 2 ∨ (s.rank r).state = 4)
    (hserved : s.served = true) (hchunk : chunk < chunksPerRank (s.get 0x240001)) :
    s.dramAccess client r chunk block ⟨some (0, bytes), queued⟩ [] = s.writeAccess r chunk block ⟨some (0, bytes), queued⟩ 0 bytes [] := by
  unfold State.dramAccess
  dsimp only
  rw [if_neg (by simp [hserved]; omega), if_neg (by omega)]

theorem State.dramAccess_read {client : DramClient} {queued : Bool} {symbols : List Nat} (hstate : (s.rank r).state = 2)
    (hserved : s.served = true) (hchunk : chunk < chunksPerRank (s.get 0x240001)) :
    s.dramAccess client r chunk block ⟨none, queued⟩ symbols
      = (s.command r chunk block false queued).readBlock (some client) r chunk block symbols := by
  unfold State.dramAccess
  dsimp only
  rw [if_neg (by simp [hserved]; omega), if_neg (by omega), State.serving_of_state (by omega)]

/-! ### Writes of whole blocks (R311, R314, R318) -/

/-- A block written at several places. -/
def State.writeBlocks (s : State) (l : List Place) (block : Nat) (data : List Nat) : State :=
  l.foldl (fun (s : State) p => s.writeBlock p.rank p.chunk block data false) s

theorem BlocksOnly.writeBlocks (s : State) (l : List Place) (block : Nat) (data : List Nat) : BlocksOnly s (s.writeBlocks l block data) :=
  Keeps.foldl (fun s _ => BlocksOnly.writeBlock s _ _ _ _ _) l s

theorem State.writeBlocks_cons (s : State) (p : Place) (l : List Place) (block : Nat) (data : List Nat) :
    s.writeBlocks (p :: l) block data = (s.writeBlock p.rank p.chunk block data false).writeBlocks l block data := List.foldl_cons ..

theorem State.writeBlocks_out {p : Place} {l : List Place} (hp : p ∈ l) (s : State) (block : Nat) (data : List Nat) :
    Out.dramWrite p.rank p.chunk block data ∈ (s.writeBlocks l block data).out := by
  induction l generalizing s with
  | nil => exact absurd hp List.not_mem_nil
  | cons q l ih =>
    rw [State.writeBlocks_cons]
    rcases List.mem_cons.mp hp with rfl | hp
    · have hrest : OutGrows (s.writeBlock p.rank p.chunk block data false) (State.writeBlocks (s.writeBlock p.rank p.chunk block data false) l block data) :=
        OutGrows.foldl (fun s _ => OutGrows.writeBlock s _ _ _ _ _) l _
      exact hrest.subset (State.writeBlock_out _ _ _ _ _ _)
    · exact ih hp _

theorem State.isPoison_writeBlocks {p : Place} {l : List Place} (s : State) (block : Nat) (data : List Nat)
    (hp : p ∈ l ∨ s.isPoison p.rank p.chunk block = false) : (s.writeBlocks l block data).isPoison p.rank p.chunk block = false := by
  induction l generalizing s with
  | nil => exact hp.resolve_left List.not_mem_nil
  | cons q l ih =>
    rw [State.writeBlocks_cons]
    refine ih _ ?_
    rcases hp with hp | hp
    · rcases List.mem_cons.mp hp with rfl | hp
      · exact .inr (State.isPoison_writeBlock_self _ _ _ _ _)
      · exact .inl hp
    · exact .inr (State.isPoison_writeBlock hp _ _ _ _)

/-- The commands of an access to several places. -/
def State.commands (s : State) (l : List Place) (block : Nat) (queued : Bool) : State :=
  l.foldl (fun (s : State) p => s.command p.rank p.chunk block true queued) s

theorem RowsOnly.commands (s : State) (l : List Place) (block : Nat) (queued : Bool) : RowsOnly s (s.commands l block queued) :=
  Keeps.foldl (fun s _ => RowsOnly.command s _ _ _ _ _) l s

theorem State.writeAccess_whole {bytes : List Nat} (hlen : bytes.length = 32) (queued : Bool) :
    s.writeAccess r chunk block ⟨some (0, bytes), queued⟩ 0 bytes []
      = (s.commands (s.writePlaces r chunk) block queued).writeBlocks (s.writePlaces r chunk) block bytes := by
  unfold State.writeAccess
  exact if_pos ⟨rfl, hlen⟩

/-- A write of a whole block at several places: it leaves for each, whose ranks are awake, and none is poisoned. -/
theorem State.written_whole (s : State) (l : List Place) (block : Nat) (queued : Bool) (bytes : List Nat) {p : Place} (hp : p ∈ l)
    (hr : p.rank < s.memory.ranks.length) :
    (((s.commands l block queued).writeBlocks l block bytes).rank p.rank).poweredDown = false
      ∧ ((s.commands l block queued).writeBlocks l block bytes).isPoison p.rank p.chunk block = false
      ∧ Out.dramWrite p.rank p.chunk block bytes ∈ ((s.commands l block queued).writeBlocks l block bytes).out := by
  refine ⟨?_, State.isPoison_writeBlocks _ _ _ (.inl hp), State.writeBlocks_out hp _ _ _⟩
  rw [(BlocksOnly.writeBlocks _ _ _ _).rank]
  exact State.awake_commands hr _ _ _ _ (.inl (List.mem_map_of_mem hp))

theorem State.get_written_whole (s : State) (l : List Place) (block : Nat) (queued : Bool) (bytes : List Nat) {k : Nat} (hk : k ≠ 0x240015) :
    ((s.commands l block queued).writeBlocks l block bytes).get k = s.get k := by
  rw [(BlocksOnly.writeBlocks _ _ _ _).2 k rfl, (RowsOnly.commands _ _ _ _).2 k (by simpa using hk)]

/-! ### The check bytes of a block just written (R311) -/

/-- A burst is the one that holds a block's check bytes. -/
def holdsChecks (r chunk block : Nat) (x : CheckBurst) : Bool :=
  x.rank == r && x.bank == (checkPlace chunk block).1 && x.burst == (checkPlace chunk block).2.1

theorem updatedBursts_eq (c : Channel) (r chunk block : Nat) (checks : List Nat) :
    updatedBursts c r chunk block checks = c.checks.filter (fun x => !holdsChecks r chunk block x) ++ [updatedBurst c r chunk block checks] := rfl

theorem find?_drop_newest {p : CheckBurst → Bool} {l : List CheckBurst} {x : CheckBurst} (hl : ∀ y ∈ l, p y = false) (hx : p x = true) {n : Nat}
    (hn : n ≤ l.length) : ((l ++ [x]).drop n).find? p = some x := by
  rw [List.drop_append_of_le_length hn, List.find?_append, List.find?_eq_none.mpr fun y hy => by simp [hl y (List.mem_of_mem_drop hy)]]
  simp [hx]

theorem find?_newest (c : Channel) (r chunk block : Nat) (checks : List Nat) :
    ((updatedBursts c r chunk block checks).drop ((updatedBursts c r chunk block checks).length - 2048)).find? (holdsChecks r chunk block)
      = some (updatedBurst c r chunk block checks) := by
  rw [updatedBursts_eq]
  refine find?_drop_newest (fun y hy => by simpa using (List.mem_filter.mp hy).2) ?_ (by simp)
  simp [holdsChecks, updatedBurst]

/-- The first check symbol of a block has a number divided by 4. -/
theorem checkPlace_aligned (chunk block : Nat) : (checkPlace chunk block).2.2 % 4 = 0 := by
  unfold checkPlace
  generalize bankRow chunk block = place
  obtain ⟨b, row⟩ := place
  simp

theorem lookup_filter_append {i j : Nat} (hj : j < 4) (hi : i % 4 = 0) (old new : List (Nat × Nat)) :
    lookup (i + j) (old.filter (fun e => e.1 / 4 != i / 4) ++ new) = lookup (i + j) new := by
  induction old with
  | nil => rfl
  | cons e old ih =>
    by_cases he : e.1 / 4 = i / 4
    · simpa [he] using ih
    · have hne : e.1 ≠ i + j := by omega
      simpa [he, lookup, hne] using ih

theorem filterMap_four {f : Nat → Option Nat} {a b c d : Nat} (h0 : f 0 = some a) (h1 : f 1 = some b) (h2 : f 2 = some c) (h3 : f 3 = some d) :
    [0, 1, 2, 3].filterMap f = [a, b, c, d] := by simp [h0, h1, h2, h3]

/-- The check bytes of a block that was just updated are read back from the cache. -/
theorem State.cachedChecks_checksCached {checks : List Nat} (hc : r / 2 < s.memory.channels.length) (hlen : checks.length = 4) :
    (s.checksCached r chunk block checks).cachedChecks r chunk block = some checks := by
  obtain ⟨a, b, c, d, rfl⟩ : ∃ a b c d, checks = [a, b, c, d] := by
    match checks, hlen with
    | [a, b, c, d], _ => exact ⟨a, b, c, d, rfl⟩
  have hi := checkPlace_aligned chunk block
  have hfind : (((s.checksCached r chunk block [a, b, c, d]).channel (r / 2)).checks.find? (holdsChecks r chunk block))
      = some (updatedBurst (s.channel (r / 2)) r chunk block [a, b, c, d]) := by
    have hnewest := find?_newest (s.channel (r / 2)) r chunk block [a, b, c, d]
    unfold State.checksCached
    dsimp only
    rw [State.channel_setChannel_self s hc]
    dsimp only
    exact hnewest
  have hsymbol : ∀ j < 4, lookup ((checkPlace chunk block).2.2 + j) (updatedBurst (s.channel (r / 2)) r chunk block [a, b, c, d]).symbols
      = lookup ((checkPlace chunk block).2.2 + j) ([a, b, c, d].zipIdx.map fun p => ((checkPlace chunk block).2.2 + p.2, p.1)) :=
    fun j hj => lookup_filter_append hj hi _ _
  show ((((s.checksCached r chunk block [a, b, c, d]).channel (r / 2)).checks.find? (holdsChecks r chunk block)).bind fun c =>
    let l := [0, 1, 2, 3].filterMap fun j => lookup ((checkPlace chunk block).2.2 + j) c.symbols
    if l.length = 4 then some l else none) = _
  rw [hfind]
  have hall : ([0, 1, 2, 3].filterMap fun j => lookup ((checkPlace chunk block).2.2 + j) (updatedBurst (s.channel (r / 2)) r chunk block [a, b, c, d]).symbols)
      = [a, b, c, d] :=
    filterMap_four ((hsymbol 0 (by omega)).trans (by simp [lookup])) ((hsymbol 1 (by omega)).trans (by simp [lookup]))
      ((hsymbol 2 (by omega)).trans (by simp [lookup])) ((hsymbol 3 (by omega)).trans (by simp [lookup]))
  dsimp only [Option.bind_some]
  rw [hall]
  rfl

end

end Sys2Proof.Machine
end

section
set_option Elab.async false
/-!
PROOFS. The patrol scrub, the migration's copies, and what placing chunks leaves alone (R319, R322, R323, R327, R345; O46).
-/

namespace Sys2Proof.Machine

/-! ### Placing chunks (R327, R345) -/

/-- A state that differs in Lift alone. -/
def LiftOnly (s u : State) : Prop := u = { s with lift := u.lift }

section

variable {s u w : State}

theorem LiftOnly.refl (s : State) : LiftOnly s s := rfl

theorem LiftOnly.trans (h : LiftOnly s u) (h' : LiftOnly u w) : LiftOnly s w := by
  unfold LiftOnly at *
  rw [h', h]

theorem LiftOnly.of_lift (s : State) (l : Lift) : LiftOnly s { s with lift := l } := rfl

theorem LiftOnly.field_of {α : Type} (h : LiftOnly s u) (field : State → α) (hf : ∀ (s : State) l, field { s with lift := l } = field s) :
    field u = field s := by
  rw [h, hf]

variable (s)

theorem LiftOnly.takeChunk (r : Nat) : LiftOnly s (s.takeChunk r).1 := by
  unfold State.takeChunk
  split
  · rfl
  · rfl

theorem LiftOnly.placeOff {avoid : List Nat} {p : State × Place} (h : s.placeOff avoid = some p) : LiftOnly s p.1 := by
  unfold State.placeOff at h
  obtain ⟨x, -, rfl⟩ := Option.map_eq_some_iff.mp h
  exact .trans (LiftOnly.of_lift s _) (LiftOnly.takeChunk _ _)

theorem LiftOnly.placeChunk {p : State × Place} (h : s.placeChunk = some p) : LiftOnly s p.1 := LiftOnly.placeOff s h

theorem LiftOnly.placeChunks (n : Nat) (on : List Place) {p : State × List Place} (h : placeChunks n on s = some p) : LiftOnly s p.1 := by
  induction n generalizing s on with
  | zero => cases h; rfl
  | succ n ih =>
    unfold Machine.placeChunks at h
    cases hplace : s.placeChunk with
    | none => rw [hplace] at h; cases h
    | some q =>
      rw [hplace] at h
      exact (LiftOnly.placeChunk s hplace).trans (ih _ _ h)

theorem LiftOnly.rebuildCopy (lost kept : Place) : LiftOnly s (s.rebuildCopy lost kept).1 := by
  unfold State.rebuildCopy
  extract_lets _ freed
  have hfreed : LiftOnly s freed := by
    unfold freed
    split
    · rfl
    · rfl
  clear_value freed
  cases hplace : freed.placeOff [lost.rank / 2, kept.rank / 2] with
  | none => exact hfreed
  | some p => exact hfreed.trans (LiftOnly.placeOff freed hplace)

theorem LiftOnly.rebuildCopies (bad : Place → Place → Bool) (l : List (Place × Place)) : LiftOnly s (rebuildCopies bad l s).1 := by
  induction l generalizing s with
  | nil => exact .refl s
  | cons p l ih =>
    obtain ⟨a, b⟩ := p
    unfold Machine.rebuildCopies
    split
    next u q hu =>
      have hone : LiftOnly s u := by
        split at hu
        · cases hu
          exact LiftOnly.rebuildCopy s a b
        · split at hu
          · cases hu
            exact LiftOnly.rebuildCopy s b a
          · cases hu
            exact .refl s
      exact hone.trans (ih u)

theorem LiftOnly.rebuildPrivileged (bad : Place → Place → Bool) : LiftOnly s (s.rebuildPrivileged bad) := by
  unfold State.rebuildPrivileged
  have hcopies := LiftOnly.rebuildCopies s bad s.lift.privileged
  generalize Machine.rebuildCopies bad s.lift.privileged s = p at hcopies ⊢
  obtain ⟨u, l⟩ := p
  exact LiftOnly.trans hcopies (LiftOnly.of_lift u _)

theorem LiftOnly.placeSecond (c : Nat) : LiftOnly s (s.placeSecond c).1 := by
  unfold State.placeSecond
  dsimp only
  split
  · exact LiftOnly.takeChunk s _
  · exact .refl s

theorem LiftOnly.placePrivileged (n : Nat) : LiftOnly s (s.placePrivileged n) := by
  induction n generalizing s with
  | zero => exact .refl s
  | succ n ih =>
    unfold State.placePrivileged
    split
    · exact .refl s
    next u a hplace =>
      have hsecond := LiftOnly.placeSecond u (a.rank / 2)
      generalize u.placeSecond (a.rank / 2) = q at hsecond ⊢
      obtain ⟨w, b⟩ := q
      exact (LiftOnly.placeChunk s hplace).trans (hsecond.trans ((LiftOnly.of_lift w _).trans (ih _)))

end

end Sys2Proof.Machine
end

section
set_option Elab.async false
/-!
PROOFS. Migration, polls, refresh and power-down of ranks (R315 to R318, R323; O46).
-/

namespace Sys2Proof.Machine

section

variable {s u : State} {r : Nat}

/-! ### Copying a chunk (R323) -/

/-- The commands of a chunk's copy, row by row. -/
def State.copyCommands (s : State) (m : Migration) : State :=
  (List.range 32).foldl (fun (s : State) i =>
    (s.command m.source m.chunk (64 * i) false false).command m.target m.chunk (64 * i) true false) s

theorem RowsOnly.copyCommands (s : State) (m : Migration) : RowsOnly s (s.copyCommands m) :=
  Keeps.foldl (fun s _ => .trans (RowsOnly.command s _ _ _ _ _) (RowsOnly.command _ _ _ _ _ _)) _ s

theorem State.copyPoison_migration (s : State) (m : Migration) : (s.copyPoison m).memory.migration = s.memory.migration := rfl

theorem State.copyChunk_nil {m : Migration} (hm : s.memory.migration = some m) (hfail : s.power.pfailHold = false) (hserved : s.served = true) :
    s.copyChunk [] = let s := (s.copyCommands m).copyPoison m
      if m.chunk + 1 < chunksPerRank (s.get 0x240001) then { s with memory := { s.memory with migration := some { m with chunk := m.chunk + 1 } } }
      else s.endMigration m := by
  have hcopied : ((s.copyCommands m).copyPoison m).memory.migration = some m := by
    rw [State.copyPoison_migration, (RowsOnly.copyCommands s m).migration, hm]
  unfold State.copyChunk
  rw [hm]
  dsimp -zeta only
  rw [hfail, hserved, if_neg (by decide)]
  extract_lets commanded copied
  have hcommanded : commanded = s.copyCommands m := rfl
  have hsame : copied = (s.copyCommands m).copyPoison m := hcommanded ▸ List.foldl_nil ..
  clear_value copied
  subst hsame
  rw [hcopied]

theorem State.copyPoison_get (s : State) (m : Migration) (k : Nat) : (s.copyPoison m).get k = s.get k := rfl

/-- What is poisoned, or lost, in the source's chunk is so in the target's (R323). -/
theorem State.isPoison_copyPoison {m : Migration} {block : Nat} (h : s.isPoison m.source m.chunk block = true) :
    (s.copyPoison m).isPoison m.target m.chunk block = true := by
  simp only [State.isPoison, Bool.or_eq_true, List.contains_iff_mem, List.any_eq_true] at h ⊢
  rcases h with h | ⟨v, hv, hlost⟩
  · exact .inl (List.mem_append_right _ (List.mem_map.mpr ⟨_, List.mem_filter.mpr ⟨h, by simp⟩, rfl⟩))
  · simp only [Bool.and_eq_true, beq_iff_eq] at hlost
    refine .inr ⟨{ v with place := ⟨m.target, m.chunk⟩ }, List.mem_append_right _ (List.mem_map.mpr ⟨v, List.mem_filter.mpr ⟨hv, ?_⟩, rfl⟩), ?_⟩
    · exact beq_iff_eq.mpr hlost.1
    · simpa using hlost.2

theorem State.addRepair_memory (s : State) (e : Bytes) : (s.addRepair e).memory = s.memory := by
  unfold State.addRepair State.storeTrims
  dsimp only
  split_ifs <;> rfl

theorem State.runQueue_of_none_queued (h : s.memory.queued = []) : s.runQueue = s := by
  unfold State.runQueue
  rw [h]
  unfold nextMigration
  rw [h]
  split <;> rfl

theorem State.clearRank_kept (s : State) (r : Nat) :
    (s.clearRank r).memory.ranks = s.memory.ranks ∧ (s.clearRank r).memory.queued = s.memory.queued := ⟨rfl, rfl⟩

theorem State.endMigration_ranks {m : Migration} (hqueued : s.memory.queued = []) (hne : m.source ≠ m.target)
    (hsource : m.source < s.memory.ranks.length) (htarget : m.target < s.memory.ranks.length) :
    (s.endMigration m).memory.migration = none ∧ ((s.endMigration m).rank m.source).state = 6 ∧ ((s.endMigration m).rank m.target).state = 2 := by
  unfold State.endMigration
  extract_lets taken moved _ ended
  have htaken : taken.memory.queued = [] ∧ (taken.rank m.source).state = 6 ∧ (taken.rank m.target).state = 2 := by
    have hlen : m.target < (s.rankState m.source 6).memory.ranks.length := (List.length_set ..).symm ▸ htarget
    refine ⟨hqueued, ?_, ?_⟩
    · exact (congrArg Rank.state ((State.rank_setRank_ne _ hne _).trans (State.rank_setRank_self s hsource _)) :)
    · exact (congrArg Rank.state (State.rank_setRank_self _ hlen _) :)
  have hmoved : moved.memory.ranks = taken.memory.ranks ∧ moved.memory.queued = taken.memory.queued := by
    obtain ⟨hranks, hqueue⟩ := State.clearRank_kept (taken.moveChunks m.source m.target (nth s.lift.tops m.source 0)) m.source
    exact ⟨hranks, hqueue⟩
  have hended : ended.memory.migration = none ∧ ended.memory.queued = [] ∧ (ended.rank m.source).state = 6 ∧ (ended.rank m.target).state = 2 := by
    have hranks : ended.memory.ranks = taken.memory.ranks := hmoved.1
    unfold State.rank at htaken ⊢
    rw [hranks]
    exact ⟨rfl, hmoved.2.trans htaken.1, htaken.2⟩
  clear_value ended
  have hparted : (ended.parted m.target).memory = ended.memory := (LiftOnly.rebuildPrivileged ended _).field_of State.memory fun _ _ => rfl
  have hmemory : ((ended.parted m.target).addRepair [1, BitVec.ofNat 8 m.source]).nextPlacement.memory = ended.memory :=
    (State.addRepair_memory _ _).trans hparted
  obtain ⟨hnone, hnil, hout, hin⟩ := hended
  rw [State.runQueue_of_none_queued ((congrArg Memory.queued hmemory).trans hnil)]
  unfold State.rank
  rw [hmemory]
  exact ⟨hnone, hout, hin⟩

/-! ### Polls, refresh and power-down (R315, R318) -/

theorem State.refreshed_of_state (hserved : s.served = true) (h : (s.rank r).state = 2) : s.refreshed r = true := by
  simp [State.refreshed, hserved, h]

theorem State.pollRank_polled (hr : r < s.memory.ranks.length) (hin : s.refreshed r = true) (mr4 oscillator : Nat) :
    ((s.pollRank r mr4 oscillator).rank r).mr4 = mr4 % 8 ∧ ((s.pollRank r mr4 oscillator).rank r).rate = refreshRate (mr4 % 8)
      ∧ (s.pollRank r mr4 oscillator).stands 2 7 r = (mr4 % 8 == 7) := by
  unfold State.pollRank
  extract_lets x m moved shift
  rw [hin, if_neg (by decide)]
  refine ⟨?_, ?_, State.stands_follow_self _ _ _ _ _⟩
  · rw [State.rank, (Reported.follow (fn := 2) (cause := 7) (by decide) _ _ r).field_of (field := fun s : State => s.memory) fun _ => rfl]
    exact (congrArg Rank.mr4 (State.rank_setRank_self s hr _) :)
  · rw [State.rank, (Reported.follow (fn := 2) (cause := 7) (by decide) _ _ r).field_of (field := fun s : State => s.memory) fun _ => rfl]
    exact (congrArg Rank.rate (State.rank_setRank_self s hr _) :)

theorem State.foldl_send_kept {α : Type} (o : α → Out) (l : List α) (s : State) : (l.foldl (fun s x => s.send (o x)) s).memory = s.memory :=
  State.foldl_send_memory (fun _ => o) l s

theorem State.mem_foldl_send {α : Type} (o : α → Out) {l : List α} {x : α} (hx : x ∈ l) (s : State) :
    o x ∈ (l.foldl (fun s x => s.send (o x)) s).out := by
  induction l generalizing s with
  | nil => exact absurd hx List.not_mem_nil
  | cons y l ih =>
    rcases List.mem_cons.mp hx with rfl | hx
    · exact (OutGrows.foldl (fun s x => OutGrows.send s (o x)) l (s.send (o x))).subset (List.mem_append_right _ (List.mem_singleton_self _))
    · exact ih hx _

/-- A refresh that is not postponed is sent, and what was postponed with it (R315). -/
theorem State.refreshRank_sent (hr : r < s.memory.ranks.length) (hin : s.refreshed r = true) {waiting : Bool}
    (hnow : ¬(waiting = true ∧ (s.rank r).postponed < 8)) :
    ((s.refreshRank r waiting).rank r).postponed = 0 ∧ Out.dram (r / 2) (r % 2) 0 ∈ (s.refreshRank r waiting).out := by
  unfold State.refreshRank
  extract_lets x reset sent
  have hreset : reset.rank r = { x with postponed := 0, open_ := [], poweredDown := false, lastUse := s.now, victims := [] } :=
    State.rank_setRank_self s hr _
  have hsent : sent.memory = reset.memory := State.foldl_send_kept (fun _ => Out.dram (r / 2) (r % 2) 0) _ reset
  have hout : Out.dram (r / 2) (r % 2) 0 ∈ sent.out :=
    State.mem_foldl_send (fun _ => Out.dram (r / 2) (r % 2) 0) (x := 0) (List.mem_range.mpr (Nat.succ_pos _)) reset
  rw [hin, if_neg (by decide), if_neg hnow]
  clear_value sent
  refine ⟨?_, (OutGrows.foldl (fun s _ => OutGrows.send s _) _ sent).subset hout⟩
  rw [State.rank, State.foldl_send_kept (fun v : Nat × Nat => Out.activate (r / 2) (r % 2) v.1 v.2), hsent]
  exact (congrArg Rank.postponed hreset :)

theorem State.refreshRank_postponed (hr : r < s.memory.ranks.length) (hin : s.refreshed r = true) (hfew : (s.rank r).postponed < 8) :
    ((s.refreshRank r true).rank r).postponed = (s.rank r).postponed + 1 := by
  unfold State.refreshRank
  dsimp only
  rw [hin, if_neg (by decide), if_pos ⟨rfl, hfew⟩]
  exact (congrArg Rank.postponed (State.rank_setRank_self s hr _) :)

theorem State.powerDown_asleep (hr : r < s.memory.ranks.length) (hin : s.refreshed r = true) (hidle : s.rankIdle r = true) :
    ((s.powerDown r).rank r).poweredDown = true ∧ ((s.powerDown r).rank r).open_ = [] := by
  unfold State.powerDown
  dsimp only
  rw [hin, hidle, if_neg (by decide), State.rank_setRank_self s hr]
  exact ⟨rfl, rfl⟩

end

end Sys2Proof.Machine
end

section
set_option Elab.async false
/-!
PROOFS. Training, centring and the scrub of on-chip SRAM (R320, R321, R331; O46).
-/

namespace Sys2Proof.Machine

/-! ### Training (R320) -/

/-- The channels are the same. -/
def ChannelsKept (s u : State) : Prop := u.memory.channels = s.memory.channels

section

variable {s u w : State}

theorem ChannelsKept.trans (h : ChannelsKept s u) (h' : ChannelsKept u w) : ChannelsKept s w := Eq.trans h' h

theorem ChannelsKept.of_memory (h : u.memory = s.memory) : ChannelsKept s u := congrArg Memory.channels h

theorem ChannelsKept.foldl {α : Type} {step : State → α → State} (h : ∀ s x, ChannelsKept s (step s x)) (l : List α) (s : State) :
    ChannelsKept s (l.foldl step s) := by
  induction l generalizing s with
  | nil => rfl
  | cons x l ih => exact (h s x).trans (ih _)

theorem ChannelsKept.channel (h : ChannelsKept s u) (c : Nat) : u.channel c = s.channel c := by
  unfold State.channel
  rw [h]

variable (s)

theorem ChannelsKept.setRank (r : Nat) (x : Rank) : ChannelsKept s (s.setRank r x) := rfl

theorem ChannelsKept.startLift : ChannelsKept s s.startLift := by
  unfold State.startLift
  dsimp only
  split
  · exact .of_memory ((LiftOnly.placePrivileged s _).field_of State.memory fun _ _ => rfl)
  · rfl

theorem ChannelsKept.spareIn (r : Nat) : ChannelsKept s (match s.spareFor r with | some t => s.rankState t 2 | none => s) := by
  split
  · rfl
  · rfl

theorem ChannelsKept.spareForLost (r : Nat) : ChannelsKept s (
    let s := s.setRank r { s.rank r with lost := false }
    match s.spareFor r with
    | some t => (s.rankState t 2).raise 2 0xC t
    | none => s) := by
  dsimp only
  split
  · exact .trans (u := (s.setRank r { s.rank r with lost := false }).rankState _ 2) rfl (.of_memory (State.raise_memory _ _ _ _))
  · rfl

theorem ChannelsKept.endTraining : ChannelsKept s s.endTraining := by
  unfold State.endTraining
  split
  · rfl
  · extract_lets spares chosen lost gone replaced told
    have hchosen : ChannelsKept s chosen := ChannelsKept.foldl (fun s r => ChannelsKept.setRank s r _) _ s
    have hreplaced : ChannelsKept chosen replaced := ChannelsKept.foldl (fun s r => ChannelsKept.spareIn s r) _ _
    have htold : ChannelsKept replaced told := ChannelsKept.foldl (fun s r => ChannelsKept.spareForLost s r) _ _
    have hall := (hchosen.trans hreplaced).trans htold
    clear_value told
    split
    · exact hall
    · exact hall

theorem ChannelsKept.finishTraining : ChannelsKept s s.endTraining.startLift := (ChannelsKept.endTraining s).trans (ChannelsKept.startLift _)

end

section

variable {s : State} {c : Nat}

/-- The channel's training is not over (R320). -/
theorem trains_of_open (hstage : nth s.stages 2 .off = .starting) (htrained : (s.channel c).trained = false) (hexcluded : (s.channel c).excluded = false) :
    (nth s.stages 2 .off != .starting || (s.channel c).trained || (s.channel c).excluded) = false := by
  rw [hstage, htrained, hexcluded]
  rfl

theorem State.trainChannel_trained (hc : c < s.memory.channels.length) (hstage : nth s.stages 2 .off = .starting)
    (htrained : (s.channel c).trained = false) (hexcluded : (s.channel c).excluded = false) {report : TrainingReport}
    (hfits : (s.fitted c).zipIdx.all (fun p => nth report.densities p.2 0 == s.get 0x240001) = true) :
    ((s.trainChannel c true report).channel c).trained = true
      ∧ ((s.trainChannel c true report).channel c).baseline = report.temperature % 65536 := by
  have hopen := trains_of_open hstage htrained hexcluded
  unfold State.trainChannel
  extract_lets x fits centred ready told
  have hfit : fits = true := hfits
  have hcentred : (centred.channel c).trained = true ∧ (centred.channel c).baseline = report.temperature % 65536 := by
    have hself : centred.channel c = { x with trained := true, baseline := report.temperature % 65536, temperature := report.temperature % 65536 } :=
      State.channel_setChannel_self (s.pllLocked .memory) hc _
    rw [hself]
    exact ⟨rfl, rfl⟩
  have hready : ChannelsKept centred ready := ChannelsKept.foldl (fun s r => by
    split
    · rfl
    · rfl) _ _
  have hdone : ChannelsKept ready ready.startLift.endTraining.startLift := (ChannelsKept.startLift ready).trans (ChannelsKept.finishTraining _)
  rw [if_neg (Bool.eq_false_iff.mp hopen), if_neg (by simp), if_pos hfit, (hready.trans hdone).channel]
  exact hcentred

theorem State.trainChannel_again (hc : c < s.memory.channels.length) (hstage : nth s.stages 2 .off = .starting)
    (htrained : (s.channel c).trained = false) (hexcluded : (s.channel c).excluded = false) (hfirst : (s.channel c).attempts = 0)
    (report : TrainingReport) :
    ((s.trainChannel c false report).channel c).attempts = 1 ∧ ((s.trainChannel c false report).channel c).trained = false := by
  have hopen := trains_of_open hstage htrained hexcluded
  unfold State.trainChannel
  dsimp only
  rw [if_neg (Bool.eq_false_iff.mp hopen), if_pos (by simp [hfirst]), State.channel_setChannel_self s hc]
  exact ⟨rfl, htrained⟩

theorem State.trainChannel_excluded (hc : c < s.memory.channels.length) (hstage : nth s.stages 2 .off = .starting)
    (htrained : (s.channel c).trained = false) (hexcluded : (s.channel c).excluded = false) (hsecond : (s.channel c).attempts ≠ 0)
    (report : TrainingReport) : ((s.trainChannel c false report).channel c).excluded = true := by
  have hopen := trains_of_open hstage htrained hexcluded
  unfold State.trainChannel
  extract_lets x fits centred ready out told gone
  have hout : (out.channel c).excluded = true := (congrArg Channel.excluded (State.channel_setChannel_self s hc _) :)
  have htold : ChannelsKept out told := .of_memory ((State.raise_memory _ 2 6 c).trans (State.addRepair_memory out _))
  have hgone : ChannelsKept told gone := ChannelsKept.foldl (fun s r => by
    split
    · rfl
    · rfl) _ _
  rw [if_neg (Bool.eq_false_iff.mp hopen), if_neg (by simp [x, hsecond]), if_neg (by simp [fits]),
    ((htold.trans hgone).trans (ChannelsKept.finishTraining gone)).channel]
  exact hout

/-! ### Centring (R321) -/

theorem State.centred_converged (hc : c < s.memory.channels.length) (temperature : Nat) :
    (s.centred c temperature true).channel c = { s.channel c with baseline := temperature, retryAt := none } :=
  State.channel_setChannel_self s hc _

theorem State.centred_failed (hc : c < s.memory.channels.length) (hfirst : (s.channel c).failures = []) (temperature : Nat) :
    (s.centred c temperature false).get 0x240013 = (s.get 0x240013 + 1) % 2 ^ 32
      ∧ ((s.centred c temperature false).channel c).retryAt = some (s.now + 1000000000) := by
  unfold State.centred
  dsimp only
  rw [if_neg Bool.false_ne_true, hfirst, if_neg (by simp)]
  refine ⟨State.get_bump_32 s (by decide +kernel), ?_⟩
  rw [State.channel_setChannel_self (s.bump 0x240013) hc]

/-- The temperature is kept; the centring follows where it has moved far enough (R321). -/
theorem State.driftRecentre_eq (hserved : s.served = true) (htrained : (s.channel c).trained = true) {temperature : Nat} (ht : temperature < 65536)
    (converged : Bool) : s.driftRecentre c temperature converged =
      if s.get 0x240009 * 256 ≤ (signed 16 temperature - signed 16 (s.channel c).baseline).natAbs ∧ (s.channel c).retryAt = none
      then (s.setChannel c { s.channel c with temperature := temperature }).centred c temperature converged
      else s.setChannel c { s.channel c with temperature := temperature } := by
  unfold State.driftRecentre
  dsimp only
  rw [htrained, hserved, if_neg (by decide), Nat.mod_eq_of_lt ht]
  rfl

theorem State.driftRecentre_temperature (hserved : s.served = true) (hc : c < s.memory.channels.length) (htrained : (s.channel c).trained = true)
    {temperature : Nat} (ht : temperature < 65536) : ((s.driftRecentre c temperature true).channel c).temperature = temperature := by
  rw [State.driftRecentre_eq hserved htrained ht]
  generalize hu : s.setChannel c { s.channel c with temperature := temperature } = u
  have hkept : u.channel c = { s.channel c with temperature := temperature } := by rw [← hu]; exact State.channel_setChannel_self s hc _
  have hlen : c < u.memory.channels.length := by rw [← hu]; exact (List.length_set ..).symm ▸ hc
  split
  · rw [State.centred_converged hlen, hkept]
  · rw [hkept]

theorem State.driftRecentre_moved (hserved : s.served = true) (htrained : (s.channel c).trained = true)
    {temperature : Nat} (ht : temperature < 65536) (hretry : (s.channel c).retryAt = none)
    (hmoved : s.get 0x240009 * 256 ≤ (signed 16 temperature - signed 16 (s.channel c).baseline).natAbs) (converged : Bool) :
    s.driftRecentre c temperature converged = (s.setChannel c { s.channel c with temperature := temperature }).centred c temperature converged := by
  rw [State.driftRecentre_eq hserved htrained ht, if_pos ⟨hmoved, hretry⟩]

theorem State.recentreAgain_due (hserved : s.served = true) {at_ : Nat} (hretry : (s.channel c).retryAt = some at_) (hdue : at_ ≤ s.now)
    (converged : Bool) : s.recentreAgain c converged = s.centred c (s.channel c).temperature converged := by
  unfold State.recentreAgain
  rw [hretry]
  dsimp only
  rw [hserved, if_pos (by simp [hdue])]

/-! ### The scrub of on-chip SRAM (R331, R332) -/

theorem State.damageFrame_memory (s : State) (p : Nat) : (s.damageFrame p).memory = s.memory := by
  unfold State.damageFrame
  dsimp only
  split <;> rfl

theorem State.damagePicture_memory (s : State) (k : Nat) : (s.damagePicture k).memory = s.memory := by
  unfold State.damagePicture
  dsimp only
  split <;> rfl

theorem State.loseSource_memory (s : State) (n : Nat) : (s.loseSource n).memory = s.memory := by
  unfold State.loseSource
  split <;> rfl

theorem State.unrefineMotion_memory (s : State) (n item : Nat) : (s.unrefineMotion n item).memory = s.memory := by
  unfold State.unrefineMotion
  dsimp only
  split <;> rfl

theorem State.sramPoison_memory (s : State) (pool m row : Nat) : (s.sramPoison pool m row).memory = s.memory := by
  unfold State.sramPoison
  dsimp only
  split
  · rfl
  · split
    · exact State.damageFrame_memory _ _
    · rfl
  · split
    · exact State.damagePicture_memory _ _
    · split
      · exact State.loseSource_memory _ _
      · rfl
  · split
    · rfl
    · split
      · exact State.unrefineMotion_memory _ _ _
      · rfl
  · exact State.raise_memory _ _ _ _
  · rfl

theorem State.repairRow_corrections (s : State) (m row : Nat) : (s.repairRow m row).memory.corrections = s.memory.corrections := by
  unfold State.repairRow
  dsimp only
  split
  · rw [State.raise_memory]
  · rw [State.raise_memory, State.addRepair_memory]
    rfl

theorem State.sramFinding_corrections {f : SramFinding} (hpool : f.pool < s.memory.corrections.length) :
    nth (s.sramFinding f).memory.corrections f.pool 0 = (nth s.memory.corrections f.pool 0 + f.corrections) % 2 ^ 32 := by
  unfold State.sramFinding
  extract_lets x keep counts kept _ counted total told
  have hcounted : nth counted.memory.corrections f.pool 0 = (nth s.memory.corrections f.pool 0 + f.corrections) % 2 ^ 32 := nth_setNth_self hpool _ _
  have htold : told.memory.corrections = counted.memory.corrections := by
    unfold told
    split
    · rw [State.sramPoison_memory, State.raise_memory]
      rfl
    · rfl
  rw [← hcounted, ← htold]
  split
  · rw [State.repairRow_corrections]
  · rfl

end

end Sys2Proof.Machine
end

section
set_option Elab.async false
/-!
PROOFS. What follows an uncorrectable block, and the count of uncorrectable reads (R324, R325, R329, R349; O46).
-/

namespace Sys2Proof.Machine

/-- The count of uncorrectable reads (0x2400.0D) is the same. -/
abbrev UncorrectedKept (s u : State) : Prop := Keeps (fun _ => State.reset) (fun k => k == 0x24000D) s u

section

variable {s u : State}

theorem LiftOnly.uncorrectedKept (h : LiftOnly s u) : UncorrectedKept s u := Keeps.of_regs rfl (h.field_of State.regs fun _ _ => rfl)

theorem UncorrectedKept.count (h : UncorrectedKept s u) : u.get 0x24000D = s.get 0x24000D := h.2 0x24000D rfl

variable (s)

theorem UncorrectedKept.put {k : Nat} (hk : k ≠ 0x24000D) (v : Nat) : UncorrectedKept s (s.put k v) := Keeps.put (by simpa using hk) s v

theorem UncorrectedKept.bump {k : Nat} (hk : k ≠ 0x24000D) (n : Nat) : UncorrectedKept s (s.bump k n) := Keeps.bump (by simpa using hk) s n

theorem UncorrectedKept.raiseCore (fn cause detail : Nat) (e : Effect) : UncorrectedKept s (s.raiseCore fn cause detail e) :=
  ⟨rfl, fun k hk => State.get_raiseCore s fn cause detail e (by rw [beq_iff_eq.mp hk]; decide)⟩

theorem UncorrectedKept.raise (fn cause detail : Nat) : UncorrectedKept s (s.raise fn cause detail) := UncorrectedKept.raiseCore s _ _ _ _

theorem UncorrectedKept.addRepair (e : Bytes) : UncorrectedKept s (s.addRepair e) := by
  refine .of_regs rfl ?_
  unfold State.addRepair State.storeTrims
  dsimp only
  split_ifs <;> rfl

/-! ### Poisoned data at their consumers (R329) -/

theorem UncorrectedKept.poisonTexels (n : Nat) (texels : List Nat) : UncorrectedKept s (s.poisonTexels n texels) := by
  unfold State.poisonTexels
  extract_lets x w blocks marked
  have hmarked : UncorrectedKept s marked := .of_regs rfl rfl
  exact .ite (hmarked.trans (UncorrectedKept.raise _ _ _ _)) hmarked

theorem UncorrectedKept.damageFrame (p : Nat) : UncorrectedKept s (s.damageFrame p) := by
  unfold State.damageFrame
  dsimp only
  split <;> exact .of_regs rfl rfl

theorem UncorrectedKept.damagePicture (k : Nat) : UncorrectedKept s (s.damagePicture k) := by
  unfold State.damagePicture
  dsimp only
  split <;> exact .of_regs rfl rfl

theorem UncorrectedKept.loseSource (n : Nat) : UncorrectedKept s (s.loseSource n) := by
  unfold State.loseSource
  split <;> exact .of_regs rfl rfl

theorem UncorrectedKept.underrun (k line pixel : Nat) : UncorrectedKept s (s.underrun k line pixel) :=
  .ite (.trans (UncorrectedKept.bump s (k := flatK k 0x10) (by unfold flatK keyOf; omega) 1) (.of_regs rfl rfl)) (.refl s)

theorem UncorrectedKept.replyStaged (w : Staged) (code : Nat) : UncorrectedKept s (s.replyStaged w code) := by
  have hreply : UncorrectedKept s (s.reply w.path w.id w.key code) := ⟨rfl, fun _ _ => State.get_reply _ _ _ _ _ _⟩
  unfold State.replyStaged
  split
  · exact .ite hreply (.refl s)
  · exact hreply

theorem UncorrectedKept.dropStaged (k : Nat) : UncorrectedKept s (
    let gone := s.ctl.staged.filter fun x => x.key == k
    let s := { s with ctl := { s.ctl with staged := s.ctl.staged.filter fun x => x.key != k } }
    gone.foldl (fun s x => s.replyStaged x 0x08000020) s) :=
  .trans (.of_regs rfl rfl) (Keeps.foldl (fun s x => UncorrectedKept.replyStaged s x _) _ _)

theorem UncorrectedKept.poisoned (client : DramClient) : UncorrectedKept s (s.poisoned client) := by
  have hcounted : UncorrectedKept s (s.bump 0x24000E) := UncorrectedKept.bump s (by decide) 1
  refine hcounted.trans ?_
  unfold State.poisoned
  generalize s.bump 0x24000E = u
  cases client with
  | rinkboardMirror | beaconStaging | liftMap | other => exact .refl u
  | geometryBlock _ => exact .refl u
  | carverVideo n texels => exact .of_regs rfl rfl
  | carverDepth n texels => exact .of_regs rfl rfl
  | carverGraphic n texels => exact UncorrectedKept.poisonTexels u n texels
  | rayMapEntry lens => exact .ite (.refl u) (.of_regs rfl rfl)
  | gainMap b => exact .of_regs rfl rfl
  | stressCounter b c => exact .of_regs rfl rfl
  | stressLevel b c => exact .of_regs rfl rfl
  | expectedChecksum t => exact .of_regs rfl rfl
  | decoder k => exact UncorrectedKept.damagePicture u k
  | encoder n => exact UncorrectedKept.loseSource u n
  | cameraRaw p => exact UncorrectedKept.damageFrame u p
  | ispOutput p => exact UncorrectedKept.damageFrame u p
  | flatOutput k line pixel => exact UncorrectedKept.underrun u k line pixel
  | domainStaging index sub => exact UncorrectedKept.dropStaged u (keyOf index sub)
  | firmware =>
    exact .trans (u := { u with faults := { u.faults with resetRequested := true } }) (.of_regs rfl rfl) (UncorrectedKept.raise _ _ _ _)

theorem UncorrectedKept.deliverPoison (client : Option DramClient) : UncorrectedKept s (s.deliverPoison client) := by
  cases client with
  | none => exact .refl s
  | some c => exact UncorrectedKept.poisoned s c

/-! ### Lost chunks (R347, R349) -/

theorem UncorrectedKept.showNothing (n : Nat) : UncorrectedKept s (s.showNothing n) := .of_regs rfl rfl

theorem UncorrectedKept.dropShown (kind : Nat) (lost lostDepth : Nat → Bool) : UncorrectedKept s (s.dropShown kind lost lostDepth) :=
  Keeps.foldl (fun s n => .ite (UncorrectedKept.showNothing s n) (.refl s)) _ s

theorem UncorrectedKept.losePrivileged (r : Nat) : UncorrectedKept s (s.losePrivileged r) :=
  .ite (.trans (LiftOnly.rebuildPrivileged s _).uncorrectedKept (UncorrectedKept.raise _ _ _ _)) (.refl s)

theorem UncorrectedKept.clearRank (r : Nat) : UncorrectedKept s (s.clearRank r) := .of_regs rfl rfl

theorem UncorrectedKept.nextPlacement : UncorrectedKept s s.nextPlacement := UncorrectedKept.put s (by decide) _

theorem UncorrectedKept.noteRendered (t : Nat) : UncorrectedKept s (s.noteRendered t) := .of_regs rfl rfl

theorem UncorrectedKept.takeBand (i : Nat) (b : Nat × Nat) : UncorrectedKept s (s.takeBand i b) := by
  unfold State.takeBand
  dsimp only
  exact .trans (.of_regs rfl rfl) (Keeps.foldl (fun s (x : Claim) => UncorrectedKept.noteRendered s x.tile) _ _)

theorem UncorrectedKept.bandAgain (i : Nat) (tiles : List Nat) : UncorrectedKept s (s.bandAgain i tiles) := by
  unfold State.bandAgain
  split
  · exact .refl s
  · refine .ite (.trans ?_ (UncorrectedKept.takeBand _ _ _)) (.refl s)
    exact .trans (u := s.setCarver i { s.carver i with band := none }) (.of_regs rfl rfl) (UncorrectedKept.bump _ (by decide) 1)

theorem UncorrectedKept.stereoAgain (k e : Nat) : UncorrectedKept s (s.stereoAgain k e) :=
  .trans (u := s.setStereo k _) (.of_regs rfl rfl) (UncorrectedKept.bump _ (by decide) 1)

theorem UncorrectedKept.motionAgain (n e : Nat) : UncorrectedKept s (s.motionAgain n e) :=
  .trans (u := s.setStream n _) (.of_regs rfl rfl) (UncorrectedKept.bump _ (by decide) 1)

theorem UncorrectedKept.setCam (p : Nat) (c : Cam) : UncorrectedKept s (s.setCam p c) := .of_regs rfl rfl

theorem UncorrectedKept.startProcessing (n : Nat) : UncorrectedKept s (startProcessing n s) := by
  induction n generalizing s with
  | zero => exact .refl s
  | succ n ih =>
    unfold Machine.startProcessing
    split
    · dsimp only
      split
      · refine .trans ?_ (ih _)
        exact .trans (.ite (UncorrectedKept.bump s (by decide) 1) (.refl s)) (UncorrectedKept.setCam _ _ _)
      · exact .refl s
    · exact .refl s

/-- A surface's lost chunks are placed anew, where they fit (R324, R349). -/
def State.replaceLost (r : Nat) (s : State) (n : Nat) : State :=
  let x := s.surface n
  let kept := x.places.filter fun p => p.rank != r
  let lost := x.places.length - kept.length
  if lost = 0 then s
  else
    match placeChunks lost [] s with
    | some (s, on) =>
      let s : State := { s with memory := { s.memory with voids := s.memory.voids ++ on.map fun p => { place := p, rewritten := [] } } }
      (s.setSurface n { x with places := kept ++ on }).put (surfaceK n 5) 0
    | none => (s.setSurface n { x with places := kept }).put (surfaceK n 5) 0

theorem surfaceK_ne (n : Nat) : surfaceK n 5 ≠ 0x24000D := by
  unfold surfaceK keyOf
  omega

theorem UncorrectedKept.replaceLost (r n : Nat) : UncorrectedKept s (s.replaceLost r n) := by
  unfold State.replaceLost
  extract_lets x kept lost
  refine .ite (.refl s) ?_
  split
  next u on hplace =>
    have hplaced := (LiftOnly.placeChunks s lost [] hplace).uncorrectedKept
    refine hplaced.trans ?_
    dsimp only
    exact .trans (.of_regs rfl rfl) (UncorrectedKept.put _ (surfaceK_ne n) 0)
  · exact .trans (u := s.setSurface n { x with places := kept }) (.of_regs rfl rfl) (UncorrectedKept.put _ (surfaceK_ne n) 0)

/-- Items that lay on a lost rank are poisoned for their consumers. -/
theorem UncorrectedKept.treat (items : List Nat) (f : Nat → DramClient) : UncorrectedKept s (items.foldl (fun s i => s.poisoned (f i)) s) :=
  Keeps.foldl (fun s i => UncorrectedKept.poisoned s (f i)) items s

theorem UncorrectedKept.loseChunks (r : Nat) (copied : Nat → Nat → Bool) : UncorrectedKept s (s.loseChunks r copied) := by
  unfold State.loseChunks
  extract_lets hit reads tiles told replace replaced stays _ _ pruned cleared treat keys counters levels gains checks decoders encoders raws processing bands searches
  have htold : UncorrectedKept s told := UncorrectedKept.raise s _ _ _
  have hreplaced : UncorrectedKept told replaced := Keeps.foldl (fun s n => UncorrectedKept.replaceLost s r n) _ _
  clear_value replaced
  have hpruned : UncorrectedKept replaced pruned := .of_regs rfl rfl
  have hcleared : UncorrectedKept pruned cleared :=
    .trans (.trans (.trans (UncorrectedKept.dropShown pruned 2 _ _) (UncorrectedKept.dropShown _ 1 _ _)) (UncorrectedKept.losePrivileged _ r)) (UncorrectedKept.clearRank _ r)
  have htreat : ∀ kind items f u, UncorrectedKept u (treat kind items f u) := fun kind items f u => UncorrectedKept.treat u _ f
  have hitems : UncorrectedKept cleared encoders :=
    .trans (htreat 4 keys _ cleared) (.trans (htreat 5 keys _ counters) (.trans (htreat 6 _ _ levels) (.trans (htreat 7 _ _ gains)
      (.trans (htreat 8 _ _ checks) (htreat 9 _ _ decoders)))))
  have hraws : UncorrectedKept encoders raws := .trans (htreat 10 _ _ encoders) (UncorrectedKept.nextPlacement _)
  have hprocessing : UncorrectedKept raws processing := .trans (Keeps.foldl (fun s p => by
    split
    · exact .ite (UncorrectedKept.setCam s p _) (.refl s)
    · exact .refl s) _ _) (UncorrectedKept.startProcessing _ 8)
  have hbands : UncorrectedKept processing bands := Keeps.foldl (fun s i => UncorrectedKept.bandAgain s i tiles) _ _
  have hsearches : UncorrectedKept bands searches := Keeps.foldl (fun s k => .ite (UncorrectedKept.stereoAgain s k _) (.refl s)) _ _
  have hbefore := ((htold.trans hreplaced).trans (hpruned.trans hcleared)).trans (hitems.trans hraws)
  have hafter := (hprocessing.trans hbands).trans hsearches
  exact (hbefore.trans hafter).trans (Keeps.foldl (fun s n => .ite (UncorrectedKept.motionAgain s n _) (.refl s)) _ _)

/-! ### Ranks that are replaced or retired (R324, R325) -/

theorem UncorrectedKept.setRank (r : Nat) (x : Rank) : UncorrectedKept s (s.setRank r x) := .of_regs rfl rfl

theorem UncorrectedKept.retireRank (r : Nat) : UncorrectedKept s (s.retireRank r) := by
  unfold State.retireRank
  extract_lets _ out effect
  have hout : UncorrectedKept s out := UncorrectedKept.setRank s r _
  exact hout.trans (.trans (.trans (UncorrectedKept.addRepair _ _) (UncorrectedKept.loseChunks _ r _)) (UncorrectedKept.raiseCore _ _ _ _ _))

theorem UncorrectedKept.startMigration (r t : Nat) : UncorrectedKept s (s.startMigration r t) := by
  unfold State.startMigration
  extract_lets moving
  have hmoving : UncorrectedKept s moving := .trans (UncorrectedKept.setRank s r _) (UncorrectedKept.setRank _ t _)
  clear_value moving
  exact hmoving.trans (.trans (u := { moving with memory := { moving.memory with migration := some { source := r, target := t, chunk := 0 } } })
    (.of_regs rfl rfl) (UncorrectedKept.raise _ _ _ _))

theorem UncorrectedKept.contain (fn cause : Nat) (e : Effect) : UncorrectedKept s (s.contain fn cause e) := by
  cases e with
  | unchanged => exact .refl s
  | degraded => exact .ite (.refl s) (.of_regs rfl rfl)
  | failed => exact .of_regs rfl rfl

theorem UncorrectedKept.replaceRank (r kind : Nat) : UncorrectedKept s (s.replaceRank r kind) := by
  unfold State.replaceRank
  refine .ite (.refl s) (.ite (.ite (.refl s) (.of_regs rfl rfl)) ?_)
  split
  · exact UncorrectedKept.startMigration s _ _
  · exact .ite (UncorrectedKept.retireRank s r) (UncorrectedKept.contain s _ _ _)

theorem UncorrectedKept.nextMigration (n : Nat) : UncorrectedKept s (nextMigration n s) := by
  induction n generalizing s with
  | zero => exact .refl s
  | succ n ih =>
    unfold Machine.nextMigration
    refine .ite (.refl s) ?_
    split
    · exact .refl s
    next q rest _ =>
      exact .trans (.trans (u := { s with memory := { s.memory with queued := rest } }) (.of_regs rfl rfl) (UncorrectedKept.replaceRank _ _ _)) (ih _)

theorem UncorrectedKept.failTarget (m : Migration) : UncorrectedKept s (s.failTarget m) := by
  unfold State.failTarget
  extract_lets out cleared _ ended
  have hout : UncorrectedKept s out := .trans (UncorrectedKept.setRank s _ _) (UncorrectedKept.addRepair _ _)
  have hended : UncorrectedKept out ended := .trans (u := cleared) (.of_regs rfl rfl) (.of_regs rfl rfl)
  clear_value ended
  split
  · exact (hout.trans hended).trans (UncorrectedKept.startMigration _ _ _)
  · exact (hout.trans hended).trans (.trans (UncorrectedKept.retireRank _ _) (UncorrectedKept.nextMigration _ _))

theorem UncorrectedKept.badBlock (r : Nat) : UncorrectedKept s (s.badBlock r) := by
  unfold State.badBlock
  refine .trans (UncorrectedKept.raise s 2 1 r) ?_
  generalize s.raise 2 1 r = u
  dsimp only
  split
  · exact .ite (UncorrectedKept.failTarget u _) (.ite (.refl u) (UncorrectedKept.replaceRank u r 1))
  · exact UncorrectedKept.replaceRank u r 1

end

/-- An uncorrectable read outside the privileged regions is counted once (R313, R324, R329). -/
theorem State.readBlock_uncorrectable {s : State} {r chunk block : Nat} {symbols : List Nat} {client : DramClient} (hlen : symbols.length = 36)
    (h : (s.readWord r chunk block symbols).1 = .uncorrectable) (hplain : privileged client = false) (hcopies : s.copiesOf ⟨r, chunk⟩ = none) :
    (s.readBlock (some client) r chunk block symbols).get 0x24000D = (s.get 0x24000D + 1) % 2 ^ 32 := by
  have hread : s.readBlock (some client) r chunk block symbols = ((s.bump 0x24000D).badBlock r).deliverPoison (some client) := by
    have houtcome : (s.readWord r chunk block ([symbols].headD [])).1 = .uncorrectable := h
    unfold State.readBlock
    rw [rowsOfPlane_one hlen]
    dsimp only
    rw [if_neg (by rw [houtcome]; decide), if_neg (by rw [houtcome]; decide), if_neg (by simp [hplain, hcopies])]
  have hkept : UncorrectedKept (s.bump 0x24000D) (((s.bump 0x24000D).badBlock r).deliverPoison (some client)) :=
    .trans (UncorrectedKept.badBlock _ r) (UncorrectedKept.deliverPoison _ _)
  rw [hread, UncorrectedKept.count hkept, State.get_bump_32 s (by decide +kernel)]

end Sys2Proof.Machine
end

section
set_option Elab.async false
/-!
PROOFS. The patrol scrub (R319) and memory as a whole (R313, R315, R318 to R321, R323, R331; O46).
-/

namespace Sys2Proof.Machine

section

variable {s : State} {r chunk block : Nat}

/-! ### A block read back as it was written (R311, R319) -/

theorem State.cachedChecks_congr {u : State} (h : u.memory.channels = s.memory.channels) (r chunk block : Nat) :
    u.cachedChecks r chunk block = s.cachedChecks r chunk block := by
  unfold State.cachedChecks State.channel
  rw [h]

theorem length_drop_codeword {data : List Nat} (h : data.length = 32) : ((codeword data).drop 32).length = 4 := by
  simp [codeword, h]

theorem State.setPoison_channels (s : State) (r chunk block : Nat) (poison : Bool) :
    (s.setPoison r chunk block poison).memory.channels = s.memory.channels := rfl

theorem State.cachedChecks_writeBlock {data : List Nat} (hc : r / 2 < s.memory.channels.length) (hdata : data.length = 32) :
    (s.writeBlock r chunk block data false).cachedChecks r chunk block = some ((codeword data).drop 32) := by
  have hset : (s.writeBlock r chunk block data false).memory.channels
      = ((s.send (.dramWrite r chunk block data)).checksCached r chunk block ((codeword data).drop 32)).memory.channels := by
    unfold State.writeBlock
    dsimp only
    rw [State.setPoison_channels, State.cacheChecks_memory, if_neg Bool.false_ne_true]
  rw [State.cachedChecks_congr hset]
  exact State.cachedChecks_checksCached (s := s.send (.dramWrite r chunk block data)) hc (length_drop_codeword hdata)

theorem State.readWord_writeBlock {data : List Nat} (hc : r / 2 < s.memory.channels.length) (hdata : data.length = 32) (symbols : List Nat) :
    (s.writeBlock r chunk block data false).readWord r chunk block symbols
      = decodeWord (s.rank r).marked block (symbols.take 32 ++ (codeword data).drop 32) := by
  unfold State.readWord
  rw [State.cachedChecks_writeBlock hc hdata, State.isPoison_writeBlock_self, (BlocksOnly.writeBlock s _ _ _ _ _).rank]
  rfl

/-! ### What a good read of a spare leaves (R313) -/

theorem State.addRepair_out (s : State) (e : Bytes) : (s.addRepair e).out = s.out := by
  unfold State.addRepair State.storeTrims
  dsimp only
  split_ifs <;> rfl

theorem State.replaceRank_of_spare (hspare : (s.rank r).state ≠ 2) (kind : Nat) : s.replaceRank r kind = s := by
  unfold State.replaceRank
  rw [if_pos (by simpa using hspare)]

/-- A pin marked on a rank that is not in service replaces nothing. -/
theorem State.markPin_out (hspare : (s.rank r).state ≠ 2) (hidle : s.memory.migration = none) (p : Nat) : (s.markPin r p).out = s.out := by
  unfold State.markPin
  split
  · rfl
  · extract_lets _ marked told
    have hmarked : marked.memory.migration = none ∧ (marked.rank r).state ≠ 2 := by
      refine ⟨hidle, ?_⟩
      by_cases hr : r < s.memory.ranks.length
      · have hself := State.rank_setRank_self s hr { s.rank r with marked := (s.rank r).marked + 2 ^ p }
        rw [show marked.rank r = _ from hself]
        exact hspare
      · rw [show marked.rank = s.rank from State.setRank_of_not_lt s hr _]
        exact hspare
    have htold : told.memory = marked.memory := State.addRepair_memory _ _
    have hout : told.out = s.out := State.addRepair_out marked _
    clear_value told
    rw [htold, hmarked.1]
    dsimp only
    have hraised : ∀ detail e, ((told.raiseCore 2 4 detail e).rank r).state ≠ 2 := fun detail e => by
      rw [State.rank, State.raiseCore_memory, htold]
      exact hmarked.2
    rw [State.replaceRank_of_spare (hraised _ _), State.raiseCore_out, hout]

theorem State.notePin_out (hspare : (s.rank r).state ≠ 2) (hidle : s.memory.migration = none) (p blockNo : Nat) :
    (s.notePin r p blockNo).out = s.out := by
  unfold State.notePin
  extract_lets x keep all noted
  have hnoted : (noted.rank r).state ≠ 2 := by
    by_cases hr : r < s.memory.ranks.length
    · rw [show noted.rank r = _ from State.rank_setRank_self s hr { x with decodes := all }]
      exact hspare
    · rw [show noted.rank = s.rank from State.setRank_of_not_lt s hr _]
      exact hspare
  split
  · exact (State.markPin_out hnoted hidle p).trans rfl
  · rfl

theorem BlocksOnly.migration {u : State} (h : BlocksOnly s u) : u.memory.migration = s.memory.migration :=
  (congrArg (fun s : State => s.memory.migration) h.1 :)

theorem OutGrows.noteRead (hspare : (s.rank r).state ≠ 2) (hidle : s.memory.migration = none) (o : ReadOutcome × List Nat) :
    OutGrows s (s.noteRead r chunk block o) := by
  unfold State.noteRead
  split
  · exact OutGrows.writeBlock (s.bump 0x24000C) _ _ _ _ _
  next p _ =>
    have hwritten := BlocksOnly.writeBlock s r chunk block (o.2.take 32) false
    have hnoted := State.notePin_out (s := s.writeBlock r chunk block (o.2.take 32) false) (r := r) (by rw [hwritten.rank]; exact hspare)
      (hwritten.migration.trans hidle) p (chunk * 2048 + block)
    unfold OutGrows
    rw [hnoted]
    exact OutGrows.writeBlock s _ _ _ _ _
  · exact List.prefix_rfl

/-! ### The patrol scrub (R319) -/

/-- The pattern that the scrub writes to a block of a spare rank. -/
def sparePattern (r chunk block : Nat) : List Nat := (List.range 32).map fun i => Config.sparePattern r chunk block i % 256

theorem State.scrubSpare_scrubbed (hr : r < s.memory.ranks.length) (hc : r / 2 < s.memory.channels.length) (hstate : (s.rank r).state = 3)
    (hidle : s.memory.migration = none) (symbols : List Nat) :
    Out.dramWrite r chunk block (sparePattern r chunk block) ∈ (s.scrubSpare r chunk block symbols).out
      ∧ ((decodeWord (s.rank r).marked block (symbols.take 32 ++ (codeword (sparePattern r chunk block)).drop 32)).1.good = false
          ∨ (decodeWord (s.rank r).marked block (symbols.take 32 ++ (codeword (sparePattern r chunk block)).drop 32)).2.take 32 ≠ sparePattern r chunk block →
        ((s.scrubSpare r chunk block symbols).rank r).state = 6) := by
  unfold State.scrubSpare
  rw [← sparePattern]
  extract_lets pattern written read o
  have hcommand := RowsOnly.command s r chunk block true false
  have hwrite := BlocksOnly.writeBlock (s.command r chunk block true false) r chunk block pattern false
  have hread : RowsOnly written read := RowsOnly.command written r chunk block false false
  have ho : o = decodeWord (s.rank r).marked block (symbols.take 32 ++ (codeword (sparePattern r chunk block)).drop 32) := by
    refine (hread.readWord r chunk block symbols).trans ?_
    rw [← hcommand.marked r]
    exact State.readWord_writeBlock (s := s.command r chunk block true false) (hcommand.channels_length.symm ▸ hc) (by simp [pattern, sparePattern]) symbols
  have hout : Out.dramWrite r chunk block (sparePattern r chunk block) ∈ read.out := by
    rw [hread.out]
    exact State.writeBlock_out _ _ _ _ _ _
  have hstill : (read.rank r).state ≠ 2 := by
    rw [hread.state, hwrite.rank, hcommand.state, hstate]
    decide
  have hnone : read.memory.migration = none := hread.migration.trans (hwrite.migration.trans (hcommand.migration.trans hidle))
  have hlen : r < read.memory.ranks.length := by
    rw [hread.ranks_length, hwrite.ranks_length, hcommand.ranks_length]
    exact hr
  clear_value read o
  refine ⟨?_, fun hbad => ?_⟩
  · split
    · exact (OutGrows.noteRead hstill hnone o).subset hout
    · rw [State.raise, State.raiseCore_out, State.addRepair_out]
      exact hout
  · have hfails : ¬(o.1.good && List.take 32 o.2 == pattern) = true := by
      rw [ho]
      rcases hbad with hbad | hbad
      · simp [hbad]
      · simp [pattern, hbad]
    rw [if_neg hfails, State.rank, State.raise_memory, State.addRepair_memory]
    exact (congrArg Rank.state (State.rank_setRank_self read hlen _) :)

/-- A scrub that is due reads its block (R319). -/
theorem State.scrubRead_due (hidle : s.memory.migration = none) (hpower : s.get 0x211007 ≠ 2) (hserved : s.served = true)
    (hdue : s.scrubDue r chunk block = true) (symbols : List Nat) :
    s.scrubRead r chunk block symbols =
      let s := s.scrubOn r chunk block
      if (s.rank r).state = 3 then s.scrubSpare r chunk block symbols
      else
        let s := s.command r chunk block false false
        let o := s.readWord r chunk block (symbols.take 36)
        let s := if o.1 = .uncorrectable then { s with pair := { s.pair with scrubClean := false } } else s
        s.readBlock none r chunk block symbols := by
  unfold State.scrubRead
  rw [hidle, hserved, hdue, if_neg (by simpa using hpower)]

theorem State.readWord_scrubOn (s : State) (r chunk block : Nat) (symbols : List Nat) :
    (s.scrubOn r chunk block).readWord r chunk block symbols = s.readWord r chunk block symbols := rfl

theorem State.scrubRead_corrected {symbols : List Nat} (hlen : symbols.length = 36) (hidle : s.memory.migration = none) (hpower : s.get 0x211007 ≠ 2)
    (hserved : s.served = true) (hdue : s.scrubDue r chunk block = true) (hstate : (s.rank r).state = 2)
    (h : (s.readWord r chunk block symbols).1 = .corrected true) :
    (s.scrubRead r chunk block symbols).get 0x24000C = (s.get 0x24000C + 1) % 2 ^ 32
      ∧ Out.dramWrite r chunk block ((s.readWord r chunk block symbols).2.take 32) ∈ (s.scrubRead r chunk block symbols).out := by
  rw [State.scrubRead_due hidle hpower hserved hdue]
  extract_lets on commanded o _ asked
  have hcommand : RowsOnly on commanded := RowsOnly.command on r chunk block false false
  have hread : on.readWord r chunk block symbols = s.readWord r chunk block symbols := State.readWord_scrubOn s r chunk block symbols
  have hon : on.get 0x24000C = s.get 0x24000C ∧ (on.rank r).state = 2 := ⟨rfl, hstate⟩
  have ho : o = s.readWord r chunk block symbols := by
    have htake : symbols.take 36 = symbols := List.take_of_length_le (Nat.le_of_eq hlen)
    unfold o
    rw [htake, hcommand.readWord, hread]
  have hasked : asked = commanded := if_neg (by rw [ho, h]; decide)
  rw [if_neg (by rw [hon.2]; decide), hasked, ← hread, ← hon.1]
  exact RowsOnly.readBlock_corrected hcommand hlen (hread ▸ h) none

theorem State.scrubRead_spare (hr : r < s.memory.ranks.length) (hc : r / 2 < s.memory.channels.length) (hidle : s.memory.migration = none)
    (hpower : s.get 0x211007 ≠ 2) (hserved : s.served = true) (hdue : s.scrubDue r chunk block = true) (hstate : (s.rank r).state = 3)
    (symbols : List Nat) :
    Out.dramWrite r chunk block (sparePattern r chunk block) ∈ (s.scrubRead r chunk block symbols).out
      ∧ ((decodeWord (s.rank r).marked block (symbols.take 32 ++ (codeword (sparePattern r chunk block)).drop 32)).1.good = false
          ∨ (decodeWord (s.rank r).marked block (symbols.take 32 ++ (codeword (sparePattern r chunk block)).drop 32)).2.take 32 ≠ sparePattern r chunk block →
        ((s.scrubRead r chunk block symbols).rank r).state = 6) := by
  rw [State.scrubRead_due hidle hpower hserved hdue]
  have hon : ((s.scrubOn r chunk block).rank r).state = 3 := hstate
  dsimp only
  rw [if_pos hon]
  exact State.scrubSpare_scrubbed (s := s.scrubOn r chunk block) hr hc hstate hidle symbols

end

end Sys2Proof.Machine
end

section
set_option Elab.async false
/-!
PROOFS. Memory's commands as they end (R313, R315, R318 to R321, R323, R331; O46).
-/

namespace Sys2Proof.Machine

section

variable {s : State} {t r : Nat}

theorem State.finish_rank (s : State) (t : Nat) (f : State → State) (r : Nat) : (s.finish t f).rank r = (f (s.begin t)).rank r := by
  rw [State.rank, State.finish_memory, State.rank]

theorem State.finish_channel (s : State) (t : Nat) (f : State → State) (c : Nat) : (s.finish t f).channel c = (f (s.begin t)).channel c := by
  rw [State.channel, State.finish_memory, State.channel]

theorem State.finish_isPoison (s : State) (t : Nat) (f : State → State) (r chunk block : Nat) :
    (s.finish t f).isPoison r chunk block = (f (s.begin t)).isPoison r chunk block := by
  rw [State.isPoison, State.finish_memory, State.isPoison]

/-! ### Accesses (R313, R323) -/

section

variable {client : DramClient} {chunk block : Nat} {queued : Bool}

theorem access_corrected (hr : r < 32) (hserved : s.served = true) (hblock : block < 2048) (hchunk : chunk < chunksPerRank (s.get 0x240001))
    (hstate : (s.rank r).state = 2) {symbols : List Nat} (hlen : symbols.length = 36)
    (h : (s.readWord r chunk block symbols).1 = .corrected true) :
    Answers (exec (.dramAccess t client r chunk block ⟨none, queued⟩ symbols) s) fun s' =>
      s'.get 0x24000C = (s.get 0x24000C + 1) % 2 ^ 32 ∧ Out.dramWrite r chunk block ((s.readWord r chunk block symbols).2.take 32) ∈ s'.out := by
  rw [exec_dramAccess]
  refine answers_actIf (by simp [hr, hblock]) ?_
  have hrun := State.dramAccess_read (s := s.begin t) (client := client) (block := block) (queued := queued) (symbols := symbols) hstate hserved hchunk
  obtain ⟨hget, hout⟩ := (RowsOnly.command (s.begin t) r chunk block false queued).readBlock_corrected hlen h (some client)
  rw [← hrun] at hget hout
  exact ⟨(State.get_finish _ _ _ (by decide) (by decide)).trans hget, State.mem_finish_out hout⟩

theorem access_uncorrectable (hr : r < 32) (hserved : s.served = true) (hblock : block < 2048) (hchunk : chunk < chunksPerRank (s.get 0x240001))
    (hstate : (s.rank r).state = 2) {symbols : List Nat} (hlen : symbols.length = 36)
    (h : (s.readWord r chunk block symbols).1 = .uncorrectable) (hplain : privileged client = false) (hcopies : s.copiesOf ⟨r, chunk⟩ = none) :
    Answers (exec (.dramAccess t client r chunk block ⟨none, queued⟩ symbols) s) fun s' => s'.get 0x24000D = (s.get 0x24000D + 1) % 2 ^ 32 := by
  rw [exec_dramAccess]
  refine answers_actIf (by simp [hr, hblock]) ?_
  have hrun := State.dramAccess_read (s := s.begin t) (client := client) (block := block) (queued := queued) (symbols := symbols) hstate hserved hchunk
  have hcommand := RowsOnly.command (s.begin t) r chunk block false queued
  have hread := State.readBlock_uncorrectable hlen ((congrArg Prod.fst (hcommand.readWord r chunk block symbols)).trans h) hplain
    ((hcommand.copiesOf _).trans hcopies)
  rw [← hrun, hcommand.2 0x24000D (by decide)] at hread
  exact (State.get_finish _ _ _ (by decide) (by decide)).trans hread

theorem access_written (hr : r < 32) (hlt : r < s.memory.ranks.length) (hserved : s.served = true) (hblock : block < 2048)
    (hchunk : chunk < chunksPerRank (s.get 0x240001)) (hstate : (s.rank r).state = 2) {bytes : List Nat} (hlen : bytes.length = 32) :
    Answers (exec (.dramAccess t client r chunk block ⟨some (0, bytes), queued⟩ []) s) fun s' => (s'.rank r).poweredDown = false
      ∧ s'.get 0x24000C = s.get 0x24000C ∧ s'.get 0x24000D = s.get 0x24000D
      ∧ s'.isPoison r chunk block = false ∧ Out.dramWrite r chunk block bytes ∈ s'.out := by
  rw [exec_dramAccess]
  refine answers_actIf (by simp [hr, hblock]) ?_
  have hrun := (State.dramAccess_write (s := s.begin t) (client := client) (block := block) (bytes := bytes) (queued := queued)
    (.inl hstate) hserved hchunk).trans (State.writeAccess_whole hlen queued)
  obtain ⟨hawake, hclean, hout⟩ := State.written_whole (s.begin t) ((s.begin t).writePlaces r chunk) block queued bytes
    (p := ⟨r, chunk⟩) List.mem_cons_self hlt
  have hcorrected := State.get_written_whole (s.begin t) ((s.begin t).writePlaces r chunk) block queued bytes (k := 0x24000C) (by decide)
  have huncorrectable := State.get_written_whole (s.begin t) ((s.begin t).writePlaces r chunk) block queued bytes (k := 0x24000D) (by decide)
  rw [← hrun] at hawake hclean hout hcorrected huncorrectable
  refine ⟨?_, ?_, ?_, ?_, State.mem_finish_out hout⟩
  · rw [State.finish_rank]
    exact hawake
  · exact (State.get_finish _ _ _ (by decide) (by decide)).trans hcorrected
  · exact (State.get_finish _ _ _ (by decide) (by decide)).trans huncorrectable
  · rw [State.finish_isPoison]
    exact hclean

/-- A write to the source of a migration goes to both ranks (R323). -/
theorem access_migrating (hr : r < 32) (hlt : r < s.memory.ranks.length) (hserved : s.served = true) (hblock : block < 2048)
    (hchunk : chunk < chunksPerRank (s.get 0x240001)) (hstate : (s.rank r).state = 4) {m : Migration} (hm : s.memory.migration = some m)
    (hsource : m.source = r) (htarget : m.target < s.memory.ranks.length) {bytes : List Nat} (hlen : bytes.length = 32) :
    Answers (exec (.dramAccess t client r chunk block ⟨some (0, bytes), queued⟩ []) s) fun s' =>
      (s'.rank r).poweredDown = false ∧ (s'.rank m.target).poweredDown = false
        ∧ Out.dramWrite r chunk block bytes ∈ s'.out ∧ Out.dramWrite m.target chunk block bytes ∈ s'.out := by
  rw [exec_dramAccess]
  refine answers_actIf (by simp [hr, hblock]) ?_
  have hrun := (State.dramAccess_write (s := s.begin t) (client := client) (block := block) (bytes := bytes) (queued := queued)
    (.inr hstate) hserved hchunk).trans (State.writeAccess_whole hlen queued)
  have hplaces : ⟨m.target, chunk⟩ ∈ (s.begin t).writePlaces r chunk := by
    unfold State.writePlaces
    rw [State.targetOf_migration (s := s.begin t) hstate hm hsource]
    exact List.mem_cons_of_mem _ (List.mem_append_left _ (List.mem_singleton_self _))
  obtain ⟨hawake, -, hout⟩ := State.written_whole (s.begin t) ((s.begin t).writePlaces r chunk) block queued bytes
    (p := ⟨r, chunk⟩) List.mem_cons_self hlt
  obtain ⟨hawake', -, hout'⟩ := State.written_whole (s.begin t) ((s.begin t).writePlaces r chunk) block queued bytes hplaces htarget
  rw [← hrun] at hawake hawake' hout hout'
  refine ⟨?_, ?_, State.mem_finish_out hout, State.mem_finish_out hout'⟩
  · rw [State.finish_rank]
    exact hawake
  · rw [State.finish_rank]
    exact hawake'

end

/-! ### Migration (R323) -/

theorem RowsOnly.queued {u : State} (h : RowsOnly s u) : u.memory.queued = s.memory.queued :=
  (congrArg (fun s : State => s.memory.queued) h.1 :)

theorem State.copyPoison_kept (s : State) (m : Migration) :
    (s.copyPoison m).memory.queued = s.memory.queued ∧ (s.copyPoison m).memory.ranks = s.memory.ranks := ⟨rfl, rfl⟩

theorem migration_goes_on {m : Migration} (hserved : s.served = true) (hm : s.memory.migration = some m) (hfail : s.power.pfailHold = false)
    (hmore : m.chunk + 1 < chunksPerRank (s.get 0x240001)) :
    Answers (exec (.migrationChunkCopy ⟨t, []⟩) s) fun s' => s'.memory.migration = some { m with chunk := m.chunk + 1 }
      ∧ ∀ block, s.isPoison m.source m.chunk block = true → s'.isPoison m.target m.chunk block = true := by
  rw [exec_migrationChunkCopy]
  refine ⟨_, act_eq t s _, ?_⟩
  have hcommands := RowsOnly.copyCommands (s.begin t) m
  have hchunks : m.chunk + 1 < chunksPerRank ((((s.begin t).copyCommands m).copyPoison m).get 0x240001) := by
    rw [State.copyPoison_get, hcommands.2 0x240001 (by decide)]
    exact hmore
  have hrun := State.copyChunk_nil (s := s.begin t) hm hfail hserved
  dsimp only at hrun
  rw [if_pos hchunks] at hrun
  refine ⟨?_, fun block hpoison => ?_⟩
  · rw [State.finish_memory, hrun]
  · have hcopied := State.isPoison_copyPoison (s := (s.begin t).copyCommands m) (m := m) (block := block) ((hcommands.isPoison _ _ _).trans hpoison)
    rw [State.finish_isPoison, hrun]
    generalize ((s.begin t).copyCommands m).copyPoison m = u at hcopied ⊢
    exact hcopied

theorem migration_ends {m : Migration} (hserved : s.served = true) (hm : s.memory.migration = some m) (hfail : s.power.pfailHold = false)
    (hlast : m.chunk + 1 = chunksPerRank (s.get 0x240001)) (hqueued : s.memory.queued = []) (hne : m.source ≠ m.target)
    (hsource : m.source < s.memory.ranks.length) (htarget : m.target < s.memory.ranks.length) :
    Answers (exec (.migrationChunkCopy ⟨t, []⟩) s) fun s' => s'.memory.migration = none ∧ (s'.rank m.source).state = 6
      ∧ (s'.rank m.target).state = 2 := by
  rw [exec_migrationChunkCopy]
  refine ⟨_, act_eq t s _, ?_⟩
  have hcommands := RowsOnly.copyCommands (s.begin t) m
  have hchunks : ¬m.chunk + 1 < chunksPerRank ((((s.begin t).copyCommands m).copyPoison m).get 0x240001) := by
    rw [State.copyPoison_get, hcommands.2 0x240001 (by decide)]
    exact Nat.not_lt.mpr (Nat.le_of_eq hlast.symm)
  have hrun := State.copyChunk_nil (s := s.begin t) hm hfail hserved
  dsimp only at hrun
  rw [if_neg hchunks] at hrun
  obtain ⟨hkeptQueue, hkeptRanks⟩ := State.copyPoison_kept ((s.begin t).copyCommands m) m
  have hqueue := hkeptQueue.trans (hcommands.queued.trans hqueued)
  have hranks := (congrArg List.length hkeptRanks).trans hcommands.ranks_length
  obtain ⟨hnone, hout, hin⟩ := State.endMigration_ranks (s := ((s.begin t).copyCommands m).copyPoison m) (m := m) hqueue hne
    (hranks.symm ▸ hsource) (hranks.symm ▸ htarget)
  refine ⟨?_, ?_, ?_⟩
  · rw [State.finish_memory, hrun]
    exact hnone
  · rw [State.finish_rank, hrun]
    exact hout
  · rw [State.finish_rank, hrun]
    exact hin

/-! ### Ranks between accesses (R315, R318) -/

theorem poll_answers (hr : r < 32) (hlt : r < s.memory.ranks.length) (hserved : s.served = true) (hstate : (s.rank r).state = 2) (mr4 oscillator : Nat) :
    Answers (exec (.mr4Poll t r mr4 oscillator) s) fun s' => (s'.rank r).mr4 = mr4 % 8 ∧ (s'.rank r).rate = refreshRate (mr4 % 8)
      ∧ s'.stands 2 7 r = (mr4 % 8 == 7) := by
  rw [exec_mr4Poll]
  refine answers_actIf (decide_eq_true hr) ?_
  rw [State.finish_rank, State.stands_finish]
  exact State.pollRank_polled (s := s.begin t) hlt (State.refreshed_of_state hserved hstate) mr4 oscillator

theorem refresh_answers (hr : r < 32) (hlt : r < s.memory.ranks.length) (hserved : s.served = true) (hstate : (s.rank r).state = 2) {waiting : Bool}
    (hnow : ¬(waiting = true ∧ (s.rank r).postponed < 8)) :
    Answers (exec (.refresh t r waiting) s) fun s' => (s'.rank r).postponed = 0 ∧ Out.dram (r / 2) (r % 2) 0 ∈ s'.out := by
  rw [exec_refresh]
  refine answers_actIf (decide_eq_true hr) ?_
  obtain ⟨hpostponed, hout⟩ := State.refreshRank_sent (s := s.begin t) hlt (State.refreshed_of_state hserved hstate) hnow
  rw [State.finish_rank]
  exact ⟨hpostponed, State.mem_finish_out hout⟩

theorem refresh_postponed (hr : r < 32) (hlt : r < s.memory.ranks.length) (hserved : s.served = true) (hstate : (s.rank r).state = 2)
    (hfew : (s.rank r).postponed < 8) :
    Answers (exec (.refresh t r true) s) fun s' => (s'.rank r).postponed = (s.rank r).postponed + 1 := by
  rw [exec_refresh]
  refine answers_actIf (decide_eq_true hr) ?_
  rw [State.finish_rank]
  exact State.refreshRank_postponed (s := s.begin t) hlt (State.refreshed_of_state hserved hstate) hfew

theorem powerDown_answers (hr : r < 32) (hlt : r < s.memory.ranks.length) (hserved : s.served = true) (hstate : (s.rank r).state = 2)
    (hidle : (s.begin t).rankIdle r = true) :
    Answers (exec (.powerDownEntry t r) s) fun s' => (s'.rank r).poweredDown = true ∧ (s'.rank r).open_ = [] := by
  rw [exec_powerDownEntry]
  refine answers_actIf (decide_eq_true hr) ?_
  rw [State.finish_rank]
  exact State.powerDown_asleep (s := s.begin t) hlt (State.refreshed_of_state hserved hstate) hidle

/-! ### The scrub (R319) -/

theorem scrub_corrected {chunk block : Nat} {symbols : List Nat} (hr : r < 32) (hserved : s.served = true) (hblock : block < 2048)
    (hlen : symbols.length = 36) (hidle : s.memory.migration = none) (hpower : s.get 0x211007 ≠ 2) (hdue : (s.begin t).scrubDue r chunk block = true)
    (h : (s.readWord r chunk block symbols).1 = .corrected true) (hstate : (s.rank r).state = 2) :
    Answers (exec (.patrolScrub t r chunk block symbols) s) fun s' => s'.get 0x24000C = (s.get 0x24000C + 1) % 2 ^ 32
      ∧ Out.dramWrite r chunk block ((s.readWord r chunk block symbols).2.take 32) ∈ s'.out := by
  rw [exec_patrolScrub]
  refine answers_actIf (by simp [hr, hblock]) ?_
  obtain ⟨hget, hout⟩ := State.scrubRead_corrected (s := s.begin t) hlen hidle hpower hserved hdue hstate h
  exact ⟨(State.get_finish _ _ _ (by decide) (by decide)).trans hget, State.mem_finish_out hout⟩

theorem scrub_spare {chunk block : Nat} (symbols : List Nat) (hr : r < 32) (hlt : r < s.memory.ranks.length) (hserved : s.served = true) (hblock : block < 2048)
    (hidle : s.memory.migration = none) (hpower : s.get 0x211007 ≠ 2) (hdue : (s.begin t).scrubDue r chunk block = true)
    (hstate : (s.rank r).state = 3) (hc : r / 2 < s.memory.channels.length) :
    Answers (exec (.patrolScrub t r chunk block symbols) s) fun s' => Out.dramWrite r chunk block (sparePattern r chunk block) ∈ s'.out
      ∧ ((decodeWord (s.rank r).marked block (symbols.take 32 ++ (codeword (sparePattern r chunk block)).drop 32)).1.good = false
          ∨ (decodeWord (s.rank r).marked block (symbols.take 32 ++ (codeword (sparePattern r chunk block)).drop 32)).2.take 32 ≠ sparePattern r chunk block →
        (s'.rank r).state = 6) := by
  rw [exec_patrolScrub]
  refine answers_actIf (by simp [hr, hblock]) ?_
  obtain ⟨hout, hretired⟩ := State.scrubRead_spare (s := s.begin t) hlt hc hidle hpower hserved hdue hstate symbols
  rw [State.finish_rank]
  exact ⟨State.mem_finish_out hout, hretired⟩

end

/-- Settles O46. -/
theorem memoryIsKept : Obligations.MemoryIsKept := by
  unfold Obligations.MemoryIsKept
  intro s t r hr hlt hserved
  refine ⟨fun client chunk block symbols queued hblock hchunk hstate hlen => ⟨access_corrected hr hserved hblock hchunk hstate hlen,
      access_uncorrectable hr hserved hblock hchunk hstate hlen, fun bytes => access_written hr hlt hserved hblock hchunk hstate⟩,
    fun m client chunk block bytes queued hblock hchunk hstate hm hsource htarget hlen =>
      access_migrating hr hlt hserved hblock hchunk hstate hm hsource htarget hlen,
    fun m hm hfail => ⟨migration_goes_on hserved hm hfail, migration_ends hserved hm hfail⟩,
    fun mr4 oscillator hstate => poll_answers hr hlt hserved hstate mr4 oscillator,
    fun hstate => ⟨refresh_answers hr hlt hserved hstate (by simp), refresh_postponed hr hlt hserved hstate, fun hfull => ?_,
      powerDown_answers hr hlt hserved hstate⟩,
    fun chunk block symbols hblock hlen hidle hpower hdue => ⟨scrub_corrected hr hserved hblock hlen hidle hpower hdue,
      scrub_spare symbols hr hlt hserved hblock hidle hpower hdue⟩,
    fun c report hc hclt hstage htrained hexcluded => ⟨fun hfits => ?_, fun hfirst => ?_, fun hsecond => ?_⟩,
    fun c temperature hc hclt ht htrained => ⟨?_, fun hretry hmoved => ⟨?_, fun hfirst => ?_⟩⟩,
    fun c at_ hc hclt hretry hdue => ?_, fun f hok hpool => ?_⟩
  · exact (refresh_answers (t := t) hr hlt hserved hstate (by simp [hfull])).imp fun _ h => h.1
  · rw [exec_channelTraining]
    refine answers_actIf (decide_eq_true hc) ?_
    rw [State.finish_channel]
    exact State.trainChannel_trained (s := s.begin t) hclt hstage htrained hexcluded hfits
  · rw [exec_channelTraining]
    refine answers_actIf (decide_eq_true hc) ?_
    rw [State.finish_channel]
    exact State.trainChannel_again (s := s.begin t) hclt hstage htrained hexcluded hfirst report
  · rw [exec_channelTraining]
    refine answers_actIf (decide_eq_true hc) ?_
    rw [State.finish_channel]
    exact State.trainChannel_excluded (s := s.begin t) hclt hstage htrained hexcluded hsecond report
  · rw [exec_driftRecentre]
    refine answers_actIf (decide_eq_true hc) ?_
    rw [State.finish_channel]
    exact State.driftRecentre_temperature (s := s.begin t) hserved hclt htrained ht
  · rw [exec_driftRecentre]
    refine answers_actIf (decide_eq_true hc) ?_
    rw [State.finish_channel, State.driftRecentre_moved (s := s.begin t) hserved htrained ht hretry hmoved,
      State.centred_converged ((List.length_set ..).symm ▸ hclt)]
  · rw [exec_driftRecentre]
    refine answers_actIf (decide_eq_true hc) ?_
    have hrun := State.driftRecentre_moved (s := s.begin t) hserved htrained ht hretry hmoved false
    have hself := State.channel_setChannel_self (s.begin t) hclt { (s.begin t).channel c with temperature := temperature }
    obtain ⟨hcount, hagain⟩ := State.centred_failed (s := (s.begin t).setChannel c { (s.begin t).channel c with temperature := temperature })
      (c := c) ((List.length_set ..).symm ▸ hclt) ((congrArg Channel.failures hself).trans hfirst) temperature
    rw [State.get_finish _ _ _ (by decide) (by decide), State.finish_channel, hrun]
    exact ⟨hcount, hagain⟩
  · rw [exec_recentreRetry]
    refine answers_actIf (decide_eq_true hc) ?_
    rw [State.finish_channel, State.recentreAgain_due (s := s.begin t) hserved hretry hdue, State.centred_converged (s := s.begin t) hclt]
    exact ⟨rfl, rfl⟩
  · rw [exec_sramScrub]
    refine answers_actIf (by simp [hok]) ?_
    have hrun : (if (s.begin t).served = true then [f].foldl State.sramFinding (s.begin t) else s.begin t) = (s.begin t).sramFinding f := if_pos hserved
    rw [State.finish_memory, hrun]
    exact State.sramFinding_corrections (s := s.begin t) hpool

end Sys2Proof.Machine
end
